-- ==== Sys2Proof/Word.lean ====
section
/-! DEFINITION. Word.lean: the words of the module and their plainest arithmetic (R4: bit 0 is the least
significant bit, multi-byte fields are little-endian). -/

namespace Sys2Proof

abbrev Byte := BitVec 8
abbrev W16 := BitVec 16
abbrev W32 := BitVec 32

/-- Register contents and addresses, as wide as the widest register. -/
abbrev Word := BitVec 64

/-- Head h of R21. -/
abbrev Head := Fin 24
abbrev Arm := Fin 4
/-- Position of a head on its arm (R21). -/
abbrev Pos := Fin 6
/-- SCE[0..4]; SCE[4] runs the spindle. -/
abbrev Sce := Fin 5
/-- PCIe function: 0 physical, 1 to 511 virtual (Table 1-2). -/
abbrev Func := Fin 512
/-- Command tag (Table 1-2). -/
abbrev Tag := BitVec 17
abbrev Hart := Fin 8
/-- Event source, 0 to 319 (R392). -/
abbrev Source := Fin 320

def Head.arm (h : Head) : Arm := ⟨h.val / 6, by omega⟩
def Head.pos (h : Head) : Pos := ⟨h.val % 6, by omega⟩
/-- The head at position p of arm a (R21). -/
def headOf (a : Arm) (p : Pos) : Head := ⟨6 * a.val + p.val, by omega⟩

def b2n (b : Bool) : Nat := if b then 1 else 0

/-- Bits hi..lo of a number. -/
def bitsN (v lo w : Nat) : Nat := (v / 2 ^ lo) % 2 ^ w

/-- Bit i of a number. -/
def bitN (v i : Nat) : Bool := v.testBit i

/-- v with bit i set or cleared. -/
def setBitN (v i : Nat) (b : Bool) : Nat :=
  if v.testBit i = b then v else if b then v + 2 ^ i else v - 2 ^ i

/-- A word of width w read as a signed number. -/
def signedN (w v : Nat) : Int := if v % 2 ^ w < 2 ^ (w - 1) then (v % 2 ^ w : Nat) else (v % 2 ^ w : Nat) - (2 ^ w : Nat)

/-- A signed number as a word of width w (two's complement). -/
def wrapN (w : Nat) (x : Int) : Nat := (x % (2 ^ w : Nat)).toNat

end Sys2Proof
end

