-- ==== Sys2Proof/Operand.lean ====
section
/-! DEFINITION. Operand.lean: the shapes of what a command brings with it from outside the module
(a submission entry, a sampled wedge, a decoder's outcome, a memory answer). -/

namespace Sys2Proof

/-- What the 40 ms observe window saw (Table 4-6). Speeds in steps of 0.25 rpm. -/
inductive Observed where
  | forward (speed : Nat)
  | reverse (speed : Nat)
  | few
  | inconsistent
  deriving DecidableEq, Repr

/-- A supervised supply (R399, Table 5-5). -/
inductive Rail where
  | core
  | vbus
  | vpre
  deriving DecidableEq, Repr

/-- A bridge of the power die (R403). -/
inductive Bridge where
  | spindle (phase : Fin 3)
  | vcm (a : Arm)
  deriving DecidableEq, Repr

/-- How a fabric access was answered (R239, R427). -/
inductive Answer where
  | ok
  | error
  | poison
  deriving DecidableEq, Repr

/-- How the write-back at a chain's end was answered; timeout is no answer within 10 µs (R238). -/
inductive WriteBack where
  | ok
  | error
  | timeout
  deriving DecidableEq, Repr

/-- What the check words of a line said (R220, R221). -/
inductive Ecc where
  | clean
  | single
  | multi
  deriving DecidableEq, Repr

/-- A sector of a command's range that fails its ordinary read (R207, R208): its block from SLBA on, the step of Table 8-1 that
recovers it (5 for none), and how many 100 ms units have passed since the command's first failed frame at the end of steps
1, 2 and 3. -/
structure Retry where
  ofs : Nat
  step : Nat
  t1 : Nat := 0
  t2 : Nat := 0
  t3 : Nat := 0
  deriving DecidableEq, Repr

/-- A 64-byte submission entry as fetched (R253). -/
structure Sqe where
  opc : Byte
  flags : Byte := 0
  cid : W16
  nsid : W32
  cdw2 : W32 := 0
  cdw3 : W32 := 0
  mptr : Word := 0
  dptr0 : Word := 0
  dptr1 : Word := 0
  cdw10 : W32 := 0
  cdw11 : W32 := 0
  cdw12 : W32 := 0
  cdw13 : W32 := 0
  cdw14 : W32 := 0
  cdw15 : W32 := 0
  deriving DecidableEq, Repr

/-- A demodulated wedge before R106: the Gray code read, the wedge index read, the two null bursts correlated with their
reference fields and normalised to the reference amplitude, whether a mark was accepted, and whether the reference field
was low. -/
structure Wedge where
  gray : BitVec 22
  widx : BitVec 9
  n : Rat
  q : Rat
  sam : Bool
  lowamp : Bool
  deriving DecidableEq, Repr

/-- What one LDPC decode produced (R175): convergence, iterations, unsatisfied checks, and, when it
converged, the 4,128 descrambled information bytes; the SNR estimate of R161 with it. -/
structure Decode where
  conv : Bool
  iters : Nat
  unsat : Nat
  info : List Byte
  snr : W16
  deriving DecidableEq, Repr

/-- What a hart asks of memory (Table 13-1). -/
inductive Access where
  | load
  | store
  | amo
  | lr
  | sc
  | fetch
  deriving DecidableEq, Repr

/-- A parity failure met by an access or a walk (Table 13-2): data of the line in the L2 or in the hart's data cache, tag entries
of the line's set, data of the hart's instruction cache, or data of the dirty line that a miss evicts. -/
inductive Parity where
  | none
  | data (l1 : Bool)
  | tag (way : Fin 16) (more : List (Fin 16) := [])
  | icache
  | victim
  deriving DecidableEq, Repr

/-- A parity failure that a walk of the cache meets: the hart whose data cache it is in, if it is, and an address of the line or of
the set. -/
structure WalkError where
  hart : Fin 8 := 0
  addr : Nat
  p : Parity
  deriving DecidableEq, Repr

/-- What a hart runs that the opcode table gives no row: reads and writes of its control and status registers, FENCE.I, a return to
the mode it came from, and an instruction of an extension that R349 does not list. -/
inductive HartOp where
  | csrRead (n : BitVec 12)
  | csrWrite (n : BitVec 12) (v : Word)
  | fenceI
  | mret
  | foreign (insn : W32)
  deriving DecidableEq, Repr

/-- Instruction of the test access port (R413): IEEE 1149.1 boundary scan, IEEE 1149.6 AC scan, a core debug instruction, or
BYPASS. -/
inductive TapInstr where
  | bypass
  | boundary
  | acScan
  | debug
  deriving DecidableEq, Repr

/-- A port of the chain switch with a physical link. -/
inductive Port where
  | usp
  | edp
  deriving DecidableEq, Repr

/-- Where a TLP enters the switch: the link of a port, or the module's own endpoint (R340, R344). -/
inductive Ingress where
  | usp
  | edp
  | endpoint
  deriving DecidableEq, Repr

/-- A register of a port's configuration space by its PCI Express name. The spec leaves the layout to PCI Express Base 7.0 and
the identity partition (R323, R324), so a request names the register and no offset (PRESUMED, log 105). -/
inductive CfgReg where
  /-- A doubleword of the defaults that the identity partition gives. -/
  | identity (k : Fin 1024)
  | command
  | headerType
  | busNumbers
  | memWindow
  | prefWindow
  | prefBaseUpper
  | prefLimitUpper
  | bridgeControl
  | deviceControl
  | linkControl
  | linkControl2
  | linkStatus
  | slotStatus
  | acsControl
  | aerUncorrectable
  | aerCorrectable
  | dpcControl
  | dpcStatus
  /-- The vendor-specific capability, which mirrors PSW_CHAIN. -/
  | vendor
  deriving DecidableEq, Repr

inductive TlpKind where
  | memRead
  | memWrite
  | cfgRead (r : CfgReg)
  | cfgWrite (r : CfgReg) (v : W32)
  | completion
  /-- A message to the root complex from below, and to everything below from above. -/
  | message
  deriving DecidableEq, Repr

/-- A TLP as it reaches the switch (R340 to R345): the requester's ID, the address or the ID it is routed by, its payload in
bytes, and whether its flits passed their check. Poison and ECRC are part of it and go on with it. -/
structure Tlp where
  rx : Ingress
  kind : TlpKind
  req : W16
  addr : Word := 0
  dst : W16 := 0
  len : Nat := 0
  poison : Bool := false
  ecrc : Bool := false
  sound : Bool := true
  deriving DecidableEq, Repr

/-- A request that is answered by a completion. -/
def Tlp.nonPosted (t : Tlp) : Bool :=
  match t.kind with
  | .memRead | .cfgRead _ | .cfgWrite _ _ => true
  | .memWrite | .completion | .message => false

/-- A memory request at the buffer manager (R227). head 31 names no head (Table 1-2); chan is the DMA channel that issued
it, if one did. -/
structure BufReq where
  kind : BitVec 4
  func : BitVec 9
  head : BitVec 5
  drain : Bool
  poison : Bool
  write : Bool
  addr : Nat
  data : List Byte
  len : Nat
  ecc : Ecc
  block : Byte
  chan : Option (Fin 128) := none
  deriving DecidableEq, Repr

end Sys2Proof
end

