-- ==== Sys2Proof/Syntax.lean ====
section
/-! DEFINITION. Syntax.lean: the commands, one constructor per row of spec/opcode_table.json, with what each
brings from outside the module as its operands. The table gives no operand bits; log entry 2. -/

namespace Sys2Proof

inductive Instr where
  /-- POWER_ON_RESET (R32). -/
  | powerOnReset
  /-- POWER_ON_RELEASE (R399). -/
  | powerOnRelease (xsys : Bool := true)
  /-- SYSRST_N_ASSERT (R33); part: the partition the loader was reading, 0 where none. -/
  | sysrstNAssert (part : BitVec 4 := 0)
  /-- SYSRST_N_RELEASE (R35). -/
  | sysrstNRelease (xsys : Bool := true)
  /-- LOADER_RESTART_START (R409). -/
  | loaderRestartStart
  /-- RELEASE_STEP (R38); blkOk: the recorder's write of step 5 verified (R382). -/
  | releaseStep (blkOk : Bool := true)
  /-- RELEASE_STEP_COMPLETE (R38). -/
  | releaseStepComplete (eye : Word)
  /-- RELEASE_STEP_TIMEOUT (R38); part: the partition the loader was reading, 0 where none. -/
  | releaseStepTimeout (chan : Byte) (tstep : Byte) (part : BitVec 4 := 0)
  /-- LOAD_COPY_DONE (R66). -/
  | loadCopyDone
  /-- NOR_READ_TIMEOUT (R66). -/
  | norReadTimeout (part : BitVec 4)
  /-- RST_RUNOK_WRITE (R44). -/
  | rstRunokWrite (v : W32)
  /-- BOOT_WINDOW_EXPIRE (R45). -/
  | bootWindowExpire
  /-- WINDOW_RECORD_ACK_PULSE (R45). -/
  | windowRecordAckPulse
  /-- RST_OUT_PULSE (R53). -/
  | rstOutPulse (v : W32)
  /-- RSTOUT_PULSE_END (R54). -/
  | rstoutPulseEnd
  /-- RST_BLK_GO (R55). -/
  | rstBlkGo (v : W32)
  /-- SOFT_RESET_DONE (R56). -/
  | softResetDone
  /-- CALIBRATION_SET_WRITE (R73). -/
  | calibrationSetWrite (tag : Tag) (data : List Byte)
  /-- CALIBRATION_SET_READ (R74). -/
  | calibrationSetRead (tag : Tag)
  /-- NOR_WRITE_COMPLETE (R426). -/
  | norWriteComplete (ok : Bool) (bad : W32)
  /-- FIRMWARE_IMAGE_DOWNLOAD (R76). -/
  | firmwareImageDownload (tag : Tag) (data : List Byte)
  /-- FIRMWARE_COMMIT_CA_000B (R77). -/
  | firmwareCommitCa000b (tag : Tag)
  /-- FIRMWARE_COMMIT_CA_001B (R77). -/
  | firmwareCommitCa001b (tag : Tag)
  /-- FIRMWARE_COMMIT_CA_010B (R77). -/
  | firmwareCommitCa010b (tag : Tag)
  /-- FIRMWARE_COMMIT_CA_011B (R278). -/
  | firmwareCommitCa011b (tag : Tag)
  /-- FIRMWARE_COMMIT_CA_RESERVED (R77). -/
  | firmwareCommitCaReserved (tag : Tag)
  /-- ACTIVATION_DRAIN_DONE (R278). -/
  | activationDrainDone (ms : W16)
  /-- ACTIVATION_DRAIN_TIMEOUT (R278). -/
  | activationDrainTimeout
  /-- ZERO_CROSSING (R83). -/
  | zeroCrossing (interval : Nat) (angle : Fin 6)
  /-- LOCK_ENTERED (R90). -/
  | lockEntered
  /-- LOCK_LOST (R90). -/
  | lockLost
  /-- SPN_TGT_WRITE (R86). -/
  | spnTgtWrite (v : W16)
  /-- COGEN_WRITE (R85). -/
  | cogenWrite (en : Bool)
  /-- COG_TABLE_WRITE (R85). -/
  | cogTableWrite (w : Fin 48) (v : W32)
  /-- OBSERVE_END (R92). -/
  | observeEnd (o : Observed)
  /-- BRAKE_CONFIRMED (R92). -/
  | brakeConfirmed (ms : W32)
  /-- BRAKE_TIMEOUT (R92). -/
  | brakeTimeout
  /-- ALIGN_VECTOR_END (R92). -/
  | alignVectorEnd
  /-- HANDOVER (R92). -/
  | handover
  /-- START_ATTEMPT_FAIL (R92). -/
  | startAttemptFail
  /-- WINDING_SHORT_STOP (R89). -/
  | windingShortStop (ms : W32)
  /-- BUS_WATCH_ENTER (R94). -/
  | busWatchEnter (vmot : BitVec 12)
  /-- BUS_WATCH_RELEASE (R94). -/
  | busWatchRelease (vmot : BitVec 12)
  /-- OV1_ENGAGE (R94). -/
  | ov1Engage (vmot : BitVec 12)
  /-- OV1_RELEASE (R94). -/
  | ov1Release (vmot : BitVec 12)
  /-- CHOPPER_FAULT (R95). -/
  | chopperFault (high : Bool)
  /-- OV2_SHUTDOWN (R94). -/
  | ov2Shutdown (vmot : BitVec 12)
  /-- POWER_LOSS (R94). -/
  | powerLoss
  /-- ISOLATION_SWITCH_CLOSE (R401). -/
  | isolationSwitchClose
  /-- CLRCHOP (R95). -/
  | clrchop
  /-- CLROV (R96). -/
  | clrov
  /-- TAKE (R99). -/
  | take
  /-- RETRACT_PUSH (R100). -/
  | retractPush
  /-- RETRACT_DONE (R100). -/
  | retractDone (t0 t1 t2 t3 : W16)
  /-- LINK_SILENCE (R100). -/
  | linkSilence (us : W32) (xsys : Bool := true)
  /-- BRIDGE_OVERCURRENT (R403). -/
  | bridgeOvercurrent (b : Bridge) (value : W16)
  /-- MA_RAIL_OUT_OF_RANGE (R404). -/
  | maRailOutOfRange
  /-- SERVO_ADDRESS_MARK (R27). -/
  | servoAddressMark (h : Head) (widx : BitVec 9) (count : W16)
  /-- SAM_MISSING (R27). -/
  | samMissing (h : Head)
  /-- SAMPLE_RECORD (R107); same: the sample is valid at the same instant as the one recorded before it. -/
  | sampleRecord (h : Head) (w : Wedge) (same : Bool := false)
  /-- SAMPLE_SERVICE (R108). -/
  | sampleService (a : Arm)
  /-- SAMPLE_DEADLINE_MISS (R109). -/
  | sampleDeadlineMiss (e : Sce)
  /-- BANKSEL_SWAP (R118). -/
  | bankselSwap (e : Sce)
  /-- BANK_WRITE (R117). -/
  | bankWrite (e : Sce) (bankB : Bool) (w : Fin 128) (v : W32)
  /-- SCE_RUN_WRITE (R120). -/
  | sceRunWrite (a : Arm) (run : Bool)
  /-- LOAD (R120). -/
  | load (a : Arm)
  /-- UNLOAD (R120). -/
  | unload (a : Arm)
  /-- UNLOAD_PUSH_END (R120). -/
  | unloadPushEnd (a : Arm)
  /-- LOADTMO (R120). -/
  | loadtmo (a : Arm)
  /-- CTGT_WRITE (R121). -/
  | ctgtWrite (a : Arm) (v : W32)
  /-- SEEKTMO (R123). -/
  | seektmo (a : Arm)
  /-- SHOCK_EXCURSION (R126). -/
  | shockExcursion (inputB : Bool)
  /-- SHOCK_HOLD_EXPIRE (R126). -/
  | shockHoldExpire
  /-- SHOCK_SENSOR_UNSOUND (R126). -/
  | shockSensorUnsound (inputB : Bool)
  /-- REPORT_FRESH_EXPIRE (R126). -/
  | reportFreshExpire (a : Arm)
  /-- SUPPLY_WINDOW_EXIT (R399). -/
  | supplyWindowExit (rail : Rail)
  /-- SUPPLY_GOOD_RESTORE (R126). -/
  | supplyGoodRestore (rail : Rail)
  /-- CONTROLLER_DIE_OVERTEMP (R414). -/
  | controllerDieOvertemp
  /-- POWER_DIE_OVERTEMP (R414). -/
  | powerDieOvertemp (value : W16)
  /-- NEXT (R132). -/
  | next (h : Head)
  /-- JUMP (R132). -/
  | jump (h : Head)
  /-- CALL (R133). -/
  | call (h : Head)
  /-- RETURN (R133). -/
  | ret (h : Head)
  /-- LOOP (R132). -/
  | loop (h : Head)
  /-- WAIT (R135). -/
  | wait (h : Head)
  /-- WAIT_CONDITION_MET (R132). -/
  | waitConditionMet (h : Head)
  /-- WAITTMO (R135). -/
  | waittmo (h : Head)
  /-- TRET (R150). -/
  | tret (h : Head)
  /-- HALT (R154). -/
  | halt (h : Head)
  /-- ILLEGAL_SEQ (R132). -/
  | illegalSeq (h : Head)
  /-- SKIP_CHECK_DONE (R146). -/
  | skipCheckDone (h : Head)
  /-- TRAP_ENTRY (R149). -/
  | trapEntry (h : Head) (parity : Bool)
  /-- ATOM_OVERRUN (R151). -/
  | atomOverrun (h : Head)
  /-- HSE_RUN_START (R155). -/
  | hseRunStart (h : Head)
  /-- HSE_RUN_STOP (R154). -/
  | hseRunStop (h : Head)
  /-- DOORBELL_CMD (R147). -/
  | doorbellCmd (h : Head)
  /-- DOORBELL_ABORT (R147). -/
  | doorbellAbort (h : Head)
  /-- CQPTR_TAIL_WRITE (R144). -/
  | cqptrTailWrite (h : Head) (v : BitVec 4)
  /-- HSE_DONE_READ (R145). -/
  | hseDoneRead (h : Head)
  /-- HSE_STORE_WRITE (R156). -/
  | hseStoreWrite (h : Head) (ofs : W16) (v : W32)
  /-- DEFECT_TABLE_WRITE (R146). -/
  | defectTableWrite (h : Head) (w : Fin 1024) (v : W32)
  /-- SLOT_BOUNDARY (R142). -/
  | slotBoundary (h : Head)
  /-- KEEP_OUT_START (R139). -/
  | keepOutStart (h : Head)
  /-- KEEP_OUT_END (R180). -/
  | keepOutEnd (h : Head)
  /-- WRITE_FRAME_END (R201). -/
  | writeFrameEnd (h : Head)
  /-- WRITE_PERMIT_DROP (R25). -/
  | writePermitDrop (h : Head)
  /-- PREAMP_FAULT (R185). -/
  | preampFault (a : Arm)
  /-- SYNC_MARK_FOUND (R167). -/
  | syncMarkFound (h : Head) (bitPos : Nat) (dist : Nat)
  /-- SYNC_WINDOW_CLOSE (R168). -/
  | syncWindowClose (h : Head)
  /-- DECODE_DONE (R175). -/
  | decodeDone (h : Head) (d : Decode)
  /-- DECODE_BUDGET_EXPIRE (R171). -/
  | decodeBudgetExpire (h : Head) (unsat : Nat) (snr : W16)
  /-- CHAN_RDEC_GO (R179). -/
  | chanRdecGo (h : Head) (v : W32)
  /-- OFFLINE_DECODE_DONE (R179). -/
  | offlineDecodeDone (h : Head) (d : Decode)
  /-- CHAN_ENABLE (R174). -/
  | chanEnable (h : Head)
  /-- BASE_MATRIX_CHECK_DONE (R174). -/
  | baseMatrixCheckDone (h : Head)
  /-- CLRSTAT (R194). -/
  | clrstat (h : Head)
  /-- ZRATE_WRITE (R187). -/
  | zrateWrite (h : Head) (v : W16)
  /-- TIER_LEAVE (R90). -/
  | tierLeave
  /-- TIER_READY (R90). -/
  | tierReady
  /-- SYNTH_RELOCK_DONE (R187). -/
  | synthRelockDone (h : Head)
  /-- NOLOCK (R187). -/
  | nolock (h : Head)
  /-- HL_CMD_WRITE (R190). -/
  | hlCmdWrite (a : Arm) (v : W32)
  /-- HLINK_TRANSACTION_START (R190). -/
  | hlinkTransactionStart (a : Arm)
  /-- HLINK_TRANSACTION_DONE (R189). -/
  | hlinkTransactionDone (a : Arm) (status : Byte) (data : W16) (parityOk : Bool)
  /-- HL_RESP_READ (R425). -/
  | hlRespRead (a : Arm)
  /-- OPEN (R200). -/
  | oceOpen (ctx : BitVec 9) (count : BitVec 7)
  /-- PARK (R203). -/
  | ocePark (ctx : BitVec 9)
  /-- FILL (R204). -/
  | oceFill (ctx : BitVec 9)
  /-- OCE_BADOP (R206). -/
  | oceBadop (v : W32)
  /-- OCE_COMMAND_END (R204). -/
  | oceCommandEnd (noAnswer : Bool)
  /-- SETRD (R206). -/
  | setrd (g : Fin 384)
  /-- BUFFER_ACCESS (R227). -/
  | bufferAccess (q : BufReq)
  /-- PATROL_SCRUB_READ (R224). -/
  | patrolScrubRead (ecc : Ecc)
  /-- MR4_POLL (R226). -/
  | mr4Poll (stack : Fin 2) (code : BitVec 3) (hot : Bool) (moved : Bool)
  /-- RETRAIN (R226). -/
  | retrain
  /-- PLOCK (R229). -/
  | plock
  /-- BUF_PRET_WRITE (R230). -/
  | bufPretWrite (k : Fin 4) (v : BitVec 25)
  /-- SHAPE_SEGMENT_START (R228). -/
  | shapeSegmentStart (f : Func) (len : Nat)
  /-- DRAIN_POOL_STALL (R244). -/
  | drainPoolStall (heads : BitVec 24)
  /-- DMA_CHANNEL_ENABLE (R240). -/
  | dmaChannelEnable (c : Fin 128)
  /-- DMA_STOP (R238); wb: the answers to the write-back of a chain that ends, .ok where none is at fault. -/
  | dmaStop (c : Fin 128) (wb : WriteBack := .ok)
  /-- DMA_CTL_ENABLE (R240). -/
  | dmaCtlEnable (en : Bool)
  /-- DMA_SWREQ (R232). -/
  | dmaSwreq (line : BitVec 7)
  /-- DMA_REQUEST (R233). -/
  | dmaRequest (line : Fin 128)
  /-- DESCRIPTOR_FETCH_DONE (R234). -/
  | descriptorFetchDone (c : Fin 128) (ans : Answer)
  /-- DMA_BURST_DONE (R235); wb: the answers to the write-back of a chain that ends, .ok where none is at fault. -/
  | dmaBurstDone (c : Fin 128) (ans : Answer) (wb : WriteBack := .ok)
  /-- DMA_BUS_TIMEOUT (R239). -/
  | dmaBusTimeout (c : Fin 128)
  /-- GUARD_WAIT_1MS (R237). -/
  | guardWait1ms (c : Fin 128)
  /-- SQ_TAIL_DOORBELL (R254). -/
  | sqTailDoorbell (f : Func) (q : W16) (v : W16)
  /-- CQ_HEAD_DOORBELL (R257). -/
  | cqHeadDoorbell (f : Func) (q : W16) (v : W16)
  /-- COMMAND_ADMIT (R252). -/
  | commandAdmit (f : Func) (q : W16) (e : Sqe) (ranges : List (Nat × Nat))
  /-- CREDIT_GRANT (R255). -/
  | creditGrant (read : Bool)
  /-- HIF_NEXT_READ (R256). -/
  | hifNextRead
  /-- HIF_CPL_WRITE (R257). -/
  | hifCplWrite (v : W32)
  /-- COMPLETION_POST (R257). -/
  | completionPost (f : Func) (q : W16)
  /-- LREL_FWD (R264). -/
  | lrelFwd (tag : Tag)
  /-- LREL_REL (R264). -/
  | lrelRel (tag : Tag)
  /-- HIF_XFER_WRITE (R428). -/
  | hifXferWrite (tag : Tag)
  /-- HOST_TRANSFER_END (R428). -/
  | hostTransferEnd (tag : Tag) (err : Bool) (data : List Byte)
  /-- HIF_XDONE_READ (R428). -/
  | hifXdoneRead
  /-- LOCK_WAIT_1S (R293). -/
  | lockWait1s (tag : Tag)
  /-- ORDERED_WAIT_1S (R267). -/
  | orderedWait1s (tag : Tag)
  /-- CQ_FULL_1S (R293). -/
  | cqFull1s (f : Func) (q : W16)
  /-- CREATE_IO_SUBMISSION_QUEUE (R251). -/
  | createIoSubmissionQueue (tag : Tag)
  /-- DELETE_IO_SUBMISSION_QUEUE (R269). -/
  | deleteIoSubmissionQueue (tag : Tag)
  /-- CREATE_IO_COMPLETION_QUEUE (R251). -/
  | createIoCompletionQueue (tag : Tag)
  /-- DELETE_IO_COMPLETION_QUEUE (R271). -/
  | deleteIoCompletionQueue (tag : Tag)
  /-- GET_LOG_PAGE (R381). -/
  | getLogPage (tag : Tag)
  /-- IDENTIFY (R246). -/
  | identify (tag : Tag)
  /-- ABORT (R268). -/
  | abort (tag : Tag)
  /-- SET_FEATURES (R246). -/
  | setFeatures (tag : Tag) (data : List Byte)
  /-- SET_POWER_MANAGEMENT (R285). -/
  | setPowerManagement (tag : Tag)
  /-- SET_VOLATILE_WRITE_CACHE (R274). -/
  | setVolatileWriteCache (tag : Tag)
  /-- SET_SPINDLE_GOVERNOR (R288). -/
  | setSpindleGovernor (tag : Tag)
  /-- SET_ERROR_RECOVERY (R208). -/
  | setErrorRecovery (tag : Tag)
  /-- GET_FEATURES (R246). -/
  | getFeatures (tag : Tag)
  /-- ASYNCHRONOUS_EVENT_REQUEST (R246). -/
  | asynchronousEventRequest (tag : Tag)
  /-- NAMESPACE_CREATE (R279). -/
  | namespaceCreate (tag : Tag) (data : List Byte)
  /-- NAMESPACE_DELETE (R281). -/
  | namespaceDelete (tag : Tag)
  /-- NAMESPACE_ATTACH (R246). -/
  | namespaceAttach (tag : Tag) (ctrls : List Func)
  /-- NAMESPACE_DETACH (R281). -/
  | namespaceDetach (tag : Tag) (ctrls : List Func)
  /-- DIRECTIVE_SEND (R265). -/
  | directiveSend (tag : Tag)
  /-- DIRECTIVE_RECEIVE (R265). -/
  | directiveReceive (tag : Tag)
  /-- VIRTUALIZATION_MANAGEMENT (R250). -/
  | virtualizationManagement (tag : Tag)
  /-- SELF_TEST_SHORT (R290). -/
  | selfTestShort (tag : Tag)
  /-- SELF_TEST_EXTENDED (R290). -/
  | selfTestExtended (tag : Tag)
  /-- SELF_CALIBRATION (R75). -/
  | selfCalibration (tag : Tag)
  /-- SELF_TEST_ABORT (R290). -/
  | selfTestAbort (tag : Tag)
  /-- SELF_TEST_END (R292). -/
  | selfTestEnd (failed : Bool) (set : List Byte)
  /-- SELF_TEST_PREEMPT (R291). -/
  | selfTestPreempt (h : Head) (ms : Byte)
  /-- FORMAT_NVM (R316). -/
  | formatNvm (tag : Tag)
  /-- SANITIZE_CRYPTO_ERASE (R316). -/
  | sanitizeCryptoErase (tag : Tag)
  /-- CRYPTO_ERASE_DONE (R316). -/
  | cryptoEraseDone (tag : Tag)
  /-- FLUSH (R275). -/
  | flush (tag : Tag)
  /-- WRITE (R274). -/
  | write (tag : Tag)
  /-- READ (R261). -/
  | read (tag : Tag) (fails : List Retry)
  /-- COMPARE (R261); fails: the ladder steps its media reads needed, none by default. -/
  | compare (tag : Tag) (fails : List Retry := [])
  /-- WRITE_ZEROES (R261). -/
  | writeZeroes (tag : Tag)
  /-- DATASET_MANAGEMENT (R261). -/
  | datasetManagement (tag : Tag)
  /-- VERIFY (R261). -/
  | verify (tag : Tag) (fails : List Retry)
  /-- ZONE_APPEND (R299). -/
  | zoneAppend (tag : Tag)
  /-- ZONE_OPEN (R302). -/
  | zoneOpen (tag : Tag)
  /-- ZONE_CLOSE (R311). -/
  | zoneClose (tag : Tag)
  /-- ZONE_FINISH (R302). -/
  | zoneFinish (tag : Tag)
  /-- ZONE_RESET (R302). -/
  | zoneReset (tag : Tag)
  /-- ZONE_OFFLINE (R302). -/
  | zoneOffline (tag : Tag)
  /-- ZONE_MANAGEMENT_RECEIVE (R297). -/
  | zoneManagementReceive (tag : Tag)
  /-- UNIT_CLOSE_TIMEOUT (R311). -/
  | unitCloseTimeout (nsidx : Byte) (zone : Nat)
  /-- FRC_LANE_GO (R317). -/
  | frcLaneGo (k : Fin 8)
  /-- FRC_JOB_END (R318). -/
  | frcJobEnd (k : Fin 8)
  /-- KEY_GENERATE (R315). -/
  | keyGenerate (nsidx : Byte)
  /-- KEY_LOAD (R315). -/
  | keyLoad (nsidx : Byte)
  /-- KEY_DESTROY (R315). -/
  | keyDestroy (nsidx : Byte)
  /-- KEY_COMMAND_END (R315). -/
  | keyCommandEnd
  /-- CONTROLLER_RESET (R272). -/
  | controllerReset (f : Func)
  /-- CONTROLLER_ENABLE (R272); wrr: CC.AMS selects weighted round robin. -/
  | controllerEnable (f : Func) (wrr : Bool := false)
  /-- FUNCTION_LEVEL_RESET (R272). -/
  | functionLevelReset (f : Func)
  /-- NSSR_WRITE (R273). -/
  | nssrWrite (f : Func) (v : W32)
  /-- PERST_N (R336). -/
  | perstN (level : Bool)
  /-- HOT_RESET (R338). -/
  | hotReset (dlDown : Bool)
  /-- IDP_LINK_CONTROL (R323). -/
  | idpLinkControl (linkDisable : Bool) (set : Bool)
  /-- EDP_SECONDARY_BUS_RESET (R339). -/
  | edpSecondaryBusReset (linkDisable : Bool) (set : Bool)
  /-- IDP_BUS_NUMBER_WRITE (R321). -/
  | idpBusNumberWrite (primary : Byte) (secondary : Byte) (subordinate : Byte)
  /-- VALLEY_TIMER_EXPIRE (R288). -/
  | valleyTimerExpire
  /-- DEEP_TIMER_EXPIRE (R288). -/
  | deepTimerExpire
  /-- POWER_STATE_ENTRY (R286). -/
  | powerStateEntry
  /-- GOVERNOR_STEP (R284). -/
  | governorStep (up : Bool) (busy : Byte)
  /-- NVME_MI_BASIC_COMMAND (R248). -/
  | nvmeMiBasicCommand
  /-- PASS_OPEN (R330). -/
  | passOpen (v : W32) (tap : TapInstr := .bypass)
  /-- PASS_CLOSE (R334). -/
  | passClose (v : W32)
  /-- JOIN_PROCEED (R330). -/
  | joinProceed (tap : TapInstr := .bypass)
  /-- HOLDOFF_EXPIRE (R328). -/
  | holdoffExpire
  /-- JOIN_EN_CHANGE (R329). -/
  | joinEnChange (level : Bool)
  /-- PASS_POSITION_CHECK (R327). -/
  | passPositionCheck (wrong : W32)
  /-- LINK_UP (R331). -/
  | linkUp (p : Port) (speed : BitVec 3) (width : BitVec 5) (failed : W16) (final : Bool := true) (rate : BitVec 3 := 7)
  /-- LINK_DOWN (R348). -/
  | linkDown (p : Port) (cause : Byte) (inL0 : W32)
  /-- DEPTH (R333). -/
  | depth (hdr : W32) (vid : W16)
  /-- BELOW (R332). -/
  | below (hdr : W32) (vid : W16)
  /-- DEPTH_TIMEOUT (R333). -/
  | depthTimeout
  /-- CHAIN_MESSAGE_PERIOD (R332). -/
  | chainMessagePeriod
  /-- TLP_FORWARD (R340). -/
  | tlpForward (t : Tlp) (credit : Bool := true)
  /-- FORWARD_BUFFER_FULL (R343). -/
  | forwardBufferFull (towardUsp : Bool) (credit : Byte)
  /-- HART_MEMORY_ACCESS (R352); ecc: the check of the buffer line the access reads, clean where none is at fault; pre: what the
  hart has run before it that has no row of its own. -/
  | hartMemoryAccess (c : Hart) (k : Access) (addr : Nat) (len : Nat) (v : Word) (mepc : Word) (p : Parity) (ecc : Ecc := .clean)
      (pre : List HartOp := [])
  /-- CBO_CLEAN (R359); p: the parity of what it looks up, pre as for an access. -/
  | cboClean (c : Hart) (addr : Nat) (p : Parity := .none) (pre : List HartOp := [])
  /-- CBO_FLUSH (R359). -/
  | cboFlush (c : Hart) (addr : Nat) (p : Parity := .none) (pre : List HartOp := [])
  /-- CBO_INVAL (R359). -/
  | cboInval (c : Hart) (addr : Nat) (pre : List HartOp := []) (p : Parity := .none)
  /-- RANGE_CLEAN (R360); errs: the lines whose parity the walk finds wrong. -/
  | rangeClean (v : W32) (errs : List WalkError := [])
  /-- RANGE_CLEAN_INVALIDATE (R360). -/
  | rangeCleanInvalidate (v : W32) (errs : List WalkError := [])
  /-- RANGE_INVALIDATE (R360). -/
  | rangeInvalidate (v : W32) (errs : List WalkError := [])
  /-- RANGE_OP_REFUSED (R360). -/
  | rangeOpRefused (v : W32)
  /-- RANGE_OP_DONE (R360). -/
  | rangeOpDone (us : W32)
  /-- L2_DISABLE (R362). -/
  | l2Disable
  /-- L2_DRAIN_DONE (R362); errs: the lines whose parity the walk finds wrong. -/
  | l2DrainDone (us : W32) (errs : List WalkError := [])
  /-- L2_ENABLE (R362). -/
  | l2Enable
  /-- L2_LOCK_WRITE (R358). -/
  | l2LockWrite (v : W32)
  /-- EVC_CLAIM_READ (R366). -/
  | evcClaimRead (c : Hart)
  /-- EVC_CLAIM_COMPLETE (R366). -/
  | evcClaimComplete (c : Hart) (v : W32)
  /-- EVC_MSIP_WRITE (R350). -/
  | evcMsipWrite (c : Hart) (v : W32)
  /-- TIMER_INTERRUPT (R367). -/
  | timerInterrupt (c : Hart)
  /-- EVENT_RAISE (R369). -/
  | eventRaise (src : Source) (data : List (Nat × Nat))
  /-- EVC_RAISE_WRITE (R369). -/
  | evcRaiseWrite (c : Hart) (v : W32)
  /-- RECORD_WRITE (R378). -/
  | recordWrite (slotOk : Bool) (seqOk : Bool) (blkOk : Bool)
  /-- LOST_EVENTS_RECORD (R369). -/
  | lostEventsRecord
  /-- HOLD (R380). -/
  | hold
  /-- HOLD_EXPIRE (R380). -/
  | holdExpire
  /-- OPTIME_SAVE (R377); blkOk: the write of the control block verified (R382). -/
  | optimeSave (blkOk : Bool := true)
  /-- FAULT_SUBWINDOW (R385). -/
  | faultSubwindow (k : Fin 8)
  /-- FAULT_CLASS_LASTING (R385). -/
  | faultClassLasting (k : Fin 8) (i : Fin 32)
  /-- AGE_FSTAT_CLEAR (R385). -/
  | ageFstatClear (k : Fin 8) (v : W32)
  /-- GUARD_VOLTAGE_STEP (R389). -/
  | guardVoltageStep (mon : Fin 64) (slack : Byte)
  /-- AGE_VOUT_WRITE (R390). -/
  | ageVoutWrite (v : W32)
  /-- PMBUS_COMMAND_DONE (R390). -/
  | pmbusCommandDone (ack : Bool)
  /-- THERMAL_LEVEL_CROSS (R388). -/
  | thermalLevelCross (sensor : Fin 4) (temp : BitVec 12)
  /-- AON_FALLBACK (R412). -/
  | aonFallback
  /-- REGISTER_WRITE (R6). -/
  | registerWrite (addr : Nat) (wide : Bool) (v : Word)
  /-- SHOCK_SENSOR_SOUND_RESTORE (R126). -/
  | shockSensorSoundRestore (inputB : Bool) (bias : Byte)
  /-- HL_FLT_N_RELEASE (R185). -/
  | hlFltNRelease (a : Arm)
  /-- MA_RAIL_IN_RANGE (R404). -/
  | maRailInRange
  /-- CONTROLLER_DIE_TEMP_RESTORE (R414). -/
  | controllerDieTempRestore
  /-- DQ_RETRAIN_DONE (R226). -/
  | dqRetrainDone (eye : Word)
  /-- AUTONOMOUS_POWER_STATE_TRANSITION (R288). -/
  | autonomousPowerStateTransition
  /-- INTERRUPT_COALESCING_TIMEOUT (R257). -/
  | interruptCoalescingTimeout (f : Func) (q : W16)
  deriving DecidableEq, Repr

end Sys2Proof
end

