-- ==== Sys2Proof/WellFormed.lean ====
section
/-! DEFINITION. WellFormed.lean: commands whose operands are ones the outside world can bring: a servo frame has 480
wedges, a decode's bytes are those of a code word, an access has a width the bus has. -/

namespace Sys2Proof

/-- Which check of a command's operands failed. -/
inductive IllFormed where
  /-- A servo address mark whose index is above 479 (R104 gives 480 wedges a revolution). -/
  | wedge
  /-- A crossing interval of 0 (R82). -/
  | interval
  /-- A decode with more checks unsatisfied than there are (R172), or converged with another length than a code word's
  4,128 information bytes (R164). -/
  | decode
  /-- A sync position past the slot's 37,320 bits or a distance above 40 (R162, R166). -/
  | sync
  /-- A hart access of a width the bus does not have (R351). -/
  | width
  /-- A register write that is not aligned to its width (R422). -/
  | align
  /-- A data item of a width an event record does not hold (R373). -/
  | item
  /-- More Dataset Management ranges than NVMe allows, 256. -/
  | ranges
  /-- A calibration set, header and body, larger than its NOR region (R73, Table 3-6). -/
  | calibration
  deriving DecidableEq, Repr

def Decode.good (d : Decode) : Bool := decide (d.unsat ≤ 4096) && (!d.conv || (d.info.length == 4128 && d.unsat == 0))

/-- The check a command fails, if any. -/
def Instr.illFormed : Instr → Option IllFormed
  | .servoAddressMark _ widx _ => if widx.toNat < 480 then none else some .wedge
  | .zeroCrossing interval _ => if 0 < interval then none else some .interval
  | .decodeDone _ d => if d.good then none else some .decode
  | .offlineDecodeDone _ d => if d.good then none else some .decode
  | .decodeBudgetExpire _ unsat _ => if unsat ≤ 4096 then none else some .decode
  | .syncMarkFound _ pos dist => if pos + 40 ≤ 37320 ∧ dist ≤ 40 then none else some .sync
  | .hartMemoryAccess _ _ _ len _ _ _ _ _ => if len = 1 ∨ len = 2 ∨ len = 4 ∨ len = 8 then none else some .width
  | .registerWrite addr wide _ => if addr % (if wide then 8 else 4) = 0 then none else some .align
  | .eventRaise _ items => if items.all (fun x => decide (x.1 ≤ 8)) then none else some .item
  | .commandAdmit _ _ _ ranges => if ranges.length ≤ 256 then none else some .ranges
  | .calibrationSetWrite _ data => if data.length ≤ 2097152 then none else some .calibration
  | _ => none

abbrev Instr.WellFormed (i : Instr) : Prop := i.illFormed = none

end Sys2Proof
end

