-- ==== Sys2Proof/Config.lean ====
section
/-! DEFINITION. Config.lean: what the spec leaves to an implementation, to outside standards or open. Every constant
here is a free value: nothing in Lean can see what it is. -/

namespace Sys2Proof

/-- A value the spec leaves open: a number for each draw. -/
opaque Config.freeValue : Nat → Nat

/-- Contents of the boot ROM (Table 13-1 gives its place, not its bytes). -/
opaque Config.bootRom : Nat → Byte

/-- The fused key hash that KEYSEL selects (R2, R66). -/
opaque Config.keyHash : Nat → List Byte

/-- Size of the NOR's erase sector, as its SFDP table advertises (R426). -/
opaque Config.norSector : Nat

/-- A loop quantity as the module's number format holds it: R83 and R111 give the arithmetic and no rounding. -/
opaque Config.round : Rat → Int

/-- A square root as the module's number format holds it (R121). -/
opaque Config.sqrt : Rat → Rat

/-- What the encoder puts after the three header bits of a fixed and of a dynamic block of a 4,096-byte block (R308): any
encoder that meets RFC 1951. -/
opaque Config.deflateFixed : List Byte → List Bool
opaque Config.deflateDyn : List Byte → List Bool

/-- Whether it takes the dynamic one of two equally long (R308 says the shorter). -/
opaque Config.deflateTie : List Byte → Bool

/-- The key that wraps namespace keys, derived inside the FRC from a fused device secret (R315). -/
opaque Config.wrapKey : List Byte

/-- What the format and zone table partition lists, whose layout the spec does not give (Table 3-3): the bands of an arm that
zones may use and its spare bands, the neighbours of a band, the spare slots of a band and the spare sectors of an arm, the
sectors of the conventional region (R211, R213, R294, R295), the track and slot on head h of sector i of track group g of
band b where no slot is skipped, the head, track and slot of a sector of the conventional region, and the primary defects
of a surface (R22, R210). -/
opaque Config.bands : Nat → Nat
opaque Config.spareBands : Nat → Nat
opaque Config.neighbours (arm band : Nat) : List Nat
opaque Config.spareSlots (arm band : Nat) : Nat
opaque Config.spareSectors (arm : Nat) : Nat
opaque Config.convBlocks : Nat
opaque Config.trackSlot (h b g i : Nat) : Nat × Nat
opaque Config.convSlot (k : Nat) : Nat × Nat × Nat
opaque Config.primaryDefects (h : Nat) : List (Nat × Nat)

/-- What the calibration set holds, whose body the spec leaves to firmware (R70): ATI_LIM of an arm (R213), WAW of a preset,
WABUD and the life budget of a head (R215), its SNR floor in 0.01 dB (R391), and WIN, in seconds, and THR of fault classes
8 and 9 (R386), a head's heater back-off and the lowest preset its writes may take (R215, R391). -/
opaque Config.atiLim (set : List Byte) (arm : Nat) : Nat
opaque Config.waw (set : List Byte) (preset : Nat) : Nat
opaque Config.wabud (set : List Byte) (h : Nat) : Nat
opaque Config.waLife (set : List Byte) (h : Nat) : Nat
opaque Config.snrFloor (set : List Byte) (h : Nat) : Int
opaque Config.classWin (set : List Byte) (cls : Nat) : Nat
opaque Config.classThr (set : List Byte) (cls : Nat) : Nat
opaque Config.backOff (set : List Byte) (h : Nat) : Nat
opaque Config.lowPreset (set : List Byte) (h : Nat) : Nat

/-- What the planner finds for a head's writes from the set, its SNR margin and the scrub's iteration counts: the preset (k = 0)
and that preset's write current, overshoot and assist level (1 to 3). Table 14-9 says what they are the lowest of, and not
how they are found. -/
opaque Config.writeSetting (set : List Byte) (h : Nat) (margin : Int) (iters : List (List Nat)) (k : Nat) : Nat

end Sys2Proof
end

