-- ==== Sys2Proof/Regs.lean ====
section
/-! DEFINITION. Regs.lean: the names of every register field of Table 16-2 and the shape of a field's entry:
where it lies, how it is accessed (Table 0-3) and which resets return it (Table 0-4). -/

namespace Sys2Proof

/-- The register blocks of Table 16-1. -/
inductive Blk where
  | RSTC
  | CLK
  | EVC
  | EREC
  | L2C
  | AGE
  | HSE
  | CHAN
  | SCE
  | SPN
  | OCE
  | DMA
  | BUF
  | FRC
  | HIF
  | PSW
  | HLINK
  deriving DecidableEq, Repr

/-- Access codes (Table 0-3). -/
inductive Acc where
  | RO
  | RW
  | W1C
  | WO
  | RWL
  deriving DecidableEq, Repr

/-- Reaches of a field (R7), shallowest clearing reset last; kept is cleared by none. -/
inductive Reach where
  | L0
  | L1
  | L2
  | kept
  deriving DecidableEq, Repr

/-- Every register field, named REGISTER_FIELD as the register chapters do. -/
inductive Reg where
  | RST_STAT_LEVEL
  | RST_STAT_SRC_POR
  | RST_STAT_SRC_PIN
  | RST_STAT_SRC_OUT
  | RST_STAT_COPY
  | RST_STAT_RECOVERY
  | RST_STAT_RUNOK
  | RST_STAT_LOOP_OPEN
  | RST_STAT_SRST_REFUSED
  | RST_FUSE_PINLVL
  | RST_FUSE_BOOT_LIMIT
  | RST_FUSE_BOOT_WINDOW
  | RST_FUSE_KEYSEL
  | RST_OUT_KEY
  | RST_OUT_PULSE
  | RST_RUNOK_RUNOK
  | RST_BLK_SEL
  | RST_BLK_GO
  | RST_BLK_BUSY
  | RST_GAP_GAP
  | BOOT_TRIES_TRIES
  | BOOT_CAUSE_COPYA
  | BOOT_CAUSE_COPYB
  | BOOT_CAUSE_WINDOW
  | BOOT_CAUSE_BUFFAIL
  | BOOT_CAUSE_HALT
  | BKP_VALUE
  | LASTGASP_VALUE
  | LDR_STAT_REASONA
  | LDR_STAT_REASONB
  | LDR_STAT_PART
  | LDR_STAT_CALEMPTY
  | LDR_ENTRY_ENTRY
  | LDR_SECVER_SECVER
  | LDR_SECMIN_SECMIN
  | CLK_STAT_LOCK
  | CLK_STAT_AONFB
  | CLK_STAT_AONLOSS
  | EVC_REC_EN
  | EVC_REC_MERGE
  | EVC_REC_KEEP
  | EVC_RDATA_DATA
  | EVC_RAISE_SRC
  | EVC_RAISE_DLEN
  | EVC_MTIME_MTIME
  | EVC_MTIMECMP_CMP
  | EVC_MSIP_MSIP
  | EVC_PRIO_PRIO
  | EVC_PEND_PEND
  | EVC_IE_IE
  | EVC_THR_THR
  | EVC_CLAIM_SRC
  | EVC_CLAIM_VALID
  | EREC_CTL_HOLD
  | EREC_CTL_REPWIN
  | EREC_STAT_MEDONLY
  | EREC_STAT_FFULL
  | EREC_STAT_HOLDEXP
  | EREC_STAT_QLEN
  | EREC_GSEQ_GSEQ
  | EREC_CHEAD_CHEAD
  | EREC_CSPILL_CSPILL
  | EREC_FCOUNT_FCOUNT
  | EREC_LOST_COUNT
  | EREC_UNSPILL_COUNT
  | EREC_OPTIME_OPTIME
  | EREC_PCYC_PCYC
  | EREC_STARTS_STARTS
  | EREC_MRING_BASE
  | EREC_MHEAD_MHEAD
  | EREC_MSPILL_MSPILL
  | EREC_RETIRED_C
  | EREC_RETIRED_F
  | L2_CTL_EN
  | L2_CTL_FILLWAYS
  | L2_STAT_ENABLED
  | L2_STAT_DRAINING
  | L2_STAT_INITBUSY
  | L2_STAT_ENREF
  | L2_STAT_LOCKREF
  | L2_STAT_INVREF
  | L2_STAT_LOST
  | L2_LOCK_WAYS
  | L2_INVR_GO
  | L2_INVR_OP
  | L2_INVR_LOCKED_TOO
  | L2_INVBASE_BASE
  | L2_INVLEN_LEN
  | L2_INVSTAT_BUSY
  | L2_INVSTAT_DONE
  | L2_INVCNT_SKIPPED
  | L2_INVCNT_DISCARDED
  | L2_PERR_TAGERR
  | L2_PERR_DATAERR
  | L2_PERRADDR_ADDR
  | L2_HITCNT_COUNT
  | L2_MISSCNT_COUNT
  | AGE_CTL_GUARDEN
  | AGE_STAT_ATMAX
  | AGE_STAT_PMBERR
  | AGE_STAT_BUSY
  | AGE_VLIM_VMIN
  | AGE_VLIM_VMAX
  | AGE_VOUT_VOUT
  | AGE_PMB_ADDR
  | AGE_PMB_PAGE
  | AGE_PMB_EXP
  | AGE_GUARD_THR
  | AGE_GUARD_STEP
  | AGE_PDMIN_SLACK
  | AGE_PDMIN_MON
  | AGE_TEMP_TEMP
  | AGE_PDM_SLACK
  | AGE_PDM_MIN
  | AGE_FCLS_WIN
  | AGE_FCLS_THR
  | AGE_FSTAT_LASTING
  | AGE_FCNT_COUNT
  | HSE_CTL_RUN
  | HSE_CTL_SGAUTO
  | HSE_STAT_STATE
  | HSE_STAT_IDLE
  | HSE_STAT_HALTC
  | HSE_STAT_OWNVIOL
  | HSE_STAT_ATOMOVR
  | HSE_STAT_STWR
  | HSE_STAT_CQERR
  | HSE_STAT_GATES
  | HSE_UPC_UPC
  | HSE_UPC_DEPTH
  | HSE_UPC_CSD
  | HSE_TPEND_PEND
  | HSE_TMASK_MASK
  | HSE_DOORBELL_CMD
  | HSE_DOORBELL_ABORT
  | HSE_FLAGS_F
  | HSE_FLAGS_MB
  | HSE_KO_KO_PRE
  | HSE_KO_KO_POST
  | HSE_WT_WT
  | HSE_WT_WIDX
  | HSE_WPER_WPER
  | HSE_TRK_TRK
  | HSE_SLOTCNT_SLOT
  | HSE_SLOTCNT_CNT
  | HSE_CMP_CMP0
  | HSE_CMP_CMP1
  | HSE_LC_LC0
  | HSE_LC_LC1
  | HSE_WCMP_WCMP
  | HSE_DSKN_DSKN
  | HSE_BRK_ADDR
  | HSE_BRK_EN
  | HSE_CQPTR_HEAD
  | HSE_CQPTR_TAIL
  | HSE_DONE_CMDTAG
  | HSE_DONE_STATUS
  | HSE_DONE_FRAMES
  | HSE_DONE_QIDX
  | HSE_DONE_VALID
  | CHAN_CTL_EN
  | CHAN_CTL_GEN
  | CHAN_CTL_ADAPT
  | CHAN_CTL_CLRSTAT
  | CHAN_STAT_ENA
  | CHAN_STAT_HBAD
  | CHAN_STAT_RLIM
  | CHAN_STAT_LOCKED
  | CHAN_STAT_SBVALID
  | CHAN_STAT_RDBUSY
  | CHAN_STAT_RDREF
  | CHAN_STAT_WFLT
  | CHAN_STAT_POISON
  | CHAN_RATE_ZRATE
  | CHAN_BITRATE_RATE
  | CHAN_FRM_MARK_TOL
  | CHAN_FRM_GMAX
  | CHAN_FRM_ITER_MAX
  | CHAN_AFE_CTFC
  | CHAN_AFE_CTFB
  | CHAN_AFE_AGCT
  | CHAN_ADAPT_MU
  | CHAN_ADAPT_FREEZE
  | CHAN_EQ_TAP
  | CHAN_TGT_TGT
  | CHAN_SNR_LAST
  | CHAN_SNR_AVG
  | CHAN_LAST_RESULT
  | CHAN_LAST_CAND
  | CHAN_LAST_ITER
  | CHAN_LAST_UNSAT
  | CHAN_RDEC_OFS
  | CHAN_RDEC_ITER
  | CHAN_RDEC_REDET
  | CHAN_RDEC_GO
  | CHAN_NFRM_COUNT
  | CHAN_NGAMB_COUNT
  | CHAN_NNOSYNC_COUNT
  | CHAN_NDEC_COUNT
  | CHAN_NTAG_COUNT
  | CHAN_NWR_COUNT
  | CHAN_ITH_COUNT
  | CHAN_WAFRM_COUNT
  | SCE_CTL_RUN
  | SCE_CTL_LOAD
  | SCE_CTL_UNLOAD
  | SCE_CTL_REFHEAD
  | SCE_CTL_MEN
  | SCE_CTL_FRICEN
  | SCE_CTL_XFFEN
  | SCE_STAT_STATE
  | SCE_STAT_LOADED
  | SCE_STAT_REFACT
  | SCE_STAT_SATV
  | SCE_STAT_SATM
  | SCE_STAT_OUTWIN
  | SCE_STAT_SEEKTMO
  | SCE_STAT_CLAMPTRK
  | SCE_STAT_LOADREF
  | SCE_BANKSEL_ACTIVE
  | SCE_BANKSEL_SWAP
  | SCE_BANKSEL_PENDING
  | SCE_BANKSEL_AUTO
  | SCE_BANKSEL_WRACT
  | SCE_BANKSEL_REFUSED
  | SCE_DEADLINE_DL
  | SCE_LATE_LM
  | SCE_LATE_LV
  | SCE_LATECNT_COUNT
  | SCE_PLAUS_THR_THR
  | SCE_PLAUS_THR_GRAYTOL
  | SCE_PLAUS_N_N
  | SCE_PLAUS_N_OK
  | SCE_PLAUS_N_LATE_LIM
  | SCE_HSTAT_PLAUS
  | SCE_HSTAT_ARMPL
  | SCE_HSTAT_RDY_RD
  | SCE_HSTAT_RDY_WR
  | SCE_CTGT_CTGT
  | SCE_POS_POS
  | SCE_MINTRK_MINTRK
  | SCE_MAXTRK_MAXTRK
  | SCE_HTGT_HTGT
  | SCE_HPOS_HPOS
  | SCE_HCAL0_HOFS
  | SCE_HCAL1_PGAIN
  | SCE_PROF_A_AMAX
  | SCE_PROF_A_DMAX
  | SCE_PROF_V_VMAX
  | SCE_PROF_V_ASLEW
  | SCE_SETTLE_RDTOL
  | SCE_SETTLE_RDN
  | SCE_SETTLE_WRTOL
  | SCE_SETTLE_WRN
  | SCE_SETTLE_SEEKTMO
  | SCE_FRIC0_BASE
  | SCE_FRIC0_SHIFT
  | SCE_FRIC1_FRIC_C
  | SCE_FRIC1_DEADV
  | SCE_LOAD_LOADV
  | SCE_LOAD_LOADTMO
  | SPN_CTL_COGEN
  | SPN_CTL_TAKE
  | SPN_CTL_CLROV
  | SPN_CTL_CLRCHOP
  | SPN_CTL_ADV
  | SPN_TGT_TGT
  | SPN_STAT_STATE
  | SPN_STAT_LOCK
  | SPN_STAT_CLAMPED
  | SPN_STAT_HLHOLD
  | SPN_STAT_BUSWATCH
  | SPN_STAT_CHOPON
  | SPN_STAT_CHOPFLT
  | SPN_STAT_OV2
  | SPN_STAT_ATTEMPT
  | SPN_STAT_FAIL
  | SPN_MEAS_SPEED
  | SPN_MEAS_VBUS
  | SPN_RAMP_ACC
  | SPN_RAMP_DEC
  | SPN_LIM_SPDMIN
  | SPN_LIM_SPDMAX
  | SPN_LIM2_HLMIN
  | SPN_LIM2_REFRPM
  | SPN_START_ALIGN_I
  | SPN_START_ALIGN_T
  | SPN_START_BLIND_I
  | SPN_START_BLIND_ACC
  | SPN_ILIM_ILIM
  | SPN_ILIM_BRKTMO
  | SPN_ILIM_RETV
  | SPN_ILIM_RETI
  | SPN_HOLD_SPD
  | SPN_HOLD_ICMD
  | SPN_HOLD_ACTIVE
  | SPN_RATIO_RATIO
  | SPN_RATIO_READY
  | SPN_WP_EN
  | SPN_WP_WP
  | SPN_WP_CAUSE
  | SPN_SHK_THR
  | SPN_SHK_HOLD
  | SPN_SHK_BIASA
  | SPN_SHK_BIASB
  | OCE_CTL_EN
  | OCE_STAT_NOPEN
  | OCE_STAT_CTXWR
  | OCE_STAT_ACCERR
  | OCE_CMD_CTX
  | OCE_CMD_OP
  | OCE_CMD_COUNT
  | OCE_RES_CTX
  | OCE_RES_OP
  | OCE_RES_RESULT
  | OCE_RES_BUSY
  | OCE_RES_NER
  | OCE_HACT_CTX
  | OCE_HACT_VALID
  | GCTX_MODE
  | GCTX_HEAD
  | GCTX_SETRD
  | GCTX_NDATA
  | GCTX_NPAR
  | GCTX_ERR
  | GCTX_GBASE_GBASE
  | GCTX_ACC_ACC
  | GCTX_ERASE_ERASE
  | GCTX_ERASEP_ERASEP
  | GCTX_LBA0_LBA0
  | GCTX_ID_BANDSEQ
  | GCTX_ID_NSIDX
  | GCTX_ID_CLASS
  | GCTX_ESCMASK_ESCMASK
  | DMA_CTL_EN
  | DMA_CHAIN_MAX_MAX
  | DMA_SWREQ_LINE
  | DMA_LPEND_COUNT
  | DMA_LPEND_OVF
  | DMA_CHCTL_EN
  | DMA_CHCTL_STOP
  | DMA_CHCTL_LINE
  | DMA_CHCTL_DRAINCH
  | DMA_CHSTAT_STATE
  | DMA_CHSTAT_ERR
  | DMA_CHSTAT_IRQH
  | DMA_CHSTAT_IRQF
  | DMA_CHSTAT_GUARDW
  | DMA_CHSTAT_POISON
  | DMA_CHSTAT_END
  | DMA_CHDESC_ADDR
  | DMA_CHCUR_ADDR
  | DMA_CHDONE_BYTES
  | DMA_CHCRC_CRC
  | DMA_CHNDESC_COUNT
  | DMA_CHBURST_COUNT
  | BUF_CTL_PLOCK
  | BUF_CTL_SCRUBEN
  | BUF_CTL_RETRAIN
  | BUF_CTL_SCRUBPER
  | BUF_STAT_TRAINED
  | BUF_STAT_HOT
  | BUF_STAT_GUARD
  | BUF_STAT_PBAD
  | BUF_STAT_POVF
  | BUF_STAT_PNEG
  | BUF_STAT_RTBUSY
  | BUF_STAT_TRR0
  | BUF_STAT_TRR1
  | BUF_CECNT_COUNT
  | BUF_UECNT_COUNT
  | BUF_CEADDR_ADDR
  | BUF_UEADDR_ADDR
  | BUF_POOL_BASE
  | BUF_POOL_SIZE
  | BUF_FREE_FREE
  | BUF_PRET_UNITS
  | BUF_SHAPE_RATE
  | BUF_SHAPE_BURST
  | BUF_TOKENS_TOKENS
  | FRC_CTL_EN
  | FRC_KCMD_OP
  | FRC_KCMD_NSIDX
  | FRC_KADDR_ADDR
  | FRC_KSTAT_BUSY
  | FRC_KSTAT_RESULT
  | FRC_LCTL_GO
  | FRC_LCTL_OP
  | FRC_LCTL_CLASS
  | FRC_LCTL_ENC
  | FRC_LCTL_CLOSE
  | FRC_LCTL_PHASE
  | FRC_LCTL_NSIDX
  | FRC_LLBA_LBA
  | FRC_LOUT_ADDR
  | FRC_LUNIT_ADDR
  | FRC_LBUD_BUDGET
  | FRC_LBUD_NBLK
  | FRC_LID_BANDSEQ
  | FRC_LSTAT_STATE
  | FRC_LSTAT_OVER
  | FRC_LSTAT_VERR
  | FRC_LSTAT_POS
  | FRC_LSTAT_PHASEOUT
  | FRC_LCNT_NESC
  | FRC_LCNT_NSLOT
  | HIF_CTL_FETCHEN
  | HIF_CTL_PAUSE
  | HIF_STAT_ADMITTED
  | HIF_STAT_PAUSED
  | HIF_STAT_LOWTAG
  | HIF_STAT_CPLERR
  | HIF_STAT_LRERR
  | HIF_STAT_XERR
  | HIF_TAGCFG_LOW
  | HIF_TAGSTAT_FREE
  | HIF_NACT_NACT
  | HIF_NACT_F
  | HIF_NEXT_CMDTAG
  | HIF_NEXT_FUNC
  | HIF_NEXT_SQID
  | HIF_NEXT_ORD
  | HIF_NEXT_VALID
  | HIF_CPLDW0_DW0
  | HIF_CPLDW1_DW1
  | HIF_CPL_CMDTAG
  | HIF_CPL_STATUS
  | HIF_LREL_CMDTAG
  | HIF_LREL_OP
  | HIF_PWR_PSREQ
  | HIF_PWR_PSNOW
  | HIF_PWR_TRANS
  | HIF_XLIST_ADDR
  | HIF_XFER_CMDTAG
  | HIF_XDONE_CMDTAG
  | HIF_XDONE_ERR
  | HIF_XDONE_VALID
  | HIF_FNCAP_TCAP
  | HIF_FNCAP_WEIGHT
  | HIF_FNTAG_HELD
  | PSW_CFG_POLICY
  | PSW_CFG_HOLDOFF
  | PSW_CFG_ARBAUTO
  | PSW_FUSE_JOINPOL
  | PSW_PASS_KEY
  | PSW_PASS_OPEN
  | PSW_PASS_CLOSE
  | PSW_PASS_STATE
  | PSW_PASS_PENDING
  | PSW_PASS_FAULT
  | PSW_STAT_USUP
  | PSW_STAT_DSUP
  | PSW_STAT_JOINEN
  | PSW_STAT_TOODEEP
  | PSW_STAT_WARN
  | PSW_STAT_WORN
  | PSW_STAT_DEPTHOK
  | PSW_CHAIN_DEPTH
  | PSW_CHAIN_BELOW
  | PSW_USLNK_SPEED
  | PSW_USLNK_WIDTH
  | PSW_USLNK_LTSSM
  | PSW_USLNK_MARKED
  | PSW_DSLNK_SPEED
  | PSW_DSLNK_WIDTH
  | PSW_DSLNK_LTSSM
  | PSW_DSLNK_MARKED
  | PSW_ARB_OWNW
  | PSW_ARB_FWDW
  | PSW_PASSCNT_COUNT
  | PSW_PASSREC_OPENFLAG
  | PSW_PASSREC_LASTCAUSE
  | PSW_ID_VID
  | HL_CMD_REQ
  | HL_RESP_DATA
  | HL_RESP_STATUS
  | HL_RESP_VALID
  | HL_RESP_ERR
  | HL_STAT_QLEN
  | HL_STAT_BUSY
  | HL_STAT_FLT
  | HL_STAT_FHEADS
  | HL_STAT_QFULL
  | HL_STAT_BADCMD
  | HL_CFG_AUTOFLT
  deriving DecidableEq, Repr

/-- Where field lies: its register's offset in the block, the strides and counts of its two indices, whether the
register is 64 bits wide, the field's lowest bit and width, its access, reset value and reach. -/
structure RegInfo where
  blk : Blk
  off : Nat
  s1 : Nat
  n1 : Nat
  s2 : Nat
  n2 : Nat
  wide : Bool
  lo : Nat
  w : Nat
  acc : Acc
  rst : Nat
  reach : Reach
  deriving DecidableEq, Repr

/-- A field of one register of an array: i is the first index (block number, entry), j the second. -/
structure RKey where
  reg : Reg
  i : Nat := 0
  j : Nat := 0
  deriving DecidableEq, Repr

end Sys2Proof
end

