-- ==== Sys2Proof/Machine/RegTable.lean ====
section
/-! DEFINITION. Machine/RegTable.lean: the register table, from the bit map tables of the chapters (Table 16-2
indexes them). One row a field. -/

namespace Sys2Proof

/-- Base of a block's window (Table 16-1). -/
def Blk.base : Blk → Nat
  | .RSTC => 0x10000000
  | .CLK => 0x10010000
  | .EVC => 0x10020000
  | .EREC => 0x10030000
  | .L2C => 0x10040000
  | .AGE => 0x10050000
  | .HSE => 0x10100000
  | .CHAN => 0x10300000
  | .SCE => 0x10500000
  | .SPN => 0x10580000
  | .OCE => 0x10600000
  | .DMA => 0x10680000
  | .BUF => 0x10700000
  | .FRC => 0x10780000
  | .HIF => 0x10800000
  | .PSW => 0x11000000
  | .HLINK => 0x11800000

/-- Size of a block's window, all of its repeats taken together (Table 16-1). -/
def Blk.span : Blk → Nat
  | .RSTC => 0x10000
  | .CLK => 0x10000
  | .EVC => 0x10000
  | .EREC => 0x10000
  | .L2C => 0x10000
  | .AGE => 0x10000
  | .HSE => 0x180000
  | .CHAN => 0x180000
  | .SCE => 0x50000
  | .SPN => 0x10000
  | .OCE => 0x80000
  | .DMA => 0x80000
  | .BUF => 0x80000
  | .FRC => 0x80000
  | .HIF => 0x800000
  | .PSW => 0x800000
  | .HLINK => 0x10000

/-- All blocks of Table 16-1. -/
def Blk.all : List Blk :=
  [.RSTC, .CLK, .EVC, .EREC, .L2C, .AGE, .HSE, .CHAN, .SCE, .SPN, .OCE, .DMA, .BUF, .FRC, .HIF, .PSW, .HLINK]

/-- The register table: Table 16-2 with the bit maps of the defining chapters. -/
def Reg.info : Reg → RegInfo
  | .RST_STAT_LEVEL => ⟨.RSTC, 0x0, 0x0, 1, 0x0, 1, false, 0, 2, .RO, 0, .L2⟩
  | .RST_STAT_SRC_POR => ⟨.RSTC, 0x0, 0x0, 1, 0x0, 1, false, 2, 1, .RO, 0, .L2⟩
  | .RST_STAT_SRC_PIN => ⟨.RSTC, 0x0, 0x0, 1, 0x0, 1, false, 3, 1, .RO, 0, .L2⟩
  | .RST_STAT_SRC_OUT => ⟨.RSTC, 0x0, 0x0, 1, 0x0, 1, false, 4, 1, .RO, 0, .L2⟩
  | .RST_STAT_COPY => ⟨.RSTC, 0x0, 0x0, 1, 0x0, 1, false, 5, 2, .RO, 0, .L2⟩
  | .RST_STAT_RECOVERY => ⟨.RSTC, 0x0, 0x0, 1, 0x0, 1, false, 7, 1, .RO, 0, .L2⟩
  | .RST_STAT_RUNOK => ⟨.RSTC, 0x0, 0x0, 1, 0x0, 1, false, 8, 1, .RO, 0, .L2⟩
  | .RST_STAT_LOOP_OPEN => ⟨.RSTC, 0x0, 0x0, 1, 0x0, 1, false, 9, 1, .W1C, 0, .L2⟩
  | .RST_STAT_SRST_REFUSED => ⟨.RSTC, 0x0, 0x0, 1, 0x0, 1, false, 10, 1, .W1C, 0, .L2⟩
  | .RST_FUSE_PINLVL => ⟨.RSTC, 0x4, 0x0, 1, 0x0, 1, false, 0, 2, .RO, 1, .kept⟩
  | .RST_FUSE_BOOT_LIMIT => ⟨.RSTC, 0x4, 0x0, 1, 0x0, 1, false, 2, 3, .RO, 3, .kept⟩
  | .RST_FUSE_BOOT_WINDOW => ⟨.RSTC, 0x4, 0x0, 1, 0x0, 1, false, 5, 8, .RO, 60, .kept⟩
  | .RST_FUSE_KEYSEL => ⟨.RSTC, 0x4, 0x0, 1, 0x0, 1, false, 13, 1, .RO, 0, .kept⟩
  | .RST_OUT_KEY => ⟨.RSTC, 0x8, 0x0, 1, 0x0, 1, false, 0, 8, .WO, 0, .L2⟩
  | .RST_OUT_PULSE => ⟨.RSTC, 0x8, 0x0, 1, 0x0, 1, false, 8, 1, .WO, 0, .L2⟩
  | .RST_RUNOK_RUNOK => ⟨.RSTC, 0xC, 0x0, 1, 0x0, 1, false, 0, 1, .WO, 0, .L2⟩
  | .RST_BLK_SEL => ⟨.RSTC, 0x10, 0x0, 1, 0x0, 1, false, 0, 8, .RW, 0, .L2⟩
  | .RST_BLK_GO => ⟨.RSTC, 0x10, 0x0, 1, 0x0, 1, false, 8, 1, .WO, 0, .L2⟩
  | .RST_BLK_BUSY => ⟨.RSTC, 0x10, 0x0, 1, 0x0, 1, false, 9, 1, .RO, 0, .L2⟩
  | .RST_GAP_GAP => ⟨.RSTC, 0x40, 0x4, 10, 0x0, 1, false, 0, 16, .RO, 0, .kept⟩
  | .BOOT_TRIES_TRIES => ⟨.RSTC, 0x100, 0x0, 1, 0x0, 1, false, 0, 3, .RO, 0, .L0⟩
  | .BOOT_CAUSE_COPYA => ⟨.RSTC, 0x104, 0x0, 1, 0x0, 1, false, 0, 4, .RO, 0, .L0⟩
  | .BOOT_CAUSE_COPYB => ⟨.RSTC, 0x104, 0x0, 1, 0x0, 1, false, 4, 4, .RO, 0, .L0⟩
  | .BOOT_CAUSE_WINDOW => ⟨.RSTC, 0x104, 0x0, 1, 0x0, 1, false, 8, 1, .RO, 0, .L0⟩
  | .BOOT_CAUSE_BUFFAIL => ⟨.RSTC, 0x104, 0x0, 1, 0x0, 1, false, 9, 1, .RO, 0, .L0⟩
  | .BOOT_CAUSE_HALT => ⟨.RSTC, 0x104, 0x0, 1, 0x0, 1, false, 10, 4, .RO, 0, .L0⟩
  | .BKP_VALUE => ⟨.RSTC, 0x108, 0x4, 26, 0x0, 1, false, 0, 32, .RW, 0, .L0⟩
  | .LASTGASP_VALUE => ⟨.RSTC, 0x170, 0x4, 4, 0x0, 1, false, 0, 32, .RO, 0, .L0⟩
  | .LDR_STAT_REASONA => ⟨.RSTC, 0x200, 0x0, 1, 0x0, 1, false, 0, 4, .RO, 15, .L2⟩
  | .LDR_STAT_REASONB => ⟨.RSTC, 0x200, 0x0, 1, 0x0, 1, false, 4, 4, .RO, 15, .L2⟩
  | .LDR_STAT_PART => ⟨.RSTC, 0x200, 0x0, 1, 0x0, 1, false, 8, 4, .RO, 0, .L2⟩
  | .LDR_STAT_CALEMPTY => ⟨.RSTC, 0x200, 0x0, 1, 0x0, 1, false, 12, 1, .RO, 0, .L2⟩
  | .LDR_ENTRY_ENTRY => ⟨.RSTC, 0x208, 0x0, 1, 0x0, 1, true, 0, 64, .RO, 0, .L2⟩
  | .LDR_SECVER_SECVER => ⟨.RSTC, 0x210, 0x0, 1, 0x0, 1, false, 0, 32, .RO, 0, .L2⟩
  | .LDR_SECMIN_SECMIN => ⟨.RSTC, 0x214, 0x0, 1, 0x0, 1, false, 0, 32, .RO, 0, .kept⟩
  | .CLK_STAT_LOCK => ⟨.CLK, 0x0, 0x0, 1, 0x0, 1, false, 0, 4, .RO, 0, .L2⟩
  | .CLK_STAT_AONFB => ⟨.CLK, 0x0, 0x0, 1, 0x0, 1, false, 4, 1, .RO, 0, .L0⟩
  | .CLK_STAT_AONLOSS => ⟨.CLK, 0x0, 0x0, 1, 0x0, 1, false, 5, 1, .W1C, 0, .L0⟩
  | .EVC_REC_EN => ⟨.EVC, 0x0, 0x4, 320, 0x0, 1, false, 0, 1, .RW, 1, .L2⟩
  | .EVC_REC_MERGE => ⟨.EVC, 0x0, 0x4, 320, 0x0, 1, false, 1, 1, .RW, 1, .L2⟩
  | .EVC_REC_KEEP => ⟨.EVC, 0x0, 0x4, 320, 0x0, 1, false, 2, 1, .RWL, 0, .L2⟩
  | .EVC_RDATA_DATA => ⟨.EVC, 0x800, 0x40, 8, 0x4, 8, false, 0, 32, .RW, 0, .L2⟩
  | .EVC_RAISE_SRC => ⟨.EVC, 0x820, 0x40, 8, 0x0, 1, false, 0, 9, .WO, 0, .L2⟩
  | .EVC_RAISE_DLEN => ⟨.EVC, 0x820, 0x40, 8, 0x0, 1, false, 16, 6, .WO, 0, .L2⟩
  | .EVC_MTIME_MTIME => ⟨.EVC, 0x1000, 0x0, 1, 0x0, 1, true, 0, 64, .RW, 0, .L2⟩
  | .EVC_MTIMECMP_CMP => ⟨.EVC, 0x1040, 0x8, 8, 0x0, 1, true, 0, 64, .RW, 18446744073709551615, .L2⟩
  | .EVC_MSIP_MSIP => ⟨.EVC, 0x1080, 0x4, 8, 0x0, 1, false, 0, 1, .RW, 0, .L2⟩
  | .EVC_PRIO_PRIO => ⟨.EVC, 0x2000, 0x4, 512, 0x0, 1, false, 0, 3, .RW, 0, .L2⟩
  | .EVC_PEND_PEND => ⟨.EVC, 0x3000, 0x4, 16, 0x0, 1, false, 0, 32, .RO, 0, .L2⟩
  | .EVC_IE_IE => ⟨.EVC, 0x4000, 0x40, 8, 0x4, 16, false, 0, 32, .RW, 0, .L2⟩
  | .EVC_THR_THR => ⟨.EVC, 0x5000, 0x10, 8, 0x0, 1, false, 0, 3, .RW, 0, .L2⟩
  | .EVC_CLAIM_SRC => ⟨.EVC, 0x5004, 0x10, 8, 0x0, 1, false, 0, 9, .RW, 0, .L2⟩
  | .EVC_CLAIM_VALID => ⟨.EVC, 0x5004, 0x10, 8, 0x0, 1, false, 31, 1, .RO, 0, .L2⟩
  | .EREC_CTL_HOLD => ⟨.EREC, 0x0, 0x0, 1, 0x0, 1, false, 0, 1, .RW, 0, .L2⟩
  | .EREC_CTL_REPWIN => ⟨.EREC, 0x0, 0x0, 1, 0x0, 1, false, 8, 16, .RW, 1000, .L2⟩
  | .EREC_STAT_MEDONLY => ⟨.EREC, 0x4, 0x0, 1, 0x0, 1, false, 0, 1, .RO, 0, .L2⟩
  | .EREC_STAT_FFULL => ⟨.EREC, 0x4, 0x0, 1, 0x0, 1, false, 1, 1, .RO, 0, .L2⟩
  | .EREC_STAT_HOLDEXP => ⟨.EREC, 0x4, 0x0, 1, 0x0, 1, false, 2, 1, .W1C, 0, .L2⟩
  | .EREC_STAT_QLEN => ⟨.EREC, 0x4, 0x0, 1, 0x0, 1, false, 4, 10, .RO, 0, .L2⟩
  | .EREC_GSEQ_GSEQ => ⟨.EREC, 0x8, 0x0, 1, 0x0, 1, false, 0, 32, .RO, 0, .L2⟩
  | .EREC_CHEAD_CHEAD => ⟨.EREC, 0xC, 0x0, 1, 0x0, 1, false, 0, 9, .RO, 0, .kept⟩
  | .EREC_CSPILL_CSPILL => ⟨.EREC, 0x10, 0x0, 1, 0x0, 1, false, 0, 9, .RW, 0, .kept⟩
  | .EREC_FCOUNT_FCOUNT => ⟨.EREC, 0x14, 0x0, 1, 0x0, 1, false, 0, 9, .RO, 0, .kept⟩
  | .EREC_LOST_COUNT => ⟨.EREC, 0x18, 0x0, 1, 0x0, 1, false, 0, 32, .RO, 0, .L2⟩
  | .EREC_UNSPILL_COUNT => ⟨.EREC, 0x1C, 0x0, 1, 0x0, 1, false, 0, 32, .RO, 0, .L2⟩
  | .EREC_OPTIME_OPTIME => ⟨.EREC, 0x20, 0x0, 1, 0x0, 1, true, 0, 64, .RO, 0, .kept⟩
  | .EREC_PCYC_PCYC => ⟨.EREC, 0x28, 0x0, 1, 0x0, 1, false, 0, 32, .RO, 0, .kept⟩
  | .EREC_STARTS_STARTS => ⟨.EREC, 0x2C, 0x0, 1, 0x0, 1, false, 0, 32, .RO, 0, .kept⟩
  | .EREC_MRING_BASE => ⟨.EREC, 0x30, 0x0, 1, 0x0, 1, true, 0, 64, .RW, 0, .L2⟩
  | .EREC_MHEAD_MHEAD => ⟨.EREC, 0x38, 0x0, 1, 0x0, 1, false, 0, 12, .RO, 0, .L2⟩
  | .EREC_MSPILL_MSPILL => ⟨.EREC, 0x3C, 0x0, 1, 0x0, 1, false, 0, 12, .RW, 0, .L2⟩
  | .EREC_RETIRED_C => ⟨.EREC, 0x40, 0x0, 1, 0x0, 1, false, 0, 10, .RO, 0, .kept⟩
  | .EREC_RETIRED_F => ⟨.EREC, 0x40, 0x0, 1, 0x0, 1, false, 16, 9, .RO, 0, .kept⟩
  | .L2_CTL_EN => ⟨.L2C, 0x0, 0x0, 1, 0x0, 1, false, 0, 1, .RW, 1, .L2⟩
  | .L2_CTL_FILLWAYS => ⟨.L2C, 0x0, 0x0, 1, 0x0, 1, false, 16, 16, .RW, 0, .L2⟩
  | .L2_STAT_ENABLED => ⟨.L2C, 0x4, 0x0, 1, 0x0, 1, false, 0, 1, .RO, 1, .L2⟩
  | .L2_STAT_DRAINING => ⟨.L2C, 0x4, 0x0, 1, 0x0, 1, false, 1, 1, .RO, 0, .L2⟩
  | .L2_STAT_INITBUSY => ⟨.L2C, 0x4, 0x0, 1, 0x0, 1, false, 2, 1, .RO, 0, .L2⟩
  | .L2_STAT_ENREF => ⟨.L2C, 0x4, 0x0, 1, 0x0, 1, false, 3, 1, .W1C, 0, .L2⟩
  | .L2_STAT_LOCKREF => ⟨.L2C, 0x4, 0x0, 1, 0x0, 1, false, 4, 1, .W1C, 0, .L2⟩
  | .L2_STAT_INVREF => ⟨.L2C, 0x4, 0x0, 1, 0x0, 1, false, 5, 1, .W1C, 0, .L2⟩
  | .L2_STAT_LOST => ⟨.L2C, 0x4, 0x0, 1, 0x0, 1, false, 6, 1, .W1C, 0, .L2⟩
  | .L2_LOCK_WAYS => ⟨.L2C, 0x8, 0x0, 1, 0x0, 1, false, 0, 16, .RW, 0, .L2⟩
  | .L2_INVR_GO => ⟨.L2C, 0x10, 0x0, 1, 0x0, 1, false, 0, 1, .WO, 0, .L2⟩
  | .L2_INVR_OP => ⟨.L2C, 0x10, 0x0, 1, 0x0, 1, false, 1, 2, .RW, 0, .L2⟩
  | .L2_INVR_LOCKED_TOO => ⟨.L2C, 0x10, 0x0, 1, 0x0, 1, false, 3, 1, .RW, 0, .L2⟩
  | .L2_INVBASE_BASE => ⟨.L2C, 0x18, 0x0, 1, 0x0, 1, true, 0, 64, .RW, 0, .L2⟩
  | .L2_INVLEN_LEN => ⟨.L2C, 0x20, 0x0, 1, 0x0, 1, false, 0, 32, .RW, 0, .L2⟩
  | .L2_INVSTAT_BUSY => ⟨.L2C, 0x28, 0x0, 1, 0x0, 1, false, 0, 1, .RO, 0, .L2⟩
  | .L2_INVSTAT_DONE => ⟨.L2C, 0x28, 0x0, 1, 0x0, 1, false, 1, 1, .W1C, 0, .L2⟩
  | .L2_INVCNT_SKIPPED => ⟨.L2C, 0x2C, 0x0, 1, 0x0, 1, false, 0, 16, .RO, 0, .L2⟩
  | .L2_INVCNT_DISCARDED => ⟨.L2C, 0x2C, 0x0, 1, 0x0, 1, false, 16, 16, .RO, 0, .L2⟩
  | .L2_PERR_TAGERR => ⟨.L2C, 0x30, 0x0, 1, 0x0, 1, false, 0, 16, .RO, 0, .L2⟩
  | .L2_PERR_DATAERR => ⟨.L2C, 0x30, 0x0, 1, 0x0, 1, false, 16, 16, .RO, 0, .L2⟩
  | .L2_PERRADDR_ADDR => ⟨.L2C, 0x38, 0x0, 1, 0x0, 1, true, 0, 64, .RO, 0, .L2⟩
  | .L2_HITCNT_COUNT => ⟨.L2C, 0x40, 0x0, 1, 0x0, 1, true, 0, 64, .RO, 0, .L2⟩
  | .L2_MISSCNT_COUNT => ⟨.L2C, 0x48, 0x0, 1, 0x0, 1, true, 0, 64, .RO, 0, .L2⟩
  | .AGE_CTL_GUARDEN => ⟨.AGE, 0x0, 0x0, 1, 0x0, 1, false, 0, 1, .RW, 1, .L2⟩
  | .AGE_STAT_ATMAX => ⟨.AGE, 0x4, 0x0, 1, 0x0, 1, false, 0, 1, .W1C, 0, .L2⟩
  | .AGE_STAT_PMBERR => ⟨.AGE, 0x4, 0x0, 1, 0x0, 1, false, 1, 1, .W1C, 0, .L2⟩
  | .AGE_STAT_BUSY => ⟨.AGE, 0x4, 0x0, 1, 0x0, 1, false, 2, 1, .RO, 0, .L2⟩
  | .AGE_VLIM_VMIN => ⟨.AGE, 0x8, 0x0, 1, 0x0, 1, false, 0, 12, .RWL, 720, .L2⟩
  | .AGE_VLIM_VMAX => ⟨.AGE, 0x8, 0x0, 1, 0x0, 1, false, 16, 12, .RWL, 820, .L2⟩
  | .AGE_VOUT_VOUT => ⟨.AGE, 0xC, 0x0, 1, 0x0, 1, false, 0, 12, .RW, 0, .L2⟩
  | .AGE_PMB_ADDR => ⟨.AGE, 0x10, 0x0, 1, 0x0, 1, false, 0, 7, .RWL, 64, .L2⟩
  | .AGE_PMB_PAGE => ⟨.AGE, 0x10, 0x0, 1, 0x0, 1, false, 8, 8, .RWL, 0, .L2⟩
  | .AGE_PMB_EXP => ⟨.AGE, 0x10, 0x0, 1, 0x0, 1, false, 16, 5, .RO, 0, .L2⟩
  | .AGE_GUARD_THR => ⟨.AGE, 0x14, 0x0, 1, 0x0, 1, false, 0, 8, .RW, 3, .L2⟩
  | .AGE_GUARD_STEP => ⟨.AGE, 0x14, 0x0, 1, 0x0, 1, false, 8, 8, .RW, 10, .L2⟩
  | .AGE_PDMIN_SLACK => ⟨.AGE, 0x18, 0x0, 1, 0x0, 1, false, 0, 8, .RO, 0, .L2⟩
  | .AGE_PDMIN_MON => ⟨.AGE, 0x18, 0x0, 1, 0x0, 1, false, 8, 6, .RO, 0, .L2⟩
  | .AGE_TEMP_TEMP => ⟨.AGE, 0x20, 0x4, 4, 0x0, 1, false, 0, 12, .RO, 0, .L2⟩
  | .AGE_PDM_SLACK => ⟨.AGE, 0x100, 0x4, 64, 0x0, 1, false, 0, 8, .RO, 0, .L2⟩
  | .AGE_PDM_MIN => ⟨.AGE, 0x100, 0x4, 64, 0x0, 1, false, 8, 8, .RO, 255, .L2⟩
  | .AGE_FCLS_WIN => ⟨.AGE, 0x200, 0x8, 8, 0x0, 1, false, 0, 20, .RWL, 0, .L2⟩
  | .AGE_FCLS_THR => ⟨.AGE, 0x200, 0x8, 8, 0x0, 1, false, 20, 12, .RWL, 0, .L2⟩
  | .AGE_FSTAT_LASTING => ⟨.AGE, 0x204, 0x8, 8, 0x0, 1, false, 0, 32, .W1C, 0, .L2⟩
  | .AGE_FCNT_COUNT => ⟨.AGE, 0x400, 0x80, 8, 0x4, 32, false, 0, 16, .RO, 0, .L2⟩
  | .HSE_CTL_RUN => ⟨.HSE, 0x0, 0x10000, 24, 0x0, 1, false, 0, 1, .RW, 0, .L2⟩
  | .HSE_CTL_SGAUTO => ⟨.HSE, 0x0, 0x10000, 24, 0x0, 1, false, 1, 1, .RW, 1, .L2⟩
  | .HSE_STAT_STATE => ⟨.HSE, 0x4, 0x10000, 24, 0x0, 1, false, 0, 2, .RO, 0, .L2⟩
  | .HSE_STAT_IDLE => ⟨.HSE, 0x4, 0x10000, 24, 0x0, 1, false, 2, 1, .RO, 1, .L2⟩
  | .HSE_STAT_HALTC => ⟨.HSE, 0x4, 0x10000, 24, 0x0, 1, false, 3, 3, .RO, 0, .L2⟩
  | .HSE_STAT_OWNVIOL => ⟨.HSE, 0x4, 0x10000, 24, 0x0, 1, false, 6, 1, .W1C, 0, .L2⟩
  | .HSE_STAT_ATOMOVR => ⟨.HSE, 0x4, 0x10000, 24, 0x0, 1, false, 7, 1, .W1C, 0, .L2⟩
  | .HSE_STAT_STWR => ⟨.HSE, 0x4, 0x10000, 24, 0x0, 1, false, 8, 1, .W1C, 0, .L2⟩
  | .HSE_STAT_CQERR => ⟨.HSE, 0x4, 0x10000, 24, 0x0, 1, false, 9, 1, .W1C, 0, .L2⟩
  | .HSE_STAT_GATES => ⟨.HSE, 0x4, 0x10000, 24, 0x0, 1, false, 10, 3, .RO, 0, .L2⟩
  | .HSE_UPC_UPC => ⟨.HSE, 0x8, 0x10000, 24, 0x0, 1, false, 0, 12, .RO, 0, .L2⟩
  | .HSE_UPC_DEPTH => ⟨.HSE, 0x8, 0x10000, 24, 0x0, 1, false, 12, 4, .RO, 0, .L2⟩
  | .HSE_UPC_CSD => ⟨.HSE, 0x8, 0x10000, 24, 0x0, 1, false, 16, 4, .RO, 0, .L2⟩
  | .HSE_TPEND_PEND => ⟨.HSE, 0xC, 0x10000, 24, 0x0, 1, false, 0, 16, .W1C, 0, .L2⟩
  | .HSE_TMASK_MASK => ⟨.HSE, 0x10, 0x10000, 24, 0x0, 1, false, 0, 16, .RW, 0, .L2⟩
  | .HSE_DOORBELL_CMD => ⟨.HSE, 0x14, 0x10000, 24, 0x0, 1, false, 0, 1, .WO, 0, .L2⟩
  | .HSE_DOORBELL_ABORT => ⟨.HSE, 0x14, 0x10000, 24, 0x0, 1, false, 1, 1, .WO, 0, .L2⟩
  | .HSE_FLAGS_F => ⟨.HSE, 0x18, 0x10000, 24, 0x0, 1, false, 0, 8, .RO, 0, .L2⟩
  | .HSE_FLAGS_MB => ⟨.HSE, 0x18, 0x10000, 24, 0x0, 1, false, 8, 8, .RW, 0, .L2⟩
  | .HSE_KO_KO_PRE => ⟨.HSE, 0x1C, 0x10000, 24, 0x0, 1, false, 0, 12, .RW, 272, .L2⟩
  | .HSE_KO_KO_POST => ⟨.HSE, 0x1C, 0x10000, 24, 0x0, 1, false, 16, 12, .RW, 600, .L2⟩
  | .HSE_WT_WT => ⟨.HSE, 0x20, 0x10000, 24, 0x0, 1, false, 0, 16, .RO, 0, .L2⟩
  | .HSE_WT_WIDX => ⟨.HSE, 0x20, 0x10000, 24, 0x0, 1, false, 16, 9, .RO, 0, .L2⟩
  | .HSE_WPER_WPER => ⟨.HSE, 0x24, 0x10000, 24, 0x0, 1, false, 0, 16, .RO, 0, .L2⟩
  | .HSE_TRK_TRK => ⟨.HSE, 0x28, 0x10000, 24, 0x0, 1, false, 0, 22, .RO, 0, .L2⟩
  | .HSE_SLOTCNT_SLOT => ⟨.HSE, 0x2C, 0x10000, 24, 0x0, 1, false, 0, 14, .RO, 0, .L2⟩
  | .HSE_SLOTCNT_CNT => ⟨.HSE, 0x2C, 0x10000, 24, 0x0, 1, false, 16, 13, .RO, 0, .L2⟩
  | .HSE_CMP_CMP0 => ⟨.HSE, 0x30, 0x10000, 24, 0x0, 1, false, 0, 16, .RO, 0, .L2⟩
  | .HSE_CMP_CMP1 => ⟨.HSE, 0x30, 0x10000, 24, 0x0, 1, false, 16, 16, .RO, 0, .L2⟩
  | .HSE_LC_LC0 => ⟨.HSE, 0x34, 0x10000, 24, 0x0, 1, false, 0, 16, .RO, 0, .L2⟩
  | .HSE_LC_LC1 => ⟨.HSE, 0x34, 0x10000, 24, 0x0, 1, false, 16, 16, .RO, 0, .L2⟩
  | .HSE_WCMP_WCMP => ⟨.HSE, 0x38, 0x10000, 24, 0x0, 1, false, 0, 9, .RO, 0, .L2⟩
  | .HSE_DSKN_DSKN => ⟨.HSE, 0x3C, 0x10000, 24, 0x0, 1, false, 0, 10, .RW, 0, .L2⟩
  | .HSE_BRK_ADDR => ⟨.HSE, 0x40, 0x10000, 24, 0x0, 1, false, 0, 12, .RW, 0, .L2⟩
  | .HSE_BRK_EN => ⟨.HSE, 0x40, 0x10000, 24, 0x0, 1, false, 31, 1, .RW, 0, .L2⟩
  | .HSE_CQPTR_HEAD => ⟨.HSE, 0x44, 0x10000, 24, 0x0, 1, false, 0, 4, .RO, 0, .L2⟩
  | .HSE_CQPTR_TAIL => ⟨.HSE, 0x44, 0x10000, 24, 0x0, 1, false, 8, 4, .RW, 0, .L2⟩
  | .HSE_DONE_CMDTAG => ⟨.HSE, 0x48, 0x10000, 24, 0x0, 1, true, 0, 17, .RO, 0, .L2⟩
  | .HSE_DONE_STATUS => ⟨.HSE, 0x48, 0x10000, 24, 0x0, 1, true, 17, 4, .RO, 0, .L2⟩
  | .HSE_DONE_FRAMES => ⟨.HSE, 0x48, 0x10000, 24, 0x0, 1, true, 21, 13, .RO, 0, .L2⟩
  | .HSE_DONE_QIDX => ⟨.HSE, 0x48, 0x10000, 24, 0x0, 1, true, 34, 4, .RO, 0, .L2⟩
  | .HSE_DONE_VALID => ⟨.HSE, 0x48, 0x10000, 24, 0x0, 1, true, 63, 1, .RO, 0, .L2⟩
  | .CHAN_CTL_EN => ⟨.CHAN, 0x0, 0x10000, 24, 0x0, 1, false, 0, 1, .RW, 0, .L2⟩
  | .CHAN_CTL_GEN => ⟨.CHAN, 0x0, 0x10000, 24, 0x0, 1, false, 1, 1, .RW, 1, .L2⟩
  | .CHAN_CTL_ADAPT => ⟨.CHAN, 0x0, 0x10000, 24, 0x0, 1, false, 2, 1, .RW, 1, .L2⟩
  | .CHAN_CTL_CLRSTAT => ⟨.CHAN, 0x0, 0x10000, 24, 0x0, 1, false, 3, 1, .WO, 0, .L2⟩
  | .CHAN_STAT_ENA => ⟨.CHAN, 0x4, 0x10000, 24, 0x0, 1, false, 0, 1, .RO, 0, .L2⟩
  | .CHAN_STAT_HBAD => ⟨.CHAN, 0x4, 0x10000, 24, 0x0, 1, false, 1, 1, .RO, 0, .L2⟩
  | .CHAN_STAT_RLIM => ⟨.CHAN, 0x4, 0x10000, 24, 0x0, 1, false, 2, 1, .RO, 0, .L2⟩
  | .CHAN_STAT_LOCKED => ⟨.CHAN, 0x4, 0x10000, 24, 0x0, 1, false, 3, 1, .RO, 0, .L2⟩
  | .CHAN_STAT_SBVALID => ⟨.CHAN, 0x4, 0x10000, 24, 0x0, 1, false, 4, 1, .RO, 0, .L2⟩
  | .CHAN_STAT_RDBUSY => ⟨.CHAN, 0x4, 0x10000, 24, 0x0, 1, false, 5, 1, .RO, 0, .L2⟩
  | .CHAN_STAT_RDREF => ⟨.CHAN, 0x4, 0x10000, 24, 0x0, 1, false, 6, 1, .W1C, 0, .L2⟩
  | .CHAN_STAT_WFLT => ⟨.CHAN, 0x4, 0x10000, 24, 0x0, 1, false, 7, 1, .W1C, 0, .L2⟩
  | .CHAN_STAT_POISON => ⟨.CHAN, 0x4, 0x10000, 24, 0x0, 1, false, 8, 1, .W1C, 0, .L2⟩
  | .CHAN_RATE_ZRATE => ⟨.CHAN, 0x8, 0x10000, 24, 0x0, 1, false, 0, 16, .RW, 0, .L2⟩
  | .CHAN_BITRATE_RATE => ⟨.CHAN, 0xC, 0x10000, 24, 0x0, 1, false, 0, 16, .RO, 0, .L2⟩
  | .CHAN_FRM_MARK_TOL => ⟨.CHAN, 0x10, 0x10000, 24, 0x0, 1, false, 0, 6, .RW, 4, .L2⟩
  | .CHAN_FRM_GMAX => ⟨.CHAN, 0x10, 0x10000, 24, 0x0, 1, false, 8, 2, .RW, 3, .L2⟩
  | .CHAN_FRM_ITER_MAX => ⟨.CHAN, 0x10, 0x10000, 24, 0x0, 1, false, 16, 6, .RW, 16, .L2⟩
  | .CHAN_AFE_CTFC => ⟨.CHAN, 0x14, 0x10000, 24, 0x0, 1, false, 0, 5, .RW, 16, .L2⟩
  | .CHAN_AFE_CTFB => ⟨.CHAN, 0x14, 0x10000, 24, 0x0, 1, false, 5, 5, .RW, 8, .L2⟩
  | .CHAN_AFE_AGCT => ⟨.CHAN, 0x14, 0x10000, 24, 0x0, 1, false, 10, 8, .RW, 96, .L2⟩
  | .CHAN_ADAPT_MU => ⟨.CHAN, 0x18, 0x10000, 24, 0x0, 1, false, 0, 4, .RW, 6, .L2⟩
  | .CHAN_ADAPT_FREEZE => ⟨.CHAN, 0x18, 0x10000, 24, 0x0, 1, false, 4, 1, .RW, 0, .L2⟩
  | .CHAN_EQ_TAP => ⟨.CHAN, 0x40, 0x10000, 24, 0x4, 20, false, 0, 16, .RW, 0, .L2⟩
  | .CHAN_TGT_TGT => ⟨.CHAN, 0x90, 0x10000, 24, 0x4, 5, false, 0, 16, .RW, 0, .L2⟩
  | .CHAN_SNR_LAST => ⟨.CHAN, 0xA4, 0x10000, 24, 0x0, 1, false, 0, 16, .RO, 0, .L2⟩
  | .CHAN_SNR_AVG => ⟨.CHAN, 0xA4, 0x10000, 24, 0x0, 1, false, 16, 16, .RO, 0, .L2⟩
  | .CHAN_LAST_RESULT => ⟨.CHAN, 0xA8, 0x10000, 24, 0x0, 1, false, 0, 4, .RO, 0, .L2⟩
  | .CHAN_LAST_CAND => ⟨.CHAN, 0xA8, 0x10000, 24, 0x0, 1, false, 4, 3, .RO, 0, .L2⟩
  | .CHAN_LAST_ITER => ⟨.CHAN, 0xA8, 0x10000, 24, 0x0, 1, false, 7, 8, .RO, 0, .L2⟩
  | .CHAN_LAST_UNSAT => ⟨.CHAN, 0xA8, 0x10000, 24, 0x0, 1, false, 15, 13, .RO, 0, .L2⟩
  | .CHAN_RDEC_OFS => ⟨.CHAN, 0xAC, 0x10000, 24, 0x0, 1, false, 0, 6, .RW, 0, .L2⟩
  | .CHAN_RDEC_ITER => ⟨.CHAN, 0xAC, 0x10000, 24, 0x0, 1, false, 8, 8, .RW, 64, .L2⟩
  | .CHAN_RDEC_REDET => ⟨.CHAN, 0xAC, 0x10000, 24, 0x0, 1, false, 16, 1, .RW, 0, .L2⟩
  | .CHAN_RDEC_GO => ⟨.CHAN, 0xAC, 0x10000, 24, 0x0, 1, false, 17, 1, .WO, 0, .L2⟩
  | .CHAN_NFRM_COUNT => ⟨.CHAN, 0xC0, 0x10000, 24, 0x0, 1, false, 0, 32, .RO, 0, .L2⟩
  | .CHAN_NGAMB_COUNT => ⟨.CHAN, 0xC4, 0x10000, 24, 0x0, 1, false, 0, 32, .RO, 0, .L2⟩
  | .CHAN_NNOSYNC_COUNT => ⟨.CHAN, 0xC8, 0x10000, 24, 0x0, 1, false, 0, 32, .RO, 0, .L2⟩
  | .CHAN_NDEC_COUNT => ⟨.CHAN, 0xCC, 0x10000, 24, 0x0, 1, false, 0, 32, .RO, 0, .L2⟩
  | .CHAN_NTAG_COUNT => ⟨.CHAN, 0xD0, 0x10000, 24, 0x0, 1, false, 0, 32, .RO, 0, .L2⟩
  | .CHAN_NWR_COUNT => ⟨.CHAN, 0xD4, 0x10000, 24, 0x0, 1, false, 0, 32, .RO, 0, .L2⟩
  | .CHAN_ITH_COUNT => ⟨.CHAN, 0xE0, 0x10000, 24, 0x4, 8, false, 0, 32, .RO, 0, .L2⟩
  | .CHAN_WAFRM_COUNT => ⟨.CHAN, 0x100, 0x10000, 24, 0x4, 4, false, 0, 32, .RO, 0, .L2⟩
  | .SCE_CTL_RUN => ⟨.SCE, 0x0, 0x10000, 4, 0x0, 1, false, 0, 1, .RW, 0, .L2⟩
  | .SCE_CTL_LOAD => ⟨.SCE, 0x0, 0x10000, 4, 0x0, 1, false, 1, 1, .WO, 0, .L2⟩
  | .SCE_CTL_UNLOAD => ⟨.SCE, 0x0, 0x10000, 4, 0x0, 1, false, 2, 1, .WO, 0, .L2⟩
  | .SCE_CTL_REFHEAD => ⟨.SCE, 0x0, 0x10000, 4, 0x0, 1, false, 3, 3, .RW, 0, .L2⟩
  | .SCE_CTL_MEN => ⟨.SCE, 0x0, 0x10000, 4, 0x0, 1, false, 6, 6, .RW, 63, .L2⟩
  | .SCE_CTL_FRICEN => ⟨.SCE, 0x0, 0x10000, 4, 0x0, 1, false, 12, 1, .RW, 0, .L2⟩
  | .SCE_CTL_XFFEN => ⟨.SCE, 0x0, 0x10000, 4, 0x0, 1, false, 13, 1, .RW, 0, .L2⟩
  | .SCE_STAT_STATE => ⟨.SCE, 0x4, 0x10000, 4, 0x0, 1, false, 0, 3, .RO, 0, .L2⟩
  | .SCE_STAT_LOADED => ⟨.SCE, 0x4, 0x10000, 4, 0x0, 1, false, 3, 1, .RO, 0, .L2⟩
  | .SCE_STAT_REFACT => ⟨.SCE, 0x4, 0x10000, 4, 0x0, 1, false, 4, 3, .RO, 0, .L2⟩
  | .SCE_STAT_SATV => ⟨.SCE, 0x4, 0x10000, 4, 0x0, 1, false, 7, 1, .RO, 0, .L2⟩
  | .SCE_STAT_SATM => ⟨.SCE, 0x4, 0x10000, 4, 0x0, 1, false, 8, 6, .RO, 0, .L2⟩
  | .SCE_STAT_OUTWIN => ⟨.SCE, 0x4, 0x10000, 4, 0x0, 1, false, 14, 6, .RO, 0, .L2⟩
  | .SCE_STAT_SEEKTMO => ⟨.SCE, 0x4, 0x10000, 4, 0x0, 1, false, 20, 1, .W1C, 0, .L2⟩
  | .SCE_STAT_CLAMPTRK => ⟨.SCE, 0x4, 0x10000, 4, 0x0, 1, false, 21, 1, .W1C, 0, .L2⟩
  | .SCE_STAT_LOADREF => ⟨.SCE, 0x4, 0x10000, 4, 0x0, 1, false, 22, 1, .W1C, 0, .L2⟩
  | .SCE_BANKSEL_ACTIVE => ⟨.SCE, 0x8, 0x10000, 5, 0x0, 1, false, 0, 1, .RO, 0, .L2⟩
  | .SCE_BANKSEL_SWAP => ⟨.SCE, 0x8, 0x10000, 5, 0x0, 1, false, 1, 1, .WO, 0, .L2⟩
  | .SCE_BANKSEL_PENDING => ⟨.SCE, 0x8, 0x10000, 5, 0x0, 1, false, 2, 1, .RO, 0, .L2⟩
  | .SCE_BANKSEL_AUTO => ⟨.SCE, 0x8, 0x10000, 5, 0x0, 1, false, 3, 1, .RW, 0, .L2⟩
  | .SCE_BANKSEL_WRACT => ⟨.SCE, 0x8, 0x10000, 5, 0x0, 1, false, 4, 1, .W1C, 0, .L2⟩
  | .SCE_BANKSEL_REFUSED => ⟨.SCE, 0x8, 0x10000, 5, 0x0, 1, false, 5, 1, .W1C, 0, .L2⟩
  | .SCE_DEADLINE_DL => ⟨.SCE, 0xC, 0x10000, 5, 0x0, 1, false, 0, 9, .RW, 200, .L2⟩
  | .SCE_LATE_LM => ⟨.SCE, 0x10, 0x10000, 5, 0x0, 1, false, 0, 6, .W1C, 0, .L2⟩
  | .SCE_LATE_LV => ⟨.SCE, 0x10, 0x10000, 5, 0x0, 1, false, 6, 1, .W1C, 0, .L2⟩
  | .SCE_LATECNT_COUNT => ⟨.SCE, 0x14, 0x10000, 5, 0x0, 1, false, 0, 32, .RO, 0, .L2⟩
  | .SCE_PLAUS_THR_THR => ⟨.SCE, 0x18, 0x10000, 4, 0x0, 1, false, 0, 16, .RW, 123, .L2⟩
  | .SCE_PLAUS_THR_GRAYTOL => ⟨.SCE, 0x18, 0x10000, 4, 0x0, 1, false, 16, 16, .RW, 8192, .L2⟩
  | .SCE_PLAUS_N_N => ⟨.SCE, 0x1C, 0x10000, 4, 0x0, 1, false, 0, 4, .RW, 2, .L2⟩
  | .SCE_PLAUS_N_OK => ⟨.SCE, 0x1C, 0x10000, 4, 0x0, 1, false, 4, 4, .RW, 8, .L2⟩
  | .SCE_PLAUS_N_LATE_LIM => ⟨.SCE, 0x1C, 0x10000, 4, 0x0, 1, false, 8, 4, .RW, 3, .L2⟩
  | .SCE_HSTAT_PLAUS => ⟨.SCE, 0x20, 0x10000, 4, 0x0, 1, false, 0, 6, .RO, 0, .L2⟩
  | .SCE_HSTAT_ARMPL => ⟨.SCE, 0x20, 0x10000, 4, 0x0, 1, false, 6, 1, .RO, 0, .L2⟩
  | .SCE_HSTAT_RDY_RD => ⟨.SCE, 0x20, 0x10000, 4, 0x0, 1, false, 8, 6, .RO, 0, .L2⟩
  | .SCE_HSTAT_RDY_WR => ⟨.SCE, 0x20, 0x10000, 4, 0x0, 1, false, 16, 6, .RO, 0, .L2⟩
  | .SCE_CTGT_CTGT => ⟨.SCE, 0x24, 0x10000, 4, 0x0, 1, false, 0, 32, .RW, 0, .L2⟩
  | .SCE_POS_POS => ⟨.SCE, 0x28, 0x10000, 4, 0x0, 1, false, 0, 32, .RO, 0, .L2⟩
  | .SCE_MINTRK_MINTRK => ⟨.SCE, 0x2C, 0x10000, 4, 0x0, 1, false, 0, 22, .RWL, 0, .L2⟩
  | .SCE_MAXTRK_MAXTRK => ⟨.SCE, 0x30, 0x10000, 4, 0x0, 1, false, 0, 22, .RWL, 4194303, .L2⟩
  | .SCE_HTGT_HTGT => ⟨.SCE, 0x40, 0x10000, 4, 0x4, 6, false, 0, 32, .RW, 0, .L2⟩
  | .SCE_HPOS_HPOS => ⟨.SCE, 0x60, 0x10000, 4, 0x4, 6, false, 0, 32, .RO, 0, .L2⟩
  | .SCE_HCAL0_HOFS => ⟨.SCE, 0x80, 0x10000, 4, 0x8, 6, false, 0, 32, .RW, 0, .L2⟩
  | .SCE_HCAL1_PGAIN => ⟨.SCE, 0x84, 0x10000, 4, 0x8, 6, false, 0, 16, .RW, 16384, .L2⟩
  | .SCE_PROF_A_AMAX => ⟨.SCE, 0xB0, 0x10000, 4, 0x0, 1, false, 0, 16, .RW, 35000, .L2⟩
  | .SCE_PROF_A_DMAX => ⟨.SCE, 0xB0, 0x10000, 4, 0x0, 1, false, 16, 16, .RW, 35000, .L2⟩
  | .SCE_PROF_V_VMAX => ⟨.SCE, 0xB4, 0x10000, 4, 0x0, 1, false, 0, 24, .RW, 100000, .L2⟩
  | .SCE_PROF_V_ASLEW => ⟨.SCE, 0xB4, 0x10000, 4, 0x0, 1, false, 24, 8, .RW, 4, .L2⟩
  | .SCE_SETTLE_RDTOL => ⟨.SCE, 0xB8, 0x10000, 4, 0x0, 1, false, 0, 8, .RW, 38, .L2⟩
  | .SCE_SETTLE_RDN => ⟨.SCE, 0xB8, 0x10000, 4, 0x0, 1, false, 8, 4, .RW, 3, .L2⟩
  | .SCE_SETTLE_WRTOL => ⟨.SCE, 0xB8, 0x10000, 4, 0x0, 1, false, 12, 8, .RW, 20, .L2⟩
  | .SCE_SETTLE_WRN => ⟨.SCE, 0xB8, 0x10000, 4, 0x0, 1, false, 20, 4, .RW, 6, .L2⟩
  | .SCE_SETTLE_SEEKTMO => ⟨.SCE, 0xB8, 0x10000, 4, 0x0, 1, false, 24, 8, .RW, 50, .L2⟩
  | .SCE_FRIC0_BASE => ⟨.SCE, 0xBC, 0x10000, 4, 0x0, 1, false, 0, 22, .RW, 0, .L2⟩
  | .SCE_FRIC0_SHIFT => ⟨.SCE, 0xBC, 0x10000, 4, 0x0, 1, false, 24, 5, .RW, 11, .L2⟩
  | .SCE_FRIC1_FRIC_C => ⟨.SCE, 0xC0, 0x10000, 4, 0x0, 1, false, 0, 16, .RW, 0, .L2⟩
  | .SCE_FRIC1_DEADV => ⟨.SCE, 0xC0, 0x10000, 4, 0x0, 1, false, 16, 16, .RW, 1, .L2⟩
  | .SCE_LOAD_LOADV => ⟨.SCE, 0xC4, 0x10000, 4, 0x0, 1, false, 0, 8, .RW, 20, .L2⟩
  | .SCE_LOAD_LOADTMO => ⟨.SCE, 0xC4, 0x10000, 4, 0x0, 1, false, 8, 8, .RW, 100, .L2⟩
  | .SPN_CTL_COGEN => ⟨.SPN, 0x0, 0x0, 1, 0x0, 1, false, 0, 1, .RW, 0, .L2⟩
  | .SPN_CTL_TAKE => ⟨.SPN, 0x0, 0x0, 1, 0x0, 1, false, 1, 1, .WO, 0, .L2⟩
  | .SPN_CTL_CLROV => ⟨.SPN, 0x0, 0x0, 1, 0x0, 1, false, 2, 1, .WO, 0, .L2⟩
  | .SPN_CTL_CLRCHOP => ⟨.SPN, 0x0, 0x0, 1, 0x0, 1, false, 3, 1, .WO, 0, .L2⟩
  | .SPN_CTL_ADV => ⟨.SPN, 0x0, 0x0, 1, 0x0, 1, false, 8, 4, .RW, 0, .L2⟩
  | .SPN_TGT_TGT => ⟨.SPN, 0x4, 0x0, 1, 0x0, 1, false, 0, 16, .RW, 0, .L2⟩
  | .SPN_STAT_STATE => ⟨.SPN, 0x8, 0x0, 1, 0x0, 1, false, 0, 4, .RO, 0, .L2⟩
  | .SPN_STAT_LOCK => ⟨.SPN, 0x8, 0x0, 1, 0x0, 1, false, 4, 1, .RO, 0, .L2⟩
  | .SPN_STAT_CLAMPED => ⟨.SPN, 0x8, 0x0, 1, 0x0, 1, false, 5, 1, .W1C, 0, .L2⟩
  | .SPN_STAT_HLHOLD => ⟨.SPN, 0x8, 0x0, 1, 0x0, 1, false, 6, 1, .RO, 0, .L2⟩
  | .SPN_STAT_BUSWATCH => ⟨.SPN, 0x8, 0x0, 1, 0x0, 1, false, 7, 1, .RO, 0, .L2⟩
  | .SPN_STAT_CHOPON => ⟨.SPN, 0x8, 0x0, 1, 0x0, 1, false, 8, 1, .RO, 0, .L2⟩
  | .SPN_STAT_CHOPFLT => ⟨.SPN, 0x8, 0x0, 1, 0x0, 1, false, 9, 1, .RO, 0, .L1⟩
  | .SPN_STAT_OV2 => ⟨.SPN, 0x8, 0x0, 1, 0x0, 1, false, 10, 1, .RO, 0, .L1⟩
  | .SPN_STAT_ATTEMPT => ⟨.SPN, 0x8, 0x0, 1, 0x0, 1, false, 11, 3, .RO, 0, .L2⟩
  | .SPN_STAT_FAIL => ⟨.SPN, 0x8, 0x0, 1, 0x0, 1, false, 14, 4, .RO, 0, .L2⟩
  | .SPN_MEAS_SPEED => ⟨.SPN, 0xC, 0x0, 1, 0x0, 1, false, 0, 16, .RO, 0, .L2⟩
  | .SPN_MEAS_VBUS => ⟨.SPN, 0xC, 0x0, 1, 0x0, 1, false, 16, 12, .RO, 0, .L2⟩
  | .SPN_RAMP_ACC => ⟨.SPN, 0x10, 0x0, 1, 0x0, 1, false, 0, 16, .RWL, 600, .L2⟩
  | .SPN_RAMP_DEC => ⟨.SPN, 0x10, 0x0, 1, 0x0, 1, false, 16, 16, .RWL, 600, .L2⟩
  | .SPN_LIM_SPDMIN => ⟨.SPN, 0x14, 0x0, 1, 0x0, 1, false, 0, 16, .RWL, 3000, .L2⟩
  | .SPN_LIM_SPDMAX => ⟨.SPN, 0x14, 0x0, 1, 0x0, 1, false, 16, 16, .RWL, 7200, .L2⟩
  | .SPN_LIM2_HLMIN => ⟨.SPN, 0x18, 0x0, 1, 0x0, 1, false, 0, 16, .RWL, 3000, .L2⟩
  | .SPN_LIM2_REFRPM => ⟨.SPN, 0x18, 0x0, 1, 0x0, 1, false, 16, 16, .RWL, 7200, .L2⟩
  | .SPN_START_ALIGN_I => ⟨.SPN, 0x1C, 0x0, 1, 0x0, 1, false, 0, 8, .RWL, 80, .L2⟩
  | .SPN_START_ALIGN_T => ⟨.SPN, 0x1C, 0x0, 1, 0x0, 1, false, 8, 8, .RWL, 15, .L2⟩
  | .SPN_START_BLIND_I => ⟨.SPN, 0x1C, 0x0, 1, 0x0, 1, false, 16, 8, .RWL, 150, .L2⟩
  | .SPN_START_BLIND_ACC => ⟨.SPN, 0x1C, 0x0, 1, 0x0, 1, false, 24, 8, .RWL, 40, .L2⟩
  | .SPN_ILIM_ILIM => ⟨.SPN, 0x20, 0x0, 1, 0x0, 1, false, 0, 8, .RWL, 150, .L2⟩
  | .SPN_ILIM_BRKTMO => ⟨.SPN, 0x20, 0x0, 1, 0x0, 1, false, 8, 8, .RWL, 60, .L2⟩
  | .SPN_ILIM_RETV => ⟨.SPN, 0x20, 0x0, 1, 0x0, 1, false, 16, 8, .RWL, 25, .L2⟩
  | .SPN_ILIM_RETI => ⟨.SPN, 0x20, 0x0, 1, 0x0, 1, false, 24, 8, .RWL, 60, .L2⟩
  | .SPN_HOLD_SPD => ⟨.SPN, 0x24, 0x0, 1, 0x0, 1, false, 0, 16, .RO, 0, .L1⟩
  | .SPN_HOLD_ICMD => ⟨.SPN, 0x24, 0x0, 1, 0x0, 1, false, 16, 12, .RO, 0, .L1⟩
  | .SPN_HOLD_ACTIVE => ⟨.SPN, 0x24, 0x0, 1, 0x0, 1, false, 28, 1, .RO, 0, .L1⟩
  | .SPN_RATIO_RATIO => ⟨.SPN, 0x28, 0x0, 1, 0x0, 1, false, 0, 16, .RO, 16384, .L2⟩
  | .SPN_RATIO_READY => ⟨.SPN, 0x28, 0x0, 1, 0x0, 1, false, 16, 1, .RO, 0, .L2⟩
  | .SPN_WP_EN => ⟨.SPN, 0x40, 0x0, 1, 0x0, 1, false, 0, 4, .RW, 0, .L2⟩
  | .SPN_WP_WP => ⟨.SPN, 0x40, 0x0, 1, 0x0, 1, false, 4, 4, .RO, 0, .L2⟩
  | .SPN_WP_CAUSE => ⟨.SPN, 0x40, 0x0, 1, 0x0, 1, false, 8, 9, .W1C, 0, .L1⟩
  | .SPN_SHK_THR => ⟨.SPN, 0x44, 0x0, 1, 0x0, 1, false, 0, 8, .RWL, 40, .L2⟩
  | .SPN_SHK_HOLD => ⟨.SPN, 0x44, 0x0, 1, 0x0, 1, false, 8, 8, .RWL, 20, .L2⟩
  | .SPN_SHK_BIASA => ⟨.SPN, 0x44, 0x0, 1, 0x0, 1, false, 16, 8, .RO, 0, .L2⟩
  | .SPN_SHK_BIASB => ⟨.SPN, 0x44, 0x0, 1, 0x0, 1, false, 24, 8, .RO, 0, .L2⟩
  | .OCE_CTL_EN => ⟨.OCE, 0x0, 0x0, 1, 0x0, 1, false, 0, 1, .RW, 0, .L2⟩
  | .OCE_STAT_NOPEN => ⟨.OCE, 0x4, 0x0, 1, 0x0, 1, false, 0, 9, .RO, 0, .L2⟩
  | .OCE_STAT_CTXWR => ⟨.OCE, 0x4, 0x0, 1, 0x0, 1, false, 9, 1, .W1C, 0, .L2⟩
  | .OCE_STAT_ACCERR => ⟨.OCE, 0x4, 0x0, 1, 0x0, 1, false, 10, 1, .W1C, 0, .L2⟩
  | .OCE_CMD_CTX => ⟨.OCE, 0x8, 0x0, 1, 0x0, 1, false, 0, 9, .WO, 0, .L2⟩
  | .OCE_CMD_OP => ⟨.OCE, 0x8, 0x0, 1, 0x0, 1, false, 9, 3, .WO, 0, .L2⟩
  | .OCE_CMD_COUNT => ⟨.OCE, 0x8, 0x0, 1, 0x0, 1, false, 16, 7, .WO, 0, .L2⟩
  | .OCE_RES_CTX => ⟨.OCE, 0xC, 0x0, 1, 0x0, 1, false, 0, 9, .RO, 0, .L2⟩
  | .OCE_RES_OP => ⟨.OCE, 0xC, 0x0, 1, 0x0, 1, false, 9, 3, .RO, 0, .L2⟩
  | .OCE_RES_RESULT => ⟨.OCE, 0xC, 0x0, 1, 0x0, 1, false, 12, 3, .RO, 0, .L2⟩
  | .OCE_RES_BUSY => ⟨.OCE, 0xC, 0x0, 1, 0x0, 1, false, 15, 1, .RO, 0, .L2⟩
  | .OCE_RES_NER => ⟨.OCE, 0xC, 0x0, 1, 0x0, 1, false, 16, 7, .RO, 0, .L2⟩
  | .OCE_HACT_CTX => ⟨.OCE, 0x40, 0x4, 24, 0x0, 1, false, 0, 9, .RO, 0, .L2⟩
  | .OCE_HACT_VALID => ⟨.OCE, 0x40, 0x4, 24, 0x0, 1, false, 15, 1, .RO, 0, .L2⟩
  | .GCTX_MODE => ⟨.OCE, 0x1000, 0x40, 384, 0x0, 1, false, 0, 2, .RO, 0, .L2⟩
  | .GCTX_HEAD => ⟨.OCE, 0x1000, 0x40, 384, 0x0, 1, false, 2, 5, .RW, 0, .L2⟩
  | .GCTX_SETRD => ⟨.OCE, 0x1000, 0x40, 384, 0x0, 1, false, 7, 1, .WO, 0, .L2⟩
  | .GCTX_NDATA => ⟨.OCE, 0x1000, 0x40, 384, 0x0, 1, false, 8, 7, .RO, 0, .L2⟩
  | .GCTX_NPAR => ⟨.OCE, 0x1000, 0x40, 384, 0x0, 1, false, 15, 3, .RO, 0, .L2⟩
  | .GCTX_ERR => ⟨.OCE, 0x1000, 0x40, 384, 0x0, 1, false, 18, 1, .RO, 0, .L2⟩
  | .GCTX_GBASE_GBASE => ⟨.OCE, 0x1008, 0x40, 384, 0x0, 1, true, 0, 64, .RW, 0, .L2⟩
  | .GCTX_ACC_ACC => ⟨.OCE, 0x1010, 0x40, 384, 0x0, 1, true, 0, 64, .RW, 0, .L2⟩
  | .GCTX_ERASE_ERASE => ⟨.OCE, 0x1018, 0x40, 384, 0x0, 1, true, 0, 64, .RW, 0, .L2⟩
  | .GCTX_ERASEP_ERASEP => ⟨.OCE, 0x1020, 0x40, 384, 0x0, 1, true, 0, 4, .RW, 0, .L2⟩
  | .GCTX_LBA0_LBA0 => ⟨.OCE, 0x1028, 0x40, 384, 0x0, 1, true, 0, 64, .RW, 0, .L2⟩
  | .GCTX_ID_BANDSEQ => ⟨.OCE, 0x1030, 0x40, 384, 0x0, 1, false, 0, 16, .RW, 0, .L2⟩
  | .GCTX_ID_NSIDX => ⟨.OCE, 0x1030, 0x40, 384, 0x0, 1, false, 16, 8, .RW, 0, .L2⟩
  | .GCTX_ID_CLASS => ⟨.OCE, 0x1030, 0x40, 384, 0x0, 1, false, 24, 2, .RW, 0, .L2⟩
  | .GCTX_ESCMASK_ESCMASK => ⟨.OCE, 0x1038, 0x40, 384, 0x0, 1, true, 0, 64, .RW, 0, .L2⟩
  | .DMA_CTL_EN => ⟨.DMA, 0x0, 0x0, 1, 0x0, 1, false, 0, 1, .RW, 0, .L2⟩
  | .DMA_CHAIN_MAX_MAX => ⟨.DMA, 0x4, 0x0, 1, 0x0, 1, false, 0, 16, .RW, 4096, .L2⟩
  | .DMA_SWREQ_LINE => ⟨.DMA, 0x8, 0x0, 1, 0x0, 1, false, 0, 7, .WO, 0, .L2⟩
  | .DMA_LPEND_COUNT => ⟨.DMA, 0x100, 0x4, 128, 0x0, 1, false, 0, 8, .RO, 0, .L2⟩
  | .DMA_LPEND_OVF => ⟨.DMA, 0x100, 0x4, 128, 0x0, 1, false, 8, 1, .W1C, 0, .L2⟩
  | .DMA_CHCTL_EN => ⟨.DMA, 0x1000, 0x40, 128, 0x0, 1, false, 0, 1, .RW, 0, .L2⟩
  | .DMA_CHCTL_STOP => ⟨.DMA, 0x1000, 0x40, 128, 0x0, 1, false, 1, 1, .WO, 0, .L2⟩
  | .DMA_CHCTL_LINE => ⟨.DMA, 0x1000, 0x40, 128, 0x0, 1, false, 2, 7, .RW, 0, .L2⟩
  | .DMA_CHCTL_DRAINCH => ⟨.DMA, 0x1000, 0x40, 128, 0x0, 1, false, 9, 1, .RO, 0, .L2⟩
  | .DMA_CHSTAT_STATE => ⟨.DMA, 0x1004, 0x40, 128, 0x0, 1, false, 0, 2, .RO, 0, .L2⟩
  | .DMA_CHSTAT_ERR => ⟨.DMA, 0x1004, 0x40, 128, 0x0, 1, false, 2, 3, .RO, 0, .L2⟩
  | .DMA_CHSTAT_IRQH => ⟨.DMA, 0x1004, 0x40, 128, 0x0, 1, false, 5, 1, .W1C, 0, .L2⟩
  | .DMA_CHSTAT_IRQF => ⟨.DMA, 0x1004, 0x40, 128, 0x0, 1, false, 6, 1, .W1C, 0, .L2⟩
  | .DMA_CHSTAT_GUARDW => ⟨.DMA, 0x1004, 0x40, 128, 0x0, 1, false, 7, 1, .RO, 0, .L2⟩
  | .DMA_CHSTAT_POISON => ⟨.DMA, 0x1004, 0x40, 128, 0x0, 1, false, 8, 1, .W1C, 0, .L2⟩
  | .DMA_CHSTAT_END => ⟨.DMA, 0x1004, 0x40, 128, 0x0, 1, false, 9, 1, .RO, 0, .L2⟩
  | .DMA_CHDESC_ADDR => ⟨.DMA, 0x1008, 0x40, 128, 0x0, 1, true, 0, 64, .RW, 0, .L2⟩
  | .DMA_CHCUR_ADDR => ⟨.DMA, 0x1010, 0x40, 128, 0x0, 1, true, 0, 64, .RO, 0, .L2⟩
  | .DMA_CHDONE_BYTES => ⟨.DMA, 0x1018, 0x40, 128, 0x0, 1, true, 0, 64, .RO, 0, .L2⟩
  | .DMA_CHCRC_CRC => ⟨.DMA, 0x1020, 0x40, 128, 0x0, 1, false, 0, 32, .RO, 0, .L2⟩
  | .DMA_CHNDESC_COUNT => ⟨.DMA, 0x1024, 0x40, 128, 0x0, 1, false, 0, 32, .RO, 0, .L2⟩
  | .DMA_CHBURST_COUNT => ⟨.DMA, 0x1028, 0x40, 128, 0x0, 1, false, 0, 24, .RO, 0, .L2⟩
  | .BUF_CTL_PLOCK => ⟨.BUF, 0x0, 0x0, 1, 0x0, 1, false, 0, 1, .RW, 0, .L2⟩
  | .BUF_CTL_SCRUBEN => ⟨.BUF, 0x0, 0x0, 1, 0x0, 1, false, 1, 1, .RW, 1, .L2⟩
  | .BUF_CTL_RETRAIN => ⟨.BUF, 0x0, 0x0, 1, 0x0, 1, false, 2, 1, .WO, 0, .L2⟩
  | .BUF_CTL_SCRUBPER => ⟨.BUF, 0x0, 0x0, 1, 0x0, 1, false, 8, 8, .RW, 24, .L2⟩
  | .BUF_STAT_TRAINED => ⟨.BUF, 0x4, 0x0, 1, 0x0, 1, false, 0, 2, .RO, 0, .L2⟩
  | .BUF_STAT_HOT => ⟨.BUF, 0x4, 0x0, 1, 0x0, 1, false, 2, 1, .RO, 0, .L2⟩
  | .BUF_STAT_GUARD => ⟨.BUF, 0x4, 0x0, 1, 0x0, 1, false, 3, 1, .RO, 0, .L2⟩
  | .BUF_STAT_PBAD => ⟨.BUF, 0x4, 0x0, 1, 0x0, 1, false, 4, 1, .W1C, 0, .L2⟩
  | .BUF_STAT_POVF => ⟨.BUF, 0x4, 0x0, 1, 0x0, 1, false, 5, 1, .W1C, 0, .L2⟩
  | .BUF_STAT_PNEG => ⟨.BUF, 0x4, 0x0, 1, 0x0, 1, false, 6, 1, .W1C, 0, .L2⟩
  | .BUF_STAT_RTBUSY => ⟨.BUF, 0x4, 0x0, 1, 0x0, 1, false, 7, 1, .RO, 0, .L2⟩
  | .BUF_STAT_TRR0 => ⟨.BUF, 0x4, 0x0, 1, 0x0, 1, false, 8, 3, .RO, 0, .L2⟩
  | .BUF_STAT_TRR1 => ⟨.BUF, 0x4, 0x0, 1, 0x0, 1, false, 11, 3, .RO, 0, .L2⟩
  | .BUF_CECNT_COUNT => ⟨.BUF, 0x8, 0x0, 1, 0x0, 1, false, 0, 32, .RO, 0, .L2⟩
  | .BUF_UECNT_COUNT => ⟨.BUF, 0xC, 0x0, 1, 0x0, 1, false, 0, 32, .RO, 0, .L2⟩
  | .BUF_CEADDR_ADDR => ⟨.BUF, 0x10, 0x0, 1, 0x0, 1, true, 0, 64, .RO, 0, .L2⟩
  | .BUF_UEADDR_ADDR => ⟨.BUF, 0x18, 0x0, 1, 0x0, 1, true, 0, 64, .RO, 0, .L2⟩
  | .BUF_POOL_BASE => ⟨.BUF, 0x100, 0x10, 4, 0x0, 1, false, 0, 16, .RW, 0, .L2⟩
  | .BUF_POOL_SIZE => ⟨.BUF, 0x100, 0x10, 4, 0x0, 1, false, 16, 16, .RW, 0, .L2⟩
  | .BUF_FREE_FREE => ⟨.BUF, 0x104, 0x10, 4, 0x0, 1, false, 0, 24, .RO, 0, .L2⟩
  | .BUF_PRET_UNITS => ⟨.BUF, 0x108, 0x10, 4, 0x0, 1, false, 0, 25, .WO, 0, .L2⟩
  | .BUF_SHAPE_RATE => ⟨.BUF, 0x1000, 0x8, 512, 0x0, 1, false, 0, 16, .RW, 0, .L2⟩
  | .BUF_SHAPE_BURST => ⟨.BUF, 0x1000, 0x8, 512, 0x0, 1, false, 16, 8, .RW, 16, .L2⟩
  | .BUF_TOKENS_TOKENS => ⟨.BUF, 0x1004, 0x8, 512, 0x0, 1, false, 0, 32, .RO, 0, .L2⟩
  | .FRC_CTL_EN => ⟨.FRC, 0x0, 0x0, 1, 0x0, 1, false, 0, 1, .RW, 0, .L2⟩
  | .FRC_KCMD_OP => ⟨.FRC, 0x10, 0x0, 1, 0x0, 1, false, 0, 2, .WO, 0, .L2⟩
  | .FRC_KCMD_NSIDX => ⟨.FRC, 0x10, 0x0, 1, 0x0, 1, false, 8, 8, .WO, 0, .L2⟩
  | .FRC_KADDR_ADDR => ⟨.FRC, 0x18, 0x0, 1, 0x0, 1, true, 0, 64, .RW, 0, .L2⟩
  | .FRC_KSTAT_BUSY => ⟨.FRC, 0x20, 0x0, 1, 0x0, 1, false, 0, 1, .RO, 0, .L2⟩
  | .FRC_KSTAT_RESULT => ⟨.FRC, 0x20, 0x0, 1, 0x0, 1, false, 1, 2, .RO, 0, .L2⟩
  | .FRC_LCTL_GO => ⟨.FRC, 0x100, 0x40, 8, 0x0, 1, false, 0, 1, .WO, 0, .L2⟩
  | .FRC_LCTL_OP => ⟨.FRC, 0x100, 0x40, 8, 0x0, 1, false, 1, 1, .RW, 0, .L2⟩
  | .FRC_LCTL_CLASS => ⟨.FRC, 0x100, 0x40, 8, 0x0, 1, false, 2, 2, .RW, 0, .L2⟩
  | .FRC_LCTL_ENC => ⟨.FRC, 0x100, 0x40, 8, 0x0, 1, false, 4, 1, .RW, 0, .L2⟩
  | .FRC_LCTL_CLOSE => ⟨.FRC, 0x100, 0x40, 8, 0x0, 1, false, 5, 1, .RW, 0, .L2⟩
  | .FRC_LCTL_PHASE => ⟨.FRC, 0x100, 0x40, 8, 0x0, 1, false, 6, 2, .RW, 0, .L2⟩
  | .FRC_LCTL_NSIDX => ⟨.FRC, 0x100, 0x40, 8, 0x0, 1, false, 8, 8, .RW, 0, .L2⟩
  | .FRC_LLBA_LBA => ⟨.FRC, 0x108, 0x40, 8, 0x0, 1, true, 0, 64, .RW, 0, .L2⟩
  | .FRC_LOUT_ADDR => ⟨.FRC, 0x110, 0x40, 8, 0x0, 1, true, 0, 64, .RW, 0, .L2⟩
  | .FRC_LUNIT_ADDR => ⟨.FRC, 0x118, 0x40, 8, 0x0, 1, true, 0, 64, .RW, 0, .L2⟩
  | .FRC_LBUD_BUDGET => ⟨.FRC, 0x120, 0x40, 8, 0x0, 1, false, 0, 17, .RW, 0, .L2⟩
  | .FRC_LBUD_NBLK => ⟨.FRC, 0x120, 0x40, 8, 0x0, 1, false, 17, 11, .RW, 0, .L2⟩
  | .FRC_LID_BANDSEQ => ⟨.FRC, 0x124, 0x40, 8, 0x0, 1, false, 0, 16, .RW, 0, .L2⟩
  | .FRC_LSTAT_STATE => ⟨.FRC, 0x128, 0x40, 8, 0x0, 1, false, 0, 2, .RO, 0, .L2⟩
  | .FRC_LSTAT_OVER => ⟨.FRC, 0x128, 0x40, 8, 0x0, 1, false, 2, 1, .RO, 0, .L2⟩
  | .FRC_LSTAT_VERR => ⟨.FRC, 0x128, 0x40, 8, 0x0, 1, false, 3, 1, .W1C, 0, .L2⟩
  | .FRC_LSTAT_POS => ⟨.FRC, 0x128, 0x40, 8, 0x0, 1, false, 4, 17, .RO, 0, .L2⟩
  | .FRC_LSTAT_PHASEOUT => ⟨.FRC, 0x128, 0x40, 8, 0x0, 1, false, 21, 2, .RO, 0, .L2⟩
  | .FRC_LCNT_NESC => ⟨.FRC, 0x12C, 0x40, 8, 0x0, 1, false, 0, 12, .RO, 0, .L2⟩
  | .FRC_LCNT_NSLOT => ⟨.FRC, 0x12C, 0x40, 8, 0x0, 1, false, 12, 12, .RO, 0, .L2⟩
  | .HIF_CTL_FETCHEN => ⟨.HIF, 0x0, 0x0, 1, 0x0, 1, false, 0, 1, .RW, 0, .L2⟩
  | .HIF_CTL_PAUSE => ⟨.HIF, 0x0, 0x0, 1, 0x0, 1, false, 1, 1, .RW, 0, .L2⟩
  | .HIF_STAT_ADMITTED => ⟨.HIF, 0x4, 0x0, 1, 0x0, 1, false, 0, 18, .RO, 0, .L2⟩
  | .HIF_STAT_PAUSED => ⟨.HIF, 0x4, 0x0, 1, 0x0, 1, false, 18, 1, .RO, 0, .L2⟩
  | .HIF_STAT_LOWTAG => ⟨.HIF, 0x4, 0x0, 1, 0x0, 1, false, 19, 1, .RO, 0, .L2⟩
  | .HIF_STAT_CPLERR => ⟨.HIF, 0x4, 0x0, 1, 0x0, 1, false, 20, 1, .W1C, 0, .L2⟩
  | .HIF_STAT_LRERR => ⟨.HIF, 0x4, 0x0, 1, 0x0, 1, false, 21, 1, .W1C, 0, .L2⟩
  | .HIF_STAT_XERR => ⟨.HIF, 0x4, 0x0, 1, 0x0, 1, false, 22, 1, .W1C, 0, .L2⟩
  | .HIF_TAGCFG_LOW => ⟨.HIF, 0x8, 0x0, 1, 0x0, 1, false, 0, 17, .RW, 8192, .L2⟩
  | .HIF_TAGSTAT_FREE => ⟨.HIF, 0xC, 0x0, 1, 0x0, 1, false, 0, 17, .RO, 129024, .L2⟩
  | .HIF_NACT_NACT => ⟨.HIF, 0x10, 0x0, 1, 0x0, 1, false, 0, 16, .RO, 0, .L2⟩
  | .HIF_NACT_F => ⟨.HIF, 0x10, 0x0, 1, 0x0, 1, false, 16, 6, .RO, 32, .L2⟩
  | .HIF_NEXT_CMDTAG => ⟨.HIF, 0x18, 0x0, 1, 0x0, 1, true, 0, 17, .RO, 0, .L2⟩
  | .HIF_NEXT_FUNC => ⟨.HIF, 0x18, 0x0, 1, 0x0, 1, true, 17, 9, .RO, 0, .L2⟩
  | .HIF_NEXT_SQID => ⟨.HIF, 0x18, 0x0, 1, 0x0, 1, true, 26, 16, .RO, 0, .L2⟩
  | .HIF_NEXT_ORD => ⟨.HIF, 0x18, 0x0, 1, 0x0, 1, true, 62, 1, .RO, 0, .L2⟩
  | .HIF_NEXT_VALID => ⟨.HIF, 0x18, 0x0, 1, 0x0, 1, true, 63, 1, .RO, 0, .L2⟩
  | .HIF_CPLDW0_DW0 => ⟨.HIF, 0x20, 0x0, 1, 0x0, 1, false, 0, 32, .RW, 0, .L2⟩
  | .HIF_CPLDW1_DW1 => ⟨.HIF, 0x24, 0x0, 1, 0x0, 1, false, 0, 32, .RW, 0, .L2⟩
  | .HIF_CPL_CMDTAG => ⟨.HIF, 0x28, 0x0, 1, 0x0, 1, false, 0, 17, .WO, 0, .L2⟩
  | .HIF_CPL_STATUS => ⟨.HIF, 0x28, 0x0, 1, 0x0, 1, false, 17, 15, .WO, 0, .L2⟩
  | .HIF_LREL_CMDTAG => ⟨.HIF, 0x30, 0x0, 1, 0x0, 1, false, 0, 17, .WO, 0, .L2⟩
  | .HIF_LREL_OP => ⟨.HIF, 0x30, 0x0, 1, 0x0, 1, false, 17, 1, .WO, 0, .L2⟩
  | .HIF_PWR_PSREQ => ⟨.HIF, 0x40, 0x0, 1, 0x0, 1, false, 0, 3, .RO, 0, .L2⟩
  | .HIF_PWR_PSNOW => ⟨.HIF, 0x40, 0x0, 1, 0x0, 1, false, 3, 3, .RO, 0, .L2⟩
  | .HIF_PWR_TRANS => ⟨.HIF, 0x40, 0x0, 1, 0x0, 1, false, 6, 1, .RO, 0, .L2⟩
  | .HIF_XLIST_ADDR => ⟨.HIF, 0x50, 0x0, 1, 0x0, 1, true, 0, 64, .RW, 0, .L2⟩
  | .HIF_XFER_CMDTAG => ⟨.HIF, 0x58, 0x0, 1, 0x0, 1, false, 0, 17, .WO, 0, .L2⟩
  | .HIF_XDONE_CMDTAG => ⟨.HIF, 0x60, 0x0, 1, 0x0, 1, true, 0, 17, .RO, 0, .L2⟩
  | .HIF_XDONE_ERR => ⟨.HIF, 0x60, 0x0, 1, 0x0, 1, true, 17, 1, .RO, 0, .L2⟩
  | .HIF_XDONE_VALID => ⟨.HIF, 0x60, 0x0, 1, 0x0, 1, true, 63, 1, .RO, 0, .L2⟩
  | .HIF_FNCAP_TCAP => ⟨.HIF, 0x1000, 0x8, 512, 0x0, 1, false, 0, 17, .RW, 129024, .L2⟩
  | .HIF_FNCAP_WEIGHT => ⟨.HIF, 0x1000, 0x8, 512, 0x0, 1, false, 17, 8, .RW, 1, .L2⟩
  | .HIF_FNTAG_HELD => ⟨.HIF, 0x1004, 0x8, 512, 0x0, 1, false, 0, 17, .RO, 0, .L2⟩
  | .PSW_CFG_POLICY => ⟨.PSW, 0x0, 0x0, 1, 0x0, 1, false, 0, 1, .RWL, 0, .L2⟩
  | .PSW_CFG_HOLDOFF => ⟨.PSW, 0x0, 0x0, 1, 0x0, 1, false, 8, 8, .RWL, 10, .L2⟩
  | .PSW_CFG_ARBAUTO => ⟨.PSW, 0x0, 0x0, 1, 0x0, 1, false, 16, 1, .RW, 1, .L2⟩
  | .PSW_FUSE_JOINPOL => ⟨.PSW, 0x4, 0x0, 1, 0x0, 1, false, 0, 1, .RO, 0, .kept⟩
  | .PSW_PASS_KEY => ⟨.PSW, 0x8, 0x0, 1, 0x0, 1, false, 0, 8, .WO, 0, .L2⟩
  | .PSW_PASS_OPEN => ⟨.PSW, 0x8, 0x0, 1, 0x0, 1, false, 8, 1, .WO, 0, .L2⟩
  | .PSW_PASS_CLOSE => ⟨.PSW, 0x8, 0x0, 1, 0x0, 1, false, 9, 1, .WO, 0, .L2⟩
  | .PSW_PASS_STATE => ⟨.PSW, 0x8, 0x0, 1, 0x0, 1, false, 10, 2, .RO, 0, .L2⟩
  | .PSW_PASS_PENDING => ⟨.PSW, 0x8, 0x0, 1, 0x0, 1, false, 12, 1, .RO, 0, .L2⟩
  | .PSW_PASS_FAULT => ⟨.PSW, 0x8, 0x0, 1, 0x0, 1, false, 13, 1, .RO, 0, .L2⟩
  | .PSW_STAT_USUP => ⟨.PSW, 0xC, 0x0, 1, 0x0, 1, false, 0, 1, .RO, 0, .L2⟩
  | .PSW_STAT_DSUP => ⟨.PSW, 0xC, 0x0, 1, 0x0, 1, false, 1, 1, .RO, 0, .L2⟩
  | .PSW_STAT_JOINEN => ⟨.PSW, 0xC, 0x0, 1, 0x0, 1, false, 2, 1, .RO, 0, .L2⟩
  | .PSW_STAT_TOODEEP => ⟨.PSW, 0xC, 0x0, 1, 0x0, 1, false, 3, 1, .RO, 0, .L2⟩
  | .PSW_STAT_WARN => ⟨.PSW, 0xC, 0x0, 1, 0x0, 1, false, 4, 1, .RO, 0, .L2⟩
  | .PSW_STAT_WORN => ⟨.PSW, 0xC, 0x0, 1, 0x0, 1, false, 5, 1, .RO, 0, .L2⟩
  | .PSW_STAT_DEPTHOK => ⟨.PSW, 0xC, 0x0, 1, 0x0, 1, false, 6, 1, .RO, 0, .L2⟩
  | .PSW_CHAIN_DEPTH => ⟨.PSW, 0x10, 0x0, 1, 0x0, 1, false, 0, 5, .RO, 0, .L2⟩
  | .PSW_CHAIN_BELOW => ⟨.PSW, 0x10, 0x0, 1, 0x0, 1, false, 8, 5, .RO, 0, .L2⟩
  | .PSW_USLNK_SPEED => ⟨.PSW, 0x14, 0x0, 1, 0x0, 1, false, 0, 3, .RO, 0, .L2⟩
  | .PSW_USLNK_WIDTH => ⟨.PSW, 0x14, 0x0, 1, 0x0, 1, false, 3, 5, .RO, 0, .L2⟩
  | .PSW_USLNK_LTSSM => ⟨.PSW, 0x14, 0x0, 1, 0x0, 1, false, 8, 6, .RO, 0, .L2⟩
  | .PSW_USLNK_MARKED => ⟨.PSW, 0x14, 0x0, 1, 0x0, 1, false, 16, 16, .RO, 0, .L2⟩
  | .PSW_DSLNK_SPEED => ⟨.PSW, 0x18, 0x0, 1, 0x0, 1, false, 0, 3, .RO, 0, .L2⟩
  | .PSW_DSLNK_WIDTH => ⟨.PSW, 0x18, 0x0, 1, 0x0, 1, false, 3, 5, .RO, 0, .L2⟩
  | .PSW_DSLNK_LTSSM => ⟨.PSW, 0x18, 0x0, 1, 0x0, 1, false, 8, 6, .RO, 0, .L2⟩
  | .PSW_DSLNK_MARKED => ⟨.PSW, 0x18, 0x0, 1, 0x0, 1, false, 16, 16, .RO, 0, .L2⟩
  | .PSW_ARB_OWNW => ⟨.PSW, 0x1C, 0x0, 1, 0x0, 1, false, 0, 8, .RW, 1, .L2⟩
  | .PSW_ARB_FWDW => ⟨.PSW, 0x1C, 0x0, 1, 0x0, 1, false, 8, 8, .RW, 1, .L2⟩
  | .PSW_PASSCNT_COUNT => ⟨.PSW, 0x20, 0x0, 1, 0x0, 1, false, 0, 32, .RO, 0, .kept⟩
  | .PSW_PASSREC_OPENFLAG => ⟨.PSW, 0x24, 0x0, 1, 0x0, 1, false, 0, 1, .RO, 0, .kept⟩
  | .PSW_PASSREC_LASTCAUSE => ⟨.PSW, 0x24, 0x0, 1, 0x0, 1, false, 4, 4, .RO, 0, .kept⟩
  | .PSW_ID_VID => ⟨.PSW, 0x28, 0x0, 1, 0x0, 1, false, 0, 16, .RWL, 0, .L2⟩
  | .HL_CMD_REQ => ⟨.HLINK, 0x0, 0x100, 4, 0x0, 1, false, 0, 32, .WO, 0, .L2⟩
  | .HL_RESP_DATA => ⟨.HLINK, 0x4, 0x100, 4, 0x0, 1, false, 0, 16, .RO, 0, .L2⟩
  | .HL_RESP_STATUS => ⟨.HLINK, 0x4, 0x100, 4, 0x0, 1, false, 16, 8, .RO, 0, .L2⟩
  | .HL_RESP_VALID => ⟨.HLINK, 0x4, 0x100, 4, 0x0, 1, false, 24, 1, .RO, 0, .L2⟩
  | .HL_RESP_ERR => ⟨.HLINK, 0x4, 0x100, 4, 0x0, 1, false, 25, 1, .RO, 0, .L2⟩
  | .HL_STAT_QLEN => ⟨.HLINK, 0x8, 0x100, 4, 0x0, 1, false, 0, 4, .RO, 0, .L2⟩
  | .HL_STAT_BUSY => ⟨.HLINK, 0x8, 0x100, 4, 0x0, 1, false, 4, 1, .RO, 0, .L2⟩
  | .HL_STAT_FLT => ⟨.HLINK, 0x8, 0x100, 4, 0x0, 1, false, 5, 1, .RO, 0, .L2⟩
  | .HL_STAT_FHEADS => ⟨.HLINK, 0x8, 0x100, 4, 0x0, 1, false, 6, 6, .RO, 0, .L2⟩
  | .HL_STAT_QFULL => ⟨.HLINK, 0x8, 0x100, 4, 0x0, 1, false, 12, 1, .W1C, 0, .L2⟩
  | .HL_STAT_BADCMD => ⟨.HLINK, 0x8, 0x100, 4, 0x0, 1, false, 13, 1, .W1C, 0, .L2⟩
  | .HL_CFG_AUTOFLT => ⟨.HLINK, 0x400, 0x0, 1, 0x0, 1, false, 0, 1, .RW, 1, .L2⟩

/-- Reset values that differ along an array: Table 2-2's gaps, the kept sources of EVC_REC, Table 14-6, and the
DMA channels' own lines (R232). -/
def Reg.resetAt (r : Reg) (i : Nat) : Nat :=
  match r with
  | .AGE_FCLS_THR => [4000, 8, 64, 3, 16, 64, 16, 1].getD i 0
  | .AGE_FCLS_WIN => [3600, 600, 600, 86400, 86400, 86400, 3600, 8].getD i 0
  | .DMA_CHCTL_DRAINCH => if 120 ≤ i then 1 else 0
  | .DMA_CHCTL_LINE => i
  | .EVC_REC_KEEP => if i ∈ [170, 178, 179, 185, 203, 213, 277, 295, 300, 302, 313, 315] then 1 else 0
  | .RST_GAP_GAP => [250, 2500, 250, 1250, 250, 250, 250, 2500, 250, 250].getD i 0
  | r => r.info.rst

/-- The fields of RSTC. -/
def regsOfRSTC : List Reg :=
  [.RST_STAT_LEVEL, .RST_STAT_SRC_POR, .RST_STAT_SRC_PIN, .RST_STAT_SRC_OUT, .RST_STAT_COPY, .RST_STAT_RECOVERY, .RST_STAT_RUNOK, .RST_STAT_LOOP_OPEN,
   .RST_STAT_SRST_REFUSED, .RST_FUSE_PINLVL, .RST_FUSE_BOOT_LIMIT, .RST_FUSE_BOOT_WINDOW, .RST_FUSE_KEYSEL, .RST_OUT_KEY, .RST_OUT_PULSE, .RST_RUNOK_RUNOK,
   .RST_BLK_SEL, .RST_BLK_GO, .RST_BLK_BUSY, .RST_GAP_GAP, .BOOT_TRIES_TRIES, .BOOT_CAUSE_COPYA, .BOOT_CAUSE_COPYB, .BOOT_CAUSE_WINDOW,
   .BOOT_CAUSE_BUFFAIL, .BOOT_CAUSE_HALT, .BKP_VALUE, .LASTGASP_VALUE, .LDR_STAT_REASONA, .LDR_STAT_REASONB, .LDR_STAT_PART, .LDR_STAT_CALEMPTY,
   .LDR_ENTRY_ENTRY, .LDR_SECVER_SECVER, .LDR_SECMIN_SECMIN]

/-- The fields of CLK. -/
def regsOfCLK : List Reg :=
  [.CLK_STAT_LOCK, .CLK_STAT_AONFB, .CLK_STAT_AONLOSS]

/-- The fields of EVC. -/
def regsOfEVC : List Reg :=
  [.EVC_REC_EN, .EVC_REC_MERGE, .EVC_REC_KEEP, .EVC_RDATA_DATA, .EVC_RAISE_SRC, .EVC_RAISE_DLEN, .EVC_MTIME_MTIME, .EVC_MTIMECMP_CMP,
   .EVC_MSIP_MSIP, .EVC_PRIO_PRIO, .EVC_PEND_PEND, .EVC_IE_IE, .EVC_THR_THR, .EVC_CLAIM_SRC, .EVC_CLAIM_VALID]

/-- The fields of EREC. -/
def regsOfEREC : List Reg :=
  [.EREC_CTL_HOLD, .EREC_CTL_REPWIN, .EREC_STAT_MEDONLY, .EREC_STAT_FFULL, .EREC_STAT_HOLDEXP, .EREC_STAT_QLEN, .EREC_GSEQ_GSEQ, .EREC_CHEAD_CHEAD,
   .EREC_CSPILL_CSPILL, .EREC_FCOUNT_FCOUNT, .EREC_LOST_COUNT, .EREC_UNSPILL_COUNT, .EREC_OPTIME_OPTIME, .EREC_PCYC_PCYC, .EREC_STARTS_STARTS, .EREC_MRING_BASE,
   .EREC_MHEAD_MHEAD, .EREC_MSPILL_MSPILL, .EREC_RETIRED_C, .EREC_RETIRED_F]

/-- The fields of L2C. -/
def regsOfL2C : List Reg :=
  [.L2_CTL_EN, .L2_CTL_FILLWAYS, .L2_STAT_ENABLED, .L2_STAT_DRAINING, .L2_STAT_INITBUSY, .L2_STAT_ENREF, .L2_STAT_LOCKREF, .L2_STAT_INVREF,
   .L2_STAT_LOST, .L2_LOCK_WAYS, .L2_INVR_GO, .L2_INVR_OP, .L2_INVR_LOCKED_TOO, .L2_INVBASE_BASE, .L2_INVLEN_LEN, .L2_INVSTAT_BUSY,
   .L2_INVSTAT_DONE, .L2_INVCNT_SKIPPED, .L2_INVCNT_DISCARDED, .L2_PERR_TAGERR, .L2_PERR_DATAERR, .L2_PERRADDR_ADDR, .L2_HITCNT_COUNT, .L2_MISSCNT_COUNT]

/-- The fields of AGE. -/
def regsOfAGE : List Reg :=
  [.AGE_CTL_GUARDEN, .AGE_STAT_ATMAX, .AGE_STAT_PMBERR, .AGE_STAT_BUSY, .AGE_VLIM_VMIN, .AGE_VLIM_VMAX, .AGE_VOUT_VOUT, .AGE_PMB_ADDR,
   .AGE_PMB_PAGE, .AGE_PMB_EXP, .AGE_GUARD_THR, .AGE_GUARD_STEP, .AGE_PDMIN_SLACK, .AGE_PDMIN_MON, .AGE_TEMP_TEMP, .AGE_PDM_SLACK,
   .AGE_PDM_MIN, .AGE_FCLS_WIN, .AGE_FCLS_THR, .AGE_FSTAT_LASTING, .AGE_FCNT_COUNT]

/-- The fields of HSE. -/
def regsOfHSE : List Reg :=
  [.HSE_CTL_RUN, .HSE_CTL_SGAUTO, .HSE_STAT_STATE, .HSE_STAT_IDLE, .HSE_STAT_HALTC, .HSE_STAT_OWNVIOL, .HSE_STAT_ATOMOVR, .HSE_STAT_STWR,
   .HSE_STAT_CQERR, .HSE_STAT_GATES, .HSE_UPC_UPC, .HSE_UPC_DEPTH, .HSE_UPC_CSD, .HSE_TPEND_PEND, .HSE_TMASK_MASK, .HSE_DOORBELL_CMD,
   .HSE_DOORBELL_ABORT, .HSE_FLAGS_F, .HSE_FLAGS_MB, .HSE_KO_KO_PRE, .HSE_KO_KO_POST, .HSE_WT_WT, .HSE_WT_WIDX, .HSE_WPER_WPER,
   .HSE_TRK_TRK, .HSE_SLOTCNT_SLOT, .HSE_SLOTCNT_CNT, .HSE_CMP_CMP0, .HSE_CMP_CMP1, .HSE_LC_LC0, .HSE_LC_LC1, .HSE_WCMP_WCMP,
   .HSE_DSKN_DSKN, .HSE_BRK_ADDR, .HSE_BRK_EN, .HSE_CQPTR_HEAD, .HSE_CQPTR_TAIL, .HSE_DONE_CMDTAG, .HSE_DONE_STATUS, .HSE_DONE_FRAMES,
   .HSE_DONE_QIDX, .HSE_DONE_VALID]

/-- The fields of CHAN. -/
def regsOfCHAN : List Reg :=
  [.CHAN_CTL_EN, .CHAN_CTL_GEN, .CHAN_CTL_ADAPT, .CHAN_CTL_CLRSTAT, .CHAN_STAT_ENA, .CHAN_STAT_HBAD, .CHAN_STAT_RLIM, .CHAN_STAT_LOCKED,
   .CHAN_STAT_SBVALID, .CHAN_STAT_RDBUSY, .CHAN_STAT_RDREF, .CHAN_STAT_WFLT, .CHAN_STAT_POISON, .CHAN_RATE_ZRATE, .CHAN_BITRATE_RATE, .CHAN_FRM_MARK_TOL,
   .CHAN_FRM_GMAX, .CHAN_FRM_ITER_MAX, .CHAN_AFE_CTFC, .CHAN_AFE_CTFB, .CHAN_AFE_AGCT, .CHAN_ADAPT_MU, .CHAN_ADAPT_FREEZE, .CHAN_EQ_TAP,
   .CHAN_TGT_TGT, .CHAN_SNR_LAST, .CHAN_SNR_AVG, .CHAN_LAST_RESULT, .CHAN_LAST_CAND, .CHAN_LAST_ITER, .CHAN_LAST_UNSAT, .CHAN_RDEC_OFS,
   .CHAN_RDEC_ITER, .CHAN_RDEC_REDET, .CHAN_RDEC_GO, .CHAN_NFRM_COUNT, .CHAN_NGAMB_COUNT, .CHAN_NNOSYNC_COUNT, .CHAN_NDEC_COUNT, .CHAN_NTAG_COUNT,
   .CHAN_NWR_COUNT, .CHAN_ITH_COUNT, .CHAN_WAFRM_COUNT]

/-- The fields of SCE. -/
def regsOfSCE : List Reg :=
  [.SCE_CTL_RUN, .SCE_CTL_LOAD, .SCE_CTL_UNLOAD, .SCE_CTL_REFHEAD, .SCE_CTL_MEN, .SCE_CTL_FRICEN, .SCE_CTL_XFFEN, .SCE_STAT_STATE,
   .SCE_STAT_LOADED, .SCE_STAT_REFACT, .SCE_STAT_SATV, .SCE_STAT_SATM, .SCE_STAT_OUTWIN, .SCE_STAT_SEEKTMO, .SCE_STAT_CLAMPTRK, .SCE_STAT_LOADREF,
   .SCE_BANKSEL_ACTIVE, .SCE_BANKSEL_SWAP, .SCE_BANKSEL_PENDING, .SCE_BANKSEL_AUTO, .SCE_BANKSEL_WRACT, .SCE_BANKSEL_REFUSED, .SCE_DEADLINE_DL, .SCE_LATE_LM,
   .SCE_LATE_LV, .SCE_LATECNT_COUNT, .SCE_PLAUS_THR_THR, .SCE_PLAUS_THR_GRAYTOL, .SCE_PLAUS_N_N, .SCE_PLAUS_N_OK, .SCE_PLAUS_N_LATE_LIM, .SCE_HSTAT_PLAUS,
   .SCE_HSTAT_ARMPL, .SCE_HSTAT_RDY_RD, .SCE_HSTAT_RDY_WR, .SCE_CTGT_CTGT, .SCE_POS_POS, .SCE_MINTRK_MINTRK, .SCE_MAXTRK_MAXTRK, .SCE_HTGT_HTGT,
   .SCE_HPOS_HPOS, .SCE_HCAL0_HOFS, .SCE_HCAL1_PGAIN, .SCE_PROF_A_AMAX, .SCE_PROF_A_DMAX, .SCE_PROF_V_VMAX, .SCE_PROF_V_ASLEW, .SCE_SETTLE_RDTOL,
   .SCE_SETTLE_RDN, .SCE_SETTLE_WRTOL, .SCE_SETTLE_WRN, .SCE_SETTLE_SEEKTMO, .SCE_FRIC0_BASE, .SCE_FRIC0_SHIFT, .SCE_FRIC1_FRIC_C, .SCE_FRIC1_DEADV,
   .SCE_LOAD_LOADV, .SCE_LOAD_LOADTMO]

/-- The fields of SPN. -/
def regsOfSPN : List Reg :=
  [.SPN_CTL_COGEN, .SPN_CTL_TAKE, .SPN_CTL_CLROV, .SPN_CTL_CLRCHOP, .SPN_CTL_ADV, .SPN_TGT_TGT, .SPN_STAT_STATE, .SPN_STAT_LOCK,
   .SPN_STAT_CLAMPED, .SPN_STAT_HLHOLD, .SPN_STAT_BUSWATCH, .SPN_STAT_CHOPON, .SPN_STAT_CHOPFLT, .SPN_STAT_OV2, .SPN_STAT_ATTEMPT, .SPN_STAT_FAIL,
   .SPN_MEAS_SPEED, .SPN_MEAS_VBUS, .SPN_RAMP_ACC, .SPN_RAMP_DEC, .SPN_LIM_SPDMIN, .SPN_LIM_SPDMAX, .SPN_LIM2_HLMIN, .SPN_LIM2_REFRPM,
   .SPN_START_ALIGN_I, .SPN_START_ALIGN_T, .SPN_START_BLIND_I, .SPN_START_BLIND_ACC, .SPN_ILIM_ILIM, .SPN_ILIM_BRKTMO, .SPN_ILIM_RETV, .SPN_ILIM_RETI,
   .SPN_HOLD_SPD, .SPN_HOLD_ICMD, .SPN_HOLD_ACTIVE, .SPN_RATIO_RATIO, .SPN_RATIO_READY, .SPN_WP_EN, .SPN_WP_WP, .SPN_WP_CAUSE,
   .SPN_SHK_THR, .SPN_SHK_HOLD, .SPN_SHK_BIASA, .SPN_SHK_BIASB]

/-- The fields of OCE. -/
def regsOfOCE : List Reg :=
  [.OCE_CTL_EN, .OCE_STAT_NOPEN, .OCE_STAT_CTXWR, .OCE_STAT_ACCERR, .OCE_CMD_CTX, .OCE_CMD_OP, .OCE_CMD_COUNT, .OCE_RES_CTX,
   .OCE_RES_OP, .OCE_RES_RESULT, .OCE_RES_BUSY, .OCE_RES_NER, .OCE_HACT_CTX, .OCE_HACT_VALID, .GCTX_MODE, .GCTX_HEAD,
   .GCTX_SETRD, .GCTX_NDATA, .GCTX_NPAR, .GCTX_ERR, .GCTX_GBASE_GBASE, .GCTX_ACC_ACC, .GCTX_ERASE_ERASE, .GCTX_ERASEP_ERASEP,
   .GCTX_LBA0_LBA0, .GCTX_ID_BANDSEQ, .GCTX_ID_NSIDX, .GCTX_ID_CLASS, .GCTX_ESCMASK_ESCMASK]

/-- The fields of DMA. -/
def regsOfDMA : List Reg :=
  [.DMA_CTL_EN, .DMA_CHAIN_MAX_MAX, .DMA_SWREQ_LINE, .DMA_LPEND_COUNT, .DMA_LPEND_OVF, .DMA_CHCTL_EN, .DMA_CHCTL_STOP, .DMA_CHCTL_LINE,
   .DMA_CHCTL_DRAINCH, .DMA_CHSTAT_STATE, .DMA_CHSTAT_ERR, .DMA_CHSTAT_IRQH, .DMA_CHSTAT_IRQF, .DMA_CHSTAT_GUARDW, .DMA_CHSTAT_POISON, .DMA_CHSTAT_END,
   .DMA_CHDESC_ADDR, .DMA_CHCUR_ADDR, .DMA_CHDONE_BYTES, .DMA_CHCRC_CRC, .DMA_CHNDESC_COUNT, .DMA_CHBURST_COUNT]

/-- The fields of BUF. -/
def regsOfBUF : List Reg :=
  [.BUF_CTL_PLOCK, .BUF_CTL_SCRUBEN, .BUF_CTL_RETRAIN, .BUF_CTL_SCRUBPER, .BUF_STAT_TRAINED, .BUF_STAT_HOT, .BUF_STAT_GUARD, .BUF_STAT_PBAD,
   .BUF_STAT_POVF, .BUF_STAT_PNEG, .BUF_STAT_RTBUSY, .BUF_STAT_TRR0, .BUF_STAT_TRR1, .BUF_CECNT_COUNT, .BUF_UECNT_COUNT, .BUF_CEADDR_ADDR,
   .BUF_UEADDR_ADDR, .BUF_POOL_BASE, .BUF_POOL_SIZE, .BUF_FREE_FREE, .BUF_PRET_UNITS, .BUF_SHAPE_RATE, .BUF_SHAPE_BURST, .BUF_TOKENS_TOKENS]

/-- The fields of FRC. -/
def regsOfFRC : List Reg :=
  [.FRC_CTL_EN, .FRC_KCMD_OP, .FRC_KCMD_NSIDX, .FRC_KADDR_ADDR, .FRC_KSTAT_BUSY, .FRC_KSTAT_RESULT, .FRC_LCTL_GO, .FRC_LCTL_OP,
   .FRC_LCTL_CLASS, .FRC_LCTL_ENC, .FRC_LCTL_CLOSE, .FRC_LCTL_PHASE, .FRC_LCTL_NSIDX, .FRC_LLBA_LBA, .FRC_LOUT_ADDR, .FRC_LUNIT_ADDR,
   .FRC_LBUD_BUDGET, .FRC_LBUD_NBLK, .FRC_LID_BANDSEQ, .FRC_LSTAT_STATE, .FRC_LSTAT_OVER, .FRC_LSTAT_VERR, .FRC_LSTAT_POS, .FRC_LSTAT_PHASEOUT,
   .FRC_LCNT_NESC, .FRC_LCNT_NSLOT]

/-- The fields of HIF. -/
def regsOfHIF : List Reg :=
  [.HIF_CTL_FETCHEN, .HIF_CTL_PAUSE, .HIF_STAT_ADMITTED, .HIF_STAT_PAUSED, .HIF_STAT_LOWTAG, .HIF_STAT_CPLERR, .HIF_STAT_LRERR, .HIF_STAT_XERR,
   .HIF_TAGCFG_LOW, .HIF_TAGSTAT_FREE, .HIF_NACT_NACT, .HIF_NACT_F, .HIF_NEXT_CMDTAG, .HIF_NEXT_FUNC, .HIF_NEXT_SQID, .HIF_NEXT_ORD,
   .HIF_NEXT_VALID, .HIF_CPLDW0_DW0, .HIF_CPLDW1_DW1, .HIF_CPL_CMDTAG, .HIF_CPL_STATUS, .HIF_LREL_CMDTAG, .HIF_LREL_OP, .HIF_PWR_PSREQ,
   .HIF_PWR_PSNOW, .HIF_PWR_TRANS, .HIF_XLIST_ADDR, .HIF_XFER_CMDTAG, .HIF_XDONE_CMDTAG, .HIF_XDONE_ERR, .HIF_XDONE_VALID, .HIF_FNCAP_TCAP,
   .HIF_FNCAP_WEIGHT, .HIF_FNTAG_HELD]

/-- The fields of PSW. -/
def regsOfPSW : List Reg :=
  [.PSW_CFG_POLICY, .PSW_CFG_HOLDOFF, .PSW_CFG_ARBAUTO, .PSW_FUSE_JOINPOL, .PSW_PASS_KEY, .PSW_PASS_OPEN, .PSW_PASS_CLOSE, .PSW_PASS_STATE,
   .PSW_PASS_PENDING, .PSW_PASS_FAULT, .PSW_STAT_USUP, .PSW_STAT_DSUP, .PSW_STAT_JOINEN, .PSW_STAT_TOODEEP, .PSW_STAT_WARN, .PSW_STAT_WORN,
   .PSW_STAT_DEPTHOK, .PSW_CHAIN_DEPTH, .PSW_CHAIN_BELOW, .PSW_USLNK_SPEED, .PSW_USLNK_WIDTH, .PSW_USLNK_LTSSM, .PSW_USLNK_MARKED, .PSW_DSLNK_SPEED,
   .PSW_DSLNK_WIDTH, .PSW_DSLNK_LTSSM, .PSW_DSLNK_MARKED, .PSW_ARB_OWNW, .PSW_ARB_FWDW, .PSW_PASSCNT_COUNT, .PSW_PASSREC_OPENFLAG, .PSW_PASSREC_LASTCAUSE,
   .PSW_ID_VID]

/-- The fields of HLINK. -/
def regsOfHLINK : List Reg :=
  [.HL_CMD_REQ, .HL_RESP_DATA, .HL_RESP_STATUS, .HL_RESP_VALID, .HL_RESP_ERR, .HL_STAT_QLEN, .HL_STAT_BUSY, .HL_STAT_FLT,
   .HL_STAT_FHEADS, .HL_STAT_QFULL, .HL_STAT_BADCMD, .HL_CFG_AUTOFLT]

/-- The fields of a block. -/
def Blk.regs : Blk → List Reg
  | .RSTC => regsOfRSTC
  | .CLK => regsOfCLK
  | .EVC => regsOfEVC
  | .EREC => regsOfEREC
  | .L2C => regsOfL2C
  | .AGE => regsOfAGE
  | .HSE => regsOfHSE
  | .CHAN => regsOfCHAN
  | .SCE => regsOfSCE
  | .SPN => regsOfSPN
  | .OCE => regsOfOCE
  | .DMA => regsOfDMA
  | .BUF => regsOfBUF
  | .FRC => regsOfFRC
  | .HIF => regsOfHIF
  | .PSW => regsOfPSW
  | .HLINK => regsOfHLINK

end Sys2Proof
end

