-- ==== Sys2Proof/Machine/Tab.lean ====
section
/-! DEFINITION. Machine/Tab.lean: a sparse table held as a list of key and value pairs in one canonical form: keys strictly
rising, no entry equal to what an unlisted key reads as. Registers, memory bytes and per-unit state are kept so. -/

namespace Sys2Proof

/-- Reads the entry of a key; d is what an unlisted key reads as. -/
def Tab.get {K α : Type} [DecidableEq K] (d : α) (k : K) : List (K × α) → α
  | [] => d
  | e :: t => if e.1 = k then e.2 else Tab.get d k t

/-- The table without the entries of a key. -/
def Tab.drop {K α : Type} [DecidableEq K] (k : K) : List (K × α) → List (K × α)
  | [] => []
  | e :: t => if e.1 = k then Tab.drop k t else e :: Tab.drop k t

/-- Places an entry before the first greater key. -/
def Tab.place {K α : Type} (lt : K → K → Bool) (k : K) (v : α) : List (K × α) → List (K × α)
  | [] => [(k, v)]
  | e :: t => if lt k e.1 then (k, v) :: e :: t else e :: Tab.place lt k v t

/-- Writes the entry of a key; writing what an unlisted key reads as removes it. -/
def Tab.put {K α : Type} [DecidableEq K] [DecidableEq α] (lt : K → K → Bool) (d : α) (k : K) (v : α)
    (t : List (K × α)) : List (K × α) :=
  if v = d then Tab.drop k t else Tab.place lt k v (Tab.drop k t)

/-- The canonical form. d gives what each unlisted key reads as. -/
def Tab.wf {K α : Type} [DecidableEq α] (lt : K → K → Bool) (d : K → α) : List (K × α) → Bool
  | [] => true
  | e :: t => decide (e.2 ≠ d e.1) && t.all (fun x => lt e.1 x.1) && Tab.wf lt d t

/-- The bytes of a run from address a that differ from d, as entries. -/
def Tab.listed {α : Type} [DecidableEq α] (d : α) (a : Nat) : List α → List (Nat × α)
  | [] => []
  | b :: t => if b = d then Tab.listed d (a + 1) t else (a, b) :: Tab.listed d (a + 1) t

/-- Writes a run of bytes from address a. -/
def Tab.splice {α : Type} [DecidableEq α] (d : α) (a : Nat) (bs : List α) (t : List (Nat × α)) : List (Nat × α) :=
  t.filter (fun e => decide (e.1 < a)) ++ Tab.listed d a bs ++ t.filter (fun e => decide (a + bs.length ≤ e.1))

/-- The order of number keys. -/
def natLt (a b : Nat) : Bool := decide (a < b)

/-- Table keyed by numbers. -/
abbrev NTab (α : Type) := List (Nat × α)

def NTab.get {α : Type} (d : α) (k : Nat) (t : NTab α) : α := Tab.get d k t
def NTab.put {α : Type} [DecidableEq α] (d : α) (k : Nat) (v : α) (t : NTab α) : NTab α := Tab.put natLt d k v t

/-- A set of numbers kept in a table. -/
abbrev NSet := NTab Bool
def NSet.has (k : Nat) (t : NSet) : Bool := Tab.get false k t
def NSet.add (k : Nat) (t : NSet) : NSet := Tab.put natLt false k true t
def NSet.del (k : Nat) (t : NSet) : NSet := Tab.put natLt false k false t

end Sys2Proof
end

