-- ==== Sys2Proof/Machine/State.lean ====
section
/-! DEFINITION. Machine/State.lean: everything the spec gives the module to hold, as plain data, the queue of waiting
commands, and the state at reset. Register fields live in regs, memories in mem; what else an engine remembers
stands in that engine's part. -/

namespace Sys2Proof.Machine

/-- The reasons a run can stop with a fault. -/
inductive Fault where
  /-- Raised by no command: every access the spec forbids is answered by the spec itself (R352, R423), with an event
  and an access fault at the hart, so the block goes on. Safe. -/
  | none
  deriving DecidableEq, Repr

/-- The reasons a command has no meaning. -/
inductive Refusal where
  /-- Raised by Dispatch for a row without a meaning yet. Safe. -/
  | notModelled (mnemonic : String)
  deriving DecidableEq, Repr

/-- Why RSTOUT_N is being driven low (R54), in the order event 297 lists. -/
inductive PulseCause where
  | firmware
  | window
  | loader
  deriving DecidableEq, Repr

/-- The reset controller and the boot loader (R31 to R58, R66 to R69). -/
structure Rstc where
  /-- Power-on source asserted. -/
  por : Bool := false
  /-- SYSRST_N accepted low. -/
  pin : Bool := false
  /-- Level of the sequence in force. -/
  level : Fin 3 := 0
  tookPor : Bool := false
  tookPin : Bool := false
  tookOut : Bool := false
  /-- PCYC has counted the power-on of this start (R377). -/
  counted : Bool := false
  /-- XSYS oscillates, as the RSTC last found it (R412). -/
  xsys : Bool := true
  /-- Last release step released. -/
  step : Nat := 0
  /-- Its completion condition holds, so the next gap runs. -/
  done : Bool := false
  /-- Attempts begun at step 2 or 3. -/
  attempts : Nat := 0
  halted : Bool := false
  /-- LP5X training failed in this start (R47). -/
  buffail : Bool := false
  recovery : Bool := false
  /-- RWL fields are locked (R6). -/
  locked : Bool := false
  pulse : Option PulseCause := none
  /-- SYSRST_N was seen low during the pulse (R54). -/
  pulseSeen : Bool := false
  /-- The BOOT_WINDOW timer runs (R44). -/
  window : Bool := false
  /-- Event 299 waits for its acknowledgement (R45). -/
  windowAck : Bool := false
  /-- A loader restart took part in this start (R49). -/
  restarted : Bool := false
  /-- XSPI_RESET_N has risen and G6 runs (R409). -/
  restartGap : Bool := false
  /-- The loader has recorded a failed start (R46), so its window has ended. -/
  failed : Bool := false
  /-- The loader is reading copy B. -/
  copyB : Bool := false
  reasonA : Nat := 15
  reasonB : Nat := 15
  part : Nat := 0
  calEmpty : Bool := false
  /-- Partitions 4, 5 and 6 of the image loaded at this start (R77). -/
  parts : List (List Byte) := []
  /-- FWVER of the image that runs (R61). -/
  fwver : List Byte := []
  /-- XSPI_RESET_N is high (R409). -/
  xspi : Bool := false
  entry : Nat := 0
  secver : Nat := 0
  /-- 0 copy A, 1 copy B, 3 none. -/
  copy : Nat := 3
  /-- Block whose soft reset runs (R56). -/
  soft : Option Nat := none
  deriving DecidableEq, Repr

/-- What a NOR write belongs to (R73 to R78). -/
inductive NorKind where
  | fragment
  | calibration
  | selfCal
  | commitReset
  | commitCopy
  | commitPlain
  | commitRecovery
  | commitActivate
  deriving DecidableEq, Repr

/-- One erase, program and read-back (R426): the range, whether it is erased first, and the bytes programmed. -/
structure NorOp where
  lo : Nat
  hi : Nat
  erase : Bool := true
  prog : List (Nat × List Byte)
  deriving DecidableEq, Repr

/-- One command's NOR writes, in order. While it waits (R78) its writes are not yet worked out: they follow from the NOR
and the staged image at its turn. -/
structure NorJob where
  kind : NorKind
  tag : Nat
  /-- Admission number of its command. -/
  seq : Nat
  /-- The fragment's offset in the copy, or the commit's slot. -/
  ofs : Nat := 0
  /-- The fragment or the calibration set to be written. -/
  data : List Byte := []
  ops : List NorOp := []
  deriving DecidableEq, Repr

/-- An event in the recorder's input queue (R369). -/
structure Ent where
  src : Nat
  seq : Nat
  fw : Bool
  trunc : Bool
  data : List Byte
  opt : Nat
  pcyc : Nat
  deriving DecidableEq, Repr

/-- One fault class count: class, instance, sub-window, events (R385). -/
structure AgeCount where
  cls : Nat
  inst : Nat
  sub : Nat
  n : Nat
  deriving DecidableEq, Repr

/-- The EVC's working sequence numbers and edge sources, the recorder's queue and the AGE's counts. -/
structure Ev where
  /-- Next number of each source (R370). -/
  seq : NTab Nat := []
  /-- Pending edge sources (R364). -/
  edge : NSet := []
  /-- Source in service: hart + 1, 0 none (R366). -/
  svc : NTab Nat := []
  queue : List Ent := []
  lost : Nat := 0
  /-- First source of the run of lost events (R369). -/
  run : Option Nat := none
  /-- Sources whose next record carries GAP. -/
  gap : NSet := []
  counts : List AgeCount := []
  deriving DecidableEq, Repr

/-- The recorder's retired slots, failure tallies and the hold timer (R376 to R383). -/
structure Erec where
  retC : NSet := []
  retF : NSet := []
  /-- Area C slots from CSPILL up to CHEAD, 512 when every one waits to be spilled (R384). -/
  unsp : Nat := 0
  /-- Area C slot of each source's newest record + 1; 0 when that record lies elsewhere or there is none. -/
  newest : NTab Nat := []
  /-- The merged record whose slot was retired, waiting to be written again (R382). -/
  redo : List Byte := []
  /-- Control block version of the current copy, and which copy it is. -/
  ver : Nat := 0
  cur : Nat := 0
  deriving DecidableEq, Repr

/-- Ageing monitors (R388 to R390). -/
structure Age where
  /-- VOUT_MODE has been read (R390). -/
  mode : Bool := false
  /-- Thermal levels in force: 0 over threshold, 1 WCTEMP, 2 CCTEMP (Table 14-8). -/
  levels : NSet := []
  /-- Core voltage in force, mV, as far as known; 0 while it is not (R390). -/
  volt : Nat := 0
  deriving DecidableEq, Repr

/-- Power die, supplies and write permit (R9, R94 to R101, R126, R399 to R405). -/
structure Pwr where
  /-- Isolation switch closed (R401). -/
  iso : Bool := false
  /-- VBUS, VPRE and core conditions of Table 5-5 hold. -/
  v12 : Bool := false
  vpre : Bool := false
  core : Bool := false
  /-- The supervisor reports the controller die's supplies good (R399). -/
  good : Bool := false
  /-- Controller die over-temperature trip in force (R414). -/
  hot : Bool := false
  /-- An excursion's hold runs (R126). -/
  shock : Bool := false
  soundA : Bool := false
  soundB : Bool := false
  /-- The input's rest bias has started since the last level reset (R405). -/
  biasA : Bool := false
  biasB : Bool := false
  /-- An input has left its shock window and may still be outside (R405). -/
  outside : Bool := false
  /-- Arms whose last report says plausible, and whose report is fresh. -/
  plaus : NSet := []
  fresh : NSet := []
  /-- Power-die link alive. -/
  link : Bool := false
  /-- Retract phase: 0 none, 1 velocity, 2 push (R100). -/
  retract : Nat := 0
  /-- The power die has reached 120 °C and not yet fallen below 100 °C (R414). -/
  hotDie : Bool := false
  /-- Microactuator rails in range (R404). -/
  ma : Bool := false
  /-- The power die's last sample of the bus at VMOT, 10 mV steps (R94, R401). -/
  vmot : Nat := 0
  /-- Voice coil bridges switched off (R403), by arm. -/
  tripped : NSet := []
  /-- The spindle turns. -/
  turning : Bool := false
  /-- Cause 6 close waits for good supplies (R334). -/
  close6 : Bool := false
  /-- Events of the power die waiting for the link or step 5: source and data items (R98, R99). -/
  held : List (Nat × List (Nat × Nat)) := []
  deriving DecidableEq, Repr

/-- SAT flag of an integrator (R112). -/
inductive Sat where
  | clear
  | high
  | low
  deriving DecidableEq, Repr

/-- Speed loop and start sequence of SCE[4] (R82 to R92). -/
structure Spn where
  /-- SCE[4] controls the spindle. -/
  loop : Bool := false
  ramp : Rat := 0
  dramp : Rat := 0
  meas : Rat := 0
  integ : Rat := 0
  sat : Sat := .clear
  /-- Samples the integrator has been saturated in a row (event 161). -/
  satRun : Nat := 0
  /-- Command the power die last applied, and its value before the limits. -/
  icmd : Rat := 0
  vApp : Rat := 0
  /-- Effective target, rpm. -/
  tgt : Nat := 0
  /-- Last six crossing intervals, newest first. -/
  ivals : List Nat := []
  inRun : Nat := 0
  outRun : Nat := 0
  /-- The observe window is the second one (Table 4-6). -/
  again : Bool := false
  /-- Alignment vector driven: 0 first, 1 second. -/
  vec : Nat := 0
  /-- Step of Table 4-1 in force or next to begin, 0 with none (R81). -/
  comm : Nat := 0
  /-- The brake stops the spindle for a zero target, not for a start. -/
  stopping : Bool := false
  /-- A start follows the stop (R89). -/
  restart : Bool := false
  /-- OV1 has engaged in this deceleration (R94). -/
  ov1 : Bool := false
  /-- TAKE waits for the next crossing (R99). -/
  take : Bool := false
  /-- Notices sent on the rate bus and not yet received (R90). -/
  leave : Bool := false
  ready : Bool := false
  /-- Deadline missed for the sample at hand, and the late run is on (R109). -/
  late : Bool := false
  lateRun : Bool := false
  swap : Bool := false
  /-- Commands that follow the last crossing's own (R85): the cycle each is sent at, in sixteenths, its value before the limits and after. -/
  plan : List (Nat × Rat × Rat) := []
  deriving DecidableEq, Repr

/-- A sample record of Table 5-2 in an SCE's input queue. -/
structure Sample where
  head : Nat
  pos : Nat
  widx : Nat
  valid : Bool
  corr : Bool
  miss : Bool
  idxerr : Bool
  lowamp : Bool
  trkerr : Bool
  /-- Its PES-valid instant, counted on its arm (R108). -/
  inst : Nat := 0
  /-- SCE_DEADLINE has passed without its output (R109). -/
  late : Bool := false
  deriving DecidableEq, Repr

/-- Second-order filter memory, direct form II transposed (R116). -/
structure Bq where
  z1 : Rat := 0
  z2 : Rat := 0
  deriving DecidableEq, Repr

/-- One microactuator loop and its head's judgements (R113, R123, R124). -/
structure Micro where
  integ : Rat := 0
  sat : Sat := .clear
  /-- Pre-filter sum and output the driver last applied. -/
  vApp : Rat := 0
  uApp : Rat := 0
  bq : Bq := {}
  oob : Nat := 0
  good : Nat := 0
  lateN : Nat := 0
  lateRun : Bool := false
  rdN : Nat := 0
  wrN : Nat := 0
  err : Rat := 0
  swap : Bool := false
  /-- Position the SCE predicts for the head's next sample (R107). -/
  pred : Option Rat := none
  /-- Wedge index of the head's last sample. -/
  widx : Option Nat := none
  /-- Residual of the head's last judged sample (R124, R125). -/
  res : Int := 0
  deriving DecidableEq, Repr

/-- What SCE[a] holds beside its registers and banks (R108 to R124). -/
structure ArmS where
  queue : List Sample := []
  /-- PES-valid instants seen (R108). -/
  inst : Nat := 0
  pc : Rat := 0
  ePrev : Rat := 0
  err : Rat := 0
  integ : Rat := 0
  sat : Sat := .clear
  vApp : Rat := 0
  /-- Voice coil output applied, 0.1 mA. -/
  uApp : Rat := 0
  n1 : Bq := {}
  n2 : Bq := {}
  lateN : Nat := 0
  lateRun : Bool := false
  swap : Bool := false
  /-- Observer (R124). -/
  ph : Rat := 0
  vh : Rat := 0
  /-- Profile generator (R121, R122): position and velocity before the spreading over ASLEW samples, in tracks and
  ms, and whether it brakes to turn. -/
  rp : Rat := 0
  rv : Rat := 0
  turn : Bool := false
  /-- Positions and accelerations of its last ASLEW samples, newest first. -/
  hist : List (Rat × Rat) := []
  /-- Last output broadcast, and those of the other arms last used (R115). -/
  cast : Rat := 0
  used : NTab Rat := []
  /-- Valid samples in a row while loading (R120). -/
  okRun : Nat := 0
  micro : NTab Micro := []
  deriving DecidableEq, Repr

/-- Life of a command (Table 10-7). -/
inductive CmdSt where
  | admitted
  | credited
  | started
  | completed
  | posted
  deriving DecidableEq, Repr

/-- A range-lock entry (R261 to R264). -/
structure Lock where
  ex : Bool
  lo : Nat
  hi : Nat
  wide : Bool
  fwd : Bool := false
  held : Bool := true
  deriving DecidableEq, Repr

/-- Progress of a command's host transfer (R428). -/
inductive Xfer where
  | idle
  | running
  | ended
  | failed
  deriving DecidableEq, Repr

/-- A command holding a tag (R252, R253). -/
structure Cmd where
  tag : Nat
  func : Nat
  sqid : Nat
  e : Sqe
  ord : Bool := false
  nsidx : Option Nat := none
  aseq : Nat := 0
  st : CmdSt := .admitted
  /-- Credits needed, then held, in pools 0 and 1 (R255). -/
  need0 : Nat := 0
  need1 : Nat := 0
  has0 : Nat := 0
  has1 : Nat := 0
  lock : Option Lock := none
  xfer : Xfer := .idle
  /-- Bytes moved segment by segment for a shaped function (R228). -/
  moved : Nat := 0
  /-- Block list captured at HIF_XFER. -/
  xlist : List Nat := []
  /-- Status, Dword 0 and Dword 1 written, waiting or posted. -/
  cpl : Option (Nat × Nat × Nat) := none
  /-- Order in which completions were written (R257). -/
  cseq : Nat := 0
  /-- Zone and range assigned at admission (R299). -/
  zone : Option (Nat × Nat × Nat) := none
  /-- Deallocate ranges of a Dataset Management command: first block and count. -/
  ranges : List (Nat × Nat) := []
  /-- Its queue is being deleted or its controller reset: the result is discarded (R269). -/
  ended : Bool := false
  /-- First unrecovered LBA, for the Error Information log (R208). -/
  errLba : Option Nat := none
  /-- No completion entry is posted (R272). -/
  silent : Bool := false
  deriving DecidableEq, Repr

/-- A submission queue. -/
structure Sq where
  size : Nat
  cq : Nat
  head : Nat := 0
  tail : Nat := 0
  prio : Nat := 0
  /-- Namespace index + 1 whose full wide list its next entry needs; 0 none (R262). -/
  wide : Nat := 0
  /-- Deletion in progress: the Delete's tag + 1, 0 none (R269). -/
  deleting : Nat := 0
  /-- Commands the deletion aborted. -/
  aborted : Nat := 0
  deriving DecidableEq, Repr

/-- A completion queue. -/
structure Cq where
  size : Nat
  vec : Nat := 0
  ien : Bool := true
  head : Nat := 0
  tail : Nat := 0
  /-- Posted entries not yet signalled (R257). -/
  unsig : Nat := 0
  /-- Tags posted and not yet consumed, oldest first. -/
  posted : List Nat := []
  deriving DecidableEq, Repr

/-- One NVMe controller (R249 to R251, R272). -/
structure Ctrl where
  en : Bool := false
  rdy : Bool := false
  /-- CC.AMS selects weighted round robin with urgent priority class (R254). -/
  ams : Bool := false
  /-- The arbiter's progress over the I/O queues, by class: the queue last served, commands taken from it in one burst, and
  commands the class has had in its round. -/
  last : NTab Nat := []
  burst : NTab Nat := []
  spent : NTab Nat := []
  /-- A virtual function's controller is online (R250). -/
  online : Bool := false
  queues : Nat := 0
  vecs : Nat := 0
  /-- Resources of the primary controller that take effect at its next reset. -/
  newQ : Option Nat := none
  newV : Option Nat := none
  /-- Outstanding event requests, and event data waiting for one. -/
  aers : List Nat := []
  notices : List Nat := []
  deriving DecidableEq, Repr

/-- A namespace (R279 to R282, R294 to R296). -/
structure Nsp where
  nsid : Nat
  nsidx : Nat
  zoned : Bool
  cls : Nat
  enc : Bool
  nsze : Nat
  funcs : NSet := []
  /-- Resets of the namespace as a whole: they add to each zone's own BANDSEQ (R302, R316). -/
  seqBase : Nat := 0
  deriving DecidableEq, Repr

/-- States of a zone (R297). -/
inductive ZoneSt where
  | empty
  | implicit
  | explicit
  | closed
  | full
  | readOnly
  | offline
  deriving DecidableEq, Repr

/-- A zone's records (R299, R304). wp counts from the zone's first block. -/
structure Zone where
  st : ZoneSt := .empty
  wp : Nat := 0
  /-- End of the durable data (R277). -/
  dwp : Nat := 0
  bandseq : Nat := 0
  fill : Nat := 0
  /-- Positions the durable data uses. -/
  dfill : Nat := 0
  /-- Order of the last write, for R298. -/
  stamp : Nat := 0
  /-- Finish Zone Recommended, Zone Finished by Controller. -/
  fzr : Bool := false
  zfc : Bool := false
  /-- Slots used in the open compressed unit, 0 with none (R306, R311). -/
  unit : Nat := 0
  /-- Escape map: data positions holding escape sectors (R304). -/
  esc : NSet := []
  /-- Filler sectors that Finish wrote: data position, and LBA in the tag (R302). -/
  pads : List (Nat × Nat) := []
  /-- What a compressed zone's positions hold: the first block whose data a sector has, from the zone's start, and how many
  blocks it has data of (R17, R306). -/
  tags : NTab (Nat × Nat) := []
  deriving DecidableEq, Repr

/-- One band of an arm (R212 to R214, R294). -/
structure Band where
  /-- Namespace index and zone that lie in it. -/
  zone : Option (Nat × Nat) := none
  /-- Times it has been reset (Table 1-5). -/
  seq : Nat := 0
  /-- Interference count (R213). -/
  ati : Nat := 0
  /-- Operating time, 1/1024 s, of its last scrub, and before that of its first write. -/
  scrubbed : Nat := 0
  /-- Converged decodes of the last scrub, by iteration count 0 to 32. -/
  iters : List Nat := []
  /-- Refresh: 0 not scheduled, 1 scheduled, 2 urgent. -/
  refresh : Nat := 0
  /-- A scrub has left sectors to the retry ladder. -/
  ladder : Bool := false
  /-- Event 309 has been raised since the last scrub. -/
  late : Bool := false
  /-- Positions that became grown defects since its last reset, and the slots skipped for those before, as 2^20 × head position +
  place in the order of slots (R195, R211). -/
  fresh : NSet := []
  skip : NSet := []
  /-- Class 9 is lasting: its zone moves to a spare band at its next reset (Table 14-6). -/
  retired : Bool := false
  deriving DecidableEq, Repr

/-- One copy of what an arm's system area holds (R210, R211, R213, R304). -/
structure SysArea where
  /-- Grown defects: head, track, slot. -/
  grown : List (Nat × Nat × Nat) := []
  /-- Relocation table: NSIDX, LBA, spare sector. -/
  reloc : List (Nat × Nat × Nat) := []
  /-- Interference counts by band, as last saved. -/
  ati : NTab Nat := []
  /-- Records of the arm's zones. -/
  zones : NTab Zone := []
  /-- Wrapped namespace keys, by NSIDX: 72 bytes each (R315). -/
  keys : NTab (List Byte) := []
  deriving DecidableEq, Repr

/-- The tag of a sector of the conventional region (R295): the key of its block + 1, 0 with none; WSEQ as an order of writing;
SFLAGS. -/
structure ConvSector where
  block : Nat := 0
  wseq : Nat := 0
  sflags : Nat := 0
  deriving DecidableEq, Repr

/-- What firmware keeps of the medium (R210 to R216, R294, R295). -/
structure Media where
  /-- Band + 1 of a zone on its arm; 0 with none. -/
  place : NTab Nat := []
  /-- By arm × 2^16 + band. -/
  bands : NTab Band := []
  /-- By 2 × arm + copy: the copies lie on different surfaces. -/
  areas : NTab SysArea := []
  /-- Operating time of the last save of the counts, and the zones written since (R213). -/
  savedAt : Nat := 0
  moved : NSet := []
  /-- Refresh copy in progress on an arm: from band, to band (R214). -/
  copy : NTab (Option (Nat × Nat)) := []
  scrubDays : Nat := 14
  scrubWeak : Nat := 8
  /-- Arms whose SCRUB_DAYS is halved, and when a head was last degraded, + 1 (R386). -/
  halved : NSet := []
  degraded : NTab Nat := []
  /-- Effective ATI_LIM of an arm: halved so many times; and when the planner last ran (R391). -/
  atiShift : NTab Nat := []
  planned : Nat := 0
  /-- Relocations that wait for a free entry: NSIDX, LBA (R211). -/
  want : List (Nat × Nat) := []
  /-- Counts of fault classes 8 and 9 (R386). -/
  counts : List AgeCount := []
  /-- Write-assist use of a head: operating time and use then, newest first; in its life; and the level reported (R215). -/
  wa : NTab (List (Nat × Nat)) := []
  waLife : NTab Nat := []
  waLevel : NTab Nat := []
  /-- Percentage Used as last reported by event 311. -/
  used : Nat := 0
  /-- Sectors of the conventional region (R295). -/
  conv : NTab ConvSector := []
  convNext : Nat := 1
  /-- Media log: the record at each index, the number of the next one, and records that wait for the heads to load (R384). -/
  log : NTab (List Byte) := []
  logNext : Nat := 0
  held : List (List Byte) := []
  /-- Core voltage plan: operating time, + 1, of the last slack below 8 %, and since when slacks have been above 15 %; and
  when the plan was last made (R391). -/
  slackLow : Nat := 0
  slackHigh : Nat := 0
  plannedVolt : Nat := 0
  /-- Arms whose servo and heads whose settings firmware has still to re-identify (R386), when the heater and the write settings
  of a head were last planned, + 1, and the preset its writes take (R391). -/
  recal : NSet := []
  replan : NSet := []
  heaterAt : NTab Nat := []
  settingsAt : NTab Nat := []
  preset : NTab Nat := []
  deriving DecidableEq, Repr

/-- The self-test in progress (R290). -/
structure SelfTest where
  code : Nat
  tag : Nat
  heads : Nat
  /-- Admission number of its command. -/
  seq : Nat := 0
  deriving DecidableEq, Repr

/-- The host interface and what firmware keeps for NVMe (R246 to R293). -/
structure Hif where
  cmds : List Cmd := []
  sqs : NTab (Option Sq) := []
  cqs : NTab (Option Cq) := []
  ctrls : NTab Ctrl := []
  nextTag : Nat := 0
  aseq : Nat := 0
  cseq : Nat := 0
  /-- Transfers ended, not yet read: tag and error (R428). -/
  xdone : List (Nat × Bool) := []
  lowTag : Bool := false
  /-- Blocks completed but not yet durable, with their older contents (R274, R277). -/
  dirty : NTab (Option (List Byte)) := []
  feat : NTab Nat := []
  nss : NTab (Option Nsp) := []
  zones : NTab Zone := []
  zstamp : Nat := 0
  /-- Stored block contents, by namespace index and LBA; [] reads as zeros (R295, R301). -/
  blocks : NTab (List Byte) := []
  /-- Unrecovered LBAs (R209). -/
  bad : NSet := []
  test : Option SelfTest := none
  testLog : List (Nat × Nat) := []
  /-- Activation drain: the commit's tag (R278). -/
  drain : Option Nat := none
  /-- Key records being replaced: the erase's tag, its namespaces (R316). -/
  erase : Option (Nat × List Nat) := none
  /-- A transition waits for entry conditions, with its cause (R286). -/
  entry : Option Nat := none
  lastOp : Nat := 0
  /-- PS3 or PS4 has been left, and the spindle and the heads may still be on their way (R287). -/
  exit : Bool := false
  /-- Commands each function has had taken in the arbiter's round (R254). -/
  round : NTab Nat := []
  /-- Highest tier that lasting faults leave the governor (R386). -/
  limit : Nat := 7200
  /-- SMART critical warning bits (R382, R386, R388). -/
  warn : Nat := 0
  errLog : List (Nat × Nat × Nat) := []
  changedNs : NSet := []
  changedZone : NSet := []
  deriving DecidableEq, Repr

/-- The configuration space of a switch port, as PCI Express lays out its fields (R320, R323, R324, R340, R345): bus
numbers, Memory Space Enable and the two bridge windows as their registers hold them, and the control and status
registers. The link resets it (Table 2-7). -/
structure PortCfg where
  pri : Nat := 0
  sec : Nat := 0
  sub : Nat := 0
  command : Nat := 0
  mem : Nat := 0
  pref : Nat := 0
  prefBase : Nat := 0
  prefLimit : Nat := 0
  bridge : Nat := 0
  device : Nat := 0
  link : Nat := 0
  link2 : Nat := 0
  acs : Nat := 0
  /-- AER status: uncorrectable and correctable errors. -/
  aerUnc : Nat := 0
  aerCor : Nat := 0
  dpc : Nat := 0
  /-- Downstream Port Containment has been triggered. -/
  contained : Bool := false
  /-- In-band presence, and the Data Link Layer's state, have changed. -/
  presence : Bool := false
  linkChange : Bool := false
  deriving DecidableEq, Repr

/-- The chain switch beside its registers (R325 to R345). -/
structure Psw where
  /-- The switches of the pass that connect lanes to the module's own SerDes, a bit for each: lane n's switch toward the host
  is n, the other 16 + n. While they move, none connects anything (R325). -/
  swOpen : Nat := 0
  swMoving : Bool := false
  /-- The USP's link, and the EDP's, have reached their final rates (Table 12-3). -/
  usFinal : Bool := false
  dsFinal : Bool := false
  usp : PortCfg := {}
  idp : PortCfg := {}
  edp : PortCfg := {}
  /-- TLPs that wait at an egress port for credit (R341, R343): toward the USP from below and from the endpoint, and toward
  the EDP; and TLPs the arbiter has let through in its round from each side (R344). -/
  upFwd : List Tlp := []
  upOwn : List Tlp := []
  down : List Tlp := []
  turnFwd : Nat := 0
  turnOwn : Nat := 0
  /-- HOLDOFF runs since the last close (R328). -/
  holdoff : Bool := false
  /-- The instruction in force in the test access port (R413). -/
  tap : TapInstr := .bypass
  /-- PERST_N is low; PERST_DN_N follows it (R336). -/
  perst : Bool := false
  /-- REFCLK_DN repeats REFCLK; it is driven low otherwise (R408). -/
  refclk : Bool := false
  /-- Link Disable of the IDP and of the EDP (R323, R339). -/
  idpDisabled : Bool := false
  edpDisabled : Bool := false
  deriving DecidableEq, Repr

/-- A line of the L2 cache (R355 to R361). -/
structure Line where
  set : Nat
  way : Nat
  addr : Nat
  dirty : Bool
  data : List Byte
  deriving DecidableEq, Repr

/-- A hart beside its interrupt registers: its mode, the control and status registers the spec names, and its first-level caches
(R349, R354, R359). -/
structure HartSt where
  user : Bool := false
  /-- Registers by number: mstatus, mcounteren, menvcfg, mepc, mcause, mtval, pmpcfg and pmpaddr. -/
  csrs : NTab Nat := []
  /-- Lines of the instruction cache by number, each with its bytes as they were fetched. -/
  icache : NTab (List Byte) := []
  /-- Lines of the data cache by number; their bytes stand in the L2's line. -/
  dcache : NSet := []
  deriving DecidableEq, Repr

/-- The control complex beside its registers. -/
structure L2 where
  lines : List Line := []
  /-- Ways in use order, newest first, of the sets that differ from reset. -/
  order : NTab (List Nat) := []
  /-- A range operation runs: OP, SKIPPED and DISCARDED stand in the registers. -/
  range : Option Nat := none
  drained : Nat := 0
  resv : NTab Nat := []
  /-- Harts that have left the boot ROM's wait (R350). -/
  awake : NSet := []
  harts : NTab HartSt := []
  /-- EN was written 0 with no dirty line while a range operation ran: the cache is disabled at its end (R362). -/
  off : Bool := false
  deriving DecidableEq, Repr

/-- A trap frame (Table 6-9). -/
structure TFrame where
  upc : Nat
  csd : Nat
  vec : Nat
  waiting : Bool
  lc0 : Nat
  lc1 : Nat
  flags : Nat
  latch : Nat
  nano : Nat
  /-- The model's own: the code interrupted is a handler whose misuse has been reported (R153). -/
  own : Bool := false
  deriving DecidableEq, Repr

/-- An entry of an HSE's completion queue (R145). -/
structure DoneEnt where
  tag : Nat
  status : Nat
  frames : Nat
  qidx : Nat
  deriving DecidableEq, Repr

/-- What HSE[h] holds beside its registers and memories (R129 to R157). -/
structure Hse where
  /-- Call stack and trap stack, top first. -/
  cstk : List Nat := []
  tstk : List TFrame := []
  /-- Latched conditions, in the bit order of Table 6-9. -/
  latch : Nat := 0
  /-- Latched nanoword. -/
  nano : Nat := 0
  /-- Working registers without a register view: the descriptor's template, CNT as loaded, WEDGE, OFS, OPC, PARAM
  and queue index (R144). -/
  tmpl : Nat := 0
  cnt0 : Nat := 0
  wedge : Nat := 0
  ofs : Nat := 0
  opc : Nat := 0
  param : Nat := 0
  qidx : Nat := 0
  /-- Requests made and frames reported written under the descriptor (R143). -/
  reqs : Nat := 0
  wrote : Nat := 0
  /-- Completion queue, oldest first. -/
  done : List DoneEnt := []
  defect : Bool := false
  skipRdy : Bool := false
  dgood : Bool := false
  hlErr : Bool := false
  /-- A defect scan runs, with the table writes it holds (R146). -/
  scan : Bool := false
  scanTrk : Nat := 0
  scanSlot : Nat := 0
  held : List (Nat × Nat) := []
  /-- Servo timing is held; missing marks in a row; the last mark was found (R27, R139). -/
  servo : Bool := false
  miss : Nat := 0
  direct : Bool := false
  /-- The wedge timer lies in the keep-out window (R139). -/
  ko : Bool := false
  waiting : Bool := false
  /-- A microword's actions wait for room in the completion queue or for the head's link command (R145, R191). -/
  stalled : Bool := false
  /-- Servo address marks found since the wait began (R135). -/
  wedges : Nat := 0
  /-- The ATOM span has reached 64 cycles (R151). -/
  atomOver : Bool := false
  /-- RUN = 0 waits for its boundary (R154). -/
  stopping : Bool := false
  /-- OWNVIOL has been reported in this trap entry (R153). -/
  own : Bool := false
  /-- Cause of the last vector DMA: 0 channel error, 1 STARVE, 2 POISON. -/
  dmaCause : Nat := 0
  /-- Frame tags of requests raised and not yet arrived, then arrived and not yet served, on the write line and on
  the read line. -/
  raisedW : List Nat := []
  raisedR : List Nat := []
  wreq : List Nat := []
  rreq : List Nat := []
  /-- HLINK command outstanding: ADDR and DATA (R191). -/
  hl : Option Nat := none
  deriving DecidableEq, Repr

/-- A write frame staged in a channel (R143, R181). -/
structure SFrame where
  tag : Nat
  data : List Byte
  poison : Bool
  /-- Group context it contributes to (R201), and its parity index for a parity frame (R202). -/
  ctx : Option Nat := none
  par : Option Nat := none
  deriving DecidableEq, Repr

/-- The write frame on the medium. -/
structure WFrame where
  data : List Byte
  ctx : Option Nat
  par : Option Nat
  /-- A condition of R25 dropped, so it does not count as written; and vector PERMIT has been taken for it (R141). -/
  cut : Bool := false
  told : Bool := false
  /-- Write-assist preset of its run (R184). -/
  preset : Nat := 0
  deriving DecidableEq, Repr

/-- A read frame from the start of its search to its result (R167 to R171). -/
structure RFrame where
  slot : Nat
  trk : Nat
  widx : Nat
  gambit : Bool
  /-- Its number among the frames of the run (R177). -/
  k : Nat
  cands : List Nat := []
  closed : Bool := false
  decodes : Nat := 0
  iters : Nat := 0
  /-- Its run, and the frames of the run before it that decoded as parity (R177). -/
  run : Nat := 0
  pars : Nat := 0
  /-- Its expectation: CHAN_XQ index and NSIDX (R176). -/
  xqi : Nat := 0
  xns : Nat := 0
  /-- Its estimate, once made (R161). -/
  snr : Option Nat := none
  /-- The free values that are its 37,320 samples and its LLRs start at these numbers (R170). -/
  samp : Nat := 0
  llr : Nat := 0
  deriving DecidableEq, Repr

/-- What CHAN[h] holds beside its registers and its base matrix (R159 to R187). -/
structure Chan where
  staged : List SFrame := []
  wf : Option WFrame := none
  rf : List RFrame := []
  /-- The last result: a frame of 4,128 bytes or an erasure mark of 64; [] before the first. -/
  res : List Byte := []
  /-- The slot timer runs (R142). -/
  timer : Bool := false
  armed : Bool := false
  /-- A slot is being read. -/
  reading : Bool := false
  /-- The engine runs from the fabric clock (R157). -/
  fabric : Bool := false
  /-- Wedge timing has been found since the synthesiser locked (R90). -/
  timed : Bool := false
  /-- A close waits for the end of the frame in progress (R141). -/
  wclose : Bool := false
  rclose : Bool := false
  /-- Write-assist preset of the run (R184). -/
  preset : Nat := 0
  /-- HL_WG and HL_WA as driven (R183). -/
  wg : Bool := false
  wa : Nat := 0
  /-- A write frame, or a read frame's search, starts when the keep-out window ends (R139). -/
  startW : Bool := false
  startR : Bool := false
  /-- Read runs so far; frames of the present one, and those that decoded as parity (R177). -/
  run : Nat := 0
  frames : Nat := 0
  pars : Nat := 0
  /-- Gain and timing phase of the front end, of no stated width (R160). -/
  gain : Nat := 0
  phase : Nat := 0
  /-- SNR of the last 256 frames, newest first (R161). -/
  snrs : List Nat := []
  /-- Expectation in force: CHAN_XQ index and NSIDX (R176). -/
  xqi : Nat := 0
  xns : Nat := 0
  /-- Frame whose samples are retained (R170). -/
  kept : Option RFrame := none
  /-- The slot being read has ended as sector not found (R168). -/
  lost : Option RFrame := none
  /-- The base matrix check runs (R174). -/
  check : Bool := false
  /-- A ZRATE write waits for the end of the frame in progress (R187). -/
  zrate : Bool := false
  deriving DecidableEq, Repr

/-- Who sent the transaction on an arm's preamp link (R190). -/
inductive HlSrc where
  | auto
  | hse (p : Nat)
  | fw
  deriving DecidableEq, Repr

/-- Preamp link of one arm (R188 to R192). -/
structure Hlink where
  fw : List Nat := []
  auto : Bool := false
  /-- Position served last by the round robin. -/
  rr : Nat := 5
  cur : Option (HlSrc × Nat) := none
  /-- Answers waiting in HL_RESP: data, status, failed. -/
  resp : List (Nat × Nat × Bool) := []
  /-- Heads whose write the fault cut (R185). -/
  cut : NSet := []
  deriving DecidableEq, Repr

/-- The outer code engine beside its registers: operation, context and COUNT of the running command (R200 to R206). -/
structure Oce where
  job : Option (Nat × Nat × Nat) := none
  deriving DecidableEq, Repr

/-- One DMA channel's work beside its registers (R234 to R240). -/
structure Dch where
  /-- The descriptor in use. -/
  src : Nat := 0
  dst : Nat := 0
  next : Nat := 0
  tag : Nat := 0
  blen : Nat := 0
  nburst : Nat := 0
  stride : Nat := 0
  ctl : Nat := 0
  /-- A descriptor fetch is out. -/
  fetch : Bool := false
  /-- Addresses of the next burst, and whether a later pass of a cyclic descriptor runs (R237). -/
  cs : Nat := 0
  cd : Nat := 0
  again : Bool := false
  stop : Bool := false
  /-- CRC-32C register over the bytes moved (R238). -/
  crc : Nat := 0xFFFFFFFF
  poison : Bool := false
  /-- Event 259 has been raised in this guard wait. -/
  told : Bool := false
  deriving DecidableEq, Repr

/-- The DMA engine: channels, and requests raised and not yet arrived on lines 48 to 127. -/
structure Dma where
  ch : NTab Dch := []
  raised : NTab Nat := []
  deriving DecidableEq, Repr

/-- The buffer manager beside its registers (R220 to R226). -/
structure Buf where
  /-- Corrected lines of each stack since its last event 244, and 1 + the operating time of that event. -/
  ceSince : NTab Nat := []
  ceLast : NTab Nat := []
  /-- Next line of the patrol. -/
  patrol : Nat := 0
  /-- Stacks above their nominal temperature. -/
  hot : NSet := []
  deriving DecidableEq, Repr

/-- A lane of the FRC: input units taken so far, oldest first, with their POISON flags (R317). -/
structure Lane where
  input : List (List Byte × Bool) := []
  deriving DecidableEq, Repr

/-- The fixed-ratio coder: lanes, key slots, and the key command in progress (R315 to R318). -/
structure Frc where
  lanes : NTab Lane := []
  /-- 64-byte keys by namespace index. -/
  keys : NTab (List Byte) := []
  kjob : Option (Nat × Nat) := none
  /-- Namespace indexes whose key record failed to unwrap: firmware keeps the namespace Read Only (R315). -/
  lost : NSet := []
  deriving DecidableEq, Repr

/-- What the power die drives the spindle bridge with outside the speed loop (R89, R92). -/
inductive Drive where
  | off
  | short
  | vector (k : Nat)
  | blind
  deriving DecidableEq, Repr

/-- What the module sends outside. -/
inductive Out where
  | cqe (func cq sqid sqhd cid status dw0 dw1 : Nat)
  | irq (func vec : Nat)
  | toHost (tag : Nat) (data : List Byte)
  /-- What a popping read of a register returned (R425). -/
  | popped (r : Reg) (i value : Nat)
  | loaded (hart value : Nat)
  | fetched (hart : Nat) (bytes : List Byte)
  /-- A hart starts at the reset vector, or leaves the boot ROM for an address with a value in a0 (R350). -/
  | hartStart (hart vector : Nat)
  | hartJump (hart pc a0 : Nat)
  /-- An exception at a hart: its cause code and mtval (R352). -/
  | hartFault (hart cause addr : Nat)
  /-- A chain message (R332): a Vendor-Defined Message Type 1 with its routing, Message Code, Vendor ID and vendor-defined
  header, and no data payload. -/
  | chain (port : Port) (routing code vid hdr : Nat)
  | tlp (port : Port) (t : Tlp)
  /-- A NOP flit goes out where a TLP stands incomplete (R342). -/
  | nop (port : Port)
  | unsupported (rx : Ingress) (t : Tlp)
  /-- A configuration request that a port answers itself, with the value read, 0 for a write. -/
  | configured (t : Tlp) (value : Nat)
  | toEndpoint (t : Tlp)
  | hotReset
  | ready
  /-- The 33 bits of a request, first bit highest (Table 7-10). -/
  | hlink (arm word : Nat)
  | vcm (arm : Nat) (u : Rat)
  /-- A voice coil driven at a velocity limit (10 mV of back-EMF), pushing (mA), or off (R100, R120). -/
  | vcmVel (arm : Nat) (v : Int)
  | vcmPush (arm ma : Nat)
  | vcmOff (arm : Nat)
  | micro (head : Nat) (mv : Rat)
  | spindle (ma : Rat)
  /-- A spindle command that follows so many 50 MHz cycles after the last crossing (R85). -/
  | spindleAt (cycles : Rat) (ma : Rat)
  /-- The power die steps to a step of Table 4-1: its high and low phases (0 U, 1 V, 2 W), so many 50 MHz cycles after the
  crossing (R81). -/
  | commutate (step hi lo : Nat) (cycles : Rat)
  | bridge (d : Drive) (ma : Nat)
  | pmbus (addr page word : Nat)
  | smbus (status warn temp used : Nat)
  /-- The channel bits of a frame on HL_WD. -/
  | medium (head : Nat) (bits : List Bool)
  /-- HL_WA[1:0] is set to a preset (R183). -/
  | assist (head preset : Nat)
  /-- HL_WG rises or falls. -/
  | writeGate (head : Nat) (on : Bool)
  /-- The frame tag of a transaction put on the internal fabric (R12). -/
  | fabric (tag : Nat)
  /-- The 2T pattern on HL_WD ahead of a run's first frame, and ahead of the window's end (R180, R183). -/
  | lead (head : Nat) (bits : List Bool)
  deriving DecidableEq, Repr

/-- The module. -/
structure State where
  /-- Commands waiting, first in, first out. -/
  pending : List Instr := []
  regs : List (RKey × Word) := []
  /-- Memory of Table 13-1, register-window memories among it, by byte address. -/
  mem : List Host.Cell := []
  /-- 64-byte lines marked poisoned (R221), by line number. -/
  poison : NSet := []
  /-- The configuration NOR, by NOR address; an unlisted byte is erased. -/
  nor : List Host.Cell := []
  /-- Staged firmware image (R76), by offset in the copy. -/
  staged : NTab (Option Byte) := []
  norq : List NorJob := []
  rst : Rstc := {}
  ev : Ev := {}
  erec : Erec := {}
  age : Age := {}
  pwr : Pwr := {}
  spn : Spn := {}
  arms : NTab ArmS := []
  hif : Hif := {}
  psw : Psw := {}
  l2 : L2 := {}
  hses : NTab Hse := []
  chans : NTab Chan := []
  hls : NTab Hlink := []
  oce : Oce := {}
  dma : Dma := {}
  buf : Buf := {}
  frc : Frc := {}
  med : Media := {}
  /-- Fraction of an operating-time unit counted (R412). -/
  frac : Nat := 0
  /-- The model's own counter of free values drawn. -/
  free : Nat := 0
  /-- What the module has sent outside, oldest first. -/
  out : List Out := []
  deriving DecidableEq, Repr

/-- Right after a power-on reset of a module as shipped: the power-on source is still asserted, no release step has
run, every register field reads its reset value, and MRAM holds the shipment's control block copy 0 (R377). -/
def State.reset : State :=
  { rst := { por := true, tookPor := true }
    mem := [(0x0100C500, 0x01), (0x0100C5FC, 0x34), (0x0100C5FD, 0xFB), (0x0100C5FE, 0xC0), (0x0100C5FF, 0x73)] }

end Sys2Proof.Machine
end

