-- ==== Sys2Proof/Machine/Ops.lean ====
section
/-! DEFINITION. Machine/Ops.lean: the named operations over registers, memory, free values, outputs and events that
every meaning is written with. -/

namespace Sys2Proof.Machine

abbrev Res := Host.Outcome State Fault Refusal

/-- Applies f when the condition holds: a command whose occasion the state does not give changes nothing. -/
def State.on (s : State) (c : Bool) (f : State → State) : State := if c then f s else s

/-! ### Registers (R4, R6, R7) -/

def RKey.lt (a b : RKey) : Bool :=
  if a.reg.ctorIdx ≠ b.reg.ctorIdx then decide (a.reg.ctorIdx < b.reg.ctorIdx)
  else if a.i ≠ b.i then decide (a.i < b.i) else decide (a.j < b.j)

/-- What an unlisted field reads as: its reset value. -/
def RKey.dflt (k : RKey) : Word := BitVec.ofNat 64 (k.reg.resetAt k.i)

def State.rdW (s : State) (r : Reg) (i : Nat := 0) (j : Nat := 0) : Word :=
  Tab.get (RKey.dflt ⟨r, i, j⟩) ⟨r, i, j⟩ s.regs

/-- A field's value. -/
def State.rd (s : State) (r : Reg) (i : Nat := 0) (j : Nat := 0) : Nat := (s.rdW r i j).toNat

/-- A one-bit field. -/
def State.bit (s : State) (r : Reg) (i : Nat := 0) (j : Nat := 0) : Bool := s.rd r i j != 0

/-- Sets a field, cut to its width. -/
def State.wr (s : State) (r : Reg) (v : Nat) (i : Nat := 0) (j : Nat := 0) : State :=
  { s with regs := Tab.put RKey.lt (RKey.dflt ⟨r, i, j⟩) ⟨r, i, j⟩ (BitVec.ofNat 64 (v % 2 ^ r.info.w)) s.regs }

def State.wrb (s : State) (r : Reg) (b : Bool) (i : Nat := 0) (j : Nat := 0) : State := s.wr r (b2n b) i j

/-- Adds to a counter field that saturates. -/
def State.satAdd (s : State) (r : Reg) (n : Nat) (i : Nat := 0) (j : Nat := 0) : State :=
  s.wr r (min (2 ^ r.info.w - 1) (s.rd r i j + n)) i j

/-- Adds to a counter field that wraps. -/
def State.wrapAdd (s : State) (r : Reg) (n : Nat) (i : Nat := 0) (j : Nat := 0) : State :=
  s.wr r (s.rd r i j + n) i j

/-- Bit b of a field, read and set. -/
def State.rdBit (s : State) (r : Reg) (b : Nat) (i : Nat := 0) (j : Nat := 0) : Bool := (s.rd r i j).testBit b
def State.wrBit (s : State) (r : Reg) (b : Nat) (v : Bool) (i : Nat := 0) (j : Nat := 0) : State :=
  s.wr r (setBitN (s.rd r i j) b v) i j

/-- The 64-bit or 32-bit register that holds field r, as read: every field of the same register put together. -/
def State.regWord (s : State) (r : Reg) (i : Nat := 0) (j : Nat := 0) : Nat :=
  (r.info.blk.regs.filter (fun f => f.info.off == r.info.off && f.info.s1 == r.info.s1)).foldl
    (fun acc f => if f.info.acc = .WO then acc else acc + s.rd f i j * 2 ^ f.info.lo) 0

/-! ### Memory (R4, R351, R427) -/

/-- A byte of memory. The boot ROM's contents are free; an unlisted byte elsewhere reads 0. -/
def State.mb (s : State) (a : Nat) : Byte := if a < 0x20000 then Config.bootRom a else Tab.get 0 a s.mem

def State.setMb (s : State) (a : Nat) (b : Byte) : State := { s with mem := Tab.put natLt 0 a b s.mem }

def leBytes : Nat → Nat → List Byte
  | 0, _ => []
  | n + 1, v => BitVec.ofNat 8 v :: leBytes n (v / 256)

def leNat : List Byte → Nat
  | [] => 0
  | b :: t => b.toNat + 256 * leNat t

/-- The n bytes from address a on. -/
def State.mbs (s : State) (a n : Nat) : List Byte := (List.range n).map (fun k => s.mb (a + k))

/-- An n-byte little-endian number (R4). -/
def State.mrd (s : State) (n a : Nat) : Nat := leNat (s.mbs a n)

/-- Stores bytes from address a on. -/
def State.setMbs (s : State) (a : Nat) (bs : List Byte) : State := { s with mem := Tab.splice 0 a bs s.mem }

def State.mwr (s : State) (n a v : Nat) : State := s.setMbs a (leBytes n v)

/-- The lines a range touches. -/
def linesOf (a n : Nat) : List Nat := (List.range ((a + n + 63) / 64 - a / 64)).map (fun k => a / 64 + k)

/-- Marks every line a range touches poisoned, or clears its mark (R221, R222). -/
def State.setPoison (s : State) (a n : Nat) (p : Bool) : State :=
  { s with poison := (linesOf a n).foldl (fun t k => if p then NSet.add k t else NSet.del k t) s.poison }

/-- Some line of the range is poisoned. -/
def State.poisoned (s : State) (a n : Nat) : Bool :=
  (linesOf a n).any (fun k => NSet.has k s.poison)

/-- Bounds of Table 13-1. -/
def mramLo : Nat := 0x01000000
def sramLo : Nat := 0x02000000
def sramHi : Nat := 0x02800000
def ctxLo : Nat := 0x04000000
def bufLo : Nat := 0x800000000
def bufHi : Nat := 0xBC3C00000
def bufEnd : Nat := 0xC00000000
def inSram (a n : Nat) : Bool := decide (sramLo ≤ a) && decide (a + n ≤ sramHi)
def inBuf (a n : Nat) : Bool := decide (bufLo ≤ a) && decide (a + n ≤ bufHi)
/-- An engine reaches SRAM and buffer memory only (R427). -/
def engineReach (a n : Nat) : Bool := inSram a n || inBuf a n

/-! ### Module counters in MRAM (Table 14-2) -/

/-- The counters lie at the start of their 256 bytes, in the table's order. -/
def wseqAt : Nat := 0x0100C700
def passCntAt : Nat := 0x0100C708
def passRecAt : Nat := 0x0100C70C

/-- Next write sequence number (R19). -/
def State.wseq (s : State) : Nat := s.mrd 8 wseqAt
def State.setWseq (s : State) (n : Nat) : State := s.mwr 8 wseqAt n

/-- PSW_PASSCNT and PSW_PASSREC, which are the words kept in MRAM (R328, Table 14-2). -/
def State.passCount (s : State) : Nat := s.mrd 4 passCntAt
def State.passFlag (s : State) : Bool := (s.mrd 4 passRecAt).testBit 0
def State.passCause (s : State) : Nat := bitsN (s.mrd 4 passRecAt) 4 4
def State.setPassCount (s : State) (n : Nat) : State := s.mwr 4 passCntAt n
def State.setPassRec (s : State) (flag : Bool) (cause : Nat) : State := s.mwr 4 passRecAt (b2n flag + 16 * (cause % 16))

/-! ### The NOR (R59) -/

def State.norB (s : State) (a : Nat) : Byte := Tab.get 0xFF a s.nor
def State.norBs (s : State) (a n : Nat) : List Byte := (List.range n).map (fun k => s.norB (a + k))
def State.norRd (s : State) (n a : Nat) : Nat := leNat (s.norBs a n)

/-! ### CRC-32C (R18) -/

def crcBit (c : Nat) : Nat := if c % 2 = 1 then Nat.xor (c / 2) 0x82F63B78 else c / 2
def crcByte (c : Nat) (b : Byte) : Nat :=
  crcBit (crcBit (crcBit (crcBit (crcBit (crcBit (crcBit (crcBit (Nat.xor c b.toNat))))))))
def crcRun (c : Nat) : List Byte → Nat
  | [] => c
  | b :: t => crcRun (crcByte c b) t
def crc32c (bs : List Byte) : Nat := Nat.xor (crcRun 0xFFFFFFFF bs) 0xFFFFFFFF

/-! ### Free values and outputs -/

/-- Draws a free value of w bits and advances the counter it is drawn by. -/
def State.draw (s : State) (w : Nat) : Nat × State :=
  (Config.freeValue s.free % 2 ^ w, { s with free := s.free + 1 })

/-- Reserves n free values and gives the number of the first. -/
def State.drawMany (s : State) (n : Nat) : Nat × State := (s.free, { s with free := s.free + n })

def State.emit (s : State) (o : Out) : State := { s with out := s.out ++ [o] }

/-! ### The fabric (R12, Table 1-2) -/

/-- A frame tag; flags counts from bit 51 (Table 1-4), and the reserved bits are written 0 (R14). -/
def frameTag (cmdtag func nsidx head kind subseq flags : Nat) : Nat :=
  cmdtag % 2 ^ 17 + func % 2 ^ 9 * 2 ^ 17 + nsidx % 2 ^ 8 * 2 ^ 26 + head % 2 ^ 5 * 2 ^ 34 + kind % 2 ^ 4 * 2 ^ 39 +
    subseq % 2 ^ 8 * 2 ^ 43 + flags % 2 ^ 6 * 2 ^ 51

/-- A frame tag with its KIND, HEAD, SUBSEQ or a flag replaced. -/
def putField (v lo w x : Nat) : Nat := v - bitsN v lo w * 2 ^ lo + (x % 2 ^ w) * 2 ^ lo

/-- A transaction goes on the fabric. -/
def State.fabric (s : State) (tag : Nat) : State := s.emit (.fabric tag)

/-- A tag as a block puts it on the fabric: DRAIN is set by channels 120 to 127 and no other (R232), and the reserved bits
are 0. -/
def onFabric (drain : Bool) (tag : Nat) : Nat := setBitN (tag % 2 ^ 57) 53 drain

/-- A block's own access to memory, for a head or 31 for none. Where the spec gives its KIND none, that is free among those
not reserved, and so are the fields that name a command (log 102). -/
def State.ownAccess (s : State) (kind : Option Nat) (head : Nat) : State :=
  let (x, s) := s.draw 57
  let (k, s) := s.draw 4
  s.fabric (onFabric false (putField (putField x 34 5 head) 39 4 (kind.getD (k % 12))))
def State.ownAccesses (s : State) (kind : Option Nat) (head : Nat) : Nat → State
  | 0 => s
  | n + 1 => (s.ownAccess kind head).ownAccesses kind head n

/-- A quantity whose rounding the spec leaves open, as a whole number: one of its two neighbours. -/
def roundQ (x : Rat) : Int :=
  if x.den = 1 then x.num
  else
    let k := Config.round x
    if k = x.floor ∨ k = x.floor + 1 then k else x.floor

/-- A quantity rounded to the nearest whole number; a tie goes to either neighbour. -/
def nearest (x : Rat) : Int := if x - x.floor = 1 / 2 then roundQ x else (x + 1 / 2).floor

/-! ### Release (R38, R40) and soft resets (R56) -/

/-- No soft reset of the block a code selects is in progress (Table 2-6): its registers take writes. -/
def State.hears (s : State) (sel : Nat) : Bool := s.rst.soft != some sel
/-- The codes of Table 2-6. -/
def selHse (h : Nat) : Nat := h
def selChan (h : Nat) : Nat := 0x20 + h
def selSce (e : Nat) : Nat := 0x40 + e
def selOce : Nat := 0x50
def selFrc : Nat := 0x51
def selDma : Nat := 0x52

/-- Release step k has been released, and the controller die has its clock (R412). -/
def State.up (s : State) (k : Nat) : Bool := decide (k ≤ s.rst.step) && s.rst.xsys

/-! ### Events (R28, R364, R369, R373, R385, R386) -/

def roundWidth (w : Nat) : Nat := if w ≤ 1 then 1 else if w ≤ 2 then 2 else if w ≤ 4 then 4 else 8

/-- DATA of R373 from items of a width in bytes and a value; whether items were left out. -/
def packFrom (acc : List Byte) : List (Nat × Nat) → List Byte × Bool
  | [] => (acc, false)
  | (w, v) :: t =>
    let w := roundWidth w
    let pad := (w - acc.length % w) % w
    if acc.length + pad + w ≤ 32 then packFrom (acc ++ List.replicate pad 0 ++ leBytes w v) t else (acc, true)

def pack (items : List (Nat × Nat)) : List Byte × Bool := packFrom [] items

/-- Fault class and instance an event counts toward (Table 14-6). -/
def ageClass (src : Nat) (data : List Byte) : Option (Nat × Nat) :=
  if src < 144 then (if src % 6 = 3 then some (0, src / 6) else if src % 6 = 4 then some (1, src / 6) else none)
  else if src < 160 then (if src % 4 < 2 then some (2, (src - 144) / 4) else none)
  else if src = 194 then some (3, 16 * ((data.getD 0 0).toNat % 2) + (data.getD 1 0).toNat % 16)
  else if src = 276 ∨ src = 277 ∨ src = 278 ∨ src = 279 then some (4, 0)
  else if src = 244 ∨ src = 245 then some (5, 0)
  else if src = 172 ∨ src = 186 then some (6, 0) else none

/-- Sub-window in force for class k: WIN ÷ 8 seconds of operating time each (R385). -/
def State.subNow (s : State) (k : Nat) : Nat := s.rd .EREC_OPTIME_OPTIME / (s.rd .AGE_FCLS_WIN k * 128)

def addCount (k i sub : Nat) : List AgeCount → List AgeCount
  | [] => [⟨k, i, sub, 1⟩]
  | c :: t => if c.cls = k ∧ c.inst = i ∧ c.sub = sub then { c with n := c.n + 1 } :: t else c :: addCount k i sub t

/-- Events counted in the current sub-window and the seven before it. -/
def State.ageCnt (s : State) (k i : Nat) : Nat :=
  (s.ev.counts.filter (fun c => c.cls = k ∧ c.inst = i ∧ s.subNow k < c.sub + 8)).foldl (fun a c => a + c.n) 0

/-- The queue takes an event, or it is lost (R369). -/
def Ev.push (e : Ent) (v : Ev) : Ev :=
  if v.queue.length < 512 then { v with queue := v.queue ++ [e] }
  else { v with lost := min (v.lost + 1) 0xFFFFFFFF, run := some (v.run.getD e.src), gap := NSet.add e.src v.gap }

/-- One event: a sequence number, a pending edge, a fault class count, and the recorder's queue. -/
def State.event (s : State) (src : Nat) (fw : Bool) (d : List Byte × Bool) : State :=
  let n := NTab.get 0 src s.ev.seq
  let counts := match ageClass src d.1 with
    | some (k, i) => addCount k i (s.subNow k) s.ev.counts
    | none => s.ev.counts
  let v := { s.ev with seq := NTab.put 0 src ((n + 1) % 2 ^ 32) s.ev.seq, edge := NSet.add src s.ev.edge, counts := counts }
  let e : Ent := ⟨src, n, fw, d.2, d.1, s.rd .EREC_OPTIME_OPTIME, s.rd .EREC_PCYC_PCYC⟩
  { s with ev := if s.bit .EVC_REC_EN src then v.push e else v }

/-- Event 314 once the queue has room after a run of lost events: it enters first. -/
def State.lostRun (s : State) : State :=
  match s.ev.run with
  | none => s
  | some f =>
    if s.ev.queue.length < 512 then
      State.event { s with ev := { s.ev with run := none } } 314 false (pack [(4, s.ev.lost), (2, f)])
    else s

/-- Raises an event. Before step 5 is released the EVC is in reset and the event is gone. -/
def State.raiseRaw (s : State) (src : Nat) (fw : Bool) (d : List Byte × Bool) : State :=
  if s.up 5 then s.lostRun.event src fw d else s

def State.raise (s : State) (src : Nat) (items : List (Nat × Nat)) : State := s.raiseRaw src false (pack items)

/-- An edge interrupt source that is no event (Table 13-4). -/
def State.edge (s : State) (src : Nat) : State := { s with ev := { s.ev with edge := NSet.add src s.ev.edge } }

/-- An event of the power die or of an early step, kept until the EVC and the link run. -/
def State.hold (s : State) (src : Nat) (items : List (Nat × Nat)) : State :=
  { s with pwr := { s.pwr with held := s.pwr.held ++ [(src, items)] } }

def State.raiseHeld (s : State) : State :=
  s.pwr.held.foldl (fun s e => s.raise e.1 e.2) { s with pwr := { s.pwr with held := [] } }

end Sys2Proof.Machine
end

