-- ==== Sys2Proof/Machine/HifOps.lean ====
section
/-! DEFINITION. Machine/HifOps.lean: the shared operations of the host interface: tags, credits, the stalemate guard,
completions and their posting (R252 to R260, R264, R300), and the end of a controller's commands (R269, R272). -/

namespace Sys2Proof.Machine

/-! ### Status codes: status code type × 256 + status code, as the NVM Express specifications number them (log entry 20) -/

def scOk : Nat := 0
def scOpcode : Nat := 0x001
def scField : Nat := 0x002
def scInternal : Nat := 0x006
def scSqDeleted : Nat := 0x008
def scNamespace : Nat := 0x00B
def scSanitizing : Nat := 0x01D
def scFormatting : Nat := 0x084
def scLbaRange : Nat := 0x080
def scCqInvalid : Nat := 0x100
def scQueueId : Nat := 0x101
def scQueueSize : Nat := 0x102
def scAerLimit : Nat := 0x105
def scFwSlot : Nat := 0x106
def scFwImage : Nat := 0x107
def scVector : Nat := 0x108
def scLogPage : Nat := 0x109
def scFormat : Nat := 0x10A
def scQueueDeletion : Nat := 0x10C
def scNotChangeable : Nat := 0x10E
def scFwReset : Nat := 0x110
def scFwProhibited : Nat := 0x113
def scNsCapacity : Nat := 0x115
def scNsUnavailable : Nat := 0x116
def scNsAttached : Nat := 0x118
def scNsNotAttached : Nat := 0x11A
def scSelfTest : Nat := 0x11D
def scZoneBoundary : Nat := 0x1B8
def scZoneFull : Nat := 0x1B9
def scZoneReadOnly : Nat := 0x1BA
def scZoneOffline : Nat := 0x1BB
def scZoneWrite : Nat := 0x1BC
def scZoneActive : Nat := 0x1BD
def scZoneOpen : Nat := 0x1BE
def scZoneState : Nat := 0x1BF
def scUnrecovered : Nat := 0x281
def scWriteProtected : Nat := 0x020
def scCompare : Nat := 0x285

/-! ### Tables -/

def qKey (f q : Nat) : Nat := f * 65536 + q
def State.sq (s : State) (f q : Nat) : Option Sq := NTab.get none (qKey f q) s.hif.sqs
def State.cq (s : State) (f q : Nat) : Option Cq := NTab.get none (qKey f q) s.hif.cqs
def State.setSq (s : State) (f q : Nat) (v : Option Sq) : State :=
  { s with hif := { s.hif with sqs := NTab.put none (qKey f q) v s.hif.sqs } }
def State.setCq (s : State) (f q : Nat) (v : Option Cq) : State :=
  { s with hif := { s.hif with cqs := NTab.put none (qKey f q) v s.hif.cqs } }
def State.ctrl (s : State) (f : Nat) : Ctrl := NTab.get {} f s.hif.ctrls
def State.setCtrl (s : State) (f : Nat) (c : Ctrl) : State :=
  { s with hif := { s.hif with ctrls := NTab.put {} f c s.hif.ctrls } }
/-- Functions the module has: the physical one, and TotalVFs virtual ones, none in recovery mode (R50, R249). -/
def State.totalVfs (s : State) : Nat := if s.rst.recovery then 0 else 511
def State.hasFunc (s : State) (f : Nat) : Bool := decide (f ≤ s.totalVfs)
def State.setCmds (s : State) (l : List Cmd) : State := { s with hif := { s.hif with cmds := l } }
def State.cmd? (s : State) (tag : Nat) : Option Cmd := s.hif.cmds.find? (fun c => c.tag == tag)
def State.updCmd (s : State) (tag : Nat) (f : Cmd → Cmd) : State :=
  s.setCmds (s.hif.cmds.map (fun c => if c.tag = tag then f c else c))
def State.zone (s : State) (ns z : Nat) : Zone := NTab.get {} (ns * 2 ^ 32 + z) s.hif.zones
/-- Zone i lies on arm i mod 4 (R294). -/
def zoneArm (z : Nat) : Nat := z % 4
/-- The system area of an arm, in two copies (R210, R304): what the copies hold, and a write of both. -/
def State.area (s : State) (a : Nat) : SysArea := NTab.get {} (2 * a) s.med.areas
def State.setArea (s : State) (a : Nat) (v : SysArea) : State :=
  { s with med := { s.med with areas := NTab.put {} (2 * a + 1) v (NTab.put {} (2 * a) v s.med.areas) } }
/-- Firmware keeps the zone records in both copies of their arms' system areas, as they are (R304). -/
def State.setZones (s : State) (t : NTab Zone) : State :=
  (List.range 4).foldl (fun s a => s.setArea a { s.area a with zones := t.filter (fun e => zoneArm (e.1 % 2 ^ 32) == a) })
    { s with hif := { s.hif with zones := t } }
def State.setZone (s : State) (ns z : Nat) (v : Zone) : State := s.setZones (NTab.put {} (ns * 2 ^ 32 + z) v s.hif.zones)
/-- The namespace of an index; its record carries the index. -/
def State.ns? (s : State) (nsidx : Nat) : Option Nsp := (NTab.get none nsidx s.hif.nss).filter (fun n => n.nsidx == nsidx)
def State.setNs (s : State) (nsidx : Nat) (v : Option Nsp) : State :=
  { s with hif := { s.hif with nss := NTab.put none nsidx v s.hif.nss } }
/-- The namespace an NSID names. -/
def State.nsOf (s : State) (nsid : Nat) : Option Nsp :=
  (s.hif.nss.filterMap (fun e => e.2)).find? (fun n => n.nsid == nsid)

def featKey (f fid sub : Nat) : Nat := (f * 256 + fid) * 65536 + sub
/-- Defaults of Table 10-3. -/
def featDefault (fid sub : Nat) : Nat :=
  if fid = 0x04 then (if sub = 0 then 353 else 273) else if fid = 0xC0 then 1 + 10 * 256 else 0
def State.feat (s : State) (f fid : Nat) (sub : Nat := 0) : Nat :=
  NTab.get (featDefault fid sub) (featKey f fid sub) s.hif.feat
def State.setFeat (s : State) (f fid sub v : Nat) : State :=
  { s with hif := { s.hif with feat := NTab.put (featDefault fid sub) (featKey f fid sub) v s.hif.feat } }

/-! ### Context RAM (R253) -/

def CmdSt.code : CmdSt → Nat
  | .admitted => 1
  | .credited => 2
  | .started => 3
  | .completed => 4
  | .posted => 5

def ctxAddr (tag : Nat) : Nat := ctxLo + 64 * tag

/-- Context word at offset 8 (Table 10-8). -/
def Cmd.ctx8 (c : Cmd) : Nat := c.sqid + c.func * 2 ^ 16 + b2n c.ord * 2 ^ 25 + c.st.code * 2 ^ 26

def State.ctxState (s : State) (tag : Nat) : State :=
  match s.cmd? tag with
  | some c => s.mwr 4 (ctxAddr tag + 8) c.ctx8
  | none => s

/-! ### Tags and fair share (R258 to R260) -/

def sharedTags : Nat := 129024
def State.queueHeld (s : State) (f q : Nat) : Nat := (s.hif.cmds.filter (fun c => c.func == f && c.sqid == q)).length
/-- Shared tags a function holds: those of its I/O queues, and of its admin queue beyond the first 4. -/
def State.tagsHeld (s : State) (f : Nat) : Nat :=
  (s.hif.cmds.filter (fun c => c.func == f && c.sqid != 0)).length + (s.queueHeld f 0 - 4)
def State.tagsFree (s : State) : Nat :=
  sharedTags - ((s.hif.cmds.map (fun c => c.func)).eraseDups.map s.tagsHeld).sum
def Sq.waiting (q : Sq) : Nat := (q.tail + q.size - q.head) % q.size
/-- I/O queues that hold a tag or have entries not yet fetched. -/
def State.nact (s : State) : Nat :=
  (s.hif.sqs.filter (fun e => match e.2 with
    | some q => decide (e.1 % 65536 ≠ 0) && (decide (q.waiting ≠ 0) || decide (s.queueHeld (e.1 / 65536) (e.1 % 65536) ≠ 0))
    | none => false)).length
def State.fairF (s : State) : Nat := if s.nact = 0 then sharedTags else max 4 (sharedTags / s.nact)

/-- Fair share comes into force or ends (events 223, 224). -/
def State.fairCheck (s : State) : State :=
  let low := decide (s.tagsFree < s.rd .HIF_TAGCFG_LOW)
  if low = s.hif.lowTag then s
  else
    let s := { s with hif := { s.hif with lowTag := low } }
    if low then s.raise 223 [(4, s.tagsFree), (2, s.nact)] else s.raise 224 [(4, s.tagsFree)]

/-- First tag from t on that no command holds. -/
def freeTagFrom (used : List Nat) : Nat → Nat → Nat
  | 0, t => t
  | n + 1, t => if used.contains t then freeTagFrom used n ((t + 1) % 131072) else t

/-! ### Credits and the stalemate guard (R230, R242, R255) -/

def State.poolFree (s : State) (k : Nat) : Nat := s.rd .BUF_FREE_FREE k
def State.poolSize (s : State) (k : Nat) : Nat := s.rd .BUF_POOL_SIZE k * 256
/-- A return of units, capped at the pool's size (R230). -/
def State.giveCredit (s : State) (k n : Nat) : State :=
  if s.poolSize k < s.poolFree k + n then
    ((s.wr .BUF_FREE_FREE (s.poolSize k) k).wr .BUF_STAT_POVF 1).raise 251 [(1, k), (4, n)]
  else s.wr .BUF_FREE_FREE (s.poolFree k + n) k
def State.takeCredit (s : State) (k n : Nat) : State := s.wr .BUF_FREE_FREE (s.poolFree k - n) k

def Cmd.waits (c : Cmd) : Bool := c.st == .admitted && (decide (c.has0 < c.need0) || decide (c.has1 < c.need1))

/-! ### Completions (R257, R264, R300) -/

/-- A completion has been written (Table 10-7), whether or not it has been posted. -/
def Cmd.done (c : Cmd) : Bool := c.st == .completed || c.st == .posted

/-- Write-type commands of a zone not yet completed. -/
def State.zoneCmds (s : State) (ns z : Nat) : List Cmd :=
  s.hif.cmds.filter (fun c => c.nsidx == some ns && !c.done &&
    (match c.zone with | some (z', _, _) => z' == z | none => false))

/-- AP: WP plus the blocks of every write-type command admitted and not yet completed (R299). -/
def State.zoneAp (s : State) (ns z : Nat) : Nat :=
  (s.zoneCmds ns z).foldl (fun a c => match c.zone with | some (_, _, n) => a + n | none => a) (s.zone ns z).wp

/-- What a status other than success leaves: an Error Information entry (event 241), and event 243 for Internal Error, whose
code the low 11 bits hold. A command that posts nothing leaves nothing. -/
def State.noteStatus (s : State) (c : Cmd) (st : Nat) : State :=
  if st = 0 ∨ c.silent then s
  else
    let s := if st % 2048 = scInternal then s.raise 243 [(2, c.func), (4, c.tag), (1, c.e.opc.toNat)] else s
    let lba := c.errLba.getD (c.e.cdw10.toNat + c.e.cdw11.toNat * 2 ^ 32)
    let log := ((c.func, st, lba) :: s.hif.errLog).take 256
    State.raise { s with hif := { s.hif with errLog := log } } 241 [(2, c.func), (2, st), (8, lba)]

/-- Credits that go back at a completion: pool 0's of a command that was never started, and pool 1's unless its transfer
runs, whose end returns them (R264, R428). -/
def State.creditsBack (s : State) (c : Cmd) : State :=
  let s := if c.has0 ≠ 0 ∧ (c.st = .admitted ∨ c.st = .credited) then s.giveCredit 0 c.has0 else s
  if c.has1 = 0 ∨ c.xfer = .running then s else s.giveCredit 1 c.has1

def State.dropCmd (s : State) (tag : Nat) : State := s.setCmds (s.hif.cmds.filter (fun x => x.tag != tag))

/-- A completion is written: locks go, credits return, the entry waits for its queue and for its transfer (R256, R264, R428).
A command of a reset controller posts nothing and its tag is free as soon as its transfer has ended (R272). -/
def State.complete0 (s : State) (tag st d0 d1 : Nat) : State :=
  match s.cmd? tag with
  | none => s
  | some c =>
    if c.done then s
    else
      let runs := c.xfer == .running
      let s := s.creditsBack c
      let s := if c.silent && !runs then s.dropCmd tag
        else
          let s := s.updCmd tag (fun c => { c with lock := none, st := .completed, cpl := some (st, d0, d1), cseq := s.hif.cseq, has0 := 0,
                                                   need0 := 0, has1 := if runs then c.has1 else 0, need1 := 0 })
          let s := { s with hif := { s.hif with cseq := s.hif.cseq + 1 } }
          s.ctxState tag
      s.noteStatus c st

/-- Zone size and capacity of a compression class, in blocks (Table 11-1). -/
def zsze (cls : Nat) : Nat := if cls = 0 then 65536 else 131072
def zcap (cls : Nat) : Nat := if cls = 0 then 65536 else if cls = 1 then 131072 else 87380
def State.zcapOf (s : State) (ns : Nat) : Nat := match s.ns? ns with | some n => zcap n.cls | none => 65536

/-! ### Zones the module changes (R303) -/

/-- A notice to a controller that has enabled it (FID 0Bh, bit b): it completes an outstanding event request, or waits for
one. The numbers are NVMe's (log entry 20). -/
def State.notify (s : State) (f b dw0 : Nat) : State :=
  if !(s.feat f 0x0B).testBit b then s
  else
    let k := s.ctrl f
    match k.aers with
    | t :: rest => (s.setCtrl f { k with aers := rest }).complete0 t 0 dw0 0
    | [] => if k.notices.contains dw0 then s else s.setCtrl f { k with notices := k.notices ++ [dw0] }

/-- Functions whose controllers are enabled. -/
def State.enabled (s : State) : List Nat := (s.hif.ctrls.filter (fun e => e.2.en)).map (fun e => e.1)

/-- The notice of a SMART critical warning, on every enabled controller. -/
def State.notifyWarn (s : State) (bit : Nat) : State :=
  s.enabled.foldl (fun s f => s.notify f bit (if bit = 1 then 0x020101 else 0x020001)) s

def noticeNamespace : Nat := 0x040002
def noticeFirmware : Nat := 0x030102
def noticeZone : Nat := 0xBFEF02

def zoneRelocation : Nat := 0
def zoneNoPosition : Nat := 1
def zoneWant : Nat := 2

/-- Event 318, the Changed Zone List and the notice of every controller of the namespace. -/
def State.zoneChanged (s : State) (n : Nsp) (z cause : Nat) : State :=
  let fs := (List.range 512).filter (fun f => NSet.has f n.funcs)
  let s := fs.foldl (fun s f =>
    State.notify { s with hif := { s.hif with changedZone := NSet.add (f * 2 ^ 48 + n.nsidx * 2 ^ 32 + z) s.hif.changedZone } } f 27 noticeZone) s
  s.raise 318 [(4, n.nsid), (8, z * zsze n.cls), (1, cause)]

def isOpen (z : ZoneSt) : Bool := z == .implicit || z == .explicit
def isActive (z : ZoneSt) : Bool := isOpen z || z == .closed

/-- A compressed zone with no data position left, its units closed, becomes Full (Table 11-3). -/
def State.fullCheck (s : State) (n : Nsp) (z : Nat) : State :=
  let zn := s.zone n.nsidx z
  if n.cls ≠ 0 ∧ zn.fill = 65536 ∧ zn.unit = 0 ∧ isActive zn.st then
    (s.setZone n.nsidx z { zn with st := .full, zfc := true }).zoneChanged n z zoneNoPosition
  else s

/-- The open unit of a zone is closed (R311), which may fill the zone. -/
def State.closeUnit (s : State) (ns z : Nat) : State :=
  let zn := s.zone ns z
  if zn.unit = 0 then s
  else
    let s := s.setZone ns z { zn with unit := 0 }
    match s.ns? ns with
    | some n => s.fullCheck n z
    | none => s

/-- Open compressed units are closed, of the namespaces that p picks. -/
def State.closeUnits (s : State) (p : Nat → Bool) : State :=
  s.hif.zones.foldl (fun s e => if p (e.1 / 2 ^ 32) then s.closeUnit (e.1 / 2 ^ 32) (e.1 % 2 ^ 32) else s) s

/-- BUF_STAT.GUARD follows the waiting commands; its rise raises event 252 and closes open units (R242, R311). -/
def State.guardCheck (s : State) : State :=
  let w := s.hif.cmds.any Cmd.waits
  if w = s.bit .BUF_STAT_GUARD then s
  else if w then
    ((s.wr .BUF_STAT_GUARD 1).raise 252 ((List.range 4).map (fun k => (4, s.poolFree k)))).closeUnits (fun _ => true)
  else s.wr .BUF_STAT_GUARD 0

def State.complete1 (s : State) (tag st d0 d1 : Nat) : State := (s.complete0 tag st d0 d1).guardCheck

/-- A write-type command of a zone has failed or been ended: the later ones of the zone complete with Zone Invalid Write,
but for those that are being ended themselves (R269, R300). -/
def State.failLater (s : State) (c : Cmd) : State :=
  match c.zone, c.nsidx with
  | some (z, _, _), some ns =>
    (((s.zoneCmds ns z).filter (fun x => decide (c.aseq < x.aseq) && !x.ended)).map (fun x => x.tag)).foldl
      (fun s t => s.complete1 t scZoneWrite 0 0) s
  | _, _ => s

/-- Success moves the zone's write pointer, and fills the zone at its capacity; a failure fails every later command of the
zone (R300). -/
def State.complete (s : State) (tag st d0 d1 : Nat) : State :=
  match s.cmd? tag with
  | none => s
  | some c =>
    if st ≠ 0 then (s.complete1 tag st d0 d1).failLater c
    else
      let s := match c.zone, c.nsidx with
        | some (z, lo, n), some ns =>
          let zn := s.zone ns z
          s.setZone ns z { zn with wp := lo + n, st := if lo + n = s.zcapOf ns then .full else zn.st }
        | _, _ => s
      s.complete1 tag st d0 d1

/-- Firmware ends a started command. -/
def State.finish (s : State) (tag st d0 d1 : Nat) : State :=
  match s.cmd? tag with
  | none => s
  | some c => if c.st = .started then s.complete tag st d0 d1 else s

/-- The status of an ended command replaces the one written (R269), and a Read whose data was lost or POISON does not
succeed (R15, R208). -/
def State.finishCmd (s : State) (c : Cmd) (st d0 d1 : Nat) : State :=
  s.finish c.tag (if c.ended then scSqDeleted else if st = 0 ∧ c.errLba.isSome then scUnrecovered else st) d0 d1

/-- The command of a tag, started and not yet completed. -/
def State.started? (s : State) (tag : Nat) : Option Cmd :=
  match s.cmd? tag with
  | some c => if c.st == .started then some c else none
  | none => none

/-! ### Posting (R257, R259, R269) -/

def Cq.room (q : Cq) : Bool := decide ((q.tail + q.size - q.head) % q.size + 1 < q.size)

/-- The completion queue a command posts to. -/
def State.cqOf (s : State) (c : Cmd) : Nat := match s.sq c.func c.sqid with | some q => q.cq | none => 0

/-- Completions waiting for a queue, in the order firmware wrote them; one whose transfer still runs holds back those behind
it (R257, R428). -/
def State.waitingFor (s : State) (f q : Nat) : List Cmd :=
  (s.hif.cmds.filter (fun c => c.st == .completed && c.func == f && s.cqOf c == q)).mergeSort (fun a b => decide (a.cseq ≤ b.cseq))

/-- Interrupt Coalescing and Interrupt Vector Configuration (FID 08h, 09h). -/
def State.signal (s : State) (f q : Nat) (k : Cq) : State :=
  let ic := s.feat f 0x08
  if k.ien = false then s
  else if q = 0 ∨ ic / 256 % 256 = 0 ∨ (s.feat f 0x09 k.vec) / 65536 % 2 = 1 ∨ ic % 256 + 1 ≤ k.unsig + 1 then
    (s.setCq f q (some { k with unsig := 0 })).emit (.irq f k.vec)
  else s.setCq f q (some { k with unsig := k.unsig + 1 })

/-- The Delete of a queue completes once every completion of the queue has been posted (R269). -/
def State.deleteCheck (s : State) (f q : Nat) : State :=
  match s.sq f q with
  | some k =>
    if k.deleting = 0 then s
    else if s.hif.cmds.any (fun c => c.func == f && c.sqid == q && c.st != .posted) then s
    else ((s.setSq f q none).complete (k.deleting - 1) 0 0 0).raise 222 [(2, f), (2, q), (2, k.aborted)]
  | none => s

/-- The completion entry on the fabric: KIND 6 and no head; what the spec does not give is free (R12, log entry 102). -/
def State.entryTag (s : State) (tag func nsidx : Nat) (ord : Bool) : State :=
  let (x, s) := s.draw 14
  s.fabric (frameTag tag func nsidx 31 6 x (setBitN (setBitN (x / 256) 1 ord) 2 false))

/-- Posts the oldest waiting completion of a queue with room. -/
def State.postOne (s : State) (f q : Nat) : State :=
  match s.cq f q, s.waitingFor f q with
  | some k, c :: _ =>
    if k.room && c.xfer != .running then
      let (st, d0, d1) := c.cpl.getD (0, 0, 0)
      let hd := match s.sq f c.sqid with | some x => x.head | none => 0
      let k' := { k with tail := (k.tail + 1) % k.size, posted := k.posted ++ [c.tag] }
      let s := ((s.updCmd c.tag (fun c => { c with st := .posted })).ctxState c.tag).entryTag c.tag c.func (c.nsidx.getD 0) c.ord
      let s := (s.setCq f q (some k')).emit (.cqe f q c.sqid hd c.e.cid.toNat st d0 d1)
      (s.signal f q k').deleteCheck f c.sqid
    else s
  | _, _ => s

/-- A command that fails its field checks at admission is completed and posted at once (R252). -/
def State.failNow (s : State) (tag st : Nat) : State :=
  match s.cmd? tag with
  | none => s
  | some c => (s.complete1 tag st 0 0).postOne c.func (s.cqOf c)

/-! ### The end of a controller's commands (R269, R272) -/

/-- Ends the commands that a test picks: unstarted ones complete as aborted at once, started ones are marked to end at their
next boundary, and later writes of the zones fail. With quiet no entry is posted and tags are freed. -/
def State.endCmds (s : State) (pick : Cmd → Bool) (quiet : Bool) : State :=
  let s := s.setCmds (s.hif.cmds.map (fun c => if pick c then { c with silent := c.silent || quiet, ended := true } else c))
  let idle := s.hif.cmds.filter (fun c => pick c && (c.st == .admitted || c.st == .credited))
  let s := idle.foldl (fun s c => s.complete1 c.tag scSqDeleted 0 0) s
  let s := idle.foldl State.failLater s
  if quiet then s.setCmds (s.hif.cmds.filter (fun c => !(pick c && c.done && c.xfer != .running))) else s

/-- Event 242. -/
def State.virtEvent (s : State) (f : Nat) : State :=
  s.raise 242 [(2, f), (2, (s.ctrl f).queues), (2, (s.ctrl f).vecs), (1, b2n (s.ctrl f).online)]

/-- A reset of controller f (R272): its commands end without completions, its queues and outstanding event requests
go, its features return to their defaults (Table 10-3), PS0 among them, flexible resources assigned to the primary
controller take effect, and its open units close (R311). -/
def State.resetCtrl (s : State) (f cause : Nat) : State :=
  let n := (s.hif.cmds.filter (fun c => c.func == f && !c.done)).length
  let s := s.endCmds (fun c => c.func == f) true
  let s := s.setCmds (s.hif.cmds.filter (fun c => !(c.func == f && (s.ctrl f).aers.contains c.tag)))
  let h := { s.hif with sqs := s.hif.sqs.filter (fun e => e.1 / 65536 != f), cqs := s.hif.cqs.filter (fun e => e.1 / 65536 != f),
                        feat := s.hif.feat.filter (fun e => e.1 / (256 * 65536) != f) }
  let s := { s with hif := h }
  let k := s.ctrl f
  let s := s.setCtrl f { k with en := false, rdy := false, aers := [], notices := [], ams := false, last := [], burst := [],
                                spent := [], queues := k.newQ.getD k.queues, vecs := k.newV.getD k.vecs, newQ := none, newV := none }
  let s : State := if k.newQ.isSome || k.newV.isSome then s.virtEvent f else s
  let s : State := if f = 0 ∧ s.rd .HIF_PWR_PSREQ ≠ 0 then
      let h := { s.hif with entry := some 0 }
      let s : State := s.wr .HIF_PWR_PSREQ 0
      { s with hif := h }
    else s
  let s := s.closeUnits (fun ns => match s.ns? ns with | some x => NSet.has f x.funcs | none => false)
  s.fairCheck.raise 221 [(2, f), (1, cause), (4, n)]

/-- Outcome recorded for a self-test (R292): 0 passed, 1 aborted, 2 ended by a controller level reset, 4 by
Format, 6 failed, 9 by Sanitize (log entry 20). -/
def State.endTest (s : State) (result : Nat) : State :=
  match s.hif.test with
  | none => s
  | some t =>
    State.raise { s with hif := { s.hif with test := none, testLog := ((t.code, result) :: s.hif.testLog).take 20 } }
      237 [(1, t.code), (1, result)]

/-- Controllers that have anything a reset would clear. -/
def State.liveFuncs (s : State) : List Nat :=
  (s.hif.ctrls.map (fun e => e.1) ++ s.hif.cmds.map (fun c => c.func)).eraseDups

/-- A link reset, or an FLR of the physical function: every controller (Table 2-7). A short self-test ends. -/
def State.resetAll (s : State) (cause : Nat) : State :=
  let s := match s.hif.test with | some t => if t.code = 1 then s.endTest 2 else s | none => s
  { s.liveFuncs.foldl (fun s f => s.resetCtrl f cause) s with staged := [] }

end Sys2Proof.Machine
end

