-- ==== Sys2Proof/Machine/PowerOps.lean ====
section
/-! DEFINITION. Machine/PowerOps.lean: shared operations of the power die and the chain switch: the write permit
(R126, R127), autonomous retract (R100), and closing the pass (R334, R335). -/

namespace Sys2Proof.Machine

/-! ### The write permit -/

/-- The conditions of Table 5-5 for an arm, in table order. -/
def State.wpConds (s : State) (a : Nat) : List Bool :=
  [NSet.has a s.pwr.plaus, NSet.has a s.pwr.fresh, s.pwr.v12, s.pwr.vpre, s.pwr.core && !s.pwr.hot, !s.pwr.shock,
   s.pwr.soundA && s.pwr.soundB, s.pwr.link && decide (5 ≤ s.rst.step) && s.pwr.retract == 0, s.rdBit .SPN_WP_EN a]

/-- Conditions that fail, as the bits of Table 5-5. -/
def failBits : List Bool → Nat
  | [] => 0
  | c :: t => b2n (!c) + 2 * failBits t

/-- A write frame on the medium is cut: it does not count as written (R25). -/
def State.cutFrame (s : State) (h : Nat) : State :=
  let c := NTab.get {} h s.chans
  match c.wf with
  | some f => { s with chans := NTab.put {} h { c with wf := some { f with cut := true } } s.chans }
  | none => s

/-- WP[a] follows its conditions; a fall latches its causes and raises the arm's permit event (R127). -/
def State.wpArm (s : State) (a : Nat) : State :=
  let bits := failBits (s.wpConds a)
  let was := s.rdBit .SPN_WP_WP a
  if was && bits != 0 then
    let s := (s.wrBit .SPN_WP_WP a false).wr .SPN_WP_CAUSE (Nat.lor (s.rd .SPN_WP_CAUSE) bits)
    let s := (List.range 6).foldl (fun s p => s.cutFrame (6 * a + p)) s
    s.raise (146 + 4 * a) [(2, bits)]
  else if !was && bits == 0 then s.wrBit .SPN_WP_WP a true
  else s

def State.updWp (s : State) : State := (((s.wpArm 0).wpArm 1).wpArm 2).wpArm 3

def State.setPwr (s : State) (p : Pwr) : State := { s with pwr := p }
def State.setSpn (s : State) (p : Spn) : State := { s with spn := p }
def State.setPsw (s : State) (p : Psw) : State := { s with psw := p }
def State.arm (s : State) (a : Nat) : ArmS := NTab.get {} a s.arms
def State.setArm (s : State) (a : Nat) (v : ArmS) : State := { s with arms := NTab.put {} a v s.arms }

/-- The command last sent when the given cycles have passed since the crossing: the one that the power die applies. -/
def State.planned (s : State) (cycles : Nat) : State :=
  let p := s.spn
  match (p.plan.filter (fun e => decide (e.1 < 16 * cycles))).getLast? with
  | some e => s.setSpn { p with vApp := e.2.1, icmd := e.2.2, plan := [] }
  | none => s.setSpn { p with plan := [] }

/-- An event of the power die: raised now, or once the link and the event controller run again (R98, R99). -/
def State.powerEvent (s : State) (src : Nat) (items : List (Nat × Nat)) : State :=
  if s.pwr.link && s.up 5 then s.raise src items else s.hold src items

/-- The power die hears from the controller die again after a silence: the link is alive and its events go out. -/
def State.linkHeard (s : State) : State :=
  if s.pwr.link || !s.up 5 then s else (s.setPwr { s.pwr with link := true }).raiseHeld

/-! ### Positions and states of an arm -/

/-- States in which the heads count as loaded (R120). -/
def loadedState (st : Nat) : Bool := st == 2 || st == 3 || st == 4 || st == 5 || st == 6
def State.armLoaded (s : State) (a : Nat) : Bool := loadedState (s.rd .SCE_STAT_STATE a)

/-- Seek, settle or follow: the loops and the plausibility run (R113, R123, R124). -/
def State.armTracks (s : State) (a : Nat) : Bool :=
  s.rd .SCE_STAT_STATE a == 3 || s.rd .SCE_STAT_STATE a == 4 || s.rd .SCE_STAT_STATE a == 5

/-- A change of a head's plausibility (R125, R128). cause: bit 0 the residual, bits 1 to 4 the record's error bits, bit 5
late samples. -/
def State.setPlaus (s : State) (a p : Nat) (b : Bool) (cause : Nat) (res : Int) : State :=
  if s.rdBit .SCE_HSTAT_PLAUS p a = b then s
  else ((if b then s else s.cutFrame (6 * a + p)).wrBit .SCE_HSTAT_PLAUS p b a).raise (145 + 4 * a) [(1, 6 * a + p), (1, b2n b), (1, cause), (4, wrapN 32 res)]

/-- The arm is plausible while its reference head is (R124). -/
def State.armPlaus (s : State) (a : Nat) : State :=
  let b := s.armLoaded a && s.rdBit .SCE_HSTAT_PLAUS (s.rd .SCE_STAT_REFACT a) a
  let s := s.wrb .SCE_HSTAT_ARMPL b a
  if b then s else s.setPwr { s.pwr with plaus := NSet.del a s.pwr.plaus }

/-- A head turns implausible for a cause other than the sample at hand: the event carries its last residual. -/
def State.losePlaus (s : State) (a p cause : Nat) : State :=
  s.setPlaus a p false cause (NTab.get {} p (s.arm a).micro).res

/-- Outside the loaded and tracking states every head is implausible (R124). Table 5-8 names no cause for that; event 145 + 4a
carries cause 0 here, and where a head turns plausible (log entry 107). -/
def State.allImplausible (s : State) (a : Nat) : State :=
  ((List.range 6).foldl (fun s p => s.losePlaus a p 0) s).armPlaus a

/-- A microactuator that does not run: output and integrator are 0 (R113). -/
def Micro.stopped (m : Micro) : Micro :=
  { m with integ := 0, sat := .clear, vApp := 0, uApp := 0, swap := false, lateN := 0, lateRun := false }

/-- A microactuator loop stops. -/
def State.stopMicro (s : State) (a p : Nat) : State :=
  let v := s.arm a
  let m := NTab.get {} p v.micro
  let s := s.setArm a { v with micro := NTab.put {} p m.stopped v.micro }
  let s := if m.uApp = 0 then s else s.emit (.micro (6 * a + p) 0)
  (s.wrBit .SCE_STAT_SATM p false a).wrBit .SCE_STAT_OUTWIN p false a

/-- Loops stop: integrators and outputs are zero, no castling is left, and readiness is lost (R113, R118, R123). The spec does
not say what becomes of the filter states and of SAT: the states stay and SAT clears (log entry 107). -/
def State.stopLoops (s : State) (a : Nat) : State :=
  let s := (List.range 6).foldl (fun s p => s.stopMicro a p) s
  let v := s.arm a
  let s := if v.swap then s.wr .SCE_BANKSEL_ACTIVE (1 - s.rd .SCE_BANKSEL_ACTIVE a) a else s
  let s := s.setArm a { v with integ := 0, sat := .clear, vApp := 0, uApp := 0, swap := false, okRun := 0, turn := false, hist := [],
                               lateN := 0, lateRun := false,
                               micro := v.micro.foldl (fun t e =>
                                 NTab.put {} e.1 { e.2 with pred := none, oob := 0, good := 0, rdN := 0, wrN := 0 } t) [] }
  (((s.wr .SCE_HSTAT_RDY_RD 0 a).wr .SCE_HSTAT_RDY_WR 0 a).wr .SCE_STAT_SATV 0 a).wr .SCE_BANKSEL_PENDING 0 a

/-- Every surface of an arm that leaves the loaded states counts as having lost servo timing, without a vector (R27). -/
def State.loseTiming (s : State) (a : Nat) : State :=
  (List.range 6).foldl (fun s p =>
    let h := 6 * a + p
    let v := NTab.get {} h s.hses
    let c := NTab.get {} h s.chans
    let s := { s with hses := NTab.put {} h { v with servo := false, miss := 0, direct := false } s.hses,
                      chans := NTab.put {} h { c with timed := false } s.chans }
    if s.bit .HSE_CTL_SGAUTO h then s.wrBit .HSE_STAT_GATES 0 true h else s) s

def State.setSceState (s : State) (a st : Nat) : State :=
  let was := s.armLoaded a
  let s := (s.wr .SCE_STAT_STATE st a).wrb .SCE_STAT_LOADED (loadedState st) a
  if was && !loadedState st then s.loseTiming a else s

/-- Control fault causes of event 147 + 4a (Table 5-8), in its order. -/
def faultRefchg : Nat := 0
def faultWract : Nat := 1
def faultCastle : Nat := 2
def faultSeektmo : Nat := 3
def faultLoadtmo : Nat := 4
def faultSelfUnload : Nat := 5
def State.sceFault (s : State) (a cause : Nat) : State := s.raise (147 + 4 * a) [(1, cause)]

/-- A voice coil is driven, unless the power die has switched its bridge off (R403). -/
def State.drive (s : State) (a : Nat) (o : Out) : State := if NSet.has a s.pwr.tripped then s else s.emit o

/-- SCE[a] drives its voice coil. A power die too hot keeps every bridge off (R414), but for its own retract. -/
def State.sceDrive (s : State) (a : Nat) (o : Out) : State := if s.pwr.hotDie then s else s.drive a o

/-- The arm unloads (R120). -/
def State.armUnload (s : State) (a : Nat) : State :=
  let s := (((s.stopLoops a).allImplausible a).setSceState a 6).updWp
  s.sceDrive a (.vcmVel a (-(s.rd .SCE_LOAD_LOADV a : Int)))

/-- The arm enters retracted (R120). -/
def State.armRetract (s : State) (a : Nat) : State :=
  let s := ((s.stopLoops a).allImplausible a).setSceState a 7
  s.drive a (.vcmVel a (-(s.rd .SPN_ILIM_RETV : Int)))

/-! ### Retract (R100) -/

/-- Cause byte of event 180: R100's list, counted from 0; R100 does not list a power-die fault. -/
inductive RetractCause where
  | bus
  | reset
  | silence
  | fault
  deriving DecidableEq, Repr

/-- All four arms retract together; one whose bridge the power die has switched off is not driven (R403). -/
def State.retract (s : State) (c : RetractCause) : State :=
  if s.pwr.retract != 0 then s
  else
    let s := s.setPwr { s.pwr with retract := 1 }
    let s := (List.range 4).foldl (fun s a => s.armRetract a) s
    let (v, s) := match c with
      | .bus => (0, s)
      | .reset => (1, s)
      | .silence => (2, s)
      | .fault => s.draw 8
    (s.powerEvent 180 [(1, v)]).updWp

/-! ### Links of the chain -/

/-- A chain message (R332): KIND, VALUE and the signature in its header, Message Code 0x7F, routed Local, which PCI Express
codes as 4. -/
def State.chainOut (s : State) (p : Port) (kind value : Nat) : Out :=
  .chain p 4 0x7F (s.rd .PSW_ID_VID) (kind + value * 2 ^ 8 + 0x4E44 * 2 ^ 16)

/-- BELOW as the USP sends it: 1 plus what the EDP received, 1 without a link below. -/
def State.sendBelow (s : State) : State :=
  if s.bit .PSW_STAT_USUP then
    s.emit (s.chainOut .usp 2 (1 + if s.bit .PSW_STAT_DSUP then s.rd .PSW_CHAIN_BELOW else 0))
  else s

/-- The BELOW received changes: event 200, and the value sent upstream follows. -/
def State.setBelow (s : State) (b : Nat) : State :=
  let old := s.rd .PSW_CHAIN_BELOW
  if old = b then s else ((s.wr .PSW_CHAIN_BELOW b).raise 200 [(1, old), (1, b)]).sendBelow

/-- The USP's link is down: its status clears and event 189 is raised. -/
def State.uspDown (s : State) (cause : Nat) : State :=
  if s.bit .PSW_STAT_USUP then
    let s := (((s.wr .PSW_STAT_USUP 0).wr .PSW_STAT_DEPTHOK 0).wr .PSW_USLNK_SPEED 0).wr .PSW_USLNK_WIDTH 0
    (s.setPsw { s.psw with usFinal := false }).raise 189 [(1, cause)]
  else s

/-- The EDP's link is down: its status and BELOW clear, event 191. -/
def State.edpDown (s : State) (cause : Nat) : State :=
  if s.bit .PSW_STAT_DSUP then
    let s := ((s.wr .PSW_STAT_DSUP 0).wr .PSW_DSLNK_SPEED 0).wr .PSW_DSLNK_WIDTH 0
    let s := s.setPsw { s.psw with dsFinal := false, edp := { s.psw.edp with presence := true, linkChange := true } }
    (s.raise 191 [(1, cause)]).setBelow 0
  else s

/-- A link reset (Table 2-7): the configuration spaces of the ports have the reach link, and every function is reset. -/
def State.linkReset (s : State) : State :=
  State.resetAll (s.setPsw { s.psw with idpDisabled := false, edpDisabled := false, usp := {}, idp := {}, edp := {} }) 2

/-- The module's own SerDes leave both links: Data Link Layer down at each. -/
def State.linksDown (s : State) : State := (s.uspDown 0).edpDown 0

/-! ### The pass -/

/-- The switches begin to close (R325), both links are lost, and the module sees a link reset (R335). -/
def State.leave (s : State) : State :=
  ((s.wr .PSW_PASS_STATE 3).setPsw { s.psw with holdoff := true, swMoving := true, swOpen := 0 }).linksDown.linkReset

/-- A close of the pass with a recorded cause (R334): OPENFLAG clears and event 196 is raised. PENDING stays set for cause 2
only. The switches' senses are checked next (R327). -/
def State.passClose (s : State) (cause : Nat) : State :=
  let st := s.rd .PSW_PASS_STATE
  if st = 1 ∨ st = 2 then
    (((s.wr .PSW_PASS_PENDING (if cause = 2 then 1 else 0)).setPassRec false cause).raise 196 [(1, cause)]).leave
  else s

/-- Cause 6 acts at once and is recorded when the supplies are good again (R334). -/
def State.passClose6 (s : State) : State :=
  let st := s.rd .PSW_PASS_STATE
  if st = 1 ∨ st = 2 then ((s.wr .PSW_PASS_PENDING 0).setPwr { s.pwr with close6 := true }).leave else s

/-- The supplies are good again: a close of cause 6 is recorded (R334). Before the event controller runs its event is kept. -/
def State.recordClose6 (s : State) : State :=
  if s.pwr.close6 then
    let s := (s.setPassRec false 6).setPwr { s.pwr with close6 := false }
    if s.up 5 then s.raise 196 [(1, 6)] else s.hold 196 [(1, 6)]
  else s

end Sys2Proof.Machine
end

