-- ==== Sys2Proof/Machine/LoopOps.lean ====
section
/-! DEFINITION. Machine/LoopOps.lean: what the loops of SCE[0..4] share: coefficient banks and their formats (R84, R116),
the saturating integrator (R112), castling (R117 to R119) and the filters. -/

namespace Sys2Proof.Machine

/-! ### Coefficient banks -/

def sceBase (e : Nat) : Nat := 0x10500000 + 0x10000 * e
/-- Address of offset o of bank b (0 A, 1 B) of SCE[e]. -/
def bankAddr (e b o : Nat) : Nat := sceBase e + 0x1000 + (if e < 4 then 0x200 else 0x80) * b + o

def State.bankInt (s : State) (e b o : Nat) : Int := signedN 32 (s.mrd 4 (bankAddr e b o))
/-- A bank entry with f fraction bits. -/
def State.bankQ (s : State) (e b o f : Nat) : Rat := (s.bankInt e b o : Rat) / ((2 ^ f : Nat) : Rat)
/-- A gain of an arm's bank, Q8.24. -/
def State.gain (s : State) (a b o : Nat) : Rat := s.bankQ a b o 24

/-- The bank a coarse or speed loop uses. -/
def State.bankNow (s : State) (e : Nat) : Nat := s.rd .SCE_BANKSEL_ACTIVE e

/-! ### Arithmetic -/

def clampQ (x lo hi : Rat) : Rat := max lo (min hi x)
def signQ (x : Rat) : Rat := if 0 < x then 1 else if x < 0 then -1 else 0

/-- One integrator step with its SAT flag (R112). -/
def satStep (i inc lo hi : Rat) (f : Sat) : Rat × Sat :=
  if (f = .high ∧ 0 < inc) ∨ (f = .low ∧ inc < 0) then (i, f)
  else
    let x := i + inc
    if hi < x then (hi, .high) else if x < lo then (lo, .low) else (x, if inc = 0 then f else .clear)

/-- The integrator at a swap sample: the pre-filter sum carries on (R119). -/
def castleStep (vLast terms lo hi : Rat) (f : Sat) : Rat × Sat :=
  let raw := vLast - terms
  if hi < raw then (hi, .high) else if raw < lo then (lo, .low) else (raw, f)

/-- Direct form II transposed, coefficients signed Q2.30 from offset o of a bank (R116). -/
def State.biquad (s : State) (a b o : Nat) (m : Bq) (x : Rat) : Rat × Bq :=
  let c (k : Nat) : Rat := s.bankQ a b (o + 4 * k) 30
  let y := c 0 * x + m.z1
  (y, { z1 := c 1 * x - c 3 * y + m.z2, z2 := c 2 * x - c 4 * y })

/-- A square root: the module's own, where it is one to within 1/1024, and otherwise the whole number below. -/
def rootQ (x : Rat) : Rat :=
  let r := Config.sqrt x
  if 0 ≤ r ∧ r * r ≤ x ∧ x ≤ (r + 1 / 1024) * (r + 1 / 1024) then r else (Nat.sqrt x.floor.toNat : Nat)

/-- Milliseconds of one sample of a head at the measured speed, 0 with none: 480 samples a revolution. -/
def State.samplePeriod (s : State) : Rat :=
  let q := s.rd .SPN_MEAS_SPEED
  if q = 0 then 0 else (500 : Rat) / (q : Rat)

/-! ### Castling (R117, R118) -/

/-- Events of an SCE's bank faults: 147 + 4a, or 162 for SCE[4]. -/
def State.bankFault (s : State) (e cause : Nat) : State := if e < 4 then s.sceFault e cause else s.raise 162 [(1, cause)]

/-- The loops of SCE[e] run. -/
def State.loopsRun (s : State) (e : Nat) : Bool := if e < 4 then s.armTracks e else s.spn.loop

/-- Castling toward bank b is requested. Stopped loops swap at once. -/
def State.castleTo (s : State) (e b : Nat) : State :=
  let need := s.bankNow e != b
  if !s.loopsRun e then (s.wr .SCE_BANKSEL_ACTIVE b e).wr .SCE_BANKSEL_PENDING 0 e
  else
    let s := if e < 4 then s.setArm e { s.arm e with swap := need } else s.setSpn { s.spn with swap := need }
    if need then s.wr .SCE_BANKSEL_PENDING 1 e else s

/-- BANKSEL_SWAP (R118). -/
def State.bankSwap (s : State) (e : Nat) : State :=
  if s.bit .SCE_BANKSEL_PENDING e || s.bit .SCE_BANKSEL_AUTO e then (s.wr .SCE_BANKSEL_REFUSED 1 e).bankFault e faultCastle
  else s.castleTo e (1 - s.bankNow e)

/-- Word w of a bank is written: a bank in use ignores it (R117). -/
def State.bankStore (s : State) (e : Nat) (bankB : Bool) (w v : Nat) : State :=
  if e = 4 ∧ 32 ≤ w then s
  else if s.bankNow e = b2n bankB then (s.wr .SCE_BANKSEL_WRACT 1 e).bankFault e faultWract
  else s.mwr 4 (bankAddr e (b2n bankB) (4 * w)) v

end Sys2Proof.Machine
end

