-- ==== Sys2Proof/Machine/AdminOps.lean ====
section
/-! DEFINITION. Machine/AdminOps.lean: shared operations of the rows that act on a started command: which command a tag
names, and the notices of asynchronous events. -/

namespace Sys2Proof.Machine

/-- The started admin command of a tag, when its opcode is opc. -/
def State.admin? (s : State) (tag opc : Nat) : Option Cmd :=
  match s.started? tag with
  | some c => if c.sqid = 0 ∧ c.e.opc.toNat = opc then some c else none
  | none => none

/-- The spindle is at its tier, and every arm that an SCE runs tracks. -/
def State.mediumBack (s : State) : Bool :=
  s.bit .SPN_STAT_LOCK && (List.range 4).all (fun a => !s.bit .SCE_CTL_RUN a || s.armTracks a)

/-- Commands wait for the medium: in PS3 and PS4, until it is back after them (R287), and while a tier changes (R284). -/
def State.exiting (s : State) : Bool :=
  decide (3 ≤ s.rd .HIF_PWR_PSNOW) || (s.hif.exit && !s.mediumBack) || (s.spn.tgt != 0 && !s.bit .SPN_STAT_LOCK)

/-- An exit from PS3 or PS4 is over. -/
def State.exitDone (s : State) : State := if s.mediumBack then { s with hif := { s.hif with exit := false } } else s

/-- The started I/O command of a tag, when its opcode is opc; it waits through an exit, unless it is to end. -/
def State.io? (s : State) (tag opc : Nat) : Option Cmd :=
  match s.started? tag with
  | some c => if c.sqid ≠ 0 ∧ c.e.opc.toNat = opc ∧ (c.ended ∨ s.exiting = false) then some c else none
  | none => none

/-- The started admin command of a tag that needs the medium (R287). -/
def State.mediaAdmin? (s : State) (tag opc : Nat) : Option Cmd :=
  (s.admin? tag opc).filter (fun c => c.ended || !s.exiting)

/-- Firmware carries out a command; one whose queue or controller is going ends instead (R269). -/
def State.onCmd (s : State) (c : Option Cmd) (f : Cmd → State) : Res :=
  .next (match c with
    | some c => if c.ended then s.finishCmd c scSqDeleted 0 0 else f c
    | none => s)

/-- Bits of a command dword. -/
def dwBits (d : W32) (lo w : Nat) : Nat := bitsN d.toNat lo w

end Sys2Proof.Machine
end

