-- ==== Sys2Proof/Machine/Operands.lean ====
section
/-! DEFINITION. Machine/Operands.lean: the operand fields of a submission entry (R246, R247; NVMe's places, log entry
20). -/

namespace Sys2Proof

/-! ### Fields of a command -/

def Sqe.slba (e : Sqe) : Nat := e.cdw10.toNat + e.cdw11.toNat * 2 ^ 32
def Sqe.nlb (e : Sqe) : Nat := bitsN e.cdw12.toNat 0 16 + 1
def Sqe.dtype (e : Sqe) : Nat := bitsN e.cdw12.toNat 20 4
def Sqe.fua (e : Sqe) : Bool := e.cdw12.toNat.testBit 30
def Sqe.op (e : Sqe) : Nat := e.opc.toNat
/-- Select field of the admin commands that have one. -/
def Sqe.sel (e : Sqe) : Nat := bitsN e.cdw10.toNat 0 4
/-- Limited Retry (R208). -/
def Sqe.limited (e : Sqe) : Bool := e.cdw12.toNat.testBit 31
/-- Zone Send Action and Select All, as NVMe places them (log entry 20). -/
def Sqe.zsa (e : Sqe) : Nat := bitsN e.cdw13.toNat 0 8
def Sqe.zall (e : Sqe) : Bool := e.cdw13.toNat.testBit 8

/-- An admin command whose NSID names the namespace it is for: a delete, an attach or detach, a Format, the Identify
structures of one namespace, its Changed Zone List. -/
def Sqe.forNs (e : Sqe) : Bool :=
  (e.op == 0x0D && e.sel == 1) || e.op == 0x15 || e.op == 0x80 ||
  (e.op == 0x06 && [0x00, 0x03, 0x05, 0x11].contains (bitsN e.cdw10.toNat 0 8)) ||
  (e.op == 0x02 && bitsN e.cdw10.toNat 0 8 == 0xBF)

/-- A command for the namespace, or for every namespace. -/
def Sqe.names (e : Sqe) (nsid : Nat) : Bool := e.nsid.toNat == nsid || e.nsid.toNat == 0xFFFFFFFF
/-- A sub-function of the command that the spec gives no meaning. -/
def Sqe.reservedSel (e : Sqe) : Bool :=
  ((e.op == 0x0D || e.op == 0x15) && decide (1 < e.sel)) ||
  (e.op == 0x14 && !(e.sel == 1 || e.sel == 2 || e.sel == 0xE || e.sel == 0xF))

/-! ### TLPs (R340 to R348) -/

/-- Port, by the place of events 212 and 214, at which a TLP came in. -/
def Ingress.code : Ingress → Nat
  | .usp => 0
  | .endpoint => 1
  | .edp => 2

/-- What a waiting TLP takes of a forwarding buffer: its payload and 32 bytes of header (DESIGN CHOICE, log 105). -/
def Tlp.size (t : Tlp) : Nat := t.len + 32

end Sys2Proof
end

