-- ==== Sys2Proof/Machine/Buffer.lean ====
section
/-! DEFINITION. Machine/Buffer.lean: the buffer manager (R218 to R231, R242 to R245): lines and their check words, the
patrol, training, the pools and the shaping of host traffic. -/

namespace Sys2Proof.Machine

/-! ### Lines (R219 to R223) -/

/-- A range covers the whole of line k. -/
def coversLine (a n k : Nat) : Bool := decide (a ≤ 64 * k) && decide (64 * k + 64 ≤ a + n)

/-- Stores bytes as the fabric does: a full line takes new check words, a poisoned line written in part stays poisoned,
and POISON data poisons every line it touches (R221, R222). -/
def State.busWrite (s : State) (a : Nat) (bs : List Byte) (p : Bool) : State :=
  let t := (linesOf a bs.length).foldl (fun t k =>
    if p then NSet.add k t else if coversLine a bs.length k then NSet.del k t else t) s.poison
  { s.setMbs a bs with poison := t }

/-- Event 246 when an engine's access reaches past the data space (R223). -/
def State.spaceError (s : State) (a n kind : Nat) : State :=
  if bufLo ≤ a ∧ bufHi < a + n ∧ a < bufEnd then s.raise 246 [(8, max a bufHi), (1, kind)] else s

/-- The first access of a list of addresses and lengths that does so; the spec gives the KIND of DMA and host
transfers only, so it is free here. -/
def State.spaceErrors (s : State) (l : List (Nat × Nat)) : State :=
  match l.find? (fun e => decide (bufLo ≤ e.1) && decide (bufHi < e.1 + e.2) && decide (e.1 < bufEnd)) with
  | some e =>
    let (k, s) := s.draw 4
    s.spaceError e.1 e.2 k
  | none => s

/-- Memory channel and stack of a buffer address (R219). -/
def bufChannel (addr : Nat) : Nat :=
  let a := addr - bufLo
  Nat.xor (Nat.xor (bitsN a 8 3) (bitsN a 13 3)) (bitsN a 18 3)
def bufStack (addr : Nat) : Nat := bufChannel addr / 4

/-- A single-bit error is corrected (R220). Event 244 is raised at most once a second per stack. -/
def State.lineCorrected (s : State) (line : Nat) : State :=
  let k := bufStack (64 * line)
  let n := NTab.get 0 k s.buf.ceSince + 1
  let s := (s.satAdd .BUF_CECNT_COUNT 1).wr .BUF_CEADDR_ADDR (64 * line)
  let last := NTab.get 0 k s.buf.ceLast
  let now := s.rd .EREC_OPTIME_OPTIME
  if last = 0 ∨ last + 1024 ≤ now + 1 then
    let s := s.raise 244 [(1, k), (4, n), (8, 64 * line)]
    { s with buf := { s.buf with ceSince := NTab.put 0 k 0 s.buf.ceSince, ceLast := NTab.put 0 k (now + 1) s.buf.ceLast } }
  else { s with buf := { s.buf with ceSince := NTab.put 0 k n s.buf.ceSince } }

/-- A line fails its check: it is counted and marked, once (R221). -/
def State.lineFailed (s : State) (line kind func : Nat) : State :=
  if NSet.has line s.poison then s
  else
    let s := { s with poison := NSet.add line s.poison }
    ((s.satAdd .BUF_UECNT_COUNT 1).wr .BUF_UEADDR_ADDR (64 * line)).raise 245 [(8, 64 * line), (1, kind), (2, func)]

def State.lineRead (s : State) (line kind func : Nat) : Ecc → State
  | .clean => s
  | .single => if NSet.has line s.poison then s else s.lineCorrected line
  | .multi => s.lineFailed line kind func

/-- Lines of the data space (R218). -/
def bufLines : Nat := (bufHi - bufLo) / 64

/-- PATROL_SCRUB_READ (R224): the next line, poisoned lines passed over; event 245 names KIND 15. -/
def execPatrolScrubRead (ecc : Ecc) (s : State) : Res :=
  let line := bufLo / 64 + s.buf.patrol
  .next (s.on (s.up 4 && s.bit .BUF_CTL_SCRUBEN) (fun s =>
    let s := if NSet.has line s.poison then s else s.lineRead line 15 0 ecc
    { s with buf := { s.buf with patrol := (s.buf.patrol + 1) % bufLines } }))

/-! ### Temperature and retraining (R226) -/

/-- MR4_POLL: the refresh-rate code of one stack, whether it is above the nominal range, and whether the stack has
moved by 8 °C since a channel's last training. -/
def execMr4Poll (stack : Fin 2) (code : BitVec 3) (hot moved : Bool) (s : State) : Res :=
  let s := if stack.val = 0 then s.wr .BUF_STAT_TRR0 code.toNat else s.wr .BUF_STAT_TRR1 code.toNat
  let rise := hot && !NSet.has stack.val s.buf.hot
  let h := if hot then NSet.add stack.val s.buf.hot else NSet.del stack.val s.buf.hot
  let s := { s with buf := { s.buf with hot := h } }
  let s := s.wrb .BUF_STAT_HOT (h != [])
  let s := if rise then s.raise 249 [(1, stack.val), (1, code.toNat)] else s
  .next (if moved then s.wr .BUF_STAT_RTBUSY 1 else s)

/-- RETRAIN. -/
def execRetrain (s : State) : Res := .next (s.on (s.up 4) (fun s => s.wr .BUF_STAT_RTBUSY 1))

/-- DQ_RETRAIN_DONE: event 247 carries the channels' eye margins. -/
def execDqRetrainDone (eye : Word) (s : State) : Res :=
  .next (s.on (s.bit .BUF_STAT_RTBUSY) (fun s => (s.wr .BUF_STAT_RTBUSY 0).raise 247 [(8, eye.toNat)]))

/-! ### Pools (R229, R230, R244) -/

def State.poolLo (s : State) (k : Nat) : Nat := s.rd .BUF_POOL_BASE k
def State.poolHi (s : State) (k : Nat) : Nat := s.rd .BUF_POOL_BASE k + s.rd .BUF_POOL_SIZE k

/-- Two ranges share a part. -/
def overlaps (a b c d : Nat) : Bool := decide (a < b) && decide (c < d) && decide (a < d) && decide (c < b)

/-- The conditions of R229, in its order. -/
def State.poolChecks (s : State) : List Bool :=
  let pairs := [(0, 1), (0, 2), (0, 3), (1, 2), (1, 3), (2, 3)]
  [pairs.all (fun p => !overlaps (s.poolLo p.1) (s.poolHi p.1) (s.poolLo p.2) (s.poolHi p.2)),
   [0, 1, 2, 3].all (fun k => !overlaps (s.poolLo k) (s.poolHi k) 0 32),
   [0, 1, 2, 3].all (fun k => decide (s.poolHi k ≤ 15420)),
   decide (256 ≤ s.rd .BUF_POOL_SIZE 2)]

/-- PLOCK (R229): the event names the first condition broken. -/
def execPlock (s : State) : Res :=
  .next (s.on (s.up 4 && !s.bit .BUF_CTL_PLOCK) (fun s =>
    match s.poolChecks.findIdx? (fun b => !b) with
    | some r => (s.wr .BUF_STAT_PBAD 1).raise 250 [(1, r)]
    | none => (List.range 4).foldl (fun s k => s.wr .BUF_FREE_FREE (s.poolSize k) k) (s.wr .BUF_CTL_PLOCK 1)))

/-- BUF_PRET_WRITE (R230). -/
def execBufPretWrite (k : Fin 4) (v : BitVec 25) (s : State) : Res :=
  let n := signedN 25 v.toNat
  .next (s.on (s.bit .BUF_CTL_PLOCK) (fun s =>
    if 0 ≤ n then s.giveCredit k n.toNat
    else if s.poolFree k < (-n).toNat then s.wr .BUF_STAT_PNEG 1
    else s.takeCredit k (-n).toNat))

/-- Bytes of a command's host transfer. -/
def Cmd.bytes (c : Cmd) : Nat := 4096 * c.e.nlb

/-- The transfer of a function that moves its next segment of a length: a segment is one block, or less at the ends
(R228). -/
def Cmd.takesSegment (f len : Nat) (c : Cmd) : Bool :=
  c.func == f && c.xfer == .running && decide (0 < len) && decide (len ≤ 4096) && decide (c.moved + len ≤ c.bytes) &&
    (len == 4096 || c.moved == 0 || c.moved + len == c.bytes)

/-- SHAPE_SEGMENT_START (R228): a running transfer of a shaped function starts its next segment; the bucket holds its length,
which is taken. Tokens come with time, which the model does not count, so the level found lies anywhere from the segment's
length to the bucket's size. -/
def execShapeSegmentStart (f : Func) (len : Nat) (s : State) : Res :=
  let size := s.rd .BUF_SHAPE_BURST f * 65536
  .next (match s.hif.cmds.find? (Cmd.takesSegment f len) with
    | some c => s.on (s.rd .BUF_SHAPE_RATE f != 0) (fun s =>
        let lo := max len (min size (s.rd .BUF_TOKENS_TOKENS f))
        let (x, s) := s.draw 32
        (s.wr .BUF_TOKENS_TOKENS (lo + x % (size - lo + 1) - len) f).updCmd c.tag (fun c => { c with moved := c.moved + len }))
    | none => s)

end Sys2Proof.Machine
end

