-- ==== Sys2Proof/Machine/Recorder.lean ====
section
/-! DEFINITION. Machine/Recorder.lean: the event recorder (R369 to R384): its control block, its records, and the
commands of the recording side of the EVC and of the EREC. -/

namespace Sys2Proof.Machine

/-! ### The control block (Table 14-3, R377) -/

def blockAddr (copy : Nat) : Nat := 0x0100C500 + 256 * copy
def areaF (slot : Nat) : Nat := 0x01000000 + 64 * slot
def areaC (slot : Nat) : Nat := 0x01004000 + 64 * slot
def seqAddr (src : Nat) : Nat := 0x0100C000 + 4 * src

def State.blockValid (s : State) (copy : Nat) : Bool := crc32c (s.mbs (blockAddr copy) 252) == s.mrd 4 (blockAddr copy + 252)

def setOfBits (v n : Nat) : NSet := (List.range n).foldl (fun t k => if v.testBit k then NSet.add k t else t) []
def bitsOfSet (t : NSet) : Nat := t.foldl (fun a e => a + 2 ^ e.1) 0

/-- Writes the copy that does not hold the higher VER, with VER + 1. -/
def State.writeBlock (s : State) : State :=
  let c := 1 - s.erec.cur
  let v := (s.erec.ver + 1) % 2 ^ 32
  let body := leBytes 4 v ++ leBytes 2 (s.rd .EREC_CHEAD_CHEAD) ++ leBytes 2 (s.rd .EREC_CSPILL_CSPILL) ++
    leBytes 2 (s.rd .EREC_FCOUNT_FCOUNT) ++ leBytes 2 0 ++ leBytes 4 (s.rd .EREC_PCYC_PCYC) ++
    leBytes 4 (s.rd .EREC_STARTS_STARTS) ++ leBytes 4 0 ++ leBytes 8 (s.rd .EREC_OPTIME_OPTIME) ++
    leBytes 32 (bitsOfSet s.erec.retF) ++ leBytes 64 (bitsOfSet s.erec.retC) ++ List.replicate 124 0
  let s := s.setMbs (blockAddr c) (body ++ leBytes 4 (crc32c body))
  { s with erec := { s.erec with cur := c, ver := v } }

/-- FFULL tells that no slot of area F is left (R376). -/
def State.fullFlag (s : State) : State :=
  s.wrb .EREC_STAT_FFULL (decide (256 ≤ s.rd .EREC_FCOUNT_FCOUNT + s.erec.retF.length))

def State.gseq (s : State) (n : Nat) : State := s.wrapAdd .EREC_GSEQ_GSEQ n

/-- A write in progress ends: an odd GSEQ counts on to an even one (R378). -/
def State.evenGseq (s : State) : State := if s.rd .EREC_GSEQ_GSEQ % 2 = 1 then s.gseq 1 else s

/-- A control-block-only update, bracketed by GSEQ (R378). -/
def State.saveBlock (s : State) : State := (s.gseq 1).writeBlock.gseq 1

/-- A SMART critical warning bit takes a value: event 239 where it changes, and the notice where it is set (R382). -/
def State.warnSet (s : State) (bit : Nat) (v : Bool) : State :=
  let w := setBitN s.hif.warn bit v
  if w = s.hif.warn then s
  else
    let s := State.raise { s with hif := { s.hif with warn := w } } 239 [(1, w)]
    if v then s.notifyWarn bit else s

/-- The MRAM is unusable (R382): the write in progress ends (R378), LASTGASP, MEDONLY, and event 313 behind the event that could
not be written, which is the first queued where there is one. -/
def State.mramFail (s : State) (cause offset src seq ahead : Nat) : State :=
  let n := min 255 (s.erec.retC.length + s.erec.retF.length)
  let g0 := 0x4C47 + cause * 2 ^ 16 + n * 2 ^ 24
  let g1 := offset % 2 ^ 16 + src * 2 ^ 16
  let g3 := s.rd .EREC_OPTIME_OPTIME / 1024 % 2 ^ 32
  let s := (((s.evenGseq.wr .LASTGASP_VALUE g0 0).wr .LASTGASP_VALUE g1 1).wr .LASTGASP_VALUE seq 2).wr .LASTGASP_VALUE g3 3
  let s : State := { s.wr .EREC_STAT_MEDONLY 1 with erec := { s.erec with redo := [] } }
  let k := NTab.get 0 313 s.ev.seq
  let d := pack [(4, g0), (4, g1), (4, seq), (4, g3)]
  let e : Ent := ⟨313, k, false, d.2, d.1, s.rd .EREC_OPTIME_OPTIME, s.rd .EREC_PCYC_PCYC⟩
  let q := s.ev.queue.take ahead ++ (if s.bit .EVC_REC_EN 313 then [e] else []) ++ s.ev.queue.drop ahead
  let s := { s with ev := { s.ev with seq := NTab.put 0 313 ((k + 1) % 2 ^ 32) s.ev.seq, edge := NSet.add 313 s.ev.edge,
                                      queue := q } }
  s.warnSet 2 true

/-- The MRAM proves unusable with no event being logged: what LASTGASP names as its source and number is open. -/
def State.mramFailIdle (s : State) (cause offset : Nat) : State :=
  let k := s.free
  State.mramFail { s with free := k + 2 } cause offset (Config.freeValue k % 2 ^ 16) (Config.freeValue (k + 1)) 0

/-- A control block write fails its read-back on both copies, which then hold what is open. -/
def State.blockFails (s : State) : State :=
  let k := s.free
  ({ s with free := k + 2 }.mwr 256 (blockAddr 0) (Config.freeValue k)).mwr 256 (blockAddr 1) (Config.freeValue (k + 1))

/-- A control-block-only update, whose read-back passes or fails. -/
def State.updateBlock (s : State) (ok : Bool) : State :=
  if ok then s.saveBlock else ((s.gseq 1).blockFails).mramFailIdle 2 (blockAddr (1 - s.erec.cur))

/-- The stored fields when neither copy of the control block is valid: their values are open (R377, R382). -/
def State.storedOpen (s : State) : State :=
  let k := s.free
  let f (n : Nat) : Nat := Config.freeValue (k + n)
  let s := ((s.wr .EREC_CHEAD_CHEAD (f 0)).wr .EREC_CSPILL_CSPILL (f 1)).wr .EREC_FCOUNT_FCOUNT (f 2)
  let s := ((s.wr .EREC_OPTIME_OPTIME (f 3)).wr .EREC_PCYC_PCYC (f 4)).wr .EREC_STARTS_STARTS (f 5)
  let s := (s.wr .EREC_RETIRED_C (f 6)).wr .EREC_RETIRED_F (f 7)
  { s with erec := {}, free := k + 8 }

/-- How many of a source's events came after the one of a number, from its sequence counter. -/
def State.eventsSince (s : State) (src seq : Nat) : Nat := (NTab.get 0 src s.ev.seq + 2 ^ 33 - 1 - seq % 2 ^ 32) % 2 ^ 32

/-- A record that stands at an address and names a source: not retired, and with its CHK right. -/
def State.recordAt (s : State) (ret : NSet) (slot a : Nat) : Bool :=
  !NSet.has slot ret && decide (s.mrd 2 (a + 4) < 320) && decide (crc32c (s.mbs a 60) = s.mrd 4 (a + 60))

/-- The newest record of each source in area C, from slot head on, as its slot + 1; 0 where the source has a newer one in the
first n slots of area F (R374). -/
def State.newestRecords (s : State) (retC retF : NSet) (head n : Nat) : NTab Nat :=
  let t := (List.range 512).foldl (fun t k =>
    let slot := (head + k) % 512
    if s.recordAt retC slot (areaC slot) then NTab.put 0 (s.mrd 2 (areaC slot + 4)) (slot + 1) t else t) ([] : NTab Nat)
  (List.range n).foldl (fun t k =>
    let src := s.mrd 2 (areaF k + 4)
    let c := NTab.get 0 src t
    if c ≠ 0 ∧ s.recordAt retF k (areaF k) = true ∧
        s.eventsSince src (s.mrd 4 (areaF k)) < s.eventsSince src (s.mrd 4 (areaC (c - 1))) then NTab.put 0 src 0 t else t) t

/-- The recorder at the release of step 5: the valid copy with the higher VER, PCYC, STARTS, the sequence numbers, and the tests
of R382; blkOk: the block's write passed. -/
def State.recorderStart (s : State) (powerOn blkOk : Bool) : State :=
  let seqs := (List.range 320).foldl (fun t k => NTab.put 0 k (s.mrd 4 (seqAddr k)) t) ([] : NTab Nat)
  let s := { s with ev := { s.ev with seq := seqs } }
  let v0 := s.blockValid 0
  let v1 := s.blockValid 1
  if !v0 && !v1 then
    let (x, s) := s.storedOpen.draw 16
    s.mramFailIdle 4 x
  else
    let r0 := s.mrd 4 (blockAddr 0)
    let r1 := s.mrd 4 (blockAddr 1)
    let c := if v0 && (!v1 || decide (r1 ≤ r0)) then 0 else 1
    let b := blockAddr c
    let head := s.mrd 2 (b + 4) % 512
    let retC := setOfBits (s.mrd 64 (b + 64)) 512
    let retF := setOfBits (s.mrd 32 (b + 32)) 256
    let newest := s.newestRecords retC retF head (min 256 (s.mrd 2 (b + 8) + retF.length))
    let spill := s.mrd 2 (b + 6) % 512
    let e : Erec := { retC := retC, retF := retF, newest := newest, ver := s.mrd 4 b, cur := c, unsp := (head + 512 - spill) % 512 }
    let s := { s with erec := e }
    let s := ((s.wr .EREC_CHEAD_CHEAD head).wr .EREC_CSPILL_CSPILL spill).wr .EREC_FCOUNT_FCOUNT (s.mrd 2 (b + 8))
    let s := (s.wr .EREC_PCYC_PCYC (s.mrd 4 (b + 12) + b2n powerOn)).wr .EREC_STARTS_STARTS (s.mrd 4 (b + 16) + 1)
    let s := s.wr .EREC_OPTIME_OPTIME (s.mrd 8 (b + 24))
    let s := (s.wr .EREC_RETIRED_C retC.length).wr .EREC_RETIRED_F retF.length
    let s := s.fullFlag.updateBlock blkOk
    if 128 < retC.length ∧ s.bit .EREC_STAT_MEDONLY = false then
      let (x, s) := s.draw 16
      s.mramFailIdle 1 x
    else s

/-! ### The media log (R384) -/

/-- Records of the media log's circle, and how many may wait while the heads are unloaded. -/
def logRecords : Nat := 1048576
def logHeld : Nat := 65536

def State.logAppend (s : State) (l : List (List Byte)) : State :=
  l.foldl (fun s r => { s with med := { s.med with log := NTab.put [] (s.med.logNext % logRecords) r s.med.log,
                                                   logNext := s.med.logNext + 1 } }) s

/-- Spills records, behind those that wait; with no arm loaded they wait too, and what does not fit stays in MRAM only. -/
def State.spill (s : State) (l : List (List Byte)) : State :=
  let all := s.med.held ++ l
  if (List.range 4).any (fun a => s.bit .SCE_STAT_LOADED a) then
    State.logAppend { s with med := { s.med with held := [] } } all
  else { s with med := { s.med with held := all.take logHeld } }

/-- A copy of area C keeps a slot's record (R379): its CHK is right and the slot is not retired. -/
def State.goodC (s : State) (k : Nat) : Bool :=
  !NSet.has k s.erec.retC && decide (crc32c (s.mbs (areaC k) 60) = s.mrd 4 (areaC k + 60))

/-- A write of EREC_CSPILL: the area C slots from the old value up to the new have been spilled, as a copy under R379 has
them. -/
def State.spillC (s : State) (old : Nat) : State :=
  let n := (s.rd .EREC_CSPILL_CSPILL + 512 - old % 512) % 512
  s.spill ((((List.range n).map (fun k => (old + k) % 512)).filter s.goodC).map (fun k => s.mbs (areaC k) 64))

/-- A write of EREC_MSPILL, for the buffer ring while the MRAM is unusable. -/
def State.spillM (s : State) (old : Nat) : State :=
  let n := (s.rd .EREC_MSPILL_MSPILL + 4096 - old % 4096) % 4096
  let base := s.rd .EREC_MRING_BASE
  if base = 0 ∨ s.bit .EREC_STAT_MEDONLY = false then s
  else s.spill ((List.range n).map (fun k => s.mbs (base + 64 * ((old + k) % 4096)) 64))

/-! ### Records (Table 14-1, R374, R376, R378) -/

/-- The 64 bytes of a record. -/
def recordBytes (seq src flags dlen rep pcyc opt rdelta : Nat) (data : List Byte) : List Byte :=
  let body := leBytes 4 seq ++ leBytes 2 src ++ leBytes 1 flags ++ leBytes 1 dlen ++ leBytes 4 rep ++ leBytes 4 pcyc ++
    leBytes 8 opt ++ leBytes 4 rdelta ++ (data ++ List.replicate 32 0).take 32
  body ++ leBytes 4 (crc32c body)

def Ent.flags (e : Ent) (kept ring gap ffull : Bool) : Nat :=
  b2n kept + 2 * b2n e.fw + 4 * b2n ring + 8 * b2n gap + 16 * b2n ffull + 32 * b2n e.trunc

/-- Next slot of n from k on that is not retired. -/
def nextSlot (ret : NSet) (n : Nat) : Nat → Nat → Nat
  | 0, k => k % n
  | f + 1, k => if NSet.has (k % n) ret then nextSlot ret n f (k + 1) else k % n

/-- An area C slot that has not been spilled (R384). -/
def State.unspilled (s : State) (slot : Nat) : Bool :=
  decide ((slot + 512 - s.rd .EREC_CSPILL_CSPILL) % 512 < s.erec.unsp)

/-- Milliseconds between two operating times. -/
def msBetween (t0 t1 : Nat) : Nat := (t1 - t0) * 1000 / 1024

/-- The area C record an event merges into, when every condition of R374 but the last holds, and whether that one
holds too. -/
def State.mergeSlot (s : State) (e : Ent) : Option (Nat × Bool) :=
  let k := NTab.get 0 e.src s.erec.newest
  if k = 0 ∨ !s.bit .EVC_REC_MERGE e.src then none
  else
    let a := areaC (k - 1)
    let rep := s.mrd 4 (a + 8)
    if s.unspilled (k - 1) ∧ s.mrd 2 (a + 4) = e.src ∧ s.mrd 1 (a + 7) = e.data.length ∧ s.mbs (a + 28) 32 = (e.data ++ List.replicate 32 0).take 32 ∧
        msBetween (s.mrd 8 (a + 16)) e.opt < s.rd .EREC_CTL_REPWIN ∧ rep < 0xFFFFFFFF then
      some (k - 1, decide (e.seq = (s.mrd 4 a + rep + 1) % 2 ^ 32))
    else none

def State.popQueue (s : State) : State := { s with ev := { s.ev with queue := s.ev.queue.drop 1 } }

/-- Steps 3 to 5 of R378 after the slot verified. A counter that fails its read-back holds what is open. -/
def State.endRecord (s : State) (e : Ent) (seqOk blkOk : Bool) : State :=
  if !seqOk then
    let (x, s) := s.draw 32
    (s.mwr 4 (seqAddr e.src) x).mramFail 3 (seqAddr e.src) e.src e.seq 1
  else
    let s := s.mwr 4 (seqAddr e.src) (e.seq + 1)
    if !blkOk then s.blockFails.mramFail 2 (blockAddr (1 - s.erec.cur)) e.src e.seq 1
    else (s.writeBlock.gseq 1).popQueue

/-- Retires a slot whose read-back differed (R382). What such a slot holds is open. -/
def State.retire (s : State) (inF : Bool) (slot : Nat) (e : Ent) : State :=
  let r := if inF then { s.erec with retF := NSet.add slot s.erec.retF } else { s.erec with retC := NSet.add slot s.erec.retC }
  let a := if inF then areaF slot else areaC slot
  let s : State := { s.mwr 64 a (Config.freeValue s.free) with erec := r, free := s.free + 1 }
  let s := ((s.wr .EREC_RETIRED_C s.erec.retC.length).wr .EREC_RETIRED_F s.erec.retF.length).fullFlag
  let s := (s.raise 312 [(1, if inF then 0 else 1), (2, slot)]).writeBlock.gseq 1
  if 128 < s.erec.retC.length then s.mramFail 1 a e.src e.seq 1 else s

/-- CHEAD goes past an area C slot, to the next one that is not retired (R376). -/
def State.passSlot (s : State) (slot : Nat) : State :=
  let nx := nextSlot s.erec.retC 512 512 (slot + 1)
  let d := (nx + 1023 - s.rd .EREC_CHEAD_CHEAD) % 512 + 1
  { s.wr .EREC_CHEAD_CHEAD nx with erec := { s.erec with unsp := min 512 (s.erec.unsp + d) } }

/-- An area C slot takes a new record of a source: the one it held unspilled is counted, and the oldest unspilled slot is
then the next one (R376). -/
def State.takeSlot (s : State) (slot src : Nat) : State :=
  let lost := s.unspilled slot
  let s := { s with erec := { s.erec with newest := NTab.put 0 src (slot + 1) s.erec.newest } }
  let s := s.passSlot slot
  if lost then (s.satAdd .EREC_UNSPILL_COUNT 1).wr .EREC_CSPILL_CSPILL (s.rd .EREC_CHEAD_CHEAD) else s

/-- The recorder stores a record of its ring: past the data space it is answered with an error and nothing is written
(R223). -/
def State.ringStore (s : State) (a : Nat) (b : List Byte) : State :=
  if inBuf a 64 then (s.ownAccess none 31).busWrite a b false else s.spaceErrors [(a, 64)]

/-- A record of the buffer ring while the MRAM is unusable (R382, R383); it waits while there is no ring. -/
def State.ringRecord (s : State) (e : Ent) : State :=
  let base := s.rd .EREC_MRING_BASE
  let k := s.rd .EREC_MHEAD_MHEAD
  let fl := e.flags false true (NSet.has e.src s.ev.gap) false
  if base = 0 then s
  else
    let s := s.ringStore (base + 64 * k) (recordBytes e.seq e.src fl e.data.length 0 e.pcyc e.opt 0 e.data)
    let s := { s with ev := { s.ev with gap := NSet.del e.src s.ev.gap } }
    ((s.wr .EREC_MHEAD_MHEAD ((k + 1) % 4096)).gseq 2).popQueue

/-- The record of area C slot k with one more event merged into it (R374). -/
def State.mergedRecord (s : State) (k : Nat) (e : Ent) : List Byte :=
  let a := areaC k
  recordBytes (s.mrd 4 a) e.src (s.mrd 1 (a + 6)) e.data.length (s.mrd 4 (a + 8) + 1) (s.mrd 4 (a + 12)) (s.mrd 8 (a + 16))
    (min (msBetween (s.mrd 8 (a + 16)) e.opt) 0xFFFFFFFF) e.data

/-- Writes the merged record in place; where its slot fails it is written again to the next usable one. -/
def State.mergeRecord (s : State) (k : Nat) (e : Ent) (slotOk seqOk blkOk : Bool) : State :=
  let b := s.mergedRecord k e
  if slotOk then (s.setMbs (areaC k) b).endRecord e seqOk blkOk
  else State.retire { s with erec := { s.erec with redo := b } } false k e

/-- Writes a merged record again, to the next usable slot (R382). -/
def State.redoRecord (s : State) (e : Ent) (slotOk seqOk blkOk : Bool) : State :=
  let slot := nextSlot s.erec.retC 512 512 (s.rd .EREC_CHEAD_CHEAD)
  if slotOk then
    let s := State.takeSlot (s.setMbs (areaC slot) s.erec.redo) slot e.src
    State.endRecord { s with erec := { s.erec with redo := [] } } e seqOk blkOk
  else (s.passSlot slot).retire false slot e

/-- Writes a new record, to area F where the source keeps its records and area F has room (R376). -/
def State.newRecord (s : State) (e : Ent) (broken slotOk seqOk blkOk : Bool) : State :=
  let gap := NSet.has e.src s.ev.gap || broken
  let keep := s.bit .EVC_REC_KEEP e.src
  let fUsed := s.rd .EREC_FCOUNT_FCOUNT + s.erec.retF.length
  let inF := keep && decide (fUsed < 256)
  let slot := if inF then nextSlot s.erec.retF 256 256 fUsed else nextSlot s.erec.retC 512 512 (s.rd .EREC_CHEAD_CHEAD)
  let b := recordBytes e.seq e.src (e.flags keep false gap (keep && !inF)) e.data.length 0 e.pcyc e.opt 0 e.data
  if !slotOk then (if inF then s else s.passSlot slot).retire inF slot e
  else
    let s := s.setMbs (if inF then areaF slot else areaC slot) b
    let s := { s with ev := { s.ev with gap := NSet.del e.src s.ev.gap } }
    let s := if inF then
        let s := { s with erec := { s.erec with newest := NTab.put 0 e.src 0 s.erec.newest } }
        ((s.wr .EREC_FCOUNT_FCOUNT (s.rd .EREC_FCOUNT_FCOUNT + 1)).fullFlag).spill [b]
      else s.takeSlot slot e.src
    s.endRecord e seqOk blkOk

/-- Writes or merges the next queued event (R371 to R378). -/
def State.recordWrite (s : State) (slotOk seqOk blkOk : Bool) : State :=
  match s.ev.queue with
  | [] => s
  | e :: _ =>
    if s.bit .EREC_CTL_HOLD then s
    else if s.bit .EREC_STAT_MEDONLY then s.ringRecord e
    else if s.erec.redo ≠ [] then (s.gseq 1).redoRecord e slotOk seqOk blkOk
    else match s.mergeSlot e with
      | some (k, true) => (s.gseq 1).mergeRecord k e slotOk seqOk blkOk
      | some (_, false) => (s.gseq 1).newRecord e true slotOk seqOk blkOk
      | none => (s.gseq 1).newRecord e false slotOk seqOk blkOk

/-! ### Meanings -/

/-- What an error of the links leaves in a port's configuration space (R324): events 206 to 208 carry the port, 0 the USP and
1 the EDP, and the bits of its AER status; event 211 tells that containment has taken the EDP's link down, where the host
has enabled it. -/
def State.portError (s : State) (src : Nat) (data : List (Nat × Nat)) : State :=
  let item (k : Nat) : Nat := (data.getD k (0, 0)).2
  let mark (c : PortCfg) : PortCfg :=
    if src = 206 then { c with aerCor := Nat.lor c.aerCor (item 1 % 2 ^ 32) } else { c with aerUnc := Nat.lor c.aerUnc (item 1 % 2 ^ 32) }
  if !s.up 10 then s
  else if 206 ≤ src ∧ src ≤ 208 then
    s.setPsw (if item 0 = 0 then { s.psw with usp := mark s.psw.usp } else { s.psw with edp := mark s.psw.edp })
  else if src = 211 ∧ s.psw.edp.dpc % 4 ≠ 0 then
    (s.setPsw { s.psw with edp := { s.psw.edp with contained := true } }).edpDown 0
  else s

/-- EVENT_RAISE (R369). Sources Table 12-7, Table 9-9 and Table 13-6 reserve are never raised. -/
def execEventRaise (src : Source) (data : List (Nat × Nat)) (s : State) : Res :=
  .next (s.on (!(src.val == 219 || (decide (260 ≤ src.val) && decide (src.val ≤ 271)) ||
    (decide (287 ≤ src.val) && decide (src.val ≤ 291)))) (fun s => (s.portError src.val data).raise src.val data))

/-- EVC_RAISE_WRITE (R369, R373): FLAGS.FW, the bytes of EVC_RDATA; sources above 319 are ignored. -/
def execEvcRaiseWrite (c : Hart) (v : W32) (s : State) : Res :=
  let src := bitsN v.toNat 0 9
  let n := min 32 (bitsN v.toNat 16 6)
  let d := ((List.range 8).flatMap (fun j => leBytes 4 (s.rd .EVC_RDATA_DATA c.val j))).take n
  .next (s.on (decide (src ≤ 319)) (fun s => s.raiseRaw src true (d, false)))

/-- RECORD_WRITE (R378): the recorder handles the next queued event; the operands say how its read-backs went. -/
def execRecordWrite (slotOk seqOk blkOk : Bool) (s : State) : Res :=
  .next (s.on (s.up 5) (fun s => s.recordWrite slotOk seqOk blkOk))

/-- LOST_EVENTS_RECORD (R369). -/
def execLostEventsRecord (s : State) : Res := .next (s.on (s.up 5) State.lostRun)

/-- HOLD (R380). -/
def execHold (s : State) : Res := .next (s.wr .EREC_CTL_HOLD 1)

/-- HOLD_EXPIRE (R380). -/
def execHoldExpire (s : State) : Res :=
  .next (s.on (s.bit .EREC_CTL_HOLD) (fun s => (s.wr .EREC_CTL_HOLD 0).wr .EREC_STAT_HOLDEXP 1))

/-- OPTIME_SAVE (R377): the operand says how the block's read-back went. -/
def execOptimeSave (s : State) (blkOk : Bool := true) : Res :=
  .next (s.on (s.up 5 && !s.bit .EREC_STAT_MEDONLY && !s.bit .EREC_CTL_HOLD) (fun s => s.updateBlock blkOk))

end Sys2Proof.Machine
end

