-- ==== Sys2Proof/Machine/Media.lean ====
section
/-! DEFINITION. Machine/Media.lean: what firmware keeps of the medium and does to it in the background: where blocks lie (R22,
R294, R295), the system area (R304), defects and relocation (R210, R211), interference, scrubbing and refresh (R212 to
R214) and write-assist use (R215). -/

namespace Sys2Proof.Machine

/-- The running calibration set, as the loader placed it (R74, R77). -/
def State.runningCal (s : State) : List Byte :=
  if s.rst.calEmpty then [] else s.mbs 0x801000000 (64 + min 2097088 (s.mrd 4 0x80100000C))

def State.setMed (s : State) (m : Media) : State := { s with med := m }
def State.optime (s : State) : Nat := s.rd .EREC_OPTIME_OPTIME

/-! ### Where a data position lies (R22) -/

/-- Head position of a band's data position d. -/
def posHead (d : Nat) : Nat := d / 64 % 6
/-- Track group of the surface's part of the band. -/
def posGroup (d : Nat) : Nat := d / 384
/-- Sector of the group; the 64 are followed by the group's 4 parity sectors. -/
def posSector (d : Nat) : Nat := d % 64
def groupSectors : Nat := 64
def groupParity : Nat := 4
/-- First data position of the group that holds position d on its head. -/
def groupBase (d : Nat) : Nat := d / 64 * 64

/-- Track groups of a zone whose parity is on the medium: those with every position written (R202, R302). -/
def Zone.groupsDone (z : Zone) : Nat := z.fill / 64

/-- ESCMASK of the group that starts at a position: the 64 bits of the escape map (R205, R304). -/
def Zone.escMask (z : Zone) (base : Nat) : Nat :=
  (List.range 64).foldl (fun a i => a + b2n (NSet.has (base + i) z.esc) * 2 ^ i) 0

/-- Positions that pad the partly written track group of a zone, where it has one: positions fill one head's part of a group
after another, so one group at most is partly written. -/
def padPositions (fill : Nat) : List Nat :=
  if fill % 64 = 0 then [] else (List.range (64 - fill % 64)).map (fun k => fill + k)

/-! ### Bands (R294) -/

def bandKey (a b : Nat) : Nat := a * 65536 + b
def State.band (s : State) (a b : Nat) : Band := NTab.get {} (bandKey a b) s.med.bands
def State.setBand (s : State) (a b : Nat) (v : Band) : State :=
  s.setMed { s.med with bands := NTab.put {} (bandKey a b) v s.med.bands }
def zoneKey (ns z : Nat) : Nat := ns * 2 ^ 32 + z
/-- Arm and band of a zone. -/
def State.zoneBand (s : State) (ns z : Nat) : Option (Nat × Nat) :=
  match NTab.get 0 (zoneKey ns z) s.med.place with
  | 0 => none
  | b + 1 => some (zoneArm z, b)

def State.armCopy (s : State) (a : Nat) : Option (Nat × Nat) := NTab.get none a s.med.copy
def State.setCopy (s : State) (a : Nat) (c : Option (Nat × Nat)) : State := s.setMed { s.med with copy := NTab.put none a c s.med.copy }

/-- A band whose class 9 is lasting, or whose skipped slots exceed its spare ones, takes no zone (R211, Table 14-6). -/
def State.bandOut (s : State) (a b : Nat) : Bool := (s.band a b).retired || decide (Config.spareSlots a b < (s.band a b).skip.length)

/-- A band that no zone and no copy uses. -/
def State.bandFree (s : State) (a b : Nat) : Bool :=
  (s.band a b).zone.isNone && !s.bandOut a b && (match s.armCopy a with | some (_, t) => t != b | none => true)

/-- A free band of an arm: of n bands from the given first on, and otherwise any. Firmware chooses it, so which one is free. -/
def State.pickBand (s : State) (a first n : Nat) : Option Nat × State :=
  let (x, s) := s.draw 16
  let l := (List.range n).map (fun k => first + (x + k) % n)
  let r := (List.range (Config.bands a + Config.spareBands a)).map (fun k => (x + k) % (Config.bands a + Config.spareBands a))
  ((l ++ r).find? (s.bandFree a), s)

/-- All bands of an arm, its spare bands last. -/
def bandTotal (a : Nat) : Nat := Config.bands a + Config.spareBands a
/-- A band for a zone or a copy: the arm's spare bands come last. -/
def State.pickAny (s : State) (a : Nat) : Option Nat × State := s.pickBand a 0 (Config.bands a)
def State.hasFree (s : State) (a : Nat) : Bool := (List.range (bandTotal a)).any (s.bandFree a)

/-- A zone lies in a band from now on. -/
def State.putZone (s : State) (ns z b : Nat) : State :=
  let a := zoneArm z
  let s := s.setBand a b { s.band a b with zone := some (ns, z) }
  s.setMed { s.med with place := NTab.put 0 (zoneKey ns z) (b + 1) s.med.place }

/-- Place, in the order of slots of a head's part of a band, of the m-th position where some places are skipped: slots skipped
as grown defects hold no position, and later positions move on (R195, R211). -/
def slotPlace (skip : NSet) (p m : Nat) : Nat :=
  (List.range (skip.length + 1)).foldl (fun i _ =>
    m + (skip.filter (fun e => decide (e.1 / 2 ^ 20 = p) && decide (e.1 % 2 ^ 20 ≤ i))).length) m

/-- Place of a data position among the slots of its head's part of a band. -/
def Band.place (v : Band) (d : Nat) : Nat := slotPlace v.skip (posHead d) (posGroup d * (groupSectors + groupParity) + posSector d)

/-- The slot of a band's data position. -/
def State.slotAt (s : State) (a b d : Nat) : Nat × Nat × Nat :=
  let h := 6 * a + posHead d
  let i := (s.band a b).place d
  (h, Config.trackSlot h b (i / 68) (i % 68))

/-- A band is reset: its count of resets grows, the slots found bad in it are skipped from now on, and it is free. -/
def State.clearBand (s : State) (a b : Nat) : State :=
  let v := s.band a b
  s.setBand a b { seq := (v.seq + 1) % 65536, retired := v.retired,
                  skip := v.fresh.foldl (fun t e => NSet.add (posHead e.1 * 2 ^ 20 + v.place e.1) t) v.skip }

/-- A zone that has come to another band counts on from that band's BANDSEQ (Table 1-5). -/
def State.seqFrom (s : State) (ns z b : Nat) : State :=
  let base := match s.ns? ns with | some n => n.seqBase | none => 0
  s.setZone ns z { s.zone ns z with bandseq := ((s.band (zoneArm z) b).seq + 65536 - base % 65536) % 65536 }

/-- The zones of a new namespace get bands. -/
def State.placeZones (s : State) (ns count : Nat) : State :=
  (List.range count).foldl (fun s z =>
    match s.pickAny (zoneArm z) with
    | (some b, s) => (s.putZone ns z b).seqFrom ns z b
    | (none, s) => s) s

/-- The zones of a namespace give theirs back. -/
def State.dropPlaces (s : State) (ns : Nat) : State :=
  let own := s.med.place.filter (fun e => e.1 / 2 ^ 32 == ns)
  let s := own.foldl (fun s e => s.clearBand (zoneArm (e.1 % 2 ^ 32)) (e.2 - 1)) s
  s.setMed { s.med with place := s.med.place.filter (fun e => e.1 / 2 ^ 32 != ns) }

/-! ### The system area of an arm, in two copies (R210, R304) -/

/-- Interference counts are saved (R213, R286). -/
def State.saveArm (s : State) (a : Nat) : State :=
  let v := s.area a
  let ati := (s.med.bands.filter (fun e => e.1 / 65536 == a)).map (fun e => (e.1 % 65536, e.2.ati))
  s.setArea a { v with ati := ati.filter (fun e => e.2 != 0) }
def State.saveCounts (s : State) : State :=
  let s := (List.range 4).foldl State.saveArm s
  s.setMed { s.med with savedAt := s.optime, moved := [] }

/-! ### Interference (R213) -/

/-- ATI_LIM in effect on an arm: the calibration set's, less what the planner takes (Table 14-9). -/
def State.atiLimit (s : State) (a : Nat) : Nat := Config.atiLim s.runningCal a / 2 ^ NTab.get 0 a s.med.atiShift

/-- A band's refresh is scheduled, or becomes urgent. -/
def Band.want (v : Band) (k : Nat) : Band := if v.zone.isNone then v else { v with refresh := max v.refresh k }

/-- n sixteenths of a neighbour have been written. -/
def State.charge (s : State) (a b n : Nat) : State :=
  let v := s.band a b
  let c := v.ati + n
  let lim := s.atiLimit a
  s.setBand a b ({ v with ati := c }.want (if 2 * lim ≤ c then 2 else if lim ≤ c then 1 else 0))
def State.chargeNear (s : State) (a b n : Nat) : State :=
  if n = 0 then s else (Config.neighbours a b).foldl (fun s k => s.charge a k n) s

/-- Positions in a sixteenth of a band. -/
def sixteenth : Nat := 4096

/-- A zone's band is written from position lo up to hi: its neighbours are charged, and its scrub age starts with its first
sector. -/
def State.bandWritten (s : State) (ns z lo hi : Nat) : State :=
  let s := if lo < hi then s.setMed { s.med with moved := NSet.add (zoneKey ns z) s.med.moved } else s
  match s.zoneBand ns z with
  | some (a, b) =>
    let s := if lo = 0 ∧ hi ≠ 0 then s.setBand a b { s.band a b with scrubbed := s.optime } else s
    s.chargeNear a b (hi / sixteenth - lo / sixteenth)
  | none => s

/-- What is written before the heads unload at entry to PS3 or PS4 (R286): the interference counts. The zone records are in the
system area as they are (State.setZones), and the mapping records of the conventional region are the tags of its sectors
(R295). -/
def State.saveRecords (s : State) : State := s.saveCounts

/-- What a stop leaves: counts as saved, and 16 more for each neighbour of a zone written since the save; a copy under way
is abandoned. -/
def State.mediaStop (s : State) : State :=
  let s := s.setMed { s.med with bands := s.med.bands.map (fun e => (e.1, { e.2 with ati := NTab.get 0 (e.1 % 65536) (s.area (e.1 / 65536)).ati })),
                                 copy := [] }
  s.med.moved.foldl (fun s e =>
    match s.zoneBand (e.1 / 2 ^ 32) (e.1 % 2 ^ 32) with
    | some (a, b) => s.chargeNear a b 16
    | none => s) s

/-! ### Defects and relocation (R210, R211, Table 14-6) -/

/-- Every defect of a surface: the skip table of a head is loaded from these (R146). -/
def State.defects (s : State) (h : Nat) : List (Nat × Nat) :=
  Config.primaryDefects h ++ ((s.area (h / 6)).grown.filter (fun e => e.1 == h)).map (fun e => e.2)

/-- The slot of a sector of the conventional region. -/
def convAt (k : Nat) : Nat × Nat × Nat := ((Config.convSlot k).1 % 24, (Config.convSlot k).2)
/-- A slot as an instance of fault class 8. -/
def slotKey (x : Nat × Nat × Nat) : Nat := Nat.pair x.1 (Nat.pair x.2.1 x.2.2)

/-- A count of fault class 8 or 9 in its current window. -/
def State.mediaSub (s : State) (k : Nat) : Nat := s.optime / (Config.classWin s.runningCal k * 128)
def State.mediaCount (s : State) (k i : Nat) : Nat :=
  (s.med.counts.filter (fun c => c.cls = k ∧ c.inst = i ∧ s.mediaSub k < c.sub + 8)).foldl (fun a c => a + c.n) 0
def State.countMedia (s : State) (k i : Nat) : State := s.setMed { s.med with counts := addCount k i (s.mediaSub k) s.med.counts }
def State.mediaLasting (s : State) (k i : Nat) : Bool := decide (Config.classThr s.runningCal k ≤ s.mediaCount k i)

/-- Class 9 counts an unrecovered LBA or a new grown defect of a zone's band; a lasting one retires the band. -/
def State.zoneFault (s : State) (ns z a b : Nat) : State :=
  let s := s.countMedia 9 (zoneKey ns z)
  if s.mediaLasting 9 (zoneKey ns z) then s.setBand a b { s.band a b with retired := true } else s

/-- A slot becomes a grown defect of its arm, in both copies. -/
def State.growSlot (s : State) (x : Nat × Nat × Nat) : State :=
  let a := x.1 / 6
  let v := s.area a
  if v.grown.contains x then s else s.setArea a { v with grown := v.grown ++ [x] }

/-- The slot of a zone's data position becomes a grown defect, which class 9 counts. -/
def State.growDefect (s : State) (ns z a b d : Nat) : State :=
  if (s.area a).grown.contains (s.slotAt a b d) then s
  else
    let s := s.growSlot (s.slotAt a b d)
    let w := s.band a b
    (s.setBand a b { w with fresh := NSet.add d w.fresh }).zoneFault ns z a b

/-- Class 8 counts a slot whose sector needed step 3 or later; a lasting one is a grown defect from now on. -/
def State.slotFault (s : State) (x : Nat × Nat × Nat) : State × Bool :=
  let s := s.countMedia 8 (slotKey x)
  (s, s.mediaLasting 8 (slotKey x))

def relocMax : Nat := 16384
/-- Entries of one zone. -/
def zoneEntry (ns z size : Nat) (e : Nat × Nat × Nat) : Bool := e.1 == ns && e.2.1 / size == z

/-- The band of an arm that holds the most entries. -/
def State.mostEntries (s : State) (a : Nat) : Option Nat :=
  let n (e : Nat × Band) : Nat := match e.2.zone with
    | some (ns, z) => ((s.area a).reloc.filter (zoneEntry ns z (match s.ns? ns with | some x => zsze x.cls | none => 65536))).length
    | none => 0
  match s.med.bands.filter (fun e => e.1 / 65536 == a && n e != 0) with
  | [] => none
  | e :: t => some ((t.foldl (fun m x => if n m < n x then x else m) e).1 % 65536)

/-- A spare sector that no entry names; firmware chooses it. -/
def State.spareSector (s : State) (a : Nat) : Nat × State :=
  let (x, s) := s.draw 24
  let n := Config.spareSectors a
  let used := (s.area a).reloc.map (fun e => e.2.2)
  ((((List.range n).map (fun k => (x + k) % n)).find? (fun k => !used.contains k)).getD 0, s)

/-- Recovered data of a sequential zone goes to a spare sector. A full table first has the band with the most entries
refreshed; where no entry can be freed, the zone becomes Read Only. -/
def State.relocate (s : State) (n : Nsp) (lba : Nat) : State :=
  let z := lba / zsze n.cls
  let a := zoneArm z
  let v := s.area a
  if v.reloc.length < relocMax then
    let (k, s) := s.spareSector a
    s.setArea a { v with reloc := v.reloc ++ [(n.nsidx, lba, k)] }
  else match s.mostEntries a, s.hasFree a with
    | some b, true =>
      let s := s.setBand a b ((s.band a b).want 1)
      s.setMed { s.med with want := s.med.want ++ [(n.nsidx, lba)] }
    | _, _ =>
      let zn := s.zone n.nsidx z
      if zn.st = .readOnly ∨ zn.st = .offline then s
      else (s.setZone n.nsidx z { zn with st := .readOnly }).zoneChanged n z zoneRelocation

/-- The spare sector an LBA is served from. -/
def State.relocated (s : State) (n : Nsp) (lba : Nat) : Option Nat :=
  ((s.area (zoneArm (lba / zsze n.cls))).reloc.find? (fun e => e.1 == n.nsidx && e.2.1 == lba)).map (fun e => e.2.2)

/-- Blocks whose data a zone's data position holds (R305, R306). -/
def State.blocksAt (s : State) (n : Nsp) (z d : Nat) : List Nat :=
  if n.cls = 0 then [z * zsze n.cls + d]
  else
    let t := NTab.get (0, 0) d (s.zone n.nsidx z).tags
    (List.range t.2).map (fun k => z * zsze n.cls + t.1 + k)

/-- Every block with data in a new grown-defect slot is relocated, once. -/
def State.relocateAll (s : State) (n : Nsp) (z d : Nat) : State :=
  (s.blocksAt n z d).foldl (fun s l => if (s.relocated n l).isSome then s else s.relocate n l) s

/-- Relocations that waited are made, now that entries may have been freed. -/
def State.retryWants (s : State) : State :=
  let l := s.med.want
  l.foldl (fun s w => match s.ns? w.1 with | some n => s.relocate n w.2 | none => s) (s.setMed { s.med with want := [] })

/-- The region's sector that holds a block: of those that carry it, the one written last (R295). -/
def State.convHolder (s : State) (key : Nat) : Option Nat :=
  match s.med.conv.filter (fun e => e.2.block == key + 1) with
  | [] => none
  | e :: t => some (t.foldl (fun m x => if m.2.wseq < x.2.wseq then x else m) e).1

/-- What the ladder's end means for a slot of the conventional region (R210). -/
def State.convLadder (s : State) (key step : Nat) : State :=
  match s.convHolder key with
  | none => s
  | some k =>
    if step < 3 then s
    else if 4 < step then s.growSlot (convAt k)
    else
      let (s, last) := s.slotFault (convAt k)
      if last then s.growSlot (convAt k) else s

/-- What it means for the slot of a zone's data position d: an unrecovered sector's slot becomes a grown defect, and so does one
of class 8 whose data was recovered and is relocated (R210, R211). -/
def State.zoneLadder (s : State) (n : Nsp) (lba d step : Nat) : State :=
  let z := lba / zsze n.cls
  match s.zoneBand n.nsidx z with
  | none => s
  | some (a, b) =>
    if (s.relocated n lba).isSome ∨ step < 3 then s
    else if 4 < step then (s.zoneFault n.nsidx z a b).growDefect n.nsidx z a b d
    else
      let (s, last) := s.slotFault (s.slotAt a b d)
      if last then (s.growDefect n.nsidx z a b d).relocateAll n z d else s

/-- A block's sector has been through the retry ladder: step is the one that recovered it, 5 for none. In a zone, data position d
of its band holds it. -/
def State.ladderEnd (s : State) (n : Nsp) (lba d step : Nat) : State :=
  let s := if 4 < step then
      let h := { s.hif with bad := NSet.add (n.nsidx * 2 ^ 48 + lba) s.hif.bad }
      { s with hif := h }
    else s
  if n.zoned then s.zoneLadder n lba d step else s.convLadder (n.nsidx * 2 ^ 48 + lba) step

/-- Where the retry ladder ends for a sector (R207, R208): the step that recovered it, 5 for none. Limited Retry ends it
after step 1, and a Time Limited Error Recovery value at the first step boundary at which so many units have passed. -/
def ladder (limited : Bool) (tler : Nat) (r : Retry) : Nat :=
  let passed (t : Nat) : Bool := tler != 0 && decide (tler ≤ t)
  if r.step ≤ 1 then 1
  else if limited || passed r.t1 then 5
  else if r.step = 2 then 2
  else if passed r.t2 then 5
  else if r.step = 3 then 3
  else if passed r.t3 then 5
  else if r.step = 4 then 4
  else 5

/-- The data position of a zone that holds a block (R305, R306). A slot of class 3/4 may lie in two sectors: which of them
failed lies with the medium. -/
def State.blockPos (s : State) (n : Nsp) (lba : Nat) : Nat × State :=
  let o := lba % zsze n.cls
  if n.cls = 0 then (o, s)
  else
    match ((s.zone n.nsidx (lba / zsze n.cls)).tags.filter (fun e => decide (e.2.1 ≤ o) && decide (o < e.2.1 + e.2.2))).map (fun e => e.1) with
    | [] => (0, s)
    | [d] => (d, s)
    | d :: l =>
      let (x, s) := s.draw 1
      (if x = 0 then d else l.headD d, s)

/-- The ladders of a command's failed sectors end; those already lost take no ladder. -/
def State.ladders (s : State) (n : Nsp) (lo : Nat) (limited : Bool) (tler : Nat) (holds : State → Nat → Bool) (l : List Retry) : State :=
  l.foldl (fun s r =>
    let lba := lo + r.ofs
    if holds s lba && !NSet.has (n.nsidx * 2 ^ 48 + lba) s.hif.bad then
      let (d, s) := s.blockPos n lba
      s.ladderEnd n lba d (ladder limited tler r)
    else s) s

/-! ### Refresh (R214) -/

/-- A head of an arm has used its write-assist budget (R215). -/
def State.armSpent (s : State) (a : Nat) : Bool := (List.range 6).any (fun p => NTab.get 0 (6 * a + p) s.med.waLevel == 2)

/-- Writes to a zone wait: its band is being copied, a neighbour's refresh is urgent, or a head of its arm has used its
write-assist budget (R213 to R215). -/
def State.writesWait (s : State) (ns z : Nat) : Bool :=
  match s.zoneBand ns z with
  | none => false
  | some (a, b) =>
    (match s.armCopy a with | some (f, _) => f == b | none => false) ||
      (Config.neighbours a b).any (fun k => (s.band a k).refresh == 2) ||
      s.armSpent a

/-- Relocation entries of a zone go, and relocations that still wait: its slots are skipped now. -/
def State.freeEntries (s : State) (ns z : Nat) : State :=
  let v := s.area (zoneArm z)
  let size := match s.ns? ns with | some x => zsze x.cls | none => 65536
  let s := s.setMed { s.med with want := s.med.want.filter (fun w => !(w.1 == ns && w.2 / size == z)) }
  s.setArea (zoneArm z) { v with reloc := v.reloc.filter (fun e => !zoneEntry ns z size e) }

/-- The copy is whole: the bands are exchanged in the zone table, and the old one is reset. The zone's records go with it. -/
def State.exchange (s : State) (a f t : Nat) : State :=
  let s := s.setCopy a none
  match (s.band a f).zone with
  | none => s
  | some (ns, z) =>
    let s := (s.clearBand a f).putZone ns z t
    let s := s.setBand a t { s.band a t with scrubbed := s.optime, ati := 0, refresh := 0 }
    let s := s.seqFrom ns z t
    ((s.freeEntries ns z).chargeNear a t ((s.zone ns z).fill / sixteenth)).retryWants

/-- One step of a band's refresh: the copy begins in a free band of the arm, or a copy of the arm under way ends. -/
def State.refreshStep (s : State) (a b : Nat) : State :=
  match s.armCopy a with
  | some (f, t) => s.exchange a f t
  | none => match s.pickAny a with
    | (some t, s) => s.setCopy a (some (b, t))
    | (none, s) => s

/-- A band's reset with its zone (R211, R302): entries and fresh defects are dealt with, and a band with more skipped slots
than spare ones, or a retired one, is exchanged for a spare band, or for another free one where none is left. -/
def State.bandReset (s : State) (ns z : Nat) : State :=
  match s.zoneBand ns z with
  | none => s
  | some (a, b) =>
    let s := ((s.freeEntries ns z).clearBand a b).retryWants
    match if s.bandOut a b then s.pickBand a (Config.bands a) (Config.spareBands a) else (none, s) with
    | (some t, s) => (s.putZone ns z t).seqFrom ns z t
    | (none, s) => s.putZone ns z b

/-- Every relocation entry of a namespace goes, and every relocation of it that waits. -/
def State.freeNs (s : State) (ns : Nat) : State :=
  let s := s.setMed { s.med with want := s.med.want.filter (fun w => w.1 != ns) }
  (List.range 4).foldl (fun s a => s.setArea a { s.area a with reloc := (s.area a).reloc.filter (fun e => e.1 != ns) }) s

/-- The bands of every zone of a namespace are reset with it (Table 11-5). -/
def State.nsBandsReset (s : State) (ns : Nat) : State :=
  (s.med.place.filter (fun e => e.1 / 2 ^ 32 == ns)).foldl (fun s e => s.bandReset ns (e.1 % 2 ^ 32)) (s.freeNs ns)

/-! ### Scrubbing (R212, R216) -/

/-- Units of operating time in a day. -/
def dayUnits : Nat := 86400 * 1024
/-- SCRUB_DAYS of an arm: halved while a head of it has been degraded (R386). -/
def State.scrubPeriod (s : State) (a : Nat) : Nat := s.med.scrubDays * dayUnits / (if NSet.has a s.med.halved then 2 else 1)

/-- A band that holds data. -/
def State.written (s : State) (v : Band) : Bool := match v.zone with | some (ns, z) => (s.zone ns z).fill != 0 | none => false

/-- A written band is scrubbed a day before its SCRUB_DAYS are over (log entry 103). -/
def State.scrubDue (s : State) (e : Nat × Band) : Bool :=
  s.written e.2 && decide (e.2.scrubbed + s.scrubPeriod (e.1 / 65536) ≤ s.optime + dayUnits)

/-- LBA of the first block of a zone's data position. -/
def State.posLba (s : State) (n : Nsp) (z d : Nat) : Nat :=
  z * zsze n.cls + if n.cls = 0 then d else (NTab.get (0, 0) d (s.zone n.nsidx z).tags).1

/-- Event 274 of a check-only FILL over a complete group of a zone: context, group and column lie with firmware and the medium. -/
def State.mismatch (s : State) (ns z groups : Nat) : State :=
  let (c, s) := s.draw 9
  let (g, s) := s.draw 16
  let (j, s) := s.draw 11
  let d := 64 * (g % groups)
  match s.ns? ns with
  | some n => s.raise 274 [(2, c % 384), (1, 6 * zoneArm z + posHead d), (8, s.posLba n z d), (1, 0), (2, j)]
  | none => s

/-- Every sector of a band is read, and a FILL without erasures checks every complete group (R212). How the decodes go, whether
some sector needs step 1, and whether a FILL answers MISMATCH, lie with the medium. -/
def State.scrubStep (s : State) (a b : Nat) : State :=
  let k := s.free
  let iters := (List.range 33).map (fun i => Config.freeValue (k + i) % 69633)
  let s := { s with free := k + 35 }
  let ladder := decide (Config.freeValue (k + 33) % 2 = 1)
  let zone := (s.band a b).zone.getD (0, 0)
  let groups := (s.zone zone.1 zone.2).groupsDone
  let bad := decide (groups ≠ 0) && decide (Config.freeValue (k + 34) % 2 = 1)
  let s := if bad then s.mismatch zone.1 zone.2 groups else s
  let weak := (iters.drop (s.med.scrubWeak + 1)).sum
  let v := { s.band a b with scrubbed := s.optime, iters := iters, ladder := ladder, late := false }
  s.setBand a b (if 256 ≤ weak ∨ ladder ∨ bad then v.want 1 else v)

/-- The retry ladder on a sector of a background read: which sector, and the step that recovers it, lie with the medium. -/
def State.ladderStep (s : State) (a b : Nat) : State :=
  let v := s.band a b
  let s := s.setBand a b { v with ladder := false }
  match v.zone with
  | none => s
  | some (ns, z) => match s.ns? ns with
    | none => s
    | some n =>
      let (x, s) := s.draw 17
      let (step, s) := s.draw 3
      let lba := z * zsze n.cls + x % max 1 (s.zone ns z).wp
      let (d, s) := s.blockPos n lba
      s.ladderEnd n lba d (min 5 (max 1 step))

/-- Event 309, once for each time a band has gone unscrubbed for 2 × SCRUB_DAYS. -/
def State.lateBands (s : State) : State :=
  s.med.bands.foldl (fun s e =>
    if s.written e.2 && !e.2.late && decide (e.2.scrubbed + 2 * s.scrubPeriod (e.1 / 65536) ≤ s.optime) then
      (s.setBand (e.1 / 65536) (e.1 % 65536) { e.2 with late := true }).raise 309 [(1, e.1 / 65536), (2, e.1 % 65536)]
    else s) s

/-! ### Write-assist use (R215) -/

/-- A frame has been written under a preset. -/
def State.waCount (s : State) (h p : Nat) : State :=
  let w := Config.waw s.runningCal p
  let l := (NTab.get [] h s.med.wa).filter (fun e => decide (s.optime < e.1 + 24 * 3600 * 1024))
  let l := match l with
    | (t, n) :: r => if t = s.optime then (t, n + w) :: r else (s.optime, w) :: l
    | [] => [(s.optime, w)]
  s.setMed { s.med with wa := NTab.put [] h l s.med.wa, waLife := NTab.put 0 h (NTab.get 0 h s.med.waLife + w) s.med.waLife }

/-- Use of a head over the last 24 hours. -/
def State.waUse (s : State) (h : Nat) : Nat :=
  ((NTab.get [] h s.med.wa).filter (fun e => decide (s.optime < e.1 + 24 * 3600 * 1024))).foldl (fun a e => a + e.2) 0

/-- Level of a head: 1 from 90% of WABUD, when firmware writes at its lowest preset, and 2 from 100%, when writes of the arm
wait. Event 310 comes as a level is reached. -/
def State.waCheck (s : State) (h : Nat) : State :=
  let u := s.waUse h
  let bud := Config.wabud s.runningCal h
  let level := if bud ≤ u then 2 else if 9 * bud ≤ 10 * u then 1 else 0
  let old := NTab.get 0 h s.med.waLevel
  let s := s.setMed { s.med with waLevel := NTab.put 0 h level s.med.waLevel }
  if old < level then s.raise 310 [(1, h), (1, if level = 2 then 100 else 90)] else s

/-- Percentage Used: the head that has used most of its life budget; 255 at most (NVMe). -/
def State.percentUsed (s : State) : Nat :=
  min 255 ((s.med.waLife.map (fun e => e.2 * 100 / Config.waLife s.runningCal e.1)).foldl max 0)

def State.usedCheck (s : State) : State :=
  let u := s.percentUsed
  let s' := s.setMed { s.med with used := u }
  if u / 10 = s.med.used / 10 then s' else s'.raise 311 [(1, u)]

/-! ### The conventional region (R199, R295) -/

/-- SFLAGS of its sectors: class 0 and CONV. -/
def convFlags : Nat := 16

/-- A sector that holds no block. -/
def State.convFree (s : State) (k : Nat) : Bool :=
  match (NTab.get {} k s.med.conv).block with
  | 0 => true
  | b + 1 => s.convHolder b != some k
def convArm (k : Nat) : Nat := (convAt k).1 / 6

/-- Where a block is written: to a sector that holds none and lies in no grown defect, on an arm within its write-assist budget
where there is one; with none left, in place. Firmware chooses it, so which one is free. -/
def State.convPick (s : State) (key x : Nat) : Nat :=
  let n := Config.convBlocks
  let l := (List.range n).map (fun i => (x + i) % n)
  let good := l.filter (fun k => s.convFree k && !(s.area (convArm k)).grown.contains (convAt k))
  (((good.find? (fun k => !s.armSpent (convArm k))).orElse (fun _ => good.head?)).orElse (fun _ =>
    (s.convHolder key).orElse (fun _ => l.find? s.convFree))).getD 0

/-- Writes to conventional namespaces wait: every sector they could take is on an arm whose budget is used (R215). -/
def State.convWaits (s : State) : Bool :=
  (List.range 4).any s.armSpent && (List.range Config.convBlocks).all (fun k => s.armSpent (convArm k))

/-- A block is written to a sector, whose tag carries it (R199, R295). -/
def State.mapConv (s : State) (key : Nat) : State :=
  let k := s.convPick key (Config.freeValue s.free)
  { s with free := s.free + 1,
           med := { s.med with conv := NTab.put {} k ⟨key + 1, s.med.convNext, convFlags⟩ s.med.conv, convNext := s.med.convNext + 1 } }

/-- The blocks of a conventional write go to sectors of the region. -/
def State.mapConvs (s : State) (key n : Nat) : State := (List.range n).foldl (fun s (k : Nat) => s.mapConv (key + k)) s

/-- A namespace's blocks leave the region's sectors. -/
def State.dropConv (s : State) (ns : Nat) : State :=
  s.setMed { s.med with conv := s.med.conv.filter (fun e => e.2.block == 0 || (e.2.block - 1) / 2 ^ 48 != ns) }

/-- Deallocated blocks are in no sector. -/
def State.unmapConv (s : State) (lo n : Nat) : State :=
  s.setMed { s.med with conv := s.med.conv.filter (fun e => !(decide (lo < e.2.block) && decide (e.2.block ≤ lo + n))) }

end Sys2Proof.Machine
end

