-- ==== Sys2Proof/Machine/Codec.lean ====
section
/-! DEFINITION. Machine/Codec.lean: the codes of the module as plain functions: the field and the Reed-Solomon code of the
outer code (R196, R197), AES-256, XTS and key wrap (R314, R315), the decoder of DEFLATE (R308), and the scrambler and
base matrix of the inner code (R165, R172, R173). -/

namespace Sys2Proof.Machine

def xorB (a b : List Byte) : List Byte := List.zipWith (fun x y => x ^^^ y) a b

/-! ### GF(2^16), polynomial 0x1_100B (R196) -/

/-- Product by shifting and adding, over n bits of b. -/
def gfMulN (poly top : Nat) : Nat → Nat → Nat → Nat
  | 0, _, _ => 0
  | n + 1, a, b =>
    let r := gfMulN poly top n (if 2 * a < top then 2 * a else Nat.xor (2 * a) poly) (b / 2)
    if b % 2 = 1 then Nat.xor a r else r

def gf16Mul (a b : Nat) : Nat := gfMulN 0x1100B 0x10000 16 a b

/-- a to the power 2^n. -/
def sqN (mul : Nat → Nat → Nat) : Nat → Nat → Nat
  | 0, a => a
  | n + 1, a => sqN mul n (mul a a)

/-- The inverse: the product of a^2, a^4, up to a^(2^(n-1)). -/
def gfInv (mul : Nat → Nat → Nat) (n a : Nat) : Nat :=
  (List.range (n - 1)).foldl (fun r k => mul r (sqN mul (k + 1) a)) 1

def gf16Inv (a : Nat) : Nat := gfInv gf16Mul 16 a

def gf16Pow (a : Nat) : Nat → Nat
  | 0 => 1
  | n + 1 => gf16Mul a (gf16Pow a n)

/-! ### The outer code (R197) -/

/-- x^(67−i) modulo g(x), as the coefficients of x^3 to x^0: the parity one symbol of position 63 − n gives. -/
def rsParity : Nat → List Nat
  | 0 => [0x0F, 0x36, 0x78, 0x40]
  | n + 1 =>
    match rsParity n with
    | [a, b, c, d] => [Nat.xor b (gf16Mul a 0x0F), Nat.xor c (gf16Mul a 0x36), Nat.xor d (gf16Mul a 0x78), gf16Mul a 0x40]
    | _ => []

/-- Coefficient of parity k for data position i. -/
def rsCoef (i k : Nat) : Nat := (rsParity (63 - i)).getD k 0

/-- Symbols of a payload: 2 bytes each, little-endian (R196). -/
def symbols : List Byte → List Nat
  | a :: b :: t => (a.toNat + 256 * b.toNat) :: symbols t
  | _ => []

def symbolBytes (l : List Nat) : List Byte := l.flatMap (fun v => [BitVec.ofNat 8 v, BitVec.ofNat 8 (v / 256)])

/-- Contribution of a data payload at position i to parity k. -/
def rsAdd (i k : Nat) (payload : List Byte) : List Nat :=
  let c := rsCoef i k
  (symbols payload).map (fun v => gf16Mul c v)

/-- Locator of position p: α^(67−p), in the code word's order. -/
def rsLoc (p : Nat) : Nat := gf16Pow 2 (67 - p)

/-- Syndrome j of a column. -/
def rsSyn (col : List Nat) (j : Nat) : Nat :=
  let a := gf16Pow 2 j
  col.foldl (fun acc v => Nat.xor (gf16Mul acc a) v) 0

/-- Coefficients, lowest first, of the product of (x − l) over the locators. -/
def rsPoly : List Nat → List Nat
  | [] => [1]
  | l :: t =>
    let p := rsPoly t
    List.zipWith Nat.xor (0 :: p) (p.map (gf16Mul l) ++ [0])

def rsEval (p : List Nat) (x : Nat) : Nat := p.foldr (fun c acc => Nat.xor (gf16Mul acc x) c) 0

/-- Symbols at the erased positions of a column whose erased symbols are 0. -/
def rsSolve (col : List Nat) (erased : List Nat) : List Nat :=
  let syn := (List.range erased.length).map (rsSyn col)
  erased.map (fun p =>
    let poly := rsPoly ((erased.filter (fun q => q != p)).map rsLoc)
    let num := (List.zipWith gf16Mul poly syn).foldl Nat.xor 0
    gf16Mul num (gf16Inv (rsEval poly (rsLoc p))))

/-- A column with the erased symbols filled in. -/
def rsFill (col : List Nat) (erased vals : List Nat) : List Nat :=
  (List.zip erased vals).foldl (fun c e => c.set e.1 e.2) col

/-! ### AES-256, XTS and key wrap (R314, R315) -/

def gf8Mul (a b : Nat) : Nat := gfMulN 0x11B 0x100 8 a b

def rotl8 (x k : Nat) : Nat := (x * 2 ^ k) % 256 + x / 2 ^ (8 - k)

def sbox (x : Byte) : Byte :=
  let b := gfInv gf8Mul 8 x.toNat
  BitVec.ofNat 8 (Nat.xor (Nat.xor (Nat.xor (Nat.xor (Nat.xor b (rotl8 b 1)) (rotl8 b 2)) (rotl8 b 3)) (rotl8 b 4)) 0x63)

/-- The inverse S-box: the inverse affine map, then the inverse. -/
def invSbox (y : Byte) : Byte :=
  let b := y.toNat
  BitVec.ofNat 8 (gfInv gf8Mul 8 (Nat.xor (Nat.xor (Nat.xor (rotl8 b 1) (rotl8 b 3)) (rotl8 b 6)) 5))

/-- Round key words of AES-256: 60 words of 4 bytes. -/
def keyWords (key : List Byte) : List (List Byte) :=
  let w0 := (List.range 8).map (fun i => (List.range 4).map (fun j => key.getD (4 * i + j) 0))
  (List.range 52).foldl (fun w n =>
    let i := n + 8
    let t := w.getD (i - 1) []
    let t := if i % 8 = 0 then
        let r := ((t.drop 1) ++ t.take 1).map sbox
        xorB r [BitVec.ofNat 8 (sqPow (i / 8 - 1)), 0, 0, 0]
      else if i % 8 = 4 then t.map sbox else t
    w ++ [xorB (w.getD (i - 8) []) t]) w0
where
  /-- Round constant: x^n in GF(2^8). -/
  sqPow : Nat → Nat
    | 0 => 1
    | n + 1 => gf8Mul 2 (sqPow n)

def roundKey (w : List (List Byte)) (r : Nat) : List Byte := ((w.drop (4 * r)).take 4).flatten

/-- Moves row r of the 4 × 4 state, held column by column, by r or by 4 − r places. -/
def shiftRows (inv : Bool) (st : List Byte) : List Byte :=
  (List.range 16).map (fun k =>
    let r := k % 4
    let c := k / 4
    st.getD (r + 4 * ((c + if inv then 4 - r else r) % 4)) 0)

def mulB (a : Nat) (b : Byte) : Byte := BitVec.ofNat 8 (gf8Mul b.toNat a)

def mixColumns (m : List Nat) (st : List Byte) : List Byte :=
  (List.range 16).map (fun k =>
    let r := k % 4
    let c := k / 4
    (List.range 4).foldl (fun acc j => acc ^^^ mulB (m.getD ((j + 4 - r) % 4) 0) (st.getD (4 * c + j) 0)) 0)

def aesEnc (key blk : List Byte) : List Byte :=
  let w := keyWords key
  let st := (List.range 13).foldl (fun st r =>
    xorB (mixColumns [2, 3, 1, 1] (shiftRows false (st.map sbox))) (roundKey w (r + 1))) (xorB blk (roundKey w 0))
  xorB (shiftRows false (st.map sbox)) (roundKey w 14)

def aesDec (key blk : List Byte) : List Byte :=
  let w := keyWords key
  let st := (List.range 13).foldl (fun st r =>
    mixColumns [14, 11, 13, 9] (xorB ((shiftRows true st).map invSbox) (roundKey w (13 - r)))) (xorB blk (roundKey w 14))
  xorB ((shiftRows true st).map invSbox) (roundKey w 0)

/-- Little-endian 128-bit number times x in the field of XTS. -/
def xtsDouble (t : Nat) : Nat := if 2 * t < 2 ^ 128 then 2 * t else Nat.xor (2 * t - 2 ^ 128) 0x87

def bytesOf (n v : Nat) : List Byte := (List.range n).map (fun k => BitVec.ofNat 8 (v / 256 ^ k))
def numOf (bs : List Byte) : Nat := bs.foldr (fun b a => b.toNat + 256 * a) 0

/-- The XTS stage over a data unit of whole 16-byte blocks: key is the data key and then the tweak key, tw the block's
LBA (R314). -/
def xts (enc : Bool) (key : List Byte) (tw : Nat) (data : List Byte) : List Byte :=
  let k1 := key.take 32
  let t0 := numOf (aesEnc (key.drop 32) (bytesOf 16 tw))
  ((List.range (data.length / 16)).foldl (fun (acc : List Byte × Nat) i =>
    let t := bytesOf 16 acc.2
    let x := xorB ((data.drop (16 * i)).take 16) t
    (acc.1 ++ xorB (if enc then aesEnc k1 x else aesDec k1 x) t, xtsDouble acc.2)) ([], t0)).1

/-- Key wrap of RFC 3394: a 64-byte key to a 72-byte record. -/
def keyWrap (kek key : List Byte) : List Byte :=
  let r0 := (List.range 8).map (fun i => (key.drop (8 * i)).take 8)
  let (a, r) := (List.range 48).foldl (fun (st : List Byte × List (List Byte)) n =>
    let i := n % 8
    let b := aesEnc kek (st.1 ++ st.2.getD i [])
    (xorB (b.take 8) (bytesOf 8 (n + 1)).reverse, st.2.set i (b.drop 8))) (List.replicate 8 0xA6, r0)
  a ++ r.flatten

/-- Unwraps a record; none when its check value is wrong. -/
def keyUnwrap (kek rec' : List Byte) : Option (List Byte) :=
  let r0 := (List.range 8).map (fun i => (rec'.drop (8 * i + 8)).take 8)
  let (a, r) := (List.range 48).foldl (fun (st : List Byte × List (List Byte)) m =>
    let n := 47 - m
    let i := n % 8
    let b := aesDec kek (xorB st.1 (bytesOf 8 (n + 1)).reverse ++ st.2.getD i [])
    (b.take 8, st.2.set i (b.drop 8))) (rec'.take 8, r0)
  if a = List.replicate 8 0xA6 then some r.flatten else none

/-! ### DEFLATE (R308) -/

/-- Bits of a byte string, least significant first. -/
def bitsOf (bs : List Byte) : List Bool := bs.flatMap (fun b => (List.range 8).map (fun i => b.toNat.testBit i))

/-- Takes n bits as a number, first bit least significant. -/
def takeBits : Nat → List Bool → Option (Nat × List Bool)
  | 0, l => some (0, l)
  | _ + 1, [] => none
  | n + 1, b :: t => (takeBits n t).map (fun r => (b2n b + 2 * r.1, r.2))

/-- Bits as bytes, least significant first; the last byte is completed with 0 bits. -/
def packBits (l : List Bool) : List Byte :=
  (List.range ((l.length + 7) / 8)).map (fun k =>
    BitVec.ofNat 8 ((List.range 8).foldl (fun a i => a + b2n (l.getD (8 * k + i) false) * 2 ^ i) 0))

/-- The payload of a block and whether it has dynamic codes: the shorter of the two kinds, BFINAL 1 (R308). -/
def deflate (block : List Byte) : List Byte × Bool :=
  let fixed := Config.deflateFixed block
  let dyn := Config.deflateDyn block
  if dyn.length < fixed.length ∨ (dyn.length = fixed.length ∧ Config.deflateTie block = true)
  then (packBits ([true, false, true] ++ dyn), true) else (packBits ([true, true, false] ++ fixed), false)

/-- Code lengths claim no more than the code space: RFC 1951 has no code for lengths that do. -/
def codeFits (lens : List Nat) : Bool :=
  decide ((lens.filter (fun n => n != 0)).foldl (fun a n => a + 2 ^ (15 - n)) 0 ≤ 2 ^ 15)

/-- Canonical codes of RFC 1951: symbol, length and code, from the lengths. -/
def canonical (lens : List Nat) : List (Nat × Nat × Nat) :=
  let count (n : Nat) : Nat := (lens.filter (fun x => x == n)).length
  let first := (List.range 15).foldl (fun (acc : List Nat) n =>
    acc ++ [2 * (acc.getLastD 0 + if n = 0 then 0 else count n)]) [0]
  (List.range 15).flatMap (fun m =>
    let n := m + 1
    let syms := (List.range lens.length).filter (fun k => lens.getD k 0 == n)
    (List.range syms.length).map (fun j => (syms.getD j 0, n, first.getD n 0 + j)))

/-- Reads one code word, its first bit most significant. -/
def readSym (tbl : List (Nat × Nat × Nat)) : Nat → Nat → Nat → List Bool → Option (Nat × List Bool)
  | 0, _, _, _ => none
  | _ + 1, _, _, [] => none
  | f + 1, n, code, b :: t =>
    let code := 2 * code + b2n b
    match tbl.find? (fun e => e.2.1 == n + 1 && e.2.2 == code) with
    | some e => some (e.1, t)
    | none => readSym tbl f (n + 1) code t

def sym (tbl : List (Nat × Nat × Nat)) (l : List Bool) : Option (Nat × List Bool) := readSym tbl 15 0 0 l

def lenBase : List Nat := [3, 4, 5, 6, 7, 8, 9, 10, 11, 13, 15, 17, 19, 23, 27, 31, 35, 43, 51, 59, 67, 83, 99, 115, 131, 163,
  195, 227, 258]
def lenExtra : List Nat := [0, 0, 0, 0, 0, 0, 0, 0, 1, 1, 1, 1, 2, 2, 2, 2, 3, 3, 3, 3, 4, 4, 4, 4, 5, 5, 5, 5, 0]
def distBase : List Nat := [1, 2, 3, 4, 5, 7, 9, 13, 17, 25, 33, 49, 65, 97, 129, 193, 257, 385, 513, 769, 1025, 1537, 2049, 3073,
  4097, 6145, 8193, 12289, 16385, 24577]
def distExtra : List Nat := [0, 0, 0, 0, 1, 1, 2, 2, 3, 3, 4, 4, 5, 5, 6, 6, 7, 7, 8, 8, 9, 9, 10, 10, 11, 11, 12, 12, 13, 13]

/-- Copies n bytes from a distance back; out is held newest first. -/
def copyBack (out : List Byte) (dist : Nat) : Nat → List Byte
  | 0 => out
  | n + 1 => copyBack (out.getD (dist - 1) 0 :: out) dist n

/-- The symbols of one block until end-of-block; out is held newest first. -/
def inflateSyms (lit dst : List (Nat × Nat × Nat)) : Nat → List Byte → List Bool → Option (List Byte × List Bool)
  | 0, _, _ => none
  | f + 1, out, l =>
    match sym lit l with
    | none => none
    | some (v, l) =>
      if v < 256 then inflateSyms lit dst f (BitVec.ofNat 8 v :: out) l
      else if v = 256 then some (out, l)
      else if 285 < v then none
      else
        match takeBits (lenExtra.getD (v - 257) 0) l with
        | none => none
        | some (x, l) =>
          match sym dst l with
          | none => none
          | some (d, l) =>
            if 29 < d then none
            else
              match takeBits (distExtra.getD d 0) l with
              | none => none
              | some (y, l) =>
                let dist := distBase.getD d 0 + y
                if out.length < dist then none
                else inflateSyms lit dst f (copyBack out dist (lenBase.getD (v - 257) 0 + x)) l

/-- The code lengths of a dynamic block. -/
def readLens (tbl : List (Nat × Nat × Nat)) (want : Nat) : Nat → List Nat → List Bool → Option (List Nat × List Bool)
  | 0, _, _ => none
  | f + 1, acc, l =>
    if acc.length = want then some (acc, l)
    else if want < acc.length then none
    else
      match sym tbl l with
      | none => none
      | some (v, l) =>
        if v < 16 then readLens tbl want f (acc ++ [v]) l
        else
          match takeBits (if v = 16 then 2 else if v = 17 then 3 else 7) l with
          | none => none
          | some (x, l) =>
            if v = 16 then
              if acc = [] then none else readLens tbl want f (acc ++ List.replicate (3 + x) (acc.getLastD 0)) l
            else readLens tbl want f (acc ++ List.replicate ((if v = 17 then 3 else 11) + x) 0) l

def fixedLit : List Nat := List.replicate 144 8 ++ List.replicate 112 9 ++ List.replicate 24 7 ++ List.replicate 8 8
def lenOrder : List Nat := [16, 17, 18, 0, 8, 7, 9, 6, 10, 5, 11, 4, 12, 3, 13, 2, 14, 1, 15]

/-- The literal and distance tables of a dynamic block's header. -/
def dynTables (l : List Bool) : Option (List (Nat × Nat × Nat) × List (Nat × Nat × Nat) × List Bool) :=
  match takeBits 14 l with
  | none => none
  | some (h, l) =>
    let nl := h % 32 + 257
    let nd := h / 32 % 32 + 1
    let nc := h / 1024 + 4
    if 286 < nl then none
    else
    match (List.range nc).foldl (fun (acc : Option (List Nat × List Bool)) i =>
      match acc with
      | none => none
      | some (t, l) => (takeBits 3 l).map (fun r => (t.set (lenOrder.getD i 0) r.1, r.2))) (some (List.replicate 19 0, l)) with
    | none => none
    | some (cl, l) =>
      match if codeFits cl then readLens (canonical cl) (nl + nd) 400 [] l else none with
      | none => none
      | some (lens, l) =>
        if codeFits (lens.take nl) && codeFits (lens.drop nl)
        then some (canonical (lens.take nl), canonical (lens.drop nl), l) else none

/-- A slot's payload of exactly LEN bytes, as R308 has it: one final block of the kind DYN says, 4,096 bytes long, the rest
of its last byte 0. -/
def inflate (dyn : Bool) (payload : List Byte) : Option (List Byte) :=
  match takeBits 3 (bitsOf payload) with
  | none => none
  | some (h, l) =>
    if h % 2 = 0 ∨ h / 2 ≠ (if dyn then 2 else 1) then none
    else
      let tabs := if dyn then dynTables l else some (canonical fixedLit, canonical (List.replicate 30 5), l)
      match tabs with
      | none => none
      | some (lit, dst, l) =>
        match inflateSyms lit dst 4097 [] l with
        | none => none
        | some (out, rest) =>
          if out.length = 4096 ∧ rest.length < 8 ∧ rest.all (fun b => !b) then some out.reverse else none

/-! ### The inner code (R165, R172, R173) -/

/-- n steps of the scrambler from register b. -/
def scramble : Nat → Nat → List Bool
  | 0, _ => []
  | n + 1, b =>
    let o := b.testBit 14 != b.testBit 13
    o :: scramble n ((2 * b) % 2 ^ 15 + b2n o)

/-- The code word's information bits: u xor s (R165). -/
def scrambled (info : List Byte) : List Bool :=
  let u := bitsOf info
  List.zipWith (fun a b => a != b) u (scramble u.length 0x7FFF)

/-- P^s applied to a 256-bit block. -/
def rot256 (x : List Bool) (k : Nat) : List Bool := (x.drop k) ++ x.take k

def xorBits (a b : List Bool) : List Bool := List.zipWith (fun x y => x != y) a b

/-- Parity blocks by back-substitution (R173); b gives an entry of the base matrix. -/
def ldpcParity (b : Nat → Nat → Option Nat) (c : List Bool) : List (List Bool) :=
  (List.range 16).foldl (fun ps i =>
    let z := List.replicate 256 false
    let p := (List.range 129).foldl (fun p j => match b i j with
      | some k => xorBits p (rot256 ((c.drop (256 * j)).take 256) k)
      | none => p) z
    let p := (List.range i).foldl (fun p k => match b i (129 + k) with
      | some r => xorBits p (rot256 (ps.getD k z) r)
      | none => p) p
    ps ++ [p]) []

/-- The code word of 4,128 information bytes. -/
def ldpcEncode (b : Nat → Nat → Option Nat) (info : List Byte) : List Bool :=
  let c := scrambled info
  c ++ (ldpcParity b c).flatten

/-- n bits of the 2T pattern 1100. -/
def twoT (n : Nat) : List Bool := (List.range n).map (fun k => decide (k % 4 < 2))

/-- The sync mark, most significant bit first (Table 7-2). -/
def syncMark : List Bool := (List.range 40).map (fun k => (0xE35A01F68B).testBit (39 - k))

/-- The channel bits of a sector frame (R162). -/
def sectorFrame (b : Nat → Nat → Option Nat) (info : List Byte) : List Bool :=
  twoT 128 ++ syncMark ++ ldpcEncode b info ++ twoT 32

/-- The conditions of R173 and R174 on a stored base matrix: raw gives entry [i][j] of the 160 stored columns. -/
def matrixGood (raw : Nat → Nat → Nat) : Bool :=
  let on (i j : Nat) : Bool := (raw i j).testBit 15
  let rows := List.range 16
  let cols := List.range 145
  rows.all (fun i => (List.range 160).all (fun j => bitsN (raw i j) 8 7 == 0)) &&
  rows.all (fun i => (List.range 15).all (fun j => raw i (145 + j) == 0)) &&
  rows.all (fun i => on i (129 + i) && bitsN (raw i (129 + i)) 0 8 == 0) &&
  rows.all (fun i => rows.all (fun j => decide (j ≤ i) || !on i (129 + j))) &&
  rows.all (fun i => decide ((cols.filter (on i)).length ≤ 48)) &&
  cols.all (fun j => decide ((rows.filter (fun i => on i j)).length ≤ 6)) &&
  (List.range 129).all (fun j => decide (2 ≤ (rows.filter (fun i => on i j)).length))

end Sys2Proof.Machine
end

