-- ==== Sys2Proof/Machine/HseOps.lean ====
section
/-! DEFINITION. Machine/HseOps.lean: shared operations of the head sequencers, their channels and the outer code engine:
causes and halting (R147, R148, R154), the gates (R138 to R142), frames (R143, R181, R201, R202) and results (R168 to
R178). -/

namespace Sys2Proof.Machine

/-! ### Tables -/

def State.hse (s : State) (h : Nat) : Hse := NTab.get {} h s.hses
def State.setHse (s : State) (h : Nat) (v : Hse) : State := { s with hses := NTab.put {} h v s.hses }
def State.chan (s : State) (h : Nat) : Chan := NTab.get {} h s.chans
def State.setChan (s : State) (h : Nat) (v : Chan) : State := { s with chans := NTab.put {} h v s.chans }
def State.hlk (s : State) (a : Nat) : Hlink := NTab.get {} a s.hls
def State.setHlk (s : State) (a : Nat) (v : Hlink) : State := { s with hls := NTab.put {} a v s.hls }

/-- Windows of HSE[h] and CHAN[h] (Table 16-1). -/
def hseBase (h : Nat) : Nat := 0x10100000 + 0x10000 * h
def chanBase (h : Nat) : Nat := 0x10300000 + 0x10000 * h

/-! ### Causes and halting -/

/-- The latched conditions, by their bit in Table 6-9. -/
def latSam : Nat := 0
def latSync : Nat := 1
def latNosync : Nat := 2
def latDdone : Nat := 3
def latDeliv : Nat := 4
def latWdone : Nat := 5
def latSlotb : Nat := 6
def latHlack : Nat := 7

def State.latchOn (s : State) (h b : Nat) : State := s.setHse h { s.hse h with latch := setBitN (s.hse h).latch b true }

def State.running (s : State) (h : Nat) : Bool := s.rd .HSE_STAT_STATE h != 0
def State.rgOpen (s : State) (h : Nat) : Bool := s.rdBit .HSE_STAT_GATES 1 h
def State.wgOpen (s : State) (h : Nat) : Bool := s.rdBit .HSE_STAT_GATES 2 h
def Hse.depth (v : Hse) : Nat := v.tstk.length

/-- STATE, DEPTH and CSD follow what the engine does: a handler shows 3, a wait below it 2. -/
def State.hseShow (s : State) (h : Nat) : State :=
  let v := s.hse h
  let st := if v.depth ≠ 0 then 3 else if v.waiting then 2 else 1
  ((if s.running h then s.wr .HSE_STAT_STATE st h else s).wr .HSE_UPC_DEPTH v.depth h).wr .HSE_UPC_CSD v.cstk.length h

/-- The servo gate: timed by hardware under SGAUTO, open while wedge timing is lost (R138). -/
def State.servoGate (s : State) (h : Nat) : State :=
  if s.bit .HSE_CTL_SGAUTO h then s.wrBit .HSE_STAT_GATES 0 ((s.hse h).ko || !(s.hse h).servo) h else s

/-- The synthesiser leaves its lock and starts for ZRATE × RATIO ÷ 16,384 Mb/s, or refuses a rate out of range (R186). -/
def State.relock (s : State) (h : Nat) : State :=
  let r := s.rd .CHAN_RATE_ZRATE h * s.rd .SPN_RATIO_RATIO
  let s := (s.wr .CHAN_STAT_LOCKED 0 h).wr .CHAN_BITRATE_RATE 0 h
  let s := s.setChan h { s.chan h with timed := false, fabric := true }
  if r < 1000 * 16384 ∨ 5000 * 16384 < r then
    (s.wr .CHAN_STAT_RLIM 1 h).raise (6 * h + 5) [(1, 0), (4, r / 16384)]
  else s.wr .CHAN_STAT_RLIM 0 h

/-- A ZRATE write takes effect: wedge timing is measured anew (R139, R187). -/
def State.zrateSet (s : State) (h : Nat) : State :=
  ((s.wr .HSE_WPER_WPER 0 h).setHse h { s.hse h with direct := false }).relock h

/-- A ZRATE write that waited for the end of the frame in progress. -/
def State.zrateNow (s : State) (h : Nat) : State :=
  if (s.chan h).zrate then (s.setChan h { s.chan h with zrate := false }).zrateSet h else s

/-- Data passes under the head: a wedge period is known and the timer lies outside the keep-out window (R139). -/
def State.dataTime (s : State) (h : Nat) : Bool := s.rd .HSE_WPER_WPER h != 0 && !(s.hse h).ko

/-! ### The preamp's write lines (R180, R183) -/

/-- 16 bits of the 2T pattern. -/
def leadBits : List Bool := (List.replicate 4 [true, true, false, false]).flatten

def State.wgFall (s : State) (h : Nat) : State :=
  if (s.chan h).wg then (s.setChan h { s.chan h with wg := false }).emit (.writeGate h false) else s

def State.wgRise (s : State) (h : Nat) : State :=
  ((s.setChan h { s.chan h with wg := true }).emit (.writeGate h true)).emit (.lead h leadBits)

/-- The lines stand for a frame of the present run: a run that follows one of another preset sets HL_WA with HL_WG low. -/
def State.runLead (s : State) (h : Nat) : State :=
  let c := s.chan h
  if c.wg && c.wa == c.preset then s
  else
    let s := s.wgFall h
    ((s.setChan h { s.chan h with wa := c.preset }).emit (.assist h c.preset)).wgRise h

/-- The write gate is closed at the channel. -/
def State.wgEnd (s : State) (h : Nat) : State :=
  let s := (s.wrBit .HSE_STAT_GATES 2 false h).wgFall h
  (s.setChan h { s.chan h with wclose := false, startW := false }).zrateNow h

/-- The write gate closes at the end of the frame in progress, or at once (R141). -/
def State.wgClose (s : State) (h : Nat) : State :=
  if s.wgOpen h then
    if (s.chan h).wf.isSome then s.setChan h { s.chan h with wclose := true } else s.wgEnd h
  else s

/-- As wgClose, for a close under R25: the frame in progress does not count as written, and no vector PERMIT is left to
take for it. -/
def State.wgCut (s : State) (h : Nat) : State :=
  let c := s.chan h
  (s.setChan h { c with wf := c.wf.map (fun f => { f with cut := true, told := true }) }).wgClose h

/-- The read gate is closed: the framer is disarmed and the last whole slot read is retained (R142, R170). -/
def State.rgEnd (s : State) (h : Nat) : State :=
  let c := s.chan h
  (((s.wrBit .HSE_STAT_GATES 1 false h).setChan h { c with rclose := false, armed := false, reading := false, startR := false }).wrb
    .CHAN_STAT_SBVALID c.kept.isSome h).zrateNow h

def State.rgClose (s : State) (h : Nat) : State :=
  if s.rgOpen h then
    if (s.chan h).reading then s.setChan h { s.chan h with rclose := true } else s.rgEnd h
  else s

/-- Drops the frame being read, without delivery. -/
def Chan.dropRead (c : Chan) : Chan :=
  if c.lost.isSome then { c with lost := none } else if c.reading then { c with rf := c.rf.dropLast } else c

/-- The engine halts with a cause (R154). HALTC 3 to 5 raise event 6h + 1. -/
def State.hseHalt (s : State) (h haltc : Nat) : State :=
  let v := s.hse h
  let upc := s.rd .HSE_UPC_UPC h
  let vec := match v.tstk with | f :: _ => f.vec | [] => 0
  let s := s.setChan h { (s.chan h).dropRead with staged := [] }
  let s := if s.rgOpen h then s.rgEnd h else s
  let s := s.wgCut h
  let v' := s.hse h
  let s := s.setHse h { v' with cstk := [], tstk := [], waiting := false, stalled := false, atomOver := false,
                                stopping := false, own := false }
  let s := (((s.wr .HSE_STAT_STATE 0 h).wr .HSE_STAT_HALTC haltc h).wr .HSE_CTL_SGAUTO 1 h).servoGate h
  let s := s.hseShow h
  if haltc < 3 then s else s.raise (6 * h + 1) [(1, haltc), (2, upc), (1, v.depth), (1, vec)]

/-- A cause becomes pending. One of vectors 2 to 4 inside its own handler halts the engine as NESTED (R148). -/
def State.cause (s : State) (h v : Nat) : State :=
  if (v = 2 ∨ v = 3 ∨ v = 4) ∧ (s.hse h).tstk.any (fun f => f.vec == v) then s.hseHalt h 5
  else s.wrBit .HSE_TPEND_PEND v true h

/-- Vector DMA with its cause: 0 a channel's error, 1 STARVE, 2 POISON. -/
def State.dmaTrap (s : State) (h c : Nat) : State := (s.setHse h { s.hse h with dmaCause := c }).cause h 9

/-! ### Checks on a gate (R140) -/

/-- RATE_OK: TIER_READY in force, the synthesiser locked, wedge timing found since, and the channel enabled (R90, R174). -/
def State.rateOk (s : State) (h : Nat) : Bool :=
  s.bit .CHAN_STAT_ENA h && s.bit .SPN_RATIO_READY && s.bit .CHAN_STAT_LOCKED h && !s.bit .CHAN_STAT_RLIM h &&
    (s.chan h).timed && !(s.chan h).fabric

def State.sposN (s : State) (a : Nat) : Int := signedN 32 (s.rd .SCE_POS_POS a)
def State.hofsN (s : State) (h : Nat) : Int := signedN 32 (s.rd .SCE_HCAL0_HOFS (h / 6) (h % 6))

/-- The co-track window holds for TRK. -/
def State.windowOk (s : State) (h : Nat) : Bool :=
  decide (((s.rd .HSE_TRK_TRK h : Int) * 1024 - s.hofsN h - s.sposN (h / 6)).natAbs ≤ 16384)

/-- Event 6h: the gate asked for (0 read, 1 write), at open (0) or at frame start (1). -/
def State.windowEvent (s : State) (h gate at' : Nat) : State :=
  s.raise (6 * h) [(4, s.rd .HSE_TRK_TRK h), (4, s.rd .SCE_POS_POS (h / 6)), (4, s.rd .SCE_HCAL0_HOFS (h / 6) (h % 6)),
    (1, gate), (1, at')]

def State.plausOk (s : State) (h : Nat) : Bool := s.rdBit .SCE_HSTAT_PLAUS (h % 6) (h / 6)
def State.permitOk (s : State) (h : Nat) : Bool := s.plausOk h && s.rdBit .SPN_WP_WP (h / 6)

/-! ### The sector tag (R17, R198, R205) -/

/-- Tag bytes 0 to 11. -/
def tagHead (lba nsidx sflags bandseq : Nat) : List Byte := leBytes 8 lba ++ leBytes 1 nsidx ++ leBytes 1 sflags ++ leBytes 2 bandseq

/-- The 32 tag bytes of a payload. -/
def sectorTag (head : List Byte) (wseq : Nat) (payload : List Byte) : List Byte :=
  let body := head ++ leBytes 8 wseq ++ leBytes 4 (crc32c payload) ++ leBytes 4 0
  body ++ leBytes 4 (crc32c body)

/-! ### The base matrix (R172, R174) -/

def State.matrixRaw (s : State) (h i j : Nat) : Nat := s.mrd 2 (chanBase h + 0x2000 + 0x140 * i + 2 * j)
def State.matrix (s : State) (h i j : Nat) : Option Nat :=
  let v := s.matrixRaw h i j
  if v.testBit 15 then some (bitsN v 0 8) else none

/-! ### The outer code on the write path (R200 to R203) -/

/-- The context active for writes on a head. -/
def State.oceActive (s : State) (h : Nat) : Option Nat :=
  if s.bit .OCE_CTL_EN && s.bit .OCE_HACT_VALID h then some (s.rd .OCE_HACT_CTX h) else none

/-- Frames of a head staged or on the medium, with what they stand for. -/
def Chan.flying (c : Chan) : List (Option Nat × Option Nat) :=
  (match c.wf with | some f => [(f.ctx, f.par)] | none => []) ++ c.staged.map (fun f => (f.ctx, f.par))

/-- Data frames of the active context not yet reported written. -/
def Chan.pendingData (c : Chan) (g : Nat) : Nat := (c.flying.filter (fun e => e.1 == some g && e.2 == none)).length

/-- The OCE has taken the head's write line, or waits to (R202). -/
def State.oceHolds (s : State) (h : Nat) : Bool :=
  match s.oceActive h with
  | some g => decide (64 ≤ s.rd .GCTX_NDATA g + (s.chan h).pendingData g)
  | none => false

/-- Address of parity column k of a context's accumulator. -/
def State.accAddr (s : State) (g k : Nat) : Nat := s.rd .GCTX_ACC_ACC g + 4096 * k

/-- An accumulator read that fails ECC (R206). -/
def State.accCheck (s : State) (g : Nat) : State :=
  if s.poisoned (s.rd .GCTX_ACC_ACC g) 16384 && !s.bit .GCTX_ERR g then
    ((s.wr .GCTX_ERR 1 g).wr .OCE_STAT_ACCERR 1).raise 275
      [(2, g), (1, s.rd .GCTX_HEAD g), (1, s.rd .GCTX_NDATA g), (1, s.rd .GCTX_NPAR g)]
  else s

/-- Adds a payload at data position i to the four accumulators. -/
def State.accumulate (s : State) (g i : Nat) (payload : List Byte) : State :=
  (List.range 4).foldl (fun s k =>
    let a := s.accAddr g k
    let old := symbols (s.mbs a 4096)
    s.setMbs a (symbolBytes (List.zipWith Nat.xor old (rsAdd i k payload)))) (s.accCheck g)

/-- Tag bytes 0 to 11 of a context's parity frame (R198). -/
def State.parityHead (s : State) (g : Nat) : List Byte :=
  tagHead (s.rd .GCTX_LBA0_LBA0 g) (s.rd .GCTX_ID_NSIDX g) 8 (s.rd .GCTX_ID_BANDSEQ g)

def tagKind (t : Nat) : Nat := bitsN t 39 4
def tagPoison (t : Nat) : Bool := t.testBit 56

def State.setLpend (s : State) (line : Nat) (n : Nat) : State := s.wr .DMA_LPEND_COUNT n line

/-- The OCE answers a waiting write-line request with the next parity frame of the group (R202). -/
def State.oceServe (s : State) (h : Nat) : State :=
  match s.oceActive h, (s.hse h).wreq with
  | some g, t :: rest =>
    let c := s.chan h
    if s.rd .GCTX_NDATA g = 64 ∧ c.staged.length < 2 then
      let out := c.flying.filterMap (fun e => e.2)
      match ([0, 1, 2, 3].filter (fun k => decide (s.rd .GCTX_NPAR g ≤ k) && !out.contains k)) with
      | [] => s
      | k :: _ =>
        let s := s.accCheck g
        let bad := s.bit .GCTX_ERR g
        let data := s.mbs (s.accAddr g k) 4096 ++ s.parityHead g ++ List.replicate 20 0
        let f : SFrame := ⟨setBitN (putField t 39 4 4) 56 bad, data, bad, some g, some k⟩
        let s := s.setChan h { c with staged := c.staged ++ [f] }
        let s := s.setHse h { s.hse h with wreq := rest }
        (s.fabric (onFabric false f.tag)).setLpend h rest.length
    else s
  | _, _ => s

/-- The channel reports a frame written (R201, R202). -/
def State.oceWritten (s : State) (f : WFrame) : State :=
  match f.ctx with
  | none => s
  | some g =>
    if s.rd .GCTX_MODE g ≠ 1 then s
    else
      match f.par with
      | none => (s.accumulate g (s.rd .GCTX_NDATA g) (f.data.take 4096)).wrapAdd .GCTX_NDATA 1 g
      | some k =>
        if k ≠ s.rd .GCTX_NPAR g then s
        else if k = 3 then
          let head := s.rd .GCTX_HEAD g
          (((s.wr .GCTX_NPAR 4 g).wr .GCTX_MODE 0 g).wr .OCE_HACT_VALID 0 head).wr .OCE_HACT_CTX 0 head
        else s.wr .GCTX_NPAR (k + 1) g

/-! ### Write frames (R142, R143, R181, R182) -/

/-- A frame begins: its WSEQ is allocated and its tag completed. -/
def State.frameBegin (s : State) (h : Nat) (f : SFrame) (rest : List SFrame) : State :=
  let payload := f.data.take 4096
  let data := payload ++ sectorTag ((f.data.drop 4096).take 12) s.wseq payload
  let s := (s.setWseq ((s.wseq + 1) % 2 ^ 64)).runLead h
  let c := s.chan h
  s.setChan h { c with staged := rest, wf := some { data := data, ctx := f.ctx, par := f.par, preset := c.preset },
                       timer := true, startW := false }

/-- A frame flagged POISON is refused in its slot (R182). -/
def State.refusePoison (s : State) (h : Nat) (f : SFrame) (rest : List SFrame) : State :=
  let s := (s.setChan h { s.chan h with staged := rest, timer := true }).wgEnd h
  ((s.wr .CHAN_STAT_POISON 1 h).raise (6 * h + 5) [(1, 3), (4, bitsN f.tag 0 17)]).dmaTrap h 2

/-- With the gate open and no frame in progress, the next staged frame starts, after the checks repeated at every frame
start; in the keep-out window it waits for the window's end (R139). -/
def State.startWrite (s : State) (h : Nat) : State :=
  match (s.chan h).staged with
  | [] => s
  | f :: rest =>
    if !s.dataTime h then s.setChan h { s.chan h with startW := true }
    else if !s.windowOk h then ((s.windowEvent h 1 1).wgEnd h).cause h 5
    else if !s.permitOk h then (s.wgEnd h).cause h 6
    else if s.bit .HL_STAT_FLT (h / 6) then (s.wgEnd h).cause h 13
    else if f.poison then s.refusePoison h f rest
    else s.frameBegin h f rest

/-- A write slot with no frame staged (R143). -/
def State.starve (s : State) (h : Nat) : State := (s.wgEnd h).dmaTrap h 1

/-- WG open (R140, R142, R143). An open while the gate's close is pending cancels the close, and one of an open gate does nothing:
the spec gives neither (log entry 106). -/
def State.openW (s : State) (h : Nat) : State :=
  if s.rgOpen h then s.cause h 2
  else if s.wgOpen h && !(s.chan h).wclose then s
  else if !s.rateOk h then s.cause h 7
  else if !s.windowOk h then (s.windowEvent h 1 0).cause h 5
  else if !s.permitOk h then s.cause h 6
  else if s.bit .HL_STAT_FLT (h / 6) then s.cause h 13
  else
    let c := s.chan h
    let s := (s.wrBit .HSE_STAT_GATES 2 true h).setChan h { c with wclose := false, preset := bitsN (s.hse h).nano 54 2 }
    if c.wf.isSome then s
    else if c.staged.isEmpty then (if c.timer then s else s.starve h)
    else s.startWrite h

/-! ### Read frames (R142, R167 to R178) -/

/-- Samples of a slot (R162, R170). -/
def slotBits : Nat := 37320

/-- The sync search of the next frame starts, after the window check; in the keep-out window it waits for the window's
end (R139). Gain and phase are acquired, and the slot's samples and LLRs, on its preamble and after (R160, R170).
The frame's slot number is HSE_SLOTCNT.SLOT at this instant, after a SLOTINC of the same nanoword, and its expectation
the one in force now, also where a CQLD comes before its decode ends (R176, R178): the spec gives neither (log entry
106). -/
def State.startRead (s : State) (h : Nat) : State :=
  if !s.dataTime h then s.setChan h { s.chan h with startR := true }
  else if !s.windowOk h then ((s.windowEvent h 0 1).rgEnd h).cause h 5
  else
    let (g, s) := s.draw 64
    let (p, s) := s.draw 64
    let (b, s) := s.drawMany (2 * slotBits)
    let c := s.chan h
    let f : RFrame := { slot := s.rd .HSE_SLOTCNT_SLOT h, trk := s.rd .HSE_TRK_TRK h, widx := s.rd .HSE_WT_WIDX h,
                        gambit := (s.hse h).nano.testBit 53, k := c.frames, run := c.run, pars := c.pars, xqi := c.xqi,
                        xns := c.xns, samp := b, llr := b + slotBits }
    s.setChan h { c with rf := c.rf ++ [f], frames := c.frames + 1, reading := true, timer := true, startR := false,
                         gain := g, phase := p }

/-- The equaliser's taps after a slot read: LMS has moved them to values the spec leaves open, unless ADAPT is 0 or FREEZE
is 1 (R159). -/
def State.adaptEq (s : State) (h : Nat) : State :=
  if s.bit .CHAN_CTL_ADAPT h && !s.bit .CHAN_ADAPT_FREEZE h then
    (List.range 20).foldl (fun s i =>
      let (x, s) := s.draw 16
      s.wr .CHAN_EQ_TAP x h i) s
  else s

/-- Byte k of the retained sample buffer, 0 while no slot is retained (R170). -/
def State.sample (s : State) (h k : Nat) : Byte :=
  if !s.bit .CHAN_STAT_SBVALID h then 0
  else match (s.chan h).kept with
    | some f => BitVec.ofNat 8 (Config.freeValue (f.samp + k))
    | none => 0

/-- RG open. It abandons an offline decode (R179). A pending close and an open gate are as for WG (log entry 106). -/
def State.openR (s : State) (h : Nat) : State :=
  if s.wgOpen h then s.cause h 2
  else if s.rgOpen h && !(s.chan h).rclose then s
  else if !s.rateOk h then s.cause h 7
  else if !s.windowOk h then (s.windowEvent h 0 0).cause h 5
  else
    let c := s.chan h
    let s := (s.wrBit .HSE_STAT_GATES 1 true h).setChan h { c with rclose := false, kept := none, run := c.run + 1, frames := 0, pars := 0 }
    let s := (s.wr .CHAN_STAT_SBVALID 0 h).wr .CHAN_STAT_RDBUSY 0 h
    if c.armed && !c.reading then s.startRead h else s

/-- FARM. -/
def State.farm (s : State) (h : Nat) : State :=
  let c := s.chan h
  let s := s.setChan h { c with armed := true }
  if s.rgOpen h && !c.reading && !c.rclose then s.startRead h else s

/-- Word of expectation entry i (Table 7-6). -/
def State.xq (s : State) (h i n ofs : Nat) : Nat := s.mrd n (chanBase h + 0x400 + 0x10 * i + ofs)

/-- The LBA check of R177 for data frame number k under entry i. -/
def State.lbaOk (s : State) (h i k : Nat) (par : Bool) (lba : Nat) : Bool :=
  let lba0 := s.xq h i 8 0
  let span := s.xq h i 4 8
  let step := s.xq h i 1 15
  let inRange := decide (lba0 ≤ lba) && decide (lba < lba0 + span)
  match s.xq h i 1 14 with
  | 0 => if par then inRange else lba == lba0 + (if step = 0 then 1 else step) * k
  | 2 => true
  | _ => inRange

/-- The tag checks in order, under expectation entry i and namespace ns: 0, or the RESULT code of the first that fails
(R20, R177). -/
def State.tagResult (s : State) (h i ns k : Nat) (info : List Byte) : Nat :=
  let tag := info.drop 4096
  let sf := (tag.getD 9 0).toNat
  if crc32c (tag.take 28) ≠ leNat ((tag.drop 28).take 4) then 5
  else if sf % 4 = 3 then 10
  else if crc32c (info.take 4096) ≠ leNat ((tag.drop 20).take 4) then 6
  else if !s.lbaOk h i k (sf.testBit 3) (leNat (tag.take 8)) then 7
  else if (tag.getD 8 0).toNat ≠ ns then 8
  else if leNat ((tag.drop 10).take 2) ≠ s.xq h i 2 12 then 9
  else 0

/-- The erasure mark of Table 7-7. -/
def erasureMark (cause cand iter unsat : Nat) (f : RFrame) (tag : List Byte) : List Byte :=
  leBytes 1 cause ++ leBytes 1 cand ++ leBytes 1 iter ++ leBytes 1 0 ++ leBytes 2 unsat ++ leBytes 2 f.slot ++ leBytes 4 f.trk ++
    leBytes 2 f.widx ++ leBytes 2 (f.snr.getD 0x8000) ++ (tag ++ List.replicate 32 0).take 32 ++ List.replicate 16 0

/-- SNR of a frame whose mark was found, and the mean over the last 256 (R161). -/
def State.snrNote (s : State) (h snr : Nat) : State :=
  let c := s.chan h
  let l := (snr :: c.snrs).take 256
  let sum : Int := l.foldl (fun a v => a + signedN 16 v) 0
  let avg := roundQ ((sum : Rat) / (l.length : Rat))
  ((s.setChan h { c with snrs := l }).wr .CHAN_SNR_LAST snr h).wr .CHAN_SNR_AVG (wrapN 16 avg) h

/-- A frame's records follow what is known of it: the retained one and the one last read are the same frame as f when
their samples are. -/
def Chan.known (c : Chan) (f : RFrame) : Chan :=
  { c with kept := c.kept.map (fun g => if g.samp = f.samp then { g with snr := f.snr } else g) }

/-- A frame's estimate is made once (R161). -/
def State.frameSnr (s : State) (h : Nat) (f : RFrame) (snr : Nat) : RFrame × State :=
  match f.snr with
  | some _ => (f, s)
  | none =>
    let f := { f with snr := some snr }
    (f, (s.setChan h ((s.chan h).known f)).snrNote h snr)

/-- A parity frame of a run has decoded: it counts for the later frames of the run (R177). -/
def Chan.parity (c : Chan) (f : RFrame) : Chan :=
  let up (g : RFrame) : RFrame := if g.run = f.run ∧ f.k < g.k then { g with pars := g.pars + 1 } else g
  { c with rf := c.rf.map up, kept := c.kept.map up, lost := c.lost.map up, pars := if c.run = f.run then c.pars + 1 else c.pars }

/-- The last result of the channel: CHAN_LAST, DDONE and DGOOD, and what a read-line request takes. -/
def State.setResult (s : State) (h code cand iter unsat : Nat) (data : List Byte) : State :=
  let s := (((s.wr .CHAN_LAST_RESULT code h).wr .CHAN_LAST_CAND cand h).wr .CHAN_LAST_ITER iter h).wr .CHAN_LAST_UNSAT unsat h
  let s := s.setChan h { s.chan h with res := data }
  (s.setHse h { s.hse h with dgood := decide (code ≤ 1) }).latchOn h latDdone

/-- Event 6h + 3 (R20, R194). -/
def State.frameFailed (s : State) (h code cand iter unsat : Nat) (f : RFrame) : State :=
  s.raise (6 * h + 3) [(1, code), (1, cand), (1, iter), (2, unsat), (4, f.trk), (2, f.slot)]

/-- A read frame of a pass ends with a result (R168, R177, R178, R194). -/
def State.readEnd (s : State) (h code cand iter unsat : Nat) (data : List Byte) (f : RFrame) : State :=
  let s := s.setResult h code cand iter unsat data
  let s := s.wrapAdd .CHAN_NFRM_COUNT 1 h
  let s := if code = 1 then s.wrapAdd .CHAN_NGAMB_COUNT 1 h
    else if code = 2 then s.wrapAdd .CHAN_NNOSYNC_COUNT 1 h
    else if code = 3 ∨ code = 4 then s.wrapAdd .CHAN_NDEC_COUNT 1 h
    else if 5 ≤ code then s.wrapAdd .CHAN_NTAG_COUNT 1 h else s
  if code ≤ 1 then s
  else (s.frameFailed h code cand iter unsat f).cause h 12

/-- ITH counts a converged decode by its iterations (R175). -/
def State.ithNote (s : State) (h iters : Nat) : State :=
  if (iters - 1) / 4 < 8 then s.wrapAdd .CHAN_ITH_COUNT 1 h ((iters - 1) / 4) else s

/-- Result of a converged decode under expectation entry i and namespace ns: its tag checks, and what is delivered. good is
the code when they pass. -/
def State.converged (s : State) (h : Nat) (f : RFrame) (i ns good cand iter : Nat) (d : Decode) : Nat × List Byte × Bool :=
  let code := s.tagResult h i ns (f.k - f.pars) d.info
  if code = 0 then (good, (d.info ++ List.replicate 4128 0).take 4128, ((d.info.drop 4096).getD 9 0).toNat.testBit 3)
  else (code, erasureMark code cand iter 0 f (d.info.drop 4096), false)

end Sys2Proof.Machine
end

