-- ==== Sys2Proof/Machine/Preamp.lean ====
section
/-! DEFINITION. Machine/Preamp.lean: the preamp link and the preamps' faults (R185, R188 to R193). -/

namespace Sys2Proof.Machine

/-- PREAMP_FAULT (R185, R192): every write on the arm is cut; a cut frame is not written. The cut is kept for the automatic
read's events. -/
def State.faultHead (s : State) (a p : Nat) : State :=
  let h := 6 * a + p
  if s.wgOpen h then
    let cut := (s.chan h).wf.isSome
    let s := s.setChan h { s.chan h with wf := none }
    let s := if cut then
        let k := s.hlk a
        (s.wr .CHAN_STAT_WFLT 1 h).setHlk a { k with cut := if k.auto then NSet.add p k.cut else k.cut }
      else s
    ((s.wgEnd h).cause h 13).oceServe h
  else s

def execPreampFault (a : Arm) (s : State) : Res :=
  .next (s.on (s.up 9 && !s.bit .HL_STAT_FLT a) (fun s =>
    let s := s.wr .HL_STAT_FLT 1 a
    let s := if s.bit .HL_CFG_AUTOFLT then s.setHlk a { s.hlk a with auto := true } else s
    (List.range 6).foldl (fun s p => s.faultHead a p) s))

/-- HL_FLT_N_RELEASE (R185). -/
def execHlFltNRelease (a : Arm) (s : State) : Res := .next (s.wr .HL_STAT_FLT 0 a)

/-- A 33-bit request: bits 31 to 0, then odd parity over them (R188). -/
def hlFrame (w : Nat) : Nat := 2 * w + ((List.range 32).foldl (fun p i => p + b2n (w.testBit i)) 1) % 2

/-- HL_CMD_WRITE (R190): a read of all heads, or START 0, is dropped, and so is a request to a full queue. -/
def execHlCmdWrite (a : Arm) (v : W32) (s : State) : Res :=
  let w := v.toNat
  .next (s.on (s.up 9) (fun s =>
    if !w.testBit 31 || (w.testBit 30 && bitsN w 27 3 == 7) then s.wr .HL_STAT_BADCMD 1 a
    else if 8 ≤ (s.hlk a).fw.length then s.wr .HL_STAT_QFULL 1 a
    else s.setHlk a { s.hlk a with fw := (s.hlk a).fw ++ [w] }))

/-- Request bits 31 to 0 of Table 7-10. -/
def hlRequest (rd : Bool) (head addr data : Nat) : Nat := 2 ^ 31 + b2n rd * 2 ^ 30 + head * 2 ^ 27 + addr * 2 ^ 16 + data

/-- Next arm position after the one served last whose engine has a command. -/
def State.hlNext (s : State) (a : Nat) : Option Nat :=
  ((List.range 6).map (fun k => ((s.hlk a).rr + 1 + k) % 6)).find? (fun p => (s.hse (6 * a + p)).hl.isSome)

/-- HLINK_TRANSACTION_START (R190): the automatic fault read, then the heads in turn, then firmware. -/
def execHlinkTransactionStart (a : Arm) (s : State) : Res :=
  let k := s.hlk a
  .next (s.on (s.up 9 && k.cur.isNone) (fun s =>
    let go (s : State) (k : Hlink) (src : HlSrc) (w : Nat) : State :=
      ((s.setHlk a { k with cur := some (src, w) }).wr .HL_STAT_BUSY 1 a).emit (.hlink a (hlFrame w))
    if k.auto then go s { k with auto := false } .auto (hlRequest true 6 0 0)
    else match s.hlNext a with
      | some p =>
        let v := ((s.hse (6 * a + p)).hl).getD 0
        go s { k with rr := p } (.hse p) (hlRequest false p (v / 256) (v % 256))
      | none => match k.fw with
        | w :: t => go s { k with fw := t } .fw w
        | [] => s))

/-- The heads an automatic FAULT read names take vector HLINK (R192). -/
def State.faultNamed (s : State) (a p fault : Nat) : State :=
  let h := 6 * a + p
  if fault.testBit p then (s.raise (6 * h + 4) [(2, fault), (1, 0), (1, b2n (NSet.has p (s.hlk a).cut))]).cause h 13 else s

/-- HLINK_TRANSACTION_DONE (R189, R191, R192). -/
def execHlinkTransactionDone (a : Arm) (status : Byte) (data : W16) (parityOk : Bool) (s : State) : Res :=
  let k := s.hlk a
  let bad := !(bitsN status.toNat 5 3 == 5) || !parityOk
  .next (match k.cur with
    | none => s
    | some (src, w) =>
      let s := (s.setHlk a { k with cur := none }).wr .HL_STAT_BUSY 0 a
      match src with
      | .auto =>
        if bad then s.setHlk a { s.hlk a with cut := [] }
        else
          let s := (List.range 6).foldl (fun s p => s.faultNamed a p data.toNat) (s.wr .HL_STAT_FHEADS data.toNat a)
          s.setHlk a { s.hlk a with cut := [] }
      | .hse p =>
        let h := 6 * a.val + p
        let s := s.setHse h { s.hse h with hl := none, hlErr := bad }
        if bad then (s.raise (6 * h + 4) [(1, status.toNat), (1, bitsN w 16 8), (1, 0)]).cause h 13 else s.latchOn h latHlack
      | .fw =>
        let d := if w.testBit 30 then data.toNat else 0
        s.setHlk a { s.hlk a with resp := (s.hlk a).resp ++ [(d, status.toNat, bad)] })

/-- HL_RESP_READ (R425). -/
def execHlRespRead (a : Arm) (s : State) : Res :=
  .next (s.on (s.up 9) (fun s =>
    match (s.hlk a).resp with
    | [] => s.emit (.popped .HL_RESP_DATA a 0)
    | (d, st, e) :: t =>
      (s.setHlk a { s.hlk a with resp := t }).emit (.popped .HL_RESP_DATA a (d + st * 2 ^ 16 + 2 ^ 24 + b2n e * 2 ^ 25))))

end Sys2Proof.Machine
end

