-- ==== Sys2Proof/Machine/Planner.lean ====
section
/-! DEFINITION. Machine/Planner.lean: the margin planner's rules for a head and an arm (R386, R391) and the order of background
work (R216). -/

namespace Sys2Proof.Machine

/-! ### The planner's refresh rule (R391) -/

/-- SNR margin of a head over its calibration floor, 0.01 dB. -/
def State.snrMargin (s : State) (h : Nat) : Int := signedN 16 (s.rd .CHAN_SNR_AVG h) - Config.snrFloor s.runningCal h

/-- Heads of an arm that have an estimate. -/
def State.measured (s : State) (a : Nat) : List Nat :=
  ((List.range 6).map (fun p => 6 * a + p)).filter (fun h => !(NTab.get {} h s.chans).snrs.isEmpty)

def State.planArm (s : State) (a : Nat) : State :=
  let l := s.measured a
  let s := l.foldl (fun s h => if s.snrMargin h < 0 then s.raise 308 [(1, h), (2, s.rd .CHAN_SNR_AVG h)] else s) s
  let k := if l.any (fun h => decide (s.snrMargin h < 50)) then 2 else if l.any (fun h => decide (s.snrMargin h < 100)) then 1 else 0
  s.setMed { s.med with atiShift := NTab.put 0 a k s.med.atiShift }

/-! ### Servo recalibration (class 2 of Table 14-6) -/

/-- Numbers of the words that hold KXFF in a bank (Table 5-4). -/
def kxffWord (w : Nat) : Bool := decide (0x12 ≤ w) && decide (w < 0x16)

/-- The friction table and KXFF are re-identified, which values lies with the arm, and castled in: the inactive bank takes the
active one's words and the new KXFF. -/
def State.recalServo (s : State) (a : Nat) : State :=
  let k := s.free
  let b := s.bankNow a
  let s := { s with free := k + 516 }
  let s := (List.range 512).foldl (fun s w => s.mwr 4 (sceBase a + 0x2000 + 4 * w) (Config.freeValue (k + w) % 2 ^ 32)) s
  let s := (List.range 128).foldl (fun s w => s.mwr 4 (bankAddr a (1 - b) (4 * w))
    (if kxffWord w then Config.freeValue (k + 494 + w) % 2 ^ 32 else s.mrd 4 (bankAddr a b (4 * w)))) s
  (s.setMed { s.med with recal := NSet.del a s.med.recal }).castleTo a (1 - b)

/-- An arm whose recalibration can run: it tracks, and no castling is pending. -/
def State.recalDue (s : State) (a : Nat) : Bool := NSet.has a s.med.recal && s.armTracks a && !s.bit .SCE_BANKSEL_PENDING a

/-! ### Settings of a head (Table 14-9) -/

/-- Requests to a head's preamp that firmware queues on its arm's link (R188, R190). -/
def State.preampWrite (s : State) (h : Nat) (l : List (Nat × Nat)) : State :=
  let k := s.hlk (h / 6)
  s.setHlk (h / 6) { k with fw := k.fw ++ l.map (fun e => hlRequest false (h % 6) e.1 (e.2 % 65536)) }

/-- A head's settings can be written: between write runs, with room in the queue of 8 (R184, R190). -/
def State.canPlan (s : State) (h n : Nat) : Bool :=
  s.armTracks (h / 6) && !s.rdBit .HSE_STAT_GATES 2 h && decide ((s.hlk (h / 6)).fw.length + n ≤ 8)

/-- A plan of a period is due; one never made is. -/
def State.planDue (s : State) (last days : Nat) : Bool := last == 0 || decide (last - 1 + days * dayUnits ≤ s.optime)

/-- The heater plan: every 30 days, and for a degraded head. -/
def State.heaterDue (s : State) (h : Nat) : Bool :=
  s.canPlan h 2 && (NSet.has h s.med.replan || s.planDue (NTab.get 0 h s.med.heaterAt) 30)

/-- The touchdown test finds a heater power, which lies with the head; HTW and HTR become it less the back-off, event 307. A
degraded head's write settings are planned anew after it. -/
def State.heaterPlan (s : State) (h : Nat) : State :=
  let (p, s) := s.draw 16
  let back := Config.backOff s.runningCal h
  let again := NSet.has h s.med.replan
  let s := s.setMed { s.med with heaterAt := NTab.put 0 h (s.optime + 1) s.med.heaterAt, replan := NSet.del h s.med.replan,
                                 settingsAt := if again then NTab.put 0 h 0 s.med.settingsAt else s.med.settingsAt }
  (s.raise 307 [(1, h), (2, p), (2, back)]).preampWrite h [(0x20, p - back), (0x21, p - back)]

/-- The plan of write settings: daily, for a head with an SNR estimate. -/
def State.settingsDue (s : State) (h : Nat) : Bool :=
  s.canPlan h 3 && (s.measured (h / 6)).contains h && s.planDue (NTab.get 0 h s.med.settingsAt) 1

/-- Iteration counts of the scrubbed bands of an arm (R212). -/
def State.scrubCounts (s : State) (a : Nat) : List (List Nat) := (s.med.bands.filter (fun e => e.1 / 65536 == a)).map (fun e => e.2.iters)

/-- The preset a head's writes take, from 90 % of its budget the lowest that the set allows, and that preset's WC, OS and WA. -/
def State.settingsPlan (s : State) (h : Nat) : State :=
  let g := Config.writeSetting s.runningCal h (s.snrMargin h) (s.scrubCounts (h / 6))
  let n := (if NTab.get 0 h s.med.waLevel = 0 then g 0 else Config.lowPreset s.runningCal h) % 4
  let s := s.setMed { s.med with settingsAt := NTab.put 0 h (s.optime + 1) s.med.settingsAt, preset := NTab.put 0 h n s.med.preset }
  s.preampWrite h [(0x10 + n, g 1), (0x14 + n, g 2), (0x18 + n, g 3)]

/-- One piece of recalibration: an arm's servo, a head's heater, a head's write settings. -/
def State.recalStep (s : State) : State :=
  match (List.range 4).find? s.recalDue with
  | some a => s.recalServo a
  | none => match (List.range 24).find? s.heaterDue with
    | some h => s.heaterPlan h
    | none => match (List.range 24).find? s.settingsDue with
      | some h => s.settingsPlan h
      | none => s

/-! ### Background work (R216) -/

/-- Background work runs in PS0 to PS2 with the spindle locked, and stops during an activation drain (R278). -/
def State.bgRuns (s : State) : Bool :=
  s.up 10 && !s.rst.recovery && decide (s.rd .HIF_PWR_PSNOW ≤ 2) && s.bit .SPN_STAT_LOCK && s.hif.drain.isNone

/-- The first band that a test picks, as arm and band. -/
def State.firstBand (s : State) (p : Nat × Band → Bool) : Option (Nat × Nat) :=
  (s.med.bands.find? p).map (fun e => (e.1 / 65536, e.1 % 65536))

/-- A refresh of the class can go on: a copy of the arm is under way, or a band is free for one. -/
def State.canRefresh (s : State) (k : Nat) (e : Nat × Band) : Bool :=
  e.2.refresh == k && ((s.armCopy (e.1 / 65536)).isSome || s.hasFree (e.1 / 65536))

/-- One piece of background work, in the order of R216; above WCTEMP only urgent refresh goes on (R388). -/
def State.bgWork (s : State) : State :=
  match s.firstBand (s.canRefresh 2) with
  | some (a, b) => s.refreshStep a b
  | none =>
    if NSet.has 1 s.age.levels then s
    else match s.firstBand (fun e => e.2.ladder) with
      | some (a, b) => s.ladderStep a b
      | none => match s.firstBand s.scrubDue with
        | some (a, b) => s.scrubStep a b
        | none => match s.firstBand (s.canRefresh 1) with
          | some (a, b) => s.refreshStep a b
          | none => s.recalStep

/-- What firmware does for the medium as the operating time goes on: the end of an exit, the save of every 10 minutes, the planner's hourly pass,
the write-assist levels, late bands, and a piece of background work (log entry 103). -/
def State.background (s : State) : State :=
  if s.up 10 = false ∨ s.rst.recovery = true then s
  else
    let s := s.exitDone
    let s := if s.med.savedAt + 600 * 1024 ≤ s.optime then s.saveCounts else s
    let s := if s.med.planned + 3600 * 1024 ≤ s.optime then
        (List.range 4).foldl State.planArm (s.setMed { s.med with planned := s.optime }) else s
    let s := (s.med.wa.map (fun e => e.1)).foldl State.waCheck (s.spill [])
    let s := (if s.med.waLife = [] then s else s.usedCheck).lateBands
    if s.bgRuns then s.bgWork else s

end Sys2Proof.Machine
end

