-- ==== Sys2Proof/Machine/SpinOps.lean ====
section
/-! DEFINITION. Machine/SpinOps.lean: shared operations of the spindle: targets (R86, R89), starting and stopping (R92, R93),
the ramp limiter (R87, R88), the speed loop's sample (R83) and the cogging table (R85). -/

namespace Sys2Proof.Machine

/-- Whether the spindle counts as turning. A coasting spindle does so until a brake confirms its stop: the spec gives no
other end (log entry 99). -/
def State.turn (s : State) (b : Bool) : State := s.setPwr { s.pwr with turning := b }
def State.spnState (s : State) : Nat := s.rd .SPN_STAT_STATE
def State.speed (s : State) : Nat := s.rd .SPN_MEAS_SPEED

/-! ### Notices on the rate bus (R90) -/

/-- TIER_LEAVE is sent: TIER_READY is no longer in force. -/
def State.tierOut (s : State) : State :=
  let s := (s.wr .SPN_RATIO_READY 0).wr .SPN_STAT_LOCK 0
  let s := if s.spnState = 6 then s.wr .SPN_STAT_STATE 5 else s
  s.setSpn { s.spn with leave := true, ready := false, inRun := 0, outRun := 0 }

/-! ### Starting and stopping -/

/-- The spindle leaves SCE[4]'s control and the start sequence, in a state. -/
def State.spnLeave (s : State) (st : Nat) : State :=
  let p := s.spn
  let s := if p.swap then (s.wr .SCE_BANKSEL_ACTIVE (1 - s.bankNow 4) 4).wr .SCE_BANKSEL_PENDING 0 4 else s
  ((s.wr .SPN_STAT_STATE st).wr .SPN_STAT_HLHOLD 0).setSpn
    { p with loop := false, take := false, swap := false, icmd := 0, vApp := 0, stopping := false, comm := 0,
             plan := [], restart := false, again := false, late := false, lateRun := false, satRun := 0 }

/-- The bridge goes off and the spindle coasts. A start in progress fails for the given reason (R93). -/
def State.spnCut (s : State) (fail : Nat) : State :=
  let st := s.spnState
  if st = 0 ∨ st = 8 then s
  else
    let s := if 1 ≤ st ∧ st ≤ 4 ∧ !s.spn.stopping ∧ fail ≠ 0 then s.wr .SPN_STAT_FAIL fail else s
    (s.spnLeave 8).emit (.bridge .off 0)

/-- A speed hold ends without a take-over (R99): cause 0 12 V loss, 1 OV2. -/
def State.holdEnd (s : State) (cause : Nat) : State :=
  if s.bit .SPN_HOLD_ACTIVE then (s.wr .SPN_HOLD_ACTIVE 0).powerEvent 184 [(1, cause)] else s

/-- Winding-short braking begins. -/
def State.brake (s : State) : State := (s.wr .SPN_STAT_STATE 2).emit (.bridge .short 0)

/-- Step 2 of an attempt. -/
def State.attempt (s : State) : State := (s.wrapAdd .SPN_STAT_ATTEMPT 1).brake

/-- A start begins with step 1 (R92). With the isolation switch open it meets the power loss at once (R93). -/
def State.spnStart (s : State) : State :=
  let s := ((s.wr .SPN_STAT_ATTEMPT 0).wr .SPN_STAT_FAIL 0).raise 164 [(2, s.spn.tgt)]
  let s := (s.wr .SPN_STAT_STATE 1).setSpn { s.spn with stopping := false, restart := false, again := false, vec := 0 }
  if s.pwr.iso then s.emit (.bridge .off 0) else s.spnCut 4

/-! ### Targets (R86, R89) -/

def State.effTarget (s : State) (v : Nat) : Nat :=
  let t := signedN 16 v
  if t ≤ 0 then 0
  else if t < s.rd .SPN_LIM_SPDMIN then s.rd .SPN_LIM_SPDMIN
  else if (s.rd .SPN_LIM_SPDMAX : Int) < t then s.rd .SPN_LIM_SPDMAX
  else t.toNat

/-- A start may begin: nothing holds, latches or trips the bridge (R96, R98, R414). -/
def State.canStart (s : State) : Bool :=
  !s.spn.loop && !s.bit .SPN_HOLD_ACTIVE && !s.bit .SPN_STAT_OV2 && !s.pwr.hotDie && (s.spnState == 0 || s.spnState == 8)

/-- What a new effective target does when SCE[4] does not run the loop: a start; a stop of the start under way; the
full start after a stop under way. -/
def State.retarget (s : State) (e : Nat) : State :=
  let st := s.spnState
  if e ≠ 0 ∧ s.canStart then s.spnStart
  else if st = 2 ∧ s.spn.stopping then s.setSpn { s.spn with restart := decide (e ≠ 0) }
  else if e = 0 ∧ 1 ≤ st ∧ st ≤ 4 then (s.setSpn { s.spn with stopping := true, restart := false }).brake
  else s

/-- The effective target becomes e. -/
def State.setTarget (s : State) (e : Nat) : State :=
  let changed := e != s.spn.tgt
  let s := s.setSpn { s.spn with tgt := e }
  let s := if changed then s.tierOut else s
  s.retarget e

/-- A write of SPN_TGT. During a hold the effective target does not change (R98); before step 8 the value waits (R40). -/
def State.spnTarget (s : State) (v : Nat) : State :=
  let s := s.wr .SPN_TGT_TGT v
  let e := s.effTarget v
  if !s.up 8 then s
  else
    let s := if (e : Int) = signedN 16 v then s else (s.wr .SPN_STAT_CLAMPED 1).raise 173 [(2, v), (2, e)]
    if s.bit .SPN_HOLD_ACTIVE then s else s.setTarget e

/-! ### The cogging table (R85) -/

def cogAddr (k : Nat) : Nat := sceBase 4 + 0x1200 + 2 * k
def State.cog (s : State) (k : Nat) : Int := signedN 16 (s.mrd 2 (cogAddr k))
/-- The entry's magnitude exceeds a quarter of the motoring current limit. -/
def State.cogBad (s : State) (k : Nat) : Bool := decide (5 * s.rd .SPN_ILIM_ILIM < (s.cog k).natAbs)

/-- The table is checked over some entries; a bad one turns COGEN off. -/
def State.cogCheck (s : State) (ks : List Nat) : State :=
  match ks.find? s.cogBad with
  | some k => (s.wr .SPN_CTL_COGEN 0).raise 163 [(1, k)]
  | none => s

/-- A word of the table is stored; while COGEN is 1 its entries are checked. -/
def State.cogStore (s : State) (w v : Nat) : State :=
  let s := s.mwr 4 (cogAddr (2 * w)) v
  if s.bit .SPN_CTL_COGEN then s.cogCheck [2 * w, 2 * w + 1] else s

/-! ### Commutation (R81, Table 4-1) -/

/-- High and low phase of a step of Table 4-1: 0 U, 1 V, 2 W. -/
def commPhases (k : Nat) : Nat × Nat :=
  if k = 1 then (0, 1) else if k = 2 then (0, 2) else if k = 3 then (1, 2) else if k = 4 then (1, 0)
  else if k = 5 then (2, 0) else (2, 1)

/-- Step in which the crossing at 60 degrees times angle is expected: at angle 0 phase U rises, in step 6 (R85). -/
def crossingStep (angle : Nat) : Nat := if angle = 0 then 6 else angle

/-- The next step begins 30 degrees electrical after the crossing that the step in force expects, less the advance; an
interval is 60 degrees. The steps ascend: a crossing of another phase begins none. With no step known the first crossing
gives it. -/
def State.commutate (s : State) (interval angle : Nat) : State :=
  let k := angle + 1
  if s.spn.comm ≠ 0 ∧ s.spn.comm ≠ crossingStep angle then s
  else (s.setSpn { s.spn with comm := k }).emit
    (.commutate k (commPhases k).1 (commPhases k).2 ((interval : Rat) * (30 - (s.rd .SPN_CTL_ADV : Rat)) / 60))

/-! ### The speed loop -/

/-- Measured speed in rpm from the last crossing intervals (R82); before six have been seen, from those there are. -/
def speedOf (ivals : List Nat) : Rat :=
  let sum : Nat := ivals.foldl (· + ·) 0
  if sum = 0 then 0 else (500000000 * ivals.length : Nat) / (6 * sum : Nat)

/-- A speed in the steps of SPN_MEAS.SPEED. -/
def quarterRpm (x : Rat) : Nat := (max 0 (min 65535 (roundQ (4 * x)))).toNat

/-- Arms whose heads are loaded, as bits. -/
def State.armsLoaded (s : State) : Nat :=
  b2n (s.armLoaded 0) + 2 * b2n (s.armLoaded 1) + 4 * b2n (s.armLoaded 2) + 8 * b2n (s.armLoaded 3)

/-- One step of the ramp limiter over dt seconds (R87, R89), before the hold of R88. When the measured speed runs away from
the ramp, the bound of 100 rpm moves the ramp faster than ACC or DEC: the spec does not say which bound wins (log
entry 99). -/
def State.rampStep (s : State) (dt meas : Rat) : Rat :=
  let r := s.spn.ramp
  let goal : Rat := if s.spn.tgt = 0 then min r 300 else (s.spn.tgt : Nat)
  let dec : Rat := (s.rd .SPN_RAMP_DEC : Nat) / (if s.bit .SPN_STAT_BUSWATCH then 4 else 1)
  let next := if r ≤ goal then min goal (r + (s.rd .SPN_RAMP_ACC : Nat) * dt) else max goal (r - dec * dt)
  clampQ next (meas - 100) (meas + 100)

/-- The hold at HLMIN while heads are loaded (R88): the ramp value, and whether it is held. The hold wins over the bound of
100 rpm of R87 where the two disagree: the spec does not say (log entry 99). -/
def State.rampHold (s : State) (next : Rat) : Rat × Bool :=
  let r := s.spn.ramp
  let floor : Rat := min r (s.rd .SPN_LIM2_HLMIN : Nat)
  if s.armsLoaded ≠ 0 ∧ next < floor then (floor, true) else (next, false)

def Sat.code : Sat → Nat
  | .high => 0
  | .low => 1
  | .clear => 2

/-- The integrator's saturation over a revolution of 36 samples (event 161). -/
def State.satWatch (s : State) : State :=
  let p := s.spn
  let n := if p.sat = .clear then 0 else p.satRun + 1
  let s := s.setSpn { p with satRun := n }
  if n = 36 then s.raise 161 [(1, p.sat.code), (2, s.speed)] else s

/-- A current command within its limits: with a faulty chopper no regenerative current (R83, R95). -/
def State.spnLimit (s : State) (b : Nat) (v : Rat) : Rat :=
  let lo : Rat := if s.bit .SPN_STAT_CHOPFLT then 0 else (s.bankInt 4 b 0x14 : Rat)
  clampQ v lo (min (s.bankInt 4 b 0x10 : Rat) (20 * s.rd .SPN_ILIM_ILIM : Nat))

/-- The cogging term at entry j of the interval that a crossing begins (R85). -/
def State.cogTerm (s : State) (angle j : Nat) : Rat := if s.bit .SPN_CTL_COGEN then (s.cog (16 * angle + j) : Rat) else 0

/-- Commands between this crossing and the next: the angle grows linearly over the last interval, and each of the interval's
16 entries applies from its own angle on (R85). -/
def State.cogPlan (s : State) (b : Nat) (base : Rat) (interval angle : Nat) : List (Nat × Rat × Rat) :=
  if s.bit .SPN_CTL_COGEN then
    (List.range 15).map (fun j =>
      let v := base + s.cogTerm angle (j + 1)
      (interval * (j + 1), v, s.spnLimit b v))
  else []

/-- They are kept with the cycle each is sent at, in sixteenths, and given out. -/
def State.cogCommands (s : State) (b : Nat) (base : Rat) (interval angle : Nat) : State :=
  let l := s.cogPlan b base interval angle
  l.foldl (fun s e => s.emit (.spindleAt ((e.1 : Nat) / 16) e.2.2)) (s.setSpn { s.spn with plan := l })

/-- A command is applied by the power die, or discarded as late (R83, R109). base is the command without the cogging term.
With a faulty chopper the spindle brakes by winding-short bursts (R95). -/
def State.spnSend (s : State) (b : Nat) (base : Rat) (interval angle : Nat) : State :=
  let p := s.spn
  if p.late then s.setSpn { p with late := false }
  else
    let v := base + s.cogTerm angle 0
    let u := s.spnLimit b v
    let s := s.setSpn { p with icmd := u, vApp := v, lateRun := false }
    if s.bit .SPN_STAT_CHOPFLT ∧ p.ramp * 201 / 200 < p.meas then s.emit (.bridge .short 0)
    else (s.emit (.spindle u)).cogCommands b base interval angle

/-- One sample of the speed loop (R83), at a swap sample by R119. One deceleration of event 176 lasts until a sample whose ramp
does not fall; the spec does not say what ends one (log entry 107). -/
def State.spnSample (s : State) (interval angle : Nat) : State :=
  let dt : Rat := (interval : Rat) / 50000000
  let meas := s.spn.meas
  let (ramp, held) := s.rampHold (s.rampStep dt meas)
  let s := if held && !s.bit .SPN_STAT_HLHOLD then s.raise 174 [(1, s.armsLoaded)] else s
  let s := s.wrb .SPN_STAT_HLHOLD held
  let p := s.spn
  let swap := p.swap
  let s := if swap then (s.wr .SCE_BANKSEL_ACTIVE (1 - s.bankNow 4) 4).wr .SCE_BANKSEL_PENDING 0 4 else s
  let b := s.bankNow 4
  let dramp := (ramp - p.ramp) / dt
  let err := ramp - meas
  let terms := s.bankQ 4 b 8 16 * dramp + s.bankQ 4 b 0xC 16 * meas + s.bankQ 4 b 0 16 * err
  let lo : Rat := (s.bankInt 4 b 0x14 : Rat)
  let hi : Rat := (s.bankInt 4 b 0x10 : Rat)
  let (i, sat) := if swap then castleStep p.vApp (terms + s.cogTerm angle 0) lo hi p.sat else satStep p.integ (s.bankQ 4 b 4 16 * err) lo hi p.sat
  let s := s.setSpn { p with ramp := ramp, dramp := dramp, integ := i, sat := sat, swap := false,
                             ov1 := p.ov1 && decide (ramp < p.ramp) }
  (s.satWatch).spnSend b (terms + i) interval angle

/-- The lock band is judged at every crossing (R90). -/
def State.lockWatch (s : State) : State :=
  let p := s.spn
  let d := |p.meas - (p.tgt : Rat)| * 1000
  s.setSpn { p with inRun := if d ≤ (p.tgt : Rat) then p.inRun + 1 else 0,
                    outRun := if 2 * (p.tgt : Rat) < d then p.outRun + 1 else 0 }

/-- SCE[4] takes the spindle over from a speed hold (R99). -/
def State.takeOver (s : State) : State :=
  let q := s.rd .SPN_HOLD_SPD
  let v : Rat := (q : Rat) / 4
  let i : Rat := (s.rd .SPN_HOLD_ICMD : Nat)
  let s := ((s.wr .SPN_HOLD_ACTIVE 0).wr .SPN_STAT_STATE 5).raise 183 [(2, q)]
  let kdrag := s.bankQ 4 (s.bankNow 4) 0xC 16
  (s.setSpn { s.spn with loop := true, take := false, ramp := v, dramp := 0, meas := v, integ := i - kdrag * v, sat := .clear,
                         icmd := i, vApp := i, tgt := s.effTarget (s.rd .SPN_TGT_TGT), inRun := 0, outRun := 0 }).emit (.spindle i)

end Sys2Proof.Machine
end

