-- ==== Sys2Proof/Machine/Ageing.lean ====
section
/-! DEFINITION. Machine/Ageing.lean: fault classes (R385, R386), temperature (R388, R414), core voltage (R389, R390)
and the always-on clock (R412). -/

namespace Sys2Proof.Machine

def State.setCounts (s : State) (l : List AgeCount) : State := { s with ev := { s.ev with counts := l } }

/-! ### Tiers of the spindle (R284) -/

/-- Highest tier a power state permits (Table 10-12). -/
def psTop (n : Nat) : Nat := if n = 0 then 7200 else if n = 1 then 5400 else if n ≤ 3 then 3600 else 0

def State.psNow (s : State) : Nat := s.rd .HIF_PWR_PSNOW
/-- Spindle limit the thermal levels and lasting faults leave the governor. -/
def State.tierLimit (s : State) : Nat :=
  min s.hif.limit (if NSet.has 2 s.age.levels then 3600 else if NSet.has 1 s.age.levels then 5400 else 7200)

/-- GOV of feature C0h (R288). -/
def State.gov (s : State) : Bool := (s.feat 0 0xC0).testBit 0

/-- Highest tier in force: the state's, the thermal levels' and the lasting faults' limits (R284, R386, R388). -/
def State.topTier (s : State) (ps : Nat) : Nat := min (psTop ps) s.tierLimit

/-- Tier that firmware keeps in a state: under the governor the present one where permitted, otherwise the highest. -/
def State.keepTier (s : State) (ps : Nat) : Nat :=
  let top := s.topTier ps
  if s.gov ∧ s.spn.tgt ≠ 0 ∧ 3600 ≤ s.spn.tgt ∧ s.spn.tgt ≤ top then s.spn.tgt else top

/-- Firmware moves the spindle to a tier. -/
def State.moveTier (s : State) (t : Nat) : State := if s.spn.tgt = t then s else s.spnTarget t

/-- A limit that is set or released takes effect at once: the spindle goes to the tier that firmware then keeps, which event
234 records; the busy fraction of that moment is free (log entry 109). -/
def State.limitTier (s : State) : State :=
  let old := s.spn.tgt
  let new := s.keepTier s.psNow
  if s.up 10 = false ∨ old = 0 ∨ new = old then s
  else
    let (busy, s) := s.draw 7
    (s.moveTier new).raise 234 [(2, old), (2, new), (1, busy)]

/-- FAULT_SUBWINDOW (R385): operating time reaches class k's next sub-window, and the counts of the one that left the
window expire. -/
def execFaultSubwindow (k : Fin 8) (s : State) : Res :=
  let t := (s.subNow k + 1) * (s.rd .AGE_FCLS_WIN k * 128)
  let s := s.wr .EREC_OPTIME_OPTIME (max t (s.rd .EREC_OPTIME_OPTIME))
  .next (s.setCounts (s.ev.counts.filter (fun c => c.cls != k.val || decide (s.subNow k < c.sub + 8))))

/-- A head is degraded (R386): its settings are planned anew, SCRUB_DAYS of its arm is halved, and a head degraded within the last
30 days sets critical warning bit 2. -/
def State.degrade (s : State) (h : Nat) : State :=
  let last := NTab.get 0 h s.med.degraded
  let again := last != 0 && decide (s.optime < last - 1 + 30 * dayUnits)
  let s := s.setMed { s.med with halved := NSet.add (h / 6) s.med.halved, degraded := NTab.put 0 h (s.optime + 1) s.med.degraded,
                                 replan := NSet.add h s.med.replan }
  if again then s.warnSet 2 true else s

/-- What becoming lasting does at once (Table 14-6): a degraded head, a servo recalibration that is due, critical warning bit
2, or the governor's limit. -/
def State.lastingAction (s : State) (k i : Nat) : State :=
  if k ≤ 1 then (if i < 24 then s.degrade i else s)
  else if k = 2 then (if i < 4 then s.setMed { s.med with recal := NSet.add i s.med.recal } else s)
  else if k = 4 ∨ k = 5 then s.warnSet 2 true
  else if k = 6 then { s with hif := { s.hif with limit := min s.hif.limit 5400 } }.limitTier else s

/-- FAULT_CLASS_LASTING (R385): the count has reached THR, so the bit latches and event 300 is raised once. -/
def execFaultClassLasting (k : Fin 8) (i : Fin 32) (s : State) : Res :=
  .next (s.on (decide (k.val ≤ 6) && decide (s.rd .AGE_FCLS_THR k ≤ s.ageCnt k i) && !s.rdBit .AGE_FSTAT_LASTING i k)
    (fun s => ((s.wrBit .AGE_FSTAT_LASTING i true k).raise 300 [(1, k), (1, i), (2, min (s.ageCnt k i) 0xFFFF)]).lastingAction k i))

/-- Clears one lasting bit: its count becomes 0 and event 301 is raised. -/
def State.clearLasting (s : State) (k i : Nat) : State :=
  ((s.wrBit .AGE_FSTAT_LASTING i false k).setCounts (s.ev.counts.filter (fun c => c.cls != k || c.inst != i))).raise 301 [(1, k), (1, i)]

/-- AGE_FSTAT_CLEAR (R385). -/
def execAgeFstatClear (k : Fin 8) (v : W32) (s : State) : Res :=
  .next ((List.range 32).foldl (fun s i => if v.toNat.testBit i && s.rdBit .AGE_FSTAT_LASTING i k then s.clearLasting k i else s) s)

/-! ### Core voltage -/

/-- LINEAR16 of a voltage in mV with a signed exponent (R390). The rounding is open. -/
def linear16 (mv : Nat) (e : Int) : Nat :=
  (roundQ (if 0 ≤ e then (mv : Rat) / 1000 / (2 ^ e.toNat : Nat) else (mv : Rat) / 1000 * (2 ^ (-e).toNat : Nat))).toNat

/-- One VOUT_COMMAND to the regulator at ADDR and PAGE; the exponent is read from VOUT_MODE before the first. -/
def State.vout (s : State) (mv : Nat) : State :=
  let s := if s.age.mode then s
    else
      let (x, s) := s.draw 5
      { s.wr .AGE_PMB_EXP x with age := { s.age with mode := true } }
  ((s.wr .AGE_VOUT_VOUT mv).wr .AGE_STAT_BUSY 1).emit
    (.pmbus (s.rd .AGE_PMB_ADDR) (s.rd .AGE_PMB_PAGE) (linear16 mv (signedN 5 (s.rd .AGE_PMB_EXP))))

/-- A monitor's slack, as the core voltage plan sees it (R391). -/
def State.noteSlack (s : State) (slack : Nat) : State :=
  s.setMed { s.med with slackLow := if slack < 8 then s.optime + 1 else s.med.slackLow,
                        slackHigh := if slack ≤ 15 then 0 else if s.med.slackHigh = 0 then s.optime + 1 else s.med.slackHigh }

/-- The voltage in force: that of the last command acknowledged, or, before the first, the regulator's own, which is open
within VMIN to VMAX and stays as first met (R390). -/
def State.voltNow (s : State) : Nat × State :=
  if s.age.volt = 0 then
    let (x, s) := s.draw 12
    let v := max (s.rd .AGE_VLIM_VMIN) (min (s.rd .AGE_VLIM_VMAX) x)
    (v, { s with age := { s.age with volt := v } })
  else (s.age.volt, s)

/-- The planner's core voltage rule (Table 14-9): every 10 s, + 5 mV where a slack was below 8 % in the last 10 s, − 5 mV where
all were above 15 % for an hour; between write runs (R184), and raising event 305 where the voltage changes. -/
def State.voltPlan (s : State) : State :=
  let t := s.optime
  if s.up 10 = false ∨ s.rst.recovery = true ∨ t < s.med.plannedVolt + 10 * 1024 ∨ s.bit .AGE_STAT_BUSY = true ∨
      (List.range 24).any (fun h => s.rdBit .HSE_STAT_GATES 2 h) = true then s
  else
    let low := decide (s.rd .AGE_PDMIN_SLACK < 8) || decide (t ≤ s.med.slackLow - 1 + 10 * 1024)
    let s := s.setMed { s.med with plannedVolt := t }
    let up := s.med.slackLow != 0 && low
    let down := s.med.slackHigh != 0 && decide (s.med.slackHigh - 1 + 3600 * 1024 ≤ t)
    if up || down then
      let (now, s) := s.voltNow
      let v := if up then min (s.rd .AGE_VLIM_VMAX) (now + 5) else max (s.rd .AGE_VLIM_VMIN) (now - 5)
      if v = now then s else (s.vout v).raise 305 [(2, now), (2, v), (1, s.rd .AGE_PDMIN_SLACK)]
    else s

/-- GUARD_VOLTAGE_STEP (R389): monitor mon reports a slack below THR. Before the first command the voltage in force is
the regulator's own, which is open. -/
def execGuardVoltageStep (mon : Fin 64) (slack : Byte) (s : State) : Res :=
  let s := ((s.wr .AGE_PDM_SLACK slack.toNat mon).wr .AGE_PDM_MIN (min slack.toNat (s.rd .AGE_PDM_MIN mon)) mon)
  let s := (s.wr .AGE_PDMIN_SLACK slack.toNat).wr .AGE_PDMIN_MON mon
  .next ((s.noteSlack slack.toNat).on (s.bit .AGE_CTL_GUARDEN && decide (slack.toNat < s.rd .AGE_GUARD_THR) && !s.bit .AGE_STAT_BUSY) (fun s =>
    let hi := s.rd .AGE_VLIM_VMAX
    let (now, s) := s.voltNow
    if hi ≤ now then s.wr .AGE_STAT_ATMAX 1
    else
      let v := min hi (now + s.rd .AGE_GUARD_STEP)
      (s.vout v).raise 304 [(1, mon), (1, slack.toNat), (2, v)]))

/-- AGE_VOUT_WRITE (R390): the nearer limit; ignored while BUSY. -/
def execAgeVoutWrite (v : W32) (s : State) : Res :=
  .next (s.on (!s.bit .AGE_STAT_BUSY) (fun s =>
    s.vout (max (s.rd .AGE_VLIM_VMIN) (min (s.rd .AGE_VLIM_VMAX) (bitsN v.toNat 0 12)))))

/-- PMBUS_COMMAND_DONE (R390): acknowledged, the voltage commanded is in force; if not, the voltage stays as it was. -/
def execPmbusCommandDone (ack : Bool) (s : State) : Res :=
  .next (s.on (s.bit .AGE_STAT_BUSY) (fun s =>
    let s := s.wr .AGE_STAT_BUSY 0
    if ack then { s with age := { s.age with volt := s.rd .AGE_VOUT_VOUT } } else (s.wr .AGE_STAT_PMBERR 1).raise 306 [(2, s.rd .AGE_VOUT_VOUT)]))

/-! ### Temperature -/

/-- Composite temperature, kelvin, rounded down (R388). -/
def State.composite (s : State) : Nat :=
  (max (max (s.rd .AGE_TEMP_TEMP 0) (s.rd .AGE_TEMP_TEMP 1)) (max (s.rd .AGE_TEMP_TEMP 2) (s.rd .AGE_TEMP_TEMP 3))) / 8

/-- Level n of Table 14-8, in kelvin: the over threshold, WCTEMP, CCTEMP. -/
def State.thermalLevel (s : State) (n : Nat) : Nat := if n = 0 then s.feat 0 0x04 0 else if n = 1 then 353 else 363

/-- Applies or releases one level. -/
def State.thermalOne (s : State) (sensor temp n : Nat) : State :=
  let on := NSet.has n s.age.levels
  let t := s.composite
  if !on && decide (s.thermalLevel n ≤ t) then
    let s := { s with age := { s.age with levels := NSet.add n s.age.levels } }
    (if n = 0 then s.warnSet 1 true else s.limitTier).raise 302 [(1, sensor), (2, temp), (1, n)]
  else if on && decide (t + 5 < s.thermalLevel n) then
    let s := { s with age := { s.age with levels := NSet.del n s.age.levels } }
    (if n = 0 then s.warnSet 1 false else s.limitTier).raise 303 [(1, sensor), (2, temp), (1, n)]
  else s

/-- THERMAL_LEVEL_CROSS (R388). Below 100 °C, 373.15 K, the power die's bridges may start again (R414). -/
def execThermalLevelCross (sensor : Fin 4) (temp : BitVec 12) (s : State) : Res :=
  let s := s.wr .AGE_TEMP_TEMP temp.toNat sensor
  let s := if sensor = 1 ∧ temp.toNat ≤ 2985 then { s with pwr := { s.pwr with hotDie := false } } else s
  .next (((s.thermalOne sensor temp.toNat 0).thermalOne sensor temp.toNat 1).thermalOne sensor temp.toNat 2)

/-- AON_FALLBACK (R412). -/
def execAonFallback (s : State) : Res := .next ((s.wr .CLK_STAT_AONFB 1).wr .CLK_STAT_AONLOSS 1)

end Sys2Proof.Machine
end

