-- ==== Sys2Proof/Machine/Channel.lean ====
section
/-! DEFINITION. Machine/Channel.lean: the read/write channels (R159 to R187): the end of a write frame, the sync search, the
decodes, the offline decode, enabling, and rate-following. -/

namespace Sys2Proof.Machine

/-! ### Writing (R181, R184, R201) -/

/-- A condition of R25 has dropped during the frame, or does not hold at its end. -/
def State.writeCut (s : State) (h : Nat) (f : WFrame) : Bool := f.cut || !(s.permitOk h && s.windowOk h)

/-- WRITE_FRAME_END: the frame is on the medium. One cut under R25 counts for nothing and ends the write, with vector PERMIT
unless it has been taken (R141). HL_WG falls behind a frame that none follows (R183). -/
def execWriteFrameEnd (h : Head) (s : State) : Res :=
  .next (match (s.chan h).wf with
    | none => s
    | some f => s.on (s.dataTime h) (fun s =>
        let c := s.chan h
        let cut := s.writeCut h f
        let s := (s.setChan h { c with wf := none }).emit (.medium h (sectorFrame (s.matrix h) f.data))
        let s := if cut then s
          else
            let s := ((s.wrapAdd .CHAN_NWR_COUNT 1 h).wrapAdd .CHAN_WAFRM_COUNT 1 h f.preset).waCount h f.preset
            ((s.setHse h { s.hse h with wrote := (s.hse h).wrote + 1 }).latchOn h latWdone).oceWritten f
        let s := if c.wclose || cut then s.wgEnd h else if c.staged.isEmpty then s.wgFall h else s
        (if cut && !f.told then s.cause h 6 else s).oceServe h))

/-! ### The sync search (R166 to R168) -/

/-- SYNC_MARK_FOUND: 40 hard decisions from bitPos on lie at distance dist from the mark. The first candidate latches SYNC;
at most four are kept, in ascending order. -/
def execSyncMarkFound (h : Head) (bitPos dist : Nat) (s : State) : Res :=
  let c := s.chan h
  .next (match c.rf.getLast? with
    | none => s
    | some f =>
      s.on (c.reading && c.lost.isNone && !f.closed && s.dataTime h && decide (104 ≤ bitPos) && decide (bitPos ≤ 152) &&
          decide (dist ≤ s.rd .CHAN_FRM_MARK_TOL h) && decide (f.cands.length < 4) && f.cands.all (fun x => decide (x < bitPos))) (fun s =>
        let s := s.setChan h { c with rf := c.rf.dropLast ++ [{ f with cands := f.cands ++ [bitPos] }] }
        if f.cands.isEmpty then s.latchOn h latSync else s))

/-- SYNC_WINDOW_CLOSE: with no candidate the frame is sector not found (R168). -/
def execSyncWindowClose (h : Head) (s : State) : Res :=
  let c := s.chan h
  .next (match c.rf.getLast? with
    | none => s
    | some f => s.on (c.reading && c.lost.isNone && !f.closed && s.dataTime h) (fun s =>
        if f.cands.isEmpty then
          let s := (s.setChan h { c with rf := c.rf.dropLast }).latchOn h latNosync
          let s := s.readEnd h 2 0 0 0 (erasureMark 2 0 0 0 f []) f
          s.setChan h { s.chan h with lost := some { f with closed := true } }
        else s.setChan h { c with rf := c.rf.dropLast ++ [{ f with closed := true }] }))

/-! ### Decoding (R169 to R177) -/

/-- Iterations of a converged decode: at least 1, at most its cap. -/
def clampIters (n cap : Nat) : Nat := max 1 (min n cap)

/-- The oldest frame read has left the medium, so a decode of it can end. -/
def Chan.decodes (c : Chan) (f : RFrame) (rest : List RFrame) : Bool :=
  f.closed && !(c.reading && c.lost.isNone && rest.isEmpty)

/-- A frame fails with cause DECODE or BUDGET (R171, R175). -/
def State.decodeFails (s : State) (h code unsat : Nat) (f : RFrame) (rest : List RFrame) : State :=
  (s.setChan h { s.chan h with rf := rest }).readEnd h code f.decodes f.iters unsat
    (erasureMark code f.decodes f.iters unsat f []) f

/-- DECODE_DONE: the decode at the frame's present candidate ends. One that fails has reached its cap; where that is what
the frame's budget leaves below ITER_MAX, the frame ends with cause BUDGET (R171). -/
def execDecodeDone (h : Head) (d : Decode) (s : State) : Res :=
  let c := s.chan h
  .next (match c.rf with
    | [] => s
    | f :: rest => s.on (c.decodes f rest) (fun s =>
        let most := s.rd .CHAN_FRM_ITER_MAX h
        let cap := min most (32 - f.iters)
        let used := if d.conv then clampIters d.iters cap else cap
        let short := decide (32 - f.iters < most)
        let (f, s) := s.frameSnr h { f with decodes := f.decodes + 1, iters := f.iters + used } d.snr.toNat
        let c := s.chan h
        if d.conv then
          let s := s.ithNote h used
          let (code, data, par) := s.converged h f f.xqi f.xns (if f.decodes = 1 then 0 else 1) f.decodes f.iters d
          let c := { s.chan h with rf := rest }
          let s := s.setChan h (if par then c.parity f else c)
          s.readEnd h code f.decodes f.iters 0 data f
        else if short then s.decodeFails h 4 d.unsat f rest
        else if s.bit .CHAN_CTL_GEN h && f.gambit && decide (f.decodes ≤ s.rd .CHAN_FRM_GMAX h) &&
            decide (f.decodes < f.cands.length) && decide (f.iters < 32) then
          s.setChan h { c with rf := f :: rest }
        else s.decodeFails h 3 d.unsat f rest))

/-- DECODE_BUDGET_EXPIRE (R171): the running decode may take all that is left of the frame's 32 iterations. -/
def execDecodeBudgetExpire (h : Head) (unsat : Nat) (snr : W16) (s : State) : Res :=
  let c := s.chan h
  .next (match c.rf with
    | [] => s
    | f :: rest => s.on (c.decodes f rest && decide (32 - f.iters ≤ s.rd .CHAN_FRM_ITER_MAX h)) (fun s =>
        let (f, s) := s.frameSnr h { f with decodes := f.decodes + 1, iters := 32 } snr.toNat
        s.decodeFails h 4 unsat f rest))

/-! ### The offline decode (R179) -/

/-- An offset in two's complement of 6 bits, kept within ±24. -/
def clampOfs (v : Nat) : Nat :=
  let x := signedN 6 v
  wrapN 6 (max (-24) (min 24 x))

/-- CHAN_RDEC_GO: the write sets OFS, ITER and REDET, and GO starts the decode of the retained slot. -/
def execChanRdecGo (h : Head) (v : W32) (s : State) : Res :=
  .next (s.on (s.up 5 && s.hears (selChan h)) (fun s =>
    let w := v.toNat
    let s := (s.wr .CHAN_RDEC_OFS (clampOfs (bitsN w 0 6)) h).wr .CHAN_RDEC_ITER (max 1 (bitsN w 8 8)) h
    let s := s.wr .CHAN_RDEC_REDET (bitsN w 16 1) h
    if w.testBit 17 ∧ s.up 9 then
      if s.rgOpen h || !s.bit .CHAN_STAT_SBVALID h then s.wr .CHAN_STAT_RDREF 1 h else s.wr .CHAN_STAT_RDBUSY 1 h
    else s))

/-- REDET has run the detector again over the stored samples: the slot's LLRs are new (R179). -/
def State.redetect (s : State) (h : Nat) : State :=
  if s.bit .CHAN_RDEC_REDET h then
    let (b, s) := s.drawMany slotBits
    s.setChan h { s.chan h with kept := (s.chan h).kept.map (fun f => { f with llr := b }) }
  else s

/-- OFFLINE_DECODE_DONE: the result replaces the channel's last result, under the last expectation in force. A tag that
fails its checks raises event 6h + 3 (R20). The frame's estimate is the one of its pass; without one as yet, where its mark
was found, the command's. -/
def execOfflineDecodeDone (h : Head) (d : Decode) (s : State) : Res :=
  .next (match (s.chan h).kept with
    | none => s
    | some f => s.on (s.bit .CHAN_STAT_RDBUSY h) (fun s =>
        let f := if f.cands.isEmpty then f else { f with snr := some (f.snr.getD d.snr.toNat) }
        let cap := s.rd .CHAN_RDEC_ITER h
        let used := if d.conv then clampIters d.iters cap else cap
        let s := (s.wr .CHAN_STAT_RDBUSY 0 h).redetect h
        let c := s.chan h
        if d.conv then
          let (code, data, _) := s.converged h f c.xqi c.xns 0 1 used d
          let s := (s.ithNote h used).setResult h code 1 used 0 data
          if code = 0 then s else s.frameFailed h code 1 used 0 f
        else s.setResult h 3 1 used d.unsat (erasureMark 3 1 used d.unsat f [])))

/-! ### Enabling (R174) and statistics -/

/-- CHAN_ENABLE: the base matrix check starts; before step 9 the value waits (R40). -/
def execChanEnable (h : Head) (s : State) : Res :=
  .next (s.on (s.up 5 && s.hears (selChan h)) (fun s => if s.up 9 then s.setChan h { s.chan h with check := true } else s.wr .CHAN_CTL_EN 1 h))

/-- BASE_MATRIX_CHECK_DONE. -/
def execBaseMatrixCheckDone (h : Head) (s : State) : Res :=
  .next (s.on (s.chan h).check (fun s =>
    let s := s.setChan h { s.chan h with check := false }
    if matrixGood (s.matrixRaw h) then
      ((s.wr .CHAN_CTL_EN 1 h).wr .CHAN_STAT_ENA 1 h).wr .CHAN_STAT_HBAD 0 h
    else
      (((s.wr .CHAN_CTL_EN 0 h).wr .CHAN_STAT_ENA 0 h).wr .CHAN_STAT_HBAD 1 h).raise (6 * h + 5) [(1, 2)]))

/-- CLRSTAT (R194). -/
def execClrstat (h : Head) (s : State) : Res :=
  .next (s.on (s.up 9 && s.hears (selChan h)) (fun s =>
    let s := ((s.wr .CHAN_NFRM_COUNT 0 h).wr .CHAN_NGAMB_COUNT 0 h).wr .CHAN_NNOSYNC_COUNT 0 h
    let s := ((s.wr .CHAN_NDEC_COUNT 0 h).wr .CHAN_NTAG_COUNT 0 h).wr .CHAN_NWR_COUNT 0 h
    let s := (List.range 8).foldl (fun s b => s.wr .CHAN_ITH_COUNT 0 h b) s
    (List.range 4).foldl (fun s p => s.wr .CHAN_WAFRM_COUNT 0 h p) s))

/-! ### Rate-following (R90, R157, R186, R187) -/

/-- Both gates close at the end of their frames in progress, and the engine takes vector RATE (R141). -/
def State.rateLeave (s : State) (h : Nat) : State := ((s.wgClose h).rgClose h).cause h 7

/-- ZRATE_WRITE (R187): the field takes the value; with a gate open it takes effect at the end of the frame in
progress. -/
def execZrateWrite (h : Head) (v : W16) (s : State) : Res :=
  .next (s.on (s.up 5 && s.hears (selChan h)) (fun s =>
    let s := s.wr .CHAN_RATE_ZRATE v.toNat h
    if !s.up 9 then s
    else if s.wgOpen h || s.rgOpen h then (s.setChan h { s.chan h with zrate := true }).rateLeave h
    else s.zrateSet h))

/-- One head receives TIER_LEAVE: its engine goes to the fabric clock. -/
def State.tierLeave1 (s : State) (h : Nat) : State :=
  let s := s.rateLeave h
  s.setChan h { s.chan h with fabric := true }

/-- TIER_LEAVE (R90, R157): the notice reaches every engine and channel. -/
def execTierLeave (s : State) : Res :=
  .next (s.on (s.up 9 && s.spn.leave) (fun s =>
    (List.range 24).foldl State.tierLeave1 (s.setSpn { s.spn with leave := false })))

/-- TIER_READY (R90, R91): the channels start for RATIO. -/
def execTierReady (s : State) : Res :=
  .next (s.on (s.up 9 && s.spn.ready && !s.spn.leave) (fun s =>
    (List.range 24).foldl State.relock (s.setSpn { s.spn with ready := false })))

/-- SYNTH_RELOCK_DONE (R157, R187): gates wait for wedge timing. -/
def execSynthRelockDone (h : Head) (s : State) : Res :=
  .next (s.on (s.up 9 && !s.bit .CHAN_STAT_LOCKED h && !s.bit .CHAN_STAT_RLIM h && (s.chan h).fabric) (fun s =>
    let r := s.rd .CHAN_RATE_ZRATE h * s.rd .SPN_RATIO_RATIO / 16384
    ((s.wr .CHAN_STAT_LOCKED 1 h).wr .CHAN_BITRATE_RATE r h).setChan h { s.chan h with fabric := false }))

/-- NOLOCK (R187): the synthesiser keeps trying. -/
def execNolock (h : Head) (s : State) : Res :=
  .next (s.on (s.up 9 && !s.bit .CHAN_STAT_LOCKED h && !s.bit .CHAN_STAT_RLIM h && (s.chan h).fabric) (fun s =>
    s.raise (6 * h + 5) [(1, 1)]))

end Sys2Proof.Machine
end

