-- ==== Sys2Proof/Machine/FrcOps.lean ====
section
/-! DEFINITION. Machine/FrcOps.lean: units, slots and jobs of the fixed-ratio coder (R305 to R313, R317, R318). -/

namespace Sys2Proof.Machine

def State.lane (s : State) (k : Nat) : Lane := NTab.get {} k s.frc.lanes
def State.setLane (s : State) (k : Nat) (v : Lane) : State :=
  { s with frc := { s.frc with lanes := NTab.put {} k v s.frc.lanes } }
def State.key (s : State) (ns : Nat) : List Byte := NTab.get [] ns s.frc.keys
def State.setKey (s : State) (ns : Nat) (v : List Byte) : State :=
  { s with frc := { s.frc with keys := NTab.put [] ns v s.frc.keys, lost := NSet.del ns s.frc.lost } }

/-- A key record fails to unwrap: firmware treats the namespace's data as lost and keeps it Read Only (R315). -/
def State.loseKey (s : State) (ns : Nat) : State := { s with frc := { s.frc with lost := NSet.add ns s.frc.lost } }

/-- At a start firmware loads a namespace's key from its record in arm 0's system area (R315, log entry 109). -/
def State.loadKey (s : State) (n : Nsp) : State :=
  match keyUnwrap Config.wrapKey (NTab.get [] n.nsidx (s.area 0).keys) with
  | some key => s.setKey n.nsidx key
  | none => s.loseKey n.nsidx

/-- The keys of the encrypted namespaces are loaded. -/
def State.loadKeys (s : State) : State := ((s.hif.nss.filterMap (fun e => e.2)).filter (fun n => n.enc)).foldl State.loadKey s

/-! ### Geometry (Table 11-1, R306) -/

def slotSize (cls : Nat) : Nat := if cls = 2 then 3072 else 2048
def unitSlots (cls : Nat) : Nat := if cls = 2 then 4 else 2
/-- Sectors a unit with j slots used takes. -/
def unitSectors (cls j : Nat) : Nat := if j = 0 then 0 else if cls = 2 then min j 3 else 1

/-! ### Slots (R307 to R310) -/

/-- The slot of a block: header, payload and zeros; none when the code does not fit (R309). -/
def slotOf (cls j lba : Nat) (block : List Byte) : Option (List Byte) :=
  let (payload, dyn) := deflate block
  if slotSize cls - 16 < payload.length then none
  else
    let head := leBytes 4 (crc32c block) ++ leBytes 2 payload.length ++ leBytes 1 (j + 4 * b2n dyn) ++ leBytes 1 0 ++
      leBytes 4 lba ++ leBytes 4 0
    some (head ++ payload ++ List.replicate (slotSize cls - 16 - payload.length) 0)

/-- Checks of R308, R313 on a slot: the block, or which fails (0 payload, 1 OCRC, 2 LBALO). LEN counts bytes the slot
holds. -/
def slotCheck (lba : Nat) (slot : List Byte) : List Byte ⊕ Nat :=
  let len := leNat ((slot.drop 4).take 2)
  if slot.length < 16 + len then .inr 0
  else match inflate ((slot.getD 6 0).toNat.testBit 2) ((slot.drop 16).take len) with
  | none => .inr 0
  | some b =>
    if crc32c b ≠ leNat (slot.take 4) then .inr 1
    else if leNat ((slot.drop 8).take 4) ≠ lba % 2 ^ 32 then .inr 2
    else .inl b

def zeros16 (bs : List Byte) : Bool := (bs.take 16).all (fun b => b == 0)

/-- An output sector of an encode job: payload, LBA of the first block it holds, ESC, and how many blocks it holds. -/
structure OutSector where
  data : List Byte
  lba : Nat
  esc : Bool
  n : Nat
  deriving DecidableEq, Repr

/-- An encode job on its way. -/
structure Enc where
  out : List OutSector := []
  /-- Stored slots of the open unit, and its first LBA. -/
  slots : List (List Byte) := []
  lba : Nat := 0
  nesc : Nat := 0
  nslot : Nat := 0
  /-- LBAs whose self-check failed (R310). -/
  failed : List Nat := []
  deriving DecidableEq, Repr

/-- The sectors of a unit as its slots stand. -/
def unitOut (cls : Nat) (slots : List (List Byte)) (lba : Nat) : List OutSector :=
  let n := unitSectors cls slots.length
  let bytes := (slots.flatten ++ List.replicate (4096 * n) 0).take (4096 * n)
  (List.range n).map (fun t => ⟨(bytes.drop (4096 * t)).take 4096, lba + 4096 * t / slotSize cls, false,
    if cls = 2 then min 2 (slots.length - t) else slots.length⟩)

/-- Closes the open unit, if any. -/
def Enc.close (cls : Nat) (e : Enc) : Enc :=
  if e.slots = [] then e else { e with out := e.out ++ unitOut cls e.slots e.lba, slots := [] }

/-- One block goes into a slot or an escape sector; class 0 stores it whole. useal is the XTS stage. -/
def Enc.block (cls : Nat) (useal : Nat → List Byte → List Byte) (lba : Nat) (b : List Byte) (e : Enc) : Enc :=
  let escape (e : Enc) : Enc :=
    let e := e.close cls
    { e with out := e.out ++ [⟨useal lba b, lba, true, 1⟩], nesc := e.nesc + 1 }
  if cls = 0 then { e with out := e.out ++ [⟨useal lba b, lba, false, 1⟩] }
  else match slotOf cls e.slots.length lba b with
  | none => escape e
  | some slot =>
    if slotCheck lba slot = .inl b then
      let st := useal lba slot
      if zeros16 st then escape e
      else
        let e := { e with slots := e.slots ++ [st], lba := if e.slots = [] then lba else e.lba, nslot := e.nslot + 1 }
        if e.slots.length = unitSlots cls then e.close cls else e
    else escape { e with failed := e.failed ++ [lba] }

/-- Data positions an encode job stands at. -/
def Enc.pos (cls : Nat) (e : Enc) : Nat := e.out.length + unitSectors cls e.slots.length

/-- The blocks of a job in order, until one would pass the budget (R318): the job, and whether it stopped. -/
def Enc.run (cls : Nat) (useal : Nat → List Byte → List Byte) (limit : Nat) : Nat → List (List Byte) → Enc → Enc × Bool
  | _, [], e => (e, false)
  | lba, b :: t, e =>
    let e' := e.block cls useal lba b
    if limit < e'.pos cls then (e, true) else Enc.run cls useal limit (lba + 1) t e'

/-! ### Decoding a run of frames (R307, R313) -/

/-- One block a decode job returns: its bytes, or the check that failed (3 a frame flagged POISON or an erasure mark). -/
abbrev DecBlock := List Byte ⊕ Nat

/-- A frame as the channel delivered it: payload, ESC, and whether it is no good frame. -/
abbrev DecFrame := List Byte × Bool × Bool

def decFrame (u : List Byte × Bool) : DecFrame :=
  (u.1.take 4096, (u.1.getD 4105 0).toNat.testBit 2, u.2 || decide (u.1.length ≠ 4128))

/-- Walks the frames of a compressed zone; base is the sector of the unit the first frame is, j the next slot. Blocks are
returned oldest first, with whether the frames ran out. -/
def walk (cls : Nat) (opn : Nat → List Byte → List Byte) : Nat → Nat → Nat → Nat → Nat → List DecFrame → List DecBlock × Bool
  | 0, _, _, _, _, _ => ([], false)
  | _ + 1, 0, _, _, _, _ => ([], false)
  | f + 1, n + 1, base, j, lba, fs =>
    match fs with
    | [] => ([], true)
    | x :: rest =>
      if j = 0 ∧ x.2.1 = true then
        let r := walk cls opn f n 0 0 (lba + 1) rest
        ((if x.2.2 then .inr 3 else .inl (opn lba x.1)) :: r.1, r.2)
      else if j = 0 ∧ x.2.2 = false ∧ zeros16 x.1 = true then walk cls opn f (n + 1) 0 0 lba rest
      else
        let z := slotSize cls
        if !x.2.2 && zeros16 (x.1.drop (z * j - 4096 * base)) then
          walk cls opn f (n + 1) 0 0 lba (fs.drop (unitSectors cls j - base))
        else
          let need := (z * (j + 1) + 4095) / 4096 - base
          if fs.length < need then ([], true)
          else
            let bytes := ((fs.take need).flatMap (fun y => y.1)).drop (z * j - 4096 * base)
            let b : DecBlock := if (fs.take need).any (fun y => y.2.2) then .inr 3 else slotCheck lba (opn lba (bytes.take z))
            let last := decide (j + 1 = unitSlots cls)
            let nb := z * (j + 1) / 4096
            let r := if last then walk cls opn f n 0 0 (lba + 1) (fs.drop need)
              else walk cls opn f n nb (j + 1) (lba + 1) (fs.drop (nb - base))
            (b :: r.1, r.2)

/-! ### Jobs -/

def State.laneClass (s : State) (k : Nat) : Nat := s.rd .FRC_LCTL_CLASS k
def State.laneBlocks (s : State) (k : Nat) : Nat := s.rd .FRC_LBUD_NBLK k

/-- The XTS stage of a lane, or none. -/
def State.laneXts (s : State) (k : Nat) (enc : Bool) (lba : Nat) (bs : List Byte) : List Byte :=
  if s.bit .FRC_LCTL_ENC k then xts enc (s.key (s.rd .FRC_LCTL_NSIDX k)) lba bs else bs

/-- Blocks of a decode job from the frames taken so far, and whether it needs more. -/
def State.laneDecode (s : State) (k : Nat) : List DecBlock × Bool :=
  let fs := (s.lane k).input.map decFrame
  let n := s.laneBlocks k
  let lba := s.rd .FRC_LLBA_LBA k
  let cls := s.laneClass k
  if cls = 0 then
    ((List.range (min n fs.length)).map (fun i =>
      let x := fs.getD i ([], false, true)
      if x.2.2 then .inr 3 else .inl (s.laneXts k false (lba + i) x.1)), decide (fs.length < n))
  else
    let ph := s.rd .FRC_LCTL_PHASE k
    walk cls (s.laneXts k false) (2 * n + 2 * fs.length + 2) n (slotSize cls * ph / 4096) ph lba fs

/-- The open unit a job continues: the PHASE stored slots at FRC_LUNIT, from the block before the job's first on. -/
def State.laneUnit (s : State) (k : Nat) : Enc :=
  let cls := s.laneClass k
  let ph := if cls = 0 then 0 else s.rd .FRC_LCTL_PHASE k
  let bytes := (List.range (unitSectors cls ph)).flatMap (fun t => s.mbs (s.rd .FRC_LUNIT_ADDR k + 4160 * t) 4096)
  let z := slotSize cls
  { slots := (List.range ph).map (fun j => (bytes.drop (z * j)).take z), lba := s.rd .FRC_LLBA_LBA k - ph }

/-- The encode job over the input taken so far, and whether it has stopped at its budget (R318). -/
def State.laneEncode (s : State) (k : Nat) : Enc × Bool :=
  let cls := s.laneClass k
  let e := s.laneUnit k
  Enc.run cls (s.laneXts k true) (e.pos cls + s.rd .FRC_LBUD_BUDGET k) (s.rd .FRC_LLBA_LBA k)
    (((s.lane k).input.take (s.laneBlocks k)).map (fun u => u.1)) e

/-- The job has all the input it takes. -/
def State.laneFull (s : State) (k : Nat) : Bool :=
  if s.bit .FRC_LCTL_OP k then !(s.laneDecode k).2
  else decide (s.laneBlocks k ≤ (s.lane k).input.length) || (s.laneEncode k).2

/-- Input units the job is sure to take beyond those it has. A compressed decode takes at least those that the slots of its blocks
fill, less the one that begins in a frame it has. -/
def State.laneWant (s : State) (k : Nat) : Nat :=
  if s.laneFull k then 0
  else if s.bit .FRC_LCTL_OP k && s.laneClass k != 0 then
    max 1 ((slotSize (s.laneClass k) * (s.laneBlocks k - (s.laneDecode k).1.length - 1) + 4095) / 4096)
  else s.laneBlocks k - (s.lane k).input.length

/-- Requests of the lane raised or pending. -/
def State.laneOut (s : State) (k : Nat) : Nat := NTab.get 0 (48 + k) s.dma.raised + s.rd .DMA_LPEND_COUNT (48 + k)

/-- Raises requests on the lane's line while its two-entry input buffer has room and its job has input to take (R317). The
coder takes each unit out of the buffer as it comes, so room is left by the requests not yet served alone. -/
def State.laneAsk (s : State) (k : Nat) : State :=
  let n := min 2 (s.laneWant k) - s.laneOut k
  if s.rd .FRC_LSTAT_STATE k = 1 && s.bit .FRC_CTL_EN && n != 0 then
    { s with dma := { s.dma with raised := NTab.put 0 (48 + k) (NTab.get 0 (48 + k) s.dma.raised + n) s.dma.raised } }
  else s

/-- FRC_CTL.EN becomes 1: running lanes raise the requests they held back (R317). -/
def State.lanesAsk (s : State) : State := (List.range 8).foldl State.laneAsk s

/-- The lane takes an input unit. -/
def State.laneTake (s : State) (k : Nat) (bs : List Byte) (p : Bool) : State :=
  if s.rd .FRC_LSTAT_STATE k = 1 then
    s.setLane k { s.lane k with input := (s.lane k).input ++ [(bs, p)] }
  else s

end Sys2Proof.Machine
end

