-- ==== Sys2Proof/Machine/Dma.lean ====
section
/-! DEFINITION. Machine/Dma.lean: the DMA engine (R232 to R240, R245): request lines, descriptors, bursts and the ends of
chains. -/

namespace Sys2Proof.Machine

def State.dch (s : State) (c : Nat) : Dch := NTab.get {} c s.dma.ch
def State.setDch (s : State) (c : Nat) (v : Dch) : State := { s with dma := { s.dma with ch := NTab.put {} c v s.dma.ch } }

/-! ### CTL bits (Table 9-5) -/

def Dch.pace (d : Dch) : Bool := d.ctl.testBit 0
def Dch.irqh (d : Dch) : Bool := d.ctl.testBit 1
def Dch.irqf (d : Dch) : Bool := d.ctl.testBit 2
def Dch.cyclic (d : Dch) : Bool := d.ctl.testBit 3
def Dch.guard (d : Dch) : Bool := d.ctl.testBit 4
def Dch.advance (d : Dch) : Nat := if d.stride = 0 then d.blen else d.stride

/-! ### Errors (R239, Table 9-6) -/

/-- A channel serving a media line has halted with an error: its head takes vector DMA. -/
def State.lineTrap (s : State) (line : Nat) : State := if line < 48 then s.dmaTrap (line % 24) 0 else s

/-- A channel halts with an error. -/
def State.dmaHalt (s : State) (c err : Nat) : State :=
  let s := (((s.wr .DMA_CHSTAT_STATE 3 c).wr .DMA_CHSTAT_ERR err c).wr .DMA_CHCTL_EN 0 c).wr .DMA_CHSTAT_GUARDW 0 c
  (s.setDch c { s.dch c with fetch := false, stop := false }).lineTrap (s.rd .DMA_CHCTL_LINE c)

/-- BUSERR at an address: an error answer, or no answer. -/
def State.busHalt (s : State) (c addr : Nat) (timeout : Bool) : State :=
  (s.dmaHalt c 2).raise 256 [(1, c), (8, addr), (1, b2n (!timeout))]

/-- An error answer to an access of n bytes; one outside the data space is reported by the BUF too (R223). -/
def State.busErr (s : State) (c addr n kind : Nat) : State := (s.spaceError addr n kind).busHalt c addr false

/-- A tag no block accepts (R14). -/
def tagBad (t : Nat) : Bool := decide (12 ≤ tagKind t) || (decide (24 ≤ bitsN t 34 5) && decide (bitsN t 34 5 ≤ 30))

/-- The receiver drops a transaction with such a tag, and the channel halts (R14). The spec numbers no blocks, so the issuing
block in event 254 is free. -/
def State.malformed (s : State) (c addr tag : Nat) : State :=
  let (b, s) := s.draw 8
  (s.raise 254 [(1, b), (1, tagKind tag), (1, bitsN tag 34 5)]).busHalt c addr false

/-- A source the buffer returns flagged POISON without a line marked: one of its lines failed its check now (R221). -/
def State.sourceFailed (s : State) (a n tag : Nat) (ans : Answer) : State :=
  if ans = .poison ∧ inBuf a n ∧ s.poisoned a n = false then
    let (x, s) := s.draw 32
    s.lineFailed (a / 64 + x % (linesOf a n).length) (tagKind tag) (bitsN tag 17 9)
  else s

/-! ### Memory requests (R14, R220 to R223, R227) -/

/-- The first line of a range that is not covered whole. -/
def partLine (a n : Nat) : Option Nat := (linesOf a n).find? (fun k => !coversLine a n k)

/-- A DMA channel whose request was answered with an error halts. -/
def State.requestFails (s : State) (q : BufReq) : State :=
  match q.chan with
  | some c => if s.rd .DMA_CHSTAT_STATE c = 1 then s.busHalt c q.addr false else s
  | none => s

/-- BUFFER_ACCESS: the check result stands for the first line a read touches, or the first line a write touches in part; a
write of whole lines reads none (R222). -/
def execBufferAccess (q : BufReq) (s : State) : Res :=
  let kind := q.kind.toNat
  let head := q.head.toNat
  let n := if q.write then q.data.length else q.len
  .next (
    if 12 ≤ kind ∨ (24 ≤ head ∧ head ≤ 30) then (s.raise 254 [(1, q.block.toNat), (1, kind), (1, head)]).requestFails q
    else if bufLo ≤ q.addr ∧ bufHi < q.addr + n ∧ q.addr < bufEnd then (s.spaceError q.addr n kind).requestFails q
    else if inBuf q.addr n = false then s
    else if q.write then
      let s := match partLine q.addr n with
        | some k => s.lineRead k kind q.func.toNat q.ecc
        | none => s
      s.busWrite q.addr q.data q.poison
    else s.lineRead (q.addr / 64) kind q.func.toNat q.ecc)

/-! ### Requests (R232, R233) -/

/-- A request arrives on a line. -/
def State.lineCount (s : State) (line : Nat) : State :=
  let n := s.rd .DMA_LPEND_COUNT line
  if 255 ≤ n then (s.wr .DMA_LPEND_OVF 1 line).raise 258 [(1, line), (1, 1)] else s.setLpend line (n + 1)

/-- DMA_REQUEST (R233, R202): a request raised on the line arrives. On a media line it brings its frame tag. -/
def execDmaRequest (line : Fin 128) (s : State) : Res :=
  let n := line.val
  let h := n % 24
  let v := s.hse h
  let full := decide (255 ≤ s.rd .DMA_LPEND_COUNT n)
  .next (
    if n < 24 then
      match v.raisedW with
      | [] => s
      | t :: rest =>
        let s := s.setHse h { v with raisedW := rest, wreq := if full then v.wreq else v.wreq ++ [t] }
        (s.lineCount n).oceServe h
    else if n < 48 then
      match v.raisedR with
      | [] => s
      | t :: rest =>
        (s.setHse h { v with raisedR := rest, rreq := if full then v.rreq else v.rreq ++ [t] }).lineCount n
    else
      let k := NTab.get 0 n s.dma.raised
      if k = 0 then s
      else { s with dma := { s.dma with raised := NTab.put 0 n (k - 1) s.dma.raised } }.lineCount n)

/-- DMA_SWREQ (R232): raises one request on a firmware line; a line below 64 is ignored. -/
def execDmaSwreq (line : BitVec 7) (s : State) : Res :=
  .next (s.on (s.up 5 && s.hears selDma && decide (64 ≤ line.toNat)) (fun s =>
    { s with dma := { s.dma with raised := NTab.put 0 line.toNat (NTab.get 0 line.toNat s.dma.raised + 1) s.dma.raised } }))

/-! ### Starting and ending (R232, R238, R240) -/

/-- Another running channel serves the line. -/
def State.lineTaken (s : State) (c line : Nat) : Bool :=
  (List.range 128).any (fun k => k != c && s.rd .DMA_CHSTAT_STATE k == 1 && s.rd .DMA_CHCTL_LINE k == line)

/-- DMA_CHANNEL_ENABLE (R232, R234, R240). -/
def execDmaChannelEnable (c : Fin 128) (s : State) : Res :=
  .next (s.on (s.up 5 && s.hears selDma && s.rd .DMA_CHSTAT_STATE c != 1) (fun s =>
    let line := s.rd .DMA_CHCTL_LINE c
    if s.lineTaken c line then
      (((s.wr .DMA_CHSTAT_STATE 0 c).wr .DMA_CHSTAT_ERR 4 c).lineTrap line).raise 258 [(1, line), (1, 0)]
    else
      let a := s.rd .DMA_CHDESC_ADDR c
      let s := ((s.wr .DMA_CHSTAT_ERR 0 c).wr .DMA_CHSTAT_POISON 0 c).wr .DMA_CHCRC_CRC 0 c
      let s := ((s.wr .DMA_CHDONE_BYTES 0 c).wr .DMA_CHNDESC_COUNT 0 c).wr .DMA_CHBURST_COUNT 0 c
      let s := (s.wr .DMA_CHSTAT_STATE 1 c).wr .DMA_CHCTL_EN 1 c
      let s := s.setDch c { next := a, fetch := true }
      if a % 64 ≠ 0 then (((s.wr .DMA_CHCUR_ADDR a c).dmaHalt c 3).raise 257 [(1, c), (8, a), (1, 7)]) else s))

/-- A chain ends: the CRC is stored and, with STAT, written into the last descriptor used (R238). A write-back that fails
halts the channel instead; its line then holds the descriptor as it was or as it was to be. -/
def State.chainEnd (s : State) (c : Nat) (stop : Bool) (wb : WriteBack) : State :=
  let d := s.dch c
  let crc := Nat.xor d.crc 0xFFFFFFFF
  let used := s.rd .DMA_CHNDESC_COUNT c != 0
  let stat := s.rd .DMA_CHBURST_COUNT c + b2n stop * 2 ^ 24 + b2n d.poison * 2 ^ 25 + 2 ^ 31
  let a := s.rd .DMA_CHCUR_ADDR c
  let back (s : State) : State := s.busWrite (a + 48) (leBytes 4 crc ++ leBytes 4 stat) false
  let s := if used then s.ownAccess none 31 else s
  if used && wb != .ok then
    let (x, s) := s.draw 1
    (if x = 1 then back s else s).busHalt c (a + 48) (wb == .timeout)
  else
  let s := if used then back s else s
  let s := ((s.wr .DMA_CHCRC_CRC crc c).wr .DMA_CHSTAT_STATE 2 c).wr .DMA_CHCTL_EN 0 c
  ((s.wrb .DMA_CHSTAT_END stop c).wr .DMA_CHSTAT_GUARDW 0 c).setDch c { d with fetch := false, stop := false }

/-- DMA_STOP (R238): between bursts the chain ends at once. -/
def execDmaStop (c : Fin 128) (s : State) (wb : WriteBack := .ok) : Res :=
  .next (s.on (s.up 5 && s.hears selDma && s.rd .DMA_CHSTAT_STATE c == 1) (fun s => s.chainEnd c true wb))

/-- DMA_CTL_ENABLE (R240). -/
def execDmaCtlEnable (en : Bool) (s : State) : Res := .next (s.on (s.up 5 && s.hears selDma) (fun s => s.wrb .DMA_CTL_EN en))

/-! ### Descriptors (R234) -/

/-- The rule of R234 a fetched descriptor breaks, by its place in the list, for a channel serving a line. -/
def descBad (d : Dch) (res line : Nat) : Option Nat :=
  [decide (res ≠ 0) || decide (32 ≤ d.ctl),
   d.blen == 0 || decide (2 ^ 24 < d.blen) || d.blen % 4 != 0,
   d.nburst == 0,
   d.src % 4 != 0 || d.dst % 4 != 0 || d.stride % 4 != 0,
   d.next % 64 != 0,
   decide (line < 48) && !d.pace,
   decide (line < 24) && d.blen != 4128].findIdx? (fun b => b)

/-- The guard checks before the next burst (R237). -/
def State.guardNow (s : State) (c : Nat) : State :=
  let d := s.dch c
  let n := s.rd .DMA_CHBURST_COUNT c
  let w := s.rd .DMA_CHSTAT_STATE c == 1 && !d.fetch && d.guard &&
    ((d.again && n == 0 && s.bit .DMA_CHSTAT_IRQF c) || (n == d.nburst / 2 && s.bit .DMA_CHSTAT_IRQH c))
  let s := s.wrb .DMA_CHSTAT_GUARDW w c
  if w then s else s.setDch c { d with told := false }

/-- The tag of a descriptor fetch: KIND 11, no head. The spec gives its other fields no value, so they are free (log 102). -/
def State.fetchTag (s : State) (c : Nat) : State :=
  let (x, s) := s.draw 57
  s.fabric (onFabric (decide (120 ≤ c)) (putField (putField x 34 5 31) 39 4 11))

/-- DESCRIPTOR_FETCH_DONE (R234, R239). -/
def execDescriptorFetchDone (c : Fin 128) (ans : Answer) (s : State) : Res :=
  let d := s.dch c
  let a := d.next
  .next (s.on (s.rd .DMA_CHSTAT_STATE c == 1 && d.fetch && s.bit .DMA_CTL_EN) (fun s =>
    if s.rd .DMA_CHAIN_MAX_MAX ≤ s.rd .DMA_CHNDESC_COUNT c then
      (s.dmaHalt c 1).raise 255 [(1, c), (8, s.rd .DMA_CHCUR_ADDR c)]
    else
      let s := ((s.wr .DMA_CHCUR_ADDR a c).fetchTag c).sourceFailed a 64 (11 * 2 ^ 39) ans
      if ans ≠ .ok ∨ !engineReach a 64 ∨ s.poisoned a 64 then s.busErr c a 64 11
      else
        let s := s.satAdd .DMA_CHNDESC_COUNT 1 c
        let w (n o : Nat) : Nat := s.mrd n (a + o)
        let d := { d with src := w 8 0, dst := w 8 8, next := w 8 16, tag := w 8 24, blen := w 4 32 % 2 ^ 25, nburst := w 4 36 % 2 ^ 24,
                          stride := w 4 40 % 2 ^ 25, ctl := w 4 44, fetch := false, cs := w 8 0, cd := w 8 8, again := false, told := false }
        let res := w 4 32 / 2 ^ 25 + w 4 36 / 2 ^ 24 + w 4 40 / 2 ^ 25 + w 8 56
        match descBad d res (s.rd .DMA_CHCTL_LINE c) with
        | some r => ((s.setDch c d).dmaHalt c 3).raise 257 [(1, c), (8, a), (1, r)]
        | none => ((s.setDch c d).wr .DMA_CHBURST_COUNT 0 c).guardNow c))

/-! ### Bursts (R235 to R239) -/

/-- The count of a burst: interrupts, and the end of the pass, the descriptor or the chain. -/
def State.burstCount (s : State) (c : Nat) (bytes : List Byte) (p : Bool) (wb : WriteBack) : State :=
  let d := s.dch c
  let n := s.rd .DMA_CHBURST_COUNT c + 1
  let s := (s.wr .DMA_CHBURST_COUNT n c).wrapAdd .DMA_CHDONE_BYTES bytes.length c
  let s := if p then s.wr .DMA_CHSTAT_POISON 1 c else s
  let s := if d.irqh && n == d.nburst / 2 then s.wr .DMA_CHSTAT_IRQH 1 c else s
  let s := if d.irqf && n == d.nburst then s.wr .DMA_CHSTAT_IRQF 1 c else s
  let d := { d with crc := crcRun d.crc bytes, poison := d.poison || p, cs := d.cs + d.advance, cd := d.cd + d.advance }
  if n < d.nburst then (s.setDch c d).guardNow c
  else if d.cyclic then
    ((s.setDch c { d with cs := d.src, cd := d.dst, again := true }).wr .DMA_CHBURST_COUNT 0 c).guardNow c
  else if d.next = 0 then (s.setDch c d).chainEnd c false wb
  else s.setDch c { d with fetch := true }

/-- A frame delivered into a channel's staging buffer (R143, R201). -/
def State.stageFrame (s : State) (h tag : Nat) (data : List Byte) (p : Bool) : State :=
  let ctx := match s.oceActive h with
    | some g => if s.rd .GCTX_NDATA g < 64 then some g else none
    | none => none
  let c := s.chan h
  let f : SFrame := ⟨setBitN tag 56 (p || tag.testBit 56), data, p || tag.testBit 56, ctx, none⟩
  s.setChan h { c with staged := c.staged ++ [f] }

/-- A tag put on the fabric by channel c, flagged POISON with its data. -/
def chanTag (c tag : Nat) (p : Bool) : Nat := setBitN (onFabric (decide (120 ≤ c)) tag) 56 (p || tag.testBit 56)

/-- A burst on media write line h (R235). -/
def State.burstWrite (s : State) (c h : Nat) (ans : Answer) (wb : WriteBack) : State :=
  let d := s.dch c
  match (s.hse h).wreq with
  | [] => s
  | t :: rest =>
    if 2 ≤ (s.chan h).staged.length ∨ s.oceHolds h then s
    else if tagBad t then s.malformed c d.cs t
    else if ans = .error ∨ !engineReach d.cs 4128 then s.busErr c d.cs 4128 (tagKind t)
    else
      let p := ans == .poison || s.poisoned d.cs 4128
      let s := s.sourceFailed d.cs 4128 t ans
      let data := s.mbs d.cs 4128
      let s := (s.setHse h { s.hse h with wreq := rest }).setLpend h rest.length
      (((s.stageFrame h (onFabric (decide (120 ≤ c)) t) data p).fabric (chanTag c t p)).burstCount c data p wb).oceServe h

/-- The tag of a media read: an erasure mark is KIND 5 (R178), and else the request's own. -/
def readTag (t : Nat) (res : List Byte) : Nat := if res.length = 64 then putField t 39 4 5 else t

/-- A burst on media read line 24 + h: the channel's last result, whatever its length (R178, R235). -/
def State.burstRead (s : State) (c h : Nat) (ans : Answer) (wb : WriteBack) : State :=
  let d := s.dch c
  let res := (s.chan h).res
  match (s.hse h).rreq with
  | [] => s
  | t :: rest =>
    let t := readTag t res
    let p := ans == .poison
    if res = [] then s
    else if tagBad t then s.malformed c d.cd t
    else if ans = .error ∨ !engineReach d.cd res.length then s.busErr c d.cd res.length (tagKind t)
    else
      let s := (s.setHse h { s.hse h with rreq := rest }).setLpend (24 + h) rest.length
      let s := (s.fabric (chanTag c t p)).busWrite d.cd res p
      let s := if rest.isEmpty && (s.hse h).raisedR.isEmpty then s.latchOn h latDeliv else s
      s.burstCount c res p wb

/-- A burst on an FRC line: one input unit of lane line − 48 (R317). -/
def State.burstLane (s : State) (c line : Nat) (ans : Answer) (wb : WriteBack) : State :=
  let d := s.dch c
  let n := s.rd .DMA_LPEND_COUNT line
  if d.pace && n == 0 then s
  else if tagBad d.tag then s.malformed c d.cs d.tag
  else if ans = .error ∨ !engineReach d.cs d.blen then s.busErr c d.cs d.blen (tagKind d.tag)
  else
    let p := ans == .poison || s.poisoned d.cs d.blen || tagPoison d.tag
    let s := s.sourceFailed d.cs d.blen d.tag ans
    let data := s.mbs d.cs d.blen
    let s := if d.pace then s.setLpend line (n - 1) else s
    (((s.laneTake (line - 48) data p).fabric (chanTag c d.tag p)).burstCount c data p wb).laneAsk (line - 48)

/-- A burst from memory to memory. -/
def State.burstCopy (s : State) (c line : Nat) (ans : Answer) (wb : WriteBack) : State :=
  let d := s.dch c
  let n := s.rd .DMA_LPEND_COUNT line
  if d.pace && n == 0 then s
  else if tagBad d.tag then s.malformed c d.cs d.tag
  else if ans = .error ∨ !engineReach d.cs d.blen then s.busErr c d.cs d.blen (tagKind d.tag)
  else if !engineReach d.cd d.blen then s.busErr c d.cd d.blen (tagKind d.tag)
  else
    let p := ans == .poison || s.poisoned d.cs d.blen || tagPoison d.tag
    let s := s.sourceFailed d.cs d.blen d.tag ans
    let data := s.mbs d.cs d.blen
    let s := if d.pace then s.setLpend line (n - 1) else s
    ((s.fabric (chanTag c d.tag p)).busWrite d.cd data p).burstCount c data p wb

/-- DMA_BURST_DONE (R235 to R239): a burst of a running channel, when its request, its other end and its guards allow
one; wb answers the write-back where it ends the chain (R238). -/
def execDmaBurstDone (c : Fin 128) (ans : Answer) (s : State) (wb : WriteBack := .ok) : Res :=
  let line := s.rd .DMA_CHCTL_LINE c
  .next (s.on (s.rd .DMA_CHSTAT_STATE c == 1 && !(s.dch c).fetch && s.bit .DMA_CTL_EN && !s.bit .DMA_CHSTAT_GUARDW c) (fun s =>
    if line < 24 then s.burstWrite c line ans wb
    else if line < 48 then s.burstRead c (line - 24) ans wb
    else if line < 56 then s.burstLane c line ans wb
    else s.burstCopy c line ans wb))

/-- The channel has a burst to make: its request has come, and its other end can take or give it. -/
def State.burstDue (s : State) (c line : Nat) : Bool :=
  if line < 24 then !(s.hse line).wreq.isEmpty && decide ((s.chan line).staged.length < 2) && !s.oceHolds line
  else if line < 48 then !(s.hse (line - 24)).rreq.isEmpty && (s.chan (line - 24)).res != []
  else !(s.dch c).pace || s.rd .DMA_LPEND_COUNT line != 0

/-- DMA_BUS_TIMEOUT (R239): no answer within 10 µs, to the descriptor fetch or to the burst. A media read line has its
write alone on the bus, and a media write or FRC line its read; in a copy either may be the one that hangs. -/
def execDmaBusTimeout (c : Fin 128) (s : State) : Res :=
  let line := s.rd .DMA_CHCTL_LINE c
  .next (s.on (s.rd .DMA_CHSTAT_STATE c == 1 && s.bit .DMA_CTL_EN) (fun s =>
    let d := s.dch c
    if d.fetch then (s.wr .DMA_CHCUR_ADDR d.next c).busHalt c d.next true
    else if s.bit .DMA_CHSTAT_GUARDW c || !s.burstDue c line then s
    else if line < 24 ∨ (48 ≤ line ∧ line < 56) then s.busHalt c d.cs true
    else if line < 48 then s.busHalt c d.cd true
    else
      let (x, s) := s.draw 1
      s.busHalt c (if x = 0 then d.cs else d.cd) true))

/-- GUARD_WAIT_1MS (R237): once a wait; the half awaited is 0 or 1. -/
def execGuardWait1ms (c : Fin 128) (s : State) : Res :=
  .next (s.on (s.bit .DMA_CHSTAT_GUARDW c && !(s.dch c).told) (fun s =>
    (s.setDch c { s.dch c with told := true }).raise 259 [(1, c), (1, b2n (s.rd .DMA_CHBURST_COUNT c == 0))]))

end Sys2Proof.Machine
end

