-- ==== Sys2Proof/Machine/PsOps.lean ====
section
/-! DEFINITION. Machine/PsOps.lean: power states and tiers (R282 to R288): what firmware does at a request, at an entry and at
an exit. -/

namespace Sys2Proof.Machine

/-- Causes of event 233, in its order. -/
def psHost : Nat := 0
def psApst : Nat := 1
def psTimer : Nat := 2
def psCommand : Nat := 3

def State.psReq (s : State) : Nat := s.rd .HIF_PWR_PSREQ
/-- The state in force becomes ps (event 233). PS3 and PS4 close the open units and unload the heads (R286, R311). -/
def State.psEnter0 (s : State) (ps cause : Nat) : State :=
  let old := s.psNow
  let s := { s with hif := { s.hif with entry := none } }
  let s := s.wr .HIF_PWR_PSNOW ps
  let s := if old = ps then s else s.raise 233 [(1, old), (1, ps), (1, cause)]
  let s := if 3 ≤ ps then
      let s : State := { s with hif := { s.hif with exit := false } }
      let s := (s.closeUnits (fun _ => true)).saveRecords
      (List.range 4).foldl (fun s a => if s.armLoaded a ∧ s.rd .SCE_STAT_STATE a ≠ 6 then s.armUnload a else s) s
    else { s with hif := { s.hif with lastOp := ps, exit := s.hif.exit || decide (3 ≤ old) } }
  s.moveTier (s.keepTier ps)

/-- An admitted command of the physical function's admin queue, not yet completed. -/
def Cmd.admin (c : Cmd) (op : Nat) : Bool :=
  c.func == 0 && c.sqid == 0 && !c.done && c.e.op == op

/-- An admin command that needs the medium is admitted and not completed (R287). -/
def State.mediumWanted (s : State) : Bool :=
  s.hif.cmds.any (fun c => c.admin 0x0D || c.admin 0x14 || c.admin 0x80 || c.admin 0x84)

/-- A state is entered; from PS3 and PS4 an admin command that waits for the medium returns the module at once. -/
def State.psEnter (s : State) (ps cause : Nat) : State :=
  let s := s.psEnter0 ps cause
  if 3 ≤ ps ∧ s.mediumWanted = true then (s.wr .HIF_PWR_PSREQ s.hif.lastOp).psEnter0 s.hif.lastOp psCommand else s

/-- A state is requested (R285): an operational one is entered at once, PS3 and PS4 wait for their conditions. -/
def State.psRequest (s : State) (ps cause : Nat) : State :=
  let s := s.wr .HIF_PWR_PSREQ ps
  if ps ≤ 2 then s.psEnter ps cause
  else { s with hif := { s.hif with entry := some cause } }

/-- A command returns the module from PS3 or PS4 to the last operational state (R287). -/
def State.psWake (s : State) : State := if 3 ≤ s.psNow then s.psRequest s.hif.lastOp psCommand else s

/-- An I/O command of some controller is admitted and not completed. -/
def State.ioBusy (s : State) : Bool := s.hif.cmds.any (fun c => c.sqid != 0 && !c.done)

end Sys2Proof.Machine
end

