-- ==== Sys2Proof/Machine/HifAdmit.lean ====
section
/-! DEFINITION. Machine/HifAdmit.lean: what the host interface decides at admission: which queue may be fetched (R252, R254,
R258, R259, R262), the field checks (R246, R247, R252, R265, R279 to R282), the zone checks (R298, R299), locks
(R261 to R263) and credits (R255). -/

namespace Sys2Proof.Machine

/-- Admin commands of Table 10-1 and which are the physical function's alone. -/
def adminPf : List Nat := [0x0D, 0x10, 0x11, 0x14, 0x15, 0x1C, 0x80, 0x84, 0xC4, 0xC5]
def adminAny : List Nat := [0x00, 0x01, 0x02, 0x04, 0x05, 0x06, 0x08, 0x09, 0x0A, 0x0C, 0x19, 0x1A]
def adminRecovery : List Nat := [0x02, 0x06, 0x10, 0x11]
/-- I/O commands of Table 10-2, and those for conventional or zoned namespaces only. -/
def ioAny : List Nat := [0x00, 0x01, 0x02, 0x05, 0x08, 0x09, 0x0C, 0x79, 0x7A, 0x7D]
def isWrite (op : Nat) : Bool := op == 0x01 || op == 0x08 || op == 0x7D
/-- Commands that carry an LBA range in CDW10 to CDW12. -/
def hasRange (op : Nat) : Bool := isWrite op || op == 0x02 || op == 0x05 || op == 0x0C
/-- Commands that carry data (R428): write-type ones take pool 0 credits, a Read pool 1 credits (R255). -/
def takesPool0 (op : Nat) : Bool := op == 0x01 || op == 0x7D || op == 0x05

/-! ### Namespaces -/

def State.spaces (s : State) : List Nsp := s.hif.nss.filterMap (fun e => e.2)
/-- A delete of the namespace, or a detach of it from a controller, has been admitted (R281). -/
def State.deleting (s : State) (n : Nsp) : Bool := s.hif.cmds.any (fun c => c.admin 0x0D && c.e.sel == 1 && c.e.names n.nsid)
def State.leaving (s : State) (n : Nsp) (f : Nat) : Bool :=
  s.hif.cmds.any (fun c => c.admin 0x15 && c.e.sel == 1 && c.e.nsid.toNat == n.nsid && c.ranges.any (fun r => r.1 == f))

/-- Namespaces a Format NVM acts on, and its checks (R279, Table 11-5). -/
def State.formatSet (s : State) (e : Sqe) : List Nsp := s.spaces.filter (fun n => e.names n.nsid)
def State.formatCheck (s : State) (e : Sqe) : Nat :=
  let ses := bitsN e.cdw10.toNat 9 3
  if e.nsid.toNat ≠ 0xFFFFFFFF ∧ (s.formatSet e).isEmpty then scNamespace
  else if bitsN e.cdw10.toNat 0 9 ≠ 0 ∨ bitsN e.cdw10.toNat 12 2 ≠ 0 then scFormat
  else if ses = 1 ∨ 2 < ses then scField
  else if ses = 2 ∧ !(s.formatSet e).all (fun n => n.enc) then scField
  else 0

/-- The checks of a Sanitize (Table 11-5): action 4 is Crypto Erase. -/
def State.sanitizeCheck (s : State) (e : Sqe) : Nat :=
  if bitsN e.cdw10.toNat 0 3 ≠ 4 ∨ !s.spaces.all (fun n => n.enc) then scField else 0

/-- A Format or Sanitize that acts on the namespace, as the status of a command for it (R282): 0 with none. -/
def State.erasing (s : State) (n : Nsp) : Nat :=
  if s.hif.cmds.any (fun c => c.admin 0x80 && c.e.names n.nsid && s.formatCheck c.e == 0) then scFormatting
  else if s.hif.cmds.any (fun c => c.admin 0x84 && s.sanitizeCheck c.e == 0) then scSanitizing
  else 0

/-- What stands in the way of a controller's command for the namespace (R281, R282): 0, or its status. -/
def State.nsBusy (s : State) (f : Nat) (n : Nsp) : Nat := if s.deleting n || s.leaving n f then scNamespace else s.erasing n

/-- What stands in the way of a command for every one of some namespaces. -/
def State.anyErasing (s : State) (p : Nsp → Bool) : Nat := ((s.spaces.filter p).map s.erasing).foldl max 0

/-- The namespace of an I/O command, attached to its controller and not going (R275, R281). -/
def State.nsFor (s : State) (f nsid : Nat) : Option Nsp :=
  match s.nsOf nsid with
  | some n => if NSet.has f n.funcs && !s.deleting n && !s.leaving n f then some n else none
  | none => none

/-- The namespace of a command at work: a delete or a detach admitted after it does not touch it (R281). -/
def State.nsAt (s : State) (c : Cmd) : Option Nsp := (s.nsOf c.e.nsid.toNat).filter (fun n => NSet.has c.func n.funcs)

/-! ### Zones (R294, R297, R298) -/

/-- Zones of a namespace in a kind of state. -/
def State.zonesIn (s : State) (ns : Nat) (p : ZoneSt → Bool) : Nat :=
  (s.hif.zones.filter (fun e => e.1 / 2 ^ 32 == ns && p e.2.st)).length
def State.activeAll (s : State) : Nat := (s.hif.zones.filter (fun e => isActive e.2.st)).length

/-- A command in flight that touches zone z of its namespace, of size blocks: by the zone assigned to it, by its range, or by
the action it asks for. -/
def Cmd.touches (c : Cmd) (size z : Nat) : Bool :=
  match c.zone with
  | some (y, _, _) => y == z
  | none =>
    if hasRange c.e.op then decide (c.e.slba / size ≤ z) && decide (z ≤ (c.e.slba + c.e.nlb - 1) / size)
    else c.e.op == 0x79 && (c.e.zall || c.e.slba / size == z)

/-- An I/O command of the namespace that touches the zone is admitted and not yet completed. -/
def State.inFlight (s : State) (ns z : Nat) : Bool :=
  let size := match s.ns? ns with | some n => zsze n.cls | none => 65536
  s.hif.cmds.any (fun c => c.sqid != 0 && c.nsidx == some ns && !c.done && c.touches size z)

/-- An implicitly opened zone of the namespace with no command in flight, the least recently written one (R298). -/
def State.oldestImplicit (s : State) (ns : Nat) : Option Nat :=
  let l := s.hif.zones.filter (fun e => e.1 / 2 ^ 32 == ns && e.2.st == .implicit && !s.inFlight ns (e.1 % 2 ^ 32))
  match l with
  | [] => none
  | e :: t => some ((t.foldl (fun (m : Nat × Zone) x => if x.2.stamp < m.2.stamp then x else m) e).1 % 2 ^ 32)

/-- An open of zone z, implicit or explicit: the limits of R298 and the zone closed to make room, or a status. -/
def State.openZone (s : State) (ns z : Nat) (st : ZoneSt) : State ⊕ Nat :=
  let zn := s.zone ns z
  if isOpen zn.st then .inl (if st = .explicit then s.setZone ns z { zn with st := st } else s)
  else if zn.st != .closed && (decide (128 ≤ s.zonesIn ns isActive) || decide (384 ≤ s.activeAll)) then .inr scZoneActive
  else
    let go (s : State) : State := s.setZone ns z { s.zone ns z with st := st }
    if s.zonesIn ns isOpen < 128 then .inl (go s)
    else match s.oldestImplicit ns with
      | some y => .inl (go ((s.setZone ns y { s.zone ns y with st := .closed }).closeUnit ns y))
      | none => .inr scZoneOpen

/-- What a write-type command to a zoned namespace is assigned (R299), or the status it completes with. -/
def State.zoneAssign (s : State) (n : Nsp) (e : Sqe) : (Nat × Nat × Nat) ⊕ Nat :=
  let size := zsze n.cls
  let z := e.slba / size
  let lo := e.slba % size
  let ap := s.zoneAp n.nsidx z
  if e.op = 0x7D ∧ lo ≠ 0 then .inr scField
  else if e.op ≠ 0x7D ∧ lo ≠ ap then .inr scZoneWrite
  else if zcap n.cls < ap + e.nlb then .inr scZoneBoundary
  else match (s.zone n.nsidx z).st with
    | .full => .inr scZoneFull
    | .readOnly => .inr scZoneReadOnly
    | .offline => .inr scZoneOffline
    | _ => .inl (z, ap, e.nlb)

/-! ### Field checks -/

/-- Checks of an admin command before it takes its entry: 0, or its status. -/
def State.adminCheck (s : State) (f : Nat) (e : Sqe) : Nat :=
  let busy : Nat := if e.nsid.toNat = 0xFFFFFFFF then s.anyErasing (fun _ => true)
    else match s.nsOf e.nsid.toNat with
      | some n => s.nsBusy f n
      | none => 0
  if s.rst.recovery && !adminRecovery.contains e.op then scOpcode
  else if adminPf.contains e.op then
    if f ≠ 0 then scOpcode
    else if e.reservedSel then scField
    else if e.forNs then busy else 0
  else if adminAny.contains e.op then (if e.forNs ∧ e.nsid.toNat ≠ 0xFFFFFFFF then busy else 0)
  else scOpcode

/-- Checks of an I/O command for a namespace: 0, or its status. -/
def ioCheck (n : Nsp) (busy : Nat) (e : Sqe) : Nat :=
  let op := e.op
  if !ioAny.contains op then scOpcode
  else if n.zoned && op == 0x09 then scOpcode
  else if !n.zoned && (op == 0x79 || op == 0x7A || op == 0x7D) then scOpcode
  else if busy ≠ 0 then busy
  else if hasRange op && e.dtype != 0 && e.dtype != 0xF then scField
  else if (op == 0x01 || op == 0x02 || op == 0x05 || op == 0x7D || op == 0x0C) && decide (512 < e.nlb) then scField
  else if hasRange op && decide (n.nsze < e.slba + e.nlb) then scLbaRange
  else if op == 0x79 && !(decide (1 ≤ e.zsa) && decide (e.zsa ≤ 5)) then scField
  else 0

/-- The namespace's data is lost with its key, and it is Read Only (R315). -/
def State.keyLost (s : State) (n : Nsp) : Bool := n.enc && NSet.has n.nsidx s.frc.lost

/-- The status of a controller's I/O command for a namespace at its admission; 0 lets it go on. -/
def State.ioStatus (s : State) (f : Nat) (n : Nsp) (e : Sqe) : Nat :=
  let st := ioCheck n (s.nsBusy f n) e
  if st = 0 ∧ s.keyLost n = true ∧ (isWrite e.op || e.op == 0x09 || e.op == 0x79) = true then scWriteProtected else st

/-! ### Locks (R261 to R263) -/

/-- Mode and extent of a command; z is the zone range assigned to it. -/
def lockFor (n : Nsp) (e : Sqe) (z : Option (Nat × Nat × Nat)) (ranges : List (Nat × Nat)) : Option Lock :=
  let mk (ex : Bool) (lo hi : Nat) : Option Lock := some { ex := ex, lo := lo, hi := hi, wide := decide (4 < hi / 256 - lo / 256 + 1) }
  let size := zsze n.cls
  let op := e.op
  if op = 0x02 ∨ op = 0x05 ∨ op = 0x0C then mk false e.slba (e.slba + e.nlb - 1)
  else if isWrite op then match z with
    | some (k, lo, m) => mk true (k * size + lo) (k * size + lo + m - 1)
    | none => mk true e.slba (e.slba + e.nlb - 1)
  else if op = 0x09 then
    let r := ranges.filter (fun x => x.2 != 0)
    match r with
    | [] => none
    | x :: t => mk true (t.foldl (fun a y => min a y.1) x.1) (t.foldl (fun a y => max a (y.1 + y.2 - 1)) (x.1 + x.2 - 1))
  else if op = 0x79 ∧ (e.zsa = 2 ∨ e.zsa = 4) then
    if e.zall then mk true 0 (n.nsze - 1) else mk true (e.slba / size * size) (e.slba / size * size + size - 1)
  else none

def Cmd.holds (c : Cmd) : Bool := match c.lock with | some l => l.held | none => false

/-- Entries of a namespace's wide list. -/
def State.wideCount (s : State) (ns : Nat) : Nat :=
  (s.hif.cmds.filter (fun c => c.nsidx == some ns && c.holds && (match c.lock with | some l => l.wide | none => false))).length

/-- Later command c waits for earlier holder e (Table 10-10). A FUA read is not served by forwarding (R276). -/
def conflict (c e : Cmd) : Bool :=
  match c.lock, e.lock with
  | some l, some k =>
    e.holds && l.held && c.nsidx == e.nsidx && decide (e.aseq < c.aseq) && decide (l.lo ≤ k.hi) && decide (k.lo ≤ l.hi) &&
      (if l.ex then true else k.ex && (!k.fwd || c.e.fua))
  | _, _ => false

def State.blocker (s : State) (c : Cmd) : Option Cmd := s.hif.cmds.find? (fun e => conflict c e)

/-! ### Fetching (R252, R254, R258, R259) -/

/-- Some completion queue can take its oldest waiting completion: under GUARD posting comes before fetching (R242). -/
def State.postable (s : State) : Bool :=
  s.hif.cqs.any (fun e => match e.2, s.waitingFor (e.1 / 65536) (e.1 % 65536) with
    | some k, c :: _ => k.room && c.xfer != .running
    | _, _ => false)

/-- Whether the entry would take a shared tag: an admin queue holds 4 from the reserve. -/
def State.needsShared (s : State) (f q : Nat) : Bool := q != 0 || decide (4 ≤ s.queueHeld f 0)

/-- The queue may be fetched from, the cap of its function and the wide lists apart. -/
def State.fetchable (s : State) (f q : Nat) : Bool :=
  s.up 10 && s.bit .HIF_CTL_FETCHEN && !s.bit .HIF_CTL_PAUSE && s.hif.drain.isNone && (s.ctrl f).rdy &&
  (match s.sq f q with | some k => k.waiting != 0 && k.deleting == 0 | none => false) &&
  decide (s.queueHeld f q < 32) && !(s.bit .BUF_STAT_GUARD && s.postable) && (q == 0 || s.bit .BUF_CTL_PLOCK) &&
  (!s.needsShared f q || decide (s.tagsFree ≠ 0)) &&
  (q == 0 || !decide (s.tagsFree < s.rd .HIF_TAGCFG_LOW) || decide (s.queueHeld f q < s.fairF))

/-! ### The fetch arbiter (R254) -/

/-- The function's cap forbids the queue a further tag (R258). -/
def State.capped (s : State) (f q : Nat) : Bool := s.needsShared f q && decide (s.rd .HIF_FNCAP_TCAP f ≤ s.tagsHeld f)

/-- The queue waits for an entry of a full wide list (R262). -/
def State.wideSkip (s : State) (f q : Nat) : Bool :=
  match s.sq f q with
  | some k => k.wide != 0 && decide (64 ≤ s.wideCount (k.wide - 1))
  | none => false

/-- The queue is not skipped. -/
def State.eligible (s : State) (f q : Nat) : Bool := s.fetchable f q && !s.capped f q && !s.wideSkip f q

/-- A function's eligible queues, lowest first. -/
def State.queuesReady (s : State) (f : Nat) : List Nat :=
  ((s.hif.sqs.filter (fun e => e.1 / 65536 == f)).map (fun e => e.1 % 65536)).filter (s.eligible f)

/-- Class of an I/O queue under CC.AMS: 4 round robin; 0 urgent, 1 high, 2 medium and 3 low priority. -/
def State.classOf (s : State) (f q : Nat) : Nat :=
  if (s.ctrl f).ams then (match s.sq f q with | some k => k.prio | none => 0) else 4

/-- Commands taken from one queue in a burst: 2^AB, and 7 is no limit (NVMe's Arbitration feature, log entry 20). -/
def State.burstMost (s : State) (f : Nat) : Option Nat := if s.feat f 0x01 % 8 = 7 then none else some (2 ^ (s.feat f 0x01 % 8))

/-- The most a weighted class has in its round. -/
def State.classWeight (s : State) (f k : Nat) : Nat := s.feat f 0x01 / 2 ^ (32 - 8 * k) % 256 + 1

/-- Round robin within a class: the queue last served goes on with its burst; otherwise the next one in order comes. -/
def State.nextInClass (s : State) (f k : Nat) (l : List Nat) : Option Nat :=
  let last := NTab.get 0 k (s.ctrl f).last
  let on := match s.burstMost f with | some n => decide (NTab.get 0 k (s.ctrl f).burst < n) | none => true
  if l.contains last && on then some last
  else match l.find? (fun q => decide (last < q)) with
    | some q => some q
    | none => l.head?

/-- The weighted class still has commands in its round. -/
def State.classLeft (s : State) (f k : Nat) : Bool := decide (NTab.get 0 k (s.ctrl f).spent < s.classWeight f k)

/-- A function's turn serves this queue next: its admin queue first, then the urgent class, then the weighted classes that
have commands left in the round, in either order, or any once none has. -/
def State.arbTurn (s : State) (f q : Nat) : Bool :=
  let l := s.queuesReady f
  if q = 0 then l.contains 0
  else if l.contains 0 then false
  else
    let k := s.classOf f q
    let own (j : Nat) : List Nat := l.filter (fun x => s.classOf f x == j)
    s.nextInClass f k (own k) == some q &&
      (k == 4 || k == 0 ||
        ((own 0).isEmpty && (s.classLeft f k || !([1, 2, 3].any (fun j => !(own j).isEmpty && s.classLeft f j)))))

/-- A function has commands left in the arbiter's round. -/
def State.roundLeft (s : State) (f : Nat) : Bool := decide (NTab.get 0 f s.hif.round < max 1 (s.rd .HIF_FNCAP_WEIGHT f))
/-- Functions with a queue to serve. -/
def State.funcsReady (s : State) : List Nat :=
  ((s.hif.sqs.map (fun e => e.1 / 65536)).eraseDups).filter (fun f => !(s.queuesReady f).isEmpty)
def State.newRound (s : State) : Bool := s.funcsReady.all (fun f => !s.roundLeft f)

/-- The arbiter may take the queue's next entry now. The order of functions within a round is open. -/
def State.mayFetch (s : State) (f q : Nat) : Bool := s.eligible f q && s.arbTurn f q && (s.roundLeft f || s.newRound)

/-- What the arbiter remembers of an entry taken. -/
def State.arbTake (s : State) (f q : Nat) : State :=
  let t := if s.roundLeft f then s.hif.round else []
  let s : State := { s with hif := { s.hif with round := NTab.put 0 f (NTab.get 0 f t + 1) t } }
  if q = 0 then s
  else
    let c := s.ctrl f
    let k := s.classOf f q
    let n := if NTab.get 0 k c.last = q then NTab.get 0 k c.burst else 0
    let sp := if s.classLeft f k then c.spent else []
    let sp := if k = 0 ∨ k = 4 then c.spent else NTab.put 0 k (NTab.get 0 k sp + 1) sp
    let n := match s.burstMost f with | some m => if n < m then n else 0 | none => n
    s.setCtrl f { c with last := NTab.put 0 k q c.last, burst := NTab.put 0 k (n + 1) c.burst, spent := sp }

/-! ### Admission -/

/-- The context of R253: the entry as fetched, with two words replaced. -/
def ctxBytes (c : Cmd) : List Byte :=
  let e := c.e
  leBytes 1 e.op ++ leBytes 1 e.flags.toNat ++ leBytes 2 e.cid.toNat ++ leBytes 4 e.nsid.toNat ++ leBytes 4 c.ctx8 ++
    leBytes 4 (c.nsidx.getD 0 + c.aseq % 2 ^ 24 * 256) ++ leBytes 8 e.mptr.toNat ++ leBytes 8 e.dptr0.toNat ++ leBytes 8 e.dptr1.toNat ++
    leBytes 4 e.cdw10.toNat ++ leBytes 4 e.cdw11.toNat ++ leBytes 4 e.cdw12.toNat ++ leBytes 4 e.cdw13.toNat ++
    leBytes 4 e.cdw14.toNat ++ leBytes 4 e.cdw15.toNat

/-- The earliest waiting command of pool k is credited while its need is free (R255). -/
def State.creditOne (s : State) (k : Nat) : State :=
  let waits (c : Cmd) : Bool := c.st == .admitted && (if k = 0 then decide (c.has0 < c.need0) else decide (c.has1 < c.need1))
  let l := s.hif.cmds.filter waits
  match l with
  | [] => s
  | x :: t =>
    let c := t.foldl (fun m y => if y.aseq < m.aseq then y else m) x
    let need := if k = 0 then c.need0 else c.need1
    if s.poolFree k < need then s
    else
      let s := s.takeCredit k need
      let s := s.updCmd c.tag (fun c => { c with has0 := if k = 0 then need else c.has0, has1 := if k = 0 then c.has1 else need,
                                                 st := .credited })
      (s.ctxState c.tag).guardCheck

/-- A submission entry's fetch on the fabric: KIND 7, its function and no head; what the spec does not give is free (R12, log
entry 102). -/
def State.sqeTag (s : State) (f : Nat) : State :=
  let (x, s) := s.draw 39
  s.fabric (frameTag x f (x / 2 ^ 17) 31 7 (x / 2 ^ 25) (setBitN (x / 2 ^ 33) 2 false))

/-- The command takes its tag, context and place in the queue. -/
def State.takeEntry (s : State) (f q : Nat) (e : Sqe) (ranges : List (Nat × Nat)) : Nat × State :=
  let (x, s) := s.draw 17
  let tag := freeTagFrom (s.hif.cmds.map (fun c => c.tag)) 131072 x
  let ns := if q = 0 ∧ e.forNs = false then none else (s.nsOf e.nsid.toNat).map (fun n => n.nsidx)
  let c : Cmd := { tag := tag, func := f, sqid := q, e := e, ord := q != 0 && hasRange e.op && e.dtype == 0xF, nsidx := ns, aseq := s.hif.aseq,
                   ranges := ranges }
  let s := (s.arbTake f q).sqeTag f
  let s := match s.sq f q with
    | some k => s.setSq f q (some { k with head := (k.head + 1) % k.size, wide := 0 })
    | none => s
  let s := { s with hif := { s.hif with aseq := s.hif.aseq + 1, cmds := s.hif.cmds ++ [c] } }
  (tag, (s.setMbs (ctxAddr tag) (ctxBytes c)).fairCheck)

/-- A zone write is accepted: its range, and the implicit open. -/
def State.zoneTake (s : State) (n : Nsp) (tag : Nat) (r : Nat × Nat × Nat) : State ⊕ Nat :=
  match s.openZone n.nsidx r.1 .implicit with
  | .inr st => .inr st
  | .inl s =>
    let zn := s.zone n.nsidx r.1
    let s := s.setZone n.nsidx r.1 { zn with stamp := s.hif.zstamp }
    let s := { s with hif := { s.hif with zstamp := s.hif.zstamp + 1 } }
    .inl (s.updCmd tag (fun c => { c with zone := some r }))

/-- The command enters the lock table and asks for its credits. -/
def State.enterLocks (s : State) (tag : Nat) (l : Option Lock) (n0 n1 : Nat) : State :=
  if (n0 ≠ 0 ∧ s.poolSize 0 < n0) ∨ (n1 ≠ 0 ∧ s.poolSize 1 < n1) then s.failNow tag scInternal
  else
    let s := s.updCmd tag (fun c => { c with lock := l, need0 := n0, need1 := n1, st := if n0 = 0 ∧ n1 = 0 then .credited else .admitted })
    let s := (s.ctxState tag).creditOne (if n1 = 0 then 0 else 1)
    s.guardCheck

/-- An admitted admin command, past its checks. Some return the module from PS3 or PS4 (R287). -/
def State.admitAdmin (s : State) (tag : Nat) (e : Sqe) : State :=
  (if e.op = 0x0D ∨ e.op = 0x14 ∨ e.op = 0x80 ∨ e.op = 0x84 then s.psWake else s).enterLocks tag none 0 0

/-- An admitted I/O command. -/
def State.admitIo (s : State) (tag f : Nat) (e : Sqe) (ranges : List (Nat × Nat)) : State :=
  let s := s.psWake
  if e.op = 0x00 ∧ e.nsid.toNat = 0xFFFFFFFF then
    let st := s.anyErasing (fun n => NSet.has f n.funcs)
    if st ≠ 0 then s.failNow tag st else s.enterLocks tag none 0 0
  else if !ioAny.contains e.op then s.failNow tag scOpcode
  else match s.nsFor f e.nsid.toNat with
    | none => s.failNow tag scNamespace
    | some n =>
      let st := s.ioStatus f n e
      if st ≠ 0 then s.failNow tag st
      else
        let n0 := if takesPool0 e.op then e.nlb else 0
        let n1 := if e.op = 0x02 then e.nlb else 0
        if n.zoned && isWrite e.op then
          match s.zoneAssign n e with
          | .inr st => s.failNow tag st
          | .inl r =>
            if n0 ≠ 0 ∧ s.poolSize 0 < n0 then s.failNow tag scInternal
            else match s.zoneTake n tag r with
              | .inr st => s.failNow tag st
              | .inl s => s.enterLocks tag (lockFor n e (some r) ranges) n0 n1
        else s.enterLocks tag (lockFor n e none ranges) n0 n1

/-- The lock an entry would take, when it passes its checks. -/
def State.lockOf (s : State) (f : Nat) (n : Nsp) (e : Sqe) (ranges : List (Nat × Nat)) : Option Lock :=
  let tooBig (k : Nat) : Bool := e.nlb != 0 && decide (s.poolSize k < e.nlb)
  if s.ioStatus f n e ≠ 0 ∨ (takesPool0 e.op ∧ tooBig 0 = true) ∨ (e.op = 0x02 ∧ tooBig 1 = true) then none
  else if n.zoned && isWrite e.op then
    match s.zoneAssign n e with
    | .inr _ => none
    | .inl r => match s.openZone n.nsidx r.1 .implicit with
      | .inr _ => none
      | .inl _ => lockFor n e (some r) ranges
  else lockFor n e none ranges

/-- The next entry's lock would be the 65th of its namespace's wide list (R262). -/
def State.wideBlocked (s : State) (f q : Nat) (e : Sqe) (ranges : List (Nat × Nat)) : Option Nat :=
  if q = 0 then none
  else match s.nsFor f e.nsid.toNat with
    | some n => match s.lockOf f n e ranges with
      | some l => if l.wide && decide (64 ≤ s.wideCount n.nsidx) then some n.nsidx else none
      | none => none
    | none => none

end Sys2Proof.Machine
end

