-- ==== Sys2Proof/Machine/Hif.lean ====
section
/-! DEFINITION. Machine/Hif.lean: the host interface's own commands: doorbells, admission, offers, completions, locks and
host transfers (R252 to R267, R293, R428). -/

namespace Sys2Proof.Machine

/-! ### Doorbells (R254, R257, R293) -/

/-- Event 240: the doorbell is numbered as its offset counts, 2q for a tail and 2q + 1 for a head. -/
def State.badDoorbell (s : State) (f bell v : Nat) : State := s.raise 240 [(2, f), (2, bell), (2, v)]

/-- SQ_TAIL_DOORBELL -/
def execSqTailDoorbell (f : Func) (q v : W16) (s : State) : Res :=
  .next (s.on (s.up 10 && s.hasFunc f.val) (fun s => match s.sq f.val q.toNat with
    | some k =>
      if v.toNat < k.size then s.setSq f.val q.toNat (some { k with tail := v.toNat })
      else s.badDoorbell f.val (2 * q.toNat) v.toNat
    | none => s.badDoorbell f.val (2 * q.toNat) v.toNat))

/-- The host has consumed the oldest n posted entries of a queue: their tags are free. -/
def State.consumePosted (s : State) (f q : Nat) (k : Cq) (head n : Nat) : State :=
  let gone := k.posted.take n
  let s := s.setCq f q (some { k with head := head, posted := k.posted.drop n })
  (s.setCmds (s.hif.cmds.filter (fun c => !gone.contains c.tag))).fairCheck

/-- CQ_HEAD_DOORBELL -/
def execCqHeadDoorbell (f : Func) (q v : W16) (s : State) : Res :=
  .next (s.on (s.up 10 && s.hasFunc f.val) (fun s => match s.cq f.val q.toNat with
    | some k =>
      let n := (v.toNat + k.size - k.head) % k.size
      if v.toNat < k.size ∧ n ≤ k.posted.length then s.consumePosted f.val q.toNat k v.toNat n
      else s.badDoorbell f.val (2 * q.toNat + 1) v.toNat
    | none => s.badDoorbell f.val (2 * q.toNat + 1) v.toNat))

/-! ### Admission (R252 to R262) -/

/-- The entry is taken, checked and queued for its locks and credits. -/
def State.admitCommand (s : State) (f q : Nat) (e : Sqe) (ranges : List (Nat × Nat)) : State :=
  let t := s.takeEntry f q e ranges
  if q = 0 then
    let st := s.adminCheck f e
    if st = 0 then t.2.admitAdmin t.1 e else t.2.failNow t.1 st
  else t.2.admitIo t.1 f e ranges

/-- The queue is skipped until an entry of the wide list is released, with event 229 (R262). -/
def State.skipWide (s : State) (f q ns : Nat) : State :=
  let s := match s.sq f q with
    | some k => s.setSq f q (some { k with wide := ns + 1 })
    | none => s
  s.raise 229 [(1, ns)]

/-- COMMAND_ADMIT: the arbiter takes the queue's next entry, where it may. ranges is the list a Dataset Management, Attach or Detach command's data holds. -/
def execCommandAdmit (f : Func) (q : W16) (e : Sqe) (ranges : List (Nat × Nat)) (s : State) : Res :=
  .next (s.on (s.fetchable f.val q.toNat) (fun s =>
    if s.capped f.val q.toNat then s.raise 225 [(2, f.val)]
    else s.on (s.mayFetch f.val q.toNat) (fun s => match s.wideBlocked f.val q.toNat e ranges with
      | some ns => s.skipWide f.val q.toNat ns
      | none => s.admitCommand f.val q.toNat e ranges)))

/-- CREDIT_GRANT: pool 1 for reads, pool 0 otherwise. -/
def execCreditGrant (read : Bool) (s : State) : Res :=
  .next (s.on (s.up 10) (fun s => s.creditOne (if read then 1 else 0)))

/-! ### Offers (R256, R263, R266) -/

/-- The ordering rule of R266 lets c start. -/
def State.ordered (s : State) (c : Cmd) : Bool :=
  s.hif.cmds.all (fun e =>
    !(e.func == c.func && e.sqid == c.sqid && decide (e.aseq < c.aseq) && !e.done && (c.ord || e.ord)))

def State.offered (s : State) (c : Cmd) : Bool := c.st == .credited && (s.blocker c).isNone && s.ordered c

/-- What HIF_NEXT reads as for a popped command. -/
def Cmd.nextWord (c : Cmd) : Nat := c.tag + c.func * 2 ^ 17 + c.sqid * 2 ^ 26 + b2n c.ord * 2 ^ 62 + 2 ^ 63

/-- HIF_NEXT_READ: the commands stand in admission order. -/
def execHifNextRead (s : State) : Res :=
  .next (match s.hif.cmds.find? s.offered with
    | some c =>
      let s := s.updCmd c.tag (fun c => { c with st := .started })
      (s.ctxState c.tag).emit (.popped .HIF_NEXT_CMDTAG 0 c.nextWord)
    | none => s.emit (.popped .HIF_NEXT_CMDTAG 0 0))

/-! ### Completions (R257, R264) -/

/-- HIF_CPL_WRITE; this and the other WO fields of the HIF are ignored before its release (R40). -/
def execHifCplWrite (v : W32) (s : State) : Res :=
  let tag := bitsN v.toNat 0 17
  .next (s.on (s.up 10) (fun s => match s.started? tag with
    | some c => s.finishCmd c (bitsN v.toNat 17 15) (s.rd .HIF_CPLDW0_DW0) (s.rd .HIF_CPLDW1_DW1)
    | none => s.wr .HIF_STAT_CPLERR 1))

/-- COMPLETION_POST -/
def execCompletionPost (f : Func) (q : W16) (s : State) : Res := .next (s.postOne f.val q.toNat)

/-- LREL_FWD: Write Zeroes, Deallocate and zone actions are never forwarded. -/
def execLrelFwd (tag : Tag) (s : State) : Res :=
  .next (s.on (s.up 10) (fun s => match s.started? tag.toNat with
    | some c => match c.lock with
      | some l =>
        if l.ex ∧ l.held ∧ c.sqid ≠ 0 ∧ (c.e.op = 0x01 ∨ c.e.op = 0x7D) then
          s.updCmd tag.toNat (fun c => { c with lock := some { l with fwd := true } })
        else s.wr .HIF_STAT_LRERR 1
      | none => s.wr .HIF_STAT_LRERR 1
    | none => s.wr .HIF_STAT_LRERR 1))

/-- LREL_REL -/
def execLrelRel (tag : Tag) (s : State) : Res :=
  .next (s.on (s.up 10) (fun s => match s.started? tag.toNat with
    | some c => match c.lock with
      | some l =>
        if l.ex then s.wr .HIF_STAT_LRERR 1
        else s.updCmd tag.toNat (fun c => { c with lock := some { l with held := false } })
      | none => s.wr .HIF_STAT_LRERR 1
    | none => s.wr .HIF_STAT_LRERR 1))

/-! ### Host transfers (R15, R428) -/

/-- The command carries data between the host and the buffer. -/
def Cmd.hasData (c : Cmd) : Bool := c.sqid != 0 && (takesPool0 c.e.op || c.e.op == 0x02)

/-- The HIF reaches its own context RAM beside what the other engines reach (R427). -/
def hifReach (a n : Nat) : Bool := engineReach a n || (decide (ctxLo ≤ a) && decide (a + n ≤ ctxLo + 0x800000))

/-- HIF_XFER_WRITE: the block list is taken from HIF_XLIST. -/
def execHifXferWrite (tag : Tag) (s : State) : Res :=
  .next (s.on (s.up 10) (fun s => match s.started? tag.toNat with
    | some c =>
      if c.hasData ∧ c.xfer = .idle then
        let base := s.rd .HIF_XLIST_ADDR
        let n := c.e.nlb
        let l := if hifReach base (8 * n) then (List.range n).map (fun k => s.mrd 8 (base + 8 * k)) else []
        let s := s.spaceError base (8 * n) (if c.e.op = 0x02 then 1 else 0)
        s.updCmd tag.toNat (fun c => { c with xfer := .running, xlist := l })
      else s.wr .HIF_STAT_XERR 1
    | none => s.wr .HIF_STAT_XERR 1))

/-- Blocks of a list that hold no poisoned line, up to the first that does; and its place in the list. -/
def State.goodBlocks (s : State) : List Nat → Nat → List Byte × Option Nat
  | [], _ => ([], none)
  | a :: t, k => if s.poisoned a 4096 then ([], some k) else
    let r := s.goodBlocks t (k + 1)
    (s.mbs a 4096 ++ r.1, r.2)

/-- Host data lands in the listed blocks. -/
def State.storeBlocks (s : State) (data : List Byte) : List Nat → State
  | [] => s
  | a :: t => (s.busWrite a (data.take 4096) false).storeBlocks (data.drop 4096) t

/-- Pool 1 credits of a Read go back. -/
def State.returnPool1 (s : State) (c : Cmd) : State :=
  if c.has1 = 0 then s else (s.giveCredit 1 c.has1).updCmd c.tag (fun c => { c with has1 := 0, need1 := 0 })

/-- A transfer can end: a shaped function's only once every segment has started (R228). -/
def State.allMoved (s : State) (c : Cmd) : Bool := s.rd .BUF_SHAPE_RATE c.func == 0 || c.moved == c.bytes

/-- The transfers of a command's blocks on the fabric: KIND 0 or 1, one frame a block, POISON with its data (R12). -/
def State.hostTags (s : State) (c : Cmd) (read : Bool) : State :=
  (List.range c.xlist.length).foldl (fun s k =>
    let flags := b2n (k + 1 == c.xlist.length) + 2 * b2n c.ord + 32 * b2n (read && s.poisoned (c.xlist.getD k 0) 4096)
    s.fabric (frameTag c.tag c.func (c.nsidx.getD 0) 31 (b2n read) k flags)) s

/-- The transfer of a command whose completion has been written has ended: the entry may be posted, with the media error status
where its data was POISON; a command that posts nothing frees its tag (R15, R272, R428). -/
def State.transferDone (s : State) (c : Cmd) (bad : Option Nat) : State :=
  if c.st ≠ .completed then s
  else if c.silent then (s.dropCmd c.tag).fairCheck
  else match c.cpl, bad with
    | some (0, d0, d1), some _ =>
      (s.updCmd c.tag (fun c => { c with cpl := some (scUnrecovered, d0, d1) })).noteStatus { c with errLba := c.errLba.or bad } scUnrecovered
    | _, _ => s

/-- HOST_TRANSFER_END: data is what the host's memory held, for a write-type command. A block or a list out of the HIF's
reach is answered with an error (R427), which ends the transfer with ERR. -/
def execHostTransferEnd (tag : Tag) (err : Bool) (data : List Byte) (s : State) : Res :=
  .next (match s.cmd? tag.toNat with
    | some c =>
      if c.xfer = .running ∧ (err ∨ s.allMoved c) then
        let read := c.e.op == 0x02
        let err := err || c.xlist.length != c.e.nlb || c.xlist.any (fun a => !hifReach a 4096)
        let s := c.xlist.foldl (fun (s : State) a => s.spaceError a 4096 (if read then 1 else 0)) s
        let s := if err then s else s.hostTags c read
        let s := { s with hif := { s.hif with xdone := s.hif.xdone ++ [(c.tag, err)] } }
        let good := s.goodBlocks c.xlist 0
        let s := if err then s else if read then s.emit (.toHost c.tag good.1) else s.storeBlocks data c.xlist
        let bad := if read ∧ !err then good.2.map (fun k => c.e.slba + k) else none
        let s := s.updCmd c.tag (fun c => { c with xfer := if err then .failed else .ended, errLba := c.errLba.or bad })
        (if read then s.returnPool1 c else s).transferDone c bad
      else s
    | none => s)

/-- HIF_XDONE_READ -/
def execHifXdoneRead (s : State) : Res :=
  .next (match s.hif.xdone with
    | (t, e) :: rest =>
      State.emit { s with hif := { s.hif with xdone := rest } } (.popped .HIF_XDONE_CMDTAG 0 (t + b2n e * 2 ^ 17 + 2 ^ 63))
    | [] => s.emit (.popped .HIF_XDONE_CMDTAG 0 0))

/-! ### Waits (R257, R267, R293) -/

/-- LOCK_WAIT_1S -/
def execLockWait1s (tag : Tag) (s : State) : Res :=
  .next (match s.cmd? tag.toNat with
    | some c =>
      if c.st = .admitted ∨ c.st = .credited then
        match s.blocker c with
        | some b => s.raise 227 [(4, c.tag), (4, b.tag)]
        | none => s
      else s
    | none => s)

/-- ORDERED_WAIT_1S -/
def execOrderedWait1s (tag : Tag) (s : State) : Res :=
  .next (match s.cmd? tag.toNat with
    | some c => if c.ord ∧ (c.st = .admitted ∨ c.st = .credited) then s.raise 228 [(4, c.tag), (2, c.sqid)] else s
    | none => s)

/-- CQ_FULL_1S -/
def execCqFull1s (f : Func) (q : W16) (s : State) : Res :=
  .next (match s.cq f.val q.toNat with
    | some k => if k.room then s else s.raise 226 [(2, f.val), (2, q.toNat), (4, (s.waitingFor f.val q.toNat).length)]
    | none => s)

/-- INTERRUPT_COALESCING_TIMEOUT: the aggregation time has run out with entries not yet signalled. -/
def execInterruptCoalescingTimeout (f : Func) (q : W16) (s : State) : Res :=
  .next (match s.cq f.val q.toNat with
    | some k =>
      if k.ien ∧ k.unsig ≠ 0 then (s.setCq f.val q.toNat (some { k with unsig := 0 })).emit (.irq f.val k.vec) else s
    | none => s)

end Sys2Proof.Machine
end

