-- ==== Sys2Proof/Machine/HifAdmin.lean ====
section
/-! DEFINITION. Machine/HifAdmin.lean: the admin commands of every function: queues (R251, R269, R271), features (R274, R283,
R285, R288), log pages (R381), Identify (Table 10-5), Abort (R268), event requests, directives (R265) and virtualization
(R250). Layouts and field places are the NVM Express specifications' (log entry 20). -/

namespace Sys2Proof.Machine

/-! ### Queues (R251, R269, R271) -/

/-- I/O queue pairs and vectors of a function: the physical function has 64 of each of its own (Table 10-6). -/
def State.queuesOf (s : State) (f : Nat) : Nat := (s.ctrl f).queues + if f = 0 then 64 else 0
def State.vectorsOf (s : State) (f : Nat) : Nat := (s.ctrl f).vecs + if f = 0 then 64 else 0

def scNotSaveable : Nat := 0x10D

/-- CAP.MQES, a queue's most entries less one, and the CAP register of a function (Table 10-5); its places are NVMe's (log entry
20): MQES from bit 0, CQR 16, AMS from 17, TO from 24, DSTRD from 32, NSSRS 36, MPSMIN from 48, MPSMAX from 52. -/
def capMqes : Nat := 4095
def capWord (f : Nat) : Nat :=
  capMqes + 1 * 2 ^ 16 + 1 * 2 ^ 17 + 2 * 2 ^ 24 + 0 * 2 ^ 32 + (if f = 0 then 1 else 0) * 2 ^ 36 + 0 * 2 ^ 48 + 4 * 2 ^ 52
/-- CSTS of a controller: RDY in bit 0, PP in bit 5. -/
def State.csts (s : State) (f : Nat) : Nat := b2n (s.ctrl f).rdy + 32 * b2n s.hif.drain.isSome
/-- Queue identifier and size of a Create command, and its contiguity. -/
def Cmd.qid (c : Cmd) : Nat := dwBits c.e.cdw10 0 16
def Cmd.qsize (c : Cmd) : Nat := dwBits c.e.cdw10 16 16 + 1
/-- The checks both Create commands share: 0, or a status. -/
def State.createCheck (s : State) (c : Cmd) (used : Bool) : Nat :=
  if c.qid = 0 ∨ s.queuesOf c.func < c.qid ∨ used then scQueueId
  else if capMqes + 1 < c.qsize ∨ c.qsize < 2 then scQueueSize
  else if dwBits c.e.cdw11 0 1 = 0 then scField
  else 0

/-- CREATE_IO_COMPLETION_QUEUE -/
def execCreateIoCompletionQueue (tag : Tag) (s : State) : Res :=
  s.onCmd (s.admin? tag.toNat 0x05) (fun c =>
    let vec := dwBits c.e.cdw11 16 16
    let st := s.createCheck c (s.cq c.func c.qid).isSome
    if st ≠ 0 then s.finishCmd c st 0 0
    else if s.vectorsOf c.func ≤ vec then s.finishCmd c scVector 0 0
    else
      let k : Cq := { size := c.qsize, vec := vec, ien := dwBits c.e.cdw11 1 1 == 1 }
      (s.setCq c.func c.qid (some k)).finishCmd c 0 0 0)

/-- CREATE_IO_SUBMISSION_QUEUE -/
def execCreateIoSubmissionQueue (tag : Tag) (s : State) : Res :=
  s.onCmd (s.admin? tag.toNat 0x01) (fun c =>
    let cq := dwBits c.e.cdw11 16 16
    let st := s.createCheck c (s.sq c.func c.qid).isSome
    if st ≠ 0 then s.finishCmd c st 0 0
    else if cq = 0 ∨ s.queuesOf c.func < cq then s.finishCmd c scQueueId 0 0
    else if (s.cq c.func cq).isNone then s.finishCmd c scCqInvalid 0 0
    else
      let k : Sq := { size := c.qsize, cq := cq, prio := dwBits c.e.cdw11 1 2 }
      (s.setSq c.func c.qid (some k)).finishCmd c 0 0 0)

/-- DELETE_IO_SUBMISSION_QUEUE (R269): fetching stops, unstarted commands end, started ones are marked to end, and the
Delete completes once all are posted. -/
def execDeleteIoSubmissionQueue (tag : Tag) (s : State) : Res :=
  s.onCmd (s.admin? tag.toNat 0x00) (fun c =>
    match s.sq c.func c.qid with
    | some k =>
      if c.qid = 0 ∨ k.deleting ≠ 0 then s.finishCmd c scQueueId 0 0
      else
        let mine (x : Cmd) : Bool := x.func == c.func && x.sqid == c.qid
        let n := (s.hif.cmds.filter (fun x => mine x && x.st != .completed && x.st != .posted)).length
        let s := s.setSq c.func c.qid (some { k with deleting := c.tag + 1, aborted := n })
        (s.endCmds mine false).deleteCheck c.func c.qid
    | none => s.finishCmd c scQueueId 0 0)

/-- DELETE_IO_COMPLETION_QUEUE (R271). The tags of entries the host had not consumed are free. -/
def execDeleteIoCompletionQueue (tag : Tag) (s : State) : Res :=
  s.onCmd (s.admin? tag.toNat 0x04) (fun c =>
    match s.cq c.func c.qid with
    | some k =>
      if c.qid = 0 then s.finishCmd c scQueueId 0 0
      else if s.hif.sqs.any (fun e => e.1 / 65536 == c.func &&
          (match e.2 with | some x => x.cq == c.qid | none => false)) then s.finishCmd c scQueueDeletion 0 0
      else
        let s := s.setCmds (s.hif.cmds.filter (fun x => !k.posted.contains x.tag))
        ((s.setCq c.func c.qid none).fairCheck).finishCmd c 0 0 0
    | none => s.finishCmd c scQueueId 0 0)

/-! ### Data for the host -/

/-- Known bytes of a structure, by offset. -/
abbrev Page := List (Nat × List Byte)
def Page.at (p : Page) (a : Nat) : Option Byte :=
  p.findSome? (fun e => if e.1 ≤ a ∧ a < e.1 + e.2.length then e.2[a - e.1]? else none)

/-- Bytes of a structure from offset off on; those that the spec does not give are free. -/
def State.pageBytes (s : State) (p : Page) (off n : Nat) : List Byte :=
  (List.range n).map (fun k => (p.at (off + k)).getD (BitVec.ofNat 8 (Config.freeValue (s.free + k))))

/-- A command that returns a structure: n bytes from off are sent, and it completes. -/
def State.answer (s : State) (c : Cmd) (p : Page) (off n : Nat) : State :=
  (State.emit { s with free := s.free + n } (.toHost c.tag (s.pageBytes p off n))).finishCmd c 0 0 0

def zeros (n : Nat) : List Byte := List.replicate n 0

/-! ### Log pages (Table 10-4) -/

/-- EREC_STAT as read: QLEN counts the events queued. -/
def State.erecStat (s : State) : Nat := s.regWord .EREC_STAT_MEDONLY + s.ev.queue.length * 2 ^ Reg.EREC_STAT_QLEN.info.lo

/-- The 64-byte header of Table 14-4, registers at their own widths. -/
def State.recHead (s : State) : List Byte :=
  leBytes 4 (s.regWord .EREC_PCYC_PCYC) ++ leBytes 4 (s.regWord .EREC_STARTS_STARTS) ++ leBytes 8 (s.regWord .EREC_OPTIME_OPTIME) ++
    leBytes 4 (s.regWord .EREC_FCOUNT_FCOUNT) ++ leBytes 4 (s.regWord .EREC_CHEAD_CHEAD) ++ leBytes 4 (s.regWord .EREC_CSPILL_CSPILL) ++
    leBytes 4 s.erecStat ++ ((List.range 4).map (fun k => leBytes 4 (s.regWord .LASTGASP_VALUE k))).flatten

/-- Area C as copied under R379, from CHEAD on: the oldest record comes first, and a record skipped leaves no gap. -/
def State.copyC (s : State) : List Byte :=
  ((((List.range 512).map (fun k => (s.rd .EREC_CHEAD_CHEAD + k) % 512)).filter s.goodC).map (fun k => s.mbs (areaC k) 64)).flatten

/-- Support bits of the Commands Supported and Effects page; a command not supported has no effects. -/
def State.effect (s : State) (ok : List Nat) (base op : Nat) : Nat × List Byte :=
  if ok.contains op then (base + 4 * op, [BitVec.ofNat 8 (2 * Config.freeValue (s.free + base + 4 * op) + 1)])
  else (base + 4 * op, zeros 4)

/-- Lists of changed namespaces and zones, one for each controller: keys f × 2^48 + NSID, and f × 2^48 + NSIDX × 2^32 + zone. -/
def State.changedNsOf (s : State) (f : Nat) : List Nat :=
  (s.hif.changedNs.filter (fun e => e.1 / 2 ^ 48 == f)).map (fun e => e.1 % 2 ^ 48)
def State.changedZonesOf (s : State) (f ns : Nat) : List Nat :=
  (s.hif.changedZone.filter (fun e => e.1 / 2 ^ 32 == f * 65536 + ns)).map (fun e => e.1 % 2 ^ 32)

/-- The AGE registers by offset; other offsets read 0. -/
def State.ageImage (s : State) : Page :=
  let word (o : Nat) (r : Reg) (i : Nat) : Nat × List Byte := (o, leBytes 4 (s.regWord r i))
  [word 0 .AGE_CTL_GUARDEN 0, word 4 .AGE_STAT_BUSY 0, word 8 .AGE_VLIM_VMIN 0, word 0xC .AGE_VOUT_VOUT 0, word 0x10 .AGE_PMB_ADDR 0,
    word 0x14 .AGE_GUARD_THR 0, word 0x18 .AGE_PDMIN_SLACK 0] ++
  (List.range 4).map (fun n => word (0x20 + 4 * n) .AGE_TEMP_TEMP n) ++
  (List.range 64).map (fun n => word (0x100 + 4 * n) .AGE_PDM_SLACK n) ++
  ((List.range 8).map (fun k => [word (0x200 + 8 * k) .AGE_FCLS_WIN k, word (0x204 + 8 * k) .AGE_FSTAT_LASTING k])).flatten ++
  ((List.range 8).map (fun k => (List.range 32).map (fun i => (0x400 + 0x80 * k + 4 * i, leBytes 4 (min 0xFFFF (s.ageCnt k i)))))).flatten ++
  [(0, zeros 0x800)]

/-- Records of the media log that a telemetry page carries, oldest first. -/
def State.newestLog (s : State) : List (List Byte) :=
  let m := min s.med.logNext 65536
  (List.range m).map (fun k => NTab.get [] ((s.med.logNext - m + k) % logRecords) s.med.log)

/-- A telemetry page (R381): its areas begin at byte 512 and follow one another, and its header gives each area's last
512-byte block, as NVMe lays the page out (log entry 20). -/
def State.telemetry (s : State) (lid : Nat) : Page :=
  let one := 512
  let two := one + 0x800 + 0x4000
  let three := two + 0x8000
  [(0, leBytes 1 lid), (8, leBytes 2 (two / 512 - 1) ++ leBytes 2 (three / 512 - 1) ++ leBytes 2 ((three + 64 * 65536) / 512 - 1)),
    (one + 0x800, s.mbs mramLo 0x4000), (two, s.copyC)] ++
  s.ageImage.map (fun e => (one + e.1, e.2)) ++ s.newestLog.zipIdx.map (fun e => (three + 64 * e.2, e.1))

/-- What is known of a log page. -/
def State.logPage (s : State) (c : Cmd) (lid : Nat) : Page :=
  let adm := if c.func = 0 then adminAny ++ adminPf else adminAny
  if lid = 0x01 then
    let own := s.hif.errLog.filter (fun e => e.1 == c.func)
    (own.zipIdx.map (fun (e, k) => [(64 * k + 12, leBytes 2 (2 * e.2.1)), (64 * k + 16, leBytes 8 e.2.2)])).flatten ++
      [(64 * own.length, zeros (64 * (256 - own.length)))]
  else if lid = 0x02 then [(0, leBytes 1 s.hif.warn ++ leBytes 2 s.composite), (5, leBytes 1 s.percentUsed)]
  else if lid = 0x03 then [(0, leBytes 1 (s.rst.copy + 1)), (8 + 8 * s.rst.copy, s.rst.fwver.take 8)]
  else if lid = 0x04 then [(0, (((s.changedNsOf c.func).map (leBytes 4)).flatten ++ zeros 4096).take 4096)]
  else if lid = 0x05 then (List.range 256).map (s.effect adm 0) ++ (List.range 256).map (s.effect ioAny 1024)
  else if lid = 0x06 then
    let cur := match s.hif.test with | some t => t.code | none => 0
    (0, leBytes 1 cur) :: (List.range 20).map (fun k =>
      (4 + 28 * k, match s.hif.testLog[k]? with | some r => leBytes 1 (r.1 * 16 + r.2) | none => leBytes 1 0x0F))
  else if lid = 0x07 ∨ lid = 0x08 then s.telemetry lid
  else if lid = 0xBF then
    match s.nsOf c.e.nsid.toNat with
    | some n =>
      let z := s.changedZonesOf c.func n.nsidx
      [(0, leBytes 2 z.length ++ zeros 6), (8, (((z.map (fun k => leBytes 8 (k * zsze n.cls))).flatten) ++ zeros 4088).take 4088)]
    | none => []
  else if lid = 0xC0 then [(0, s.recHead), (64, s.mbs mramLo 0x4000)]
  else if lid = 0xC1 then [(0, s.recHead), (64, s.copyC)]
  else (0, s.recHead) :: s.med.log.map (fun e => (64 + 64 * e.1, e.2))

def logIds : List Nat := [0x01, 0x02, 0x03, 0x04, 0x05, 0x06, 0x07, 0x08, 0xBF, 0xC0, 0xC1, 0xC2]

/-- A list is cleared by the read that returns it, unless the host retains it. -/
def State.logRead (s : State) (c : Cmd) (lid : Nat) : State :=
  if dwBits c.e.cdw10 15 1 = 1 then s
  else if lid = 0x04 then
    let l := s.hif.changedNs.filter (fun e => e.1 / 2 ^ 48 != c.func)
    { s with hif := { s.hif with changedNs := l } }
  else if lid = 0xBF then
    match s.nsOf c.e.nsid.toNat with
    | some n =>
      let l := s.hif.changedZone.filter (fun e => e.1 / 2 ^ 32 != c.func * 65536 + n.nsidx)
      { s with hif := { s.hif with changedZone := l } }
    | none => s
  else s

/-- GET_LOG_PAGE: recovery mode has the recorder's pages only (R50, log entry 98). -/
def execGetLogPage (tag : Tag) (s : State) : Res :=
  s.onCmd (s.admin? tag.toNat 0x02) (fun c =>
    let lid := dwBits c.e.cdw10 0 8
    let n := 4 * (dwBits c.e.cdw10 16 16 + dwBits c.e.cdw11 0 16 * 65536 + 1)
    let off := c.e.cdw12.toNat + c.e.cdw13.toNat * 2 ^ 32
    let ns := c.e.nsid.toNat
    if s.rst.recovery = true ∧ !(decide (0xC0 ≤ lid) && decide (lid ≤ 0xC2)) then s.finishCmd c scOpcode 0 0
    else if !logIds.contains lid then s.finishCmd c scField 0 0
    else if 0xC0 ≤ lid ∧ c.func ≠ 0 then s.finishCmd c scLogPage 0 0
    else if lid = 0x02 ∧ ns ≠ 0 ∧ ns ≠ 0xFFFFFFFF then s.finishCmd c scField 0 0
    else if lid = 0xBF ∧ ((s.nsAt c).filter (fun x => x.zoned)).isNone then s.finishCmd c scField 0 0
    else (s.answer c (s.logPage c lid) off n).logRead c lid)

/-! ### Identify (Table 10-5) -/

def identifyIds : List Nat := [0x00, 0x01, 0x02, 0x03, 0x05, 0x06, 0x10, 0x11, 0x14, 0x15]

/-- Power state descriptor k of Table 10-12: MP in 0.01 W, NOPS, ENLAT and EXLAT. -/
def psDescriptor (k : Nat) : Page :=
  let mp := [6000, 4500, 3800, 2400, 2000].getD k 0
  let en := [0, 3100000, 6100000, 6200000, 12000000].getD k 0
  let ex := [0, 3100000, 6100000, 6300000, 20000000].getD k 0
  [(2048 + 32 * k, leBytes 2 mp ++ [0, if 3 ≤ k then 2 else 0] ++ leBytes 4 en ++ leBytes 4 ex)]

def identifyController (f : Nat) : Page :=
  [(77, [9]), (78, leBytes 2 f), (258, [3, 7, 0x14]), (262, [255, 4]), (265, [1]), (266, leBytes 2 353 ++ leBytes 2 363 ++ leBytes 2 25),
   (316, leBytes 2 240 ++ [1]), (320, [0, 0]), (328, leBytes 4 1), (512, [0x66, 0x44]), (516, leBytes 4 256), (520, leBytes 2 0xCD),
   (524, [4, 7]), (536, leBytes 4 2), (540, leBytes 4 256)] ++ ((List.range 5).map psDescriptor).flatten

def identifyNamespace (n : Nsp) : Page :=
  [(0, leBytes 8 n.nsze ++ leBytes 8 n.nsze), (25, [0, 0]), (128, [0, 0, 12]), (3072, leBytes 1 n.cls ++ [if n.enc then 1 else 0])]

/-- A list of identifiers above one, padded with zeros. -/
def idList (l : List Nat) : Page := [(0, (((l.map (leBytes 4)).flatten) ++ zeros 4096).take 4096)]

/-- Namespaces in NSID order that a test picks, above an NSID. -/
def State.nsidList (s : State) (above : Nat) (p : Nsp → Bool) : List Nat :=
  (List.range 257).filter (fun k => decide (above < k) && (match s.nsOf k with | some n => p n | none => false))

/-- Flexible resources in use (Table 10-6). -/
def State.flexQ (s : State) : Nat := s.hif.ctrls.foldl (fun a e => a + e.2.newQ.getD e.2.queues) 0
def State.flexV (s : State) : Nat := s.hif.ctrls.foldl (fun a e => a + e.2.newV.getD e.2.vecs) 0

/-- Primary Controller Capabilities: totals, flexible pools, private resources and the most one controller takes. -/
def State.primaryCaps (s : State) : Page :=
  [(0, [0, 0]), (32, leBytes 4 32704 ++ leBytes 4 s.flexQ ++ leBytes 2 (s.ctrl 0).queues ++ leBytes 2 64 ++ leBytes 2 2048),
   (64, leBytes 4 16320 ++ leBytes 4 s.flexV ++ leBytes 2 (s.ctrl 0).vecs ++ leBytes 2 64 ++ leBytes 2 2048)]

def State.secondary (s : State) (f : Nat) : List Byte :=
  let k := s.ctrl f
  leBytes 2 f ++ zeros 2 ++ [if k.online then 1 else 0, 0, 0, 0] ++ leBytes 2 f ++ leBytes 2 k.queues ++ leBytes 2 k.vecs ++ zeros 18

/-- Secondary controllers from an identifier on, at most 127 entries; recovery mode has no virtual functions (R249). -/
def State.secondaryList (s : State) (lo : Nat) : Page :=
  let l := if s.rst.recovery then [] else ((List.range 512).filter (fun f => decide (1 ≤ f) && decide (lo ≤ f))).take 127
  [(0, leBytes 1 l.length ++ zeros 31), (32, (l.map s.secondary).flatten), (32 + 32 * l.length, zeros (4064 - 32 * l.length))]

/-- A namespace that is not there reads as zeros; an NSID past NN is invalid. -/
def State.identifyNs (s : State) (c : Cmd) (n : Option Nsp) (p : Nsp → Page) : State :=
  let id := c.e.nsid.toNat
  if id = 0 ∨ 256 < id then s.finishCmd c scNamespace 0 0
  else s.answer c (match n with | some x => p x | none => [(0, zeros 4096)]) 0 4096

/-- ZNS structures: OZCS, MAR and MOR of Table 11-2, and the zone size. -/
def identifyZns (n : Nsp) : Page := [(0, zeros 2), (2, leBytes 2 1), (4, leBytes 4 127), (8, leBytes 4 127), (2816, leBytes 8 (zsze n.cls) ++ [0])]

/-- IDENTIFY: the Firmware Revision is the image's FWVER (R61). In recovery mode the namespace lists are empty, and no other
structure is returned (R50, log entry 98). -/
def execIdentify (tag : Tag) (s : State) : Res :=
  s.onCmd (s.admin? tag.toNat 0x06) (fun c =>
    let cns := dwBits c.e.cdw10 0 8
    let csi := dwBits c.e.cdw11 24 8
    let id := c.e.nsid.toNat
    let mine := s.nsAt c
    if cns = 0x01 then s.answer c ((64, s.rst.fwver.take 8) :: identifyController c.func) 0 4096
    else if s.rst.recovery then
      if cns = 0x02 ∨ cns = 0x10 then s.answer c (idList []) 0 4096 else s.finishCmd c scOpcode 0 0
    else if cns = 0x00 then s.identifyNs c mine identifyNamespace
    else if cns = 0x02 then s.answer c (idList (s.nsidList id (fun n => NSet.has c.func n.funcs))) 0 4096
    else if cns = 0x03 then s.identifyNs c mine (fun _ => [])
    else if cns = 0x05 ∧ csi = 0 then s.identifyNs c mine (fun _ => [])
    else if cns = 0x05 ∧ csi = 2 then s.identifyNs c (mine.filter (fun n => n.zoned)) identifyZns
    else if cns = 0x06 ∧ csi = 0 then s.answer c [] 0 4096
    else if cns = 0x06 ∧ csi = 2 then s.answer c [(0, [9])] 0 4096
    else if cns = 0x10 then s.answer c (idList (s.nsidList id (fun _ => true))) 0 4096
    else if cns = 0x11 then s.identifyNs c (s.nsOf id) identifyNamespace
    else if cns = 0x14 then s.answer c s.primaryCaps 0 4096
    else if cns = 0x15 then s.answer c (s.secondaryList (dwBits c.e.cdw10 16 16)) 0 4096
    else s.finishCmd c scField 0 0)

/-! ### Abort and event requests (R246, R268) -/

/-- ABORT -/
def execAbort (tag : Tag) (s : State) : Res :=
  s.onCmd (s.admin? tag.toNat 0x08) (fun c =>
    (s.raise 230 [(2, c.func), (2, dwBits c.e.cdw10 0 16), (2, dwBits c.e.cdw10 16 16)]).finishCmd c 0 1 0)

/-- ASYNCHRONOUS_EVENT_REQUEST -/
def execAsynchronousEventRequest (tag : Tag) (s : State) : Res :=
  s.onCmd (s.admin? tag.toNat 0x0C) (fun c =>
    let k := s.ctrl c.func
    if k.aers.contains c.tag then s
    else if 8 ≤ k.aers.length then s.finishCmd c scAerLimit 0 0
    else match k.notices with
      | dw0 :: rest => (s.setCtrl c.func { k with notices := rest }).finishCmd c 0 dw0 0
      | [] => s.setCtrl c.func { k with aers := k.aers ++ [c.tag] })

/-! ### Features (Table 10-3) -/

def Cmd.fid (c : Cmd) : Nat := dwBits c.e.cdw10 0 8

/-- Feature Identifiers of Table 10-3. -/
def featIds : List Nat := [0x01, 0x02, 0x04, 0x05, 0x06, 0x07, 0x08, 0x09, 0x0B, 0x0C, 0x0E, 0x11, 0xC0]

/-- Set Features of one FID: an FID the module lacks comes first (R246); saving is not supported. -/
def State.setting (s : State) (tag : Tag) (pick : Nat → Bool) (go : Cmd → State) : Res :=
  s.onCmd (s.admin? tag.toNat 0x09) (fun c =>
    if !pick c.fid then s
    else if !featIds.contains c.fid then s.finishCmd c scField 0 0
    else if dwBits c.e.cdw10 31 1 = 1 then s.finishCmd c scNotSaveable 0 0
    else go c)

/-- A feature that only the physical function sets. -/
def State.pfSetting (s : State) (tag : Tag) (fid : Nat) (go : Cmd → State) : Res :=
  s.setting tag (fun x => x == fid) (fun c => if c.func ≠ 0 then s.finishCmd c scNotChangeable 0 0 else go c)

/-- SET_POWER_MANAGEMENT (R285) -/
def execSetPowerManagement (tag : Tag) (s : State) : Res :=
  s.pfSetting tag 0x02 (fun c =>
    let ps := dwBits c.e.cdw11 0 5
    if 4 < ps then s.finishCmd c scField 0 0 else (s.psRequest ps psHost).finishCmd c 0 0 0)

/-- SET_VOLATILE_WRITE_CACHE (R274) -/
def execSetVolatileWriteCache (tag : Tag) (s : State) : Res :=
  s.pfSetting tag 0x06 (fun c => (s.setFeat 0 0x06 0 (dwBits c.e.cdw11 0 1)).finishCmd c 0 0 0)

/-- SET_SPINDLE_GOVERNOR (R284, R288): without the governor the spindle runs at the highest permitted tier. -/
def execSetSpindleGovernor (tag : Tag) (s : State) : Res :=
  s.pfSetting tag 0xC0 (fun c =>
    let v := dwBits c.e.cdw11 0 1 + dwBits c.e.cdw11 8 24 * 256
    let s := s.setFeat 0 0xC0 0 v
    let s := if s.gov ∨ 3 ≤ s.psNow then s else s.moveTier (s.keepTier s.psNow)
    s.finishCmd c 0 0 0)

/-- SET_ERROR_RECOVERY (R208): TLER in units of 100 ms; DULBE is not supported. -/
def execSetErrorRecovery (tag : Tag) (s : State) : Res :=
  s.setting tag (fun x => x == 0x05) (fun c =>
    if dwBits c.e.cdw11 16 1 = 1 then s.finishCmd c scField 0 0
    else (s.setFeat c.func 0x05 0 (dwBits c.e.cdw11 0 16)).finishCmd c 0 0 0)

/-- Features with a row of their own. -/
def ownRow (fid : Nat) : Bool := fid == 0x02 || fid == 0x05 || fid == 0x06 || fid == 0xC0

/-- Number of Queues, as both commands return it. -/
def State.queueCounts (s : State) (f : Nat) : Nat := (s.queuesOf f - 1) * 65537

/-- Milliseconds of MTIME, which counts at 25 MHz. -/
def State.mtimeMs (s : State) : Nat := s.rd .EVC_MTIME_MTIME / 25000

/-- SET_FEATURES -/
def execSetFeatures (tag : Tag) (data : List Byte) (s : State) : Res :=
  s.setting tag (fun x => !ownRow x) (fun c =>
    let v := c.e.cdw11.toNat
    let ok (sub v : Nat) : State := (s.setFeat c.func c.fid sub v).finishCmd c 0 0 0
    let bad : State := s.finishCmd c scField 0 0
    if c.fid = 0x01 ∨ c.fid = 0x0B ∨ c.fid = 0x11 then ok 0 v
    else if c.fid = 0x04 then
      let sel := dwBits c.e.cdw11 16 4
      let kind := dwBits c.e.cdw11 20 2
      if (sel = 0 ∨ sel = 15) ∧ kind ≤ 1 then ok kind (dwBits c.e.cdw11 0 16) else bad
    else if c.fid = 0x07 then
      if dwBits c.e.cdw11 0 16 = 65535 ∨ dwBits c.e.cdw11 16 16 = 65535 then bad
      else s.finishCmd c 0 (s.queueCounts c.func) 0
    else if c.fid = 0x08 then ok 0 (dwBits c.e.cdw11 0 16)
    else if c.fid = 0x09 then
      let iv := dwBits c.e.cdw11 0 16
      if s.vectorsOf c.func ≤ iv then bad else ok iv (dwBits c.e.cdw11 16 1 * 65536)
    else if c.fid = 0x0C then
      if c.func ≠ 0 then s.finishCmd c scNotChangeable 0 0
      else
        let s := (List.range 32).foldl (fun s k => s.setFeat 0 0x0C (k + 1) (leNat ((data.drop (8 * k)).take 8))) s
        (s.setFeat 0 0x0C 0 (v % 2)).finishCmd c 0 0 0
    else if c.fid = 0x0E then
      let s := (s.setFeat c.func 0x0E 0 (leNat (data.take 6))).setFeat c.func 0x0E 1 (s.mtimeMs)
      (s.setFeat c.func 0x0E 2 1).finishCmd c 0 0 0
    else bad)

/-- Tier in force (R288). -/
def State.tierCode (s : State) : Nat :=
  if s.spn.tgt = 0 then 0 else if s.spn.tgt < 5400 then 1 else if s.spn.tgt < 7200 then 2 else 3

/-- GET_FEATURES (R283, R285, R288): Select is not supported. -/
def execGetFeatures (tag : Tag) (s : State) : Res :=
  s.onCmd (s.admin? tag.toNat 0x0A) (fun c =>
    let f := c.func
    let ok (v : Nat) : State := s.finishCmd c 0 v 0
    let bad : State := s.finishCmd c scField 0 0
    if dwBits c.e.cdw10 8 3 ≠ 0 then bad
    else if c.fid = 0x01 ∨ c.fid = 0x05 ∨ c.fid = 0x08 ∨ c.fid = 0x0B ∨ c.fid = 0x11 then ok (s.feat f c.fid)
    else if c.fid = 0x02 then ok (if f = 0 then s.psReq else s.psNow)
    else if c.fid = 0x04 then
      let sel := dwBits c.e.cdw11 16 4
      let kind := dwBits c.e.cdw11 20 2
      if sel = 0 ∧ kind ≤ 1 then ok (s.feat f 0x04 kind) else bad
    else if c.fid = 0x06 then ok (s.feat 0 0x06)
    else if c.fid = 0x07 then ok (s.queueCounts f)
    else if c.fid = 0x09 then
      let iv := dwBits c.e.cdw11 0 16
      if s.vectorsOf f ≤ iv then bad else ok (iv + s.feat f 0x09 iv)
    else if c.fid = 0x0C then
      let t := ((List.range 32).map (fun k => leBytes 8 (s.feat 0 0x0C (k + 1)))).flatten
      (s.emit (.toHost c.tag t)).finishCmd c 0 (s.feat 0 0x0C) 0
    else if c.fid = 0x0E then
      let now := s.feat f 0x0E 0 + (s.mtimeMs - s.feat f 0x0E 1)
      (s.emit (.toHost c.tag (leBytes 6 now ++ leBytes 1 (2 * s.feat f 0x0E 2) ++ [0]))).finishCmd c 0 0 0
    else if c.fid = 0xC0 then ok (s.feat 0 0xC0 + 2 * s.tierCode)
    else bad)

/-! ### Directives (R265) -/

/-- DIRECTIVE_SEND: no directive can be enabled or disabled. -/
def execDirectiveSend (tag : Tag) (s : State) : Res :=
  s.onCmd (s.admin? tag.toNat 0x19) (fun c => s.finishCmd c scField 0 0)

/-- DIRECTIVE_RECEIVE: Identify reports types 0 and 0Fh as supported and enabled. -/
def execDirectiveReceive (tag : Tag) (s : State) : Res :=
  s.onCmd (s.admin? tag.toNat 0x1A) (fun c =>
    if dwBits c.e.cdw11 0 8 = 1 ∧ dwBits c.e.cdw11 8 8 = 0 then
      s.answer c [(0, leBytes 32 0x8001 ++ leBytes 32 0x8001 ++ zeros 4032)] 0 (min 4096 (4 * (c.e.cdw10.toNat + 1)))
    else s.finishCmd c scField 0 0)

/-! ### Virtualization (R250) -/

def scCtrlId : Nat := 0x11F
def scCtrlState : Nat := 0x120
def scResources : Nat := 0x121
def scResourceId : Nat := 0x122

/-- Flexible resources of one kind for controller f, at once or at its next reset: within the pool and the function's most. -/
def State.assign (s : State) (c : Cmd) (f rt nr : Nat) (later : Bool) : State :=
  let k := s.ctrl f
  let held := if rt = 0 then k.newQ.getD k.queues else k.newV.getD k.vecs
  let used := (if rt = 0 then s.flexQ else s.flexV) - held
  let pool := if rt = 0 then 32704 else 16320
  let own := if f = 0 then 64 else 0
  if 2048 < nr + own ∨ pool < used + nr then s.finishCmd c scResources 0 0
  else
    let k := if later then (if rt = 0 then { k with newQ := some nr } else { k with newV := some nr })
      else (if rt = 0 then { k with queues := nr } else { k with vecs := nr })
    ((s.setCtrl f k).virtEvent f).finishCmd c 0 nr 0

/-- VIRTUALIZATION_MANAGEMENT -/
def execVirtualizationManagement (tag : Tag) (s : State) : Res :=
  s.onCmd (s.admin? tag.toNat 0x1C) (fun c =>
    let act := dwBits c.e.cdw10 0 4
    let rt := dwBits c.e.cdw10 8 3
    let f := dwBits c.e.cdw10 16 16
    let nr := dwBits c.e.cdw11 0 16
    let bad (st : Nat) : State := s.finishCmd c st 0 0
    if act ≠ 1 ∧ act ≠ 7 ∧ act ≠ 8 ∧ act ≠ 9 then bad scField
    else if act = 1 then
      if f ≠ 0 then bad scCtrlId else if 1 < rt then bad scResourceId else s.assign c 0 rt nr true
    else if f = 0 ∨ 511 < f then bad scCtrlId
    else if act = 8 then
      if (s.ctrl f).online then bad scCtrlState else if 1 < rt then bad scResourceId else s.assign c f rt nr false
    else if act = 9 then
      if (s.ctrl f).vecs = 0 then bad scField
      else ((s.setCtrl f { s.ctrl f with online := true }).virtEvent f).finishCmd c 0 0 0
    else
      let s := if (s.ctrl f).en then s.resetCtrl f 0 else s
      ((s.setCtrl f { s.ctrl f with online := false, queues := 0, vecs := 0 }).virtEvent f).finishCmd c 0 0 0)

end Sys2Proof.Machine
end

