-- ==== Sys2Proof/Machine/Hse.lean ====
section
/-! DEFINITION. Machine/Hse.lean: the head sequencers (R129 to R158): microwords and nanowords, traps, starting and
halting, the command queue, the stores, the slot timer and the keep-out window. -/

namespace Sys2Proof.Machine

/-! ### Fields of a microword and a nanoword (Tables 6-1, 6-3, 6-5) -/

def mwNano (w : Nat) : Nat := bitsN w 16 8
def mwSeq (w : Nat) : Nat := bitsN w 12 4
def mwOpnd (w : Nat) : Nat := bitsN w 0 12
def opCond (o : Nat) : Nat := bitsN o 6 6
def opInv (o : Nat) : Bool := o.testBit 5
def opTsel (o : Nat) : Nat := bitsN o 0 5
def nwAtom (n : Nat) : Bool := n.testBit 0
def nwSg (n : Nat) : Nat := bitsN n 1 2
def nwRg (n : Nat) : Nat := bitsN n 3 2
def nwWg (n : Nat) : Nat := bitsN n 5 2
def nwFarm (n : Nat) : Bool := n.testBit 7
def nwDreq (n : Nat) : Bool := n.testBit 8
def nwSkip (n : Nat) : Bool := n.testBit 9
def nwCqld (n : Nat) : Bool := n.testBit 10
def nwCqdone (n : Nat) : Bool := n.testBit 11
def nwStatus (n : Nat) : Nat := bitsN n 12 4
def nwLcsel (n : Nat) : Bool := n.testBit 16
def nwLcld (n : Nat) : Nat := bitsN n 17 2
def nwSlotinc (n : Nat) : Bool := n.testBit 19
def nwJc (n : Nat) : Nat := bitsN n 20 6
def nwJcInv (n : Nat) : Bool := n.testBit 26
def nwCntdec (n : Nat) : Bool := n.testBit 27
def nwDst (n : Nat) : Nat := bitsN n 28 4
def nwImm (n : Nat) : Nat := bitsN n 32 16
def nwSrc (n : Nat) : Nat := bitsN n 48 4
def nwTsdrop (n : Nat) : Bool := n.testBit 52

/-- The microword at an address, and a nanoword. -/
def State.microAt (s : State) (h a : Nat) : Nat := s.mrd 4 (hseBase h + 0x8000 + 4 * (a % 4096)) % 2 ^ 24
def State.nanoAt (s : State) (h n : Nat) : Nat := s.mrd 16 (hseBase h + 0x4000 + 16 * n)
def State.curWord (s : State) (h : Nat) : Nat := s.microAt h (s.rd .HSE_UPC_UPC h)

/-! ### Conditions (Table 6-4) -/

/-- Latch bit of a latched condition. -/
def condLatch (c : Nat) : Option Nat :=
  if c = 1 then some latSam else if c = 14 then some latSync else if c = 15 then some latNosync
  else if c = 16 then some latDdone else if c = 18 then some latDeliv else if c = 19 then some latWdone
  else if c = 30 then some latSlotb else if c = 26 then some latHlack else none

/-- A DMA channel serving the head has halted with an error. -/
def State.dmaErr (s : State) (h : Nat) : Bool :=
  (List.range 128).any (fun c => (s.rd .DMA_CHCTL_LINE c == h || s.rd .DMA_CHCTL_LINE c == 24 + h) && s.rd .DMA_CHSTAT_ERR c != 0)

/-- A condition's value as far as the state shows it. The wedge timer's register holds the count last known. -/
def State.condNow (s : State) (h c : Nat) : Bool :=
  let v := s.hse h
  let k := s.chan h
  match condLatch c with
  | some b => v.latch.testBit b
  | none =>
    match c with
    | 0 => true
    | 2 => s.rd .HSE_WT_WIDX h == s.rd .HSE_WCMP_WCMP h
    | 3 => decide (s.rd .HSE_CMP_CMP0 h ≤ s.rd .HSE_WT_WT h)
    | 4 => decide (s.rd .HSE_CMP_CMP1 h ≤ s.rd .HSE_WT_WT h)
    | 5 => !s.dataTime h
    | 6 => v.servo && !k.fabric
    | 7 => s.rateOk h
    | 8 => s.plausOk h
    | 9 => s.rdBit .SCE_HSTAT_RDY_RD (h % 6) (h / 6)
    | 10 => s.rdBit .SCE_HSTAT_RDY_WR (h % 6) (h / 6)
    | 11 => s.rdBit .SPN_WP_WP (h / 6)
    | 12 => s.windowOk h
    | 13 => !k.staged.isEmpty
    | 17 => v.dgood
    | 20 => v.defect
    | 21 => v.skipRdy
    | 22 => s.rd .HSE_CQPTR_HEAD h != s.rd .HSE_CQPTR_TAIL h
    | 23 => s.rd .HSE_SLOTCNT_CNT h == 0
    | 24 => s.rd .HSE_LC_LC0 h == 0
    | 25 => s.rd .HSE_LC_LC1 h == 0
    | 27 => v.hlErr
    | 28 => s.dmaErr h
    | 29 => s.bit .SCE_STAT_LOADED (h / 6)
    | 31 => s.rgOpen h || s.wgOpen h
    | c => if 32 ≤ c ∧ c < 48 then (s.rd .HSE_FLAGS_F h + 256 * s.rd .HSE_FLAGS_MB h).testBit (c - 32) else false

/-- A latched condition found true is consumed. -/
def State.consume (s : State) (h c : Nat) : State :=
  match condLatch c with
  | some b => if (s.hse h).latch.testBit b then s.setHse h { s.hse h with latch := setBitN (s.hse h).latch b false } else s
  | none => s

/-- The wedge timer may have passed a compare value since it was last known: then the test's answer is free. -/
def State.timerGuess (s : State) (h c : Nat) : State :=
  if (c = 3 ∨ c = 4) ∧ !s.condNow h c then
    let (x, s) := s.draw 1
    if x = 1 then s.wr .HSE_WT_WT (if c = 3 then s.rd .HSE_CMP_CMP0 h else s.rd .HSE_CMP_CMP1 h) h else s
  else s

/-- JC is met; the test consumes a latched condition. -/
def State.jc (s : State) (h : Nat) (n : Nat) : Bool × State :=
  let s := s.timerGuess h (nwJc n)
  let v := s.condNow h (nwJc n)
  (v != nwJcInv n, s.consume h (nwJc n))

/-! ### Actions of a nanoword (R137, R143 to R146, R152, R153) -/

/-- A reserved value in an action field. -/
def nanoBad (n : Nat) : Bool :=
  nwSg n == 3 || nwRg n == 3 || nwWg n == 3 || decide (9 ≤ nwDst n) || decide (5 ≤ nwSrc n)

/-- The actions that belong to the code at depth 0. -/
def nanoOwned (n : Nat) : Bool :=
  nwSg n != 0 || nwRg n != 0 || nwWg n != 0 || nwFarm n || nwDreq n || nwSlotinc n || nwCntdec n || nwCqld n || nwCqdone n ||
    nwDst n == 1 || nwDst n == 2 || nwDst n == 3

/-- Event 6h + 2 (Table 6-14): cause 0 microcode event, 1 OWNVIOL, 2 ATOMOVR, 3 STWR. -/
def State.microEvent (s : State) (h cause imm : Nat) : State :=
  s.raise (6 * h + 2) [(1, cause), (2, imm), (2, s.rd .HSE_UPC_UPC h)]

/-- The microword stalls: its CQDONE finds the completion queue full, or its DST 6 finds a command outstanding. -/
def State.stalls (s : State) (h n : Nat) : Bool :=
  ((s.hse h).depth == 0 && nwCqdone n && decide (16 ≤ (s.hse h).done.length)) || (nwDst n == 6 && (s.hse h).hl.isSome)

def State.actCqdone (s : State) (h n : Nat) : State :=
  let v := s.hse h
  let e : DoneEnt := ⟨bitsN v.tmpl 0 17, nwStatus n, (v.cnt0 - s.rd .HSE_SLOTCNT_CNT h) % 8192, v.qidx⟩
  s.setHse h { v with done := v.done ++ [e] }

/-- Address of descriptor i. -/
def cqAddr (h i : Nat) : Nat := hseBase h + 0x400 + 0x20 * i

def State.actCqld (s : State) (h : Nat) : State :=
  let i := s.rd .HSE_CQPTR_HEAD h
  if i = s.rd .HSE_CQPTR_TAIL h then s.cause h 2
  else
    let a := cqAddr h i
    let v := s.hse h
    let tmpl := s.mrd 8 a
    let s := s.setHse h { v with tmpl := tmpl, cnt0 := s.mrd 2 (a + 14) % 8192, wedge := s.mrd 2 (a + 16) % 512,
                                 ofs := s.mrd 2 (a + 18), opc := s.mrd 4 (a + 20), param := s.mrd 8 (a + 24), qidx := i,
                                 reqs := 0, wrote := 0 }
    let s := s.setChan h { s.chan h with timer := false, xqi := i, xns := bitsN tmpl 26 8 }
    let s := (s.wr .HSE_TRK_TRK (s.mrd 4 (a + 8)) h).wr .HSE_SLOTCNT_SLOT (s.mrd 2 (a + 12)) h
    (s.wr .HSE_SLOTCNT_CNT (s.mrd 2 (a + 14)) h).wr .HSE_CQPTR_HEAD ((i + 1) % 16) h

def State.srcValue (s : State) (h n : Nat) : Nat :=
  match nwSrc n with
  | 0 => nwImm n
  | 1 => (s.hse h).ofs
  | 2 => (s.hse h).wedge
  | 3 => (s.rd .HSE_CMP_CMP0 h + nwImm n) % 65536
  | _ => (s.rd .HSE_CMP_CMP1 h + nwImm n) % 65536

/-- The destination of the source value. own allows destinations 1 to 3. -/
def State.actDst (s : State) (h n : Nat) (own : Bool) : State :=
  let v := s.srcValue h n
  match nwDst n with
  | 1 => if own then s.wr .HSE_CMP_CMP0 v h else s
  | 2 => if own then s.wr .HSE_CMP_CMP1 v h else s
  | 3 => if own then s.wr .HSE_WCMP_WCMP v h else s
  | 4 => s.wr .HSE_FLAGS_F (Nat.lor (s.rd .HSE_FLAGS_F h) (v % 256)) h
  | 5 => s.wr .HSE_FLAGS_F (Nat.land (s.rd .HSE_FLAGS_F h) (255 - v % 256)) h
  | 6 => s.setHse h { s.hse h with hl := some v, hlErr := false }
  | 7 => s.microEvent h 0 (nwImm n)
  | 8 => s.cause h 14
  | _ => s

/-- Writes held during a scan are applied. -/
def State.applyHeld (s : State) (h : Nat) : State :=
  let s := (s.hse h).held.foldl (fun s e => s.mwr 4 (hseBase h + 0x2000 + 4 * e.1) e.2) s
  s.setHse h { s.hse h with held := [] }

def State.actSkip (s : State) (h : Nat) : State :=
  let s := s.applyHeld h
  s.setHse h { s.hse h with scan := true, skipRdy := false, scanTrk := s.rd .HSE_TRK_TRK h, scanSlot := s.rd .HSE_SLOTCNT_SLOT h }

/-- DREQ: the request's frame tag, from the template; its reserved bits are 0 (R14, R143). -/
def State.actDreq (s : State) (h : Nat) : State :=
  let v := s.hse h
  let kind := tagKind v.tmpl
  if kind ≠ 2 ∧ kind ≠ 3 ∧ kind ≠ 9 ∧ kind ≠ 10 then s.cause h 2
  else if v.cnt0 ≤ v.reqs then s
  else
    let t := putField (putField v.tmpl 34 5 h) 43 8 (bitsN v.tmpl 43 8 + v.reqs)
    let t := setBitN t 51 (v.tmpl.testBit 51 && v.reqs + 1 == v.cnt0) % 2 ^ 57
    if kind = 2 ∨ kind = 10 then s.setHse h { v with reqs := v.reqs + 1, raisedW := v.raisedW ++ [t] }
    else s.setHse h { v with reqs := v.reqs + 1, raisedR := v.raisedR ++ [t] }

def State.actLcld (s : State) (h n : Nat) : State :=
  match nwLcld n with
  | 1 => s.wr .HSE_LC_LC0 (nwImm n) h
  | 2 => s.wr .HSE_LC_LC1 (nwImm n) h
  | 3 => s.wr .HSE_LC_LC0 (s.rd .HSE_SLOTCNT_CNT h) h
  | _ => s

/-- Gates: SG in manual mode, then RG, then WG. -/
def State.actGates (s : State) (h n : Nat) : State :=
  let s := if s.bit .HSE_CTL_SGAUTO h then s
    else match nwSg n with
      | 1 => s.wrBit .HSE_STAT_GATES 0 true h
      | 2 => s.wrBit .HSE_STAT_GATES 0 false h
      | _ => s
  let s := match nwRg n with
    | 1 => s.openR h
    | 2 => s.rgClose h
    | _ => s
  match nwWg n with
  | 1 => s.openW h
  | 2 => s.wgClose h
  | _ => s

/-- TSDROP (R152). -/
def State.actTsdrop (s : State) (h : Nat) : State :=
  match (s.hse h).tstk with
  | [] => s.cause h 2
  | _ :: t => (s.setHse h { s.hse h with tstk := t }).hseShow h

/-- The action fields of nanoword n. The order among them is the model's, except that SLOTINC comes before SKIPCHK. -/
def State.actions (s : State) (h n : Nat) : State :=
  let own := (s.hse h).depth == 0
  let s := if !own && nanoOwned n then
      let s := s.wr .HSE_STAT_OWNVIOL 1 h
      if (s.hse h).own then s else (s.setHse h { s.hse h with own := true }).microEvent h 1 0
    else s
  let s := if own && nwCqdone n then s.actCqdone h n else s
  let s := if own && nwCqld n then s.actCqld h else s
  let s := if own && nwSlotinc n then s.wrapAdd .HSE_SLOTCNT_SLOT 1 h else s
  let s := if own && nwCntdec n then s.wr .HSE_SLOTCNT_CNT (s.rd .HSE_SLOTCNT_CNT h - 1) h else s
  let s := s.actLcld h n
  let s := s.actDst h n own
  let s := if nwSkip n then s.actSkip h else s
  let s := if own && nwDreq n then s.actDreq h else s
  let s := if own && nwFarm n then s.farm h else s
  let s := if own then s.actGates h n else s
  if nwTsdrop n then s.actTsdrop h else s

/-! ### Sequencing (R132, R133, R149) -/

def State.vecOn (s : State) (h v : Nat) : Bool := (s.hse h).tstk.any (fun f => f.vec == v)

/-- A breakpoint stands behind a trap that came first: it is taken when that trap returns to ADDR (R149). -/
def State.breakBehind (s : State) (h : Nat) : Bool :=
  s.rd .HSE_UPC_UPC h != s.rd .HSE_BRK_ADDR h && (s.hse h).tstk.any (fun f => f.upc == s.rd .HSE_BRK_ADDR h)

/-- Lowest pending vector that can be taken. -/
def State.nextVec (s : State) (h : Nat) : Option Nat :=
  (List.range 16).find? (fun v => s.rdBit .HSE_TPEND_PEND v h && !s.rdBit .HSE_TMASK_MASK v h && !s.vecOn h v &&
    !(v == 15 && s.breakBehind h))

/-- An ATOM span defers traps (R151). -/
def State.deferred (s : State) (h : Nat) : Bool := nwAtom (s.hse h).nano && !(s.hse h).atomOver

/-- A breakpoint pends on the microword at UPC, and is taken before it executes. -/
def State.atBreak (s : State) (h : Nat) : Bool :=
  s.bit .HSE_BRK_EN h && s.rd .HSE_BRK_ADDR h == s.rd .HSE_UPC_UPC h && s.rdBit .HSE_TPEND_PEND 15 h &&
    !s.rdBit .HSE_TMASK_MASK 15 h && !s.vecOn h 15 && !s.deferred h

/-- Sequencing arrives at an address. -/
def State.arrive (s : State) (h a : Nat) : State :=
  let s := s.wr .HSE_UPC_UPC (a % 4096) h
  if s.bit .HSE_BRK_EN h && s.rd .HSE_BRK_ADDR h == a % 4096 then s.cause h 15 else s

def State.arriveNext (s : State) (h : Nat) : State := s.arrive h (s.rd .HSE_UPC_UPC h + 1)

/-- A nanoword is latched; one without ATOM ends an atomic span. -/
def State.latchNano (s : State) (h n : Nat) : State :=
  s.setHse h { s.hse h with nano := n, atomOver := (s.hse h).atomOver && nwAtom n }

/-- RUN = 0 takes effect at a boundary outside an ATOM span (R151, R154). -/
def State.boundary (s : State) (h : Nat) : State :=
  if (s.hse h).stopping && s.running h && !s.deferred h then s.hseHalt h 2 else s

/-- A microword may execute: the engine runs, its SEQ is k, and no breakpoint stands before it. -/
def State.ready (s : State) (h k : Nat) : Bool := s.running h && mwSeq (s.curWord h) == k && !s.atBreak h

/-- A microword takes ILLOP for its own content: no action, no choice of an address, and no wait is left (R149). -/
def State.illop (s : State) (h : Nat) : State :=
  let s := s.setHse h { s.hse h with waiting := false, stalled := false }
  (((s.arriveNext h).cause h 2).hseShow h).boundary h

/-- The actions of a microword, then its sequencing, as R132 orders them. A stall behaves as a WAIT (R145). -/
def State.actThen (s : State) (h n : Nat) (go : State → State) : State :=
  if nanoBad n then s.illop h
  else if s.stalls h n then ((s.setHse h { s.hse h with waiting := true, stalled := true }).hseShow h).boundary h
  else
    let s := (s.setHse h { s.hse h with waiting := false, stalled := false }).actions h n
    if s.running h then ((go s).hseShow h).boundary h else s

/-- One microword other than a WAIT. -/
def State.microStep (s : State) (h : Nat) (go : State → Nat → State) : State :=
  let n := s.nanoAt h (mwNano (s.curWord h))
  let s := s.latchNano h n
  s.actThen h n (fun s => go s n)

/-- Runs go at its target when JC is met; a reserved condition takes ILLOP. -/
def State.branch (s : State) (h n : Nat) (go : State → State) : State :=
  if 48 ≤ nwJc n then (s.arriveNext h).cause h 2
  else
    let (met, s) := s.jc h n
    if met then go s else s.arriveNext h

/-- NEXT (R132). -/
def execNext (h : Head) (s : State) : Res :=
  .next (s.on (s.ready h 0) (fun s => s.microStep h (fun s _ => s.arriveNext h)))

/-- JUMP (R132). -/
def execJump (h : Head) (s : State) : Res :=
  let t := mwOpnd (s.curWord h)
  .next (s.on (s.ready h 1) (fun s => s.microStep h (fun s n => s.branch h n (fun s => s.arrive h t))))

/-- CALL (R133). -/
def execCall (h : Head) (s : State) : Res :=
  let t := mwOpnd (s.curWord h)
  .next (s.on (s.ready h 2) (fun s => s.microStep h (fun s n => s.branch h n (fun s =>
    let v := s.hse h
    if 8 ≤ v.cstk.length then (s.arriveNext h).cause h 3
    else (s.setHse h { v with cstk := ((s.rd .HSE_UPC_UPC h + 1) % 4096) :: v.cstk }).arrive h t))))

/-- RETURN (R133). -/
def execRet (h : Head) (s : State) : Res :=
  .next (s.on (s.ready h 3) (fun s => s.microStep h (fun s n => s.branch h n (fun s =>
    let v := s.hse h
    match v.cstk with
    | [] => (s.arriveNext h).cause h 3
    | a :: t => (s.setHse h { v with cstk := t }).arrive h a))))

/-- LOOP (R132). -/
def execLoop (h : Head) (s : State) : Res :=
  let t := mwOpnd (s.curWord h)
  .next (s.on (s.ready h 4) (fun s => s.microStep h (fun s n =>
    let r := if nwLcsel n then Reg.HSE_LC_LC1 else Reg.HSE_LC_LC0
    let v := s.rd r h
    if v = 0 then s.arriveNext h else (s.wr r (v - 1) h).arrive h t)))

/-! ### Waits (R132, R134, R135) -/

/-- The condition of a WAIT is met: a latched one is consumed, its actions take effect once and it proceeds. -/
def State.waitMet (s : State) (h c : Nat) : State :=
  (s.consume h c).actThen h (s.hse h).nano (fun s => s.arriveNext h)

/-- WAIT (R135): the first test of the condition. A wait for false that finds a latched condition true consumes it (R136). -/
def execWait (h : Head) (s : State) : Res :=
  .next (s.on (s.ready h 5 && !(s.hse h).waiting) (fun s =>
    let w := s.curWord h
    let o := mwOpnd w
    let c := opCond o
    let s := s.latchNano h (s.nanoAt h (mwNano w))
    if 48 ≤ c then s.illop h
    else
      let s := s.timerGuess h c
      let s := (s.setHse h { s.hse h with waiting := true, stalled := false, wedges := 0 }).hseShow h
      if s.condNow h c != opInv o then s.waitMet h c else (s.consume h c).boundary h))

/-- WAIT_CONDITION_MET (R132). A condition on the wedge timer that the command reports brings the timer to the compare
value. A WAIT whose condition has been met and whose actions stall goes on when they no longer do (R145). -/
def execWaitConditionMet (h : Head) (s : State) : Res :=
  .next (s.on (s.ready h 5 && (s.hse h).waiting) (fun s =>
    let o := mwOpnd (s.curWord h)
    let c := opCond o
    let s := if (c = 3 ∨ c = 4) ∧ !opInv o then
        s.wr .HSE_WT_WT (max (s.rd .HSE_WT_WT h) (if c = 3 then s.rd .HSE_CMP_CMP0 h else s.rd .HSE_CMP_CMP1 h)) h
      else s
    if (s.hse h).stalled then s.actThen h (s.hse h).nano (fun s => s.arriveNext h)
    else if s.condNow h c != opInv o then s.waitMet h c else s))

/-- COUNT units of the wait's timeout may have passed: COUNT is not 0, and of wedges so many marks have been found. -/
def State.timedOut (s : State) (h : Nat) : Bool :=
  let t := s.mrd 4 (hseBase h + 0x3080 + 4 * opTsel (mwOpnd (s.curWord h)))
  bitsN t 0 24 != 0 && (!t.testBit 24 || decide (bitsN t 0 24 ≤ (s.hse h).wedges))

/-- WAITTMO (R135): the wait ends without its actions; its address is resumed, where it starts anew. -/
def execWaittmo (h : Head) (s : State) : Res :=
  let o := mwOpnd (s.curWord h)
  .next (s.on (s.ready h 5 && (s.hse h).waiting && !(s.hse h).stalled && s.timedOut h &&
      (s.condNow h (opCond o) == opInv o)) (fun s =>
    ((s.setHse h { s.hse h with waiting := false }).hseShow h).cause h 4))

/-! ### Traps (R147 to R153) -/

/-- Pops a frame and restores what it saved (R150). -/
def State.tretPop (s : State) (h : Nat) : State :=
  let v := s.hse h
  match v.tstk with
  | [] => (s.arriveNext h).cause h 2  -- DESIGN CHOICE (log 106): R149's list of exceptions does not name R150
  | f :: t =>
    let fl := s.rd .HSE_FLAGS_F h / 16 * 16 + f.flags % 16
    let s := s.setHse h { v with tstk := t, nano := f.nano, latch := Nat.lor v.latch f.latch, own := f.own }
    let s := ((s.wr .HSE_UPC_UPC f.upc h).wr .HSE_LC_LC0 f.lc0 h).wr .HSE_LC_LC1 f.lc1 h
    let s := (s.wr .HSE_FLAGS_F fl h).hseShow h
    if v.cstk.length = f.csd then s else s.cause h 3

/-- TRET (R150). -/
def execTret (h : Head) (s : State) : Res :=
  .next (s.on (s.ready h 6) (fun s => s.microStep h (fun s _ => s.tretPop h)))

/-- HALT (R154). -/
def execHalt (h : Head) (s : State) : Res :=
  .next (s.on (s.ready h 7) (fun s => s.microStep h (fun s _ => s.hseHalt h 1)))

/-- ILLEGAL_SEQ (R132): the microword has no effect. -/
def execIllegalSeq (h : Head) (s : State) : Res :=
  .next (s.on (s.running h && decide (8 ≤ mwSeq (s.curWord h)) && !s.atBreak h) (fun s =>
    (((s.arriveNext h).cause h 2).hseShow h).boundary h))

/-- Takes the lowest vector that can be taken: a ninth frame halts the engine (R149, R150). -/
def State.takeTrap (s : State) (h : Nat) : State :=
  match s.nextVec h with
  | none => s
  | some v =>
    let e := s.hse h
    if 8 ≤ e.depth then s.hseHalt h 4
    else
      let f : TFrame := { upc := s.rd .HSE_UPC_UPC h, csd := e.cstk.length, vec := v,
                          waiting := mwSeq (s.curWord h) == 5,
                          lc0 := s.rd .HSE_LC_LC0 h, lc1 := s.rd .HSE_LC_LC1 h, flags := s.rd .HSE_FLAGS_F h,
                          latch := e.latch, nano := e.nano, own := e.own }
      let s := s.setHse h { e with tstk := f :: e.tstk, waiting := false, stalled := false, own := false }
      let s := s.wrBit .HSE_TPEND_PEND v false h
      (s.arrive h (s.mrd 4 (hseBase h + 0x3040 + 4 * v))).hseShow h

/-- TRAP_ENTRY (R147 to R149): a parity error met by the fetch halts the engine at once. -/
def execTrapEntry (h : Head) (parity : Bool) (s : State) : Res :=
  .next (s.on (s.running h) (fun s =>
    if parity then s.hseHalt h 3 else if s.deferred h then s else s.takeTrap h))

/-- ATOM_OVERRUN (R151): the span has lasted 64 cycles. -/
def execAtomOverrun (h : Head) (s : State) : Res :=
  .next (s.on (s.running h && s.deferred h) (fun s =>
    let s := (s.setHse h { s.hse h with atomOver := true }).wr .HSE_STAT_ATOMOVR 1 h
    let s := s.microEvent h 2 0
    if (s.hse h).stopping then s.hseHalt h 2 else s.takeTrap h))

/-! ### Starting and halting (R154, R155) -/

/-- A halted engine starts at ENTRY; a running one is not affected (R155). -/
def State.hseStart (s : State) (h : Nat) : State :=
  if s.running h then s
  else
    let s := s.wr .HSE_CTL_RUN 1 h
    let s := s.setHse h { s.hse h with cstk := [], tstk := [], latch := 0, nano := 0, waiting := false, stalled := false,
                                       atomOver := false, stopping := false, own := false }
    let s := ((s.wr .HSE_FLAGS_F 0 h).wr .HSE_LC_LC0 0 h).wr .HSE_LC_LC1 0 h
    let s := s.wr .HSE_STAT_STATE 1 h
    (s.arrive h (s.mrd 4 (hseBase h + 0x3000))).hseShow h

/-- HSE_RUN_START: before step 9 the value waits (R40). -/
def execHseRunStart (h : Head) (s : State) : Res :=
  .next (s.on (s.up 5 && s.hears (selHse h)) (fun s => if s.up 9 then s.hseStart h else s.wr .HSE_CTL_RUN 1 h))

/-- HSE_RUN_STOP (R154): at the next boundary, subject to ATOM. -/
def execHseRunStop (h : Head) (s : State) : Res :=
  .next (s.on (s.up 5 && s.hears (selHse h)) (fun s =>
    let s := s.wr .HSE_CTL_RUN 0 h
    if s.running h then (s.setHse h { s.hse h with stopping := true }).boundary h else s))

/-- DOORBELL_CMD (R147). -/
def execDoorbellCmd (h : Head) (s : State) : Res := .next (s.on (s.up 9 && s.hears (selHse h)) (fun s => s.cause h 10))

/-- DOORBELL_ABORT (R147). -/
def execDoorbellAbort (h : Head) (s : State) : Res := .next (s.on (s.up 9 && s.hears (selHse h)) (fun s => s.cause h 11))

/-! ### Queues and stores (R144 to R146, R156) -/

/-- CQPTR_TAIL_WRITE (R144). -/
def execCqptrTailWrite (h : Head) (v : BitVec 4) (s : State) : Res :=
  .next (s.on (s.up 5 && s.hears (selHse h)) (fun s =>
    if v.toNat = (s.rd .HSE_CQPTR_TAIL h + 1) % 16 ∧ v.toNat ≠ s.rd .HSE_CQPTR_HEAD h then s.wr .HSE_CQPTR_TAIL v.toNat h
    else s.wr .HSE_STAT_CQERR 1 h))

/-- HSE_DONE_READ (R145, R425). During a soft reset of the engine it reads 0 and pops nothing (R56). -/
def execHseDoneRead (h : Head) (s : State) : Res :=
  .next (s.on (s.up 9) (fun s =>
    match (if s.hears (selHse h) then (s.hse h).done else []) with
    | [] => s.emit (.popped .HSE_DONE_CMDTAG h 0)
    | e :: t =>
      let v := e.tag + e.status * 2 ^ 17 + e.frames * 2 ^ 21 + e.qidx * 2 ^ 34 + 2 ^ 63
      (s.setHse h { s.hse h with done := t }).emit (.popped .HSE_DONE_CMDTAG h v)))

/-- A store offset: ENTRY, TVEC, WTMO, the nanostore or the microstore (Table 6-13). -/
def hseStore (ofs : Nat) : Bool :=
  ofs % 4 == 0 && (ofs == 0x3000 || (decide (0x3040 ≤ ofs) && decide (ofs < 0x3100)) || (decide (0x4000 ≤ ofs) && decide (ofs < 0x5000)) ||
    (decide (0x8000 ≤ ofs) && decide (ofs < 0xC000)))

/-- What a store word keeps: 12 bits of ENTRY and TVEC, 25 of WTMO, 24 of a microword. -/
def storeKeep (ofs v : Nat) : Nat :=
  if ofs < 0x3080 then v % 2 ^ 12 else if ofs < 0x4000 then v % 2 ^ 25 else if ofs < 0x8000 then v else v % 2 ^ 24

/-- HSE_STORE_WRITE (R156): the stores lie in the domain of step 5. -/
def execHseStoreWrite (h : Head) (ofs : W16) (v : W32) (s : State) : Res :=
  .next (s.on (s.up 5 && s.hears (selHse h) && hseStore ofs.toNat) (fun s =>
    if s.running h then (s.wr .HSE_STAT_STWR 1 h).microEvent h 3 0
    else s.mwr 4 (hseBase h + ofs.toNat) (storeKeep ofs.toNat v.toNat)))

/-- DEFECT_TABLE_WRITE (R146). -/
def execDefectTableWrite (h : Head) (w : Fin 1024) (v : W32) (s : State) : Res :=
  .next (s.on (s.up 5 && s.hears (selHse h)) (fun s =>
    if (s.hse h).scan then s.setHse h { s.hse h with held := (s.hse h).held ++ [(w.val, v.toNat)] }
    else s.mwr 4 (hseBase h + 0x2000 + 4 * w.val) v.toNat))

/-- An entry of the skip table names the slot. -/
def entryHits (e trk slot : Nat) : Bool :=
  e.testBit 63 && bitsN e 0 22 == trk && bitsN e 40 8 != 0 && decide (bitsN e 24 14 ≤ slot) && decide (slot < bitsN e 24 14 + bitsN e 40 8)

/-- SKIP_CHECK_DONE (R146). -/
def execSkipCheckDone (h : Head) (s : State) : Res :=
  .next (s.on (s.hse h).scan (fun s =>
    let v := s.hse h
    let hit := (List.range (min 512 (s.rd .HSE_DSKN_DSKN h))).any (fun i =>
      entryHits (s.mrd 8 (hseBase h + 0x2000 + 8 * i)) v.scanTrk v.scanSlot)
    (s.setHse h { v with scan := false, skipRdy := true, defect := hit }).applyHeld h))

/-! ### The slot timer and the keep-out window (R139, R142) -/

/-- SLOT_BOUNDARY (R142, R143): the slot timer counts data time only. -/
def execSlotBoundary (h : Head) (s : State) : Res :=
  .next (s.on ((s.chan h).timer && s.dataTime h) (fun s =>
    let s := s.latchOn h latSlotb
    let c := s.chan h
    let s := if c.reading then
        let s := (s.setChan h { c with reading := false, kept := c.lost.or c.rf.getLast?, lost := none }).adaptEq h
        if c.rclose then s.rgEnd h else if c.armed then s.startRead h else s
      else s
    let c := s.chan h
    let s := if s.wgOpen h && c.wf.isNone then
        if c.wclose then s.wgEnd h
        else if !c.staged.isEmpty then s.startWrite h
        else if (s.hse h).wrote < (s.hse h).cnt0 then s.starve h else s
      else s
    s.oceServe h))

/-- KEEP_OUT_START (R139, R180): a frame pauses, and HL_WG falls. -/
def execKeepOutStart (h : Head) (s : State) : Res :=
  .next (s.on (s.rd .HSE_WPER_WPER h != 0) (fun s =>
    let s := (s.setHse h { s.hse h with ko := true }).wr .HSE_WT_WT
      (max (s.rd .HSE_WT_WT h) (s.rd .HSE_WPER_WPER h - s.rd .HSE_KO_KO_PRE h)) h
    (s.servoGate h).wgFall h))

/-- Data time begins: a write frame in progress resumes behind its lead, and a frame that waited for it starts. -/
def State.koResume (s : State) (h : Nat) : State :=
  let c := s.chan h
  if c.wf.isSome then (if c.wg then s else s.wgRise h)
  else if c.startW then s.startWrite h
  else if c.startR then s.startRead h else s

/-- KEEP_OUT_END (R139, R180): the window runs through KO_POST. After the first found mark the servo gate stays open until WPER is
known, since no window has a length before: the spec does not give this case (log entry 106). -/
def execKeepOutEnd (h : Head) (s : State) : Res :=
  .next (s.on (s.rd .HSE_WPER_WPER h != 0 && (s.hse h).ko) (fun s =>
    let s := (s.setHse h { s.hse h with ko := false }).wr .HSE_WT_WT (s.rd .HSE_KO_KO_POST h + 1) h
    (s.servoGate h).koResume h))

/-- A condition of R25 does not hold, or has cut the frame in progress, and vector PERMIT has not been taken for it. -/
def State.permitDue (s : State) (h : Nat) : Bool :=
  match (s.chan h).wf with
  | some f => !f.told && (f.cut || !(s.permitOk h && s.windowOk h))
  | none => !(s.permitOk h && s.windowOk h)

/-- WRITE_PERMIT_DROP (R25, R141): the sector in progress is finished and does not count, and the gate closes behind it. -/
def execWritePermitDrop (h : Head) (s : State) : Res :=
  .next (s.on (s.wgOpen h && s.permitDue h) (fun s => (s.wgCut h).cause h 6))

/-! ### Wedge timing (R27, R139) -/

/-- The mark passes while the servo gate is closed: it is not found (R138). -/
def State.gateShut (s : State) (h : Nat) : Bool := !s.bit .HSE_CTL_SGAUTO h && !s.rdBit .HSE_STAT_GATES 0 h

/-- An arm all of whose surfaces have lost servo timing in seek, settle or follow unloads by itself (R120). -/
def State.selfUnload (s : State) (a : Nat) : State :=
  if s.armTracks a && (List.range 6).all (fun p => !(s.hse (6 * a + p)).servo) then (s.armUnload a).sceFault a faultSelfUnload
  else s

/-- A surface loses servo timing after its fourth missing mark in a row. The timer restarts at 0, inside the keep-out
window (R139). -/
def State.markMissing (s : State) (h : Nat) : State :=
  let v := s.hse h
  let n := v.miss + 1
  let lost := v.servo && decide (4 ≤ n)
  let s := s.setHse h { v with miss := n, direct := false, servo := v.servo && !lost, ko := true }
  let s := ((s.wr .HSE_WT_WT 0 h).servoGate h).wgFall h
  if lost then (s.cause h 8).selfUnload (h / 6) else s

/-- SERVO_ADDRESS_MARK (R27, R139): the wedge timer stood at count, and restarts inside the keep-out window. -/
def execServoAddressMark (h : Head) (widx : BitVec 9) (count : W16) (s : State) : Res :=
  .next (s.on (s.up 9 && s.armLoaded (h.val / 6)) (fun s =>
    if s.gateShut h then s.markMissing h
    else
      let v := s.hse h
      let s := s.setHse h { v with servo := true, miss := 0, direct := true, ko := true, wedges := v.wedges + 1 }
      let s := if v.direct then s.wr .HSE_WPER_WPER count.toNat h else s
      let s := ((s.wr .HSE_WT_WT 0 h).wr .HSE_WT_WIDX widx.toNat h).latchOn h latSam
      let s := if s.bit .CHAN_STAT_LOCKED h then s.setChan h { s.chan h with timed := true } else s
      (s.servoGate h).wgFall h))

/-- SAM_MISSING (R27): counted while the arm's heads are loaded. -/
def execSamMissing (h : Head) (s : State) : Res :=
  .next (s.on (s.up 9 && s.armLoaded (h.val / 6)) (fun s => s.markMissing h))

end Sys2Proof.Machine
end

