-- ==== Sys2Proof/Machine/RegOps.lean ====
section
/-! DEFINITION. Machine/RegOps.lean: addresses of the register region (R418 to R423), the fields and window memories
they name, and the store into RW and RWL fields (R6, R424) with what the chapters say a field keeps of a value. -/

namespace Sys2Proof.Machine

/-! ### Addresses -/

/-- The block whose window holds an address (Table 16-1). -/
def blkAt (a : Nat) : Option Blk := Blk.all.find? (fun b => decide (b.base ≤ a) && decide (a < b.base + b.span))

/-- Field r lies in the register that holds address a: its key, and the byte of the register that a names. -/
def regAt (r : Reg) (a : Nat) : Option (RKey × Nat) :=
  let f := r.info
  let o := f.blk.base + f.off
  if a < o then none
  else
    let i := if f.s1 = 0 then 0 else (a - o) / f.s1
    let d := (a - o) - f.s1 * i
    let j := if f.s2 = 0 then 0 else d / f.s2
    let d := d - f.s2 * j
    if i < f.n1 ∧ j < f.n2 ∧ d < (if f.wide then 8 else 4) then some (⟨r, i, j⟩, d) else none

/-- The fields of the register that holds address a. -/
def fieldsAt (a : Nat) : List (RKey × Nat) :=
  match blkAt a with
  | none => []
  | some b => b.regs.filterMap (fun r => regAt r a)

/-- A memory inside a block's window (Table 16-2): its unit and the offset in the unit's window. -/
inductive WinMem where
  | trapStack (h ofs : Nat)
  | commandQueue (h ofs : Nat)
  | defects (h ofs : Nat)
  | stores (h ofs : Nat)
  | expect (h ofs : Nat)
  | matrix (h ofs : Nat)
  | samples (h ofs : Nat)
  | bank (e ofs : Nat)
  | friction (e ofs : Nat)
  | cogging (ofs : Nat)
  | identity (ofs : Nat)
  deriving DecidableEq, Repr

def within (lo hi x : Nat) : Bool := decide (lo ≤ x) && decide (x < hi)

def winMem (a : Nat) : Option WinMem :=
  match blkAt a with
  | some .HSE =>
    let h := (a - 0x10100000) / 0x10000
    let o := (a - 0x10100000) % 0x10000
    if within 0x200 0x300 o then some (.trapStack h o)
    else if within 0x400 0x600 o then some (.commandQueue h o)
    else if within 0x2000 0x3000 o then some (.defects h o)
    else if hseStore (o - o % 4) then some (.stores h o) else none
  | some .CHAN =>
    let h := (a - 0x10300000) / 0x10000
    let o := (a - 0x10300000) % 0x10000
    if within 0x400 0x500 o then some (.expect h o)
    else if within 0x2000 0x3400 o then some (.matrix h o)
    else if within 0x4000 0xD1C8 o then some (.samples h o) else none
  | some .SCE =>
    let e := (a - 0x10500000) / 0x10000
    let o := (a - 0x10500000) % 0x10000
    if e < 4 then
      if within 0x1000 0x1400 o then some (.bank e o) else if within 0x2000 0x2800 o then some (.friction e o) else none
    else if within 0x1000 0x1100 o then some (.bank 4 o) else if within 0x1200 0x12C0 o then some (.cogging o) else none
  | some .HIF => if within 0x400000 0x800000 (a - 0x10800000) then some (.identity a) else none
  | some .PSW => if within 0x400000 0x800000 (a - 0x11000000) then some (.identity a) else none
  | _ => none

/-! ### What a field keeps of a value -/

def atLeast (lo v : Nat) : Nat := max lo v
def clampN (lo hi v : Nat) : Nat := max lo (min hi v)

/-- The value a field stores when v is written to it. An HLMIN below 3,000 is stored as it is: the spec says of SPDMIN and
SPDMAX alone what a value out of range is stored as (DESIGN CHOICE, log 99). -/
def fieldKeeps (r : Reg) (v : Nat) : Nat :=
  match r with
  | .SCE_CTL_REFHEAD => if v < 6 then v else 0
  | .SCE_DEADLINE_DL => clampN 50 400 v
  | .SCE_PLAUS_N_N | .SCE_PLAUS_N_OK | .SCE_PLAUS_N_LATE_LIM | .SCE_SETTLE_RDN | .SCE_SETTLE_WRN | .SCE_FRIC1_DEADV
  | .CHAN_RDEC_ITER | .BUF_CTL_SCRUBPER | .BUF_SHAPE_BURST | .DMA_CHAIN_MAX_MAX | .HIF_FNCAP_WEIGHT | .PSW_CFG_HOLDOFF
  | .PSW_ARB_OWNW | .PSW_ARB_FWDW | .AGE_GUARD_STEP | .AGE_FCLS_THR => atLeast 1 v
  | .AGE_FCLS_WIN => if v = 0 then 8 else v
  | .HSE_DSKN_DSKN => min 512 v
  | .HSE_TMASK_MASK => setBitN (setBitN (setBitN (setBitN v 0 false) 1 false) 5 false) 6 false
  | .CHAN_FRM_MARK_TOL => min 12 v
  | .CHAN_FRM_ITER_MAX => clampN 1 32 v
  | .CHAN_RDEC_OFS => clampOfs v
  | .SPN_LIM_SPDMIN | .SPN_LIM_SPDMAX => clampN 3000 10000 v
  | _ => v

/-- A field that is written only in some states of its unit, in one of which the block is not (R206, R229, R240). -/
def State.shut (s : State) (k : RKey) : Bool :=
  match k.reg with
  | .BUF_POOL_BASE | .BUF_POOL_SIZE => s.bit .BUF_CTL_PLOCK
  | .DMA_CHDESC_ADDR | .DMA_CHCTL_LINE => s.rd .DMA_CHSTAT_STATE k.i == 1
  | .GCTX_HEAD | .GCTX_GBASE_GBASE | .GCTX_ACC_ACC | .GCTX_ERASE_ERASE | .GCTX_ERASEP_ERASEP | .GCTX_LBA0_LBA0
  | .GCTX_ID_BANDSEQ | .GCTX_ID_NSIDX | .GCTX_ID_CLASS | .GCTX_ESCMASK_ESCMASK =>
    s.rd .GCTX_MODE k.i == 1 || (s.rd .GCTX_MODE k.i == 2 && s.bit .OCE_RES_BUSY)
  | _ => false

/-- What an ignored write to such a field leaves: a context field sets CTXWR. -/
def State.shutMark (s : State) (k : RKey) : State :=
  match k.reg with
  | .BUF_POOL_BASE | .BUF_POOL_SIZE | .DMA_CHDESC_ADDR | .DMA_CHCTL_LINE => s
  | _ => s.wr .OCE_STAT_CTXWR 1

/-- Stores a value into an RW or RWL field. -/
def State.storeField (s : State) (k : RKey) (v : Nat) : State :=
  if s.shut k then s.shutMark k else s.wr k.reg (fieldKeeps k.reg (v % 2 ^ k.reg.info.w)) k.i k.j

/-- Bits of a field when v is written to bytes d to d + n − 1 of its register: bits the write does not cover keep
their old values. -/
def State.fieldOf (s : State) (k : RKey) (d n v : Nat) : Nat :=
  let lo := k.reg.info.lo
  let old := s.rd k.reg k.i k.j * 2 ^ lo
  let keep := old - bitsN old (8 * d) (8 * n) * 2 ^ (8 * d)
  bitsN (keep + (v % 2 ^ (8 * n)) * 2 ^ (8 * d)) lo k.reg.info.w

/-! ### Memories inside the windows -/

/-- Writes an n-byte word to a window memory, as the loader does (R424). -/
def State.loadWin (s : State) (a n v : Nat) (m : WinMem) : State :=
  match m with
  | .stores _ o => s.mwr n a (if n = 4 then storeKeep o v else v)
  | .matrix h _ => if s.bit .CHAN_CTL_EN h then s else s.mwr n a v
  | .trapStack _ _ | .samples _ _ => s
  | _ => s.mwr n a v

/-- A 32-bit load-record store (R64, R424): RW and RWL fields, window memories, SRAM or buffer memory. -/
def State.loaderStore (s : State) (a v : Nat) : State :=
  if within 0x10000000 0x12000000 a then
    match winMem a with
    | some m => s.loadWin a 4 v m
    | none => (fieldsAt a).foldl (fun s f =>
        if f.1.reg.info.acc = .RW ∨ f.1.reg.info.acc = .RWL then s.storeField f.1 (s.fieldOf f.1 f.2 4 v) else s) s
  else s.mwr 4 a v

/-- What R68 puts back after a failed copy: the reset value of every register field, or zero in memory. -/
def State.loaderUndo (s : State) (a : Nat) : State :=
  if within 0x10000000 0x12000000 a then
    match winMem a with
    | some _ => s.mwr 4 a 0
    | none => (fieldsAt a).foldl (fun s f =>
        if f.1.reg.info.acc = .RW ∨ f.1.reg.info.acc = .RWL then s.wr f.1.reg (f.1.reg.resetAt f.1.i) f.1.i f.1.j else s) s
  else s.mwr 4 a 0

end Sys2Proof.Machine
end

