-- ==== Sys2Proof/Machine/Sha.lean ====
section
/-! DEFINITION. Machine/Sha.lean: the two checks R66 names by their standards: SHA-384 (FIPS 180-4) and ECDSA over P-384
(FIPS 186-5, SEC 1). The spec names them and gives no constants: they are the standards' (log entry 97). -/

namespace Sys2Proof.Machine

/-! ### SHA-384 -/

def m64 (x : Nat) : Nat := x % 0x10000000000000000
def rotr64 (n x : Nat) : Nat := x / 2 ^ n + m64 (x * 2 ^ (64 - n))
def xor3 (a b c : Nat) : Nat := Nat.xor (Nat.xor a b) c

/-- The round constants. -/
def shaK : List Nat :=
  [0x428A2F98D728AE22, 0x7137449123EF65CD, 0xB5C0FBCFEC4D3B2F, 0xE9B5DBA58189DBBC] ++
  [0x3956C25BF348B538, 0x59F111F1B605D019, 0x923F82A4AF194F9B, 0xAB1C5ED5DA6D8118] ++
  [0xD807AA98A3030242, 0x12835B0145706FBE, 0x243185BE4EE4B28C, 0x550C7DC3D5FFB4E2] ++
  [0x72BE5D74F27B896F, 0x80DEB1FE3B1696B1, 0x9BDC06A725C71235, 0xC19BF174CF692694] ++
  [0xE49B69C19EF14AD2, 0xEFBE4786384F25E3, 0x0FC19DC68B8CD5B5, 0x240CA1CC77AC9C65] ++
  [0x2DE92C6F592B0275, 0x4A7484AA6EA6E483, 0x5CB0A9DCBD41FBD4, 0x76F988DA831153B5] ++
  [0x983E5152EE66DFAB, 0xA831C66D2DB43210, 0xB00327C898FB213F, 0xBF597FC7BEEF0EE4] ++
  [0xC6E00BF33DA88FC2, 0xD5A79147930AA725, 0x06CA6351E003826F, 0x142929670A0E6E70] ++
  [0x27B70A8546D22FFC, 0x2E1B21385C26C926, 0x4D2C6DFC5AC42AED, 0x53380D139D95B3DF] ++
  [0x650A73548BAF63DE, 0x766A0ABB3C77B2A8, 0x81C2C92E47EDAEE6, 0x92722C851482353B] ++
  [0xA2BFE8A14CF10364, 0xA81A664BBC423001, 0xC24B8B70D0F89791, 0xC76C51A30654BE30] ++
  [0xD192E819D6EF5218, 0xD69906245565A910, 0xF40E35855771202A, 0x106AA07032BBD1B8] ++
  [0x19A4C116B8D2D0C8, 0x1E376C085141AB53, 0x2748774CDF8EEB99, 0x34B0BCB5E19B48A8] ++
  [0x391C0CB3C5C95A63, 0x4ED8AA4AE3418ACB, 0x5B9CCA4F7763E373, 0x682E6FF3D6B2B8A3] ++
  [0x748F82EE5DEFB2FC, 0x78A5636F43172F60, 0x84C87814A1F0AB72, 0x8CC702081A6439EC] ++
  [0x90BEFFFA23631E28, 0xA4506CEBDE82BDE9, 0xBEF9A3F7B2C67915, 0xC67178F2E372532B] ++
  [0xCA273ECEEA26619C, 0xD186B8C721C0C207, 0xEADA7DD6CDE0EB1E, 0xF57D4F7FEE6ED178] ++
  [0x06F067AA72176FBA, 0x0A637DC5A2C898A6, 0x113F9804BEF90DAE, 0x1B710B35131C471B] ++
  [0x28DB77F523047D84, 0x32CAAB7B40C72493, 0x3C9EBE0A15C9BEBC, 0x431D67C49C100D4C] ++
  [0x4CC5D4BECB3E42B6, 0x597F299CFC657E2A, 0x5FCB6FAB3AD6FAEC, 0x6C44198C4A475817]

/-- The initial hash value. -/
def shaInit : List Nat :=
  [0xCBBB9D5DC1059ED8, 0x629A292A367CD507, 0x9159015A3070DD17, 0x152FECD8F70E5939] ++
  [0x67332667FFC00B31, 0x8EB44A8768581511, 0xDB0C2E0D64F98FA7, 0x47B5481DBEFA4FA4]

def shaS0 (x : Nat) : Nat := xor3 (rotr64 1 x) (rotr64 8 x) (x / 2 ^ 7)
def shaS1 (x : Nat) : Nat := xor3 (rotr64 19 x) (rotr64 61 x) (x / 2 ^ 6)

/-- n further words of the message schedule, newest first. -/
def shaWords : Nat → List Nat → List Nat
  | 0, w => w
  | n + 1, w => shaWords n (m64 (shaS1 (w.getD 1 0) + w.getD 6 0 + shaS0 (w.getD 14 0) + w.getD 15 0) :: w)

/-- One round on the working variables. -/
def shaRound (kw : Nat) : List Nat → List Nat
  | [a, b, c, d, e, f, g, h] =>
    let t1 := h + xor3 (rotr64 14 e) (rotr64 18 e) (rotr64 41 e) +
      Nat.xor (Nat.land e f) (Nat.land (0xFFFFFFFFFFFFFFFF - e) g) + kw
    let t2 := xor3 (rotr64 28 a) (rotr64 34 a) (rotr64 39 a) + xor3 (Nat.land a b) (Nat.land a c) (Nat.land b c)
    [m64 (t1 + t2), a, b, c, m64 (d + t1), e, f, g]
  | v => v

def shaRounds (v : List Nat) : List (Nat × Nat) → List Nat
  | [] => v
  | x :: t => shaRounds (shaRound (x.1 + x.2) v) t

def beNat (bs : List Byte) : Nat := bs.foldl (fun a b => 256 * a + b.toNat) 0
def beBytes (n v : Nat) : List Byte := (leBytes n v).reverse

/-- One 128-byte block. -/
def shaBlock (h : List Nat) (blk : List Byte) : List Nat :=
  let w := (List.range 16).map (fun k => beNat ((blk.drop (8 * k)).take 8))
  let ws := (shaWords 64 w.reverse).reverse
  (h.zip (shaRounds h (shaK.zip ws))).map (fun x => m64 (x.1 + x.2))

/-- n blocks. -/
def shaBlocks : Nat → List Nat → List Byte → List Nat
  | 0, h, _ => h
  | n + 1, h, bs => shaBlocks n (shaBlock h (bs.take 128)) (bs.drop 128)

/-- SHA-384 of a message. -/
def sha384 (bs : List Byte) : List Byte :=
  let pad := (111 + 128 - bs.length % 128) % 128
  let m := bs ++ [0x80] ++ List.replicate pad 0 ++ beBytes 16 (8 * bs.length)
  ((shaBlocks (m.length / 128) shaInit m).take 6).flatMap (beBytes 8)

/-! ### ECDSA over P-384 -/

def ecP : Nat := 0xFFFFFFFFFFFFFFFFFFFFFFFFFFFFFFFFFFFFFFFFFFFFFFFFFFFFFFFFFFFFFFFEFFFFFFFF0000000000000000FFFFFFFF
def ecN : Nat := 0xFFFFFFFFFFFFFFFFFFFFFFFFFFFFFFFFFFFFFFFFFFFFFFFFC7634D81F4372DDF581A0DB248B0A77AECEC196ACCC52973
def ecB : Nat := 0xB3312FA7E23EE7E4988E056BE3F82D19181D9C6EFE8141120314088F5013875AC656398D8A2ED19D2A85C8EDD3EC2AEF
def ecG : Nat × Nat :=
  (0xAA87CA22BE8B05378EB1C71EF320AD746E1D3B628BA79B9859F741E082542A385502F25DBF55296C3A545E3872760AB7,
   0x3617DE4A96262C6F5D9E98BF9292DC29F8F41DBD289A147CE9DA3113B5F0B8C00A60B1CE1D7E819D7A431D7C90EA0E5F)

/-- b to the power e modulo m, e of at most k bits. -/
def powMod (m : Nat) : Nat → Nat → Nat → Nat
  | 0, _, _ => 1
  | k + 1, b, e =>
    let r := powMod m k (b * b % m) (e / 2)
    if e % 2 = 1 then r * b % m else r

def invMod (m x : Nat) : Nat := powMod m 384 x (m - 2)

/-- a − b modulo p. -/
def ecSub (a b : Nat) : Nat := (a + ecP - b) % ecP

/-- A point in Jacobian coordinates; Z = 0 is the point at infinity. -/
abbrev EcPoint := Nat × Nat × Nat

/-- Twice a point (a = −3). -/
def ecDouble (q : EcPoint) : EcPoint :=
  if q.2.2 = 0 ∨ q.2.1 = 0 then (1, 1, 0)
  else
    let zz := q.2.2 * q.2.2 % ecP
    let yy := q.2.1 * q.2.1 % ecP
    let b := 4 * q.1 * yy % ecP
    let a := 3 * ecSub q.1 zz * (q.1 + zz) % ecP
    let x := ecSub (a * a % ecP) (2 * b % ecP)
    (x, ecSub (a * ecSub b x % ecP) (8 * yy * yy % ecP), 2 * q.2.1 * q.2.2 % ecP)

/-- The sum of two points. -/
def ecAdd (q r : EcPoint) : EcPoint :=
  if q.2.2 = 0 then r
  else if r.2.2 = 0 then q
  else
    let zq := q.2.2 * q.2.2 % ecP
    let zr := r.2.2 * r.2.2 % ecP
    let u := q.1 * zr % ecP
    let y := q.2.1 * r.2.2 * zr % ecP
    let h := ecSub (r.1 * zq % ecP) u
    let d := ecSub (r.2.1 * q.2.2 * zq % ecP) y
    if h = 0 then (if d = 0 then ecDouble q else (1, 1, 0))
    else
      let hh := h * h % ecP
      let hhh := h * hh % ecP
      let v := u * hh % ecP
      let x := ecSub (d * d % ecP) ((hhh + 2 * v) % ecP)
      (x, ecSub (d * ecSub v x % ecP) (y * hhh % ecP), q.2.2 * r.2.2 * h % ecP)

/-- k times a point, k of at most n bits. -/
def ecMul : Nat → Nat → EcPoint → EcPoint
  | 0, _, _ => (1, 1, 0)
  | n + 1, k, q =>
    let r := ecDouble (ecMul n (k / 2) q)
    if k % 2 = 1 then ecAdd r q else r

/-- ECDSA verification of an uncompressed public key, a 384-bit digest, and the signature values. -/
def ecdsaP384 (key digest sigr sigs : List Byte) : Bool :=
  let x := beNat ((key.drop 1).take 48)
  let y := beNat ((key.drop 49).take 48)
  let r := beNat sigr
  let s := beNat sigs
  let onCurve := y * y % ecP == (x * x * x + ecB + 3 * (ecP - x)) % ecP
  if key.length ≠ 97 ∨ key.headD 0 ≠ 4 ∨ ecP ≤ x ∨ ecP ≤ y ∨ !onCurve ∨ r = 0 ∨ ecN ≤ r ∨ s = 0 ∨ ecN ≤ s then false
  else
    let w := invMod ecN s
    let q := ecAdd (ecMul 384 (beNat digest * w % ecN) (ecG.1, ecG.2, 1)) (ecMul 384 (r * w % ecN) (x, y, 1))
    if q.2.2 = 0 then false
    else
      let z := invMod ecP q.2.2
      q.1 * (z * z % ecP) % ecP % ecN == r

end Sys2Proof.Machine
end

