-- ==== Sys2Proof/Machine/Image.lean ====
section
/-! DEFINITION. Machine/Image.lean: the Ramic image (R59 to R70): header, partition table, load records, the
calibration area, the checks of R66 and what a copy places. -/

namespace Sys2Proof.Machine

/-- The bytes of a copy or of a staged image, and which of them exist (R77: a byte never downloaded does not). -/
structure Img where
  byte : Nat → Byte
  has : Nat → Bool

def Img.bytes (g : Img) (o n : Nat) : List Byte := (List.range n).map (fun k => g.byte (o + k))
def Img.num (g : Img) (n o : Nat) : Nat := leNat (g.bytes o n)
def Img.whole (g : Img) (o n : Nat) : Bool := (List.range n).all (fun k => g.has (o + k))

/-- Copy A or B as it stands in the NOR (R59). -/
def copyBase (b : Bool) : Nat := if b then 0x2000000 else 0
def State.copyImg (s : State) (b : Bool) : Img := ⟨fun o => s.norB (copyBase b + o), fun _ => true⟩
/-- The staged image (R76): in recovery mode its bytes lie in copy B. -/
def State.stagedImg (s : State) : Img :=
  ⟨fun o => if s.rst.recovery then s.norB (copyBase true + o) else (NTab.get none o s.staged).getD 0xFF,
   fun o => (NTab.get none o s.staged).isSome⟩

/-! ### The partition table (Table 3-2, R62, R63) -/

structure PEntry where
  typ : Nat
  flags : Nat
  ofs : Nat
  len : Nat
  crc : Nat
  rest : List Byte

def Img.entry (g : Img) (k : Nat) : PEntry :=
  let o := 0x40 + 32 * k
  ⟨g.num 2 o, g.num 2 (o + 2), g.num 4 (o + 4), g.num 4 (o + 8), g.num 4 (o + 12), g.bytes (o + 16) 16⟩

def Img.entries (g : Img) : List PEntry := (List.range 7).map g.entry

def allZero (bs : List Byte) : Bool := bs.all (fun b => b == 0)

/-- Longest partition of each type (Table 3-3). -/
def partMax (t : Nat) : Nat :=
  if t = 1 then 0x400000 else if t = 2 then 0x80000 else if t = 3 then 0x40000 else if t = 4 then 0x4000
  else if t = 5 then 0x1000000 else if t = 6 then 0x4000 else 0x200000

def PEntry.good (e : PEntry) : Bool :=
  decide (1 ≤ e.typ) && decide (e.typ ≤ 7) && e.ofs % 4096 == 0 && decide (e.len ≤ partMax e.typ) && allZero e.rest &&
  (if e.typ = 7 then e.flags == 0 && e.crc == 0 && e.ofs == 0x1E00000 && e.len == 0x200000
   else e.flags == 1 && decide (0x1000 ≤ e.ofs) && decide (e.ofs + e.len ≤ 0x1E00000))

/-- One entry of each type, none overlapping another, ENTRY inside what type 1 places. -/
def Img.tableGood (g : Img) : Bool :=
  let es := g.entries
  let one (t : Nat) := (es.filter (fun e => e.typ == t)).length == 1
  g.num 2 0x6 == 7 && es.all PEntry.good && allZero (g.bytes (0x40 + 32 * 7) 32) && [1, 2, 3, 4, 5, 6, 7].all one &&
  es.all (fun e => es.all (fun f => e.typ == f.typ || !overlaps e.ofs (e.ofs + e.len) f.ofs (f.ofs + f.len))) &&
  es.all (fun e => e.typ != 1 || within 0x2000000 (0x2000000 + e.len) (g.num 8 0x18))

/-! ### Load records (R64) -/

/-- Destination ranges of a partition type (Table 3-3). -/
def partRanges (t : Nat) : List (Nat × Nat) :=
  if t = 2 then [(0x10100000, 0x10280000)] else if t = 3 then [(0x10500000, 0x10550000)]
  else if t = 4 then [(0x10580000, 0x10590000)]
  else if t = 5 then [(bufLo, bufLo + 0x1000000), (0x10300000, 0x10480000)]
  else if t = 6 then [(0x10800000, 0x11000000), (0x11000000, 0x11800000), (0x10050000, 0x10060000), (0x10020000, 0x10020800)]
  else []

/-- The records of a partition in order, up to the first that breaks R64, and whether none does. -/
def records (t : Nat) : Nat → List Byte → List (Nat × List Byte) × Bool
  | 0, bs => ([], bs.isEmpty)
  | n + 1, bs =>
    if bs.isEmpty then ([], true)
    else
      let a := leNat (bs.take 8)
      let len := leNat ((bs.drop 8).take 4)
      let padded := (16 + len + 7) / 8 * 8
      if bs.length < padded ∨ a % 4 ≠ 0 ∨ len % 4 ≠ 0 ∨ len < 4 ∨ leNat ((bs.drop 12).take 4) ≠ 0 ∨
          !allZero ((bs.take padded).drop (16 + len)) ∨ !(partRanges t).any (fun r => decide (r.1 ≤ a) && decide (a + len ≤ r.2)) then
        ([], false)
      else
        let r := records t n (bs.drop padded)
        ((a, (bs.drop 16).take len) :: r.1, r.2)

/-! ### The calibration area (R70) -/

inductive Cal where
  | valid (len : Nat)
  | empty
  | bad
  deriving DecidableEq

/-- A calibration set of 64 + LEN bytes: CMAGIC, CALVER, LEN and CALCRC. -/
def calGood (head : List Byte) (body : Nat → List Byte) : Cal :=
  let len := leNat ((head.drop 0xC).take 4)
  if leNat (head.take 4) = 0x534C4143 ∧ leNat ((head.drop 4).take 2) = 1 ∧ len % 4 = 0 ∧ len ≤ 2097088 ∧
      crc32c (head.take 0x3C ++ body len) = leNat ((head.drop 0x3C).take 4) then .valid len
  else if head.all (fun b => b == 0xFF) then .empty else .bad

def Img.cal (g : Img) : Cal := calGood (g.bytes 0x1E00000 64) (fun n => g.bytes 0x1E00040 n)

/-! ### Checking and loading a copy (R66, Table 3-4) -/

structure Load where
  reason : Nat := 0
  part : Nat := 0
  /-- What the copy places, in order. -/
  placed : List (Nat × List Byte) := []
  calEmpty : Bool := false

/-- One partition. cal tells whether the calibration area is read, as the loader does and a commit does not (R77). -/
def Img.part (g : Img) (cal : Bool) (l : Load) (e : PEntry) : Load :=
  if l.reason ≠ 0 then l
  else if e.typ = 7 then
    if cal then
      match g.cal with
      | .valid n => { l with placed := l.placed ++ [(0x801000000, g.bytes 0x1E00000 (64 + n))] }
      | .empty => { l with calEmpty := true }
      | .bad => { l with reason := 5, part := 7 }
    else l
  else
    let data := g.bytes e.ofs e.len
    if !g.whole e.ofs e.len ∨ crc32c data ≠ e.crc then { l with reason := 3, part := e.typ }
    else if e.typ = 1 then { l with placed := l.placed ++ [(0x2000000, data)] }
    else
      let r := records e.typ (e.len / 24 + 1) data
      { l with placed := l.placed ++ r.1, reason := if r.2 then 0 else 4, part := if r.2 then 0 else e.typ }

/-- PUBKEY of the header. -/
def Img.pubkey (g : Img) : List Byte := g.bytes 0x140 97

/-- The checks of R66 on the header, in order, with the fused key hash and SECVER_MIN: the reason of the first that
fails, 0 when none does. -/
def Img.header (g : Img) (hash : List Byte) (secmin : Nat) : Nat :=
  if g.num 4 0 ≠ 0x434D4152 ∨ g.num 2 4 ≠ 1 ∨ crc32c (g.bytes 0 0x220) ≠ g.num 4 0x220 then 1
  else if sha384 g.pubkey ≠ hash then 6
  else if g.num 4 8 < secmin then 7
  else if !g.tableGood then 2 else 0

/-- The header and then partitions of a list, in order. -/
def Img.parts (g : Img) (hash : List Byte) (secmin : Nat) (cal : Bool) (es : List PEntry) : Load :=
  let r := g.header hash secmin
  if r ≠ 0 then { reason := r } else es.foldl (fun l e => g.part cal l e) {}

/-- The signed message of R66: header bytes 0x000 to 0x1BF, then partitions 1 to 6 in table order. -/
def Img.signed (g : Img) : List Byte :=
  g.bytes 0 0x1C0 ++ ((g.entries.filter (fun e => e.typ != 7)).map (fun e => g.bytes e.ofs e.len)).flatten

/-- The checks of R66 in order. -/
def Img.load (g : Img) (hash : List Byte) (secmin : Nat) (cal : Bool) : Load :=
  let l := g.parts hash secmin cal g.entries
  if l.reason ≠ 0 then l
  else if ecdsaP384 g.pubkey (sha384 g.signed) (g.bytes 0x1C0 48) (g.bytes 0x1F0 48) then l
  else { l with reason := 8, part := 0 }

/-- What the loader has done when it reads partition part, 0 while it reads the header. -/
def Img.upTo (g : Img) (hash : List Byte) (secmin : Nat) (part : Nat) : Load :=
  if part = 0 then {} else g.parts hash secmin true (g.entries.takeWhile (fun e => e.typ != part))

/-- SECVER_MIN (R67). -/
def State.secMin (s : State) : Nat := s.mrd 4 0x0100FF00
def State.loadOf (s : State) (g : Img) (cal : Bool) : Load := g.load (Config.keyHash (s.rd .RST_FUSE_KEYSEL)) s.secMin cal
def State.loadUpTo (s : State) (g : Img) (part : Nat) : Load := g.upTo (Config.keyHash (s.rd .RST_FUSE_KEYSEL)) s.secMin part

/-! ### Placing (R64, R68) -/

/-- Stores a run of bytes: 32-bit stores into the register region, bytes elsewhere. -/
def State.placeRun (s : State) (a : Nat) (bs : List Byte) : State :=
  if within 0x10000000 0x12000000 a then
    (List.range (bs.length / 4)).foldl (fun s k => s.loaderStore (a + 4 * k) (leNat ((bs.drop (4 * k)).take 4))) s
  else s.busWrite a bs false

def State.unplaceRun (s : State) (a n : Nat) : State :=
  if within 0x10000000 0x12000000 a then (List.range (n / 4)).foldl (fun s k => s.loaderUndo (a + 4 * k)) s
  else s.busWrite a (List.replicate n 0) false

/-- Runs are stored in order; a stored permit enable acts at once (Table 5-5). -/
def State.place (s : State) (l : List (Nat × List Byte)) : State := (l.foldl (fun s r => s.placeRun r.1 r.2) s).updWp
def State.unplace (s : State) (l : List (Nat × List Byte)) : State :=
  (l.foldl (fun s r => s.unplaceRun r.1 r.2.length) s).updWp

/-- BOOT_CAUSE code of a copy's outcome (Table 3-4); 15 is a copy not tried. -/
def causeCode (reason : Nat) : Nat :=
  if reason = 0 then 1 else if reason ≤ 5 then 2 else if reason ≤ 8 then 3 else if reason = 9 then 4 else 0

end Sys2Proof.Machine
end

