-- ==== Sys2Proof/Machine/ResetOps.lean ====
section
/-! DEFINITION. Machine/ResetOps.lean: what a level reset and a soft reset return (R7, R34, R42, R56), and the shared
operations of the reset controller and the loader (R38 to R54, R66 to R69). -/

namespace Sys2Proof.Machine

def State.setRst (s : State) (r : Rstc) : State := { s with rst := r }

/-! ### Level resets (R7, R33, R34, R42) -/

/-- A field of this reach keeps its value through a reset of level lvl (Table 0-4). -/
def survives (lvl : Nat) : Reach → Bool
  | .kept => true
  | .L0 => decide (1 ≤ lvl)
  | .L1 => decide (2 ≤ lvl)
  | .L2 => false

/-- Memory that a level reset leaves as it is: MRAM, buffer memory (R225), and the window memories that have no reset
value. SRAM and the context RAM start empty, and so do the window memories of reach L2. -/
def keepsMem (a : Nat) : Bool :=
  within mramLo 0x01010000 a || decide (bufLo ≤ a) ||
  (match winMem a with
   | some (.commandQueue _ _) | some (.expect _ _) | some (.identity _) => false
   | some _ => true
   | none => false)

/-- The NOR range an erase or program was working on is torn (R74, R426): its bytes are free. -/
def State.norTear (s : State) : State :=
  match (s.norq.head?).bind (fun j => j.ops.head?) with
  | some op =>
    let n := op.hi - op.lo
    let bs := (List.range n).map (fun k => BitVec.ofNat 8 (Config.freeValue (s.free + k)))
    { s with nor := Tab.splice 0xFF op.lo bs s.nor, norq := [], free := s.free + n }
  | none => { s with norq := [] }

/-- Completed blocks not yet durable hold their old or their new data (R277). -/
def State.loseDirty (s : State) : State :=
  s.hif.dirty.foldl (fun s e =>
    let (x, s) := s.draw 1
    if x = 1 then s
    else
      let s : State := { s with hif := { s.hif with blocks := NTab.put [] e.1 (e.2.getD []) s.hif.blocks } }
      if e.2.getD [] ≠ [] ∧ (s.ns? (e.1 / 2 ^ 48)).any (fun n => !n.zoned) ∧ (s.convHolder e.1).isNone then s.mapConv e.1 else s) s

/-- A zone at the end of its durable data; no zone is open (R277, R297). -/
def Zone.lost (z : Zone) : Zone :=
  let z := { z with fill := z.dfill, esc := z.esc.filter (fun e => decide (e.1 < z.dfill)), tags := z.tags.filter (fun e => decide (e.1 < z.dfill)) }
  match z.st with
  | .implicit | .explicit | .closed => { z with st := if z.dwp = 0 then .empty else .closed, wp := z.dwp, unit := 0 }
  | .full => if z.dwp = z.wp then z else { z with st := if z.dwp = 0 then .empty else .closed, wp := z.dwp, unit := 0 }
  | _ => { z with unit := 0 }

/-- What NVMe keeps through a reset of the module: namespaces, zones, stored blocks and the self-test log. -/
def State.hifReset (s : State) : State :=
  let s := (s.endTest 2).loseDirty
  let zones := s.hif.zones.foldl (fun t e => NTab.put {} e.1 e.2.lost t) ([] : NTab Zone)
  State.mediaStop <| State.setZones { s with hif := { nss := s.hif.nss, zstamp := s.hif.zstamp, blocks := s.hif.blocks, bad := s.hif.bad, testLog := s.hif.testLog } } zones

/-- A current command as SPN_HOLD.ICMD holds it: unsigned, so a negative one is kept as 0 and one above 4,095 mA as 4,095.
The spec gives the field and neither case (log entry 99). -/
def holdIcmd (x : Rat) : Nat := (max 0 (min 4095 (roundQ x))).toNat

/-- The power die takes a spindle under SCE[4] into its speed hold at an L2 reset (R98). How long after the last crossing the
reset comes, and so which of the crossing's commands was the last, is free. -/
def State.holdSpeed (s : State) : State :=
  let spd := s.rd .SPN_MEAS_SPEED
  let (x, s) := s.draw 32
  let icmd := holdIcmd (s.planned x).spn.icmd
  (((s.wr .SPN_HOLD_SPD spd).wr .SPN_HOLD_ICMD icmd).wr .SPN_HOLD_ACTIVE 1).hold 182 [(2, spd), (2, icmd)]

/-- The voice coils with the spindle at rest, and every microactuator, go to zero (Table 2-4). -/
def State.quietArms (s : State) : State :=
  (List.range 4).foldl (fun s a => (s.stopLoops a).emit (.vcmOff a)) s

/-- The spindle bridge at a reset: the power die holds the speed at L2, and otherwise the bridge is off (Table 2-4, R98). That
12 V is present is judged by the write permit's VBUS window: the spec names no other measure (log entry 99). -/
def State.bridgeAtReset (s : State) (lvl : Nat) : State :=
  if lvl = 2 ∧ s.spn.loop ∧ s.pwr.v12 then s.holdSpeed
  else if lvl = 2 ∧ s.bit .SPN_HOLD_ACTIVE then s
  else s.emit (.bridge .off 0)

/-- Write gates fall (Table 2-4). -/
def State.gatesLow (s : State) : State :=
  (List.range 24).foldl (fun s h => if (s.chan h).wg then s.emit (.writeGate h false) else s) s

/-- An accepted reset of level lvl: every domain in reach enters reset (R34), the outputs take the states of Table 2-4, the
power die retracts if the spindle turns (R100) and holds its speed at L2 (R98), and the pass closes (R10). The reset
controller's own state is set by the command that accepts the reset. -/
def State.levelReset (s : State) (lvl : Nat) : State :=
  let s := (s.setPwr { s.pwr with link := false }).updWp
  let s := if s.pwr.turning then s.retract .reset else s.quietArms
  let s := (s.bridgeAtReset lvl).gatesLow
  let s := s.hifReset.norTear
  let s := { s with
    regs := s.regs.filter (fun e => survives lvl e.1.reg.info.reach)
    mem := s.mem.filter (fun e => keepsMem e.1)
    poison := s.poison.filter (fun e => decide (bufLo ≤ 64 * e.1))
    staged := [], ev := {}, erec := {}, age := { volt := if lvl = 0 ∨ s.bit .AGE_STAT_BUSY then 0 else s.age.volt }, spn := {}, arms := []
    psw := { perst := s.psw.perst, swOpen := if s.rd .PSW_PASS_STATE = 0 then s.psw.swOpen else 0 }
    l2 := {}, hses := [], chans := [], hls := [], oce := {}, dma := {}, buf := {}, frc := {}
    med := { s.med with held := if lvl = 0 then [] else s.med.held, slackLow := 0, slackHigh := 0 } }
  let held := s.pwr.held.filter (fun e => e.1 != 247 && e.1 != 248)
  let s := s.setPwr { s.pwr with plaus := [], fresh := [], held := held, ma := false, biasA := false, biasB := false }
  if s.bit .SPN_HOLD_ACTIVE then s.wr .SPN_STAT_STATE 7 else s

/-! ### The reset controller -/

/-- Level fused for SYSRST_N (R32). -/
def State.pinLevel (s : State) : Nat := min 2 (s.rd .RST_FUSE_PINLVL)

def toLevel (n : Nat) : Fin 3 := if n = 0 then 0 else if n = 1 then 1 else 2

/-- BOOT_CAUSE, written whole (R58). -/
def State.bootCause (s : State) (window : Bool) (halt : Nat) : State :=
  let s := (s.wr .BOOT_CAUSE_COPYA (causeCode s.rst.reasonA)).wr .BOOT_CAUSE_COPYB (causeCode s.rst.reasonB)
  ((s.wrb .BOOT_CAUSE_WINDOW window).wrb .BOOT_CAUSE_BUFFAIL s.rst.buffail).wr .BOOT_CAUSE_HALT halt

/-- The RO fields that every start and a loader restart write (RST_STAT, LDR_STAT, LDR_ENTRY, LDR_SECVER). -/
def State.writeStat (s : State) (level : Nat) : State :=
  let r := s.rst
  let s := ((s.wr .RST_STAT_LEVEL level).wrb .RST_STAT_SRC_POR r.tookPor).wrb .RST_STAT_SRC_PIN r.tookPin
  let s := ((s.wrb .RST_STAT_SRC_OUT r.tookOut).wr .RST_STAT_COPY r.copy).wrb .RST_STAT_RECOVERY r.recovery
  let s := ((s.wr .LDR_STAT_REASONA r.reasonA).wr .LDR_STAT_REASONB r.reasonB).wr .LDR_STAT_PART r.part
  let s := ((s.wrb .LDR_STAT_CALEMPTY r.calEmpty).wr .LDR_ENTRY_ENTRY r.entry).wr .LDR_SECVER_SECVER r.secver
  s.wr .LDR_SECMIN_SECMIN s.secMin

/-- The pulse generator starts, unless a pulse is in progress (R53). -/
def State.pulseStart (s : State) (c : PulseCause) : State :=
  if s.rst.pulse.isSome then s else s.setRst { s.rst with pulse := some c, pulseSeen := s.rst.pin }

/-- BOOT_TRIES + 1, saturating at 7 (R44, R46). -/
def State.countTry (s : State) : State := s.satAdd .BOOT_TRIES_TRIES 1

/-! ### The loader -/

/-- The loader enters recovery mode (R47, R50): step 6 completes. No image is loaded, so the Firmware Revision it reports is
open. -/
def State.recoveryMode (s : State) : State :=
  let r := { s.rst with recovery := true, copy := 3, entry := 0, secver := 0, done := true }
  (s.setRst r).raise 295 [(1, s.rd .BOOT_TRIES_TRIES), (1, b2n r.buffail)]

/-- The loader starts: its decision, then copy A (R47). -/
def State.loaderStart (s : State) : State :=
  let r := { s.rst with copyB := false, reasonA := 15, reasonB := 15, part := 0, calEmpty := false, parts := [], fwver := [], entry := 0, secver := 0,
                        copy := 3, recovery := false, done := false }
  let s := s.setRst r
  if s.rd .RST_FUSE_BOOT_LIMIT ≤ s.rd .BOOT_TRIES_TRIES ∨ r.buffail then s.recoveryMode else s

/-- The loader is at work on a copy. -/
def State.loading (s : State) : Bool :=
  s.rst.xsys && s.rst.step == 6 && !s.rst.done && !s.rst.failed && !s.rst.por && !s.rst.pin && !s.rst.restartGap

/-- Neither copy passes (R46, R48). -/
def State.loaderFail (s : State) : State :=
  let s := (s.bootCause false 0).countTry
  let s := s.setRst { s.rst with failed := true }
  let s := s.raise 294 [(1, causeCode s.rst.reasonA), (1, causeCode s.rst.reasonB), (1, s.rd .BOOT_TRIES_TRIES)]
  if s.pinLevel = 0 then s.recoveryMode else s.pulseStart .loader

/-- The copy at hand fails with a reason, and the next is tried or the start fails (R46, R68, R69). -/
def State.copyFails (s : State) (reason part : Nat) (placed : List (Nat × List Byte)) : State :=
  let s := (s.place placed).unplace placed
  if s.rst.copyB then (s.setRst { s.rst with reasonB := reason, part := part }).loaderFail
  else (s.setRst { s.rst with reasonA := reason, part := part, copyB := true }).raise 298 [(1, causeCode reason)]

/-- The copy at hand is good: step 6 completes (R65, R66). -/
def State.copyGood (s : State) (g : Img) (l : Load) : State :=
  let s := s.place l.placed
  let parts := ([4, 5, 6].map (fun t => ((g.entries.filter (fun e => e.typ == t)).map (fun e => g.bytes e.ofs e.len)).flatten))
  let r := { s.rst with calEmpty := l.calEmpty, parts := parts, fwver := g.bytes 0x10 8, entry := g.num 8 0x18, secver := g.num 4 8, done := true,
                        copy := b2n s.rst.copyB }
  s.setRst (if r.copyB then { r with reasonB := 0 } else { r with reasonA := 0 })

/-! ### Soft resets (R55, R56) -/

/-- Fields of a block that a soft reset returns: reach L2, not RWL. -/
def softField (b : Blk) (i : Nat) (k : RKey) : Bool :=
  k.reg.info.blk == b && (k.i == i || k.reg.info.n1 == 1) && k.reg.info.reach == .L2 && k.reg.info.acc != .RWL

def State.dropFields (s : State) (p : RKey → Bool) : State := { s with regs := s.regs.filter (fun e => !p e.1) }
def State.dropMem (s : State) (lo hi : Nat) : State := { s with mem := s.mem.filter (fun e => !within lo hi e.1) }

/-- IDLE of the block a code selects (Table 2-6); no block has another code. -/
def State.softIdle (s : State) (sel : Nat) : Option Bool :=
  if sel < 24 then some (s.rd .HSE_STAT_STATE sel == 0 && s.rd .HSE_STAT_GATES sel / 2 == 0)
  else if within 0x20 0x38 sel then
    let h := sel - 0x20
    some (s.rd .HSE_STAT_GATES h / 2 == 0 && (s.chan h).rf.isEmpty && !s.bit .CHAN_STAT_RDBUSY h)
  else if within 0x40 0x44 sel then
    let st := s.rd .SCE_STAT_STATE (sel - 0x40)
    some ((st == 0 || st == 1 || st == 7) && s.pwr.retract == 0 && !NSet.has (sel - 0x40) s.pwr.tripped)
  else if sel = 0x44 then some (!s.spn.loop && !s.pwr.turning)
  else if sel = 0x50 then some ((List.range 384).all (fun g => s.rd .GCTX_MODE g != 1))
  else if sel = 0x51 then some ((List.range 8).all (fun k => s.rd .FRC_LSTAT_STATE k != 1))
  else if sel = 0x52 then some ((List.range 128).all (fun c => s.rd .DMA_CHSTAT_STATE c != 1))
  else none

/-- The block returns to its reset state; loaded memories stay. Requests that have arrived on the DMA engine's lines are
pending there (R233): they outlast their sequencer's reset and not the engine's. -/
def State.softReset (s : State) (sel : Nat) : State :=
  if sel < 24 then
    let v := s.hse sel
    ((s.dropFields (softField .HSE sel)).setHse sel { wreq := v.wreq, rreq := v.rreq }).dropMem (hseBase sel + 0x400) (hseBase sel + 0x600)
  else if within 0x20 0x38 sel then
    let h := sel - 0x20
    ((s.dropFields (softField .CHAN h)).setChan h {}).dropMem (chanBase h + 0x400) (chanBase h + 0x500)
  else if within 0x40 0x44 sel then
    let a := sel - 0x40
    let s := (s.dropFields (softField .SCE a)).setArm a {}
    (s.setPwr { s.pwr with plaus := NSet.del a s.pwr.plaus }).updWp
  else if sel = 0x44 then (s.dropFields (softField .SCE 4)).setSpn {}
  else if sel = 0x50 then { s.dropFields (fun k => softField .OCE k.i k) with oce := {} }
  else if sel = 0x51 then { s.dropFields (fun k => softField .FRC k.i k) with frc := { s.frc with lanes := [], kjob := none } }
  else if sel = 0x52 then
    let s := { s.dropFields (fun k => softField .DMA k.i k) with dma := {} }
    (List.range 24).foldl (fun s h => s.setHse h { s.hse h with wreq := [], rreq := [] }) s
  else s

end Sys2Proof.Machine
end

