-- ==== Sys2Proof/Machine/Nor.lean ====
section
/-! DEFINITION. Machine/Nor.lean: the commands that write the NOR (R73 to R78, R426): calibration sets, firmware images,
commits, and activation without reset (R278). -/

namespace Sys2Proof.Machine

/-! ### NOR writes (R426) -/

/-- Erases every sector the range touches, then programs. -/
def State.norDo (s : State) (op : NorOp) : State :=
  let sec := max 1 Config.norSector
  let lo := op.lo / sec * sec
  let hi := (op.hi + sec - 1) / sec * sec
  let t := if op.erase then s.nor.filter (fun e => !within lo hi e.1) else s.nor
  { s with nor := op.prog.foldl (fun t p => Tab.splice 0xFF p.1 p.2 t) t }

/-- A range that did not read back as written holds free bytes. -/
def State.norBad (s : State) (op : NorOp) : State :=
  let n := op.hi - op.lo
  let bs := (List.range n).map (fun k => BitVec.ofNat 8 (Config.freeValue (s.free + k)))
  { s with nor := Tab.splice 0xFF op.lo bs s.nor, free := s.free + n }

def calLo (copy : Bool) : Nat := copyBase copy + 0x1E00000
/-- A calibration area written with a set (R74, R77); an empty set leaves it erased. -/
def calOp (copy : Bool) (set : List Byte) : NorOp :=
  { lo := calLo copy, hi := calLo copy + 0x200000, prog := [(calLo copy, set)] }

/-- Header and partitions 1 to 6 of an image. -/
def Img.runs (g : Img) (base : Nat) : List (Nat × List Byte) :=
  (base, g.bytes 0 4096) :: (g.entries.filter (fun e => e.good && e.typ != 7)).map (fun e => (base + e.ofs, g.bytes e.ofs e.len))

/-- A copy's header and partitions written with an image (R426). -/
def imageOp (copy : Bool) (g : Img) : NorOp :=
  { lo := copyBase copy, hi := copyBase copy + 0x1E00000, prog := g.runs (copyBase copy) }

/-- The checks of the staged image: some status when it fails. -/
def State.stagedBad (s : State) : Option Nat :=
  let r := (s.loadOf s.stagedImg false).reason
  if r = 0 ∧ s.stagedImg.whole 0 0x224 then none else if r = 7 then some scFwProhibited else some scFwImage

/-- The surviving calibration set of a recovery commit (R77). -/
def State.survivor (s : State) : List Byte :=
  let set (b : Bool) : Option (List Byte) := match (s.copyImg b).cal with
    | .valid n => some ((s.copyImg b).bytes 0x1E00000 (64 + n))
    | _ => none
  let opt (l : List Byte) := leNat ((l.drop 0x2C).take 8)
  match set false, set true with
  | some a, some b => if opt a < opt b then b else a
  | some a, none => a
  | none, some b => b
  | none, none => []

/-- Copy A to copy B, where copy A passes R66, then the staged image to copy A. -/
def State.bothOps (s : State) : List NorOp :=
  let cal := s.runningCal
  let a := s.copyImg false
  (if (s.loadOf a true).reason = 0 then [imageOp true a, calOp true cal] else []) ++ [imageOp false s.stagedImg, calOp false cal]

/-- The erase that the first fragment of recovery mode makes (R76). -/
def wipeOp : NorOp := { lo := 0x2000000, hi := 0x3E00000, prog := [] }

/-- The part of a fragment that lies in erase sector k: programmed as it is, or, where an earlier fragment has programmed
the sector since the erase, merged into the sector, which is erased and programmed again (R426). -/
def State.fragmentOp (s : State) (lo : Nat) (d : List Byte) (k : Nat) : NorOp :=
  let sec := max 1 Config.norSector
  let a := max lo (k * sec)
  let b := min (lo + d.length) ((k + 1) * sec)
  let piece := (d.drop (a - lo)).take (b - a)
  if s.staged.any (fun e => within (k * sec) ((k + 1) * sec) (0x2000000 + e.1)) then
    let old := s.norBs (k * sec) sec
    { lo := k * sec, hi := (k + 1) * sec, prog := [(k * sec, old.take (a - k * sec) ++ piece ++ old.drop (b - k * sec))] }
  else { lo := a, hi := b, erase := false, prog := [(a, piece)] }

/-- A fragment of recovery mode, sector by sector; the first one follows the erase (R76, R426). -/
def State.fragmentOps (s : State) (o : Nat) (d : List Byte) : List NorOp :=
  let sec := max 1 Config.norSector
  let lo := 0x2000000 + o
  let n := if d.isEmpty then 0 else (lo + d.length - 1) / sec + 1 - lo / sec
  (if s.staged.isEmpty then [wipeOp] else []) ++ (List.range n).map (fun k => s.fragmentOp lo d (lo / sec + k))

/-- Partitions 4, 5 and 6 of an image. -/
def Img.fixed (g : Img) : List (List Byte) :=
  [4, 5, 6].map (fun t => ((g.entries.filter (fun e => e.typ == t)).map (fun e => g.bytes e.ofs e.len)).flatten)

/-- The writes of a job as the NOR and the staged image stand at its turn (Table 3-7, R74, R76, R77). -/
def State.jobAt (s : State) (j : NorJob) : NorJob :=
  let cal := s.runningCal
  let loaded := s.rst.copy == 1
  let both := if j.ofs = 2 then [imageOp true s.stagedImg, calOp true cal] else s.bothOps
  match j.kind with
  | .fragment => { j with ops := s.fragmentOps j.ofs j.data }
  | .calibration | .selfCal => { j with ops := [calOp (!loaded) j.data, calOp loaded j.data] }
  | .commitPlain => { j with ops := [imageOp true s.stagedImg, calOp true cal] }
  | .commitReset => { j with ops := both }
  | .commitCopy => { j with ops := [imageOp false (s.copyImg true), calOp false cal] }
  | .commitActivate => { j with ops := both, kind := if s.stagedImg.fixed = s.rst.parts then .commitActivate else .commitReset }
  | .commitRecovery =>
    { j with ops := [imageOp false (s.copyImg true), calOp false s.survivor, calOp true s.survivor] }

/-- Status of a commit whose staged image fails its checks; it is checked before anything is written (R77). -/
def State.jobBad (s : State) (j : NorJob) : Option Nat :=
  match j.kind with
  | .commitPlain | .commitReset | .commitActivate | .commitRecovery => s.stagedBad
  | .fragment | .calibration | .selfCal | .commitCopy => none

/-- A job's command completes. -/
def State.jobEnd (s : State) (j : NorJob) (st : Nat) : State :=
  match s.cmd? j.tag with
  | some c => s.finishCmd c st 0 0
  | none => s

/-! ### Activation without reset (R278) -/

/-- Commands admitted and not completed, other than a tag's. -/
def State.others (s : State) (tag : Nat) : List Cmd :=
  s.hif.cmds.filter (fun c => c.tag != tag && !c.done)

/-- The drain begins: CSTS.PP is 1 at every controller while it lasts (State.csts); the notice, event 231, fetching stops; open units are closed (R311). -/
def State.drainStart (s : State) (tag : Nat) : State :=
  let s := (s.enabled.foldl (fun s f => s.notify f 9 noticeFirmware) s).raise 231 [(4, (s.others tag).length + 1)]
  { s with hif := { s.hif with drain := some tag } }.closeUnits (fun _ => true)

/-- The drain ends: fetching resumes, CSTS.PP clears, the commit completes. -/
def State.drainEnd (s : State) (tag result ms st : Nat) : State :=
  let s := { s with hif := { s.hif with drain := none } }.raise 232 [(1, result), (2, ms)]
  match s.cmd? tag with
  | some c => s.finishCmd c st 0 0
  | none => s

/-- Base of the bank that is not active, and the size of a bank of SCE[e]. -/
def bankSize (e : Nat) : Nat := if e = 4 then 0x80 else 0x200
def State.idleBank (s : State) (e : Nat) : Nat :=
  0x10500000 + 0x10000 * e + 0x1000 + if s.bit .SCE_BANKSEL_ACTIVE e then 0 else bankSize e

/-- A word of the new SCE partition: a bank word goes to the inactive bank; tables are stored. -/
def State.activateWord (s : State) (a v : Nat) : State :=
  match winMem a with
  | some (.bank e o) => s.mwr 4 (s.idleBank e + (o - 0x1000) % bankSize e) v
  | some (.friction _ _) => s.mwr 4 a v
  | some (.cogging _) => s.cogStore ((a - cogAddr 0) / 4) v
  | _ => s

/-- SCE[e] of a bank word, none elsewhere. -/
def bankOf (a : Nat) : Option Nat :=
  match winMem a with
  | some (.bank e _) => some e
  | _ => none

/-- The new coefficients of an SCE partition enter the inactive banks, and every SCE with a new word in its bank castles to it
(R118): stopped loops at once, running ones at their next samples. A castling already pending and AUTO do not refuse
the module's own (log entry 107). -/
def State.activateSce (s : State) (recs : List (Nat × List Byte)) : State :=
  let words := recs.flatMap (fun r => (List.range (r.2.length / 4)).map (fun k => (r.1 + 4 * k, leNat ((r.2.drop (4 * k)).take 4))))
  let s := words.foldl (fun s w => s.activateWord w.1 w.2) s
  (List.range 5).foldl (fun s e => if words.any (fun w => bankOf w.1 == some e) then s.castleTo e (1 - s.bankNow e) else s) s

/-- The new core firmware, microcode and SCE coefficients are placed; the HSEs are halted first. -/
def State.activate (s : State) : State :=
  let g := s.copyImg false
  let s := s.setRst { s.rst with fwver := g.bytes 0x10 8, secver := g.num 4 8 }
  let s := (List.range 24).foldl (fun s h => if s.running h then (s.wr .HSE_CTL_RUN 0 h).hseHalt h 2 else s) s
  g.entries.foldl (fun s e =>
    let data := g.bytes e.ofs e.len
    if e.typ = 1 then s.placeRun 0x2000000 data
    else if e.typ = 2 then s.place (records 2 (e.len / 24 + 1) data).1
    else if e.typ = 3 then
      s.activateSce (records 3 (e.len / 24 + 1) data).1
    else s) s

/-- ACTIVATION_DRAIN_DONE (R278). -/
def execActivationDrainDone (ms : W16) (s : State) : Res :=
  .next (match s.hif.drain with
    | none => s
    | some t => s.on (s.others t).isEmpty (fun s => s.activate.drainEnd t 0 ms.toNat 0))

/-- ACTIVATION_DRAIN_TIMEOUT (R278). -/
def execActivationDrainTimeout (s : State) : Res :=
  .next (match s.hif.drain with
    | none => s
    | some t => s.drainEnd t 1 2000 scFwReset)

/-! ### The queue of NOR writes (R74, R77, R78, R426) -/

/-- A job whose writes have all read back as written. A recovery commit completes with Successful Completion: neither R51
nor R77 names its status (log entry 98). -/
def State.jobDone (s : State) (j : NorJob) : State :=
  match j.kind with
  | .fragment | .calibration | .commitPlain => s.jobEnd j 0
  | .selfCal => s
  | .commitReset | .commitCopy => s.jobEnd j scFwReset
  | .commitActivate => s.drainStart j.tag
  | .commitRecovery => ((s.jobEnd j 0).wr .BOOT_TRIES_TRIES 0).pulseStart .firmware

/-- A fragment of recovery mode is part of the staged image from its turn on (R76). -/
def State.stageAt (s : State) (j : NorJob) : State :=
  if j.kind = .fragment then { s with staged := Tab.splice none j.ofs (j.data.map some) s.staged } else s

/-- The first job of a list has its turn: its writes are worked out, and it runs. One whose image fails its checks, or that
writes nothing, ends at once, and the next has its turn. -/
def State.startJobs : List NorJob → State → State
  | [], s => { s with norq := [] }
  | j :: t, s =>
    match s.jobBad j with
    | some st => State.startJobs t (s.jobEnd j st)
    | none =>
      if (s.jobAt j).ops.isEmpty then State.startJobs t (s.jobDone j)
      else { s.stageAt j with norq := s.jobAt j :: t }

/-- A job waits behind the one that runs, in admission order (R78). -/
def State.addJob (s : State) (j : NorJob) : State :=
  match s.norq with
  | [] => State.startJobs [j] s
  | f :: rest => { s with norq := f :: (rest.takeWhile (fun k => decide (k.seq ≤ j.seq)) ++ j :: rest.dropWhile (fun k => decide (k.seq ≤ j.seq))) }

/-- NOR_WRITE_COMPLETE (R426): the write at the front has been read back; bad is the offset of a mismatch, which event 315
gives counted from the start of the copy (log entry 98). -/
def execNorWriteComplete (ok : Bool) (bad : W32) (s : State) : Res :=
  .next (match s.norq with
    | [] => s
    | j :: rest =>
      match j.ops with
      | [] => State.startJobs rest ({ s with norq := rest }.jobDone j)
      | op :: more =>
        if ok then
          let s := s.norDo op
          if more.isEmpty then State.startJobs rest ({ s with norq := rest }.jobDone j)
          else { s with norq := { j with ops := more } :: rest }
        else
          let s := { s.norBad op with norq := rest }
          let s := match j.kind with
            | .calibration | .selfCal => s.raise 315 [(1, b2n (decide (0x2000000 ≤ op.lo))), (4, bad.toNat % 0x2000000)]
            | _ => s
          State.startJobs rest (s.jobEnd j scInternal))

/-! ### Calibration (R73, R74) -/

/-- SN of a set differs from that of the loaded copy's set, while that area is not empty (R73). -/
def State.otherDrive (s : State) (set : List Byte) : Bool :=
  let area := (s.copyImg (s.rst.copy == 1)).bytes 0x1E00000 64
  !area.all (fun b => b == 0xFF) && (set.drop 0x10).take 20 != (area.drop 0x10).take 20

/-- A set is good for a Calibration Set Write (R73). -/
def State.calAccepts (s : State) (c : Cmd) (set : List Byte) : Bool :=
  match calGood (set.take 64) (fun n => (set.drop 64).take n) with
  | .valid len => c.e.cdw11.toNat == 0x43414C31 && c.e.cdw10.toNat == 16 + len / 4 && set.length == 64 + len && !s.otherDrive set
  | _ => false

/-- CALIBRATION_SET_WRITE (R73, R74). -/
def execCalibrationSetWrite (tag : Tag) (data : List Byte) (s : State) : Res :=
  s.onCmd (s.admin? tag.toNat 0xC4) (fun c =>
    if s.calAccepts c data then s.addJob { kind := .calibration, tag := c.tag, seq := c.aseq, data := data }
    else s.finishCmd c scField 0 0)

/-- CALIBRATION_SET_READ (R74). The spec says nothing of a count beyond the 2 MiB area: the model cuts the data to the area
and completes the command (log entry 98). -/
def execCalibrationSetRead (tag : Tag) (s : State) : Res :=
  s.onCmd (s.admin? tag.toNat 0xC5) (fun c =>
    let n := min 0x200000 (4 * c.e.cdw10.toNat)
    (s.emit (.toHost tag.toNat ((s.copyImg (s.rst.copy == 1)).bytes 0x1E00000 n))).finishCmd c 0 0 0)

/-! ### Download (R76) -/

/-- FIRMWARE_IMAGE_DOWNLOAD (R76): NUMD in CDW10, the offset in dwords in CDW11. In recovery mode the fragment goes to
copy B, which the first one erases. A fragment that reaches past 32 MiB completes with Invalid Field in Command: the
spec gives no status for it (log entry 98). -/
def execFirmwareImageDownload (tag : Tag) (data : List Byte) (s : State) : Res :=
  s.onCmd (s.admin? tag.toNat 0x11) (fun c =>
    let n := 4 * (c.e.cdw10.toNat + 1)
    let o := 4 * c.e.cdw11.toNat
    if 0x2000000 < o + n then s.finishCmd c scField 0 0
    else
      let d := ((data ++ List.replicate n 0).take n).take (0x1E00000 - o)
      if s.rst.recovery then s.addJob { kind := .fragment, tag := c.tag, seq := c.aseq, ofs := o, data := d }
      else { s with staged := Tab.splice none o (d.map some) s.staged }.finishCmd c 0 0 0)

/-! ### Commits (R77, Table 3-7) -/

def commitSlot (c : Cmd) : Nat := dwBits c.e.cdw10 0 3
def commitAction (c : Cmd) : Nat := dwBits c.e.cdw10 3 3

/-- A commit of action ca: the slot is checked first. In recovery mode 000b to 011b run alike (R77). -/
def State.commit (s : State) (tag ca : Nat) (go : Cmd → State) : Res :=
  s.onCmd (s.admin? tag 0x10) (fun c =>
    if commitAction c ≠ ca then s
    else if 2 < commitSlot c then s.finishCmd c scFwSlot 0 0
    else if s.rst.recovery then s.addJob { kind := .commitRecovery, tag := c.tag, seq := c.aseq, ofs := commitSlot c }
    else go c)

/-- A commit joins the queue of NOR writes. -/
def State.commitJob (s : State) (c : Cmd) (k : NorKind) : State :=
  s.addJob { kind := k, tag := c.tag, seq := c.aseq, ofs := commitSlot c }

/-- FIRMWARE_COMMIT_CA_000B. -/
def execFirmwareCommitCa000b (tag : Tag) (s : State) : Res :=
  s.commit tag.toNat 0 (fun c => if commitSlot c ≠ 2 then s.finishCmd c scFwSlot 0 0 else s.commitJob c .commitPlain)

/-- FIRMWARE_COMMIT_CA_001B. -/
def execFirmwareCommitCa001b (tag : Tag) (s : State) : Res :=
  s.commit tag.toNat 1 (fun c => s.commitJob c .commitReset)

/-- FIRMWARE_COMMIT_CA_010B: nothing is staged for it, so only the copies are concerned. -/
def execFirmwareCommitCa010b (tag : Tag) (s : State) : Res :=
  s.commit tag.toNat 2 (fun c => if commitSlot c ≠ 2 then s.finishCmd c 0 0 0 else s.commitJob c .commitCopy)

/-- FIRMWARE_COMMIT_CA_011B (R77, R278). -/
def execFirmwareCommitCa011b (tag : Tag) (s : State) : Res :=
  s.commit tag.toNat 3 (fun c => if commitSlot c = 2 then s.finishCmd c scFwSlot 0 0 else s.commitJob c .commitActivate)

/-- FIRMWARE_COMMIT_CA_RESERVED: 100b to 111b, for any slot (Table 3-7). With a slot above 2 R77's text names another
status, Invalid Firmware Slot; the model follows the table (log entry 98). -/
def execFirmwareCommitCaReserved (tag : Tag) (s : State) : Res :=
  s.onCmd (s.admin? tag.toNat 0x10) (fun c => if commitAction c < 4 then s else s.finishCmd c scField 0 0)

end Sys2Proof.Machine
end

