-- ==== Sys2Proof/Machine/HifNs.lean ====
section
/-! DEFINITION. Machine/HifNs.lean: namespaces (R279 to R282, R294 to R296), Format and Sanitize (R316), self-tests (R75,
R290 to R292). -/

namespace Sys2Proof.Machine

/-! ### Notices and events -/

def nsCreated : Nat := 0
def nsDeleted : Nat := 1
def nsAttached : Nat := 2
def nsDetached : Nat := 3

/-- Event 235. -/
def State.nsEvent (s : State) (n : Nsp) (op f : Nat) : State := s.raise 235 [(4, n.nsid), (1, n.nsidx), (1, op), (2, f)]

/-- The Changed Namespace List of a controller takes the namespace, and its notice is sent. -/
def State.nsNotice (s : State) (nsid f : Nat) : State :=
  State.notify { s with hif := { s.hif with changedNs := NSet.add (f * 2 ^ 48 + nsid) s.hif.changedNs } } f 8 noticeNamespace

/-! ### Creating (R279, R280, R294 to R296) -/

/-- Zones of a zoned namespace that lie on an arm: zone i lies on arm i mod 4. -/
def zonesOn (n : Nsp) (a : Nat) : Nat := (n.nsze / zsze n.cls + 3 - a) / 4

/-- The namespace fits in what is free: on each arm in its free bands less its spare ones (R294), or in the region (R295). -/
def State.fits (s : State) (n : Nsp) : Bool :=
  if n.zoned then (List.range 4).all (fun a =>
    decide (zonesOn n a + Config.spareBands a ≤ ((List.range (bandTotal a)).filter (s.bandFree a)).length))
  else decide ((((n :: s.spaces).filter (fun x => !x.zoned)).map (fun x => x.nsze)).sum ≤ Config.convBlocks)

/-- Free namespace indexes, lowest first, and free NSIDs. -/
def State.freeIdx (s : State) : List Nat := (List.range 256).filter (fun k => (s.ns? k).isNone)
def State.freeNsid (s : State) : List Nat := ((List.range 256).map (fun k => k + 1)).filter (fun k => (s.nsOf k).isNone)

/-- A create's checks on the host's structure: 0, or its status. -/
def createStatus (csi nsze ncap flbas cls enc : Nat) : Nat :=
  if csi ≠ 0 ∧ csi ≠ 2 then scField
  else if flbas ≠ 0 then scFormat
  else if 2 < cls ∨ 1 < enc ∨ nsze = 0 then scField
  else if csi = 0 then (if cls ≠ 0 ∨ nsze % 256 ≠ 0 then scField else 0)
  else if nsze % zsze cls ≠ 0 ∨ ncap ≠ nsze then scField
  else 0

/-- A namespace's key, and its wrapped record in the system area, replace the old ones; an empty key destroys both (R315, R316).
The records lie with arm 0 (log entry 109). -/
def State.keepKey (s : State) (nsidx : Nat) (key : List Byte) : State :=
  let v := s.area 0
  (s.setKey nsidx key).setArea 0 { v with keys := NTab.put [] nsidx (if key = [] then [] else keyWrap Config.wrapKey key) v.keys }

/-- A fresh key from the entropy source (R315). -/
def State.newKey (s : State) (nsidx : Nat) : State :=
  let (v, s) := s.draw 512
  s.keepKey nsidx (leBytes 64 v)

/-- NAMESPACE_CREATE: the NSID is one of the free ones. -/
def execNamespaceCreate (tag : Tag) (data : List Byte) (s : State) : Res :=
  s.onCmd ((s.mediaAdmin? tag.toNat 0x0D).filter (fun c => c.e.sel == 0)) (fun c =>
    let num (o n : Nat) : Nat := leNat ((data.drop o).take n)
    let csi := dwBits c.e.cdw11 24 8
    let nsze := num 0 8
    let cls := num 3072 1
    let enc := num 3073 1
    let st := createStatus csi nsze (num 8 8) (num 26 1) cls enc
    if st ≠ 0 then s.finishCmd c st 0 0
    else match s.freeIdx, s.freeNsid with
      | idx :: _, ids =>
        let (x, s) := s.draw 8
        let n : Nsp := { nsid := ids.getD (x % ids.length) 1, nsidx := idx, zoned := csi == 2, cls := cls, enc := enc == 1, nsze := nsze }
        if s.fits n then
          let s := (if n.enc then s.newKey idx else s).setNs idx (some n)
          ((if n.zoned then s.placeZones idx (nsze / zsze cls) else s).nsEvent n nsCreated c.func).finishCmd c 0 n.nsid 0
        else s.finishCmd c scNsCapacity 0 0
      | [], _ => s.finishCmd c scNsUnavailable 0 0)

/-! ### Deleting, attaching, detaching (R281) -/

/-- A command that is for the namespace, by its NSID or for all at once. -/
def Cmd.covers (x : Cmd) (n : Nsp) : Bool :=
  x.nsidx == some n.nsidx ||
    (x.nsidx.isNone &&
      ((x.sqid != 0 && x.e.op == 0x00 && x.e.nsid.toNat == 0xFFFFFFFF && NSet.has x.func n.funcs) ||
       (x.sqid == 0 && ((((x.e.op == 0x0D && x.e.sel == 1) || x.e.op == 0x80) && x.e.nsid.toNat == 0xFFFFFFFF) || x.e.op == 0x84))))

/-- A command that a test picks, admitted before c for one of some namespaces, is not yet completed. -/
def State.earlier (s : State) (c : Cmd) (p : Cmd → Bool) (l : List Nsp) : Bool :=
  s.hif.cmds.any (fun x => decide (x.aseq < c.aseq) && !x.done && p x && l.any x.covers)

/-- Entries of a table that a namespace index owns, with w bits below it. -/
def ownedBy {α : Type} (ns w : Nat) (t : NTab α) : NTab α := t.filter (fun e => e.1 / 2 ^ w == ns)
def notOwned {α : Type} (ns w : Nat) (t : NTab α) : NTab α := t.filter (fun e => e.1 / 2 ^ w != ns)

/-- The stored blocks and lost LBAs of a namespace go. -/
def State.dropBlocks (s : State) (ns : Nat) : State :=
  let h := { s.hif with blocks := notOwned ns 48 s.hif.blocks, bad := notOwned ns 48 s.hif.bad, dirty := notOwned ns 48 s.hif.dirty }
  { s with hif := h }

/-- The namespace is gone: its key, zones and blocks, and its place (R281, Table 11-5). -/
def State.removeNs (s : State) (n : Nsp) (f : Nat) : State :=
  let s := (s.dropBlocks n.nsidx).keepKey n.nsidx []
  let s := (((s.freeNs n.nsidx).dropPlaces n.nsidx).retryWants).dropConv n.nsidx
  let s := (s.setZones (notOwned n.nsidx 32 s.hif.zones)).setNs n.nsidx none
  ((List.range 512).filter (fun f => NSet.has f n.funcs)).foldl (fun s f => s.nsNotice n.nsid f) (s.nsEvent n nsDeleted f)

/-- NAMESPACE_DELETE: it waits for the commands admitted earlier. -/
def execNamespaceDelete (tag : Tag) (s : State) : Res :=
  s.onCmd ((s.mediaAdmin? tag.toNat 0x0D).filter (fun c => c.e.sel == 1)) (fun c =>
    let l := s.spaces.filter (fun n => c.e.names n.nsid)
    if l.isEmpty ∧ c.e.nsid.toNat ≠ 0xFFFFFFFF then s.finishCmd c scNamespace 0 0
    else if s.earlier c (fun _ => true) l then s
    else (l.foldl (fun s n => s.removeNs n c.func) s).finishCmd c 0 0 0)

/-- NAMESPACE_ATTACH -/
def execNamespaceAttach (tag : Tag) (ctrls : List Func) (s : State) : Res :=
  s.onCmd ((s.admin? tag.toNat 0x15).filter (fun c => c.e.sel == 0)) (fun c =>
    match s.nsOf c.e.nsid.toNat with
    | none => s.finishCmd c scNamespace 0 0
    | some n =>
      if ctrls.any (fun f => NSet.has f.val n.funcs) then s.finishCmd c scNsAttached 0 0
      else
        let s := s.setNs n.nsidx (some { n with funcs := ctrls.foldl (fun t f => NSet.add f.val t) n.funcs })
        (ctrls.foldl (fun s f => (s.nsEvent n nsAttached f.val).nsNotice n.nsid f.val) s).finishCmd c 0 0 0)

/-- NAMESPACE_DETACH: it waits for the earlier commands of the controllers it names. -/
def execNamespaceDetach (tag : Tag) (ctrls : List Func) (s : State) : Res :=
  s.onCmd ((s.admin? tag.toNat 0x15).filter (fun c => c.e.sel == 1)) (fun c =>
    match s.nsOf c.e.nsid.toNat with
    | none => s.finishCmd c scNamespace 0 0
    | some n =>
      if ctrls.any (fun f => !NSet.has f.val n.funcs) then s.finishCmd c scNsNotAttached 0 0
      else if s.earlier c (fun x => ctrls.any (fun f => f.val == x.func)) [n] then s
      else
        let s := s.setNs n.nsidx (some { n with funcs := ctrls.foldl (fun t f => NSet.del f.val t) n.funcs })
        (ctrls.foldl (fun s f => (s.nsEvent n nsDetached f.val).nsNotice n.nsid f.val) s).finishCmd c 0 0 0)

/-! ### Format and Sanitize (R282, R316) -/

/-- Every zone Empty with BANDSEQ + 1, or every block deallocated. -/
def State.wipeNs (s : State) (n : Nsp) : State :=
  let kept := (ownedBy n.nsidx 32 s.hif.zones).foldl (fun t e => NTab.put {} e.1 { bandseq := e.2.bandseq } t) (notOwned n.nsidx 32 s.hif.zones)
  let s := (s.setZones kept).dropBlocks n.nsidx
  ((s.setNs n.nsidx (some { n with seqBase := (n.seqBase + 1) % 2 ^ 16 })).nsBandsReset n.nsidx).dropConv n.nsidx

/-- Event 236: action 0 a Format, 1 a Sanitize; result 0 begun, 1 ended. -/
def State.eraseEvent (s : State) (c : Cmd) (result : Nat) : State :=
  s.raise 236 [(4, c.e.nsid.toNat), (1, if c.e.op = 0x80 then 0 else 1), (1, result)]

/-- An erase begins: a self-test ends; unless keys are to be replaced, it ends as well. -/
def State.eraseBegin (s : State) (c : Cmd) (l : List Nsp) : State :=
  let s := (s.eraseEvent c 0).endTest (if c.e.op = 0x80 then 4 else 9)
  if l.any (fun n => n.enc) then { s with hif := { s.hif with erase := some (c.tag, l.map (fun n => n.nsidx)) } }
  else ((l.foldl (fun s n => s.wipeNs n) s).eraseEvent c 1).finishCmd c 0 0 0

/-- A Format or Sanitize waits for the commands admitted before it. -/
def State.erase (s : State) (c : Cmd) (st : Nat) (l : List Nsp) : State :=
  if st ≠ 0 then s.finishCmd c st 0 0
  else if s.hif.erase.isSome ∨ s.earlier c (fun _ => true) l then s
  else s.eraseBegin c l

/-- FORMAT_NVM -/
def execFormatNvm (tag : Tag) (s : State) : Res :=
  s.onCmd (s.mediaAdmin? tag.toNat 0x80) (fun c => s.erase c (s.formatCheck c.e) (s.formatSet c.e))

/-- SANITIZE_CRYPTO_ERASE -/
def execSanitizeCryptoErase (tag : Tag) (s : State) : Res :=
  s.onCmd (s.mediaAdmin? tag.toNat 0x84) (fun c => s.erase c (s.sanitizeCheck c.e) s.spaces)

/-- CRYPTO_ERASE_DONE: the new key records are written and the old keys destroyed. -/
def execCryptoEraseDone (tag : Tag) (s : State) : Res :=
  .next (match s.hif.erase, s.cmd? tag.toNat with
    | some (t, l), some c =>
      if t ≠ tag.toNat then s
      else
        let ns := s.spaces.filter (fun n => l.contains n.nsidx)
        let s := (ns.filter (fun n => n.enc)).foldl (fun s n => s.newKey n.nsidx) s
        let s := ns.foldl (fun s n => s.wipeNs n) s
        (State.eraseEvent { s with hif := { s.hif with erase := none } } c 1).finishCmd c 0 0 0
    | _, _ => s)

/-! ### Self-tests (R75, R290 to R292) -/

/-- A Device Self-test of one code: it completes once the test has begun. -/
def State.selfTest (s : State) (tag : Tag) (code heads : Nat) : Res :=
  s.onCmd ((s.mediaAdmin? tag.toNat 0x14).filter (fun c => c.e.sel == code)) (fun c =>
    match s.hif.test with
    | some _ => s.finishCmd c scSelfTest 0 0
    | none =>
      (State.raise { s with hif := { s.hif with test := some ⟨code, tag.toNat, heads, c.aseq⟩ } } 237 [(1, code), (1, 0x0F)]).finishCmd c 0 0 0)

/-- SELF_TEST_SHORT -/
def execSelfTestShort (tag : Tag) (s : State) : Res := s.selfTest tag 1 0
/-- SELF_TEST_EXTENDED -/
def execSelfTestExtended (tag : Tag) (s : State) : Res := s.selfTest tag 2 0
/-- SELF_CALIBRATION (R75): CDW11 selects the heads, and 0 selects all. -/
def execSelfCalibration (tag : Tag) (s : State) : Res :=
  let sel := match s.cmd? tag.toNat with | some c => dwBits c.e.cdw11 0 24 | none => 0
  s.selfTest tag 0xE (if sel = 0 then 0xFFFFFF else sel)

/-- SELF_TEST_ABORT -/
def execSelfTestAbort (tag : Tag) (s : State) : Res :=
  s.onCmd ((s.mediaAdmin? tag.toNat 0x14).filter (fun c => c.e.sel == 0xF)) (fun c => (s.endTest 1).finishCmd c 0 0 0)

/-- The set that self-calibration writes: ORIGIN 3, the selected heads valid, SN and EUI64 as they were (R75, Table 3-6).
They and the other heads' HEADVALID are taken from the set placed at this start, not from one written to the NOR since: the spec
does not say which (log entry 108). Without a set, SN and EUI64 are free. -/
def State.selfCalSet (s : State) (heads : Nat) (body : List Byte) : List Byte × State :=
  let old := s.runningCal
  let body := (body ++ zeros 3).take ((min body.length 2097088 + 3) / 4 * 4)
  let (x, s) := s.draw (8 * 28)
  let id := if old.isEmpty then leBytes 28 x else (old.drop 0x10).take 28
  let valid := Nat.lor (leNat ((old.drop 8).take 4)) heads
  let head := leBytes 4 0x534C4143 ++ leBytes 2 1 ++ [3, 0] ++ leBytes 4 valid ++ leBytes 4 body.length ++ id ++
    leBytes 8 (s.rd .EREC_OPTIME_OPTIME / 1024) ++ zeros 8
  (head ++ leBytes 4 (crc32c (head ++ body)) ++ body, s)

/-- SELF_TEST_END: set is the body of the set self-calibration rebuilt. -/
def execSelfTestEnd (failed : Bool) (set : List Byte) (s : State) : Res :=
  .next (match s.hif.test with
    | none => s
    | some t =>
      let s := s.endTest (if failed then 6 else 0)
      if t.code = 0xE ∧ !failed then
        let (bs, s) := s.selfCalSet t.heads set
        s.addJob { kind := .selfCal, tag := 2 ^ 17, seq := t.seq, data := bs }
      else s)

/-- SELF_TEST_PREEMPT (R291): for at most 50 ms. -/
def execSelfTestPreempt (h : Head) (ms : Byte) (s : State) : Res :=
  .next (s.on (s.hif.test.isSome && decide (ms.toNat ≤ 50)) (fun s => s.raise 238 [(1, h.val), (1, ms.toNat)]))

end Sys2Proof.Machine
end

