-- ==== Sys2Proof/Machine/Flags.lean ====
section
/-! DEFINITION. Machine/Flags.lean: the status that the module computes from its state when a register is read, and the
interrupt sources (R364 to R367). -/

namespace Sys2Proof.Machine

/-! ### Interrupts (R364 to R367) -/

/-- A level source is asserted while its cause holds (Table 13-4). -/
def State.level (s : State) (src : Nat) : Bool :=
  if 320 ≤ src ∧ src < 344 then !(s.hse (src - 320)).done.isEmpty
  else if 344 ≤ src ∧ src < 472 then
    s.bit .DMA_CHSTAT_IRQH (src - 344) || s.bit .DMA_CHSTAT_IRQF (src - 344) || s.rd .DMA_CHSTAT_ERR (src - 344) != 0
  else if src = 472 then s.hif.cmds.any s.offered
  else if 483 ≤ src ∧ src < 487 then !(s.hlk (src - 483)).resp.isEmpty
  else if src = 487 then !s.hif.xdone.isEmpty else false

/-- A source is pending: an edge that has come, or a level, unless it is in service. -/
def State.inService (s : State) (src : Nat) : Bool := NTab.get 0 src s.ev.svc != 0
def State.pendingSrc (s : State) (src : Nat) : Bool := NSet.has src s.ev.edge || (s.level src && !s.inService src)

/-- The source may interrupt the hart (R365); one in service is not delivered. -/
def State.qualifies (s : State) (c src : Nat) : Bool :=
  s.pendingSrc src && !s.inService src && (s.rd .EVC_IE_IE c (src / 32)).testBit (src % 32) &&
    decide (s.rd .EVC_THR_THR c < s.rd .EVC_PRIO_PRIO src) && decide (s.rd .EVC_PRIO_PRIO src ≠ 0)

/-- The qualifying source with the highest priority, the lowest number among equals (R366). -/
def State.best (s : State) (c : Nat) : Option Nat :=
  ((List.range 488).filter (s.qualifies c)).foldl (fun m x =>
    match m with
    | none => some x
    | some y => if s.rd .EVC_PRIO_PRIO y < s.rd .EVC_PRIO_PRIO x then some x else some y) none

/-- MEIP, MTIP and MSIP of a hart. -/
def State.meip (s : State) (c : Nat) : Bool := (s.best c).isSome
def State.mtip (s : State) (c : Nat) : Bool := decide (s.rd .EVC_MTIMECMP_CMP c ≤ s.rd .EVC_MTIME_MTIME)
def State.msip (s : State) (c : Nat) : Bool := s.bit .EVC_MSIP_MSIP c

def bitSum (n : Nat) (p : Nat → Bool) : Nat := (List.range n).foldl (fun a k => a + b2n (p k) * 2 ^ k) 0

/-! ### Fields computed when they are read -/

/-- A power transition is in progress: an entry waits, or the spindle has not reached its tier. -/
def State.psTrans (s : State) : Bool :=
  s.hif.entry.isSome || (if s.spn.tgt = 0 then s.pwr.turning else !s.bit .SPN_STAT_LOCK)

/-- LTSSM in the order of the specification's list (log entry 20): 0 Detect, 4 L0, 8 Disabled. -/
def State.ltssm (up disabled : Bool) : Nat := if disabled then 8 else if up then 4 else 0

/-- A field's value as a read returns it. -/
def State.view (s : State) (k : RKey) : Nat :=
  match k.reg with
  | .EVC_PEND_PEND => bitSum 32 (fun b => s.pendingSrc (32 * k.i + b))
  | .EREC_STAT_QLEN => s.ev.queue.length
  | .EREC_LOST_COUNT => s.ev.lost
  | .AGE_FCNT_COUNT => min 0xFFFF (s.ageCnt k.i k.j)
  | .HSE_STAT_IDLE => b2n (s.softIdle k.i == some true)
  | .HIF_STAT_ADMITTED => (s.hif.cmds.filter (fun c => c.st != .completed && c.st != .posted)).length
  | .HIF_STAT_PAUSED => b2n (!s.bit .HIF_CTL_FETCHEN || s.bit .HIF_CTL_PAUSE || s.hif.drain.isSome)
  | .HIF_STAT_LOWTAG => b2n s.hif.lowTag
  | .HIF_TAGSTAT_FREE => s.tagsFree
  | .HIF_NACT_NACT => s.nact
  | .HIF_NACT_F => min s.fairF 32
  | .HIF_FNTAG_HELD => s.tagsHeld k.i
  | .HIF_PWR_TRANS => b2n s.psTrans
  | .OCE_STAT_NOPEN => ((List.range 384).filter (fun g => s.rd .GCTX_MODE g == 1)).length
  | .HL_STAT_QLEN => (s.hlk k.i).fw.length
  | .PSW_STAT_WARN => b2n (decide (80000000 ≤ s.passCount))
  | .PSW_STAT_WORN => b2n (decide (100000000 ≤ s.passCount))
  | .PSW_PASSCNT_COUNT => s.passCount
  | .PSW_PASSREC_OPENFLAG => b2n s.passFlag
  | .PSW_PASSREC_LASTCAUSE => s.passCause
  | .PSW_USLNK_LTSSM => State.ltssm (s.bit .PSW_STAT_USUP) false
  | .PSW_DSLNK_LTSSM => State.ltssm (s.bit .PSW_STAT_DSUP) s.psw.edpDisabled
  | r => if r.info.acc = .WO then 0 else s.rd r k.i k.j

/-- The register that holds address a, or the part of it from a on, as read. -/
def State.viewReg (s : State) (a n : Nat) : Nat :=
  (fieldsAt a).foldl (fun acc f => acc + (s.view f.1 * 2 ^ f.1.reg.info.lo) / 2 ^ (8 * f.2) % 2 ^ (8 * n)) 0

/-! ### Trap frames (Table 6-9) -/

def TFrame.bytes (f : TFrame) : List Byte :=
  leBytes 4 (f.upc + f.csd * 2 ^ 12 + f.vec * 2 ^ 16 + b2n f.waiting * 2 ^ 20) ++ leBytes 2 f.lc0 ++ leBytes 2 f.lc1 ++
    leBytes 4 (f.flags + f.latch * 2 ^ 8) ++ leBytes 4 0 ++ leBytes 16 f.nano

/-- HSE_TSTK: frames from the bottom of the stack up; above DEPTH zeros. -/
def State.trapBytes (s : State) (h ofs n : Nat) : Nat :=
  match (s.hse h).tstk.reverse[ofs / 32]? with
  | some f => leNat ((f.bytes.drop (ofs % 32)).take n)
  | none => 0

end Sys2Proof.Machine
end

