-- ==== Sys2Proof/Machine/L2Ops.lean ====
section
/-! DEFINITION. Machine/L2Ops.lean: the shared cache (R355 to R362): lookup, use order, allocation, write-back, and the
accesses of cached regions; and the first-level caches (R354), whose every access goes on to it (log entry 31). -/

namespace Sys2Proof.Machine

def State.setL2 (s : State) (f : L2 → L2) : State := { s with l2 := f s.l2 }
def lineAddr (a : Nat) : Nat := a / 64 * 64
def setOf (a : Nat) : Nat := bitsN a 6 12

/-- Ways of a set, most recently used first. -/
def State.ways (s : State) (set : Nat) : List Nat :=
  match NTab.get [] set s.l2.order with
  | [] => (List.range 16).reverse
  | l => l

/-- A way becomes the most recently used. -/
def State.touch (s : State) (set way : Nat) : State :=
  let l := way :: (s.ways set).filter (fun w => w != way)
  s.setL2 (fun c => { c with order := NTab.put [] set (if l = (List.range 16).reverse then [] else l) c.order })

def State.lineAt (s : State) (la : Nat) : Option Line := s.l2.lines.find? (fun l => l.addr == la)
def State.lineIn (s : State) (set way : Nat) : Option Line := s.l2.lines.find? (fun l => l.set == set && l.way == way)
def Line.before (a b : Line) : Bool := decide (a.set < b.set) || (decide (a.set = b.set) && decide (a.way < b.way))
/-- Lines stand in the order of set and way. -/
def placeLine (l : Line) : List Line → List Line
  | [] => [l]
  | x :: t => if l.before x then l :: x :: t else x :: placeLine l t
def State.dropLine (s : State) (l : Line) : State :=
  s.setL2 (fun c => { c with lines := c.lines.filter (fun x => !(x.set == l.set && x.way == l.way)) })
def State.putLine (s : State) (l : Line) : State := (s.dropLine l).setL2 (fun c => { c with lines := placeLine l c.lines })

/-- The cache allocates: it is enabled and not draining (R362). -/
def State.l2On (s : State) : Bool := s.bit .L2_STAT_ENABLED && !s.bit .L2_STAT_DRAINING

/-! ### First-level caches (R354) -/

def State.hart (s : State) (c : Nat) : HartSt := NTab.get {} c s.l2.harts
def State.setHart (s : State) (c : Nat) (v : HartSt) : State := s.setL2 (fun x => { x with harts := NTab.put {} c v x.harts })

/-- Lines of a cache of 32 KiB. -/
def l1Lines : Nat := 512

/-- A data cache holds one line more. In a full one a free choice makes room: the spec gives the caches' size and no
organisation. -/
def State.holdD (s : State) (c k : Nat) : State :=
  let (x, s) := s.draw 9
  let d := (s.hart c).dcache
  s.setHart c { s.hart c with dcache := NSet.add k (if !NSet.has k d && d.length == l1Lines then d.eraseIdx x else d) }

/-- The same of an instruction cache, with the line's bytes. -/
def State.holdI (s : State) (c k : Nat) (bs : List Byte) : State :=
  let (x, s) := s.draw 9
  let i := (s.hart c).icache
  s.setHart c { s.hart c with icache := NTab.put [] k bs (if i.length = l1Lines then i.eraseIdx x else i) }

/-- A line leaves the data caches of the harts that a test picks. -/
def State.dropD (s : State) (k : Nat) (p : Nat → Bool) : State :=
  (List.range 8).foldl (fun s c =>
    if p c && NSet.has k (s.hart c).dcache then s.setHart c { s.hart c with dcache := NSet.del k (s.hart c).dcache } else s) s

/-- A line leaves the L2, and with it the data caches: the L2 holds every line that one of them holds. -/
def State.loseLine (s : State) (l : Line) : State := (s.dropLine l).dropD (l.addr / 64) (fun _ => true)

/-! ### Memory behind the cache -/

/-- A firmware access on the fabric (KIND 8 of Table 1-3), flagged POISON or not. -/
def State.firmwareTag (s : State) (poison : Bool) : State :=
  let (x, s) := s.draw 56
  s.fabric (onFabric false (setBitN (putField (putField x 34 5 31) 39 4 8) 56 poison))

/-- A dirty line goes to memory. -/
def State.writeBack (s : State) (l : Line) (poison : Bool) : State := (s.firmwareTag poison).busWrite l.addr l.data poison

/-- A way is emptied for a new line; a dirty victim is written back. -/
def State.evict (s : State) (set way : Nat) : State :=
  match s.lineIn set way with
  | some l => (if l.dirty then s.writeBack l false else s).loseLine l
  | none => s

/-- The least recently used way that a test picks. -/
def State.lru (s : State) (set : Nat) (p : Nat → Bool) : Nat := (((s.ways set).filter p).getLast?).getD 0

/-- The way a miss allocates (R355, R358). -/
def State.victim (s : State) (set : Nat) : Nat :=
  let fill := s.rd .L2_CTL_FILLWAYS
  let locked := s.rd .L2_LOCK_WAYS
  if fill ≠ 0 then s.lru set (fun w => fill.testBit w)
  else match (List.range 16).find? (fun w => !locked.testBit w && (s.lineIn set w).isNone) with
    | some w => w
    | none => s.lru set (fun w => !locked.testBit w)

/-- A line is brought in from memory. -/
def State.fill (s : State) (la : Nat) : State :=
  let set := setOf la
  let w := s.victim set
  let s := (s.evict set w).firmwareTag false
  (s.putLine ⟨set, w, la, false, s.mbs la 64⟩).touch set w

/-- A hit: under FILLWAYS a line outside them moves into them (R358). -/
def State.hit (s : State) (l : Line) : State :=
  let fill := s.rd .L2_CTL_FILLWAYS
  let s := s.wrapAdd .L2_HITCNT_COUNT 1
  if fill = 0 ∨ fill.testBit l.way then s.touch l.set l.way
  else
    let w := s.lru l.set (fun w => fill.testBit w)
    (((s.dropLine l).evict l.set w).putLine { l with way := w }).touch l.set w

/-- Bytes lie in a poisoned line of memory that the cache does not hold. -/
def State.meetsPoison (s : State) (a n : Nat) : Bool :=
  (linesOf a n).any (fun k => NSet.has k s.poison && (s.lineAt (64 * k)).isNone)

/-- The bytes an access reads of one line: from the cache, or from memory. -/
def State.peek (s : State) (a : Nat) : Byte :=
  match s.lineAt (lineAddr a) with
  | some l => l.data.getD (a - l.addr) 0
  | none => s.mb a

def State.peeks (s : State) (a n : Nat) : List Byte := (List.range n).map (fun k => s.peek (a + k))

/-- A hit while the cache allocates nothing: the line becomes the most recently used where it is (R355, R362). -/
def State.hitStill (s : State) (l : Line) : State := (s.wrapAdd .L2_HITCNT_COUNT 1).touch l.set l.way

/-- One line is used by a load or a fetch: a hit, or a miss that fills it while the cache allocates. A poisoned line of memory is
not filled. A disabled cache counts no miss. -/
def State.use (s : State) (la : Nat) : State :=
  match s.lineAt la with
  | some l => if s.l2On then s.hit l else s.hitStill l
  | none =>
    let s := if s.bit .L2_STAT_ENABLED then s.wrapAdd .L2_MISSCNT_COUNT 1 else s
    if s.l2On ∧ !NSet.has (la / 64) s.poison then s.fill la else s.firmwareTag false

/-- Bytes stored into one line: into the cache, which makes the line dirty; through it to memory while it drains; or to
memory. A store to a poisoned line is merged in memory and the line stays poisoned (R222). -/
def State.storeLine (s : State) (a : Nat) (bs : List Byte) : State :=
  let la := lineAddr a
  let s := s.use la
  match s.lineAt la with
  | some l =>
    let d := l.data.take (a - la) ++ bs ++ l.data.drop (a - la + bs.length)
    if s.l2On then s.putLine { l with dirty := true, data := d }
    else ((s.putLine { l with dirty := false, data := d }).firmwareTag false).busWrite la d false
  | none => s.busWrite a bs false

/-- Bytes of an access that lie in its first line. -/
def firstPart (a n : Nat) : Nat := min n (64 - a % 64)

/-- A load or fetch of a cached region. -/
def State.cachedLoad (s : State) (a n : Nat) : List Byte × State :=
  let bs := s.peeks a n
  let s := s.use (lineAddr a)
  (bs, if firstPart a n < n then s.use (lineAddr (a + n - 1)) else s)

/-- A store to a cached region. -/
def State.cachedStore (s : State) (a : Nat) (bs : List Byte) : State :=
  let k := firstPart a bs.length
  let s := s.storeLine a (bs.take k)
  if k < bs.length then s.storeLine (a + k) (bs.drop k) else s

/-- Lines of an access that the L2 holds are in the hart's data cache after it, while the caches allocate. -/
def State.holdLines (s : State) (c a n : Nat) : State :=
  (linesOf a n).foldl (fun s k => if s.l2On && (s.lineAt (64 * k)).isSome then s.holdD c k else s) s

/-- Lines that a hart writes are in no other hart's data cache (R354). -/
def State.ownLines (s : State) (c a n : Nat) : State := (linesOf a n).foldl (fun s k => s.dropD k (fun x => x != c)) s

/-- A byte as a hart fetches it: from its instruction cache, which other writers do not reach, or as a load would. -/
def State.fetchByte (s : State) (c a : Nat) : Byte :=
  match NTab.get [] (a / 64) (s.hart c).icache with
  | [] => s.peek a
  | l => l.getD (a % 64) 0

/-- A fetch: what it returns, and the instruction cache then holding its lines (R354). -/
def State.fetch (s : State) (c a n : Nat) : List Byte × State :=
  let bs := (List.range n).map (fun k => s.fetchByte c (a + k))
  let s := (s.cachedLoad a n).2
  (bs, (linesOf a n).foldl (fun s k =>
    if NTab.get [] k (s.hart c).icache = [] then s.holdI c k (s.peeks (64 * k) 64) else s) s)

/-! ### Parity (R356, Table 13-2) -/

/-- The access reads its first line that the cache does not hold from the buffer: a check of that line that fails is counted
and the line marked (R220, R221). The spec gives a firmware access (KIND 8) no FUNC, so the one event 245 carries is free. -/
def State.memoryRead (s : State) (a n : Nat) (ecc : Ecc) : State :=
  match (linesOf a n).find? (fun k => (s.lineAt (64 * k)).isNone) with
  | some k =>
    if inBuf (64 * k) 64 && ecc != .clean then
      let (f, s) := s.draw 9
      s.lineRead k 8 f ecc
    else s
  | none => s

/-- A dirty line's data fails its check: written back flagged POISON, and lost. -/
def State.loseDirtyLine (s : State) (l : Line) (l1 : Bool) : State :=
  (((s.writeBack l true).loseLine l).wr .L2_STAT_LOST 1).raise 277 [(1, b2n l1), (8, l.addr)]

/-- One tag entry fails: its way is invalid, and dirty data is lost. -/
def State.tagError (s : State) (set way : Nat) : State :=
  let s := (s.satAdd .L2_PERR_TAGERR 1).wr .L2_PERRADDR_ADDR (set * 64 + way)
  match s.lineIn set way with
  | some l =>
    let s := s.loseLine l
    (if l.dirty then s.wr .L2_STAT_LOST 1 else s).raise 278 [(2, set), (1, way), (1, b2n l.dirty)]
  | none => s.raise 278 [(2, set), (1, way), (1, 0)]

/-- The line that using a line evicts: the victim of its miss, or under FILLWAYS what stands where a hit moves. -/
def State.victimOf (s : State) (la : Nat) : Option Line :=
  let fill := s.rd .L2_CTL_FILLWAYS
  match s.lineAt la with
  | some l => if fill = 0 ∨ fill.testBit l.way then none else s.lineIn l.set (s.lru l.set (fun w => fill.testBit w))
  | none => s.lineIn (setOf la) (s.victim (setOf la))

/-- A line whose data fails its check while clean is filled again from memory, whose own check is ecc; poisoned there, it is not. -/
def State.refill (s : State) (la : Nat) (ecc : Ecc) : State :=
  let s := s.memoryRead la 64 ecc
  if s.l2On ∧ !NSet.has (la / 64) s.poison then s.fill la else s

/-- A parity failure of the access at address a: what it does to the caches; the access then goes on. Data in a data cache
fails for the hart that holds the line there. -/
def State.parityError (s : State) (c a : Nat) (p : Parity) (ecc : Ecc) : State :=
  let la := lineAddr a
  match p with
  | .none => s
  | .icache =>
    if NTab.get [] (a / 64) (s.hart c).icache = [] then s
    else (s.setHart c { s.hart c with icache := NTab.put [] (a / 64) [] (s.hart c).icache }).raise 279 [(1, c), (8, a)]
  | .data l1 =>
    match s.lineAt la with
    | none => s
    | some l =>
      if l1 && !NSet.has (la / 64) (s.hart c).dcache then s
      else
        let s := (s.satAdd .L2_PERR_DATAERR 1).wr .L2_PERRADDR_ADDR la
        if l.dirty then s.loseDirtyLine l l1
        else ((s.loseLine l).refill la ecc).raise 276 [(1, b2n l1), (1, if l1 then c else 8), (8, la)]
  | .tag way more => (way :: more).foldl (fun s w => s.tagError (setOf a) w.val) s
  | .victim =>
    if !s.l2On then s
    else match s.victimOf la with
      | some l => if l.dirty then ((s.satAdd .L2_PERR_DATAERR 1).wr .L2_PERRADDR_ADDR l.addr).loseDirtyLine l false else s
      | none => s

/-- The memory's check has been met in refilling the line. -/
def State.refills (s : State) (c a : Nat) : Parity → Bool
  | .data l1 => match s.lineAt (lineAddr a) with
    | some l => !l.dirty && (!l1 || NSet.has (l.addr / 64) (s.hart c).dcache)
    | none => false
  | _ => false

/-- The failures that a walk meets: tag entries, then data, of which a walk reads that of dirty lines alone. -/
def State.walkErrors (s : State) (errs : List WalkError) : State :=
  let tags := errs.filter (fun e => match e.p with | .tag _ _ => true | _ => false)
  let data := errs.filter (fun e => match e.p with | .data _ => true | _ => false)
  let s := tags.foldl (fun s e => s.parityError e.hart e.addr e.p .clean) s
  data.foldl (fun s e => if (s.lineAt (lineAddr e.addr)).any (fun l => l.dirty) then s.parityError e.hart e.addr e.p .clean else s) s

/-! ### Cache-management instructions and range operations (R359 to R361) -/

/-- What is done with one line. -/
inductive LineOp where
  | clean
  | flush
  | inval
  deriving DecidableEq, Repr

def State.lineOp (s : State) (op : LineOp) (l : Line) : State :=
  match op with
  | .clean => if l.dirty then (s.writeBack l false).putLine { l with dirty := false } else s
  | .flush => (if l.dirty then s.writeBack l false else s).loseLine l
  | .inval => s.loseLine l

/-- A cbo instruction: without the cache in use it has no effect. -/
def State.cbo (s : State) (op : LineOp) (a : Nat) : State :=
  if !s.l2On then s
  else match s.lineAt (lineAddr a) with
    | some l => s.lineOp op l
    | none => s

/-- Lines of the range that L2_INVBASE and L2_INVLEN name. -/
def State.rangeLines (s : State) : List Line :=
  let lo := s.rd .L2_INVBASE_BASE / 64 * 64
  s.l2.lines.filter (fun l => decide (lo ≤ l.addr) && decide (l.addr < lo + 64 * s.rd .L2_INVLEN_LEN))

/-- One line of a range operation; a line in a locked way is skipped unless LOCKED_TOO is 1. -/
def State.rangeLine (s : State) (op : LineOp) (l : Line) : State :=
  if (s.rd .L2_LOCK_WAYS).testBit l.way ∧ !s.bit .L2_INVR_LOCKED_TOO then s.satAdd .L2_INVCNT_SKIPPED 1
  else
    let s := if op = .inval ∧ l.dirty then s.satAdd .L2_INVCNT_DISCARDED 1 else s
    s.lineOp op l

end Sys2Proof.Machine
end

