-- ==== Sys2Proof/Machine/HartCsr.lean ====
section
/-! DEFINITION. Machine/HartCsr.lean: what of a hart itself decides its accesses (R349, R359): machine and user mode, the 16 PMP
entries, menvcfg, exceptions. The numbers and layouts of the registers are those of the RISC-V architecture that R349 names,
and the spec repeats none (log entry 110). -/

namespace Sys2Proof.Machine

/-! ### Control and status registers -/

def csrMstatus : Nat := 0x300
def csrMcounteren : Nat := 0x306
def csrMenvcfg : Nat := 0x30A
def csrMepc : Nat := 0x341
def csrMcause : Nat := 0x342
def csrMtval : Nat := 0x343
def csrTime : Nat := 0xC01
def csrMhartid : Nat := 0xF14

def State.csr (s : State) (c n : Nat) : Nat := NTab.get 0 n (s.hart c).csrs
def State.setCsr (s : State) (c n v : Nat) : State :=
  s.setHart c { s.hart c with csrs := NTab.put 0 n (v % 2 ^ 64) (s.hart c).csrs }

def isPmpcfg (n : Nat) : Bool := n == 0x3A0 || n == 0x3A2
def isPmpaddr (n : Nat) : Bool := decide (0x3B0 ≤ n) && decide (n < 0x3C0)
/-- Registers that the model holds. -/
def csrHeld (n : Nat) : Bool :=
  [csrMstatus, csrMcounteren, csrMenvcfg, csrMepc, csrMcause, csrMtval].contains n || isPmpcfg n || isPmpaddr n

/-! ### Physical memory protection -/

/-- Configuration byte of entry i: R, W, X in bits 0 to 2, A in 4:3, L in 7. -/
def State.pmpCfg (s : State) (c i : Nat) : Nat := bitsN (s.csr c (0x3A0 + 2 * (i / 8))) (8 * (i % 8)) 8
def State.pmpAddr (s : State) (c i : Nat) : Nat := s.csr c (0x3B0 + i) % 2 ^ 54
def pmpMode (cfg : Nat) : Nat := bitsN cfg 3 2

def trailingOnes : Nat → Nat → Nat
  | 0, _ => 0
  | f + 1, v => if v % 2 = 1 then trailingOnes f (v / 2) + 1 else 0

/-- Addresses that entry i matches: from the first up to the second. -/
def State.pmpRange (s : State) (c i : Nat) : Nat × Nat :=
  let v := s.pmpAddr c i
  match pmpMode (s.pmpCfg c i) with
  | 0 => (0, 0)
  | 1 => (if i = 0 then 0 else 4 * s.pmpAddr c (i - 1), 4 * v)
  | 2 => (4 * v, 4 * v + 4)
  | _ =>
    let k := trailingOnes 54 v
    let b := v / 2 ^ (k + 1) * 2 ^ (k + 1)
    (4 * b, 4 * b + 2 ^ (k + 3))

/-- Entry i matches some byte of a range. -/
def State.pmpMatches (s : State) (c a n i : Nat) : Bool :=
  let r := s.pmpRange c i
  decide (r.1 < r.2) && decide (a < r.2) && decide (r.1 < a + n)

/-- The lowest entry that matches decides: it matches every byte and grants all that is needed, or it is not locked and the mode is
machine mode. With none, machine mode alone may. -/
def State.pmpAllows (s : State) (c : Nat) (user : Bool) (need a n : Nat) : Bool :=
  match (List.range 16).find? (s.pmpMatches c a n) with
  | none => !user
  | some i =>
    let r := s.pmpRange c i
    let g := s.pmpCfg c i
    decide (r.1 ≤ a) && decide (a + n ≤ r.2) && ((!user && !g.testBit 7) || Nat.land g need == need)

/-- Permissions an access needs. -/
def pmpNeed : Access → Nat
  | .load | .lr => 1
  | .store | .sc => 2
  | .amo => 3
  | .fetch => 4

/-- Mode whose rights an access has: with mstatus.MPRV a load or a store has those of the mode in MPP. -/
def State.effUser (s : State) (c : Nat) (k : Access) : Bool :=
  let m := s.csr c csrMstatus
  if k ≠ .fetch ∧ m.testBit 17 = true then bitsN m 11 2 == 0 else (s.hart c).user

/-! ### Exceptions -/

/-- An exception at a hart: mepc, mcause and mtval; MPIE takes MIE, MIE goes low, MPP takes the mode, and machine mode runs. -/
def State.hartTrap (s : State) (c cause tval mepc : Nat) : State :=
  let m := s.csr c csrMstatus
  let m := putField (setBitN (setBitN m 7 (m.testBit 3)) 3 false) 11 2 (if (s.hart c).user then 0 else 3)
  let s := (((s.setCsr c csrMepc mepc).setCsr c csrMcause cause).setCsr c csrMtval tval).setCsr c csrMstatus m
  (s.setHart c { s.hart c with user := false }).emit (.hartFault c cause tval)

/-- An illegal instruction: where it stood, and whether mtval holds it, is not the spec's. -/
def State.illegal (s : State) (c : Nat) : State :=
  let (pc, s) := s.draw 64
  let (v, s) := s.draw 32
  s.hartTrap c 2 v pc

/-- MRET: the mode in MPP runs, MIE takes MPIE, MPIE is set, MPP becomes user mode, and MPRV is cleared on leaving machine mode. -/
def State.mret (s : State) (c : Nat) : State :=
  if (s.hart c).user then s.illegal c
  else
    let m := s.csr c csrMstatus
    let user := bitsN m 11 2 == 0
    let m' := putField (setBitN (setBitN m 3 (m.testBit 7)) 7 true) 11 2 0
    let s := s.setCsr c csrMstatus (if user then setBitN m' 17 false else m')
    s.setHart c { s.hart c with user := user }

/-! ### Reads and writes of the registers -/

/-- A register's number lets the hart's mode reach it: bits 9:8 are the least mode, of which 1 and 2 are absent, and bits 11:10 of 3
make it read-only; user mode reads a counter that mcounteren opens. -/
def State.csrAllowed (s : State) (c n : Nat) (write : Bool) : Bool :=
  let user := (s.hart c).user
  let least := bitsN n 8 2
  (least == 0 || (least == 3 && !user)) && !(write && bitsN n 10 2 == 3) &&
    !(user && decide (0xC00 ≤ n) && decide (n < 0xC20) && !(s.csr c csrMcounteren).testBit (n - 0xC00))

/-- A register as read: time is EVC_MTIME (R349), mhartid the hart's number; one that the model does not hold is free. -/
def State.readCsr (s : State) (c n : Nat) : Nat × State :=
  if n = csrTime then (s.rd .EVC_MTIME_MTIME, s)
  else if n = csrMhartid then (c, s)
  else if csrHeld n then (s.csr c n, s) else s.draw 64

/-- The bytes of pmpcfg that are not locked take their new values. -/
def pmpcfgNew (old v : Nat) : Nat :=
  (List.range 8).foldl (fun x k => if (bitsN old (8 * k) 8).testBit 7 then x else putField x (8 * k) 8 (bitsN v (8 * k) 8)) old

/-- An address register is locked by its own entry, or by the next one where that uses it as its lower bound. -/
def State.pmpaddrLocked (s : State) (c i : Nat) : Bool :=
  (s.pmpCfg c i).testBit 7 || (decide (i < 15) && (s.pmpCfg c (i + 1)).testBit 7 && pmpMode (s.pmpCfg c (i + 1)) == 1)

/-- A register is written. A value of MPP or CBIE that is not legal leaves that field as it was. -/
def State.writeCsr (s : State) (c n v : Nat) : State :=
  let old := s.csr c n
  if !csrHeld n then s
  else if isPmpcfg n then s.setCsr c n (pmpcfgNew old v)
  else if isPmpaddr n then (if s.pmpaddrLocked c (n - 0x3B0) then s else s.setCsr c n (v % 2 ^ 54))
  else if n = csrMstatus then
    s.setCsr c n (if bitsN v 11 2 = 1 ∨ bitsN v 11 2 = 2 then putField v 11 2 (bitsN old 11 2) else v)
  else if n = csrMenvcfg then s.setCsr c n (if bitsN v 4 2 = 2 then putField v 4 2 (bitsN old 4 2) else v)
  else s.setCsr c n v

/-- What a hart runs that has no row. -/
def State.hartOp (s : State) (c : Nat) (o : HartOp) : State :=
  match o with
  | .csrRead n =>
    if s.csrAllowed c n.toNat false then
      let (v, s) := s.readCsr c n.toNat
      s.emit (.loaded c v)
    else s.illegal c
  | .csrWrite n v => if s.csrAllowed c n.toNat true then s.writeCsr c n.toNat v.toNat else s.illegal c
  | .fenceI => s.setHart c { s.hart c with icache := [] }
  | .mret => s.mret c
  | .foreign _ => s.illegal c

def State.hartOps (s : State) (c : Nat) (l : List HartOp) : State := l.foldl (fun s o => s.hartOp c o) s

/-! ### Cache-management instructions (R359) -/

/-- CBIE and CBCFE of menvcfg. -/
def State.cbie (s : State) (c : Nat) : Nat := bitsN (s.csr c csrMenvcfg) 4 2
def State.cbcfe (s : State) (c : Nat) : Bool := (s.csr c csrMenvcfg).testBit 6

/-- What an instruction does in the hart's mode: none where it is illegal there. -/
def State.cboOp (s : State) (c : Nat) (op : LineOp) : Option LineOp :=
  if !(s.hart c).user then some op
  else match op with
    | .inval => if s.cbie c = 0 then none else if s.cbie c = 1 then some .flush else some .inval
    | _ => if s.cbcfe c then some op else none

/-- The line may be loaded from or stored to. -/
def State.cboAllowed (s : State) (c a : Nat) : Bool :=
  let u := s.effUser c .load
  s.pmpAllows c u 1 (lineAddr a) 64 || s.pmpAllows c u 2 (lineAddr a) 64

/-- An instruction on the line of an address: illegal, an access fault as of a store, or done. -/
def State.cboOne (s : State) (c a : Nat) (op : LineOp) (p : Parity) : State :=
  match s.cboOp c op with
  | none => s.illegal c
  | some op =>
    if s.cboAllowed c a then
      (if s.l2On then s.parityError c a p .clean else s).cbo op a
    else
      let (pc, s) := s.draw 64
      s.hartTrap c 7 a pc

end Sys2Proof.Machine
end

