-- ==== Sys2Proof/Machine/Cores.lean ====
section
/-! DEFINITION. Machine/Cores.lean: the commands of the control complex at the shared cache and the event controller
(R350, R358 to R362, R366, R367). -/

namespace Sys2Proof.Machine

/-- The hart runs: step 7 has completed, and hart 0 or a hart that has been woken (R350). -/
def State.hartUp (s : State) (c : Nat) : Bool := s.up 7 && NSet.has c s.l2.awake

/-! ### Cache-management instructions (R359) -/

def State.cboRun (s : State) (c : Hart) (op : LineOp) (a : Nat) (p : Parity) (pre : List HartOp) : Res :=
  .next (s.on (s.hartUp c) (fun s => (s.hartOps c pre).cboOne c a op p))

/-- CBO_CLEAN -/
def execCboClean (c : Hart) (addr : Nat) (s : State) (p : Parity := .none) (pre : List HartOp := []) : Res :=
  s.cboRun c .clean addr p pre
/-- CBO_FLUSH -/
def execCboFlush (c : Hart) (addr : Nat) (s : State) (p : Parity := .none) (pre : List HartOp := []) : Res :=
  s.cboRun c .flush addr p pre
/-- CBO_INVAL: menvcfg.CBIE can make it act as a flush in user mode. -/
def execCboInval (c : Hart) (addr : Nat) (pre : List HartOp) (s : State) (p : Parity := .none) : Res := s.cboRun c .inval addr p pre

/-! ### Range operations (R360, R361) -/

/-- The end of an accepted operation: DONE and event 284. -/
def State.rangeEnd (s : State) (op us : Nat) : State :=
  let n := s.rd .L2_INVCNT_SKIPPED
  let d := s.rd .L2_INVCNT_DISCARDED
  ((s.wr .L2_INVSTAT_BUSY 0).wr .L2_INVSTAT_DONE 1).raise 284 [(1, op), (2, n), (2, d), (4, us)]

/-- Why a GO is refused, by its place in the list of event 283. -/
def State.rangeRefused (s : State) (op : Nat) : Option Nat :=
  if s.bit .L2_INVSTAT_BUSY then some 0
  else if s.bit .L2_STAT_DRAINING then some 1
  else if op = 3 then some 2
  else if s.rd .L2_INVLEN_LEN = 0 then some 3 else none

/-- The walk of an accepted operation, with the parity failures it meets. Lines written after GO are open (log entry 32). -/
def State.rangeWalk (s : State) (op : Nat) (errs : List WalkError) : State :=
  let s := (s.wr .L2_INVCNT_SKIPPED 0).wr .L2_INVCNT_DISCARDED 0
  if !s.bit .L2_STAT_ENABLED then s.rangeEnd op 0
  else
    let k : LineOp := if op = 0 then .clean else if op = 1 then .flush else .inval
    let s := s.walkErrors errs
    let s := s.rangeLines.foldl (fun s l => s.rangeLine k l) s
    (s.setL2 (fun x => { x with range := some op })).wr .L2_INVSTAT_BUSY 1

/-- A write of L2_INVR: its fields are stored, and a GO starts or is refused. -/
def State.rangeWrite (s : State) (v : Nat) (errs : List WalkError := []) : State :=
  let op := bitsN v 1 2
  let s := (s.wr .L2_INVR_OP op).wr .L2_INVR_LOCKED_TOO (bitsN v 3 1)
  if !v.testBit 0 then s
  else match s.rangeRefused op with
    | some cause => (s.wr .L2_STAT_INVREF 1).raise 283 [(1, cause)]
    | none => s.rangeWalk op errs

/-- RANGE_CLEAN -/
def execRangeClean (v : W32) (s : State) (errs : List WalkError := []) : Res :=
  .next (s.on (s.up 7 && bitsN v.toNat 1 2 == 0) (fun s => s.rangeWrite v.toNat errs))
/-- RANGE_CLEAN_INVALIDATE -/
def execRangeCleanInvalidate (v : W32) (s : State) (errs : List WalkError := []) : Res :=
  .next (s.on (s.up 7 && bitsN v.toNat 1 2 == 1) (fun s => s.rangeWrite v.toNat errs))
/-- RANGE_INVALIDATE -/
def execRangeInvalidate (v : W32) (s : State) (errs : List WalkError := []) : Res :=
  .next (s.on (s.up 7 && bitsN v.toNat 1 2 == 2) (fun s => s.rangeWrite v.toNat errs))
/-- RANGE_OP_REFUSED -/
def execRangeOpRefused (v : W32) (s : State) : Res :=
  .next (s.on (s.up 7 && (s.rangeRefused (bitsN v.toNat 1 2)).isSome) (fun s => s.rangeWrite v.toNat))

/-! ### Disabling, enabling and locking (R358, R362) -/

/-- The L2 and the data caches are empty. -/
def State.emptyL2 (s : State) : State :=
  let s := s.setL2 (fun x => { x with lines := [], off := false })
  (List.range 8).foldl (fun s c => s.setHart c { s.hart c with dcache := [] }) s

/-- The cache goes out of use: at once with no dirty line in it, by a drain otherwise. -/
def State.disableL2 (s : State) : State :=
  if s.l2.lines.any (fun l => l.dirty) then (s.setL2 (fun x => { x with off := false })).wr .L2_STAT_DRAINING 1
  else s.emptyL2.wr .L2_STAT_ENABLED 0

/-- RANGE_OP_DONE: a disabling that waits for the operation's end follows it. -/
def execRangeOpDone (us : W32) (s : State) : Res :=
  .next (match s.l2.range with
    | some op =>
      let s := (s.setL2 (fun x => { x with range := none })).rangeEnd op us.toNat
      if s.l2.off then s.disableL2 else s
    | none => s)

/-- L2_DISABLE: a range operation in progress runs to its end first; with a dirty line the drain's state begins at once. -/
def execL2Disable (s : State) : Res :=
  .next (s.on (s.up 7 && s.bit .L2_STAT_ENABLED && !s.bit .L2_STAT_DRAINING) (fun s =>
    let s := s.wr .L2_CTL_EN 0
    if s.bit .L2_INVSTAT_BUSY ∧ !s.l2.lines.any (fun l => l.dirty) then s.setL2 (fun x => { x with off := true })
    else s.disableL2))

/-- L2_DRAIN_DONE: after a range operation in progress. A dirty line written back flagged POISON counts as written. -/
def execL2DrainDone (us : W32) (s : State) (errs : List WalkError := []) : Res :=
  .next (s.on (s.bit .L2_STAT_DRAINING && !s.bit .L2_INVSTAT_BUSY) (fun s =>
    let s := s.walkErrors (errs.filter (fun e => match e.p with | .tag _ _ => true | _ => false))
    let n := (s.l2.lines.filter (fun l => l.dirty)).length
    let s := s.walkErrors (errs.filter (fun e => match e.p with | .data _ => true | _ => false))
    let s := (s.l2.lines.filter (fun l => l.dirty)).foldl (fun s l => s.writeBack l false) s
    let s := s.emptyL2.wr .L2_STAT_DRAINING 0
    (s.wr .L2_STAT_ENABLED 0).raise 285 [(4, n), (4, us.toNat)]))

/-- L2_ENABLE -/
def execL2Enable (s : State) : Res :=
  .next (s.on (s.up 7) (fun s =>
    if s.bit .L2_STAT_DRAINING then s.wr .L2_STAT_ENREF 1
    else if s.bit .L2_STAT_ENABLED then (s.setL2 (fun x => { x with off := false })).wr .L2_CTL_EN 1
    else (s.emptyL2.wr .L2_STAT_ENABLED 1).wr .L2_CTL_EN 1))

/-- L2_LOCK_WRITE: at most 12 ways. -/
def execL2LockWrite (v : W32) (s : State) : Res :=
  let w := bitsN v.toNat 0 16
  .next (s.on (s.up 7) (fun s =>
    if 12 < ((List.range 16).filter (fun k => w.testBit k)).length then (s.wr .L2_STAT_LOCKREF 1).raise 282 [(2, w)]
    else s.wr .L2_LOCK_WAYS w))

/-! ### Interrupts (R350, R366, R367) -/

/-- EVC_CLAIM_READ -/
def execEvcClaimRead (c : Hart) (s : State) : Res :=
  .next (s.on (s.up 5) (fun s => match s.best c with
    | none => s.emit (.popped .EVC_CLAIM_SRC c 0)
    | some k =>
      State.emit { s with ev := { s.ev with edge := NSet.del k s.ev.edge, svc := NTab.put 0 k (c.val + 1) s.ev.svc } }
        (.popped .EVC_CLAIM_SRC c (k + 2 ^ 31))))

/-- EVC_CLAIM_COMPLETE: a source this hart has not claimed is ignored. -/
def execEvcClaimComplete (c : Hart) (v : W32) (s : State) : Res :=
  let k := bitsN v.toNat 0 9
  .next (s.on (s.up 5 && NTab.get 0 k s.ev.svc == c.val + 1) (fun s =>
    { s with ev := { s.ev with svc := NTab.put 0 k 0 s.ev.svc } }))

/-- EVC_MSIP_WRITE: a hart that waits in the boot ROM clears its own MSIP and jumps to LDR_ENTRY with a0 = its number; none leaves
in recovery mode. -/
def execEvcMsipWrite (c : Hart) (v : W32) (s : State) : Res :=
  .next (s.on (s.up 5) (fun s =>
    if v.toNat.testBit 0 ∧ c.val ≠ 0 ∧ s.up 7 ∧ s.rst.done ∧ !s.rst.recovery ∧ !NSet.has c s.l2.awake then
      ((s.wr .EVC_MSIP_MSIP 0 c).setL2 (fun x => { x with awake := NSet.add c x.awake })).emit (.hartJump c s.rst.entry c)
    else s.wr .EVC_MSIP_MSIP (bitsN v.toNat 0 1) c))

/-- TIMER_INTERRUPT: EVC_MTIME has reached the hart's compare value, so MTIP is 1. -/
def execTimerInterrupt (c : Hart) (s : State) : Res :=
  .next (s.on (s.up 5) (fun s => s.wr .EVC_MTIME_MTIME (max (s.rd .EVC_MTIME_MTIME) (s.rd .EVC_MTIMECMP_CMP c))))

end Sys2Proof.Machine
end

