-- ==== Sys2Proof/Machine/Frc.lean ====
section
/-! DEFINITION. Machine/Frc.lean: the lane jobs and the key commands of the fixed-ratio coder (R310 to R319). -/

namespace Sys2Proof.Machine

/-- FRC_LANE_GO (R317, R318): CLASS 3 or NBLK 0 fails the GO. -/
def execFrcLaneGo (k : Fin 8) (s : State) : Res :=
  let st := s.rd .FRC_LSTAT_STATE k
  .next (s.on (s.up 5 && s.hears selFrc && (st == 0 || st == 2)) (fun s =>
    if s.laneClass k = 3 ∨ s.laneBlocks k = 0 then s.wr .FRC_LSTAT_STATE 3 k
    else
      let s := ((s.wr .FRC_LSTAT_STATE 1 k).wr .FRC_LSTAT_OVER 0 k).wr .FRC_LSTAT_POS 0 k
      let s := ((s.wr .FRC_LSTAT_PHASEOUT 0 k).wr .FRC_LCNT_NESC 0 k).wr .FRC_LCNT_NSLOT 0 k
      (s.setLane k {}).laneAsk k))

/-- Sectors of the continued unit at FRC_LUNIT that are flagged POISON. -/
def State.unitBad (s : State) (k : Nat) : List Nat :=
  (List.range (unitSectors (s.laneClass k) (s.laneUnit k).slots.length)).filter (fun t =>
    s.poisoned (s.rd .FRC_LUNIT_ADDR k + 4160 * t) 4096)

/-- Writes the output frames of an encode job: payload, tag bytes 0 to 11 and 20 zero bytes, 4,160 bytes apart. A frame
that holds a block or a unit's sector flagged POISON is flagged (R15): the continued unit comes first in the output. -/
def State.laneFrames (s : State) (k : Nat) (out : List OutSector) (bad unitBad : List Nat) : State :=
  let cls := s.laneClass k
  (List.range out.length).foldl (fun s i =>
    let x := out.getD i ⟨[], 0, false, 0⟩
    let head := tagBytes x.lba (s.rd .FRC_LCTL_NSIDX k) (cls + 4 * b2n x.esc) (s.rd .FRC_LID_BANDSEQ k)
    s.busWrite (s.rd .FRC_LOUT_ADDR k + 4160 * i) (x.data ++ head ++ List.replicate 20 0)
      (unitBad.contains i || bad.any (fun l => decide (x.lba ≤ l) && decide (l < x.lba + x.n)))) s
where
  tagBytes (lba nsidx sflags bandseq : Nat) : List Byte :=
    leBytes 8 lba ++ leBytes 1 nsidx ++ leBytes 1 sflags ++ leBytes 2 bandseq

/-- An encode job ends (R306, R309, R310, R312, R318). With CLOSE no unit is left open, whether or not the job stopped at
its budget. -/
def State.encodeEnd (s : State) (k : Nat) : State :=
  let cls := s.laneClass k
  let lba := s.rd .FRC_LLBA_LBA k
  let inp := (s.lane k).input.take (s.laneBlocks k)
  let e0 := s.laneUnit k
  let pos0 := e0.pos cls
  let unitBad := s.unitBad k
  let (e, over?) := s.laneEncode k
  let e := if s.bit .FRC_LCTL_CLOSE k then e.close cls else e
  let out := e.out ++ unitOut cls e.slots e.lba
  let bad := ((List.range inp.length).filter (fun i => (inp.getD i ([], false)).2)).map (fun i => lba + i)
  if (List.range out.length).any (fun i => !engineReach (s.rd .FRC_LOUT_ADDR k + 4160 * i) 4128) ||
      (List.range (unitSectors cls e0.slots.length)).any (fun t => !engineReach (s.rd .FRC_LUNIT_ADDR k + 4160 * t) 4096) then
    (s.spaceErrors ((List.range out.length).map (fun i => (s.rd .FRC_LOUT_ADDR k + 4160 * i, 4128)) ++
      (List.range (unitSectors cls e0.slots.length)).map (fun t => (s.rd .FRC_LUNIT_ADDR k + 4160 * t, 4096)))).wr .FRC_LSTAT_STATE 3 k
  else
    let s := s.ownAccesses none 31 (unitSectors cls e0.slots.length + out.length)
    let s := e.failed.foldl (fun s l => s.raise 317 [(1, k), (1, s.rd .FRC_LCTL_NSIDX k), (8, l)]) s
    let s := s.laneFrames k out bad unitBad
    let s := ((s.wr .FRC_LSTAT_STATE 2 k).wrb .FRC_LSTAT_OVER over? k).wr .FRC_LSTAT_POS (e.pos cls - pos0) k
    ((s.wr .FRC_LSTAT_PHASEOUT e.slots.length k).wr .FRC_LCNT_NESC e.nesc k).wr .FRC_LCNT_NSLOT e.nslot k

/-- Writes one decoded block, or poison where it failed (R313). -/
def State.laneBlock (s : State) (k i : Nat) (b : DecBlock) : State :=
  let a := s.rd .FRC_LOUT_ADDR k + 4096 * i
  match b with
  | .inl bs => s.busWrite a bs false
  | .inr c =>
    let s := s.setPoison a 4096 true
    if c = 3 then s
    else (s.wr .FRC_LSTAT_VERR 1 k).raise 316 [(1, k), (1, s.rd .FRC_LCTL_NSIDX k), (8, s.rd .FRC_LLBA_LBA k + i), (1, c)]

def State.decodeEnd (s : State) (k : Nat) : State :=
  let bs := (s.laneDecode k).1
  if !engineReach (s.rd .FRC_LOUT_ADDR k) (4096 * bs.length) then
    (s.spaceErrors [(s.rd .FRC_LOUT_ADDR k, 4096 * bs.length)]).wr .FRC_LSTAT_STATE 3 k
  else
    let s := (List.range bs.length).foldl (fun s i => (s.ownAccess none 31).laneBlock k i (bs.getD i (.inr 3))) s
    s.wr .FRC_LSTAT_STATE 2 k

/-- FRC_JOB_END (R318): the job has taken all its input. -/
def execFrcJobEnd (k : Fin 8) (s : State) : Res :=
  .next (s.on (s.rd .FRC_LSTAT_STATE k == 1 && s.laneFull k) (fun s =>
    (if s.bit .FRC_LCTL_OP k then s.decodeEnd k else s.encodeEnd k).edge (474 + k)))

/-! ### Keys (R315) -/

/-- A running lane uses a key slot. -/
def State.keyBusy (s : State) (ns : Nat) : Bool :=
  (List.range 8).any (fun k => s.rd .FRC_LSTAT_STATE k == 1 && s.rd .FRC_LCTL_NSIDX k == ns && s.bit .FRC_LCTL_ENC k)

/-- A key command is written: ignored while one runs. -/
def State.keyCommand (s : State) (op ns : Nat) : State :=
  s.on (s.up 5 && s.hears selFrc && !s.bit .FRC_KSTAT_BUSY) (fun s =>
    { s with frc := { s.frc with kjob := some (op, ns) } }.wr .FRC_KSTAT_BUSY 1)

/-- KEY_GENERATE. -/
def execKeyGenerate (nsidx : Byte) (s : State) : Res := .next (s.keyCommand 1 nsidx.toNat)
/-- KEY_LOAD. -/
def execKeyLoad (nsidx : Byte) (s : State) : Res := .next (s.keyCommand 2 nsidx.toNat)
/-- KEY_DESTROY. -/
def execKeyDestroy (nsidx : Byte) (s : State) : Res := .next (s.keyCommand 3 nsidx.toNat)

/-- The command's work and its RESULT. The key of a generate comes from the entropy source; its record goes to
FRC_KADDR. The result for a record out of the FRC's reach is open; one past the data space raises event 246 (R223). -/
def State.keyWork (s : State) (op ns : Nat) : Nat × State :=
  let a := s.rd .FRC_KADDR_ADDR
  if s.keyBusy ns then (2, s)
  else if op = 3 then (0, s.setKey ns [])
  else if !engineReach a 72 then (s.spaceErrors [(a, 72)]).draw 2
  else if op = 1 then
    let (v, s) := s.draw 512
    let key := bytesOf 64 v
    (0, ((s.setKey ns key).ownAccess none 31).busWrite a (keyWrap Config.wrapKey key) false)
  else
    let s := s.ownAccess none 31
    match keyUnwrap Config.wrapKey (s.mbs a 72) with
    | some key => (0, s.setKey ns key)
    | none => (1, s.loseKey ns)

/-- KEY_COMMAND_END. -/
def execKeyCommandEnd (s : State) : Res :=
  .next (match s.frc.kjob with
    | none => s
    | some (op, ns) =>
      let (r, s) := s.keyWork op ns
      let s := { s with frc := { s.frc with kjob := none } }
      ((s.wr .FRC_KSTAT_BUSY 0).wr .FRC_KSTAT_RESULT r).edge 482)

end Sys2Proof.Machine
end

