-- ==== Sys2Proof/Machine/Oce.lean ====
section
/-! DEFINITION. Machine/Oce.lean: the commands of the outer code engine (R200 to R206, R217). -/

namespace Sys2Proof.Machine

/-! ### Results (OCE_RES) -/

def resDone : Nat := 0
def resBusy : Nat := 1
def resBadState : Nat := 2
def resTooMany : Nat := 3
def resMismatch : Nat := 4
def resBadOp : Nat := 5
def resBusErr : Nat := 6

/-- A command's answer, with the interrupt of its end. -/
def State.oceAnswer (s : State) (ctx op res : Nat) : State :=
  ((((s.wr .OCE_RES_CTX ctx).wr .OCE_RES_OP op).wr .OCE_RES_RESULT res).wr .OCE_RES_BUSY 0).edge 473

/-- A command that passes its checks runs. -/
def State.oceRun (s : State) (ctx op count : Nat) : State :=
  ({ s with oce := { s.oce with job := some (op, ctx, count) } }).wr .OCE_RES_BUSY 1

/-- A command while another runs is answered BUSY and does nothing else; with EN 0, BADSTATE (R206). -/
def State.oceCommand (s : State) (ctx op : Nat) (go : State → State) : State :=
  if !(s.up 5 && s.hears selOce) then s
  else if s.bit .OCE_RES_BUSY then s.wr .OCE_RES_RESULT resBusy
  else if !s.bit .OCE_CTL_EN then s.oceAnswer ctx op resBadState
  else go s

/-- OPEN (R200). -/
def execOceOpen (ctx : BitVec 9) (count : BitVec 7) (s : State) : Res :=
  let g := ctx.toNat
  .next (s.oceCommand g 1 (fun s =>
    let head := s.rd .GCTX_HEAD g
    if 383 < g ∨ 67 < count.toNat ∨ 24 ≤ head then s.oceAnswer g 1 resBadOp
    else if s.rd .GCTX_MODE g ≠ 0 ∨ s.bit .OCE_HACT_VALID head then s.oceAnswer g 1 resBadState
    else s.oceRun g 1 count.toNat))

/-- PARK (R203). -/
def execOcePark (ctx : BitVec 9) (s : State) : Res :=
  let g := ctx.toNat
  .next (s.oceCommand g 2 (fun s =>
    if 383 < g then s.oceAnswer g 2 resBadOp
    else if s.rd .GCTX_MODE g ≠ 1 then s.oceAnswer g 2 resBadState
    else s.oceRun g 2 0))

/-- FILL (R204). -/
def execOceFill (ctx : BitVec 9) (s : State) : Res :=
  let g := ctx.toNat
  .next (s.oceCommand g 3 (fun s =>
    if 383 < g then s.oceAnswer g 3 resBadOp
    else if s.rd .GCTX_MODE g ≠ 2 then s.oceAnswer g 3 resBadState
    else s.oceRun g 3 0))

/-- OCE_BADOP: an undefined OP, or a context above 383. -/
def execOceBadop (v : W32) (s : State) : Res :=
  let g := bitsN v.toNat 0 9
  let op := bitsN v.toNat 9 3
  .next (s.on (decide (383 < g) || op == 0 || decide (4 ≤ op)) (fun s =>
    s.oceCommand g op (fun s => s.oceAnswer g op resBadOp)))

/-! ### The end of a command -/

/-- Frame address of position i. -/
def State.gframe (s : State) (g i : Nat) : Nat := s.rd .GCTX_GBASE_GBASE g + 4160 * i

/-- A frame the OCE reads is out of its reach or flagged POISON. -/
def State.badFrame (s : State) (a : Nat) : Bool := !engineReach a 4128 || s.poisoned a 4128

/-- OPEN takes effect: the first n data positions are accumulated. -/
def State.openEnd (s : State) (g count : Nat) (noAnswer : Bool) : State :=
  let n := min count 64
  if !engineReach (s.rd .GCTX_ACC_ACC g) 16384 || (decide (0 < count) && (noAnswer || (List.range n).any (fun i => s.badFrame (s.gframe g i)))) then
    (s.spaceErrors ((s.rd .GCTX_ACC_ACC g, 16384) :: (List.range n).map (fun i => (s.gframe g i, 4128)))).oceAnswer g 1 resBusErr
  else
    let s := s.busWrite (s.rd .GCTX_ACC_ACC g) (List.replicate 16384 0) false
    let head := s.rd .GCTX_HEAD g
    let s := s.ownAccesses none head (n + 1)
    let s := (List.range n).foldl (fun s i => s.accumulate g i (s.mbs (s.gframe g i) 4096)) s
    let s := (((s.wr .GCTX_MODE 1 g).wr .GCTX_NDATA n g).wr .GCTX_NPAR (count - 64) g).wr .GCTX_ERR 0 g
    ((s.wr .OCE_HACT_CTX g head).wr .OCE_HACT_VALID 1 head).oceAnswer g 1 resDone

/-- PARK frees the context. -/
def State.parkEnd (s : State) (g : Nat) : State :=
  let head := s.rd .GCTX_HEAD g
  let s := s.wr .GCTX_MODE 0 g
  let s := if s.bit .OCE_HACT_VALID head && s.rd .OCE_HACT_CTX head == g then s.wr .OCE_HACT_VALID 0 head else s
  s.oceAnswer g 2 resDone

/-- Erased positions of a context, in order. -/
def State.erased (s : State) (g : Nat) : List Nat :=
  (List.range 64).filter (fun i => s.rdBit .GCTX_ERASE_ERASE i g) ++
    ((List.range 4).filter (fun k => s.rdBit .GCTX_ERASEP_ERASEP k g)).map (fun k => 64 + k)

/-- Tag bytes 0 to 11 of a rebuilt frame (R205). -/
def State.rebuiltHead (s : State) (g i : Nat) : List Byte :=
  let cls := s.rd .GCTX_ID_CLASS g
  let lba := if 64 ≤ i then s.rd .GCTX_LBA0_LBA0 g
    else if cls = 0 then s.rd .GCTX_LBA0_LBA0 g + i else 2 ^ 64 - 1
  let sf := if 64 ≤ i then 8 else cls + 4 * b2n (s.rdBit .GCTX_ESCMASK_ESCMASK i g)
  tagHead lba (s.rd .GCTX_ID_NSIDX g) sf (s.rd .GCTX_ID_BANDSEQ g)

/-- A group's columns, erased symbols 0, and each column filled in. -/
def fillColumns (payloads : List (List Nat)) (er : List Nat) : List (List Nat) :=
  (List.range 2048).map (fun j =>
    let col := payloads.map (fun p => p.getD j 0)
    rsFill col er (rsSolve col er))

/-- First column with a syndrome that is not zero among those left to check. -/
def badColumn (cols : List (List Nat)) (e : Nat) : Option Nat :=
  cols.findIdx? (fun c => (List.range (4 - e)).any (fun j => rsSyn c (e + j) != 0))

/-- FILL (R204, R205). -/
def State.fillEnd (s : State) (g : Nat) (noAnswer : Bool) : State :=
  let er := s.erased g
  let e := er.length
  let head := s.rd .GCTX_HEAD g
  let lba0 := s.rd .GCTX_LBA0_LBA0 g
  let s := s.wr .OCE_RES_NER e
  if 4 < e then (s.raise 273 [(2, g), (1, head), (8, lba0), (1, e)]).oceAnswer g 3 resTooMany
  else
    let good := (List.range 68).filter (fun i => !er.contains i)
    if noAnswer || good.any (fun i => s.badFrame (s.gframe g i)) || er.any (fun i => !engineReach (s.gframe g i) 4128) then
      (s.spaceErrors ((List.range 68).map (fun i => (s.gframe g i, 4128)))).oceAnswer g 3 resBusErr
    else
      let s := s.ownAccesses none head 68
      let payloads := (List.range 68).map (fun i =>
        if er.contains i then List.replicate 2048 0 else symbols (s.mbs (s.gframe g i) 4096))
      let cols := fillColumns payloads er
      match badColumn cols e with
      | some j => (s.raise 274 [(2, g), (1, head), (8, lba0), (1, e), (2, j)]).oceAnswer g 3 resMismatch
      | none =>
        let era := s.rd .GCTX_ERASE_ERASE g
        let erap := s.rd .GCTX_ERASEP_ERASEP g
        let s := er.foldl (fun s i =>
          let payload := symbolBytes (cols.map (fun c => c.getD i 0))
          s.busWrite (s.gframe g i) (payload ++ sectorTag (s.rebuiltHead g i) (2 ^ 64 - 1) payload) false) s
        let s := (s.wr .GCTX_ERASE_ERASE 0 g).wr .GCTX_ERASEP_ERASEP 0 g
        let s := if e = 0 then s else s.raise 272 [(2, g), (1, head), (8, lba0), (8, era), (1, erap)]
        s.oceAnswer g 3 resDone

/-- OCE_COMMAND_END (R200, R204): noAnswer says that a read of the command did not answer within 10 µs. -/
def execOceCommandEnd (noAnswer : Bool) (s : State) : Res :=
  .next (match s.oce.job with
    | none => s
    | some (op, g, count) =>
      let s := { s with oce := { s.oce with job := none } }
      if op = 1 then (s.openEnd g count noAnswer).oceServe (s.rd .GCTX_HEAD g)
      else if op = 2 then s.parkEnd g
      else s.fillEnd g noAnswer)

/-- SETRD: 1 written to the bit of a free context sets read mode, and of a read-mode context frees it. A context the
rules of R206 protect ignores it. -/
def execSetrd (g : Fin 384) (s : State) : Res :=
  .next (s.on (s.up 5 && s.hears selOce) (fun s =>
    let m := s.rd .GCTX_MODE g
    if m = 1 ∨ (m = 2 ∧ s.bit .OCE_RES_BUSY) then s.wr .OCE_STAT_CTXWR 1
    else s.wr .GCTX_MODE (if m = 0 then 2 else 0) g))

end Sys2Proof.Machine
end

