-- ==== Sys2Proof/Machine/Switch.lean ====
section
/-! DEFINITION. Machine/Switch.lean: the chain switch as a PCI Express switch (R320 to R324, R340 to R345): where the module's
components lie, the configuration spaces of its ports, the way a TLP takes, and the buffers and the arbiter at its egress. -/

namespace Sys2Proof.Machine

/-! ### Components (R320 to R322, Table 12-1) -/

/-- A port of the switch: the internal downstream port has no physical link. -/
inductive SwPort where
  | usp
  | idp
  | edp
  deriving DecidableEq, Repr

/-- Its place in Table 12-1, by which events 212 and 214 name it. -/
def SwPort.code : SwPort → Nat
  | .usp => 0
  | .idp => 1
  | .edp => 2

def Psw.port (q : Psw) : SwPort → PortCfg
  | .usp => q.usp
  | .idp => q.idp
  | .edp => q.edp
def Psw.setPort (q : Psw) (p : SwPort) (c : PortCfg) : Psw :=
  match p with
  | .usp => { q with usp := c }
  | .idp => { q with idp := c }
  | .edp => { q with edp := c }

/-- A bus lies behind a bridge: in its secondary to subordinate range. -/
def PortCfg.holds (c : PortCfg) (bus : Nat) : Bool := decide (c.sec ≠ 0) && decide (c.sec ≤ bus) && decide (bus ≤ c.sub)

/-- SR-IOV's First VF Offset and VF Stride, and the routing ID of a function (R322). -/
def firstVfOffset : Nat := 1
def vfStride : Nat := 1
def State.funcRid (s : State) (f : Nat) : Nat := s.psw.idp.sec * 256 + if f = 0 then 0 else firstVfOffset + (f - 1) * vfStride

/-- What a routing ID names (Table 12-1): a port, a function of the endpoint, a function the IDP's bus numbers cut off (R321),
or what lies behind the EDP. -/
inductive Component where
  | port (p : SwPort)
  | function (f : Nat)
  | cutOff
  | below
  | none
  deriving DecidableEq, Repr

/-- A request whose bus is not behind the USP reached it as Type 0: it is for the USP itself. -/
def State.component (s : State) (rid : Nat) : Component :=
  let bus := rid / 256
  let dev := rid % 256
  let f := rid - s.psw.idp.sec * 256
  if !s.psw.usp.holds bus then (if dev = 0 then .port .usp else .none)
  else if bus = s.psw.usp.sec then (if dev = 0 then .port .idp else if dev = 8 then .port .edp else .none)
  else if s.psw.edp.holds bus then .below
  else if s.psw.idp.sec = 0 ∨ bus < s.psw.idp.sec then .none
  else if bus ≤ max s.psw.idp.sec s.psw.idp.sub ∧ s.hasFunc f then .function f
  else if s.hasFunc f then .cutOff else .none

/-! ### Configuration spaces (R323, R324) -/

/-- The defaults of a port lie in the identity area, which the three ports share in the order of Table 12-1 (DESIGN CHOICE,
log 105). -/
def identityOf (p : SwPort) (k : Nat) : Nat := 0x11400000 + 0x1000 * p.code + 4 * k

/-- Bus numbers written on a port: event 214, and on the IDP event 212 where VFs 256 to 511 cannot be reached (R321). -/
def State.busNumbers (s : State) (p : SwPort) (pri sec sub : Nat) : State :=
  let s := s.setPsw (s.psw.setPort p { s.psw.port p with pri := pri, sec := sec, sub := sub })
  let s := s.raise 214 [(1, p.code), (1, pri), (1, sec), (1, sub)]
  if p = .idp ∧ sub < sec + 1 then
    let (rid, s) := s.draw 16
    s.raise 212 [(1, p.code), (2, rid), (8, sec + 1)]
  else s

/-- Link Disable and Secondary Bus Reset of the IDP: setting either applies a link reset to every function (R323). -/
def State.idpControl (s : State) (linkDisable set : Bool) : State :=
  let s := if linkDisable then s.setPsw { s.psw with idpDisabled := set } else s
  if set then s.resetAll 2 else s

/-- Link Disable and Secondary Bus Reset of the EDP: downstream only (R339). -/
def State.edpControl (s : State) (linkDisable set : Bool) : State :=
  if linkDisable then
    let s := s.setPsw { s.psw with edpDisabled := set }
    if set then s.edpDown 0 else s
  else if set && s.bit .PSW_STAT_DSUP then s.emit .hotReset else s

/-- Link Status: rate and width, and on the downstream ports Data Link Layer Link Active. The IDP's link is up at 128 GT/s x16
unless it is disabled (R323). -/
def State.linkStatus (s : State) : SwPort → Nat
  | .usp => s.rd .PSW_USLNK_SPEED + 16 * s.rd .PSW_USLNK_WIDTH
  | .idp => if s.psw.idpDisabled then 0 else 7 + 16 * 16 + 2 ^ 13
  | .edp => s.rd .PSW_DSLNK_SPEED + 16 * s.rd .PSW_DSLNK_WIDTH + 2 ^ 13 * s.rd .PSW_STAT_DSUP

/-- A read of a configuration register. -/
def State.cfgRead (s : State) (p : SwPort) (r : CfgReg) : Nat :=
  let c := s.psw.port p
  match r with
  | .identity k => s.mrd 4 (identityOf p k.val)
  | .command => c.command
  | .headerType => 1
  | .busNumbers => c.pri + c.sec * 2 ^ 8 + c.sub * 2 ^ 16
  | .memWindow => c.mem
  | .prefWindow => c.pref
  | .prefBaseUpper => c.prefBase
  | .prefLimitUpper => c.prefLimit
  | .bridgeControl => c.bridge
  | .deviceControl => c.device
  | .linkControl => setBitN c.link 4 (match p with | .usp => false | .idp => s.psw.idpDisabled | .edp => s.psw.edpDisabled)
  | .linkControl2 => c.link2
  | .linkStatus => s.linkStatus p
  | .slotStatus => if p = .edp then b2n c.presence * 2 ^ 3 + s.rd .PSW_STAT_DSUP * 2 ^ 6 + b2n c.linkChange * 2 ^ 8 else 0
  | .acsControl => if p = .edp then c.acs else 0
  | .aerUncorrectable => c.aerUnc
  | .aerCorrectable => c.aerCor
  | .dpcControl => if p = .edp then c.dpc else 0
  | .dpcStatus => if p = .edp then b2n c.contained else 0
  | .vendor => if p = .usp then s.regWord .PSW_CHAIN_DEPTH else 0

/-- A write of a configuration register. Max Payload Size goes no higher than 512 bytes; Retrain Link, Target Link Speed and
the ASPM controls are taken and do nothing (R323, Table 12-2). -/
def State.cfgWrite (s : State) (p : SwPort) (r : CfgReg) (v : Nat) : State :=
  let c := s.psw.port p
  let put (c : PortCfg) : State := s.setPsw (s.psw.setPort p c)
  match r with
  | .identity _ | .headerType | .linkStatus | .vendor => s
  | .command => put { c with command := v % 2 ^ 16 }
  | .busNumbers => s.busNumbers p (bitsN v 0 8) (bitsN v 8 8) (bitsN v 16 8)
  | .memWindow => put { c with mem := v }
  | .prefWindow => put { c with pref := v }
  | .prefBaseUpper => put { c with prefBase := v }
  | .prefLimitUpper => put { c with prefLimit := v }
  | .bridgeControl =>
    let s := put { c with bridge := v % 2 ^ 16 }
    match p with
    | .usp => s
    | .idp => if v.testBit 6 then s.idpControl false true else s
    | .edp => if v.testBit 6 then s.edpControl false true else s
  | .deviceControl => put { c with device := v % 2 ^ 16 - bitsN v 5 3 * 2 ^ 5 + min 2 (bitsN v 5 3) * 2 ^ 5 }
  | .linkControl =>
    let s := put { c with link := setBitN (setBitN (v % 2 ^ 16) 4 false) 5 false }
    match p with
    | .usp => s
    | .idp => if v.testBit 4 = s.psw.idpDisabled then s else s.idpControl true (v.testBit 4)
    | .edp => if v.testBit 4 = s.psw.edpDisabled then s else s.edpControl true (v.testBit 4)
  | .linkControl2 => put { c with link2 := v % 2 ^ 16 }
  | .slotStatus => put { c with presence := c.presence && !v.testBit 3, linkChange := c.linkChange && !v.testBit 8 }
  | .acsControl => put { c with acs := Nat.land v 0x1D }
  | .aerUncorrectable => put { c with aerUnc := Nat.xor c.aerUnc (Nat.land c.aerUnc v) }
  | .aerCorrectable => put { c with aerCor := Nat.xor c.aerCor (Nat.land c.aerCor v) }
  | .dpcControl => put { c with dpc := v % 2 ^ 16 }
  | .dpcStatus => put { c with contained := c.contained && !v.testBit 0 }

/-- A port answers a configuration request itself, without firmware (R323). -/
def State.portAnswer (s : State) (p : SwPort) (t : Tlp) : State :=
  match t.kind with
  | .cfgRead r => s.emit (.configured t (s.cfgRead p r))
  | .cfgWrite r v => (s.cfgWrite p r v.toNat).emit (.configured t 0)
  | _ => s

/-! ### The way of a TLP (R340, R345) -/

/-- The window of a base and limit register, whose low bits stand for 1 MiB steps, claims an address. -/
def windowHas (reg baseUpper limitUpper a : Nat) : Bool :=
  decide (bitsN reg 4 12 * 2 ^ 20 + baseUpper * 2 ^ 32 ≤ a) && decide (a < bitsN reg 20 12 * 2 ^ 20 + limitUpper * 2 ^ 32 + 2 ^ 20)

/-- A bridge claims an address: Memory Space Enable, and one of its windows. -/
def PortCfg.claims (c : PortCfg) (a : Nat) : Bool :=
  c.command.testBit 1 && (windowHas c.mem 0 0 a || windowHas c.pref c.prefBase c.prefLimit a)

/-- ACS controls of the EDP, by their bits: source validation, request redirect, completion redirect (R345). -/
def PortCfg.acsSource (c : PortCfg) : Bool := c.acs.testBit 0
def PortCfg.acsRequest (c : PortCfg) : Bool := c.acs.testBit 2
def PortCfg.acsCompletion (c : PortCfg) : Bool := c.acs.testBit 3

inductive Way where
  | egress (p : Port)
  | endpoint
  | port (p : SwPort)
  /-- No function there that the bus numbers reach (R321). -/
  | beyond
  | nowhere
  /-- Source validation rejects it. -/
  | rejected
  deriving DecidableEq, Repr

/-- From the host: what the EDP's windows or bus range claim goes below, what the IDP's claim to the endpoint. -/
def State.wayDown (s : State) (t : Tlp) : Way :=
  match t.kind with
  | .message => .egress .edp
  | .memRead | .memWrite =>
    if s.psw.edp.claims t.addr.toNat then .egress .edp else if s.psw.idp.claims t.addr.toNat then .endpoint else .nowhere
  | .completion | .cfgRead _ | .cfgWrite _ _ =>
    match s.component t.dst.toNat with
    | .port p => if t.kind = .completion then .nowhere else .port p
    | .function _ => .endpoint
    | .cutOff => if t.kind = .completion then .nowhere else .beyond
    | .below => .egress .edp
    | .none => .nowhere

/-- From below: up to the host, or to the IDP where ACS lets a TLP for the module's own endpoint go there. -/
def State.wayUp (s : State) (t : Tlp) : Way :=
  let c := s.psw.edp
  if c.acsSource && t.kind != .completion && !c.holds (t.req.toNat / 256) then .rejected
  else match t.kind with
    | .cfgRead _ | .cfgWrite _ _ => .nowhere
    | .message => .egress .usp
    | .memRead | .memWrite => if s.psw.idp.claims t.addr.toNat && !c.acsRequest then .endpoint else .egress .usp
    | .completion => if s.psw.idp.holds (t.dst.toNat / 256) && !c.acsCompletion then .endpoint else .egress .usp

def State.way (s : State) (t : Tlp) : Way :=
  match t.rx with
  | .usp => s.wayDown t
  | .edp => s.wayUp t
  | .endpoint => .egress .usp

/-- A TLP that goes nowhere: a non-posted request is completed with Unsupported Request, anything else is discarded, and event
212 tells of a request (R343, R345, R348). -/
def State.refuse (s : State) (t : Tlp) : State :=
  let place := match t.kind with
    | .cfgRead _ | .cfgWrite _ _ | .completion => t.dst.toNat / 256
    | .memRead | .memWrite | .message => t.addr.toNat
  let s := if t.nonPosted then s.emit (.unsupported t.rx t) else s
  if t.kind = .completion ∨ t.kind = .message then s else s.raise 212 [(1, t.rx.code), (2, t.req.toNat), (8, place)]

/-! ### Egress (R341, R343, R344) -/

def State.linkUp (s : State) : Port → Bool
  | .usp => s.bit .PSW_STAT_USUP
  | .edp => s.bit .PSW_STAT_DSUP

/-- A TLP can come in: over a link that is up, or from the endpoint. -/
def State.ingressUp (s : State) : Ingress → Bool
  | .usp => s.linkUp .usp
  | .edp => s.linkUp .edp
  | .endpoint => !s.psw.idpDisabled

def fwdSize : Port → Nat
  | .usp => 262144
  | .edp => 131072
def State.fwdUsed (s : State) (p : Port) : Nat :=
  (match p with | .usp => s.psw.upFwd | .edp => s.psw.down).foldl (fun n (t : Tlp) => n + t.size) 0

/-- Room for one more TLP; the endpoint's traffic has buffers of its own. -/
def State.roomFor (s : State) (t : Tlp) (p : Port) : Bool := t.rx == .endpoint || decide (s.fwdUsed p + t.size ≤ fwdSize p)

/-- The buffer cannot take a TLP of the largest payload. -/
def State.fwdFull (s : State) (p : Port) : Bool := decide (fwdSize p < s.fwdUsed p + 512 + 32)

/-- A TLP leaves at a port, or is handled as for a link that is down. -/
def State.sendTlp (s : State) (t : Tlp) (p : Port) : State := if s.linkUp p then s.emit (.tlp p t) else s.refuse t

/-- Weights of the USP's arbiter: the endpoint's and that of forwarded TLPs. -/
def State.ownWeight (s : State) : Nat := if s.bit .PSW_CFG_ARBAUTO then 1 else s.rd .PSW_ARB_OWNW
def State.fwdWeight (s : State) : Nat := max 1 (if s.bit .PSW_CFG_ARBAUTO then s.rd .PSW_CHAIN_BELOW else s.rd .PSW_ARB_FWDW)

/-- The arbiter lets one whole TLP through: a side alone has the link, and of two each has its weight in a round. -/
def State.arbitrate (s : State) : State :=
  let q := s.psw
  match q.upOwn, q.upFwd with
  | [], [] => s
  | t :: r, [] => (s.setPsw { q with upOwn := r }).sendTlp t .usp
  | [], t :: r => (s.setPsw { q with upFwd := r }).sendTlp t .usp
  | o :: ro, f :: rf =>
    let done := decide (s.ownWeight ≤ q.turnOwn) && decide (s.fwdWeight ≤ q.turnFwd)
    let (a, b) := if done then (0, 0) else (q.turnOwn, q.turnFwd)
    if a < s.ownWeight then (s.setPsw { q with upOwn := ro, turnOwn := a + 1, turnFwd := b }).sendTlp o .usp
    else (s.setPsw { q with upFwd := rf, turnOwn := a, turnFwd := b + 1 }).sendTlp f .usp

def State.arbitrateAll : Nat → State → State
  | 0, s => s
  | n + 1, s => State.arbitrateAll n s.arbitrate

/-- The egress port has credit again: what waits there leaves. -/
def State.drainPort (s : State) : Port → State
  | .usp => s.arbitrateAll (s.psw.upOwn.length + s.psw.upFwd.length)
  | .edp => s.psw.down.foldl (fun s t => s.sendTlp t .edp) (s.setPsw { s.psw with down := [] })

/-- A TLP takes its place at an egress port, and leaves once there is credit; a link that is down takes none. -/
def State.egress (s : State) (t : Tlp) (p : Port) (credit : Bool) : State :=
  if !s.linkUp p then s.refuse t
  else
    let q := s.psw
    let s := s.setPsw (match p, t.rx with
      | .usp, .endpoint => { q with upOwn := q.upOwn ++ [t] }
      | .usp, _ => { q with upFwd := q.upFwd ++ [t] }
      | .edp, _ => { q with down := q.down ++ [t] })
    if credit then s.drainPort p else s

end Sys2Proof.Machine
end

