-- ==== Sys2Proof/Machine/Pass.lean ====
section
/-! DEFINITION. Machine/Pass.lean: the chain switch (R320 to R348): the pass, the links, chain messages and
forwarding. -/

namespace Sys2Proof.Machine

/-- Position of a port in the lane class of Table 14-6: USP 0, EDP 1. -/
def portLane : Port → Nat
  | .usp => 0
  | .edp => 1

/-! ### Joining and leaving (R328 to R335) -/

/-- Position of the first reason that holds a join, in event 197's order: HOLDOFF, JOIN_EN, SUPPLY. -/
def State.joinHeld (s : State) : Option Nat :=
  if s.psw.holdoff then some 0
  else if s.bit .PSW_CFG_POLICY && !s.bit .PSW_STAT_JOINEN then some 1
  else if !s.pwr.good then some 2 else none

/-- OPEN takes effect: the switches begin to open, the count and OPENFLAG are written (Table 12-3, R325, R328). -/
def State.joinStart (s : State) : State :=
  let n := min (2 ^ 32 - 1) (s.passCount + 1)
  let s := ((s.wr .PSW_PASS_STATE 1).wr .PSW_PASS_PENDING 0).setPsw { s.psw with swMoving := true, swOpen := 0 }
  let s := (s.setPassCount n).setPassRec true s.passCause
  let s := s.raise 195 [(4, n)]
  let s := if n = 80000000 then s.raise 202 [(4, n)] else s
  if n = 100000000 then s.raise 203 [(4, n)] else s

/-- The heads are parked: no arm is loaded, no retract runs, and none has lost its bridge on the way. -/
def State.headsParked (s : State) : Bool :=
  s.pwr.retract == 0 && s.pwr.tripped.isEmpty && (List.range 4).all (fun a => !s.armLoaded a)

/-- The DBGEN fuse is clear in every ordering code (R413). -/
def dbgen : Bool := false
/-- The instruction that the test access port obeys: a debug instruction reads as BYPASS without DBGEN. -/
def tapActs (i : TapInstr) : TapInstr := if i = .debug ∧ dbgen = false then .bypass else i
/-- The pass stays closed in every test instruction. -/
def tapTests (i : TapInstr) : Bool := i == .boundary || i == .acScan
/-- The test access port holds an instruction. -/
def State.setTap (s : State) (i : TapInstr) : State := s.setPsw { s.psw with tap := tapActs i }

/-- In recovery mode the boot ROM firmware opens the pass only with the spindle at rest and the heads parked (R50); in a test
instruction it stays closed (R413). -/
def State.mayOpen (s : State) : Bool := (!s.rst.recovery || (!s.pwr.turning && s.headsParked)) && !tapTests s.psw.tap

def passKey (v : W32) : Bool := bitsN v.toNat 0 8 == 0xC3

/-- PASS_OPEN (R330). OPEN and CLOSE together act as CLOSE. tap is the instruction in the test access port. -/
def execPassOpen (v : W32) (s : State) (tap : TapInstr := .bypass) : Res :=
  .next ((s.setTap tap).on (s.up 10 && passKey v && v.toNat.testBit 8 && !v.toNat.testBit 9 &&
      !(s.rd .PSW_PASS_STATE == 1 || s.rd .PSW_PASS_STATE == 2) && (s.setTap tap).mayOpen) (fun s =>
    if s.bit .PSW_PASS_FAULT then s.raise 198 [(1, 0)]
    else if s.bit .PSW_STAT_TOODEEP then s.raise 198 [(1, 1)]
    else match s.joinHeld with
      | some r => (s.wr .PSW_PASS_PENDING 1).raise 197 [(1, r)]
      | none => if s.rd .PSW_PASS_STATE = 0 then s.joinStart else s.wr .PSW_PASS_PENDING 1))

/-- PASS_CLOSE (R330, R334): cause 1, or the end of a pending OPEN. -/
def execPassClose (v : W32) (s : State) : Res :=
  .next (s.on (s.up 10 && passKey v && v.toNat.testBit 9) (fun s =>
    if s.rd .PSW_PASS_STATE = 1 ∨ s.rd .PSW_PASS_STATE = 2 then s.passClose 1 else s.wr .PSW_PASS_PENDING 0))

/-- JOIN_PROCEED (R330). -/
def execJoinProceed (s : State) (tap : TapInstr := .bypass) : Res :=
  .next ((s.setTap tap).on (s.up 10 && s.bit .PSW_PASS_PENDING && s.rd .PSW_PASS_STATE == 0 && s.joinHeld.isNone &&
    !s.bit .PSW_PASS_FAULT && !s.bit .PSW_STAT_TOODEEP && !tapTests (tapActs tap)) State.joinStart)

/-- HOLDOFF_EXPIRE (R328). -/
def execHoldoffExpire (s : State) : Res := .next (s.setPsw { s.psw with holdoff := false })

/-- JOIN_EN_CHANGE (R329, R334): cause 2 under POLICY 1. -/
def execJoinEnChange (level : Bool) (s : State) : Res :=
  .next ((s.wrb .PSW_STAT_JOINEN level).on (!level && s.bit .PSW_CFG_POLICY) (fun s => s.passClose 2))

/-- What one lane's switch of the pass connects (R325): nothing while it moves, the module's own SerDes to both of its pairs
when open, and the upstream pair to the downstream pair when closed. -/
inductive LanePath where
  | nothing
  | own
  | through
  deriving DecidableEq, Repr
def State.lanePath (s : State) (k : Nat) : LanePath :=
  if s.psw.swMoving then .nothing else if s.psw.swOpen.testBit k then .own else .through

/-- The pass is open and every switch connects the module's own SerDes (R325, R326). -/
def State.passOpen (s : State) : Bool :=
  s.rd .PSW_PASS_STATE == 2 && (List.range 32).all (fun k => s.lanePath k == .own)

/-- The switches have come to rest: those that open names connect the module's SerDes. -/
def State.switchesAt (s : State) (opened : Nat) : State := s.setPsw { s.psw with swMoving := false, swOpen := opened }

/-- PASS_POSITION_CHECK (R327): wrong names the switches out of position. -/
def execPassPositionCheck (wrong : W32) (s : State) : Res :=
  let st := s.rd .PSW_PASS_STATE
  .next (
    if st = 1 then
      if wrong = 0 then (s.switchesAt (2 ^ 32 - 1)).wr .PSW_PASS_STATE 2
      else ((s.wr .PSW_PASS_FAULT 1).raise 213 [(4, wrong.toNat), (1, 1)]).passClose 4
    else if st = 3 then
      let s := (s.switchesAt wrong.toNat).wr .PSW_PASS_STATE 0
      if wrong = 0 then s
      else ((s.wr .PSW_PASS_PENDING 0).wr .PSW_PASS_FAULT 1).raise 213 [(4, wrong.toNat), (1, 0)]
    else s)

/-! ### Chain messages (R332, R333) -/

/-- DEPTH as the EDP sends it, once the depth is known. -/
def State.sendDepth (s : State) : State :=
  if s.bit .PSW_STAT_DSUP && s.bit .PSW_STAT_DEPTHOK then s.emit (s.chainOut .edp 1 (s.rd .PSW_CHAIN_DEPTH)) else s

/-- A message this module takes: its Vendor ID, the signature 0x4E44 and the kind. -/
def State.chainMsg (s : State) (hdr : W32) (vid : W16) (kind : Nat) : Bool :=
  vid.toNat == s.rd .PSW_ID_VID && bitsN hdr.toNat 16 16 == 0x4E44 && bitsN hdr.toNat 0 8 == kind

/-- The depth is decided or changed; above 15 the module leaves the chain (R333). -/
def State.setDepth (s : State) (d : Nat) : State :=
  let old := s.rd .PSW_CHAIN_DEPTH
  let known := s.bit .PSW_STAT_DEPTHOK
  let s := (s.wr .PSW_CHAIN_DEPTH d).wr .PSW_STAT_DEPTHOK 1
  let s := if known && old == d then s else (s.raise 199 [(1, old), (1, d)]).sendDepth
  if 15 < d then ((s.passClose 3).wr .PSW_STAT_TOODEEP 1).raise 201 [(1, d)] else s

/-- DEPTH (R333). -/
def execDepth (hdr : W32) (vid : W16) (s : State) : Res :=
  .next (s.on (s.bit .PSW_STAT_USUP && s.chainMsg hdr vid 1) (fun s => s.setDepth (min 16 (bitsN hdr.toNat 8 8 + 1))))

/-- BELOW (R332). -/
def execBelow (hdr : W32) (vid : W16) (s : State) : Res :=
  .next (s.on (s.bit .PSW_STAT_DSUP && s.chainMsg hdr vid 2) (fun s => s.setBelow (bitsN hdr.toNat 8 8 % 32)))

/-- DEPTH_TIMEOUT (R333). -/
def execDepthTimeout (s : State) : Res :=
  .next (s.on (s.bit .PSW_STAT_USUP && !s.bit .PSW_STAT_DEPTHOK) (fun s => s.setDepth 0))

/-- CHAIN_MESSAGE_PERIOD (R332). -/
def execChainMessagePeriod (s : State) : Res := .next s.sendDepth.sendBelow

/-! ### Links (R331, R336 to R339, R346, R348) -/

/-- Lanes that fail at training or are lasting (R346, R387). -/
def State.lanesOut (s : State) (p : Port) (failed : W16) : Nat :=
  Nat.lor failed.toNat (bitsN (s.rd .AGE_FSTAT_LASTING 3) (16 * portLane p) 16)

/-- One event 194 for each lane that failed equalisation, with the rate at which it did. -/
def State.lanesMarked (s : State) (p : Port) (failed rate : Nat) : State :=
  (List.range 16).foldl (fun s l => if failed.testBit l then s.raise 194 [(1, (portLane p)), (1, l), (1, rate)] else s) s

/-- The widest link that a port trains without its marked lanes (R346, Table 12-2). -/
def widthWithout (marked : Nat) : Nat :=
  let n := ((List.range 16).filter (fun l => !marked.testBit l)).length
  ([16, 8, 4, 2, 1].find? (fun w => decide (w ≤ n))).getD 0

/-- LINK_UP (R331, R332, R346): a link comes up without its marked lanes, at 2.5 GT/s with final clear, then at its final rate.
The time event 218 carries is measured outside the model. -/
def execLinkUp (p : Port) (speed : BitVec 3) (width : BitVec 5) (failed : W16) (s : State) (final : Bool := true) (rate : BitVec 3 := 7) : Res :=
  let ok := s.up 10 && !s.psw.perst && s.passOpen
  let m := s.lanesOut p failed
  let sp := speed.toNat
  let w := min width.toNat (widthWithout m)
  let degraded := sp < 7 ∨ w < 16
  .next (match p with
    | .usp => s.on (ok && !s.psw.usFinal) (fun s =>
        let first := !s.bit .PSW_STAT_USUP
        let s := ((s.wr .PSW_USLNK_SPEED sp).wr .PSW_USLNK_WIDTH w).wr .PSW_USLNK_MARKED m
        let s := if first then ((s.wr .PSW_STAT_USUP 1).wr .PSW_STAT_DEPTHOK 0).sendBelow else s
        let s := s.lanesMarked .usp failed.toNat rate.toNat
        if !final then s
        else
          let s := (s.setPsw { s.psw with usFinal := true }).raise 188 [(1, sp), (1, w)]
          let s := if degraded then s.raise 192 [(1, sp), (1, w), (2, m)] else s
          let (t, s) := (s.emit .ready).draw 16
          s.raise 218 [(2, t)])
    | .edp => s.on (ok && !s.psw.edpDisabled && !s.psw.edp.contained && !s.psw.dsFinal) (fun s =>
        let first := !s.bit .PSW_STAT_DSUP
        let s := ((s.wr .PSW_DSLNK_SPEED sp).wr .PSW_DSLNK_WIDTH w).wr .PSW_DSLNK_MARKED m
        let s := if first then
            let s := (s.wr .PSW_STAT_DSUP 1).setPsw { s.psw with edp := { s.psw.edp with presence := true, linkChange := true } }
            s.sendDepth.sendBelow
          else s
        let s := s.lanesMarked .edp failed.toNat rate.toNat
        if !final then s
        else
          let s := (s.setPsw { s.psw with dsFinal := true }).raise 190 [(1, sp), (1, w)]
          if degraded then s.raise 193 [(1, sp), (1, w), (2, m)] else s))

/-- The module passes a hot reset on below (R338). -/
def State.hotResetBelow (s : State) : State := if s.bit .PSW_STAT_DSUP then s.emit .hotReset else s

/-- The link toward the host is reset or lost: both ports leave their links, a hot reset goes on below unless PERST_DN_N does
it, and every function and port sees a link reset (R336, R338). -/
def State.linksReset (s : State) (cause : Nat) (propagate : Bool) : State :=
  let s := if propagate then s.hotResetBelow else s
  ((s.uspDown cause).edpDown cause).linkReset

/-- LINK_DOWN (R338, R348): Data Link Layer down on the USP acts as a link reset and is propagated; a loss of the
EDP's link that nothing announced is a surprise. -/
def execLinkDown (p : Port) (cause : Byte) (inL0 : W32) (s : State) : Res :=
  .next (match p with
    | .usp => s.on (s.bit .PSW_STAT_USUP) (fun s => s.linksReset cause.toNat true)
    | .edp => s.on (s.bit .PSW_STAT_DSUP) (fun s =>
        let s := s.edpDown cause.toNat
        if cause = 0 then s.raise 217 [(4, inL0.toNat)] else s))

/-- PERST_N (R336, R57): before step 10 it is only forwarded. -/
def execPerstN (level : Bool) (s : State) : Res :=
  let s := s.setPsw { s.psw with perst := !level }
  .next (s.on (s.up 10) (fun s =>
    let s := s.raise 204 [(1, b2n level)]
    if level then s else s.linksReset 1 false))

/-- HOT_RESET (R338): event 205 with the USP's link down for a hot reset, or 189 for Data Link Layer down. -/
def execHotReset (dlDown : Bool) (s : State) : Res :=
  .next (s.on (s.bit .PSW_STAT_USUP) (fun s => if dlDown then s.linksReset 0 true else (s.raise 205 []).linksReset 2 true))

/-- IDP_LINK_CONTROL (R323). -/
def execIdpLinkControl (linkDisable set : Bool) (s : State) : Res :=
  .next (s.on (s.up 10) (fun s => s.idpControl linkDisable set))

/-- EDP_SECONDARY_BUS_RESET (R339): downstream only. -/
def execEdpSecondaryBusReset (linkDisable set : Bool) (s : State) : Res :=
  .next (s.on (s.up 10) (fun s => s.edpControl linkDisable set))

/-- IDP_BUS_NUMBER_WRITE (R321): VFs 256 to 511 lie on the bus after the secondary one. -/
def execIdpBusNumberWrite (primary secondary subordinate : Byte) (s : State) : Res :=
  .next (s.on (s.up 10) (fun s => s.busNumbers .idp primary.toNat secondary.toNat subordinate.toNat))

/-! ### En passant forwarding (R340 to R345) -/

/-- TLP_FORWARD (R321, R340 to R345): a TLP whose flits fail their check goes no further, and a NOP goes out in its place; what
the sender has no credit for does not arrive. credit tells whether the egress port has credit. -/
def execTlpForward (t : Tlp) (s : State) (credit : Bool := true) : Res :=
  .next (s.on (s.up 10 && s.ingressUp t.rx) (fun s => match s.way t with
    | .egress p =>
      if !t.sound then (if s.linkUp p then s.emit (.nop p) else s)
      else s.on (s.roomFor t p) (fun s => s.egress t p credit)
    | .endpoint => s.on t.sound (fun s => if s.psw.idpDisabled then s.refuse t else s.emit (.toEndpoint t))
    | .port p => s.on t.sound (fun s => s.portAnswer p t)
    | .nowhere => s.on t.sound (fun s => s.refuse t)
    | .beyond => s.on t.sound (fun s => s.emit (.unsupported t.rx t))
    | .rejected => s.on t.sound (fun s => s.refuse t)))

/-- FORWARD_BUFFER_FULL (R343). -/
def execForwardBufferFull (towardUsp : Bool) (credit : Byte) (s : State) : Res :=
  .next (s.on (s.up 10 && s.fwdFull (if towardUsp then .usp else .edp)) (fun s => s.raise 210 [(1, b2n (!towardUsp)), (1, credit.toNat)]))

end Sys2Proof.Machine
end

