-- ==== Sys2Proof/Machine/PowerDie.lean ====
section
/-! DEFINITION. Machine/PowerDie.lean: the power die's own acts: bus thresholds (R94 to R96), isolation (R401), retract (R100),
bridges and rails (R403, R404), and the conditions of the write permit (R126, R399, R405, R414). -/

namespace Sys2Proof.Machine

/-! ### Bus thresholds -/

/-- A sample of VMOT. -/
def State.setBus (s : State) (vmot : BitVec 12) : State :=
  (s.wr .SPN_MEAS_VBUS vmot.toNat).setPwr { s.pwr with vmot := vmot.toNat }

/-- BUS_WATCH_ENTER: VMOT at or above 12.9 V. -/
def execBusWatchEnter (vmot : BitVec 12) (s : State) : Res :=
  .next ((s.setBus vmot).on (decide (1290 ≤ vmot.toNat) && !s.bit .SPN_STAT_BUSWATCH) (fun s =>
    (s.wr .SPN_STAT_BUSWATCH 1).powerEvent 175 [(2, vmot.toNat)]))

/-- BUS_WATCH_RELEASE: below 12.7 V. -/
def execBusWatchRelease (vmot : BitVec 12) (s : State) : Res :=
  .next ((s.setBus vmot).on (decide (vmot.toNat < 1270)) (fun s => s.wr .SPN_STAT_BUSWATCH 0))

/-- OV1_ENGAGE: at or above 13.2 V. A faulty chopper, and the shut-down of OV2, keep it off. -/
def execOv1Engage (vmot : BitVec 12) (s : State) : Res :=
  .next ((s.setBus vmot).on (decide (1320 ≤ vmot.toNat) && !s.bit .SPN_STAT_CHOPON && !s.bit .SPN_STAT_CHOPFLT &&
      !s.bit .SPN_STAT_OV2) (fun s =>
    let first := !s.spn.ov1
    let s := (s.wr .SPN_STAT_CHOPON 1).setSpn { s.spn with ov1 := true }
    if first then s.powerEvent 176 [(2, vmot.toNat)] else s))

/-- OV1_RELEASE: below 12.9 V. -/
def execOv1Release (vmot : BitVec 12) (s : State) : Res :=
  .next ((s.setBus vmot).on (decide (vmot.toNat < 1290)) (fun s => s.wr .SPN_STAT_CHOPON 0))

/-- CHOPPER_FAULT (R95): no current (0), or 13.6 V reached (1). -/
def execChopperFault (high : Bool) (s : State) : Res :=
  .next (s.on (s.bit .SPN_STAT_CHOPON) (fun s =>
    ((s.wr .SPN_STAT_CHOPON 0).wr .SPN_STAT_CHOPFLT 1).powerEvent 177 [(1, b2n high)]))

/-- OV2_SHUTDOWN: at or above 14.4 V. -/
def execOv2Shutdown (vmot : BitVec 12) (s : State) : Res :=
  .next ((s.setBus vmot).on (decide (1440 ≤ vmot.toNat) && !s.bit .SPN_STAT_OV2) (fun s =>
    let s := ((s.wr .SPN_STAT_OV2 1).wr .SPN_STAT_CHOPON 0).powerEvent 178 [(2, vmot.toNat), (2, s.speed)]
    ((s.spnCut 3).holdEnd 1).retract .bus))

/-- POWER_LOSS: below 9.6 V at the VBUS balls. VMOT, which SPN_MEAS.VBUS and the 12 V condition go by, falls after it (R401). -/
def execPowerLoss (s : State) : Res :=
  .next (s.on s.pwr.iso (fun s =>
    let s := s.setPwr { s.pwr with iso := false }
    let s := s.powerEvent 179 [(2, s.speed)]
    ((s.spnCut 4).holdEnd 0).retract .bus))

/-- ISOLATION_SWITCH_CLOSE (R401). What VMOT reads then is open. -/
def execIsolationSwitchClose (s : State) : Res :=
  .next (s.on (!s.pwr.iso) (fun s =>
    let (x, s) := s.draw 12
    (s.wr .SPN_MEAS_VBUS x).setPwr { s.pwr with iso := true, vmot := x }))

/-! ### Retract (R100) -/

/-- RETRACT_PUSH. -/
def execRetractPush (s : State) : Res :=
  .next (s.on (s.pwr.retract == 1) (fun s =>
    let s := s.setPwr { s.pwr with retract := 2 }
    (List.range 4).foldl (fun s a => if NSet.has a s.pwr.tripped then s else s.emit (.vcmPush a (2 * s.rd .SPN_ILIM_RETI))) s))

/-- RETRACT_DONE. -/
def execRetractDone (t0 t1 t2 t3 : W16) (s : State) : Res :=
  .next (s.on (s.pwr.retract == 2) (fun s =>
    let s := s.setPwr { s.pwr with retract := 0 }
    let s := (List.range 4).foldl (fun s a => s.emit (.vcmOff a)) s
    (s.powerEvent 181 [(2, t0.toNat), (2, t1.toNat), (2, t2.toNat), (2, t3.toNat)]).updWp))

/-- LINK_SILENCE: expected while a reset is announced. It never ends a speed hold (R101). Where XSYS has stopped, nothing of the
controller die runs again before a reset finds it oscillating (R412). -/
def execLinkSilence (us : W32) (s : State) (xsys : Bool := true) : Res :=
  .next (s.on (s.pwr.link && s.up 5 && decide (100 ≤ us.toNat)) (fun s =>
    let s : State := { s with pwr := { s.pwr with link := false }, rst := { s.rst with xsys := xsys } }
    let s := s.hold 187 [(4, us.toNat)]
    let s := if s.bit .SPN_HOLD_ACTIVE then s else s.spnCut 0
    (s.retract .silence).updWp))

/-! ### Bridges, rails and heat (R403, R404, R414) -/

/-- BRIDGE_OVERCURRENT: the phase that event 186 carries for a voice coil is open. -/
def execBridgeOvercurrent (b : Bridge) (value : W16) (s : State) : Res :=
  .next (match b with
    | .spindle p =>
      let s := s.powerEvent 186 [(1, p), (2, value.toNat)]
      (s.wr .SPN_HOLD_ACTIVE 0).spnCut 0
    | .vcm a =>
      let (x, s) := s.draw 8
      let s := s.powerEvent 186 [(1, x), (2, value.toNat)]
      let s := (s.setPwr { s.pwr with tripped := NSet.add a s.pwr.tripped }).emit (.vcmOff a)
      s.retract .fault)

/-- POWER_DIE_OVERTEMP: value is the junction temperature in the steps of AGE_TEMP. -/
def execPowerDieOvertemp (value : W16) (s : State) : Res :=
  let (x, s) := s.draw 8
  let s := (s.wr .AGE_TEMP_TEMP value.toNat 1).setPwr { s.pwr with hotDie := true }
  let s := s.powerEvent 186 [(1, x), (2, value.toNat)]
  .next (((s.wr .SPN_HOLD_ACTIVE 0).spnCut 0).retract .fault)

/-- A rail leaves its range: every microactuator output is held at 0 V. -/
def State.maOff (s : State) : State :=
  let s := s.setPwr { s.pwr with ma := false }
  (List.range 4).foldl (fun s a => (List.range 6).foldl (fun s p => s.stopMicro a p) s) s

/-- MA_RAIL_OUT_OF_RANGE. -/
def execMaRailOutOfRange (s : State) : Res := .next s.maOff

/-- MA_RAIL_IN_RANGE: the rails run from the release of step 2 while VMOT is in its window. -/
def execMaRailInRange (s : State) : Res := .next (s.on (s.up 2 && s.pwr.v12) (fun s => s.setPwr { s.pwr with ma := true }))

/-- CONTROLLER_DIE_OVERTEMP. -/
def execControllerDieOvertemp (s : State) : Res := .next (s.setPwr { s.pwr with hot := true }).updWp

/-- CONTROLLER_DIE_TEMP_RESTORE. -/
def execControllerDieTempRestore (s : State) : Res := .next (s.setPwr { s.pwr with hot := false }).updWp

/-! ### Conditions of the write permit (Table 5-5) -/

/-- SHOCK_EXCURSION, on either input: the rest biases are frozen while it lasts (R405). -/
def execShockExcursion (_inputB : Bool) (s : State) : Res :=
  .next (s.setPwr { s.pwr with shock := true, outside := true }).updWp

/-- SHOCK_HOLD_EXPIRE. -/
def execShockHoldExpire (s : State) : Res := .next (s.setPwr { s.pwr with shock := false, outside := false }).updWp

/-- SHOCK_SENSOR_UNSOUND. -/
def execShockSensorUnsound (inputB : Bool) (s : State) : Res :=
  let p := s.pwr
  .next (s.setPwr (if inputB then { p with soundB := false } else { p with soundA := false })).updWp

/-- SHOCK_SENSOR_SOUND_RESTORE: bias is the input's bias filtered over 1 ms, 10 mV steps, from which its rest bias starts where
it has not since the last level reset (R405). -/
def execShockSensorSoundRestore (inputB : Bool) (bias : Byte) (s : State) : Res :=
  let p := s.pwr
  .next (if inputB then (s.setPwr { p with soundB := true, biasB := true }).on (!p.biasB) (fun s => s.wr .SPN_SHK_BIASB bias.toNat)
    else (s.setPwr { p with soundA := true, biasA := true }).on (!p.biasA) (fun s => s.wr .SPN_SHK_BIASA bias.toNat)).updWp

/-- REPORT_FRESH_EXPIRE. -/
def execReportFreshExpire (a : Arm) (s : State) : Res :=
  .next (s.setPwr { s.pwr with fresh := NSet.del a s.pwr.fresh }).updWp

/-- SUPPLY_WINDOW_EXIT (R399): a controller-die rail closes the pass as well; without VMOT the microactuator rails stop (R404). -/
def execSupplyWindowExit (rail : Rail) (s : State) : Res :=
  let p := s.pwr
  .next (match rail with
    | .core => (s.setPwr { p with core := false, good := false }).passClose6.updWp
    | .vbus => (s.setPwr { p with v12 := false }).maOff.updWp
    | .vpre => (s.setPwr { p with vpre := false }).updWp)

/-- SUPPLY_GOOD_RESTORE. -/
def execSupplyGoodRestore (rail : Rail) (s : State) : Res :=
  let p := s.pwr
  .next (match rail with
    | .core => (s.setPwr { p with core := true, good := true }).recordClose6.updWp
    | .vbus => (s.setPwr { p with v12 := true }).updWp
    | .vpre => (s.setPwr { p with vpre := true }).updWp)

end Sys2Proof.Machine
end

