-- ==== Sys2Proof/Machine/ServoOps.lean ====
section
/-! DEFINITION. Machine/ServoOps.lean: the loops of an arm: the reference head and the common position (R110), the observer and
plausibility (R124), the coarse and microactuator loops (R111 to R115, R119), the profile (R121, R122) and readiness
(R123). Positions are in 1/1024 track. -/

namespace Sys2Proof.Machine

def ArmS.mic (v : ArmS) (p : Nat) : Micro := NTab.get {} p v.micro
def ArmS.setMic (v : ArmS) (p : Nat) (m : Micro) : ArmS := { v with micro := NTab.put {} p m v.micro }
def State.setMic (s : State) (a p : Nat) (m : Micro) : State := s.setArm a ((s.arm a).setMic p m)

/-! ### The reference head (R110) -/

def State.refChoice (s : State) (a : Nat) : Nat :=
  let want := s.rd .SCE_CTL_REFHEAD a
  (((List.range 6).map (fun k => (want + k) % 6)).find? (fun p => s.rdBit .SCE_HSTAT_PLAUS p a)).getD want

/-- A change of reference head raises REFCHG. A written REFHEAD takes effect at the next sample served, and the samples of that
instant are still ordered by the old reference head: the spec gives no instant (log entry 107). -/
def State.refUpdate (s : State) (a : Nat) : State :=
  let r := s.refChoice a
  if r = s.rd .SCE_STAT_REFACT a then s else (s.wr .SCE_STAT_REFACT r a).sceFault a faultRefchg

/-! ### The frames (R110, R124) -/

/-- The bank a microactuator loop uses: the old one until its own swap sample (R118). -/
def State.micBank (s : State) (a p : Nat) : Nat :=
  if ((s.arm a).mic p).swap then 1 - s.bankNow a else s.bankNow a

def State.hofs (s : State) (a p : Nat) : Rat := (signedN 32 (s.rd .SCE_HCAL0_HOFS a p) : Rat)
def micSection (p : Nat) : Nat := 0x80 + 0x40 * p
/-- MGAIN × u of the output last applied to a head: its microactuator's stroke. -/
def State.stroke (s : State) (a p : Nat) : Rat :=
  s.gain a (s.micBank a p) (micSection p + 0x28) * ((s.arm a).mic p).uApp

/-- Common position by a sample of the reference head. -/
def State.commonPos (s : State) (a p pos : Nat) : Rat := (pos : Rat) - s.hofs a p - s.stroke a p

/-- The observer's position carried forward by f samples under the output applied. -/
def State.carried (s : State) (a : Nat) (f : Rat) : Rat :=
  let v := s.arm a
  v.ph + v.vh * f + s.gain a (s.bankNow a) 0x58 * v.uApp * f * f / 2

/-- Part of a sample by which head p follows the reference head. -/
def stagger (p r : Nat) : Rat := (((p + 6 - r) % 6 : Nat) : Rat) / 6

/-- Predicted position of head p in its surface frame. -/
def State.predicted (s : State) (a p : Nat) (f : Rat) : Rat := s.carried a f + s.hofs a p + s.stroke a p

/-! ### Plausibility (R124) -/

/-- Samples in a row that make a head implausible, plausible again, or late. -/
def State.plausN (s : State) (a : Nat) : Nat := max 1 (s.rd .SCE_PLAUS_N_N a)
def State.plausOkN (s : State) (a : Nat) : Nat := max 1 (s.rd .SCE_PLAUS_N_OK a)
def State.lateLim (s : State) (a : Nat) : Nat := max 1 (s.rd .SCE_PLAUS_N_LATE_LIM a)

/-- Error bits 43 to 46 of a record. -/
def Sample.errs (x : Sample) : Nat := b2n x.miss + 2 * b2n x.idxerr + 4 * b2n x.lowamp + 8 * b2n x.trkerr

/-- A sample's residual decides the head's plausibility. Late samples in a row have made it implausible when their deadlines
passed (State.lateHead). -/
def State.judge (s : State) (a p : Nat) (x : Sample) (res : Rat) : State :=
  let m := (s.arm a).mic p
  let out := decide ((s.rd .SCE_PLAUS_THR_THR a : Rat) < |res|) || !x.valid
  let oob := if out then m.oob + 1 else 0
  let good := if out || x.late then 0 else m.good + 1
  let s := s.setMic a p { m with oob := oob, good := good, res := roundQ res }
  let bad := !x.valid || decide (s.plausN a ≤ oob)
  if bad then s.setPlaus a p false (b2n (decide (s.plausN a ≤ oob) && x.valid) + 2 * x.errs) (roundQ res)
  else if s.plausOkN a ≤ good then s.setPlaus a p true 0 (roundQ res)
  else s

/-- The report of a served sample (R125) and the power die's view of it. -/
def State.report (s : State) (a : Nat) : State :=
  let s := s.linkHeard
  let ok := s.bit .SCE_HSTAT_ARMPL a && s.armLoaded a
  let p := s.pwr
  let p := { p with plaus := if ok then NSet.add a p.plaus else NSet.del a p.plaus }
  let p := if 4 * s.rd .SPN_LIM_SPDMIN ≤ s.rd .SPN_MEAS_SPEED ∧ s.rd .SPN_MEAS_SPEED ≠ 0 then { p with fresh := NSet.add a p.fresh } else p
  (s.setPwr p).updWp

/-! ### The profile (R121, R122) -/

/-- Target in tracks. -/
def State.targetTrk (s : State) (a : Nat) : Rat := (s.rd .SCE_CTGT_CTGT a : Rat) / 1024

/-- One sample of the profile before the spreading over ASLEW samples: position, velocity, acceleration in tracks and
ms, and whether it still brakes to turn. The sample's acceleration is constant. -/
def profileRaw (amax dmax vmax dt rp rv rt : Rat) (turn : Bool) : Rat × Rat × Rat × Bool :=
  if dt = 0 then (rp, rv, 0, turn)
  else if turn then
    let v := |rv|
    let v1 := max 0 (v - dmax * dt)
    let d := signQ rv
    (rp + d * (v + v1) / 2 * dt, d * v1, d * (v1 - v) / dt, decide (0 < v1))
  else
    let d := signQ (rt - rp)
    let rem := |rt - rp|
    let v := |rv|
    let stop := if v * dt ≤ 2 * rem then rootQ ((dmax * dt / 2) * (dmax * dt / 2) + dmax * (2 * rem - v * dt)) - dmax * dt / 2 else 0
    let v1 := max (max 0 (v - dmax * dt)) (min (v + amax * dt) (min vmax stop))
    let adv := (v + v1) / 2 * dt
    if rem ≤ adv ∨ (v1 = 0 ∧ rem ≤ v * dt) then (rt, 0, -(signQ rv) * v / dt, false)
    else (rp + d * adv, d * v1, d * (v1 - v) / dt, false)

def meanQ (l : List Rat) : Rat := if l.isEmpty then 0 else l.foldl (· + ·) 0 / (l.length : Rat)

/-- The next sample of the profile: the reference in 1/1024 track, its acceleration per sample², and whether the
trajectory has reached its target. Every change of acceleration is spread over ASLEW samples by their mean. -/
def State.profileStep (s : State) (a : Nat) : Rat × Rat × Bool × State :=
  let v := s.arm a
  let dt := s.samplePeriod
  let rt := s.targetTrk a
  let (rp, rv, ra, turn) := profileRaw (s.rd .SCE_PROF_A_AMAX a) (s.rd .SCE_PROF_A_DMAX a) (s.rd .SCE_PROF_V_VMAX a) dt v.rp v.rv rt v.turn
  let n := max 1 (s.rd .SCE_PROF_V_ASLEW a)
  let hist := ((rp, ra) :: v.hist).take n
  let hist := hist ++ List.replicate (n - hist.length) (v.rp, 0)
  let s := s.setArm a { v with rp := rp, rv := rv, turn := turn, hist := hist }
  (1024 * meanQ (hist.map (fun e => e.1)), 1024 * meanQ (hist.map (fun e => e.2)) * dt * dt,
    rv == 0 && hist.all (fun e => e.1 == rt), s)

/-- A seek starts from a reference position, or goes on toward a new target (R122). -/
def State.seekStart (s : State) (a : Nat) (ref : Rat) : State :=
  let s := ((s.wr .SCE_HSTAT_RDY_RD 0 a).wr .SCE_HSTAT_RDY_WR 0 a).setSceState a 3
  let s := s.setArm a { s.arm a with rp := ref / 1024, rv := 0, turn := false, hist := [] }
  let s := (List.range 6).foldl (fun s p =>
    let s := s.stopMicro a p
    s.setMic a p { (s.arm a).mic p with rdN := 0, wrN := 0 }) s
  let s := if !(s.arm a).swap then s.wr .SCE_BANKSEL_PENDING 0 a else s
  if s.bit .SCE_BANKSEL_AUTO a then s.castleTo a 0 else s

def State.seekAgain (s : State) (a : Nat) : State :=
  let v := s.arm a
  let gap := (s.targetTrk a - v.rp) * signQ v.rv
  let dmax : Rat := (s.rd .SCE_PROF_A_DMAX a : Rat)
  s.setArm a { v with turn := v.rv != 0 && !decide (v.rv * v.rv ≤ 2 * dmax * gap) }

/-- CTGT is written: clamped, and in the tracking states a seek (R121, R122). -/
def State.setCtgt (s : State) (a v : Nat) : State :=
  let lo := 1024 * s.rd .SCE_MINTRK_MINTRK a
  let hi := 1024 * s.rd .SCE_MAXTRK_MAXTRK a
  let t := max lo (min hi v)
  let old := s.rd .SCE_CTGT_CTGT a
  let s := if t = v then s else s.wr .SCE_STAT_CLAMPTRK 1 a
  let s := s.wr .SCE_CTGT_CTGT t a
  let st := s.rd .SCE_STAT_STATE a
  if st = 3 then s.seekAgain a
  else if st = 4 ∨ st = 5 then s.seekStart a old
  else s

/-! ### The coarse loop (R111, R112, R114, R115) -/

def State.fricEntry (s : State) (a k : Nat) : Rat := (signedN 16 (s.mrd 2 (sceBase a + 0x2000 + 2 * k)) : Rat)

/-- The friction term, 0.1 mA. vh is in tracks per ms. -/
def State.fric (s : State) (a : Nat) (pc vh : Rat) : Rat :=
  let x : Rat := (((pc / 1024).floor - (s.rd .SCE_FRIC0_BASE a : Int) : Int) : Rat) / ((2 ^ s.rd .SCE_FRIC0_SHIFT a : Nat) : Rat)
  let x := clampQ x 0 1023
  let k := x.floor.toNat
  let tab := if 1023 ≤ k then s.fricEntry a 1023
    else s.fricEntry a k + (x - (k : Rat)) * (s.fricEntry a (k + 1) - s.fricEntry a k)
  let c : Rat := (signedN 16 (s.rd .SCE_FRIC1_FRIC_C a) : Rat)
  let dead : Rat := (max 1 (s.rd .SCE_FRIC1_DEADV a) : Nat)
  tab + (if dead < |vh| then c * signQ vh else c * vh / dead)

/-- Δu of each other arm since this arm's previous coarse sample; a stopped arm gives 0. -/
def State.xff (s : State) (a b : Nat) : Rat :=
  (List.range 4).foldl (fun acc k =>
    if k = a ∨ s.rd .SCE_STAT_STATE k = 0 then acc
    else acc + s.gain a b (0x48 + 4 * k) * ((s.arm k).cast - NTab.get 0 k (s.arm a).used)) 0

/-- The broadcasts of the other arms are taken. -/
def State.xffTake (s : State) (a : Nat) : State :=
  let u := (List.range 4).foldl (fun t k => NTab.put 0 k (s.arm k).cast t) ([] : NTab Rat)
  s.setArm a { s.arm a with used := u }

/-- One coarse sample toward a reference; late discards the output (R109). -/
def State.coarse (s : State) (a : Nat) (rref aref pc : Rat) (late : Bool) : State :=
  let v := s.arm a
  let swap := v.swap
  let s := if swap then
      let s := s.wr .SCE_BANKSEL_ACTIVE (1 - s.bankNow a) a
      let st := s.rd .SCE_STAT_STATE a
      let mic := (List.range 6).foldl (fun t p =>
        if (st = 4 ∨ st = 5) ∧ s.rdBit .SCE_CTL_MEN p a ∧ s.pwr.ma then NTab.put {} p { NTab.get {} p t with swap := true } t else t) v.micro
      s.setArm a { v with swap := false, micro := mic }
    else s
  let v := s.arm a
  let b := s.bankNow a
  let e := rref - pc
  let dt := s.samplePeriod
  let vh := if dt = 0 then 0 else v.vh / 1024 / dt
  let terms := s.gain a b 0 * e + s.gain a b 8 * (e - v.ePrev) + s.gain a b 0xC * aref +
    (if s.bit .SCE_CTL_FRICEN a then s.fric a pc vh else 0) + (if s.bit .SCE_CTL_XFFEN a then s.xff a b else 0)
  let hi : Rat := (s.bankInt a b 0x10 : Rat)
  let lo : Rat := (s.bankInt a b 0x14 : Rat)
  let (i, sat) := if swap then castleStep v.vApp terms lo hi v.sat else satStep v.integ (s.gain a b 4 * e) lo hi v.sat
  let x := terms + i
  let (y1, n1) := s.biquad a b 0x20 v.n1 x
  let (y2, n2) := s.biquad a b 0x34 v.n2 y1
  let u := clampQ y2 (s.bankInt a b 0x1C : Rat) (s.bankInt a b 0x18 : Rat)
  let s := s.xffTake a
  let v := { s.arm a with integ := i, sat := sat, ePrev := e, err := e, n1 := n1, n2 := n2 }
  let s := s.wrb .SCE_STAT_SATV (sat != .clear) a
  if late then s.setArm a v
  else (s.setArm a { v with vApp := x, uApp := u, cast := u, lateN := 0, lateRun := false }).sceDrive a (.vcm a u)

/-! ### A microactuator loop (R113) -/

def State.micRuns (s : State) (a p : Nat) : Bool :=
  (s.rd .SCE_STAT_STATE a == 4 || s.rd .SCE_STAT_STATE a == 5) && s.rdBit .SCE_CTL_MEN p a && s.pwr.ma

/-- Target of head p inside the window, and whether it was clamped. -/
def State.micTarget (s : State) (a p : Nat) : Rat × Bool :=
  let c := s.hofs a p + (s.rd .SCE_CTGT_CTGT a : Rat)
  let t : Rat := (s.rd .SCE_HTGT_HTGT a p : Rat)
  let u := clampQ t (c - 16384) (c + 16384)
  (u, decide (u ≠ t))

/-- One sample of head p's loop. A coarse swap at this very sample leaves it on the old bank until its next sample. -/
def State.microLoop (s : State) (a p : Nat) (pos : Rat) (late wait : Bool) : State :=
  let (t, win) := s.micTarget a p
  let e := t - pos
  let m := (s.arm a).mic p
  let s := s.setMic a p { m with err := e }
  if !s.micRuns a p then s.stopMicro a p
  else
    let s := s.wrBit .SCE_STAT_OUTWIN p win a
    let swap := m.swap && !wait
    let b := if m.swap && wait then 1 - s.bankNow a else s.bankNow a
    let sec := micSection p
    let terms := s.gain a b sec * e
    let hi : Rat := (s.bankInt a b (sec + 8) : Rat)
    let lo : Rat := (s.bankInt a b (sec + 0xC) : Rat)
    let (i, sat) := if swap then castleStep m.vApp terms lo hi m.sat else satStep m.integ (s.gain a b (sec + 4) * e) lo hi m.sat
    let x := terms + i
    let (y, q) := s.biquad a b (sec + 0x14) m.bq x
    let vmax : Rat := (s.mrd 4 (bankAddr a b (sec + 0x10)) : Rat)
    let u := clampQ y (-vmax) vmax
    let m := { m with integ := i, sat := sat, err := e, bq := q, swap := m.swap && wait }
    let s := s.wrBit .SCE_STAT_SATM p (sat != .clear) a
    if late then s.setMic a p m
    else (s.setMic a p { m with vApp := x, uApp := u, lateN := 0, lateRun := false }).emit (.micro (6 * a + p) u)

/-- PENDING clears when no running loop has still to swap (R118). -/
def State.pendingCheck (s : State) (a : Nat) : State :=
  let v := s.arm a
  s.wrb .SCE_BANKSEL_PENDING (v.swap || (List.range 6).any (fun p => (v.mic p).swap)) a

/-! ### Readiness (R123) -/

/-- Readiness of head p after one of its samples. -/
def State.readyHead (s : State) (a p : Nat) (valid : Bool) : State :=
  let m := (s.arm a).mic p
  let inside (tol : Nat) : Bool := valid && decide (|(s.arm a).err| ≤ (4 * tol : Nat)) && decide (|m.err| ≤ (4 * tol : Nat))
  let rd := if inside (s.rd .SCE_SETTLE_RDTOL a) then m.rdN + 1 else 0
  let wr := if inside (s.rd .SCE_SETTLE_WRTOL a) then m.wrN + 1 else 0
  let s := s.setMic a p { m with rdN := rd, wrN := wr }
  let s := s.wrBit .SCE_HSTAT_RDY_RD p (decide (max 1 (s.rd .SCE_SETTLE_RDN a) ≤ rd)) a
  s.wrBit .SCE_HSTAT_RDY_WR p (decide (max 1 (s.rd .SCE_SETTLE_WRN a) ≤ wr)) a

/-- Settle moves to follow (R120). MEN has no effect while a microactuator rail is out of range (R404). -/
def State.settled (s : State) (a : Nat) : State :=
  let r := s.rd .SCE_STAT_REFACT a
  let all := (List.range 6).all (fun p =>
    !(p == r || (s.rdBit .SCE_HSTAT_PLAUS p a && s.rdBit .SCE_CTL_MEN p a && s.pwr.ma)) || s.rdBit .SCE_HSTAT_RDY_WR p a)
  if s.rd .SCE_STAT_STATE a = 4 ∧ all then s.setSceState a 5 else s

/-! ### Serving a sample (R108, R110, R120) -/

/-- The observer at a sample of the reference head: predicted, and corrected by a valid position (R124). -/
def State.observe (s : State) (a : Nat) (pc : Option Rat) : State :=
  let v := s.arm a
  let b := s.bankNow a
  let ph := s.carried a 1
  let vh := v.vh + s.gain a b 0x58 * v.uApp
  match pc with
  | none => s.setArm a { v with ph := ph, vh := vh }
  | some x =>
    let res := x - ph
    s.setArm a { v with ph := ph + s.gain a b 0x5C * res, vh := vh + s.gain a b 0x60 * res }

def State.setPos (s : State) (a : Nat) (pc : Rat) : State :=
  (s.wr .SCE_POS_POS (wrapN 32 (roundQ pc)) a).setArm a { s.arm a with pc := pc }

/-- The coarse part of a valid sample of the reference head: the profile in a seek, the target otherwise. -/
def State.coarseSample (s : State) (a : Nat) (pc : Rat) (late : Bool) : State :=
  if s.rd .SCE_STAT_STATE a = 3 then
    let (rref, aref, done, s) := s.profileStep a
    let s := s.coarse a rref aref pc late
    if done then
      let s := s.setSceState a 4
      if s.bit .SCE_BANKSEL_AUTO a then s.castleTo a 1 else s
    else s
  else s.coarse a (s.rd .SCE_CTGT_CTGT a : Nat) 0 pc late

/-- What follows every sample while the arm tracks: readiness, settle, the reference head, castling, the prediction
returned to the channel. -/
def State.afterSample (s : State) (a p : Nat) (x : Sample) : State :=
  let st := s.rd .SCE_STAT_STATE a
  let s := if st = 4 ∨ st = 5 then (s.readyHead a p x.valid).settled a else s
  let s := ((s.refUpdate a).armPlaus a).pendingCheck a
  let r := s.rd .SCE_STAT_REFACT a
  s.setMic a p { (s.arm a).mic p with pred := some (s.predicted a p (1 + stagger p r)) }

/-- A sample served in seek, settle or follow. first is the sample that ended loading. An invalid sample of the reference head
leaves the coarse loop and the common position as they are (R110); a microactuator loop runs at every sample, on the head's
last valid position (R113, log entry 36). -/
def State.track (s : State) (a p : Nat) (x : Sample) (first : Bool) : State :=
  let r := s.rd .SCE_STAT_REFACT a
  let pos : Rat := (x.pos : Rat)
  if p = r then
    let res := if first then 0 else pos - s.predicted a p 1
    let s := s.judge a p x res
    let pc := s.commonPos a p x.pos
    let s := if first then s else s.observe a (if x.valid then some pc else none)
    let had := ((s.arm a).mic p).swap
    let s := if x.valid then (s.setPos a pc).coarseSample a pc x.late else s
    (s.microLoop a p (s.rd .SCE_HPOS_HPOS a p : Nat) x.late (!had)).afterSample a p x
  else
    let s := s.judge a p x (pos - s.predicted a p (stagger p r))
    (s.microLoop a p (s.rd .SCE_HPOS_HPOS a p : Nat) x.late false).afterSample a p x

/-- A sample of the reference head while loading: the third valid one in a row ends it. -/
def State.loadSample (s : State) (a p : Nat) (x : Sample) : State :=
  let v := s.arm a
  if !x.valid then s.setArm a { v with okRun := 0 }
  else
    let pc := s.commonPos a p x.pos
    let s := s.setPos a pc
    if v.okRun < 2 then s.setArm a { s.arm a with okRun := v.okRun + 1 }
    else
      let t := 1024 * (max 0 (nearest (pc / 1024))).toNat
      let s := (s.wr .SCE_CTGT_CTGT t a).setSceState a 5
      let e : Rat := (t : Rat) - pc
      let s := s.setArm a { s.arm a with okRun := 0, integ := 0, sat := .clear, ePrev := e, ph := pc, vh := 0 }
      s.track a p x true

/-- A write frame on the medium whose co-track window no longer holds is cut (R25). -/
def State.windowCut (s : State) (a : Nat) : State :=
  (List.range 6).foldl (fun s p => if s.windowOk (6 * a + p) then s else s.cutFrame (6 * a + p)) s

/-- One sample served, with its plausibility report. -/
def State.serve (s : State) (a : Nat) (x : Sample) : State :=
  let p := x.head % 6
  let s := s.refUpdate a
  let s := if x.valid then s.wr .SCE_HPOS_HPOS x.pos a p else s
  let s := if s.rd .SCE_STAT_STATE a = 2 then (if p = s.rd .SCE_STAT_REFACT a then s.loadSample a p x else s)
    else if s.armTracks a then s.track a p x false
    else if x.valid ∧ p = s.rd .SCE_STAT_REFACT a then s.setPos a (s.commonPos a p x.pos) else s
  (s.windowCut a).report a

/-- The sample served next: samples valid at the same instant go the reference head first, then by ascending position
(R108). -/
def nextSample (r : Nat) : List Sample → Option Sample
  | [] => none
  | x :: t =>
    let same := x :: t.takeWhile (fun y => y.inst == x.inst)
    some ((same.find? (fun y => y.head % 6 == r)).getD (same.foldl (fun m y => if y.head % 6 < m.head % 6 then y else m) x))

end Sys2Proof.Machine
end

