-- ==== Sys2Proof/Machine/Spindle.lean ====
section
/-! DEFINITION. Machine/Spindle.lean: the commands of the spindle (R80 to R93, R98, R99). -/

namespace Sys2Proof.Machine

/-- The speed that a crossing measures is shown; below SPDMIN no report is fresh (Table 5-5). -/
def State.setSpeed (s : State) (x : Rat) : State :=
  let q := quarterRpm x
  let s := (s.wr .SPN_MEAS_SPEED q).setSpn { s.spn with meas := x }
  if q < 4 * s.rd .SPN_LIM_SPDMIN then (s.setPwr { s.pwr with fresh := [] }).updWp else s

/-- The power die's own loop in a speed hold drives a motoring current within the limit (R98). Its law is not given: the
current is free. -/
def State.holdDrive (s : State) : State :=
  if s.bit .SPN_HOLD_ACTIVE then
    let (x, s) := s.draw 13
    s.emit (.spindle (min x (20 * s.rd .SPN_ILIM_ILIM) : Nat))
  else s

/-- ZERO_CROSSING (R82, R83): interval 50 MHz cycles after the crossing before it. The power die commutates under SCE[4] and in
its own speed hold, which runs whether the controller die does or not. -/
def execZeroCrossing (interval : Nat) (angle : Fin 6) (s : State) : Res :=
  let s := s.turn true
  let s := (s.setSpn { s.spn with ivals := (interval :: s.spn.ivals).take 6 }).planned interval
  let s := if (s.spn.loop || s.bit .SPN_HOLD_ACTIVE) && decide (0 < interval) then (s.commutate interval angle).holdDrive else s
  .next (s.on (s.up 8 && decide (0 < interval)) (fun s =>
    let s := s.setSpeed (speedOf s.spn.ivals)
    if s.spn.take && s.bit .SPN_HOLD_ACTIVE then s.takeOver
    else
      let s := if s.spn.loop then s.spnSample interval angle else s
      let s := s.lockWatch
      if s.spn.loop && s.spn.tgt == 0 && decide (s.spn.meas ≤ 300) then
        let s := s.spnLeave 2
        (s.setSpn { s.spn with stopping := true }).brake
      else s))

/-- LOCK_ENTERED (R90, R91). -/
def execLockEntered (s : State) : Res :=
  .next (s.on (s.spn.loop && !s.bit .SPN_STAT_LOCK && s.spn.tgt != 0 && decide (36 ≤ s.spn.inRun)) (fun s =>
    let ratio := (roundQ ((s.spn.tgt * 16384 : Nat) / (s.rd .SPN_LIM2_REFRPM : Nat))).toNat
    let s := ((s.wr .SPN_STAT_LOCK 1).wr .SPN_STAT_STATE 6).wr .SPN_RATIO_RATIO ratio
    let s := (s.wr .SPN_RATIO_READY 1).setSpn { s.spn with ready := true }
    s.raise 171 [(2, s.rd .SPN_RATIO_RATIO)]))

/-- LOCK_LOST (R90). -/
def execLockLost (s : State) : Res :=
  .next (s.on (s.bit .SPN_STAT_LOCK && decide (6 ≤ s.spn.outRun)) (fun s =>
    s.tierOut.raise 172 [(2, s.speed), (2, s.spn.tgt)]))

/-- SPN_TGT_WRITE (R86, R89). -/
def execSpnTgtWrite (v : W16) (s : State) : Res := .next (s.on (s.up 5) (fun s => s.linkHeard.spnTarget v.toNat))

/-- COGEN_WRITE (R85). -/
def execCogenWrite (en : Bool) (s : State) : Res :=
  .next (s.on (s.up 5) (fun s =>
    let s := s.wrb .SPN_CTL_COGEN en
    if en && s.up 8 then s.cogCheck (List.range 96) else s))

/-- COG_TABLE_WRITE (R85): word w holds entries 2w and 2w + 1. -/
def execCogTableWrite (w : Fin 48) (v : W32) (s : State) : Res :=
  .next (s.on (s.up 5 && s.hears (selSce 4)) (fun s =>
    s.cogStore w v.toNat))

/-! ### Starting (R92, R93) -/

/-- Catch on the fly: the loop takes the spindle at its present speed (Table 4-6). -/
def State.catchSpindle (s : State) (q : Nat) : State :=
  let v : Rat := (q : Rat) / 4
  let kdrag := s.bankQ 4 (s.bankNow 4) 0xC 16
  let s := ((s.setSpeed v).wr .SPN_STAT_STATE 5).raise 167 [(2, q)]
  s.setSpn { s.spn with loop := true, ramp := v, dramp := 0, integ := kdrag * v, sat := .clear, icmd := 0, vApp := 0, ivals := [], comm := 0,
                        inRun := 0, outRun := 0 }

/-- OBSERVE_END (Table 4-6). -/
def execObserveEnd (o : Observed) (s : State) : Res :=
  .next (s.on (s.spnState == 1) (fun s =>
    match o with
    | .forward q => if 1200 ≤ q then (s.turn true).catchSpindle q else (s.turn true).attempt
    | .reverse q => (((s.turn true).wr .SPN_MEAS_SPEED q).raise 165 [(2, q)]).attempt
    | .few => s.attempt
    | .inconsistent => if s.spn.again then s.attempt else s.setSpn { s.spn with again := true }))

/-- The stop is confirmed: no speed is measured any more. -/
def State.stopped (s : State) (ms : Nat) : State :=
  let s := ((s.turn false).wr .SPN_MEAS_SPEED 0).raise 166 [(4, ms)]
  (s.setPwr { s.pwr with fresh := [] }).updWp.setSpn { s.spn with meas := 0, ivals := [] }

/-- A stop for a zero target ends: the bridge goes off, or the full start follows (R89). -/
def State.stopEnd (s : State) : State :=
  if s.spn.restart then s.spnStart else (s.spnLeave 0).emit (.bridge .off 0)

/-- BRAKE_CONFIRMED (R89, R92). -/
def execBrakeConfirmed (ms : W32) (s : State) : Res :=
  .next (s.on (s.spnState == 2) (fun s =>
    let s := s.stopped ms.toNat
    if s.spn.stopping then s.stopEnd
    else
      ((s.wr .SPN_STAT_STATE 3).setSpn { s.spn with vec := 0, comm := 1 }).emit (.bridge (.vector 1) (10 * s.rd .SPN_START_ALIGN_I))))

/-- BRAKE_TIMEOUT (R92). The brake of a stop for a zero target ends in the same way, and a start that waited behind it is
dropped: the spec gives BRKTMO for a start alone (log entry 107). -/
def execBrakeTimeout (s : State) : Res :=
  .next (s.on (s.spnState == 2) (fun s =>
    (((s.wr .SPN_STAT_FAIL 2).raise 185 [(2, s.speed)]).spnLeave 8).emit (.bridge .off 0)))

/-- ALIGN_VECTOR_END (R92). -/
def execAlignVectorEnd (s : State) : Res :=
  .next (s.on (s.spnState == 3) (fun s =>
    if s.spn.vec = 0 then
      (s.setSpn { s.spn with vec := 1, comm := 2 }).emit (.bridge (.vector 2) (10 * s.rd .SPN_START_ALIGN_I))
    else ((s.turn true).wr .SPN_STAT_STATE 4).emit (.bridge .blind (10 * s.rd .SPN_START_BLIND_I))))

/-- HANDOVER (R92): the ramp value and the measured speed start from the present speed, the integrator from zero. -/
def execHandover (s : State) : Res :=
  .next (s.on (s.spnState == 4) (fun s =>
    let v : Rat := (s.speed : Rat) / 4
    let s := s.setSpn { s.spn with loop := true, ramp := v, dramp := 0, meas := v, integ := 0, sat := .clear, icmd := 0, vApp := 0,
                                   comm := 0, inRun := 0, outRun := 0 }
    (s.wr .SPN_STAT_STATE 5).raise 168 [(1, s.rd .SPN_STAT_ATTEMPT)]))

/-- START_ATTEMPT_FAIL (R92). -/
def execStartAttemptFail (s : State) : Res :=
  .next (s.on (s.spnState == 4) (fun s =>
    let n := s.rd .SPN_STAT_ATTEMPT
    let s := s.raise 169 [(1, n)]
    if n < 3 then s.attempt
    else (((s.wr .SPN_STAT_FAIL 1).raise 170 []).spnLeave 8).emit (.bridge .off 0)))

/-- WINDING_SHORT_STOP (R89): the winding-short braking for a zero target confirms the stop after ms. -/
def execWindingShortStop (ms : W32) (s : State) : Res :=
  .next (s.on (s.spnState == 2 && s.spn.stopping) (fun s => (s.stopped ms.toNat).stopEnd))

/-- TAKE (R99): ignored while no hold is active. -/
def execTake (s : State) : Res :=
  .next (s.on (s.up 8 && s.bit .SPN_HOLD_ACTIVE) (fun s => s.setSpn { s.spn with take := true }))

/-- CLRCHOP (R95). -/
def execClrchop (s : State) : Res := .next (s.on (s.up 8) (fun s => s.wr .SPN_STAT_CHOPFLT 0))

/-- CLROV (R96): ignored unless VBUS is below 12.9 V. -/
def execClrov (s : State) : Res :=
  .next (s.on (s.up 8 && decide (s.pwr.vmot < 1290)) (fun s => s.wr .SPN_STAT_OV2 0))

end Sys2Proof.Machine
end

