-- ==== Sys2Proof/Machine/RegWrite.lean ====
section
/-! DEFINITION. Machine/RegWrite.lean: a firmware write to register fields that have no row of their own (R6, R56, R421,
R422, R425): what each access code does with the value, and what the chapters tie to a field's new value. -/

namespace Sys2Proof.Machine

/-- The block of a soft reset in progress (Table 2-6) holds address a: it reads 0 and ignores writes (R56). -/
def State.softBusy (s : State) (a : Nat) : Bool :=
  match s.rst.soft, blkAt a with
  | some sel, some b =>
    let i := (a - b.base) / 0x10000
    match b with
    | .HSE => sel == i
    | .CHAN => sel == 0x20 + i
    | .SCE => sel == 0x40 + i
    | .OCE => sel == 0x50
    | .FRC => sel == 0x51
    | .DMA => sel == 0x52
    | _ => false
  | _, _ => false

/-- A written value of this field has a row of the opcode table. -/
def hasRow (r : Reg) (x : Nat) : Bool :=
  match r with
  | .EVC_CLAIM_SRC | .EVC_MSIP_MSIP | .L2_CTL_EN | .L2_LOCK_WAYS | .AGE_VOUT_VOUT | .AGE_FSTAT_LASTING | .HSE_CTL_RUN
  | .HSE_CQPTR_TAIL | .CHAN_RATE_ZRATE | .SCE_CTL_RUN | .SCE_CTGT_CTGT | .SPN_CTL_COGEN | .SPN_TGT_TGT | .BUF_CTL_PLOCK
  | .DMA_CTL_EN | .DMA_CHCTL_EN => true
  | .EREC_CTL_HOLD | .CHAN_CTL_EN => x == 1
  | _ => false

/-- Area C slots not yet spilled, from CHEAD and CSPILL (R384). -/
def State.spillCount (s : State) : State :=
  { s with erec := { s.erec with unsp := (s.rd .EREC_CHEAD_CHEAD + 512 - s.rd .EREC_CSPILL_CSPILL) % 512 } }

/-- What follows from a field's new value; old is the value before. -/
def State.fieldEffect (s : State) (k : RKey) (old : Nat) : State :=
  match k.reg with
  | .SPN_WP_EN => s.updWp
  | .PSW_CFG_POLICY => if s.bit .PSW_CFG_POLICY && !s.bit .PSW_STAT_JOINEN then s.passClose 2 else s
  | .SCE_CTL_MEN =>
    let new := s.rd .SCE_CTL_MEN k.i
    ((List.range 6).foldl (fun s p => if old.testBit p && !new.testBit p then s.stopMicro k.i p else s) s).pendingCheck k.i
  | .HSE_CTL_SGAUTO => s.on (s.up 9) (fun s => s.servoGate k.i)
  | .HIF_TAGCFG_LOW => s.on (s.up 10) (fun s => s.fairCheck)
  | .FRC_CTL_EN => s.lanesAsk
  | .DMA_CHSTAT_IRQH | .DMA_CHSTAT_IRQF => s.guardNow k.i
  | .EREC_CSPILL_CSPILL => (s.spillC old).spillCount
  | .EREC_MSPILL_MSPILL => s.spillM old
  | .CHAN_CTL_EN =>
    if s.bit .CHAN_CTL_EN k.i then s else (s.wr .CHAN_STAT_ENA 0 k.i).setChan k.i { s.chan k.i with check := false }
  | _ => s

/-- The bits of the field that a write of v to bytes d to d + n − 1 of its register carries as ones. -/
def fieldOnes (k : RKey) (d n v : Nat) : Nat := bitsN ((v % 2 ^ (8 * n)) * 2 ^ (8 * d)) k.reg.info.lo k.reg.info.w

/-- The ones of a write that a W1C field heeds: HSE_TPEND's bits 0, 1, 5 and 6 ignore writes (R147). -/
def clears (r : Reg) (x : Nat) : Nat :=
  match r with
  | .HSE_TPEND_PEND => setBitN (setBitN (setBitN (setBitN x 0 false) 1 false) 5 false) 6 false
  | _ => x

/-- One field under a write of v to bytes d to d + n − 1 of its register, by its access code (Table 0-3). -/
def State.writeField (s : State) (k : RKey) (d n v : Nat) : State :=
  let old := s.rd k.reg k.i k.j
  let x := s.fieldOf k d n v
  match k.reg.info.acc with
  | .RW => if hasRow k.reg x then s else (s.storeField k x).fieldEffect k old
  | .RWL => if s.rst.locked || hasRow k.reg x then s else (s.storeField k x).fieldEffect k old
  | .W1C =>
    if hasRow k.reg x then s
    else (s.wr k.reg (Nat.xor old (Nat.land old (clears k.reg (fieldOnes k d n v)))) k.i k.j).fieldEffect k old
  | .RO | .WO => s

/-- A word of a window memory without a row of its own: HSE_TSTK and the sample buffer are read only, the identity
areas are locked with the RWL fields. -/
def State.writeWin (s : State) (a n v : Nat) (m : WinMem) : State :=
  match m with
  | .stores _ _ | .defects _ _ | .bank _ _ | .cogging _ | .trapStack _ _ | .samples _ _ => s
  | .identity _ => if s.rst.locked then s else s.mwr n a v
  | m => s.loadWin a n v m

/-- A write of n bytes at a register address: fields with a row of their own are left to it. -/
def State.plainWrite (s : State) (a n v : Nat) : State :=
  if s.softBusy a then s
  else match winMem a with
    | some m => s.writeWin a n v m
    | none => (fieldsAt a).foldl (fun s f => s.writeField f.1 f.2 n v) s

/-- The register's width lets an access of n bytes at a through (R420): its own width; 32 or 64 bits for a structure, a
memory or a reserved offset. -/
def widthOk (a n : Nat) : Bool :=
  match fieldsAt a with
  | [] => n == 4 || n == 8
  | f :: _ =>
    if (winMem a).isSome || f.1.reg.info.off / 0x1000 == 1 && f.1.reg.info.blk == .OCE then n == 4 || n == 8
    else n == (if f.1.reg.info.wide then 8 else 4)

/-- REGISTER_WRITE (R6): an aligned write of the register's own width. -/
def execRegisterWrite (addr : Nat) (wide : Bool) (v : Word) (s : State) : Res :=
  let n := if wide then 8 else 4
  .next (s.on (s.up 5 && (blkAt addr).isSome && addr % n == 0 && widthOk addr n) (fun s => s.plainWrite addr n v.toNat))

end Sys2Proof.Machine
end

