-- ==== Sys2Proof/Machine/Reset.lean ====
section
/-! DEFINITION. Machine/Reset.lean: the commands of the reset controller and the boot loader (R31 to R58, R66). -/

namespace Sys2Proof.Machine

/-! ### The two reset sources (R31 to R37, R49) -/

/-- A reset accepted now combines with the start under way (R36, R39): step 10 has not been released, and the loader has
not recorded a failed start, which ends that start (R49). -/
def State.starting (s : State) : Bool := decide (s.rst.step < 10) && !s.rst.failed

/-- POWER_ON_RESET (R32, R53): level L0; it alone clears the pulse generator. -/
def execPowerOnReset (s : State) : Res :=
  .next (s.on (!s.rst.por) (fun s =>
    let c := s.starting
    let r : Rstc := { por := true, xsys := s.rst.xsys, pin := s.rst.pin, level := 0, tookPor := true, tookPin := s.rst.pin || (c && s.rst.tookPin),
                      tookOut := c && s.rst.tookOut }
    ((s.setPwr { s.pwr with core := false, good := false, close6 := false }).levelReset 0).setRst r))

/-- POWER_ON_RELEASE (R35, R399): the RSTC goes on where XSYS oscillates, and holds every domain in reset where not (R412). -/
def execPowerOnRelease (s : State) (xsys : Bool := true) : Res :=
  .next (s.on s.rst.por (fun s => s.setRst { s.rst with por := false, xsys := xsys }))

/-- A level reset from SYSRST_N (R32, R36). -/
def State.pinReset (s : State) : State :=
  let c := s.starting
  let lvl := if c then min s.rst.level.val s.pinLevel else s.pinLevel
  let r : Rstc := { pin := true, xsys := s.rst.xsys, level := toLevel lvl, tookPor := c && s.rst.tookPor, tookPin := true, counted := c && s.rst.counted,
                    tookOut := s.rst.pulse.isSome || (c && s.rst.tookOut), pulse := s.rst.pulse,
                    pulseSeen := s.rst.pulseSeen || s.rst.pulse.isSome }
  (s.levelReset lvl).setRst r

/-- The loader reads partition part of the copy at hand, 0 for the header: the checks before it have passed, and the
partitions before it in the table stand placed. -/
def State.readingPart (s : State) (part : Nat) : Option Load :=
  let l := s.loadUpTo (s.copyImg s.rst.copyB) part
  if s.loading ∧ l.reason = 0 then some l else none

/-- A loader restart (R49): the loader returns to its initial state and XSPI_RESET_N goes low (R409). part is the partition
being read; what has been placed stays. LDR_STAT, LDR_ENTRY and LDR_SECVER are written at once, with nothing tried and
no image: the spec says that a restart writes them and not with what (log entry 98). -/
def State.loaderRestart (s : State) (part : Nat) : State :=
  let copy := b2n s.rst.copyB
  let (part, s) := match s.readingPart part with
    | some l => (part, s.place l.placed)
    | none => (0, s)
  let r := { s.rst with xspi := false, fwver := [], pin := true, tookPin := true, tookOut := s.rst.tookOut || s.rst.pulse.isSome, restarted := true,
                        restartGap := false, done := false, copyB := false, recovery := false, copy := 3, reasonA := 15, reasonB := 15,
                        part := 0, calEmpty := false, entry := 0, secver := 0, pulseSeen := s.rst.pulseSeen || s.rst.pulse.isSome }
  ((s.setRst r).raise 296 [(1, copy), (1, part)]).writeStat 3

/-- SYSRST_N_ASSERT (R33, R36, R49). With power-on asserted the module is in its deepest reset already (R35). part is the
partition the loader reads then, 0 for the header. -/
def execSysrstNAssert (s : State) (part : BitVec 4 := 0) : Res :=
  .next (s.on (!s.rst.pin) (fun s =>
    if s.rst.por then s.setRst { s.rst with pin := true, tookPin := true, tookOut := s.rst.tookOut || s.rst.pulse.isSome,
                                            pulseSeen := s.rst.pulseSeen || s.rst.pulse.isSome }
    else if s.rst.step = 6 ∧ !s.rst.failed ∧ s.rst.xsys then s.loaderRestart part.toNat
    else s.pinReset))

/-- SYSRST_N_RELEASE (R35, R53): not before the end of a pulse that asserted it. After a loader restart XSPI_RESET_N
rises and G6 runs (R409). XSYS is found as at a power-on. -/
def execSysrstNRelease (s : State) (xsys : Bool := true) : Res :=
  .next (s.on (s.rst.pin && !(s.rst.pulse.isSome && s.rst.pulseSeen)) (fun s =>
    let gap := s.rst.step == 6 && s.rst.restarted && !s.rst.failed
    s.setRst { s.rst with pin := false, xsys := xsys, restartGap := gap, xspi := s.rst.xspi || gap }))

/-- LOADER_RESTART_START (R409). -/
def execLoaderRestartStart (s : State) : Res :=
  .next (s.on (s.rst.xsys && s.rst.restartGap && !s.rst.por && !s.rst.pin) (fun s => (s.setRst { s.rst with restartGap := false }).loaderStart))

/-! ### The release sequence (R38 to R40) -/

/-- What the release of step k does (Table 2-2). A power-on is counted at the first release of step 5 that follows it
(R377); blkOk tells of the recorder's write there. -/
def State.releaseStep (s : State) (k : Nat) (blkOk : Bool) : State :=
  let r := s.rst
  if k = 1 then s.setRst { r with step := 1, done := r.level != 0 }
  else if k = 2 ∨ k = 3 then s.setRst { r with step := k, done := false, attempts := 1 }
  else if k = 4 then s.setRst { r with step := 4, done := false }
  else if k = 5 then
    ((s.setRst { r with step := 5, done := false, counted := r.tookPor }).recorderStart (r.tookPor && !r.counted) blkOk).raiseHeld
  else if k = 6 then (s.setRst { r with step := 6, xspi := true }).loaderStart
  else if k = 7 then
    let s := (s.setRst { r with step := 7, done := false, locked := !r.recovery, window := !r.recovery }).wr .L2_STAT_INITBUSY 1
    if r.recovery then s else s.countTry
  else if k = 8 then
    let s := s.setRst { r with step := 8, done := true }
    let s := (List.range 4).foldl (fun s a => if s.bit .SCE_CTL_RUN a then s.setSceState a 1 else s) s
    if r.recovery ∧ s.pwr.turning then
      let s := if s.bit .SPN_HOLD_ACTIVE then (s.wr .SPN_HOLD_ACTIVE 0).raise 183 [(2, s.rd .SPN_HOLD_SPD)] else s
      (s.setSpn { s.spn with stopping := true }).brake
    else
      let s := if s.bit .SPN_CTL_COGEN then s.cogCheck (List.range 96) else s
      if s.rd .SPN_TGT_TGT = 0 then s else s.spnTarget (s.rd .SPN_TGT_TGT)
  else if k = 9 then
    let s := s.setRst { r with step := 9, done := true }
    (List.range 24).foldl (fun s h =>
      let s := if s.bit .HSE_CTL_RUN h then s.hseStart h else s
      if s.bit .CHAN_CTL_EN h then s.setChan h { s.chan h with check := true } else s) s
  else
    let s := (s.setRst { r with step := 10, done := true }).setPsw { s.psw with refclk := true }
    let s := if r.recovery then s else s.loadKeys
    let s := s.writeStat (if r.restarted then 3 else r.level.val)
    let s := s.raise 292 [(4, s.regWord .RST_STAT_LEVEL), (4, s.regWord .BOOT_TRIES_TRIES), (4, s.regWord .BOOT_CAUSE_COPYA)]
    if s.passFlag then (s.setPassRec false 5).raise 196 [(1, 5)] else s

/-- No source is asserted and the sequence runs. -/
def State.sequence (s : State) : Bool := s.rst.xsys && !s.rst.por && !s.rst.pin && !s.rst.halted && !s.rst.restartGap

/-- RELEASE_STEP (R38): the gap after the last completed step has passed; the operand says how the recorder's write of step 5
went (R382). -/
def execReleaseStep (s : State) (blkOk : Bool := true) : Res :=
  .next (s.on (s.sequence && decide (s.rst.step < 10) && (s.rst.step == 0 || s.rst.done)) (fun s => s.releaseStep (s.rst.step + 1) blkOk))

/-- A shock input that is sound through a level reset starts its rest bias at once, from a bias inside 1.35 V to 1.65 V that the
model does not know (R405). -/
def State.startBias (s : State) : State :=
  let (x, s) := s.draw 8
  let (y, s) := s.draw 8
  let p := s.pwr
  let s := s.on (p.soundA && !p.biasA) (fun s => s.wr .SPN_SHK_BIASA (135 + x % 31))
  let s := s.on (p.soundB && !p.biasB) (fun s => s.wr .SPN_SHK_BIASB (135 + y % 31))
  s.setPwr { p with biasA := p.soundA, biasB := p.soundB }

/-- The harts start at the reset vector; hart 0 goes on to LDR_ENTRY, but in recovery mode, where the boot ROM's firmware runs
(R50, R350). -/
def State.startHarts (s : State) : State :=
  let s := (List.range 8).foldl (fun s c => s.emit (.hartStart c 0)) s
  if s.rst.recovery then s else s.emit (.hartJump 0 s.rst.entry 0)

/-- What the completion of the step at hand does (Table 2-2, R225, R357). eye is the trained eye margins of step 4. -/
def State.stepComplete (s : State) (eye : Nat) : State :=
  let s := s.setRst { s.rst with done := true }
  match s.rst.step with
  | 2 => (s.setPwr { s.pwr with link := true, good := true, core := true }).recordClose6.startBias
  | 3 => s.wr .CLK_STAT_LOCK 15
  | 4 =>
    let s := (s.wr .BUF_STAT_TRAINED 3).hold 247 [(8, eye)]
    if s.rst.level = 0 then
      { s with mem := s.mem.filter (fun e => decide (e.1 < bufLo)), poison := s.poison.filter (fun e => decide (64 * e.1 < bufLo)) }
    else s
  | 7 => { s.wr .L2_STAT_INITBUSY 0 with l2 := { awake := NSet.add 0 [] } }.startHarts
  | _ => s

/-- RELEASE_STEP_COMPLETE (R38). Step 6 completes through the loader. -/
def execReleaseStepComplete (eye : Word) (s : State) : Res :=
  .next (s.on (s.sequence && !s.rst.done && s.rst.step != 0 && s.rst.step != 6) (fun s => s.stepComplete eye.toNat))

/-- The copy at hand has not been read in time: reading stood at partition part, 0 for the header (R66). -/
def State.readTimeout (s : State) (part : Nat) : State :=
  match s.readingPart part with
  | some l => s.copyFails 9 part l.placed
  | none => s

/-- RELEASE_STEP_TIMEOUT (R38, R39, R225): chan and tstep name the training that failed. At step 6 the copy at hand has
not been read in time, at partition part. -/
def execReleaseStepTimeout (chan tstep : Byte) (s : State) (part : BitVec 4 := 0) : Res :=
  .next (s.on (s.sequence && !s.rst.done) (fun s =>
    let k := s.rst.step
    if k = 2 ∨ k = 3 then
      if s.rst.attempts < 3 then s.setRst { s.rst with attempts := s.rst.attempts + 1 }
      else (s.setRst { s.rst with halted := true }).bootCause false k
    else if k = 4 then
      ((s.setRst { s.rst with done := true, buffail := true }).bootCause false 0).hold 248 [(1, chan.toNat), (1, tstep.toNat)]
    else if k = 5 then (s.setRst { s.rst with halted := true }).bootCause false 5
    else if k = 6 then s.readTimeout part.toNat
    else s))

/-! ### Loading (R46, R66 to R69) -/

/-- LOAD_COPY_DONE (R66). -/
def execLoadCopyDone (s : State) : Res :=
  .next (s.on s.loading (fun s =>
    let g := s.copyImg s.rst.copyB
    let l := s.loadOf g true
    if l.reason = 0 then s.copyGood g l else s.copyFails l.reason l.part l.placed))

/-- NOR_READ_TIMEOUT (R66): reading stopped at partition part. -/
def execNorReadTimeout (part : BitVec 4) (s : State) : Res := .next (s.readTimeout part.toNat)

/-! ### Counting starts (R44, R45, R67) -/

/-- RST_RUNOK_WRITE (R44, R67). -/
def execRstRunokWrite (v : W32) (s : State) : Res :=
  .next (s.on (s.up 7 && v.toNat.testBit 0 && s.rst.window) (fun s =>
    let s := ((s.setRst { s.rst with window := false }).wr .BOOT_TRIES_TRIES 0).wr .RST_STAT_RUNOK 1
    if s.secMin < s.rst.secver then (s.mwr 4 0x0100FF00 s.rst.secver).wr .LDR_SECMIN_SECMIN s.rst.secver else s))

/-- BOOT_WINDOW_EXPIRE (R45). -/
def execBootWindowExpire (s : State) : Res :=
  .next (s.on (s.rst.xsys && s.rst.window) (fun s =>
    let s := (s.setRst { s.rst with window := false, windowAck := true }).bootCause true 0
    s.raise 299 [(1, s.rd .BOOT_TRIES_TRIES)]))

/-- WINDOW_RECORD_ACK_PULSE (R45). -/
def execWindowRecordAckPulse (s : State) : Res :=
  .next (s.on (s.rst.xsys && s.rst.windowAck) (fun s => (s.setRst { s.rst with windowAck := false }).pulseStart .window))

/-! ### RSTOUT_N (R52 to R54) -/

/-- RST_OUT_PULSE (R53). -/
def execRstOutPulse (v : W32) (s : State) : Res :=
  .next (s.on (s.up 5 && bitsN v.toNat 0 8 == 0xA5 && v.toNat.testBit 8) (fun s => s.pulseStart .firmware))

def PulseCause.code : PulseCause → Nat
  | .firmware => 0
  | .window => 1
  | .loader => 2

/-- RSTOUT_PULSE_END (R54). -/
def execRstoutPulseEnd (s : State) : Res :=
  .next (match s.rst.pulse with
    | none => s
    | some c =>
      let seen := s.rst.pulseSeen
      let s := s.setRst { s.rst with pulse := none, pulseSeen := false }
      if seen then s
      else
        let s := (s.wr .RST_STAT_LOOP_OPEN 1).raise 297 [(1, c.code)]
        if c = .loader ∧ s.rst.step = 6 ∧ s.rst.failed then s.recoveryMode else s)

/-! ### Block soft resets (R55, R56) -/

/-- RST_BLK_GO (R55): the write sets SEL and requests the reset. -/
def execRstBlkGo (v : W32) (s : State) : Res :=
  let sel := bitsN v.toNat 0 8
  .next (s.on (s.up 5) (fun s =>
    let s := s.wr .RST_BLK_SEL sel
    if !v.toNat.testBit 8 then s
    else
      let idle := s.softIdle sel
      if idle = some true ∧ !s.bit .RST_BLK_BUSY then
        ((s.wr .RST_BLK_BUSY 1).setRst { s.rst with soft := some sel }).softReset sel
      else (s.wr .RST_STAT_SRST_REFUSED 1).raise 293 [(1, sel), (1, b2n (idle == some true))]))

/-- SOFT_RESET_DONE (R56). -/
def execSoftResetDone (s : State) : Res :=
  .next (s.on s.rst.soft.isSome (fun s => (s.wr .RST_BLK_BUSY 0).setRst { s.rst with soft := none }))

end Sys2Proof.Machine
end

