-- ==== Sys2Proof/Machine/Servo.lean ====
section
/-! DEFINITION. Machine/Servo.lean: the commands of SCE[0..4] (R103 to R125). -/

namespace Sys2Proof.Machine

/-! ### Demodulation (R104, R106, R107) -/

/-- Binary from reflected Gray code: bit i of the result is the sum of bits i and above. -/
def grayBits : Nat → Nat → Nat → Nat
  | 0, _, _ => 0
  | n + 1, above, g =>
    let b := (above + bitsN g n 1) % 2
    b * 2 ^ n + grayBits n b g
def grayDecode (g : Nat) : Nat := grayBits 22 0 g

/-- Track, N and Q after the correction of R106, and whether it was applied. -/
def grayCorrect (t : Nat) (n q : Rat) : Int × Rat × Rat × Bool :=
  if q < 0 then ((t : Int) + (if 0 < n then 1 else if n < 0 then -1 else 0), -n, -q, true) else ((t : Int), n, q, false)

/-- Fraction of a track. -/
def trackFraction (n q : Rat) : Rat := if |n| ≤ |q| then n / 2 else signQ n * (1 / 2 - |q| / 2)

/-- A burst read against the phase that the parity of the decoded track selects: an odd track's is the opposite of the
reference field's. The spec does not say which parity has which phase (log entry 100). -/
def burst (t : Nat) (x : Rat) : Rat := if t % 2 = 1 then -x else x

/-- The record of a wedge (Table 5-2). widx is the head's previous index and pred the position its SCE predicts. The first mark on
a surface has no previous index and so no error of order; the mark after an index of 480 or above is checked against
that index modulo 480: the spec gives neither case (log entry 107). -/
def State.record (s : State) (h : Nat) (w : Wedge) : Sample :=
  let a := h / 6
  let p := h % 6
  let m := (s.arm a).mic p
  let (t, n, q, corr) := grayCorrect (grayDecode w.gray.toNat) (burst (grayDecode w.gray.toNat) w.n) (burst (grayDecode w.gray.toNat) w.q)
  let pgain : Rat := (s.rd .SCE_HCAL1_PGAIN a p : Rat) / 16384
  let pos := wrapN 32 (t * 1024 + nearest (trackFraction n q * pgain * 1024))
  let widx := w.widx.toNat
  let idxerr := w.sam && (decide (480 ≤ widx) || (match m.widx with | some k => widx != (k + 1) % 480 | none => false))
  let trkerr := w.sam && (match m.pred with
    | some x => decide ((s.rd .SCE_PLAUS_THR_GRAYTOL a : Rat) < |(t : Rat) * 1024 - x|)
    | none => false)
  let low := w.sam && w.lowamp
  { head := h, pos := pos, widx := widx, valid := w.sam && !idxerr && !low && !trkerr, corr := corr, miss := !w.sam,
    idxerr := idxerr, lowamp := low, trkerr := trkerr }

/-- SAMPLE_RECORD (R107): a stopped SCE takes no record. same tells that it became valid at the instant of the record
before it. -/
def execSampleRecord (h : Head) (w : Wedge) (s : State) (same : Bool := false) : Res :=
  let a := h.val / 6
  let p := h.val % 6
  .next (s.on (s.up 9 && s.rd .SCE_STAT_STATE a != 0) (fun s =>
    let x := s.record h w
    let m := (s.arm a).mic p
    let idx := if w.sam then some (x.widx % 480) else m.widx.map (fun k => (k + 1) % 480)
    let s := s.setMic a p { m with widx := idx }
    let v := s.arm a
    let inst := if same then v.inst else v.inst + 1
    s.setArm a { v with inst := inst, queue := v.queue ++ [{ x with inst := inst }] }))

/-- SAMPLE_SERVICE (R108). -/
def execSampleService (a : Arm) (s : State) : Res :=
  .next (match nextSample (s.rd .SCE_STAT_REFACT a) (s.arm a).queue with
    | none => s
    | some x => s.on (s.up 8 && s.rd .SCE_STAT_STATE a != 0) (fun s =>
        (s.setArm a { s.arm a with queue := (s.arm a).queue.erase x }).serve a x))

/-! ### Deadlines (R109) -/

/-- A sample is marked late. -/
def markLate (x : Sample) : List Sample → List Sample
  | [] => []
  | y :: t => if x = y then { y with late := true } :: t else y :: markLate x t

/-- Outputs that serving a sample gives: of the coarse loop, and of the head's microactuator loop. ok counts the valid samples of
the reference head in a row while loading, and turn tells that a sample served before it ends the seek. -/
def State.outputs (s : State) (a : Nat) (x : Sample) (ok : Nat) (turn : Bool) : Bool × Bool :=
  let p := x.head % 6
  let st := s.rd .SCE_STAT_STATE a
  let ref := x.valid && p == s.rd .SCE_STAT_REFACT a
  let loaded := decide (st = 2) && decide (3 ≤ ok + b2n ref)
  let done := decide (st = 3) && (turn || (ref && (s.profileStep a).2.2.1))
  (ref && (s.armTracks a || loaded),
    s.rdBit .SCE_CTL_MEN p a && s.pwr.ma && (decide (st = 4) || decide (st = 5) || loaded || done))

/-- The first waiting sample that gives an output and is not yet late, with its outputs. -/
def State.firstDue (s : State) (a ok : Nat) (turn : Bool) : List Sample → Option (Sample × Bool × Bool)
  | [] => none
  | x :: t =>
    let o := s.outputs a x ok turn
    if !x.late && (o.1 || o.2) then some (x, o)
    else
      let ref := x.head % 6 == s.rd .SCE_STAT_REFACT a
      let done := decide (s.rd .SCE_STAT_STATE a = 3) && x.valid && ref && (s.profileStep a).2.2.1
      s.firstDue a (if ref && decide (ok < 3) then (if x.valid then ok + 1 else 0) else ok) (turn || done) t

/-- A late sample of one loop: its bit, the count, and the event at the start of a run. -/
def State.lateLoop (s : State) (a loop : Nat) (first : Bool) : State :=
  let s := (if loop = 6 then s.wr .SCE_LATE_LV 1 a else s.wrBit .SCE_LATE_LM loop true a).wrapAdd .SCE_LATECNT_COUNT 1 a
  if first then s.raise (144 + 4 * a) [(1, loop), (4, s.rd .SCE_LATECNT_COUNT a)] else s

/-- LATE_LIM late samples in a row make a head implausible at once, and it counts its good samples anew (R124). -/
def State.lateHead (s : State) (a p : Nat) : State :=
  (s.setMic a p { (s.arm a).mic p with good := 0 }).losePlaus a p 32

/-- The microactuator output of head p is late; LATE_LIM in a row make the head implausible. -/
def State.lateMicro (s : State) (a p : Nat) : State :=
  let m := (s.arm a).mic p
  let s := (s.lateLoop a p (!m.lateRun)).setMic a p { m with lateN := m.lateN + 1, lateRun := true }
  if s.lateLim a ≤ m.lateN + 1 then s.lateHead a p else s

/-- The coarse output is late; LATE_LIM in a row make every head implausible. -/
def State.lateCoarse (s : State) (a : Nat) : State :=
  let v := s.arm a
  let s := (s.lateLoop a 6 (!v.lateRun)).setArm a { v with lateN := v.lateN + 1, lateRun := true }
  if s.lateLim a ≤ v.lateN + 1 then (List.range 6).foldl (fun s p => s.lateHead a p) s else s

/-- A sample that gives outputs, of the coarse loop or a microactuator loop or both, has passed its deadline. -/
def State.lateSample (s : State) (a : Nat) (x : Sample) (lv lm : Bool) : State :=
  let s := s.setArm a { s.arm a with queue := markLate x (s.arm a).queue }
  let s := if lv then s.lateCoarse a else s
  let s := if lm then s.lateMicro a (x.head % 6) else s
  ((s.refUpdate a).armPlaus a).updWp

/-- SAMPLE_DEADLINE_MISS (R83, R109). -/
def execSampleDeadlineMiss (e : Sce) (s : State) : Res :=
  .next (if e.val = 4 then
      s.on (s.spn.loop && !s.spn.late) (fun s =>
        let first := !s.spn.lateRun
        let s := (s.setSpn { s.spn with late := true, lateRun := true }).wrBit .SCE_LATE_LM 0 true 4
        let s := s.wrapAdd .SCE_LATECNT_COUNT 1 4
        if first then s.raise 160 [(4, s.rd .SCE_LATECNT_COUNT 4)] else s)
    else match s.firstDue e (s.arm e).okRun false (s.arm e).queue with
      | some (x, lv, lm) => s.lateSample e x lv lm
      | none => s)

/-! ### Banks (R117, R118) -/

/-- BANKSEL_SWAP. -/
def execBankselSwap (e : Sce) (s : State) : Res := .next (s.on (s.up 8 && s.hears (selSce e)) (fun s => s.bankSwap e))

/-- BANK_WRITE. -/
def execBankWrite (e : Sce) (bankB : Bool) (w : Fin 128) (v : W32) (s : State) : Res :=
  .next (s.on (s.up 5 && s.hears (selSce e)) (fun s => s.bankStore e bankB w v.toNat))

/-! ### States of an SCE (R120 to R123) -/

/-- SCE_RUN_WRITE: before step 8 the value waits (R40). -/
def execSceRunWrite (a : Arm) (run : Bool) (s : State) : Res :=
  .next (s.on (s.up 5 && s.hears (selSce a)) (fun s =>
    let s := s.wrb .SCE_CTL_RUN run a
    let st := s.rd .SCE_STAT_STATE a
    if !s.up 8 then s
    else if run then (if st = 0 then s.setSceState a 1 else s)
    else if st = 1 ∨ st = 7 then (s.setSceState a 0).setArm a { s.arm a with queue := [] }
    else if st = 0 ∨ st = 6 then s
    else s.armUnload a))

/-- LOAD: refused below HLMIN or out of lock (R88, R90). A bridge that had tripped is switched on again, once the power die has
cooled (R414). -/
def execLoad (a : Arm) (s : State) : Res :=
  .next (s.on (s.up 8 && s.hears (selSce a) && s.rd .SCE_STAT_STATE a == 1) (fun s =>
    if s.rd .SPN_MEAS_SPEED < 4 * s.rd .SPN_LIM2_HLMIN ∨ !s.bit .SPN_STAT_LOCK then s.wr .SCE_STAT_LOADREF 1 a
    else
      let s := (s.setArm a { s.arm a with okRun := 0 }).setSceState a 2
      let s := s.setPwr { s.pwr with tripped := NSet.del a s.pwr.tripped }
      s.sceDrive a (.vcmVel a (s.rd .SCE_LOAD_LOADV a))))

/-- UNLOAD. -/
def execUnload (a : Arm) (s : State) : Res :=
  .next (s.on (s.up 8 && s.hears (selSce a) && s.armLoaded a && s.rd .SCE_STAT_STATE a != 6) (fun s => s.armUnload a))

/-- UNLOAD_PUSH_END: after the push at RETI. -/
def execUnloadPushEnd (a : Arm) (s : State) : Res :=
  .next (s.on (s.rd .SCE_STAT_STATE a == 6) (fun s =>
    let s := (s.sceDrive a (.vcmPush a (2 * s.rd .SPN_ILIM_RETI))).emit (.vcmOff a)
    if s.bit .SCE_CTL_RUN a then s.setSceState a 1
    else (s.setSceState a 0).setArm a { s.arm a with queue := [] }))

/-- LOADTMO. -/
def execLoadtmo (a : Arm) (s : State) : Res :=
  .next (s.on (s.rd .SCE_STAT_STATE a == 2) (fun s => (s.armUnload a).sceFault a faultLoadtmo))

/-- CTGT_WRITE (R121, R122). -/
def execCtgtWrite (a : Arm) (v : W32) (s : State) : Res := .next (s.on (s.up 5 && s.hears (selSce a)) (fun s => s.setCtgt a v.toNat))

/-- SEEKTMO (R123): the loops keep running. -/
def execSeektmo (a : Arm) (s : State) : Res :=
  .next (s.on (s.rd .SCE_STAT_STATE a == 4 && s.rd .SCE_HSTAT_RDY_RD a == 0) (fun s =>
    (s.wr .SCE_STAT_SEEKTMO 1 a).sceFault a faultSeektmo))

end Sys2Proof.Machine
end

