-- ==== Sys2Proof/Machine/HartOps.lean ====
section
/-! DEFINITION. Machine/HartOps.lean: what a hart's access finds at each region of Table 13-1 (R350 to R354, R420 to
R425). A store to a register is REGISTER_WRITE together with the rows of the fields it writes. -/

namespace Sys2Proof.Machine

/-- The state a row leaves. -/
def Res.state (r : Res) (s : State) : State :=
  match r with
  | .next t => t
  | .fault _ => s
  | .refused _ => s

/-! ### Stores to registers -/

/-- The row of a field, given the field's written bits x and the word v written to its register. -/
def State.fieldRow (s : State) (k : RKey) (x v : Nat) : State :=
  let w : W32 := BitVec.ofNat 32 v
  let tag : Tag := BitVec.ofNat 17 v
  let h : Head := Fin.ofNat 24 k.i
  let a : Arm := Fin.ofNat 4 k.i
  let c : Hart := Fin.ofNat 8 k.i
  let ch : Fin 128 := Fin.ofNat 128 k.i
  let on (b : Bool) (r : State → Res) : State := if b then (r s).state s else s
  match k.reg with
  | .RST_OUT_PULSE => on true (execRstOutPulse w)
  | .RST_RUNOK_RUNOK => on true (execRstRunokWrite w)
  | .RST_BLK_GO => on true (execRstBlkGo w)
  | .EVC_RAISE_SRC => on true (execEvcRaiseWrite c w)
  | .EVC_CLAIM_SRC => on true (execEvcClaimComplete c w)
  | .EVC_MSIP_MSIP => on true (execEvcMsipWrite c w)
  | .EREC_CTL_HOLD => on (x == 1) execHold
  | .L2_CTL_EN => on true (if x = 1 then execL2Enable else execL2Disable)
  | .L2_LOCK_WAYS => on true (execL2LockWrite w)
  | .L2_INVR_GO => s.rangeWrite v
  | .AGE_VOUT_VOUT => on true (execAgeVoutWrite w)
  | .AGE_FSTAT_LASTING => on true (execAgeFstatClear c w)
  | .HSE_CTL_RUN => on true (if x = 1 then execHseRunStart h else execHseRunStop h)
  | .HSE_DOORBELL_CMD => on (x == 1) (execDoorbellCmd h)
  | .HSE_DOORBELL_ABORT => on (x == 1) (execDoorbellAbort h)
  | .HSE_CQPTR_TAIL => on true (execCqptrTailWrite h (BitVec.ofNat 4 x))
  | .CHAN_CTL_EN => on (x == 1) (execChanEnable h)
  | .CHAN_CTL_CLRSTAT => on (x == 1) (execClrstat h)
  | .CHAN_RATE_ZRATE => on true (execZrateWrite h (BitVec.ofNat 16 x))
  | .CHAN_RDEC_GO => on (x == 1) (execChanRdecGo h w)
  | .SCE_CTL_RUN => on true (execSceRunWrite a (x == 1))
  | .SCE_CTL_LOAD => on (x == 1) (execLoad a)
  | .SCE_CTL_UNLOAD => on (x == 1) (execUnload a)
  | .SCE_BANKSEL_SWAP => on (x == 1) (execBankselSwap (Fin.ofNat 5 k.i))
  | .SCE_CTGT_CTGT => on true (execCtgtWrite a w)
  | .SPN_CTL_COGEN => on true (execCogenWrite (x == 1))
  | .SPN_CTL_TAKE => on (x == 1) execTake
  | .SPN_CTL_CLROV => on (x == 1) execClrov
  | .SPN_CTL_CLRCHOP => on (x == 1) execClrchop
  | .SPN_TGT_TGT => on true (execSpnTgtWrite (BitVec.ofNat 16 x))
  | .OCE_CMD_OP =>
    let g := bitsN v 0 9
    if 383 < g ∨ x = 0 ∨ 4 ≤ x then on true (execOceBadop w)
    else if x = 1 then on true (execOceOpen (BitVec.ofNat 9 g) (BitVec.ofNat 7 (bitsN v 16 7)))
    else if x = 2 then on true (execOcePark (BitVec.ofNat 9 g))
    else on true (execOceFill (BitVec.ofNat 9 g))
  | .GCTX_SETRD => on (x == 1) (execSetrd (Fin.ofNat 384 k.i))
  | .DMA_CTL_EN => on true (execDmaCtlEnable (x == 1))
  | .DMA_SWREQ_LINE => on true (execDmaSwreq (BitVec.ofNat 7 x))
  | .DMA_CHCTL_EN => on (x == 1) (execDmaChannelEnable ch)
  | .DMA_CHCTL_STOP => on (x == 1) (fun t => execDmaStop ch t)
  | .BUF_CTL_PLOCK => on (x == 1) execPlock
  | .BUF_CTL_RETRAIN => on (x == 1) execRetrain
  | .BUF_PRET_UNITS => on true (execBufPretWrite a (BitVec.ofNat 25 x))
  | .FRC_KCMD_OP =>
    let ns : Byte := BitVec.ofNat 8 (v / 256)
    if x = 1 then on true (execKeyGenerate ns) else if x = 2 then on true (execKeyLoad ns) else on (x == 3) (execKeyDestroy ns)
  | .FRC_LCTL_GO => on (x == 1) (execFrcLaneGo c)
  | .HIF_CPL_CMDTAG => on true (execHifCplWrite w)
  | .HIF_LREL_OP => on true (if x = 0 then execLrelFwd tag else execLrelRel tag)
  | .HIF_XFER_CMDTAG => on true (execHifXferWrite tag)
  | .PSW_PASS_OPEN => on (x == 1) (execPassOpen w)
  | .PSW_PASS_CLOSE => on (x == 1) (execPassClose w)
  | .HL_CMD_REQ => on true (execHlCmdWrite a w)
  | _ => s

/-- One 32-bit word of a window memory that has a row. -/
def State.winRow (s : State) (v : Nat) (m : WinMem) : State :=
  let w : W32 := BitVec.ofNat 32 v
  match m with
  | .stores h o => (execHseStoreWrite (Fin.ofNat 24 h) (BitVec.ofNat 16 o) w s).state s
  | .defects h o => (execDefectTableWrite (Fin.ofNat 24 h) (Fin.ofNat 1024 ((o - 0x2000) / 4)) w s).state s
  | .bank e o =>
    let half := if e = 4 then 0x80 else 0x200
    let x := o - 0x1000
    (execBankWrite (Fin.ofNat 5 e) (half ≤ x) (Fin.ofNat 128 (x % half / 4)) w s).state s
  | .cogging o => (execCogTableWrite (Fin.ofNat 48 ((o - 0x1200) / 4)) w s).state s
  | _ => s

/-- A hart's store of n bytes at a register address: the fields without rows, then the rows. -/
def State.hartRegStore (s : State) (a n v : Nat) : State :=
  if s.softBusy a then s
  else
    let t := s.plainWrite a n v
    match winMem a with
    | some m =>
      let t := t.winRow (v % 2 ^ 32) m
      if n = 8 then (match winMem (a + 4) with
        | some m => t.winRow (v / 2 ^ 32) m
        | none => t)
      else t
    | none => (fieldsAt a).foldl (fun s f => if f.2 = 0 then s.fieldRow f.1 (fieldOnes f.1 f.2 n v) v else s) t

/-! ### Loads from registers -/

/-- The popping read a register has (R425). -/
def popRow (k : RKey) : Option (State → Res) :=
  match k.reg with
  | .HSE_DONE_CMDTAG => some (execHseDoneRead (Fin.ofNat 24 k.i))
  | .HIF_NEXT_CMDTAG => some execHifNextRead
  | .HIF_XDONE_CMDTAG => some execHifXdoneRead
  | .HL_RESP_DATA => some (execHlRespRead (Fin.ofNat 4 k.i))
  | .EVC_CLAIM_SRC => some (execEvcClaimRead (Fin.ofNat 8 k.i))
  | _ => none

/-- What a popping read has sent out. -/
def poppedValue (s t : State) : Nat :=
  match t.out.drop s.out.length with
  | .popped _ _ v :: _ => v
  | _ => 0

/-- A word of a window memory as read: the trap stack from its frames, the samples while SBVALID is 1. -/
def State.readWin (s : State) (a n : Nat) (m : WinMem) : Nat :=
  match m with
  | .trapStack h o => s.trapBytes h (o - 0x200) n
  | .samples h o => leNat ((List.range n).map (fun k => s.sample h (o - 0x4000 + k)))
  | _ => s.mrd n a

/-- A hart's load of n bytes at a register address: the value, and the state after it. -/
def State.hartRegLoad (s : State) (a n : Nat) : Nat × State :=
  if s.softBusy a then (0, s)
  else match winMem a with
    | some m => (s.readWin a n m, s)
    | none =>
      match (fieldsAt a).findSome? (fun f => popRow f.1) with
      | some row =>
        let t := (row s).state s
        (poppedValue s t, t)
      | none => (s.viewReg a n, s)

end Sys2Proof.Machine
end

