-- ==== Sys2Proof/Machine/Harts.lean ====
section
/-! DEFINITION. Machine/Harts.lean: HART_MEMORY_ACCESS (R351 to R356, R420 to R423): Table 13-1, the faults of R352 with
their events, and the access itself. -/

namespace Sys2Proof.Machine

/-- Regions of Table 13-1. -/
inductive Region where
  | rom
  | mram
  | sram
  | context
  | registers
  | buffer
  | outside
  | none
  deriving DecidableEq, Repr

/-- The region that holds all n bytes from address a. -/
def regionOf (a n : Nat) : Region :=
  if a + n ≤ 0x20000 then .rom
  else if mramLo ≤ a ∧ a + n ≤ mramLo + 0x10000 then .mram
  else if inSram a n then .sram
  else if ctxLo ≤ a ∧ a + n ≤ ctxLo + 0x800000 then .context
  else if 0x10000000 ≤ a ∧ a + n ≤ 0x12000000 then .registers
  else if inBuf a n then .buffer
  else if bufHi ≤ a ∧ a < bufEnd then .outside else .none

def Region.cached : Region → Bool
  | .rom => true
  | .sram => true
  | .buffer => true
  | _ => false

/-- Table 13-1 lets the access through; the loader page takes loads only (R67). -/
def tableAllows (k : Access) (a n : Nat) : Bool :=
  match regionOf a n, k with
  | .rom, .load | .rom, .fetch => true
  | .mram, .load => true
  | .mram, .store => decide (a + n ≤ 0x0100FF00)
  | .sram, _ | .buffer, _ => true
  | .context, .load | .context, .store => true
  | .registers, .load | .registers, .store => (blkAt a).isSome
  | _, _ => false

/-- Access type of event 281: 0 load, 1 store or AMO, 2 fetch. -/
def accessType : Access → Nat
  | .load | .lr => 0
  | .store | .amo | .sc => 1
  | .fetch => 2

/-- Exception codes of the privileged architecture: access fault, and address misaligned. -/
def accessFault : Access → Nat
  | .load | .lr => 5
  | .store | .amo | .sc => 7
  | .fetch => 1

def misaligned : Access → Nat
  | .load | .lr => 4
  | .store | .amo | .sc => 6
  | .fetch => 0

/-- Alignment the access needs: LR, SC and AMO everywhere, loads and stores outside the cached regions (R352). -/
def aligned (k : Access) (a n : Nat) : Bool :=
  match k with
  | .amo | .lr | .sc => a % n == 0
  | .load | .store => (regionOf a n).cached || a % n == 0
  | .fetch => a % 2 == 0

/-- An access that Table 13-1 does not allow: event 281, and 246 outside the data space (R223). -/
def State.hartDenied (s : State) (c : Hart) (k : Access) (a n mepc : Nat) : State :=
  let s := if regionOf a n = .outside then s.raise 246 [(8, a), (1, 8)] else s
  (s.raise 281 [(1, c), (8, a), (1, accessType k), (8, mepc)]).hartTrap c (accessFault k) a mepc

/-! ### Cached accesses -/

def resvLine (a : Nat) : Nat := a / 64 + 1

/-- A store ends the other harts' reservations of its lines. -/
def State.breakResv (s : State) (c : Hart) (a n : Nat) : State :=
  s.setL2 (fun l => { l with resv := l.resv.filter (fun e => e.1 == c.val || !(linesOf a n).contains (e.2 - 1)) })

def State.dropResv (s : State) (c : Hart) : State := s.setL2 (fun l => { l with resv := NTab.put 0 c 0 l.resv })

/-- The access reads, so it meets poison. -/
def accessReads : Access → Bool
  | .store => false
  | .sc => false
  | _ => true

/-- The access meets poison: a line of memory that the L2 does not hold, nor for a fetch the hart's instruction cache. -/
def State.meets (s : State) (c : Hart) (k : Access) (a n : Nat) : Bool :=
  accessReads k && (if k = .fetch then
    (linesOf a n).any (fun x => NSet.has x s.poison && (s.lineAt (64 * x)).isNone && NTab.get [] x (s.hart c).icache == [])
    else s.meetsPoison a n)

/-- A hart's load of a cached region, and its store, with its data cache. -/
def State.hartLoad (s : State) (c : Hart) (a n : Nat) : List Byte × State :=
  let r := s.cachedLoad a n
  (r.1, r.2.holdLines c a n)
def State.hartStore (s : State) (c : Hart) (a : Nat) (bs : List Byte) : State :=
  (((s.breakResv c a bs.length).ownLines c a bs.length).cachedStore a bs).holdLines c a bs.length

/-- An allowed access to a cached region, after a parity failure has been dealt with. -/
def State.cachedAccess (s : State) (c : Hart) (k : Access) (a n v mepc : Nat) : State :=
  if s.meets c k a n then (s.raise 280 [(1, c), (8, a), (8, mepc)]).hartTrap c (accessFault k) a mepc
  else
    let bs := leBytes n v
    match k with
    | .load =>
      let r := s.hartLoad c a n
      r.2.emit (.loaded c (leNat r.1))
    | .fetch =>
      let r := s.fetch c a n
      r.2.emit (.fetched c r.1)
    | .store => s.hartStore c a bs
    | .amo =>
      let r := s.hartLoad c a n
      (r.2.hartStore c a bs).emit (.loaded c (leNat r.1))
    | .lr =>
      let r := s.hartLoad c a n
      (r.2.setL2 (fun l => { l with resv := NTab.put 0 c (resvLine a) l.resv })).emit (.loaded c (leNat r.1))
    | .sc =>
      if NTab.get 0 c s.l2.resv = resvLine a then ((s.dropResv c).hartStore c a bs).emit (.loaded c 0)
      else (s.dropResv c).emit (.loaded c 1)

/-- An allowed load or store of MRAM or HIF context RAM. -/
def State.directAccess (s : State) (c : Hart) (k : Access) (a n v : Nat) : State :=
  let s := s.firmwareTag false
  if k = .load then s.emit (.loaded c (s.mrd n a)) else s.mwr n a v

/-- An allowed load or store of a register. -/
def State.registerAccess (s : State) (c : Hart) (k : Access) (a n v : Nat) : State :=
  let s := s.firmwareTag false
  if k = .load then
    let r := s.hartRegLoad a n
    r.2.emit (.loaded c r.1)
  else s.hartRegStore a n v

/-- The order of the checks (log entries 30, 110): Table 13-1, then a register's width, then physical memory protection, then
alignment; a parity failure is met by the access itself. -/
def State.hartAccess (s : State) (c : Hart) (k : Access) (a n v mepc : Nat) (p : Parity) (ecc : Ecc) : State :=
  if !tableAllows k a n then s.hartDenied c k a n mepc
  else if regionOf a n = .registers ∧ !widthOk a n then
    (s.raise 286 [(1, c), (8, a), (1, n)]).hartTrap c (accessFault k) a mepc
  else if !s.pmpAllows c (s.effUser c k) (pmpNeed k) a n then s.hartTrap c (accessFault k) a mepc
  else if !aligned k a n then s.hartTrap c (misaligned k) a mepc
  else if regionOf a n = .registers then s.registerAccess c k a n v
  else if (regionOf a n).cached then
    ((s.parityError c a p ecc).memoryRead a n (if s.refills c a p then .clean else ecc)).cachedAccess c k a n v mepc
  else s.directAccess c k a n v

/-- HART_MEMORY_ACCESS: ecc is the check of the line the access reads from the buffer, where it reads one. -/
def execHartMemoryAccess (c : Hart) (k : Access) (addr : Nat) (len : Nat) (v : Word) (mepc : Word) (p : Parity)
    (s : State) (ecc : Ecc := .clean) (pre : List HartOp := []) : Res :=
  .next (s.on (s.hartUp c) (fun s => (s.hartOps c pre).hartAccess c k addr len v.toNat mepc.toNat p ecc))

end Sys2Proof.Machine
end

