-- ==== Sys2Proof/Machine/HifCtl.lean ====
section
/-! DEFINITION. Machine/HifCtl.lean: controllers coming up and going down (R272, R273), power states and the governor (R284 to
R288), and the SMBus basic management command (R248). -/

namespace Sys2Proof.Machine

/-! ### Controllers (R272) -/

/-- A short self-test ends and the staged image is dropped when a reset reaches the physical function (R76, R292). -/
def State.pfReset (s : State) (f : Nat) : State :=
  if f ≠ 0 then s
  else
    let s := match s.hif.test with | some t => if t.code = 1 then s.endTest 2 else s | none => s
    { s with staged := [] }

/-- CONTROLLER_RESET: CC.EN written 0. -/
def execControllerReset (f : Func) (s : State) : Res :=
  .next (s.on (s.up 10 && (s.ctrl f.val).en) (fun s => (s.pfReset f.val).resetCtrl f.val 0))

/-- A power of two or any other size that AQA names: 2 to 4,096 entries. -/
def queueSize (x : Nat) : Nat := 2 + x % 4095

/-- CONTROLLER_ENABLE: CC.EN written 1, with CC.AMS (R254). The sizes of the admin queues are the host's, in AQA. A virtual
function takes part once it is online (R250). -/
def execControllerEnable (f : Func) (s : State) (wrr : Bool := false) : Res :=
  .next (s.on (s.up 10 && !s.psw.idpDisabled && !(s.ctrl f.val).en && s.hasFunc f.val && (f.val == 0 || (s.ctrl f.val).online)) (fun s =>
    let (a, s) := s.draw 12
    let (b, s) := s.draw 12
    let s := s.setSq f.val 0 (some { size := queueSize a, cq := 0 })
    let s := s.setCq f.val 0 (some { size := queueSize b })
    (s.setCtrl f.val { s.ctrl f.val with en := true, rdy := true, ams := wrr }).raise 220 [(2, f.val)]))

/-- FUNCTION_LEVEL_RESET: of the physical function it reaches every virtual function. -/
def execFunctionLevelReset (f : Func) (s : State) : Res :=
  .next (s.on (s.up 10 && !s.psw.idpDisabled && s.hasFunc f.val) (fun s => if f.val = 0 then s.resetAll 1 else s.resetCtrl f.val 1))

/-- NSSR_WRITE (R273): the register is the physical function's alone. -/
def execNssrWrite (f : Func) (v : W32) (s : State) : Res :=
  .next (s.on (s.up 10 && f.val == 0 && v.toNat == 0x4E564D65) (fun s => s.pulseStart .firmware))

/-! ### Idle timers (R288) -/

/-- APST is enabled. -/
def State.apst (s : State) : Bool := (s.feat 0 0x0C).testBit 0

/-- VALLEY_TIMER_EXPIRE -/
def execValleyTimerExpire (s : State) : Res :=
  .next (s.on (s.up 10 && !s.apst && !s.ioBusy && s.hif.entry.isNone && decide (s.psNow ≤ 2) && decide (s.feat 0 0xC0 / 256 % 256 ≠ 0))
    (fun s => s.psRequest 3 psTimer))

/-- DEEP_TIMER_EXPIRE -/
def execDeepTimerExpire (s : State) : Res :=
  .next (s.on (s.up 10 && !s.apst && !s.ioBusy && s.hif.entry.isNone && decide (s.psNow = 3) && decide (s.feat 0 0xC0 / 65536 ≠ 0))
    (fun s => s.psRequest 4 psTimer))

/-- AUTONOMOUS_POWER_STATE_TRANSITION: the table entry of the state in force holds ITPT in bits 31:8 and ITPS in bits 7:3. -/
def execAutonomousPowerStateTransition (s : State) : Res :=
  let e := s.feat 0 0x0C (s.psNow + 1)
  let ps := bitsN e 3 5
  .next (s.on (s.up 10 && s.apst && !s.ioBusy && s.hif.entry.isNone && decide (bitsN e 8 24 ≠ 0) && decide (ps ≤ 4) && decide (ps ≠ s.psNow))
    (fun s => s.psRequest ps psApst))

/-- Pool 2 holds no frame (R244). -/
def State.pool2Empty (s : State) : Bool := decide (s.poolFree 2 = s.poolSize 2)

/-- POWER_STATE_ENTRY (R286) -/
def execPowerStateEntry (s : State) : Res :=
  .next (match s.hif.entry with
    | some cause =>
      if s.psReq ≤ 2 ∨ (s.ioBusy = false ∧ s.hif.test.isNone ∧ s.pool2Empty) then s.psEnter s.psReq cause else s
    | none => s)

/-! ### The governor (R284) -/

def tierBelow (t : Nat) : Nat := if t = 7200 then 5400 else if t = 5400 then 3600 else t
def tierAbove (t : Nat) : Nat := if t = 3600 then 5400 else if t = 5400 then 7200 else t

/-- GOVERNOR_STEP: one tier down after ten windows below 30 percent; one tier up after a window above 80 percent or a
command that waited 1 s for the media. A step up goes to a tier the state in force permits; from a tier above the permitted
ones the step down needs no idle windows. -/
def execGovernorStep (up : Bool) (busy : Byte) (s : State) : Res :=
  let old := s.spn.tgt
  let new := if up then tierAbove old else tierBelow old
  .next (s.on (s.up 10 && s.gov && decide (s.psNow ≤ 2) && decide (3600 ≤ old) && decide (new ≠ old) &&
      (if up then decide (new ≤ s.topTier s.psNow) else decide (busy.toNat < 30) || decide (s.topTier s.psNow < old)))
    (fun s => (s.moveTier new).raise 234 [(2, old), (2, new), (1, busy.toNat)]))

/-! ### NVMe-MI (R248) -/

/-- A temperature of the basic management command, from kelvin (NVMe-MI, log entry 20): degrees Celsius in two's complement
from −59 to 126; 7Fh stands for 127 or more, and C4h for −60 or less. -/
def smbusTemp (k : Nat) : Nat :=
  if 400 ≤ k then 0x7F else if k ≤ 213 then 0xC4 else if 273 ≤ k then k - 273 else 256 + k - 273

/-- NVME_MI_BASIC_COMMAND: the status flags are open. -/
def execNvmeMiBasicCommand (s : State) : Res :=
  .next (s.on (s.up 10) (fun s =>
    let (st, s) := s.draw 8
    s.emit (.smbus st s.hif.warn (smbusTemp s.composite) s.percentUsed)))

end Sys2Proof.Machine
end

