-- ==== Sys2Proof/Machine/IoOps.lean ====
section
/-! DEFINITION. Machine/IoOps.lean: stored blocks, durability (R274 to R277), the positions a compressed zone uses (R306,
R312) and the notices of zones the module changes (R303). -/

namespace Sys2Proof.Machine

def scTransfer : Nat := 0x004

/-! ### Stored blocks (R295, R301) -/

def blockKey (ns lba : Nat) : Nat := ns * 2 ^ 48 + lba
/-- A block of zeros is stored as nothing. -/
def packBlock (b : List Byte) : List Byte := if b.all (fun x => x == 0) then [] else b
def fullBlock (b : List Byte) : List Byte := (b ++ List.replicate 4096 0).take 4096
def State.block (s : State) (ns lba : Nat) : List Byte := NTab.get [] (blockKey ns lba) s.hif.blocks

/-- A block holds data: zoned LBAs at or above WP, and past ZCAP, read as zeros (R301), and so does a conventional block that
no sector carries (R295). -/
def State.holdsData (s : State) (n : Nsp) (lba : Nat) : Bool :=
  if n.zoned then decide (lba % zsze n.cls < (s.zone n.nsidx (lba / zsze n.cls)).wp)
  else (s.convHolder (n.nsidx * 2 ^ 48 + lba)).isSome

/-- A block as the host reads it. -/
def State.hostBlock (s : State) (n : Nsp) (lba : Nat) : List Byte :=
  if s.holdsData n lba then fullBlock (s.block n.nsidx lba) else List.replicate 4096 0

def lbas (lo n : Nat) : List Nat := (List.range n).map (fun k => lo + k)
def State.hostBlocks (s : State) (n : Nsp) (lo k : Nat) : List Byte := ((lbas lo k).map (s.hostBlock n)).flatten

/-- The volatile write cache is enabled and the command does not ask for durability (R274, R276). -/
def State.cached (s : State) (c : Cmd) : Bool := s.feat 0 0x06 == 1 && !c.e.fua

/-- One block gets new contents; with the cache its durable contents are remembered until a Flush (R277). A rewrite ends
an unrecovered LBA (R209). -/
def State.putBlock (s : State) (cached : Bool) (key : Nat) (b : List Byte) : State :=
  let old := NTab.get [] key s.hif.blocks
  let d := if cached then (match NTab.get none key s.hif.dirty with
      | some _ => s.hif.dirty
      | none => NTab.put none key (some old) s.hif.dirty)
    else NTab.put none key none s.hif.dirty
  let h := { s.hif with blocks := NTab.put [] key (packBlock b) s.hif.blocks, dirty := d, bad := NSet.del key s.hif.bad }
  { s with hif := h }

def State.putBlocks (s : State) (cached : Bool) (key : Nat) : List (List Byte) → State
  | [] => s
  | b :: t => (s.putBlock cached key b).putBlocks cached (key + 1) t

/-- The listed blocks of a range are zeroed. -/
def State.zeroBlocks (s : State) (cached : Bool) (lo n : Nat) : State :=
  let keys := ((s.hif.blocks.filter (fun e => decide (lo ≤ e.1) && decide (e.1 < lo + n))).map (fun e => e.1)) ++
    ((s.hif.bad.filter (fun e => decide (lo ≤ e.1) && decide (e.1 < lo + n))).map (fun e => e.1))
  keys.foldl (fun s k => s.putBlock cached k []) s

/-- Everything completed in a namespace becomes durable, and its open units are closed (R275, R311). -/
def State.flushNs (s : State) (ns : Nat) : State :=
  let d := s.hif.dirty.filter (fun e => e.1 / 2 ^ 48 != ns)
  let z := s.hif.zones.foldl (fun t e =>
    if e.1 / 2 ^ 32 = ns then NTab.put {} e.1 { e.2 with dwp := e.2.wp, dfill := e.2.fill, unit := 0 } t else t) s.hif.zones
  State.setZones { s with hif := { s.hif with dirty := d } } z

/-- A Flush of one namespace; zones whose last position its closed units take become Full (R303). -/
def State.flushAll (s : State) (ns : Nat) : State :=
  let s := s.flushNs ns
  match s.ns? ns with
  | some n => ((s.hif.zones.filter (fun e => e.1 / 2 ^ 32 == ns)).map (fun e => e.1 % 2 ^ 32)).foldl (fun s z => s.fullCheck n z) s
  | none => s

/-- A zone's data up to WP end is durable, with the positions used so far. -/
def State.durableZone (s : State) (n : Nsp) (z wpEnd : Nat) : State :=
  let lo := blockKey n.nsidx (z * zsze n.cls)
  let d := s.hif.dirty.filter (fun e => !(decide (lo ≤ e.1) && decide (e.1 < lo + zsze n.cls)))
  let s := { s with hif := { s.hif with dirty := d } }
  let zn := s.zone n.nsidx z
  s.setZone n.nsidx z { zn with dwp := wpEnd, dfill := zn.fill }

/-! ### Positions of a compressed zone (R306, R312) -/

/-- The XTS stage of a namespace (R314). -/
def State.seal (s : State) (n : Nsp) (lba : Nat) (bs : List Byte) : List Byte :=
  if n.enc then xts true (s.key n.nsidx) lba bs else bs

/-- Blocks coded behind the open unit of a zone; none when they pass the band's 65,536 positions. -/
def State.codeBlocks (s : State) (n : Nsp) (zn : Zone) (lba : Nat) (bs : List (List Byte)) : Option Enc :=
  let e : Enc := { slots := List.replicate zn.unit [], lba := lba - zn.unit }
  let r := Enc.run n.cls (s.seal n) (65536 - zn.fill + unitSectors n.cls zn.unit) lba bs e
  if r.2 then none else some r.1

/-- The zone after its coded blocks: fill, open unit, escape map, and what its sectors hold (R305, R306). start is the zone's first
LBA. The sectors of the unit left open are those it has if it is closed now. -/
def Zone.coded (zn : Zone) (cls start : Nat) (e : Enc) (close : Bool) : Zone :=
  let base := zn.fill - unitSectors cls zn.unit
  let tags := (e.close cls).out.zipIdx.foldl (fun t x => NTab.put (0, 0) (base + x.2) (x.1.lba - start, x.1.n) t) zn.tags
  let esc := (e.out.zipIdx.filter (fun x => x.1.esc)).foldl (fun t x => NSet.add (base + x.2) t) zn.esc
  { zn with fill := base + e.pos cls, unit := if close then 0 else e.slots.length, esc := esc, tags := tags }

/-! ### Write-type commands (R274, R299, R300, R312) -/

/-- An earlier write-type command of the zone is not yet completed, or the medium makes its writes wait (R213 to R215). -/
def State.zoneWaits (s : State) (c : Cmd) : Bool :=
  match c.zone, c.nsidx with
  | some (z, _, _), some ns => (s.zoneCmds ns z).any (fun x => decide (x.aseq < c.aseq)) || s.writesWait ns z
  | _, _ => false

/-- Blocks are stored in a zone: the state, or the status of a write that does not fit (R312). -/
def State.zoneStore (s : State) (c : Cmd) (n : Nsp) (r : Nat × Nat × Nat) (bs : List (List Byte)) : State ⊕ Nat :=
  let z := r.1
  let lba := z * zsze n.cls + r.2.1
  let keep := s.cached c
  let fill := (s.zone n.nsidx z).fill
  let put (s : State) : State :=
    let s := (s.putBlocks keep (blockKey n.nsidx lba) bs).bandWritten n.nsidx z fill (s.zone n.nsidx z).fill
    if keep then s else s.durableZone n z (r.2.1 + r.2.2)
  let zn := s.zone n.nsidx z
  if n.cls = 0 then
    .inl (put (s.setZone n.nsidx z { zn with fill := max zn.fill (r.2.1 + r.2.2) }))
  else match s.codeBlocks n zn lba bs with
    | none => .inr scZoneFull
    | some e => .inl (put (s.setZone n.nsidx z (zn.coded n.cls (z * zsze n.cls) e (!keep))))

/-- The end of a write-type command in a zone: a compressed zone with no position left becomes Full, and one that lacks
positions recommends Finish. -/
def State.zoneWrite (s : State) (c : Cmd) (n : Nsp) (r : Nat × Nat × Nat) (bs : List (List Byte)) (d0 d1 : Nat) : State :=
  match s.zoneStore c n r bs with
  | .inr st =>
    let s := s.setZone n.nsidx r.1 { s.zone n.nsidx r.1 with fzr := true }
    (s.zoneChanged n r.1 zoneWant).finishCmd c st 0 0
  | .inl s => (s.finishCmd c 0 d0 d1).fullCheck n r.1

/-- A write ended in a conventional namespace leaves each block with its old or its new contents (R270). -/
def State.tornBlocks (s : State) (key : Nat) : List (List Byte) → State
  | [] => s
  | b :: t =>
    let (x, s) := s.draw 1
    (if x = 1 then (s.putBlock false key b).mapConv key else s).tornBlocks (key + 1) t

/-- A write-type command carried out with its blocks. -/
def State.writeBlocks (s : State) (c : Cmd) (n : Nsp) (bs : List (List Byte)) (d0 d1 : Nat) : State :=
  if c.ended then
    (if n.zoned then s else s.tornBlocks (blockKey n.nsidx c.e.slba) bs).finishCmd c scSqDeleted 0 0
  else match c.zone with
    | some r => if s.zoneWaits c then s else s.zoneWrite c n r bs d0 d1
    | none =>
      let key := blockKey n.nsidx c.e.slba
      if s.convWaits then s else ((s.putBlocks (s.cached c) key bs).mapConvs key bs.length).finishCmd c 0 d0 d1

/-- The namespace of a command. -/
def State.cmdNs (s : State) (c : Cmd) : Option Nsp := match c.nsidx with | some k => s.ns? k | none => none

/-- A command that needs the host's data goes on once its transfer has ended. POISON in the buffer ends it with Internal Error
(log entry 20). -/
def State.withData (s : State) (c : Cmd) (go : List (List Byte) → State) : State :=
  match c.xfer with
  | .ended =>
    if c.xlist.any (fun a => s.poisoned a 4096) then s.finishCmd c scInternal 0 0
    else go (c.xlist.map (fun a => s.mbs a 4096))
  | .failed => s.finishCmd c scTransfer 0 0
  | _ => if c.ended ∧ c.xfer = .idle then s.finishCmd c scSqDeleted 0 0 else s

/-! ### Reads (R208, R209, R301) -/

/-- The earlier exclusive command whose forwarded data a shared command is served for a block: the latest of those that cover it
(R263, R264). -/
def State.forwarder (s : State) (c : Cmd) (lba : Nat) : Option Cmd :=
  match s.hif.cmds.filter (fun e => e.nsidx == c.nsidx && decide (e.aseq < c.aseq) && (match e.lock with
      | some k => k.ex && k.held && k.fwd && decide (k.lo ≤ lba) && decide (lba ≤ k.hi)
      | none => false)) with
  | [] => none
  | e :: t => some (t.foldl (fun m x => if m.aseq < x.aseq then x else m) e)

/-- Where that data lies in the buffer. -/
def State.heldAt (s : State) (c : Cmd) (lba : Nat) : Option Nat :=
  match s.forwarder c lba with
  | some e => match e.lock with
    | some k => if e.xfer = .ended then e.xlist[lba - k.lo]? else none
    | none => none
  | none => none

/-- A block as a command reads it: from the holder it was forwarded from, or as it is stored. -/
def State.served (s : State) (c : Cmd) (n : Nsp) (lba : Nat) : List Byte :=
  match s.heldAt c lba with
  | some a => s.mbs a 4096
  | none => s.hostBlock n lba
def State.servedBlocks (s : State) (c : Cmd) (n : Nsp) : List Byte := ((lbas c.e.slba c.e.nlb).map (s.served c n)).flatten

/-- First LBA of a command's range whose data is lost: an unrecovered one, one of a namespace whose key is lost, or
one forwarded as POISON (R15, R209, R315). -/
def State.lostLba (s : State) (c : Cmd) (n : Nsp) : Option Nat :=
  (lbas c.e.slba c.e.nlb).find? (fun l => match s.heldAt c l with
    | some a => s.poisoned a 4096
    | none => s.holdsData n l && (NSet.has (blockKey n.nsidx l) s.hif.bad || s.keyLost n))

/-- A zone of the range is Offline. -/
def State.offlineIn (s : State) (n : Nsp) (lo k : Nat) : Bool :=
  n.zoned && (lbas (lo / zsze n.cls) ((lo + k - 1) / zsze n.cls - lo / zsze n.cls + 1)).any (fun z =>
    (s.zone n.nsidx z).st == .offline)

/-- Blocks that a command reads from the medium. -/
def State.onMedium (s : State) (c : Cmd) (n : Nsp) (lba : Nat) : Bool := (s.heldAt c lba).isNone && s.holdsData n lba

/-- What Read, Verify and Compare do before they look at the data: the retry ladders of the sectors that fail, their status, or
go on (R207 to R209). A FUA command has earlier writes made durable (R276). -/
def State.reading (s : State) (c : Cmd) (n : Nsp) (fails : List Retry) (go : State → State) : State :=
  let lo := c.e.slba
  let s := if c.e.fua then s.flushAll n.nsidx else s
  if s.offlineIn n lo c.e.nlb then s.finishCmd c scZoneOffline 0 0
  else
    let s := s.ladders n lo c.e.limited (s.feat c.func 0x05) (fun s l => s.onMedium c n l) (fails.filter (fun r => decide (r.ofs < c.e.nlb)))
    match s.lostLba c n with
    | some l =>
      let s := s.updCmd c.tag (fun c => { c with errLba := some l })
      s.finishCmd c scUnrecovered 0 0
    | none => go s

end Sys2Proof.Machine
end

