-- ==== Sys2Proof/Machine/Io.lean ====
section
/-! DEFINITION. Machine/Io.lean: the I/O commands of the NVM command set and Zone Append, as firmware carries them out
(R261, R274 to R276, R295, R299 to R301), and frames that no head takes (R244). -/

namespace Sys2Proof.Machine

/-- An I/O command of one opcode and its namespace; one whose queue or controller is going ends instead (R269). -/
def State.onIo (s : State) (tag : Tag) (op : Nat) (go : Cmd → Nsp → State) : Res :=
  s.onCmd (s.io? tag.toNat op) (fun c => match s.cmdNs c with | some n => go c n | none => s.finishCmd c scNamespace 0 0)

/-- A write-type command with data: it goes on for an ended command too, whose blocks may be old or new (R270). -/
def State.onWrite (s : State) (tag : Tag) (op : Nat) (d0 d1 : Cmd → Nsp → Nat) : Res :=
  .next (match s.io? tag.toNat op with
    | some c => match s.cmdNs c with
      | some n => s.withData c (fun bs => s.writeBlocks c n bs (d0 c n) (d1 c n))
      | none => s.finishCmd c scNamespace 0 0
    | none => s)

/-- WRITE -/
def execWrite (tag : Tag) (s : State) : Res := s.onWrite tag 0x01 (fun _ _ => 0) (fun _ _ => 0)

/-- First LBA of the range a Zone Append was assigned. -/
def appended (c : Cmd) (n : Nsp) : Nat := match c.zone with | some (z, lo, _) => z * zsze n.cls + lo | none => 0

/-- ZONE_APPEND (R299, R300) -/
def execZoneAppend (tag : Tag) (s : State) : Res :=
  s.onWrite tag 0x7D (fun c n => appended c n % 2 ^ 32) (fun c n => appended c n / 2 ^ 32)

/-- WRITE_ZEROES: up to 65,536 blocks. -/
def execWriteZeroes (tag : Tag) (s : State) : Res :=
  s.onIo tag 0x08 (fun c n =>
    match c.zone with
    | some r => if s.zoneWaits c then s else s.zoneWrite c n r (List.replicate c.e.nlb (List.replicate 4096 0)) 0 0
    | none =>
      let key := blockKey n.nsidx c.e.slba
      ((s.zeroBlocks (s.cached c) key c.e.nlb).unmapConv key c.e.nlb).finishCmd c 0 0 0)

/-- READ: firmware has sent the data through HIF_XFER, or sends it now. -/
def execRead (tag : Tag) (fails : List Retry) (s : State) : Res :=
  s.onIo tag 0x02 (fun c n =>
    match c.xfer with
    | .failed => s.finishCmd c scTransfer 0 0
    | .running => s
    | x => s.reading c n fails (fun s =>
      (if x = .idle then s.emit (.toHost c.tag (s.servedBlocks c n)) else s).finishCmd c 0 0 0))

/-- VERIFY -/
def execVerify (tag : Tag) (fails : List Retry) (s : State) : Res :=
  s.onIo tag 0x0C (fun c n => s.reading c n fails (fun s => s.finishCmd c 0 0 0))

/-- COMPARE -/
def execCompare (tag : Tag) (s : State) (fails : List Retry := []) : Res :=
  s.onIo tag 0x05 (fun c n => s.withData c (fun bs => s.reading c n fails (fun s =>
    s.finishCmd c (if bs.flatten = s.servedBlocks c n then 0 else scCompare) 0 0)))

/-- DATASET_MANAGEMENT: the Deallocate attribute is CDW11 bit 2 and others are ignored. -/
def execDatasetManagement (tag : Tag) (s : State) : Res :=
  s.onIo tag 0x09 (fun c n =>
    if dwBits c.e.cdw11 2 1 = 0 then s.finishCmd c 0 0 0
    else if c.ranges.any (fun r => decide (n.nsze < r.1 + r.2)) then s.finishCmd c scLbaRange 0 0
    else (c.ranges.foldl (fun s r => (s.zeroBlocks (s.cached c) (blockKey n.nsidx r.1) r.2).unmapConv (blockKey n.nsidx r.1) r.2) s).finishCmd c 0 0 0)

/-- FLUSH (R275): NSID FFFFFFFFh covers every namespace of the controller. -/
def execFlush (tag : Tag) (s : State) : Res :=
  s.onCmd (s.io? tag.toNat 0x00) (fun c =>
    let l := if c.e.nsid.toNat = 0xFFFFFFFF then (s.spaces.filter (fun n => NSet.has c.func n.funcs)).map (fun n => n.nsidx)
      else c.nsidx.toList
    (l.foldl (fun s k => s.flushAll k) s).finishCmd c 0 0 0)

/-! ### Frames that no head takes (R244) -/

/-- Zones of an arm whose frames wait in pool 2: those with a write-type command in flight or data not yet durable. -/
def State.pooled (s : State) (a : Nat) : List (Nat × Nat) :=
  (s.hif.zones.filter (fun e => zoneArm (e.1 % 2 ^ 32) == a &&
    (decide (e.2.dwp < e.2.wp) || !(s.zoneCmds (e.1 / 2 ^ 32) (e.1 % 2 ^ 32)).isEmpty))).map (fun e => (e.1 / 2 ^ 32, e.1 % 2 ^ 32))

/-- Firmware moves a zone whose frames no head takes to a free band of the arm, as a refresh does (R214, R304). Without a band for
it, or with a copy of the arm under way, the zone's commands fail (R244). -/
def State.moveZone (s : State) (ns z : Nat) : State :=
  let a := zoneArm z
  match s.zoneBand ns z, s.armCopy a with
  | some (_, b), none =>
    match s.pickAny a with
    | (some t, s) => (s.setBand a b ((s.band a b).want 2)).setCopy a (some (b, t))
    | (none, s) => (s.zoneCmds ns z).foldl (fun s c => s.finishCmd c scInternal 0 0) s
  | _, _ => (s.zoneCmds ns z).foldl (fun s c => s.finishCmd c scInternal 0 0) s

/-- DRAIN_POOL_STALL (R244): pool 2 has not risen for 1 s. Of each arm that a named head lies on, firmware moves the zone whose
frames wait; where several do, the one that the order of zones gives first (log entry 109). -/
def execDrainPoolStall (heads : BitVec 24) (s : State) : Res :=
  .next (s.on (s.bit .BUF_CTL_PLOCK && decide (s.poolFree 2 * 8 < s.poolSize 2)) (fun s =>
    let s := s.raise 253 [(4, s.poolFree 2), (4, heads.toNat)]
    (List.range 4).foldl (fun s a =>
      if bitsN heads.toNat (6 * a) 6 = 0 then s
      else match s.pooled a with
        | (ns, z) :: _ => s.moveZone ns z
        | [] => s) s))

end Sys2Proof.Machine
end

