-- ==== Sys2Proof/Machine/Zones.lean ====
section
/-! DEFINITION. Machine/Zones.lean: Zone Management Send and Receive (R297, R298, R302) and the closing of open units (R311).
The transitions are those of the Zoned Namespace Command Set 1.2 (log entry 20). -/

namespace Sys2Proof.Machine

/-! ### Actions on zones -/

/-- What an action does to one zone: a state, or a status. -/
abbrev ZoneAct := State → Nsp → Nat → State ⊕ Nat

/-- An action on the zones it applies to, in order, until one fails. -/
def State.actAll (s : State) (n : Nsp) (act : ZoneAct) : List Nat → State ⊕ Nat
  | [] => .inl s
  | z :: t => match act s n z with
    | .inl s => s.actAll n act t
    | .inr st => .inr st

/-- Zones of a namespace that differ from reset, in order. -/
def State.listedZones (s : State) (ns : Nat) : List Nat :=
  (s.hif.zones.filter (fun e => e.1 / 2 ^ 32 == ns)).map (fun e => e.1 % 2 ^ 32)

/-- A Zone Management Send of one action. With Select All it acts on the zones whose state picks; otherwise on the zone
that starts at SLBA. -/
def State.zoneSend (s : State) (tag : Tag) (zsa : Nat) (picks : ZoneSt → Bool) (act : ZoneAct) : Res :=
  s.onCmd ((s.io? tag.toNat 0x79).filter (fun c => c.e.zsa == zsa)) (fun c =>
    match s.cmdNs c with
    | none => s.finishCmd c scNamespace 0 0
    | some n =>
      let size := zsze n.cls
      if !c.e.zall ∧ n.nsze ≤ c.e.slba then s.finishCmd c scLbaRange 0 0
      else if !c.e.zall ∧ c.e.slba % size ≠ 0 then s.finishCmd c scField 0 0
      else
        let l := if c.e.zall then (s.listedZones n.nsidx).filter (fun z => picks (s.zone n.nsidx z).st) else [c.e.slba / size]
        match s.actAll n act l with
        | .inl s => s.finishCmd c 0 0 0
        | .inr st => s.finishCmd c st 0 0)

/-- Open: a zone from Empty, Implicitly Opened or Closed. -/
def actOpen : ZoneAct := fun s n z =>
  match (s.zone n.nsidx z).st with
  | .explicit => .inl s
  | .empty | .implicit | .closed => s.openZone n.nsidx z .explicit
  | _ => .inr scZoneState

/-- Close: its open unit is closed as well, which may fill the zone (R303, R311). -/
def actClose : ZoneAct := fun s n z =>
  let zn := s.zone n.nsidx z
  match zn.st with
  | .closed => .inl s
  | .implicit | .explicit => .inl ((s.setZone n.nsidx z { zn with st := .closed }).closeUnit n.nsidx z)
  | _ => .inr scZoneState

/-- Filler sectors that a Finish writes: the positions that pad the partly written track group, each with its tag's LBA, which is
the position's own in an uncompressed zone and WP in a compressed one (R302). -/
def finishPads (n : Nsp) (z : Nat) (zn : Zone) : List (Nat × Nat) :=
  (padPositions zn.fill).map (fun d => (d, z * zsze n.cls + if n.cls = 0 then d else zn.wp))

/-- Finish: the data, filler sectors and the parity of the padded group are on the medium; WP stays the end of the data (R301,
R302). -/
def actFinish : ZoneAct := fun s n z =>
  let zn := s.zone n.nsidx z
  match zn.st with
  | .full => .inl s
  | .readOnly | .offline => .inr scZoneState
  | _ =>
    let pads := finishPads n z zn
    let fill := zn.fill + pads.length
    let s := s.setZone n.nsidx z { zn with st := .full, unit := 0, fill := fill, pads := zn.pads ++ pads }
    .inl ((s.bandWritten n.nsidx z zn.fill fill).durableZone n z zn.wp)

/-- Reset: BANDSEQ + 1 is recorded; the zone's blocks, unrecovered LBAs, relocation entries and escape map go, and the band is
remapped where R211 requires (R209, R302). -/
def actReset : ZoneAct := fun s n z =>
  let zn := s.zone n.nsidx z
  match zn.st with
  | .readOnly | .offline => .inr scZoneState
  | _ =>
    let lo := blockKey n.nsidx (z * zsze n.cls)
    let outside (k : Nat) : Bool := !(decide (lo ≤ k) && decide (k < lo + zsze n.cls))
    let h := { s.hif with blocks := s.hif.blocks.filter (fun e => outside e.1), bad := s.hif.bad.filter (fun e => outside e.1),
                          dirty := s.hif.dirty.filter (fun e => outside e.1) }
    let s := State.setZone { s with hif := h } n.nsidx z { bandseq := (zn.bandseq + 1) % 2 ^ 16 }
    .inl (s.bandReset n.nsidx z)

/-- Offline: only a Read Only zone. -/
def actOffline : ZoneAct := fun s n z =>
  let zn := s.zone n.nsidx z
  if zn.st = .readOnly then .inl (s.setZone n.nsidx z { zn with st := .offline }) else .inr scZoneState

/-- ZONE_OPEN -/
def execZoneOpen (tag : Tag) (s : State) : Res := s.zoneSend tag 3 (fun z => z == .closed) actOpen
/-- ZONE_CLOSE -/
def execZoneClose (tag : Tag) (s : State) : Res := s.zoneSend tag 1 isOpen actClose
/-- ZONE_FINISH -/
def execZoneFinish (tag : Tag) (s : State) : Res := s.zoneSend tag 2 isActive actFinish
/-- ZONE_RESET -/
def execZoneReset (tag : Tag) (s : State) : Res := s.zoneSend tag 4 (fun z => isActive z || z == .full) actReset
/-- ZONE_OFFLINE -/
def execZoneOffline (tag : Tag) (s : State) : Res := s.zoneSend tag 5 (fun z => z == .readOnly) actOffline

/-! ### Reporting (R297, R299) -/

def ZoneSt.code : ZoneSt → Nat
  | .empty => 0x1
  | .implicit => 0x2
  | .explicit => 0x3
  | .closed => 0x4
  | .readOnly => 0xD
  | .full => 0xE
  | .offline => 0xF

/-- Which states a Zone Receive Action Specific value lists: 0 every one. -/
def ZoneSt.listed (k : Nat) (z : ZoneSt) : Bool :=
  decide (k = 0) || (match z with
    | .empty => k == 1
    | .implicit => k == 2
    | .explicit => k == 3
    | .closed => k == 4
    | .full => k == 5
    | .readOnly => k == 6
    | .offline => k == 7)

/-- Zone descriptor k of a report; WP of a Full, Read Only or Offline zone is not valid. -/
def State.zoneDesc (s : State) (n : Nsp) (k z : Nat) : Page :=
  let zn := s.zone n.nsidx z
  let o := 64 + 64 * k
  [(o, [2] ++ leBytes 1 (16 * zn.st.code) ++ leBytes 1 (b2n zn.zfc + 2 * b2n zn.fzr)),
   (o + 8, leBytes 8 (zcap n.cls) ++ leBytes 8 (z * zsze n.cls))] ++
  (if zn.st = .full ∨ zn.st = .readOnly ∨ zn.st = .offline then [] else [(o + 24, leBytes 8 (z * zsze n.cls + zn.wp))])

/-- ZONE_MANAGEMENT_RECEIVE: Report Zones from the zone that holds SLBA; descriptors have no extension. -/
def execZoneManagementReceive (tag : Tag) (s : State) : Res :=
  s.onIo tag 0x7A (fun c n =>
    let size := zsze n.cls
    let len := 4 * (c.e.cdw12.toNat + 1)
    let kinds := dwBits c.e.cdw13 8 8
    if dwBits c.e.cdw13 0 8 ≠ 0 ∨ 7 < kinds then s.finishCmd c scField 0 0
    else if n.nsze ≤ c.e.slba then s.finishCmd c scLbaRange 0 0
    else
      let l := (lbas (c.e.slba / size) (n.nsze / size - c.e.slba / size)).filter (fun z => ZoneSt.listed kinds (s.zone n.nsidx z).st)
      let l' := l.take ((len - 64) / 64)
      let count := if dwBits c.e.cdw13 16 1 = 1 then l'.length else l.length
      s.answer c ((0, leBytes 8 count) :: (l'.zipIdx.map (fun x => s.zoneDesc n x.2 x.1)).flatten) 0 len)

/-! ### Open units (R311) -/

/-- UNIT_CLOSE_TIMEOUT -/
def execUnitCloseTimeout (nsidx : Byte) (zone : Nat) (s : State) : Res :=
  .next (s.closeUnit nsidx.toNat zone)

end Sys2Proof.Machine
end

