-- ==== Sys2Proof/Machine/Dispatch.lean ====
section
/-! DEFINITION. Machine/Dispatch.lean: the meaning of each command. -/

namespace Sys2Proof.Machine

def exec (i : Instr) (s : State) : Host.Outcome State Fault Refusal :=
  match i with
  | .powerOnReset => Sys2Proof.Machine.execPowerOnReset s
  | .powerOnRelease xsys => Sys2Proof.Machine.execPowerOnRelease s xsys
  | .sysrstNAssert part => Sys2Proof.Machine.execSysrstNAssert s part
  | .sysrstNRelease xsys => Sys2Proof.Machine.execSysrstNRelease s xsys
  | .loaderRestartStart => Sys2Proof.Machine.execLoaderRestartStart s
  | .releaseStep blkOk => Sys2Proof.Machine.execReleaseStep s blkOk
  | .releaseStepComplete eye => Sys2Proof.Machine.execReleaseStepComplete eye s
  | .releaseStepTimeout chan tstep part => Sys2Proof.Machine.execReleaseStepTimeout chan tstep s part
  | .loadCopyDone => Sys2Proof.Machine.execLoadCopyDone s
  | .norReadTimeout part => Sys2Proof.Machine.execNorReadTimeout part s
  | .rstRunokWrite v => Sys2Proof.Machine.execRstRunokWrite v s
  | .bootWindowExpire => Sys2Proof.Machine.execBootWindowExpire s
  | .windowRecordAckPulse => Sys2Proof.Machine.execWindowRecordAckPulse s
  | .rstOutPulse v => Sys2Proof.Machine.execRstOutPulse v s
  | .rstoutPulseEnd => Sys2Proof.Machine.execRstoutPulseEnd s
  | .rstBlkGo v => Sys2Proof.Machine.execRstBlkGo v s
  | .softResetDone => Sys2Proof.Machine.execSoftResetDone s
  | .calibrationSetWrite tag data => Sys2Proof.Machine.execCalibrationSetWrite tag data s
  | .calibrationSetRead tag => Sys2Proof.Machine.execCalibrationSetRead tag s
  | .norWriteComplete ok bad => Sys2Proof.Machine.execNorWriteComplete ok bad s
  | .firmwareImageDownload tag data => Sys2Proof.Machine.execFirmwareImageDownload tag data s
  | .firmwareCommitCa000b tag => Sys2Proof.Machine.execFirmwareCommitCa000b tag s
  | .firmwareCommitCa001b tag => Sys2Proof.Machine.execFirmwareCommitCa001b tag s
  | .firmwareCommitCa010b tag => Sys2Proof.Machine.execFirmwareCommitCa010b tag s
  | .firmwareCommitCa011b tag => Sys2Proof.Machine.execFirmwareCommitCa011b tag s
  | .firmwareCommitCaReserved tag => Sys2Proof.Machine.execFirmwareCommitCaReserved tag s
  | .activationDrainDone ms => Sys2Proof.Machine.execActivationDrainDone ms s
  | .activationDrainTimeout => Sys2Proof.Machine.execActivationDrainTimeout s
  | .zeroCrossing interval angle => Sys2Proof.Machine.execZeroCrossing interval angle s
  | .lockEntered => Sys2Proof.Machine.execLockEntered s
  | .lockLost => Sys2Proof.Machine.execLockLost s
  | .spnTgtWrite v => Sys2Proof.Machine.execSpnTgtWrite v s
  | .cogenWrite en => Sys2Proof.Machine.execCogenWrite en s
  | .cogTableWrite w v => Sys2Proof.Machine.execCogTableWrite w v s
  | .observeEnd o => Sys2Proof.Machine.execObserveEnd o s
  | .brakeConfirmed ms => Sys2Proof.Machine.execBrakeConfirmed ms s
  | .brakeTimeout => Sys2Proof.Machine.execBrakeTimeout s
  | .alignVectorEnd => Sys2Proof.Machine.execAlignVectorEnd s
  | .handover => Sys2Proof.Machine.execHandover s
  | .startAttemptFail => Sys2Proof.Machine.execStartAttemptFail s
  | .windingShortStop ms => Sys2Proof.Machine.execWindingShortStop ms s
  | .busWatchEnter vmot => Sys2Proof.Machine.execBusWatchEnter vmot s
  | .busWatchRelease vmot => Sys2Proof.Machine.execBusWatchRelease vmot s
  | .ov1Engage vmot => Sys2Proof.Machine.execOv1Engage vmot s
  | .ov1Release vmot => Sys2Proof.Machine.execOv1Release vmot s
  | .chopperFault high => Sys2Proof.Machine.execChopperFault high s
  | .ov2Shutdown vmot => Sys2Proof.Machine.execOv2Shutdown vmot s
  | .powerLoss => Sys2Proof.Machine.execPowerLoss s
  | .isolationSwitchClose => Sys2Proof.Machine.execIsolationSwitchClose s
  | .clrchop => Sys2Proof.Machine.execClrchop s
  | .clrov => Sys2Proof.Machine.execClrov s
  | .take => Sys2Proof.Machine.execTake s
  | .retractPush => Sys2Proof.Machine.execRetractPush s
  | .retractDone t0 t1 t2 t3 => Sys2Proof.Machine.execRetractDone t0 t1 t2 t3 s
  | .linkSilence us xsys => Sys2Proof.Machine.execLinkSilence us s xsys
  | .bridgeOvercurrent b value => Sys2Proof.Machine.execBridgeOvercurrent b value s
  | .maRailOutOfRange => Sys2Proof.Machine.execMaRailOutOfRange s
  | .servoAddressMark h widx count => Sys2Proof.Machine.execServoAddressMark h widx count s
  | .samMissing h => Sys2Proof.Machine.execSamMissing h s
  | .sampleRecord h w same => Sys2Proof.Machine.execSampleRecord h w s same
  | .sampleService a => Sys2Proof.Machine.execSampleService a s
  | .sampleDeadlineMiss e => Sys2Proof.Machine.execSampleDeadlineMiss e s
  | .bankselSwap e => Sys2Proof.Machine.execBankselSwap e s
  | .bankWrite e bankB w v => Sys2Proof.Machine.execBankWrite e bankB w v s
  | .sceRunWrite a run => Sys2Proof.Machine.execSceRunWrite a run s
  | .load a => Sys2Proof.Machine.execLoad a s
  | .unload a => Sys2Proof.Machine.execUnload a s
  | .unloadPushEnd a => Sys2Proof.Machine.execUnloadPushEnd a s
  | .loadtmo a => Sys2Proof.Machine.execLoadtmo a s
  | .ctgtWrite a v => Sys2Proof.Machine.execCtgtWrite a v s
  | .seektmo a => Sys2Proof.Machine.execSeektmo a s
  | .shockExcursion inputB => Sys2Proof.Machine.execShockExcursion inputB s
  | .shockHoldExpire => Sys2Proof.Machine.execShockHoldExpire s
  | .shockSensorUnsound inputB => Sys2Proof.Machine.execShockSensorUnsound inputB s
  | .reportFreshExpire a => Sys2Proof.Machine.execReportFreshExpire a s
  | .supplyWindowExit rail => Sys2Proof.Machine.execSupplyWindowExit rail s
  | .supplyGoodRestore rail => Sys2Proof.Machine.execSupplyGoodRestore rail s
  | .controllerDieOvertemp => Sys2Proof.Machine.execControllerDieOvertemp s
  | .powerDieOvertemp value => Sys2Proof.Machine.execPowerDieOvertemp value s
  | .next h => Sys2Proof.Machine.execNext h s
  | .jump h => Sys2Proof.Machine.execJump h s
  | .call h => Sys2Proof.Machine.execCall h s
  | .ret h => Sys2Proof.Machine.execRet h s
  | .loop h => Sys2Proof.Machine.execLoop h s
  | .wait h => Sys2Proof.Machine.execWait h s
  | .waitConditionMet h => Sys2Proof.Machine.execWaitConditionMet h s
  | .waittmo h => Sys2Proof.Machine.execWaittmo h s
  | .tret h => Sys2Proof.Machine.execTret h s
  | .halt h => Sys2Proof.Machine.execHalt h s
  | .illegalSeq h => Sys2Proof.Machine.execIllegalSeq h s
  | .skipCheckDone h => Sys2Proof.Machine.execSkipCheckDone h s
  | .trapEntry h parity => Sys2Proof.Machine.execTrapEntry h parity s
  | .atomOverrun h => Sys2Proof.Machine.execAtomOverrun h s
  | .hseRunStart h => Sys2Proof.Machine.execHseRunStart h s
  | .hseRunStop h => Sys2Proof.Machine.execHseRunStop h s
  | .doorbellCmd h => Sys2Proof.Machine.execDoorbellCmd h s
  | .doorbellAbort h => Sys2Proof.Machine.execDoorbellAbort h s
  | .cqptrTailWrite h v => Sys2Proof.Machine.execCqptrTailWrite h v s
  | .hseDoneRead h => Sys2Proof.Machine.execHseDoneRead h s
  | .hseStoreWrite h ofs v => Sys2Proof.Machine.execHseStoreWrite h ofs v s
  | .defectTableWrite h w v => Sys2Proof.Machine.execDefectTableWrite h w v s
  | .slotBoundary h => Sys2Proof.Machine.execSlotBoundary h s
  | .keepOutStart h => Sys2Proof.Machine.execKeepOutStart h s
  | .keepOutEnd h => Sys2Proof.Machine.execKeepOutEnd h s
  | .writeFrameEnd h => Sys2Proof.Machine.execWriteFrameEnd h s
  | .writePermitDrop h => Sys2Proof.Machine.execWritePermitDrop h s
  | .preampFault a => Sys2Proof.Machine.execPreampFault a s
  | .syncMarkFound h bitPos dist => Sys2Proof.Machine.execSyncMarkFound h bitPos dist s
  | .syncWindowClose h => Sys2Proof.Machine.execSyncWindowClose h s
  | .decodeDone h d => Sys2Proof.Machine.execDecodeDone h d s
  | .decodeBudgetExpire h unsat snr => Sys2Proof.Machine.execDecodeBudgetExpire h unsat snr s
  | .chanRdecGo h v => Sys2Proof.Machine.execChanRdecGo h v s
  | .offlineDecodeDone h d => Sys2Proof.Machine.execOfflineDecodeDone h d s
  | .chanEnable h => Sys2Proof.Machine.execChanEnable h s
  | .baseMatrixCheckDone h => Sys2Proof.Machine.execBaseMatrixCheckDone h s
  | .clrstat h => Sys2Proof.Machine.execClrstat h s
  | .zrateWrite h v => Sys2Proof.Machine.execZrateWrite h v s
  | .tierLeave => Sys2Proof.Machine.execTierLeave s
  | .tierReady => Sys2Proof.Machine.execTierReady s
  | .synthRelockDone h => Sys2Proof.Machine.execSynthRelockDone h s
  | .nolock h => Sys2Proof.Machine.execNolock h s
  | .hlCmdWrite a v => Sys2Proof.Machine.execHlCmdWrite a v s
  | .hlinkTransactionStart a => Sys2Proof.Machine.execHlinkTransactionStart a s
  | .hlinkTransactionDone a status data parityOk => Sys2Proof.Machine.execHlinkTransactionDone a status data parityOk s
  | .hlRespRead a => Sys2Proof.Machine.execHlRespRead a s
  | .oceOpen ctx count => Sys2Proof.Machine.execOceOpen ctx count s
  | .ocePark ctx => Sys2Proof.Machine.execOcePark ctx s
  | .oceFill ctx => Sys2Proof.Machine.execOceFill ctx s
  | .oceBadop v => Sys2Proof.Machine.execOceBadop v s
  | .oceCommandEnd noAnswer => Sys2Proof.Machine.execOceCommandEnd noAnswer s
  | .setrd g => Sys2Proof.Machine.execSetrd g s
  | .bufferAccess q => Sys2Proof.Machine.execBufferAccess q s
  | .patrolScrubRead ecc => Sys2Proof.Machine.execPatrolScrubRead ecc s
  | .mr4Poll stack code hot moved => Sys2Proof.Machine.execMr4Poll stack code hot moved s
  | .retrain => Sys2Proof.Machine.execRetrain s
  | .plock => Sys2Proof.Machine.execPlock s
  | .bufPretWrite k v => Sys2Proof.Machine.execBufPretWrite k v s
  | .shapeSegmentStart f len => Sys2Proof.Machine.execShapeSegmentStart f len s
  | .drainPoolStall heads => Sys2Proof.Machine.execDrainPoolStall heads s
  | .dmaChannelEnable c => Sys2Proof.Machine.execDmaChannelEnable c s
  | .dmaStop c wb => Sys2Proof.Machine.execDmaStop c s wb
  | .dmaCtlEnable en => Sys2Proof.Machine.execDmaCtlEnable en s
  | .dmaSwreq line => Sys2Proof.Machine.execDmaSwreq line s
  | .dmaRequest line => Sys2Proof.Machine.execDmaRequest line s
  | .descriptorFetchDone c ans => Sys2Proof.Machine.execDescriptorFetchDone c ans s
  | .dmaBurstDone c ans wb => Sys2Proof.Machine.execDmaBurstDone c ans s wb
  | .dmaBusTimeout c => Sys2Proof.Machine.execDmaBusTimeout c s
  | .guardWait1ms c => Sys2Proof.Machine.execGuardWait1ms c s
  | .sqTailDoorbell f q v => Sys2Proof.Machine.execSqTailDoorbell f q v s
  | .cqHeadDoorbell f q v => Sys2Proof.Machine.execCqHeadDoorbell f q v s
  | .commandAdmit f q e ranges => Sys2Proof.Machine.execCommandAdmit f q e ranges s
  | .creditGrant read => Sys2Proof.Machine.execCreditGrant read s
  | .hifNextRead => Sys2Proof.Machine.execHifNextRead s
  | .hifCplWrite v => Sys2Proof.Machine.execHifCplWrite v s
  | .completionPost f q => Sys2Proof.Machine.execCompletionPost f q s
  | .lrelFwd tag => Sys2Proof.Machine.execLrelFwd tag s
  | .lrelRel tag => Sys2Proof.Machine.execLrelRel tag s
  | .hifXferWrite tag => Sys2Proof.Machine.execHifXferWrite tag s
  | .hostTransferEnd tag err data => Sys2Proof.Machine.execHostTransferEnd tag err data s
  | .hifXdoneRead => Sys2Proof.Machine.execHifXdoneRead s
  | .lockWait1s tag => Sys2Proof.Machine.execLockWait1s tag s
  | .orderedWait1s tag => Sys2Proof.Machine.execOrderedWait1s tag s
  | .cqFull1s f q => Sys2Proof.Machine.execCqFull1s f q s
  | .createIoSubmissionQueue tag => Sys2Proof.Machine.execCreateIoSubmissionQueue tag s
  | .deleteIoSubmissionQueue tag => Sys2Proof.Machine.execDeleteIoSubmissionQueue tag s
  | .createIoCompletionQueue tag => Sys2Proof.Machine.execCreateIoCompletionQueue tag s
  | .deleteIoCompletionQueue tag => Sys2Proof.Machine.execDeleteIoCompletionQueue tag s
  | .getLogPage tag => Sys2Proof.Machine.execGetLogPage tag s
  | .identify tag => Sys2Proof.Machine.execIdentify tag s
  | .abort tag => Sys2Proof.Machine.execAbort tag s
  | .setFeatures tag data => Sys2Proof.Machine.execSetFeatures tag data s
  | .setPowerManagement tag => Sys2Proof.Machine.execSetPowerManagement tag s
  | .setVolatileWriteCache tag => Sys2Proof.Machine.execSetVolatileWriteCache tag s
  | .setSpindleGovernor tag => Sys2Proof.Machine.execSetSpindleGovernor tag s
  | .setErrorRecovery tag => Sys2Proof.Machine.execSetErrorRecovery tag s
  | .getFeatures tag => Sys2Proof.Machine.execGetFeatures tag s
  | .asynchronousEventRequest tag => Sys2Proof.Machine.execAsynchronousEventRequest tag s
  | .namespaceCreate tag data => Sys2Proof.Machine.execNamespaceCreate tag data s
  | .namespaceDelete tag => Sys2Proof.Machine.execNamespaceDelete tag s
  | .namespaceAttach tag ctrls => Sys2Proof.Machine.execNamespaceAttach tag ctrls s
  | .namespaceDetach tag ctrls => Sys2Proof.Machine.execNamespaceDetach tag ctrls s
  | .directiveSend tag => Sys2Proof.Machine.execDirectiveSend tag s
  | .directiveReceive tag => Sys2Proof.Machine.execDirectiveReceive tag s
  | .virtualizationManagement tag => Sys2Proof.Machine.execVirtualizationManagement tag s
  | .selfTestShort tag => Sys2Proof.Machine.execSelfTestShort tag s
  | .selfTestExtended tag => Sys2Proof.Machine.execSelfTestExtended tag s
  | .selfCalibration tag => Sys2Proof.Machine.execSelfCalibration tag s
  | .selfTestAbort tag => Sys2Proof.Machine.execSelfTestAbort tag s
  | .selfTestEnd failed set => Sys2Proof.Machine.execSelfTestEnd failed set s
  | .selfTestPreempt h ms => Sys2Proof.Machine.execSelfTestPreempt h ms s
  | .formatNvm tag => Sys2Proof.Machine.execFormatNvm tag s
  | .sanitizeCryptoErase tag => Sys2Proof.Machine.execSanitizeCryptoErase tag s
  | .cryptoEraseDone tag => Sys2Proof.Machine.execCryptoEraseDone tag s
  | .flush tag => Sys2Proof.Machine.execFlush tag s
  | .write tag => Sys2Proof.Machine.execWrite tag s
  | .read tag fails => Sys2Proof.Machine.execRead tag fails s
  | .compare tag fails => Sys2Proof.Machine.execCompare tag s fails
  | .writeZeroes tag => Sys2Proof.Machine.execWriteZeroes tag s
  | .datasetManagement tag => Sys2Proof.Machine.execDatasetManagement tag s
  | .verify tag fails => Sys2Proof.Machine.execVerify tag fails s
  | .zoneAppend tag => Sys2Proof.Machine.execZoneAppend tag s
  | .zoneOpen tag => Sys2Proof.Machine.execZoneOpen tag s
  | .zoneClose tag => Sys2Proof.Machine.execZoneClose tag s
  | .zoneFinish tag => Sys2Proof.Machine.execZoneFinish tag s
  | .zoneReset tag => Sys2Proof.Machine.execZoneReset tag s
  | .zoneOffline tag => Sys2Proof.Machine.execZoneOffline tag s
  | .zoneManagementReceive tag => Sys2Proof.Machine.execZoneManagementReceive tag s
  | .unitCloseTimeout nsidx zone => Sys2Proof.Machine.execUnitCloseTimeout nsidx zone s
  | .frcLaneGo k => Sys2Proof.Machine.execFrcLaneGo k s
  | .frcJobEnd k => Sys2Proof.Machine.execFrcJobEnd k s
  | .keyGenerate nsidx => Sys2Proof.Machine.execKeyGenerate nsidx s
  | .keyLoad nsidx => Sys2Proof.Machine.execKeyLoad nsidx s
  | .keyDestroy nsidx => Sys2Proof.Machine.execKeyDestroy nsidx s
  | .keyCommandEnd => Sys2Proof.Machine.execKeyCommandEnd s
  | .controllerReset f => Sys2Proof.Machine.execControllerReset f s
  | .controllerEnable f wrr => Sys2Proof.Machine.execControllerEnable f s wrr
  | .functionLevelReset f => Sys2Proof.Machine.execFunctionLevelReset f s
  | .nssrWrite f v => Sys2Proof.Machine.execNssrWrite f v s
  | .perstN level => Sys2Proof.Machine.execPerstN level s
  | .hotReset dlDown => Sys2Proof.Machine.execHotReset dlDown s
  | .idpLinkControl linkDisable set => Sys2Proof.Machine.execIdpLinkControl linkDisable set s
  | .edpSecondaryBusReset linkDisable set => Sys2Proof.Machine.execEdpSecondaryBusReset linkDisable set s
  | .idpBusNumberWrite primary secondary subordinate => Sys2Proof.Machine.execIdpBusNumberWrite primary secondary subordinate s
  | .valleyTimerExpire => Sys2Proof.Machine.execValleyTimerExpire s
  | .deepTimerExpire => Sys2Proof.Machine.execDeepTimerExpire s
  | .powerStateEntry => Sys2Proof.Machine.execPowerStateEntry s
  | .governorStep up busy => Sys2Proof.Machine.execGovernorStep up busy s
  | .nvmeMiBasicCommand => Sys2Proof.Machine.execNvmeMiBasicCommand s
  | .passOpen v tap => Sys2Proof.Machine.execPassOpen v s tap
  | .passClose v => Sys2Proof.Machine.execPassClose v s
  | .joinProceed tap => Sys2Proof.Machine.execJoinProceed s tap
  | .holdoffExpire => Sys2Proof.Machine.execHoldoffExpire s
  | .joinEnChange level => Sys2Proof.Machine.execJoinEnChange level s
  | .passPositionCheck wrong => Sys2Proof.Machine.execPassPositionCheck wrong s
  | .linkUp p speed width failed final rate => Sys2Proof.Machine.execLinkUp p speed width failed s final rate
  | .linkDown p cause inL0 => Sys2Proof.Machine.execLinkDown p cause inL0 s
  | .depth hdr vid => Sys2Proof.Machine.execDepth hdr vid s
  | .below hdr vid => Sys2Proof.Machine.execBelow hdr vid s
  | .depthTimeout => Sys2Proof.Machine.execDepthTimeout s
  | .chainMessagePeriod => Sys2Proof.Machine.execChainMessagePeriod s
  | .tlpForward t credit => Sys2Proof.Machine.execTlpForward t s credit
  | .forwardBufferFull towardUsp credit => Sys2Proof.Machine.execForwardBufferFull towardUsp credit s
  | .hartMemoryAccess c k addr len v mepc p ecc pre => Sys2Proof.Machine.execHartMemoryAccess c k addr len v mepc p s ecc pre
  | .cboClean c addr p pre => Sys2Proof.Machine.execCboClean c addr s p pre
  | .cboFlush c addr p pre => Sys2Proof.Machine.execCboFlush c addr s p pre
  | .cboInval c addr pre p => Sys2Proof.Machine.execCboInval c addr pre s p
  | .rangeClean v errs => Sys2Proof.Machine.execRangeClean v s errs
  | .rangeCleanInvalidate v errs => Sys2Proof.Machine.execRangeCleanInvalidate v s errs
  | .rangeInvalidate v errs => Sys2Proof.Machine.execRangeInvalidate v s errs
  | .rangeOpRefused v => Sys2Proof.Machine.execRangeOpRefused v s
  | .rangeOpDone us => Sys2Proof.Machine.execRangeOpDone us s
  | .l2Disable => Sys2Proof.Machine.execL2Disable s
  | .l2DrainDone us errs => Sys2Proof.Machine.execL2DrainDone us s errs
  | .l2Enable => Sys2Proof.Machine.execL2Enable s
  | .l2LockWrite v => Sys2Proof.Machine.execL2LockWrite v s
  | .evcClaimRead c => Sys2Proof.Machine.execEvcClaimRead c s
  | .evcClaimComplete c v => Sys2Proof.Machine.execEvcClaimComplete c v s
  | .evcMsipWrite c v => Sys2Proof.Machine.execEvcMsipWrite c v s
  | .timerInterrupt c => Sys2Proof.Machine.execTimerInterrupt c s
  | .eventRaise src data => Sys2Proof.Machine.execEventRaise src data s
  | .evcRaiseWrite c v => Sys2Proof.Machine.execEvcRaiseWrite c v s
  | .recordWrite slotOk seqOk blkOk => Sys2Proof.Machine.execRecordWrite slotOk seqOk blkOk s
  | .lostEventsRecord => Sys2Proof.Machine.execLostEventsRecord s
  | .hold => Sys2Proof.Machine.execHold s
  | .holdExpire => Sys2Proof.Machine.execHoldExpire s
  | .optimeSave blkOk => Sys2Proof.Machine.execOptimeSave s blkOk
  | .faultSubwindow k => Sys2Proof.Machine.execFaultSubwindow k s
  | .faultClassLasting k u => Sys2Proof.Machine.execFaultClassLasting k u s
  | .ageFstatClear k v => Sys2Proof.Machine.execAgeFstatClear k v s
  | .guardVoltageStep mon slack => Sys2Proof.Machine.execGuardVoltageStep mon slack s
  | .ageVoutWrite v => Sys2Proof.Machine.execAgeVoutWrite v s
  | .pmbusCommandDone ack => Sys2Proof.Machine.execPmbusCommandDone ack s
  | .thermalLevelCross sensor temp => Sys2Proof.Machine.execThermalLevelCross sensor temp s
  | .aonFallback => Sys2Proof.Machine.execAonFallback s
  | .registerWrite addr wide v => Sys2Proof.Machine.execRegisterWrite addr wide v s
  | .shockSensorSoundRestore inputB bias => Sys2Proof.Machine.execShockSensorSoundRestore inputB bias s
  | .hlFltNRelease a => Sys2Proof.Machine.execHlFltNRelease a s
  | .maRailInRange => Sys2Proof.Machine.execMaRailInRange s
  | .controllerDieTempRestore => Sys2Proof.Machine.execControllerDieTempRestore s
  | .dqRetrainDone eye => Sys2Proof.Machine.execDqRetrainDone eye s
  | .autonomousPowerStateTransition => Sys2Proof.Machine.execAutonomousPowerStateTransition s
  | .interruptCoalescingTimeout f q => Sys2Proof.Machine.execInterruptCoalescingTimeout f q s

end Sys2Proof.Machine
end

