-- ==== Sys2Proof/Machine/Idle.lean ====
section
/-! DEFINITION. Machine/Idle.lean: what passes when no command waits: one cycle of CLK_SYS, in which EVC_MTIME counts
(R367) and the operating time gains its part of 1/1024 s (R412). As the operating time goes on, firmware looks after the
medium (R212 to R216) and plans the core voltage (R391; log entry 103), and the shock inputs' rest bias moves (R405). -/

namespace Sys2Proof.Machine

/-- What one cycle of CLK_SYS, 25 MHz, adds of a unit of operating time, over unitDen: XAON gives 1,024 units a second, and
CLK_SYS ÷ 763 in its place a unit in each 32 × 763 cycles. -/
def unitDen : Nat := 25000000 * 24416
def State.unitNum (s : State) : Nat := if s.bit .CLK_STAT_AONFB then 25000000 else 1024 * 24416

/-- TLPs that wait for credit leave the switch (R341). -/
def State.forward (s : State) : State := if s.up 10 then (s.drainPort .usp).drainPort .edp else s

/-- One input's rest bias follows it with a time constant of 1 s: in 1/1024 s by at most one step of 10 mV, either way (log entry
111). -/
def State.biasStep (s : State) (r : Reg) : State :=
  let (x, s) := s.draw 2
  s.wr r (if x = 0 then s.rd r - 1 else if x = 1 then min 255 (s.rd r + 1) else s.rd r)

/-- The rest biases move, but for the time an input lies outside its shock window; when it returns is free (R405). -/
def State.restBias (s : State) : State :=
  if s.pwr.outside then
    let (x, s) := s.draw 1
    s.setPwr { s.pwr with outside := decide (x = 0) }
  else
    let s := if s.pwr.biasA then s.biasStep .SPN_SHK_BIASA else s
    if s.pwr.biasB then s.biasStep .SPN_SHK_BIASB else s

def State.tick (s : State) : State :=
  if s.up 5 then
    let s := s.forward.wrapAdd .EVC_MTIME_MTIME 1
    let f := s.frac + s.unitNum
    if f < unitDen then { s with frac := f }
    else State.restBias <| State.voltPlan <| State.background { s.wrapAdd .EREC_OPTIME_OPTIME 1 with frac := f - unitDen }
  else s

def idle (s : State) : Res := .next s.tick

end Sys2Proof.Machine
end

