-- ==== Sys2Proof/Safety.lean ====
section
/-! DEFINITION. Safety.lean: what counts as a sound state and a safe step, and what a command leaves alone, in the words
the statements use. -/

namespace Sys2Proof.Machine

/-- Memory keeps its one canonical form. -/
abbrev Memory.wf (m : List Host.Cell) : Prop := Tab.wf natLt (fun _ => (0 : Byte)) m = true

/-- The register file keeps its one canonical form: fields in order, none listed at its reset value. -/
abbrev Registers.wf (r : List (RKey × Word)) : Prop := Tab.wf RKey.lt RKey.dflt r = true

/-- No listed field holds more than its width. -/
abbrev Registers.fit (r : List (RKey × Word)) : Prop := ∀ e ∈ r, e.2.toNat < 2 ^ e.1.reg.info.w

/-- A state whose stores are in canonical form, so that equal contents are equal data, and whose fields hold no more than
their width. -/
structure State.Canonical (s : State) : Prop where
  mem : Memory.wf s.mem
  regs : Registers.wf s.regs
  fit : Registers.fit s.regs

/-- A step is safe when it goes on: it answers a next state. -/
def State.Steps (s : State) : Prop := ∃ t, step s = .next t

/-! ### Frames -/

/-- The parts of the state other than the registers and memory, in State's order. -/
inductive Part where
  | poison | nor | staged | norq | rst | ev | erec | age | pwr | spn | arms | hif | psw | l2 | hses | chans | hls | oce
  | dma | buf | frc | med | frac | free | out
  deriving DecidableEq, Repr

/-- The part is the same in both states. -/
def Part.same (s t : State) : Part → Prop
  | .poison => t.poison = s.poison
  | .nor => t.nor = s.nor
  | .staged => t.staged = s.staged
  | .norq => t.norq = s.norq
  | .rst => t.rst = s.rst
  | .ev => t.ev = s.ev
  | .erec => t.erec = s.erec
  | .age => t.age = s.age
  | .pwr => t.pwr = s.pwr
  | .spn => t.spn = s.spn
  | .arms => t.arms = s.arms
  | .hif => t.hif = s.hif
  | .psw => t.psw = s.psw
  | .l2 => t.l2 = s.l2
  | .hses => t.hses = s.hses
  | .chans => t.chans = s.chans
  | .hls => t.hls = s.hls
  | .oce => t.oce = s.oce
  | .dma => t.dma = s.dma
  | .buf => t.buf = s.buf
  | .frc => t.frc = s.frc
  | .med => t.med = s.med
  | .frac => t.frac = s.frac
  | .free => t.free = s.free
  | .out => t.out = s.out

/-- Every part but those listed is the same, and the queue is left alone. -/
def State.keeps (s t : State) (but : List Part) : Prop := t.pending = s.pending ∧ ∀ p, p ∉ but → p.same s t

/-- Every register field but those listed reads as before, at every index. -/
def State.regsBut (s t : State) (but : List Reg) : Prop := ∀ r i j, r ∉ but → t.rdW r i j = s.rdW r i j

/-- Every register field but those named, at the named index, reads as before. -/
def State.keysBut (s t : State) (but : RKey → Prop) : Prop := ∀ r i j, ¬ but ⟨r, i, j⟩ → t.rdW r i j = s.rdW r i j

/-- Every byte of memory reads as before. -/
def State.memSame (s t : State) : Prop := ∀ a, t.mb a = s.mb a

/-- Every byte of memory outside n bytes from address a reads as before. -/
def State.memBut (s t : State) (a n : Nat) : Prop := ∀ x, (x < a ∨ a + n ≤ x) → t.mb x = s.mb x

/-- Nothing changes but the named fields and parts; memory is untouched. -/
def State.only (s t : State) (fields : List Reg) (parts : List Part) : Prop :=
  s.regsBut t fields ∧ s.memSame t ∧ s.keeps t parts

/-- Event n has been raised once: it is pending as an interrupt source and has taken the source's next sequence number
(R364, R369). Before step 5 is released there is no event controller. -/
def State.raised (s t : State) (n : Nat) : Prop :=
  s.up 5 = true → NSet.has n t.ev.edge = true ∧ NTab.get 0 n t.ev.seq = (NTab.get 0 n s.ev.seq + 1) % 2 ^ 32

/-- Event n has been raised, and where it is recorded its entry, with the data carried, went to the end of the recorder's
queue (R369, R373). -/
def State.recorded (s t : State) (n : Nat) (items : List (Nat × Nat)) : Prop :=
  s.raised t n ∧
  (s.up 5 = true → s.bit .EVC_REC_EN n = true → s.ev.run = none → s.ev.queue.length < 512 →
    t.ev.queue = s.ev.queue ++ [⟨n, NTab.get 0 n s.ev.seq, false, (pack items).2, (pack items).1, s.rd .EREC_OPTIME_OPTIME,
      s.rd .EREC_PCYC_PCYC⟩])

/-- BUF_STAT.GUARD tells whether a command waits for credits (R242). -/
def State.guardTells (s : State) : Prop := s.bit .BUF_STAT_GUARD = s.hif.cmds.any Cmd.waits

/-- The command of a tag is started, and an entry is posted when it ends. -/
def State.runs (s : State) (tag : Nat) (c : Cmd) : Prop := s.started? tag = some c ∧ c.silent = false

/-- Firmware carries this command out and may complete it: it is started, nothing ends it, and no block of it was lost. -/
def State.carries (s : State) (tag : Nat) (c : Cmd) : Prop :=
  s.cmd? tag = some c ∧ c.st = .started ∧ c.silent = false ∧ c.ended = false ∧ c.errLba = none

/-- The command is completed, with a status and two dwords. -/
def State.done (s : State) (tag st d0 d1 : Nat) : Prop :=
  ∃ c, s.cmd? tag = some c ∧ c.st = .completed ∧ c.cpl = some (st, d0, d1)

/-- Only the named fields of head h, its engine, its channel and the listed parts may differ: the other heads' engines and
channels are left alone (R21). Memory is said apart. -/
def State.headBut (s t : State) (h : Nat) (fields : List Reg) (parts : List Part) : Prop :=
  s.keysBut t (fun k => k.reg ∈ fields ∧ k.i = h) ∧ s.keeps t ([.hses, .chans] ++ parts) ∧
    ∀ g, g ≠ h → t.hse g = s.hse g ∧ t.chan g = s.chan g

/-- As headBut, and memory is untouched. -/
def State.headOnly (s t : State) (h : Nat) (fields : List Reg) (parts : List Part) : Prop :=
  s.headBut t h fields parts ∧ s.memSame t

/-- A cause of vector v is pending at head h, or has halted the engine as NESTED (R148). -/
def State.caused (t : State) (h v : Nat) : Prop :=
  t.rdBit .HSE_TPEND_PEND v h = true ∨ t.rd .HSE_STAT_HALTC h = 5

/-- The block and instance that a code of Table 2-6 selects; OCE, FRC and DMA reset with all their instances. -/
def softBlock (sel : Nat) (b : Blk) (i : Nat) : Prop :=
  (b = .HSE ∧ sel < 24 ∧ i = sel) ∨ (b = .CHAN ∧ 0x20 ≤ sel ∧ sel < 0x38 ∧ i = sel - 0x20) ∨
    (b = .SCE ∧ 0x40 ≤ sel ∧ sel < 0x45 ∧ i = sel - 0x40) ∨ (b = .OCE ∧ sel = 0x50) ∨ (b = .FRC ∧ sel = 0x51) ∨ (b = .DMA ∧ sel = 0x52)

/-- The nanoword of the microword at UPC. -/
def State.curNano (s : State) (h : Nat) : Nat := s.nanoAt h (mwNano (s.curWord h))

/-- The state after the actions of the microword at UPC. -/
def State.acted (s : State) (h : Nat) : State :=
  let s' := s.latchNano h (s.curNano h)
  (s'.setHse h { s'.hse h with waiting := false, stalled := false }).actions h (s.curNano h)

/-- The microword at UPC has SEQ k and goes through: no breakpoint stands before it, its nanoword holds no reserved value, it
does not stall, and the engine is not halted by it or stopping. -/
def State.executes (s : State) (h k : Nat) : Prop :=
  s.ready h k = true ∧ nanoBad (s.curNano h) = false ∧ s.stalls h (s.curNano h) = false ∧
    (s.acted h).running h = true ∧ ((s.acted h).hse h).stopping = false

/-- Every byte of memory reads as before but the state word in the context entries of the commands there are (R253). -/
def State.ctxBut (s t : State) : Prop :=
  ∀ x, (∀ c ∈ s.hif.cmds, x < ctxAddr c.tag + 8 ∨ ctxAddr c.tag + 12 ≤ x) → t.mb x = s.mb x

/-- The zone records are in canonical form. -/
def State.zonesWf (s : State) : Prop := Tab.wf natLt (fun _ => ({} : Zone)) s.hif.zones = true

/-- No event request of a controller is the command of this tag. -/
def State.noRequest (s : State) (tag : Nat) : Prop := ∀ f, tag ∉ (s.ctrl f).aers

/-- Of the medium only the copies of the zone records in the system areas may differ (R304). -/
def State.zoneCopies (s t : State) : Prop :=
  t.med = { s.med with areas := t.med.areas } ∧
    ∀ k, NTab.get {} k t.med.areas = { NTab.get {} k s.med.areas with zones := (NTab.get {} k t.med.areas).zones }

/-- Only the registers, the context entries and the copies of the zone records that completing commands touches, and the listed
parts, may differ. -/
def State.completing (s t : State) (parts : List Part) : Prop :=
  s.regsBut t [.BUF_FREE_FREE, .BUF_STAT_POVF, .BUF_STAT_GUARD] ∧ s.ctxBut t ∧ s.keeps t (.med :: parts) ∧
    (.med ∈ parts ∨ s.zoneCopies t)

/-- Only what an opening of the pass writes may differ: its fields, and the count and record kept in MRAM (R328). -/
def State.opening (s t : State) : Prop :=
  s.regsBut t [.PSW_PASS_STATE, .PSW_PASS_PENDING] ∧ s.keeps t [.ev, .psw] ∧ ∀ x, (x < passCntAt ∨ passCntAt + 4 ≤ x) → (x < passRecAt ∨ passRecAt + 4 ≤ x) → t.mb x = s.mb x

/-- What the module has sent outside since s, oldest first. -/
def State.sent (s t : State) (l : List Out) : Prop := t.out = s.out ++ l

/-- Fields that a change of the spindle's tier, and a notice to the host, may write. -/
def tierRegs : List Reg :=
  [.SPN_TGT_TGT, .SPN_STAT_CLAMPED, .SPN_RATIO_READY, .SPN_STAT_LOCK, .SPN_STAT_STATE, .SPN_STAT_ATTEMPT, .SPN_STAT_FAIL,
   .SPN_STAT_HLHOLD, .SCE_BANKSEL_ACTIVE, .SCE_BANKSEL_PENDING, .BUF_FREE_FREE, .BUF_STAT_POVF, .BUF_STAT_GUARD]

/-- A transaction on the fabric. -/
def Out.onBus : Out → Bool
  | .fabric _ => true
  | _ => false

/-- What the module has sent outside since s, oldest first, after frames on its fabric. -/
def State.sentOn (s t : State) (l : List Out) : Prop := ∃ f : List Out, (∀ o ∈ f, o.onBus = true) ∧ t.out = s.out ++ f ++ l

/-- Hart c has taken an exception: its cause, mtval and mepc; machine mode runs, the mode and the interrupt enable it left are in
MPP and MPIE, and interrupts are off. Nothing else of the control complex has changed. -/
structure State.Trapped (s t : State) (c cause tval pc : Nat) : Prop where
  cause : t.csr c csrMcause = cause % 2 ^ 64
  tval : t.csr c csrMtval = tval % 2 ^ 64
  pc : t.csr c csrMepc = pc % 2 ^ 64
  mode : (t.hart c).user = false
  left : bitsN (t.csr c csrMstatus) 11 2 = if (s.hart c).user then 0 else 3
  masked : (t.csr c csrMstatus).testBit 3 = false
  enable : (t.csr c csrMstatus).testBit 7 = (s.csr c csrMstatus).testBit 3
  csrs : ∀ n, n ∉ [csrMcause, csrMtval, csrMepc, csrMstatus] → t.csr c n = s.csr c n
  caches : (t.hart c).dcache = (s.hart c).dcache ∧ (t.hart c).icache = (s.hart c).icache
  others : ∀ d, d ≠ c → t.hart d = s.hart d
  rest : t.l2 = { s.l2 with harts := t.l2.harts }

/-- The shared cache is well formed: lines of 64 bytes, each in the set of its address, no two of one address or of one way, and
dirty ones in memory that can be written. -/
structure State.CacheWf (s : State) : Prop where
  line : ∀ l ∈ s.l2.lines, l.data.length = 64 ∧ l.addr % 64 = 0 ∧ l.set = setOf l.addr ∧
    (l.dirty = true → inSram l.addr 64 = true ∨ inBuf l.addr 64 = true)
  apart : s.l2.lines.Pairwise (fun x y => x.addr ≠ y.addr ∧ ¬ (x.set = y.set ∧ x.way = y.way))

/-- The line of an address, where the cache holds it clean, is as memory is: no engine has written it since. -/
def State.freshAt (s : State) (a : Nat) : Prop :=
  ∀ l, s.lineAt (lineAddr a) = some l → l.dirty = false → l.data = s.mbs l.addr 64

/-- Fields of which some written value has a row of the opcode table. -/
def rowRegs : List Reg :=
  [.RST_OUT_PULSE, .RST_RUNOK_RUNOK, .RST_BLK_GO, .EVC_RAISE_SRC, .EVC_CLAIM_SRC, .EVC_MSIP_MSIP, .EREC_CTL_HOLD, .L2_CTL_EN,
   .L2_LOCK_WAYS, .L2_INVR_GO, .AGE_VOUT_VOUT, .AGE_FSTAT_LASTING, .HSE_CTL_RUN, .HSE_DOORBELL_CMD, .HSE_DOORBELL_ABORT,
   .HSE_CQPTR_TAIL, .CHAN_CTL_EN, .CHAN_CTL_CLRSTAT, .CHAN_RATE_ZRATE, .CHAN_RDEC_GO, .SCE_CTL_RUN, .SCE_CTL_LOAD,
   .SCE_CTL_UNLOAD, .SCE_BANKSEL_SWAP, .SCE_CTGT_CTGT, .SPN_CTL_COGEN, .SPN_CTL_TAKE, .SPN_CTL_CLROV, .SPN_CTL_CLRCHOP,
   .SPN_TGT_TGT, .OCE_CMD_OP, .GCTX_SETRD, .DMA_CTL_EN, .DMA_SWREQ_LINE, .DMA_CHCTL_EN, .DMA_CHCTL_STOP, .BUF_CTL_PLOCK,
   .BUF_CTL_RETRAIN, .BUF_PRET_UNITS, .FRC_KCMD_OP, .FRC_LCTL_GO, .HIF_CPL_CMDTAG, .HIF_LREL_OP, .HIF_XFER_CMDTAG,
   .PSW_PASS_OPEN, .PSW_PASS_CLOSE, .HL_CMD_REQ]

end Sys2Proof.Machine
end

