-- ==== Sys2Proof/Certificates/Slice0/Obligations.lean ====
section
/-! DEFINITION. Certificates/Slice0/Obligations.lean: the statements for the provers. -/

open Sys2Proof Sys2Proof.Machine

/-- A step takes the command at the front of the queue and runs it with the queue's rest. For every command c, rest of
queue and state s whose queue is c followed by the rest, step answers what exec answers for c on s with only the rest
waiting. On an empty queue the step idles and goes on (log entry 3, the model's choice). -/
def Obligations.StepRunsTheFrontCommand : Prop :=
  (∀ (c : Instr) (rest : List Instr) (s : State), s.pending = c :: rest → step s = exec c { s with pending := rest }) ∧
  ∀ s : State, s.pending = [] → step s = idle s ∧ s.Steps

/-- No command ends a run: each answers a next state and leaves the queue of waiting commands alone. For every command
c and every state s there is a next state t that exec answers for c on s, and the commands waiting in t are those
waiting in s. That a command which arrives off its occasion still answers a next state, one that changes nothing, is
the model's choice (log entry 6); the spec does not state it. -/
def Obligations.EveryCommandGoesOnAndLeavesTheQueueAlone : Prop :=
  ∀ (c : Instr) (s : State), ∃ t, exec c s = .next t ∧ t.pending = s.pending

/-- Memory and registers at reset are in their canonical form. The memory list and the register list of the state at
reset are in canonical form: keys strictly rising, nothing listed at the value an unlisted key reads as, and no field
listed with more than its width. -/
def Obligations.ResetStateIsCanonical : Prop :=
  State.reset.Canonical

/-- Every step keeps memory and registers in their canonical form. For every state s whose memory and register lists
are in canonical form, with any command in front, if step answers a next state t, then the lists of t are in canonical
form, so that equal contents stay equal data and no field ever holds more than its width. -/
def Obligations.EveryStepKeepsTheCanonicalForm : Prop :=
  ∀ s t : State, s.Canonical → step s = .next t → t.Canonical

/-- No command but power-on and SYSRST_N takes the module back in its release sequence. For every state s and every
command other than the two reset sources (POWER_ON_RESET and SYSRST_N_ASSERT), if exec answers a next state t, then no
release step released in s is taken back in t, and the level of the start in force is the same. -/
def Obligations.OnlyTheTwoSourcesResetTheModule : Prop :=
  ∀ (c : Instr) (s t : State), c ≠ .powerOnReset → (∀ p, c ≠ .sysrstNAssert p) → exec c s = .next t →
    s.rst.step ≤ t.rst.step ∧ t.rst.level = s.rst.level ∧ (s.rst.por = false → t.rst.por = false)

/-- A power-on reset is level L0: every field but those of reach kept returns to its reset value. With power-on not
yet asserted, POWER_ON_RESET answers a next state in which the level is L0, no release step has run, no RSTOUT_N pulse
is left, every register field of reach L0, L1 or L2 reads its reset value, every field of reach kept and every byte of
MRAM reads as before, and every engine is in its reset state. POWER_ON_RELEASE then takes the source away and changes
nothing else but whether XSYS is found to oscillate. A source that is asserted already, or that is not asserted when
it is released, changes nothing (log entry 6, the model's choice). Where XSYS does not oscillate, nothing is released
after it. Choices of the model it rests on: log entries 4, 14, 111. -/
def Obligations.PowerOnResetIsColdAndKeepsOnlyKeptFields : Prop :=
  (∀ s : State, s.rst.por = false → ∃ t, exec .powerOnReset s = .next t ∧
    t.rst.por = true ∧ t.rst.tookPor = true ∧ t.rst.level = 0 ∧ t.rst.step = 0 ∧ t.rst.pulse = none ∧
    (∀ r i j, r.info.reach ≠ .kept → t.rdW r i j = RKey.dflt ⟨r, i, j⟩) ∧
    (∀ r i j, r.info.reach = .kept → t.rdW r i j = s.rdW r i j) ∧
    (∀ a, 0x01000000 ≤ a → a < 0x01010000 → t.mb a = s.mb a) ∧
    t.hses = [] ∧ t.chans = [] ∧ t.arms = [] ∧ t.ev = {} ∧ t.l2 = {} ∧ t.oce = {} ∧ t.dma = {} ∧ t.frc = {} ∧ t.spn = {}) ∧
  (∀ (x : Bool) (s : State), s.rst.por = true → ∃ t, exec (.powerOnRelease x) s = .next t ∧
    t.rst = { s.rst with por := false, xsys := x } ∧ s.only t [] [.rst]) ∧
  (∀ (b : Bool) (s : State), s.rst.xsys = false → exec (.releaseStep b) s = .next s) ∧
  ∀ s : State, (s.rst.por = true → exec .powerOnReset s = .next s) ∧ ∀ x, s.rst.por = false → exec (.powerOnRelease x) s = .next s

/-- SYSRST_N resets at the fused level, or deeper with a start it meets; inside the loader window it restarts the
loader. With no source asserted and outside the loader window, SYSRST_N_ASSERT answers a next state whose level is the
fused one, or the deeper of it and that of the start under way when step 10 has not been released; the sequence starts
again; every field within the level's reach but the spindle state reads its reset value, and every field beyond it but
the speed hold and the permit causes, and every byte of MRAM, reads as before. SYSRST_N_RELEASE outside a pulse takes
the source away. With step 6 released, the controller die clocked and no failed start recorded, SYSRST_N_ASSERT
answers a next state in which the released steps stay released, XSPI_RESET_N is low, what the loader had placed up to
the partition it was reading stays and nothing but RST_STAT, LDR_STAT and the entry fields changes beside,
RST_STAT.LEVEL reads 3 and event 296 is recorded with the copy and that partition. With power-on asserted it only
marks its source, and while the pin is asserted already it changes nothing (log entry 6, the model's choice). Once
SYSRST_N is high again XSPI_RESET_N rises, and when the gap G6 has run, LOADER_RESTART_START begins at copy A, unless
BOOT_TRIES or a failed training takes the loader to recovery mode. Choices of the model it rests on: log entries 4, 6,
13, 14, 98, 111. -/
def Obligations.PinResetTakesTheFusedLevel : Prop :=
  (∀ (p : BitVec 4) (s : State), s.rst.por = false → s.rst.pin = false → ¬(s.rst.step = 6 ∧ s.rst.failed = false ∧ s.rst.xsys = true) →
    ∃ t, exec (.sysrstNAssert p) s = .next t ∧ t.rst.pin = true ∧ t.rst.tookPin = true ∧ t.rst.step = 0 ∧
      t.rst.level = toLevel (if s.rst.step < 10 ∧ s.rst.failed = false then min s.rst.level.val s.pinLevel else s.pinLevel) ∧
      t.rst.pulse = s.rst.pulse ∧
      (∀ r i j, survives t.rst.level.val r.info.reach = false → r ≠ .SPN_STAT_STATE → t.rdW r i j = RKey.dflt ⟨r, i, j⟩) ∧
      (∀ r i j, survives t.rst.level.val r.info.reach = true →
        r ∉ [.SPN_HOLD_SPD, .SPN_HOLD_ICMD, .SPN_HOLD_ACTIVE, .SPN_WP_CAUSE] → t.rdW r i j = s.rdW r i j) ∧
      (∀ a, 0x01000000 ≤ a → a < 0x01010000 → t.mb a = s.mb a)) ∧
  (∀ (x : Bool) (s : State), s.rst.pin = true → (s.rst.pulse = none ∨ s.rst.pulseSeen = false) →
    ∃ t, exec (.sysrstNRelease x) s = .next t ∧ t.rst.pin = false ∧ t.rst.xsys = x ∧ s.only t [] [.rst] ∧
      (s.rst.step = 6 → s.rst.restarted = true → s.rst.failed = false → t.rst.xspi = true ∧ t.rst.restartGap = true)) ∧
  (∀ (p : BitVec 4) (s : State), s.rst.pin = false → s.rst.por = true → ∃ t, exec (.sysrstNAssert p) s = .next t ∧
    t.rst.pin = true ∧ t.rst.tookPin = true ∧ t.rst.por = true ∧ t.rst.step = s.rst.step ∧ s.only t [] [.rst]) ∧
  (∀ (p : BitVec 4) (s : State), s.rst.pin = true → exec (.sysrstNAssert p) s = .next s) ∧
  (∀ (p : BitVec 4) (s : State), s.rst.por = false → s.rst.pin = false → s.rst.step = 6 → s.rst.failed = false → s.rst.xsys = true →
    let u := match s.readingPart p.toNat with | some l => s.place l.placed | none => s
    ∃ t, exec (.sysrstNAssert p) s = .next t ∧ t.rst.step = 6 ∧ t.rst.pin = true ∧ t.rst.restarted = true ∧ t.rst.copyB = false ∧
      t.rst.xspi = false ∧ t.rd .RST_STAT_LEVEL = 3 ∧
      u.recorded t 296 [(1, b2n s.rst.copyB), (1, if (s.readingPart p.toNat).isSome then p.toNat else 0)] ∧
      u.only t [.RST_STAT_LEVEL, .RST_STAT_SRC_POR, .RST_STAT_SRC_PIN, .RST_STAT_SRC_OUT, .RST_STAT_COPY, .RST_STAT_RECOVERY,
        .LDR_STAT_REASONA, .LDR_STAT_REASONB, .LDR_STAT_PART, .LDR_STAT_CALEMPTY, .LDR_ENTRY_ENTRY, .LDR_SECVER_SECVER,
        .LDR_SECMIN_SECMIN] [.rst, .ev]) ∧
  ∀ s : State, s.rst.xsys = true → s.rst.restartGap = true → s.rst.por = false → s.rst.pin = false →
    s.rd .BOOT_TRIES_TRIES < s.rd .RST_FUSE_BOOT_LIMIT → s.rst.buffail = false →
    ∃ t, exec .loaderRestartStart s = .next t ∧ t.rst.restartGap = false ∧ t.rst.copyB = false ∧ t.rst.done = false ∧
      t.rst.recovery = false ∧ s.only t [] [.rst]

/-- A level reset discards a soft reset that is requested or in progress. In the state after an accepted power-on
reset, and after an accepted SYSRST_N assertion outside the loader window, no soft reset is in progress and RST_BLK
reads 0 in each of its fields, whatever soft reset ran before; the selected block's fields of reach L2 read their
reset values. -/
def Obligations.LevelResetDiscardsSoftReset : Prop :=
  ∀ s : State, s.rst.por = false → s.rst.pin = false → ¬(s.rst.step = 6 ∧ s.rst.failed = false ∧ s.rst.xsys = true) →
    ∀ p, ∀ c ∈ ([.powerOnReset, .sysrstNAssert p] : List Instr), ∃ t, exec c s = .next t ∧ t.rst.soft = none ∧
      t.rd .RST_BLK_SEL = 0 ∧ t.rd .RST_BLK_GO = 0 ∧ t.rd .RST_BLK_BUSY = 0 ∧
      ∀ r i j, r.info.reach = .L2 → r ≠ .SPN_STAT_STATE → t.rdW r i j = RKey.dflt ⟨r, i, j⟩

/-- Release steps run one after the other; a step that does not complete retries, halts or is passed over as Table 2-2
says. With no source asserted, no halt, and the step at hand complete (or none yet), RELEASE_STEP answers a next state
with the next step released; at step 7 outside recovery BOOT_TRIES counts up, saturating at 7, and RWL fields lock.
The release of step 5 starts the recorder: from the valid control block of the higher VER it takes PCYC, one more
after a power-on not counted yet, STARTS, one more, and OPTIME. The release of step 6 enters recovery mode with event
295 where BOOT_TRIES has reached BOOT_LIMIT or a training failed, and otherwise begins at copy A.
RELEASE_STEP_COMPLETE completes the step at hand; it leaves memory alone but at step 4 of a cold start and, at step 2,
for the record of a close of cause 6. At step 7 the harts start at the reset vector, hart 0 goes on to LDR_ENTRY
outside recovery mode, and it alone runs. Beyond its bound, step 2 or 3 tries again up to three attempts and then
halts, writing BOOT_CAUSE.HALT, step 5 halts, step 4 sets BOOT_CAUSE.BUFFAIL and goes on, and step 6 fails the copy at
hand as a read timeout; before the last BOOT_TRIES does not change. Choices of the model it rests on: log entries 6,
93, 111. -/
def Obligations.ReleaseStepsFollowTheirOrder : Prop :=
  (∀ (ok : Bool) (s : State), s.sequence = true → s.rst.step < 10 → (s.rst.step = 0 ∨ s.rst.done = true) →
    ∃ t, exec (.releaseStep ok) s = .next t ∧ t.rst.step = s.rst.step + 1 ∧
      (s.rst.step = 4 → s.blockValid 0 = true ∨ s.blockValid 1 = true →
        let b := blockAddr (if s.blockValid 0 = true ∧ (s.blockValid 1 = false ∨ s.mrd 4 (blockAddr 1) ≤ s.mrd 4 (blockAddr 0)) then 0 else 1)
        t.rst.counted = s.rst.tookPor ∧ t.rd .EREC_PCYC_PCYC = (s.mrd 4 (b + 12) + b2n (s.rst.tookPor && !s.rst.counted)) % 2 ^ 32 ∧
          t.rd .EREC_STARTS_STARTS = (s.mrd 4 (b + 16) + 1) % 2 ^ 32 ∧ t.rd .EREC_OPTIME_OPTIME = s.mrd 8 (b + 24)) ∧
      (s.rst.step = 5 → t.rst.xspi = true ∧ t.rst.entry = 0 ∧
        ((s.rd .RST_FUSE_BOOT_LIMIT ≤ s.rd .BOOT_TRIES_TRIES ∨ s.rst.buffail = true) →
          t.rst.recovery = true ∧ t.rst.done = true ∧ t.rst.copy = 3 ∧
            s.recorded t 295 [(1, s.rd .BOOT_TRIES_TRIES), (1, b2n s.rst.buffail)]) ∧
        (s.rd .BOOT_TRIES_TRIES < s.rd .RST_FUSE_BOOT_LIMIT → s.rst.buffail = false →
          t.rst.recovery = false ∧ t.rst.done = false ∧ t.rst.copyB = false ∧ s.only t [] [.rst])) ∧
      (s.rst.step = 6 → s.rst.recovery = false → t.rst.locked = true ∧ t.rst.window = true ∧
        t.rd .BOOT_TRIES_TRIES = min 7 (s.rd .BOOT_TRIES_TRIES + 1))) ∧
  (∀ (eye : Word) (s : State), s.sequence = true → s.rst.done = false → s.rst.step ≠ 0 → s.rst.step ≠ 6 →
    ∃ t, exec (.releaseStepComplete eye) s = .next t ∧ t.rst = { s.rst with done := true } ∧
      s.regsBut t [.CLK_STAT_LOCK, .BUF_STAT_TRAINED, .L2_STAT_INITBUSY, .SPN_SHK_BIASA, .SPN_SHK_BIASB] ∧
      (s.rst.step = 2 → t.pwr.link = true ∧ t.pwr.core = true ∧ s.memBut t passRecAt 4 ∧
        (s.pwr.close6 = true → t.passFlag = false ∧ t.passCause = 6)) ∧
      (s.rst.step = 7 → NSet.has 0 t.l2.awake = true ∧
        s.sent t ((List.range 8).map (fun c => .hartStart c 0) ++ if s.rst.recovery = true then [] else [.hartJump 0 s.rst.entry 0])) ∧
      (¬(s.rst.step = 2 ∧ s.pwr.close6 = true) → ¬(s.rst.step = 4 ∧ s.rst.level = 0) → s.memSame t)) ∧
  (∀ (c x : Byte) (p : BitVec 4) (s : State), s.rst.halted = false → s.rst.step = 6 → s.loading = true → (s.readingPart p.toNat).isSome = true →
    ∃ t, exec (.releaseStepTimeout c x p) s = .next t ∧
      (s.rst.copyB = false → t.rst.reasonA = 9 ∧ t.rst.copyB = true ∧ t.rst.failed = false) ∧
      (s.rst.copyB = true → t.rst.reasonB = 9 ∧ t.rst.failed = true)) ∧
  ∀ (c x : Byte) (p : BitVec 4) (s : State), s.sequence = true → s.rst.done = false → s.rst.step ∈ [2, 3, 4, 5] →
    ∃ t, exec (.releaseStepTimeout c x p) s = .next t ∧ s.memSame t ∧
      s.regsBut t [.BOOT_CAUSE_COPYA, .BOOT_CAUSE_COPYB, .BOOT_CAUSE_WINDOW, .BOOT_CAUSE_BUFFAIL, .BOOT_CAUSE_HALT] ∧
      (s.rst.step = 4 → t.rst.done = true ∧ t.rst.buffail = true ∧ t.bit .BOOT_CAUSE_BUFFAIL = true) ∧
      (s.rst.step = 5 → t.rst.halted = true ∧ t.rd .BOOT_CAUSE_HALT = 5) ∧
      (s.rst.step = 2 ∨ s.rst.step = 3 → s.rst.attempts < 3 → t.rst.attempts = s.rst.attempts + 1 ∧ t.rst.halted = s.rst.halted) ∧
      (s.rst.step = 2 ∨ s.rst.step = 3 → 3 ≤ s.rst.attempts → t.rst.halted = true ∧ t.rd .BOOT_CAUSE_HALT = s.rst.step)

/-- A copy that passes completes step 6; copy A failing makes the loader try copy B; both failing counts a failed
start. While the loader works on a copy, LOAD_COPY_DONE answers a next state: where the copy passes every check, step
6 is complete with that copy's entry and version; where copy A fails, event 298 is raised and copy B is tried; where
copy B fails too, event 294 is raised, BOOT_TRIES counts up, saturating at 7, and the start has failed.
NOR_READ_TIMEOUT at a partition that the loader reads then (the checks before it have passed) fails the copy with the
reason of a read timeout and that partition, and changes nothing at another. Off its occasion a row changes nothing
(log entry 6, the model's choice). Other choices of the model it rests on: log entries 9, 17, 97. -/
def Obligations.LoaderTriesCopyAThenCopyB : Prop :=
  (∀ s : State, s.loading = true → ∃ t, exec .loadCopyDone s = .next t ∧
    (((s.loadOf (s.copyImg s.rst.copyB) true).reason = 0 → t.rst.done = true ∧ t.rst.copy = b2n s.rst.copyB ∧
        t.rst.entry = (s.copyImg s.rst.copyB).num 8 0x18 ∧ t.rst.secver = (s.copyImg s.rst.copyB).num 4 8)) ∧
    ((s.loadOf (s.copyImg s.rst.copyB) true).reason ≠ 0 → s.rst.copyB = false → t.rst.copyB = true ∧ t.rst.failed = s.rst.failed ∧
        s.raised t 298 ∧
        t.rst.reasonA = (s.loadOf (s.copyImg s.rst.copyB) true).reason) ∧
    ((s.loadOf (s.copyImg s.rst.copyB) true).reason ≠ 0 → s.rst.copyB = true → t.rst.failed = true ∧ s.raised t 294 ∧
        t.rst.reasonB = (s.loadOf (s.copyImg s.rst.copyB) true).reason ∧
        t.rd .BOOT_TRIES_TRIES = min 7 (s.rd .BOOT_TRIES_TRIES + 1))) ∧
  ∀ (p : BitVec 4) (s : State), (s.readingPart p.toNat = none → exec (.norReadTimeout p) s = .next s) ∧
    ∀ l, s.readingPart p.toNat = some l → ∃ t, exec (.norReadTimeout p) s = .next t ∧ t.rst.part = p.toNat ∧
      (s.rst.copyB = false → t.rst.reasonA = 9 ∧ t.rst.copyB = true ∧ t.rst.failed = false ∧ s.recorded t 298 [(1, 4)]) ∧
      (s.rst.copyB = true → t.rst.reasonB = 9 ∧ t.rst.failed = true ∧ s.raised t 294)

/-- RUN_OK clears BOOT_TRIES; an expired window pulses RSTOUT_N; firmware pulses it only with its key. While the
BOOT_WINDOW timer runs and the controller die is clocked, RST_RUNOK_WRITE with bit 0 set answers a next state with
BOOT_TRIES 0, RST_STAT.RUNOK 1 and the timer stopped, and raises the security minimum to the loaded version where that
is higher; only those fields and the loader page's four bytes change. BOOT_WINDOW_EXPIRE writes BOOT_CAUSE with WINDOW
1 and raises event 299 with BOOT_TRIES; WINDOW_RECORD_ACK_PULSE then starts the pulse unless one is in progress. Once
step 5 is released and with no pulse in progress, RST_OUT_PULSE with KEY 0xA5 and PULSE 1 starts the pulse and changes
nothing else; with another KEY, with PULSE 0, or during a pulse it changes nothing (log entry 6, the model's choice).
RSTOUT_PULSE_END of a pulse that SYSRST_N followed only ends it; otherwise RST_STAT.LOOP_OPEN is set and event 297 is
raised, and nothing else changes, but that a loader that neither copy served then enters recovery mode with event 295.
Choices of the model it rests on: log entry 16. -/
def Obligations.StartsAreCountedAndPulsesNeedTheirKey : Prop :=
  ((∀ (v : W32) (s : State), s.up 7 = true → v.toNat.testBit 0 = true → s.rst.window = true →
    ∃ t, exec (.rstRunokWrite v) s = .next t ∧ t.rst = { s.rst with window := false } ∧ t.rd .BOOT_TRIES_TRIES = 0 ∧
      t.rd .RST_STAT_RUNOK = 1 ∧ (s.secMin < s.rst.secver → t.rd .LDR_SECMIN_SECMIN = s.rst.secver % 2 ^ 32) ∧
      s.memBut t 0x0100FF00 4 ∧ (s.rst.secver ≤ s.secMin → s.memSame t) ∧ s.keeps t [.rst] ∧
      s.regsBut t [.BOOT_TRIES_TRIES, .RST_STAT_RUNOK, .LDR_SECMIN_SECMIN]) ∧
  (∀ s : State, s.rst.xsys = true → s.rst.window = true → ∃ t, exec .bootWindowExpire s = .next t ∧
    t.rst = { s.rst with window := false, windowAck := true } ∧ t.rd .BOOT_CAUSE_WINDOW = 1 ∧ t.rd .BOOT_CAUSE_HALT = 0 ∧
    s.recorded t 299 [(1, s.rd .BOOT_TRIES_TRIES)] ∧
    s.only t [.BOOT_CAUSE_COPYA, .BOOT_CAUSE_COPYB, .BOOT_CAUSE_WINDOW, .BOOT_CAUSE_BUFFAIL, .BOOT_CAUSE_HALT] [.rst, .ev]) ∧
  ∀ s : State, s.rst.xsys = true → s.rst.windowAck = true → s.rst.pulse = none → ∃ t, exec .windowRecordAckPulse s = .next t ∧
    t.rst = { s.rst with windowAck := false, pulse := some .window, pulseSeen := s.rst.pin } ∧ s.only t [] [.rst]) ∧
  ((∀ (v : W32) (s : State), s.up 5 = true → bitsN v.toNat 0 8 = 0xA5 → v.toNat.testBit 8 = true → s.rst.pulse = none →
    ∃ t, exec (.rstOutPulse v) s = .next t ∧ t.rst = { s.rst with pulse := some .firmware, pulseSeen := s.rst.pin } ∧
      s.only t [] [.rst]) ∧
  (∀ (v : W32) (s : State), (bitsN v.toNat 0 8 ≠ 0xA5 ∨ v.toNat.testBit 8 = false ∨ s.rst.pulse ≠ none) →
    exec (.rstOutPulse v) s = .next s) ∧
  (∀ (p : PulseCause) (s : State), s.rst.pulse = some p → s.rst.pulseSeen = true →
    ∃ t, exec .rstoutPulseEnd s = .next t ∧ t.rst = { s.rst with pulse := none, pulseSeen := false } ∧ s.only t [] [.rst]) ∧
  (∀ s : State, s.rst.pulse = some .loader → s.rst.pulseSeen = false → s.rst.step = 6 → s.rst.failed = true →
    ∃ t, exec .rstoutPulseEnd s = .next t ∧ t.rst.pulse = none ∧ t.rst.recovery = true ∧ t.rst.done = true ∧
      t.rd .RST_STAT_LOOP_OPEN = 1 ∧ s.raised t 297 ∧ s.raised t 295 ∧ s.only t [.RST_STAT_LOOP_OPEN] [.rst, .ev]) ∧
  ∀ (p : PulseCause) (s : State), s.rst.pulse = some p → s.rst.pulseSeen = false → ¬(p = .loader ∧ s.rst.step = 6 ∧ s.rst.failed = true) →
    ∃ t, exec .rstoutPulseEnd s = .next t ∧ t.rst = { s.rst with pulse := none, pulseSeen := false } ∧
      t.rd .RST_STAT_LOOP_OPEN = 1 ∧ s.recorded t 297 [(1, p.code)] ∧ s.only t [.RST_STAT_LOOP_OPEN] [.rst, .ev])

/-- A block soft reset is accepted from an idle block only, and returns the fields of reach L2 that are not RWL. Once
step 5 is released, RST_BLK_GO with GO 1 naming HSE[h] that is idle, while no soft reset runs, sets BUSY and returns
every field of HSE[h] of reach L2 that is not RWL to its reset value; every RWL field, every field of another engine
and every field of another block but RST_BLK reads as before, and memory outside the engine's command queue is as
before. The same holds of every other block of Table 2-6: its fields of reach L2 that are not RWL return, and no field
of another reach, or RWL, changes but the write permit and its causes. Where the block is not idle, has no code or
BUSY is 1, the request is refused: RST_STAT.SRST_REFUSED is set, event 293 is raised, and only RST_BLK.SEL and that
flag change. SOFT_RESET_DONE clears BUSY. Choices of the model it rests on: log entry 86. -/
def Obligations.SoftResetNeedsAnIdleBlock : Prop :=
  (∀ (v : W32) (s : State), s.up 5 = true → v.toNat.testBit 8 = true → bitsN v.toNat 0 8 < 24 →
    s.softIdle (bitsN v.toNat 0 8) = some true → s.bit .RST_BLK_BUSY = false →
    ∃ t, exec (.rstBlkGo v) s = .next t ∧ t.bit .RST_BLK_BUSY = true ∧ t.rst.soft = some (bitsN v.toNat 0 8) ∧
      (∀ r j, r.info.blk = .HSE → r.info.reach = .L2 → r.info.acc ≠ .RWL →
        t.rdW r (bitsN v.toNat 0 8) j = RKey.dflt ⟨r, bitsN v.toNat 0 8, j⟩) ∧
      (∀ r i j, r.info.blk ≠ .HSE ∨ i ≠ bitsN v.toNat 0 8 ∨ r.info.acc = .RWL → r ∉ [.RST_BLK_SEL, .RST_BLK_BUSY] → t.rdW r i j = s.rdW r i j) ∧
      s.memBut t (hseBase (bitsN v.toNat 0 8) + 0x400) 0x200 ∧ s.keeps t [.rst, .hses]) ∧
  (∀ (v : W32) (s : State), s.up 5 = true → v.toNat.testBit 8 = true → s.softIdle (bitsN v.toNat 0 8) = some true →
    s.bit .RST_BLK_BUSY = false → ∃ t, exec (.rstBlkGo v) s = .next t ∧ t.bit .RST_BLK_BUSY = true ∧
      t.rst.soft = some (bitsN v.toNat 0 8) ∧
      (∀ b i, softBlock (bitsN v.toNat 0 8) b i → ∀ r j, r.info.blk = b → r.info.reach = .L2 → r.info.acc ≠ .RWL →
        t.rdW r i j = RKey.dflt ⟨r, i, j⟩) ∧
      (∀ r i j, r.info.reach ≠ .L2 ∨ r.info.acc = .RWL → r ∉ [.RST_BLK_SEL, .RST_BLK_BUSY, .SPN_WP_WP, .SPN_WP_CAUSE] →
        t.rdW r i j = s.rdW r i j)) ∧
  (∀ (v : W32) (s : State), s.up 5 = true → v.toNat.testBit 8 = true →
    (s.softIdle (bitsN v.toNat 0 8) ≠ some true ∨ s.bit .RST_BLK_BUSY = true) →
    ∃ t, exec (.rstBlkGo v) s = .next t ∧ t.rd .RST_STAT_SRST_REFUSED = 1 ∧ s.raised t 293 ∧
      s.only t [.RST_BLK_SEL, .RST_STAT_SRST_REFUSED] [.ev]) ∧
  ∀ s : State, s.rst.soft ≠ none → ∃ t, exec .softResetDone s = .next t ∧ t.rd .RST_BLK_BUSY = 0 ∧
    t.rst = { s.rst with soft := none } ∧ s.only t [.RST_BLK_BUSY] [.rst]

/-- A calibration set is checked, then written to the copy not loaded and to the loaded copy. A carried Calibration
Set Write whose CDW11 is not the guard, whose set is neither of the right form nor of the right CRC, whose dword count
does not fit it, or that belongs to another drive, completes with Invalid Field in Command and leaves the NOR and its
queue alone. Every other one queues its two writes: with no NOR write running the write of the copy not loaded is at
the front, followed by that of the loaded copy, and otherwise the job waits behind the running one in admission order;
it does not complete yet (NOR_WRITE_COMPLETE ends it). Calibration Set Read sends the loaded copy's area as it stands
in the NOR, at most its 2 MiB, and completes successfully. Choices of the model it rests on: log entries 9, 20, 98. -/
def Obligations.CalibrationSetIsCheckedAndWrittenToBothCopies : Prop :=
  (∀ (tag : Tag) (data : List Byte) (c : Cmd) (s : State), s.carries tag.toNat c → c.sqid = 0 → c.e.opc = 0xC4 →
    (c.e.cdw11 ≠ 0x43414C31 ∨ (∀ n, calGood (data.take 64) (fun n => (data.drop 64).take n) ≠ .valid n) ∨
      ∃ n, calGood (data.take 64) (fun n => (data.drop 64).take n) = .valid n ∧
        (c.e.cdw10.toNat ≠ 16 + n / 4 ∨ data.length ≠ 64 + n ∨ s.otherDrive data = true)) →
    ∃ t, exec (.calibrationSetWrite tag data) s = .next t ∧ t.done tag.toNat scField 0 0 ∧ t.nor = s.nor ∧ t.norq = s.norq) ∧
  (∀ (tag : Tag) (data : List Byte) (n : Nat) (c : Cmd) (s : State), s.carries tag.toNat c → c.sqid = 0 → c.e.opc = 0xC4 →
    calGood (data.take 64) (fun n => (data.drop 64).take n) = .valid n → c.e.cdw11 = 0x43414C31 →
    c.e.cdw10.toNat = 16 + n / 4 → data.length = 64 + n → s.otherDrive data = false →
    ∃ t, exec (.calibrationSetWrite tag data) s = .next t ∧ s.only t [] [.norq] ∧
      (s.norq = [] → t.norq = [
        { kind := .calibration, tag := c.tag, seq := c.aseq, data := data, ops := [calOp (!(s.rst.copy == 1)) data,
          calOp (s.rst.copy == 1) data] }]) ∧
      ∀ f rest, s.norq = f :: rest → t.norq = f :: (rest.takeWhile (fun k => decide (k.seq ≤ c.aseq)) ++
        { kind := .calibration, tag := c.tag, seq := c.aseq, data := data } :: rest.dropWhile (fun k => decide (k.seq ≤ c.aseq)))) ∧
  ∀ (tag : Tag) (c : Cmd) (s : State), s.carries tag.toNat c → c.sqid = 0 → c.e.opc = 0xC5 →
    ∃ t, exec (.calibrationSetRead tag) s = .next t ∧ t.done tag.toNat 0 0 0 ∧
      s.sent t [.toHost tag.toNat ((s.copyImg (s.rst.copy == 1)).bytes 0x1E00000 (min 0x200000 (4 * c.e.cdw10.toNat)))] ∧
      t.nor = s.nor

/-- A NOR write erases the sectors its range touches, programs it and ends as its job says. When a write of the job at
the front reads back as written, NOR_WRITE_COMPLETE answers a next state in which every NOR byte outside the sectors
the range touches and outside the bytes programmed reads as before, every byte programmed holds its data (a later
run's where two overlap), and the rest of the erased sectors reads FFh. Where the job has another write, that is at
the front then and nothing else changes. Where it was the last, the command of the job completes: a fragment, a
calibration set and a plain commit successfully, a commit that a reset activates with Firmware Activation Requires NVM
Subsystem Reset, a recovery commit with success, BOOT_TRIES 0 and a pulse; one that activates begins the drain with
event 231; a self-calibration's write leaves its test to end. When the write does not read back, the rest of the job
is dropped, a command that waits for it completes with Internal Error, and for a calibration set event 315 is raised.
With nothing queued nothing happens (log entry 6, the model's choice). Choices of the model it rests on: log entries
5, 6, 9, 20, 98. -/
def Obligations.NorWritesEraseThenProgram : Prop :=
  (∀ (bad : W32) (s : State) (j : NorJob) (rest : List NorJob) (op : NorOp) (more : List NorOp),
    s.norq = j :: rest → j.ops = op :: more →
    ∃ t, exec (.norWriteComplete true bad) s = .next t ∧
      (∀ a, within (op.lo / max 1 Config.norSector * max 1 Config.norSector)
          ((op.hi + max 1 Config.norSector - 1) / max 1 Config.norSector * max 1 Config.norSector) a = false →
        (∀ p ∈ op.prog, a < p.1 ∨ p.1 + p.2.length ≤ a) → t.norB a = s.norB a) ∧
      (∀ a, t.norB a = op.prog.foldl (fun v p => if within p.1 (p.1 + p.2.length) a then p.2.getD (a - p.1) 0 else v)
        (if op.erase = true ∧ within (op.lo / max 1 Config.norSector * max 1 Config.norSector)
          ((op.hi + max 1 Config.norSector - 1) / max 1 Config.norSector * max 1 Config.norSector) a then 0xFF else s.norB a)) ∧
      (more ≠ [] → t.norq = { j with ops := more } :: rest ∧ s.only t [] [.nor, .norq]) ∧
      (more = [] → rest = [] → t.norq = []) ∧
      (more = [] → rest = [] → j.kind = .selfCal → s.only t [] [.nor, .norq]) ∧
      (more = [] → rest = [] → j.kind = .commitActivate → t.hif.drain = some j.tag ∧ s.raised t 231) ∧
      ∀ c, more = [] → s.carries j.tag c →
        (j.kind ∈ ([.fragment, .calibration, .commitPlain] : List NorKind) → t.done j.tag 0 0 0 ∧ (rest = [] → s.completing t [.nor, .norq, .hif, .ev])) ∧
        (j.kind = .commitReset ∨ j.kind = .commitCopy → t.done j.tag scFwReset 0 0 ∧
          (rest = [] → s.completing t [.nor, .norq, .hif, .ev])) ∧
        (j.kind = .commitRecovery → t.done j.tag 0 0 0 ∧ t.rd .BOOT_TRIES_TRIES = 0 ∧ t.rst.pulse.isSome = true)) ∧
  (∀ (bad : W32) (s : State) (j : NorJob) (rest : List NorJob) (op : NorOp) (more : List NorOp), s.norq = j :: rest → j.ops = op :: more →
    ∃ t, exec (.norWriteComplete false bad) s = .next t ∧ (∀ a, a < op.lo ∨ op.hi ≤ a → t.norB a = s.norB a) ∧
      (rest = [] → t.norq = []) ∧ (j.kind = .calibration ∨ j.kind = .selfCal → s.raised t 315) ∧
      ∀ c, s.carries j.tag c → t.done j.tag scInternal 0 0) ∧
  ∀ (ok : Bool) (bad : W32) (s : State), s.norq = [] → exec (.norWriteComplete ok bad) s = .next s

/-- Firmware Image Download stages its fragment; a later fragment overwrites an earlier one. A carried Firmware Image
Download whose fragment ends within 32 MiB stages what of it lies before the calibration area. Outside recovery mode
the staged image then holds its bytes there and elsewhere what it held, the command is completed successfully and the
NOR is as before. In recovery mode the fragment becomes a NOR write: with none running its erases and programs are at
the front and the fragment is part of the staged image, and otherwise it waits its turn; nothing else changes. A
fragment that ends beyond 32 MiB completes with Invalid Field in Command and stages nothing. Choices of the model it
rests on: log entries 20, 98. -/
def Obligations.DownloadStagesFragments : Prop :=
  (∀ (tag : Tag) (data : List Byte) (c : Cmd) (s : State), s.carries tag.toNat c → c.sqid = 0 → c.e.opc = 0x11 →
    s.rst.recovery = false → data.length = 4 * (c.e.cdw10.toNat + 1) → 4 * c.e.cdw11.toNat + data.length ≤ 0x2000000 →
    ∃ t, exec (.firmwareImageDownload tag data) s = .next t ∧ t.done tag.toNat 0 0 0 ∧ t.nor = s.nor ∧ t.norq = s.norq ∧
      (∀ k, k < data.length → 4 * c.e.cdw11.toNat + k < 0x1E00000 →
        NTab.get none (4 * c.e.cdw11.toNat + k) t.staged = some (data.getD k 0)) ∧
      (∀ a, a < 4 * c.e.cdw11.toNat ∨ 4 * c.e.cdw11.toNat + data.length ≤ a ∨ 0x1E00000 ≤ a →
        NTab.get none a t.staged = NTab.get none a s.staged)) ∧
  (∀ (tag : Tag) (data : List Byte) (c : Cmd) (s : State), s.carries tag.toNat c → c.sqid = 0 → c.e.opc = 0x11 →
    s.rst.recovery = true → data.length = 4 * (c.e.cdw10.toNat + 1) → 4 * c.e.cdw11.toNat + data.length ≤ 0x2000000 →
    ∃ t, exec (.firmwareImageDownload tag data) s = .next t ∧ s.nor = t.nor ∧
      (s.norq = [] → 4 * c.e.cdw11.toNat < 0x1E00000 → s.only t [] [.norq, .staged] ∧
        t.norq = [
          { kind := .fragment, tag := c.tag, seq := c.aseq, ofs := 4 * c.e.cdw11.toNat, data := data.take (0x1E00000 - 4 * c.e.cdw11.toNat),
            ops := s.fragmentOps (4 * c.e.cdw11.toNat) (data.take (0x1E00000 - 4 * c.e.cdw11.toNat)) }] ∧
        ∀ k, k < data.length → 4 * c.e.cdw11.toNat + k < 0x1E00000 →
          NTab.get none (4 * c.e.cdw11.toNat + k) t.staged = some (data.getD k 0)) ∧
      ∀ f rest, s.norq = f :: rest → s.only t [] [.norq] ∧ t.norq = f :: (rest.takeWhile (fun k => decide (k.seq ≤ c.aseq)) ++
        { kind := .fragment, tag := c.tag, seq := c.aseq, ofs := 4 * c.e.cdw11.toNat, data := data.take (0x1E00000 - 4 * c.e.cdw11.toNat) } ::
          rest.dropWhile (fun k => decide (k.seq ≤ c.aseq)))) ∧
  ∀ (tag : Tag) (data : List Byte) (c : Cmd) (s : State), s.carries tag.toNat c → c.sqid = 0 → c.e.opc = 0x11 →
    0x2000000 < 4 * c.e.cdw11.toNat + 4 * (c.e.cdw10.toNat + 1) →
    ∃ t, exec (.firmwareImageDownload tag data) s = .next t ∧ t.done tag.toNat scField 0 0 ∧ t.staged = s.staged ∧ t.nor = s.nor

/-- A commit checks its slot and image and writes what Table 3-7 gives; an activation drain ends one way or the other.
For a carried Firmware Commit with no NOR write running, and where a staged image is needed, one that passes its
checks (the commit otherwise completes with what failed): outside recovery mode action 000b writes slot 2 only and
refuses slot 1 with Invalid Firmware Slot; 001b on slot 2 writes copy B, and otherwise copy A after copy B has taken a
good copy A; 010b copies B over A for slot 2 and does nothing else; 011b refuses slot 2, and otherwise writes as 001b
and goes on to activation where partitions 4, 5 and 6 are unchanged; in recovery mode each of the four copies the
staged image to copy A with the surviving set. Actions 100b and up complete with Invalid Field in Command. A slot
above 2 completes with Invalid Firmware Slot. Nothing else is queued. While a NOR write runs, a commit that writes
waits behind it in admission order. While an activation drains for a carried commit, ACTIVATION_DRAIN_DONE with no
other command admitted ends the drain and completes the commit successfully; ACTIVATION_DRAIN_TIMEOUT ends it with
Firmware Activation Requires NVM Subsystem Reset and event 232, and nothing changes but what a completion writes. A
command of calibration, download or commit whose queue or controller is going completes as aborted, and a row with no
such command changes nothing (log entry 6, the model's choice). Choices of the model it rests on: log entries 6, 17,
20, 62, 98. -/
def Obligations.CommitsWriteWhatTheTableGives : Prop :=
  (∀ (tag : Tag) (c : Cmd) (s : State), s.carries tag.toNat c → c.sqid = 0 → c.e.opc = 0x10 → s.rst.recovery = false →
    s.norq = [] →
    (commitAction c = 0 → commitSlot c = 2 → ∃ t, exec (.firmwareCommitCa000b tag) s = .next t ∧
      (s.stagedBad = none → t.norq = [
        { kind := .commitPlain, tag := c.tag, seq := c.aseq, ofs := 2, ops := [imageOp true s.stagedImg,
          calOp true s.runningCal] }] ∧ s.only t [] [.norq]) ∧
      ∀ st, s.stagedBad = some st → t.done tag.toNat st 0 0 ∧ t.norq = [] ∧ t.nor = s.nor) ∧
    (commitAction c = 0 → commitSlot c ≠ 2 → ∃ t, exec (.firmwareCommitCa000b tag) s = .next t ∧
      t.done tag.toNat scFwSlot 0 0 ∧ t.norq = [] ∧ t.nor = s.nor) ∧
    (commitAction c = 1 → commitSlot c ≤ 2 → ∃ t, exec (.firmwareCommitCa001b tag) s = .next t ∧
      (s.stagedBad = none → t.norq = [
        { kind := .commitReset, tag := c.tag, seq := c.aseq, ofs := commitSlot c, ops := if commitSlot c = 2 then [imageOp true s.stagedImg,
          calOp true s.runningCal] else s.bothOps }] ∧ s.only t [] [.norq]) ∧
      ∀ st, s.stagedBad = some st → t.done tag.toNat st 0 0 ∧ t.norq = [] ∧ t.nor = s.nor) ∧
    (commitAction c = 2 → commitSlot c = 2 → ∃ t, exec (.firmwareCommitCa010b tag) s = .next t ∧
      t.norq = [
        { kind := .commitCopy, tag := c.tag, seq := c.aseq, ofs := 2, ops := [imageOp false (s.copyImg true),
          calOp false s.runningCal] }] ∧ s.only t [] [.norq]) ∧
    (commitAction c = 2 → commitSlot c < 2 → ∃ t, exec (.firmwareCommitCa010b tag) s = .next t ∧
      t.done tag.toNat 0 0 0 ∧ t.norq = [] ∧ t.nor = s.nor) ∧
    (commitAction c = 3 → commitSlot c < 2 → ∃ t, exec (.firmwareCommitCa011b tag) s = .next t ∧
      (s.stagedBad = none → t.norq = [
        { kind := if s.stagedImg.fixed = s.rst.parts then .commitActivate else .commitReset, tag := c.tag, seq := c.aseq,
          ofs := commitSlot c, ops := s.bothOps }] ∧ s.only t [] [.norq]) ∧
      ∀ st, s.stagedBad = some st → t.done tag.toNat st 0 0 ∧ t.norq = [] ∧ t.nor = s.nor)) ∧
  (∀ (tag : Tag) (c : Cmd) (s : State), s.carries tag.toNat c → c.sqid = 0 → c.e.opc = 0x10 →
    (commitAction c = 3 → s.rst.recovery = false → 2 ≤ commitSlot c → ∃ t, exec (.firmwareCommitCa011b tag) s = .next t ∧
      t.done tag.toNat scFwSlot 0 0 ∧ t.norq = s.norq ∧ t.nor = s.nor) ∧
    (∀ x ∈ ([(0, .firmwareCommitCa000b tag), (1, .firmwareCommitCa001b tag), (2, .firmwareCommitCa010b tag), (3, .firmwareCommitCa011b tag)] :
        List (Nat × Instr)), commitAction c = x.1 →
      (2 < commitSlot c → ∃ t, exec x.2 s = .next t ∧ t.done tag.toNat scFwSlot 0 0 ∧ t.norq = s.norq ∧ t.nor = s.nor) ∧
      (s.rst.recovery = true → commitSlot c ≤ 2 → s.norq = [] → ∃ t, exec x.2 s = .next t ∧
        (s.stagedBad = none → s.only t [] [.norq] ∧ t.norq = [
          { kind := .commitRecovery, tag := c.tag, seq := c.aseq, ofs := commitSlot c, ops := [imageOp false (s.copyImg true),
            calOp false s.survivor, calOp true s.survivor] }]) ∧
        ∀ st, s.stagedBad = some st → t.done tag.toNat st 0 0 ∧ t.norq = [] ∧ t.nor = s.nor) ∧
      (∀ f rest, s.norq = f :: rest → commitSlot c ≤ 2 → (s.rst.recovery = true ∨ (commitSlot c = 2 ↔ x.1 ≠ 3) ∨ x.1 = 1) →
        ∃ t k, exec x.2 s = .next t ∧ s.only t [] [.norq] ∧ t.norq = f :: (rest.takeWhile (fun k => decide (k.seq ≤ c.aseq)) ++
          { kind := k, tag := c.tag, seq := c.aseq, ofs := commitSlot c } :: rest.dropWhile (fun k => decide (k.seq ≤ c.aseq))))) ∧
    (4 ≤ commitAction c → ∃ t, exec (.firmwareCommitCaReserved tag) s = .next t ∧
      t.done tag.toNat scField 0 0 ∧ t.norq = s.norq ∧ t.nor = s.nor)) ∧
  (∀ (ms : W16) (s : State) (tag : Nat) (c : Cmd), s.hif.drain = some tag → s.carries tag c → s.others tag = [] →
    ∃ t, exec (.activationDrainDone ms) s = .next t ∧ t.hif.drain = none ∧ t.done tag 0 0 0) ∧
  (∀ (s : State) (tag : Nat) (c : Cmd), s.hif.drain = some tag → s.carries tag c →
    ∃ t, exec .activationDrainTimeout s = .next t ∧ t.hif.drain = none ∧ t.done tag scFwReset 0 0 ∧ s.raised t 232 ∧
      s.completing t [.hif, .ev]) ∧
  ∀ (tag : Tag) (data : List Byte) (s : State),
    (∀ x ∈ ([(0xC4, .calibrationSetWrite tag data), (0xC5, .calibrationSetRead tag), (0x11, .firmwareImageDownload tag data),
        (0x10, .firmwareCommitCa000b tag), (0x10, .firmwareCommitCa001b tag), (0x10, .firmwareCommitCa010b tag),
        (0x10, .firmwareCommitCa011b tag), (0x10, .firmwareCommitCaReserved tag)] : List (Nat × Instr)),
      (∀ c, s.runs tag.toNat c → c.sqid = 0 → c.e.opc.toNat = x.1 → c.ended = true →
        ∃ t, exec x.2 s = .next t ∧ t.done tag.toNat scSqDeleted 0 0) ∧
      ((∀ c, s.started? tag.toNat = some c → c.sqid ≠ 0 ∨ c.e.opc.toNat ≠ x.1) → exec x.2 s = .next s)) ∧
    ∀ c, s.carries tag.toNat c → ∀ x ∈ ([(0, .firmwareCommitCa000b tag), (1, .firmwareCommitCa001b tag), (2, .firmwareCommitCa010b tag),
        (3, .firmwareCommitCa011b tag)] : List (Nat × Instr)), (commitAction c ≠ x.1 → exec x.2 s = .next s) ∧
      (commitAction c < 4 → exec (.firmwareCommitCaReserved tag) s = .next s)

/-- A zero crossing measures the speed and steps the loop; LOCK enters and leaves by the speed band. Once step 8 is
released, ZERO_CROSSING with a positive interval answers a next state that keeps the last six intervals and whose
SPN_MEAS.SPEED lies within one step of 0.25 rpm of the speed they give (500,000,000 times their number over six times
their sum; before six have been seen, from those there are), while that fits the field. With the speed loop running
towards a target, a crossing of the phase that the step in force waits for makes the power die go on to the next step
of Table 4-1, 30 degrees after the crossing less ADV, and another crossing leaves the step. The power die's own speed
hold commutates and drives a motoring current within the limit in the same way, with the controller die in reset too.
The spindle counts as turning, memory is as before, and only fields of the speed loop, the permit, and castling, and a
write frame that the permit cuts, may differ. Before step 8, with neither the loop nor a hold running, the crossing is
only noted. With the speed loop running out of lock and 36 samples inside the band, LOCK_ENTERED sets LOCK, STATE
locked and READY, sends TIER_READY with RATIO (exact where REFRPM divides) and raises event 171. In lock with six
samples outside, LOCK_LOST clears LOCK and READY, sends TIER_LEAVE and raises event 172. Nothing else changes. Choices
of the model it rests on: log entries 8, 21, 25, 99, 107. -/
def Obligations.CrossingsMeasureTheSpeedAndLockFollows : Prop :=
  (∀ (n : Nat) (a : Fin 6) (l : List Nat) (s : State), s.up 8 = true → 0 < n → l = (n :: s.spn.ivals).take 6 →
    ∃ t, exec (.zeroCrossing n a) s = .next t ∧ t.spn.ivals = l ∧ t.pwr.turning = true ∧
      (2000000000 * l.length ≤ 65535 * (6 * l.sum) → t.rd .SPN_MEAS_SPEED * (6 * l.sum) < 2000000000 * l.length + 6 * l.sum ∧
        2000000000 * l.length < (t.rd .SPN_MEAS_SPEED + 1) * (6 * l.sum)) ∧
      (s.spn.loop = true → s.spn.tgt ≠ 0 → s.spn.comm ≠ 0 → s.spn.comm ≠ crossingStep a → t.spn.comm = s.spn.comm) ∧
      (s.spn.loop = true → s.spn.tgt ≠ 0 → (s.spn.comm = 0 ∨ s.spn.comm = crossingStep a) → t.spn.comm = a.val + 1 ∧
        .commutate (a.val + 1) (commPhases (a.val + 1)).1 (commPhases (a.val + 1)).2
          ((n : Rat) * (30 - (s.rd .SPN_CTL_ADV : Rat)) / 60) ∈ t.out) ∧
      s.only t [.SPN_MEAS_SPEED, .SPN_STAT_STATE, .SPN_STAT_HLHOLD, .SPN_HOLD_ACTIVE, .SPN_WP_WP, .SPN_WP_CAUSE,
        .SCE_BANKSEL_ACTIVE, .SCE_BANKSEL_PENDING] [.spn, .pwr, .ev, .out, .chans, .free]) ∧
  (∀ (n : Nat) (a : Fin 6) (s : State), 0 < n → s.bit .SPN_HOLD_ACTIVE = true → (s.spn.comm = 0 ∨ s.spn.comm = crossingStep a) →
    ∃ t, exec (.zeroCrossing n a) s = .next t ∧
      .commutate (a.val + 1) (commPhases (a.val + 1)).1 (commPhases (a.val + 1)).2
        ((n : Rat) * (30 - (s.rd .SPN_CTL_ADV : Rat)) / 60) ∈ t.out ∧
      ∃ x : Nat, x ≤ 20 * s.rd .SPN_ILIM_ILIM ∧ .spindle x ∈ t.out) ∧
  (∀ (n : Nat) (a : Fin 6) (s : State), s.rst.step < 8 → s.spn.loop = false → s.bit .SPN_HOLD_ACTIVE = false → s.spn.plan = [] →
    ∃ t, exec (.zeroCrossing n a) s = .next t ∧ t.pwr.turning = true ∧
    t.spn = { s.spn with ivals := (n :: s.spn.ivals).take 6 } ∧ s.only t [] [.spn, .pwr]) ∧
  ((∀ s : State, s.spn.loop = true → s.bit .SPN_STAT_LOCK = false → s.spn.tgt ≠ 0 → 36 ≤ s.spn.inRun →
    ∃ t, exec .lockEntered s = .next t ∧ t.rd .SPN_STAT_LOCK = 1 ∧ t.rd .SPN_STAT_STATE = 6 ∧ t.rd .SPN_RATIO_READY = 1 ∧
      t.spn.ready = true ∧ s.raised t 171 ∧
      (s.rd .SPN_LIM2_REFRPM ∣ s.spn.tgt * 16384 → s.rd .SPN_LIM2_REFRPM ≠ 0 → s.spn.tgt < 4 * s.rd .SPN_LIM2_REFRPM →
        t.rd .SPN_RATIO_RATIO = s.spn.tgt * 16384 / s.rd .SPN_LIM2_REFRPM) ∧
      s.only t [.SPN_STAT_LOCK, .SPN_STAT_STATE, .SPN_RATIO_RATIO, .SPN_RATIO_READY] [.spn, .ev]) ∧
  ∀ s : State, s.bit .SPN_STAT_LOCK = true → 6 ≤ s.spn.outRun →
    ∃ t, exec .lockLost s = .next t ∧ t.rd .SPN_STAT_LOCK = 0 ∧ t.rd .SPN_RATIO_READY = 0 ∧ t.spn.leave = true ∧
      s.recorded t 172 [(2, s.speed), (2, s.spn.tgt)] ∧
      s.only t [.SPN_STAT_LOCK, .SPN_STAT_STATE, .SPN_RATIO_READY] [.spn, .ev])

/-- A written target is reduced to an effective one, which sends TIER_LEAVE when it changes. Once step 8 is released
and with no speed hold running, SPN_TGT_WRITE of v answers a next state in which TGT reads v and the effective target
is 0 for a v of 0 or below, SPDMIN for a v from 1 to below it, SPDMAX for one above it, and v otherwise; where that
differs from v, CLAMPED is set and event 173 raised; where the effective target changes, READY clears and TIER_LEAVE
is sent. Memory and all other fields but the spindle's status and castling are as before; a write also tells the power
die that the link is alive again. During a speed hold, or between steps 5 and 8, only TGT takes the value and the
effective target stays. Choices of the model it rests on: log entries 22, 24, 25. -/
def Obligations.TargetsAreReducedToTheirRange : Prop :=
  (∀ (v : W16) (s : State), s.up 8 = true → s.bit .SPN_HOLD_ACTIVE = false →
    ∃ t, exec (.spnTgtWrite v) s = .next t ∧ t.rd .SPN_TGT_TGT = v.toNat ∧
      (v.toInt ≤ 0 → t.spn.tgt = 0) ∧
      (0 < v.toInt → v.toInt < s.rd .SPN_LIM_SPDMIN → t.spn.tgt = s.rd .SPN_LIM_SPDMIN) ∧
      ((s.rd .SPN_LIM_SPDMIN : Int) ≤ v.toInt → 0 < v.toInt → (s.rd .SPN_LIM_SPDMAX : Int) < v.toInt → t.spn.tgt = s.rd .SPN_LIM_SPDMAX) ∧
      ((s.rd .SPN_LIM_SPDMIN : Int) ≤ v.toInt → 0 < v.toInt → v.toInt ≤ s.rd .SPN_LIM_SPDMAX → (t.spn.tgt : Int) = v.toInt) ∧
      ((t.spn.tgt : Int) ≠ v.toInt → t.rd .SPN_STAT_CLAMPED = 1 ∧ (s.pwr.link = true → s.raised t 173)) ∧
      (t.spn.tgt ≠ s.spn.tgt → t.rd .SPN_RATIO_READY = 0 ∧ t.spn.leave = true) ∧
      s.only t [.SPN_TGT_TGT, .SPN_STAT_CLAMPED, .SPN_RATIO_READY, .SPN_STAT_LOCK, .SPN_STAT_STATE, .SPN_STAT_ATTEMPT, .SPN_STAT_FAIL,
        .SPN_STAT_HLHOLD, .SCE_BANKSEL_ACTIVE, .SCE_BANKSEL_PENDING] [.spn, .ev, .out, .pwr]) ∧
  ∀ (v : W16) (s : State), s.up 5 = true → (s.rst.step < 8 ∨ s.bit .SPN_HOLD_ACTIVE = true) → ∃ t, exec (.spnTgtWrite v) s = .next t ∧
    t.rd .SPN_TGT_TGT = v.toNat ∧ t.spn = s.spn ∧ t.pwr.link = true ∧ s.only t [.SPN_TGT_TGT, .SPN_STAT_CLAMPED] [.ev, .pwr]

/-- COGEN stays 1 only with a table whose entries are all good, and a bad entry raises event 163. Once step 8 is
released, COGEN_WRITE of 1 leaves COGEN 1 exactly when none of the 96 entries exceeds a quarter of the current limit,
and otherwise 0 with event 163; COGEN_WRITE of 0 leaves 0, and from step 5 to step 8 COGEN takes what is written.
Nothing else changes. From step 5 on, with no soft reset of SCE[4] running, COG_TABLE_WRITE stores its four bytes and
no others, and clears COGEN exactly when COGEN was 1 and one of the two entries written is bad. -/
def Obligations.BadCoggingTableIsRejected : Prop :=
  (∀ (en : Bool) (s : State), s.up 8 = true → ∃ t, exec (.cogenWrite en) s = .next t ∧
    t.bit .SPN_CTL_COGEN = (en && (List.range 96).all (fun k => !s.cogBad k)) ∧
    (∀ k, en = true → (List.range 96).find? s.cogBad = some k → s.recorded t 163 [(1, k)]) ∧ s.only t [.SPN_CTL_COGEN] [.ev]) ∧
  (∀ (en : Bool) (s : State), s.up 5 = true → s.rst.step < 8 → ∃ t, exec (.cogenWrite en) s = .next t ∧ t.bit .SPN_CTL_COGEN = en ∧
    s.only t [.SPN_CTL_COGEN] []) ∧
  ∀ (w : Fin 48) (v : W32) (s : State), s.up 5 = true → s.hears (selSce 4) = true → ∃ t, exec (.cogTableWrite w v) s = .next t ∧
    t.mrd 4 (cogAddr (2 * w)) = v.toNat ∧ s.memBut t (cogAddr (2 * w)) 4 ∧
    t.bit .SPN_CTL_COGEN = (s.bit .SPN_CTL_COGEN && !t.cogBad (2 * w) && !t.cogBad (2 * w + 1)) ∧
    s.regsBut t [.SPN_CTL_COGEN] ∧ s.keeps t [.ev]

/-- Each step of a spindle start ends as R92 and Table 4-6 decide. Observing, a forward speed of 300 rpm or more is
caught on the fly with event 167; slower, reverse (with event 165) or no rotation brakes as a new attempt; an
inconsistent order is observed once more and then brakes. A confirmed brake of a start drives alignment vector 1, then
2, then the blind ramp; a brake that times out fails the start with FAIL 2 and event 185; handover gives the loop the
spindle with a zero integrator and event 168; a failed attempt brakes again, and after the third the start fails with
FAIL 1. A zero target's confirmed stop switches the bridge off, or, where a target has been given since, starts the
spindle in full. Of all these only the spindle's fields, the permit with a frame it cuts, and castling change, and
memory is left alone. That a brake which times out ends a zero-target stop in the same way is the model's choice (log
entry 107). Choices of the model it rests on: log entries 10, 22, 107. -/
def Obligations.StartSequenceFollowsItsTable : Prop :=
  (∀ (q : Nat) (s : State), s.rd .SPN_STAT_STATE = 1 → 1200 ≤ q → q ≤ 65535 → ∃ t, exec (.observeEnd (.forward q)) s = .next t ∧
    t.rd .SPN_STAT_STATE = 5 ∧ t.spn.loop = true ∧ t.spn.ramp = (q : Rat) / 4 ∧ t.rd .SPN_MEAS_SPEED = q ∧ s.raised t 167) ∧
  (∀ (o : Observed) (s : State), s.rd .SPN_STAT_STATE = 1 → (∀ q, o = .forward q → q < 1200) → (o = .inconsistent → s.spn.again = true) →
    ∃ t, exec (.observeEnd o) s = .next t ∧ t.rd .SPN_STAT_STATE = 2 ∧
      t.rd .SPN_STAT_ATTEMPT = (s.rd .SPN_STAT_ATTEMPT + 1) % 8 ∧ s.sent t [.bridge .short 0] ∧
      ((∃ q, o = .reverse q) → s.raised t 165)) ∧
  (∀ s : State, s.rd .SPN_STAT_STATE = 1 → s.spn.again = false → ∃ t, exec (.observeEnd .inconsistent) s = .next t ∧
    t.spn.again = true ∧ t.rd .SPN_STAT_STATE = 1) ∧
  (∀ (ms : W32) (s : State), s.rd .SPN_STAT_STATE = 2 → s.spn.stopping = false → ∃ t, exec (.brakeConfirmed ms) s = .next t ∧
    t.rd .SPN_STAT_STATE = 3 ∧ t.pwr.turning = false ∧ s.raised t 166 ∧
    s.sent t [.bridge (.vector 1) (10 * s.rd .SPN_START_ALIGN_I)]) ∧
  (∀ s : State, s.rd .SPN_STAT_STATE = 2 → ∃ t, exec .brakeTimeout s = .next t ∧
    t.rd .SPN_STAT_STATE = 8 ∧ t.rd .SPN_STAT_FAIL = 2 ∧ s.recorded t 185 [(2, s.speed)] ∧ s.sent t [.bridge .off 0]) ∧
  (∀ s : State, s.rd .SPN_STAT_STATE = 3 → ∃ t, exec .alignVectorEnd s = .next t ∧
    (s.spn.vec = 0 → t.spn.vec = 1 ∧ t.rd .SPN_STAT_STATE = 3 ∧ s.sent t [.bridge (.vector 2) (10 * s.rd .SPN_START_ALIGN_I)]) ∧
    (s.spn.vec ≠ 0 → t.rd .SPN_STAT_STATE = 4 ∧ s.sent t [.bridge .blind (10 * s.rd .SPN_START_BLIND_I)])) ∧
  (∀ s : State, s.rd .SPN_STAT_STATE = 4 → ∃ t, exec .handover s = .next t ∧
    t.rd .SPN_STAT_STATE = 5 ∧ t.spn.loop = true ∧ t.spn.integ = 0 ∧ t.spn.ramp = (s.speed : Rat) / 4 ∧
    s.recorded t 168 [(1, s.rd .SPN_STAT_ATTEMPT)]) ∧
  (∀ s : State, s.rd .SPN_STAT_STATE = 4 → ∃ t, exec .startAttemptFail s = .next t ∧ s.raised t 169 ∧
    (s.rd .SPN_STAT_ATTEMPT < 3 → t.rd .SPN_STAT_STATE = 2 ∧ t.rd .SPN_STAT_ATTEMPT = s.rd .SPN_STAT_ATTEMPT + 1) ∧
    (3 ≤ s.rd .SPN_STAT_ATTEMPT → t.rd .SPN_STAT_STATE = 8 ∧ t.rd .SPN_STAT_FAIL = 1 ∧ s.raised t 170)) ∧
  (∀ (ms : W32) (s : State), s.rd .SPN_STAT_STATE = 2 → s.spn.stopping = true → ∀ c ∈ ([.brakeConfirmed ms, .windingShortStop ms] : List Instr),
    ∃ t, exec c s = .next t ∧ t.pwr.turning = false ∧ s.raised t 166 ∧ s.sent t [.bridge .off 0] ∧
      (s.spn.restart = false → t.rd .SPN_STAT_STATE = 0) ∧
      (s.spn.restart = true → s.pwr.iso = true → t.rd .SPN_STAT_STATE = 1 ∧ t.rd .SPN_STAT_ATTEMPT = 0 ∧ s.raised t 164)) ∧
  ∀ (o : Observed) (ms : W32) (s t : State), ∀ c ∈ ([.observeEnd o, .brakeConfirmed ms, .brakeTimeout, .alignVectorEnd, .handover,
      .startAttemptFail, .windingShortStop ms] : List Instr), exec c s = .next t →
    s.only t [.SPN_STAT_STATE, .SPN_STAT_ATTEMPT, .SPN_STAT_FAIL, .SPN_STAT_HLHOLD, .SPN_MEAS_SPEED, .SPN_WP_WP, .SPN_WP_CAUSE,
      .SCE_BANKSEL_ACTIVE, .SCE_BANKSEL_PENDING] [.spn, .pwr, .ev, .out, .chans]

/-- The bus watch, the chopper and its fault follow the thresholds of the 12 V bus. Each bus command stores VBUS. At
12.9 V or more the bus watch sets BUSWATCH and below 12.7 V clears it; at 13.2 V or more the chopper turns on unless
it is faulty or OV2 holds, and below 12.9 V off; a chopper fault while it is on turns it off, latches CHOPFLT and
raises event 177. Once step 8 is released CLRCHOP clears CHOPFLT, and CLROV clears OV2 while VMOT was last sampled
below 12.9 V and does nothing otherwise. Only these fields change, and memory does not. Choices of the model it rests
on: log entries 10, 26. -/
def Obligations.BusThresholdsActAsTheTableGives : Prop :=
  (∀ (v : BitVec 12) (s : State), 1290 ≤ v.toNat → ∃ t, exec (.busWatchEnter v) s = .next t ∧ t.rd .SPN_MEAS_VBUS = v.toNat ∧
    t.bit .SPN_STAT_BUSWATCH = true ∧
    (s.bit .SPN_STAT_BUSWATCH = false → s.pwr.link = true → s.recorded t 175 [(2, v.toNat)])) ∧
  (∀ (v : BitVec 12) (s : State), v.toNat < 1270 → ∃ t, exec (.busWatchRelease v) s = .next t ∧ t.rd .SPN_MEAS_VBUS = v.toNat ∧
    t.bit .SPN_STAT_BUSWATCH = false) ∧
  (∀ (v : BitVec 12) (s : State), 1320 ≤ v.toNat → s.bit .SPN_STAT_CHOPFLT = false → s.bit .SPN_STAT_OV2 = false →
    ∃ t, exec (.ov1Engage v) s = .next t ∧ t.rd .SPN_MEAS_VBUS = v.toNat ∧ t.bit .SPN_STAT_CHOPON = true ∧
      (s.bit .SPN_STAT_CHOPON = false → s.spn.ov1 = false → s.pwr.link = true → s.recorded t 176 [(2, v.toNat)])) ∧
  (∀ (v : BitVec 12) (s : State), v.toNat < 1290 → ∃ t, exec (.ov1Release v) s = .next t ∧ t.rd .SPN_MEAS_VBUS = v.toNat ∧
    t.bit .SPN_STAT_CHOPON = false) ∧
  (∀ (h : Bool) (s : State), s.bit .SPN_STAT_CHOPON = true → ∃ t, exec (.chopperFault h) s = .next t ∧
    t.bit .SPN_STAT_CHOPON = false ∧ t.bit .SPN_STAT_CHOPFLT = true ∧ (s.pwr.link = true → s.recorded t 177 [(1, b2n h)])) ∧
  (∀ s : State, s.up 8 = true → ∃ t, exec .clrchop s = .next t ∧ t.bit .SPN_STAT_CHOPFLT = false) ∧
  (∀ s : State, s.up 8 = true → ∃ t, exec .clrov s = .next t ∧
    t.bit .SPN_STAT_OV2 = (s.bit .SPN_STAT_OV2 && decide (1290 ≤ s.pwr.vmot))) ∧
  ∀ (v : BitVec 12) (h : Bool) (s t : State), ∀ c ∈ ([.busWatchEnter v, .busWatchRelease v, .ov1Engage v, .ov1Release v, .chopperFault h,
      .clrchop, .clrov] : List Instr), exec c s = .next t →
    s.only t [.SPN_MEAS_VBUS, .SPN_STAT_BUSWATCH, .SPN_STAT_CHOPON, .SPN_STAT_CHOPFLT, .SPN_STAT_OV2] [.spn, .pwr, .ev]

/-- Over-voltage, power loss and a silent link retract every arm and withdraw every permit. OV2_SHUTDOWN at 14.4 V or
more, with OV2 not latched yet, latches it and turns the chopper off; POWER_LOSS with the isolation switch closed
opens it and leaves VMOT to fall; both end a speed hold and stop a spindle that is driven or being started;
LINK_SILENCE of 100 µs or more with the link alive leaves a speed hold running. Each, with no retract in progress,
begins one in which every permit is withdrawn and every arm is in the retracted state. Memory is as before. The push
and the end of a retract follow: RETRACT_PUSH pushes every arm whose bridge works towards its latch at RETI,
RETRACT_DONE turns the drivers off with event 181. ISOLATION_SWITCH_CLOSE closes the switch and TAKE marks a running
hold to be taken over. A silence because XSYS has stopped leaves the controller die without its clock. Choices of the
model it rests on: log entries 26, 33, 34, 111. -/
def Obligations.HeadsRetractOnOvervoltageLossAndSilence : Prop :=
  (∀ (v : BitVec 12) (us : W32) (x : Bool) (s : State),
    (1440 ≤ v.toNat → s.bit .SPN_STAT_OV2 = false → ∃ t, exec (.ov2Shutdown v) s = .next t ∧ t.bit .SPN_STAT_OV2 = true ∧
      t.bit .SPN_STAT_CHOPON = false ∧ t.rd .SPN_MEAS_VBUS = v.toNat ∧ t.bit .SPN_HOLD_ACTIVE = false ∧ s.memSame t ∧
      (s.pwr.link = true → s.raised t 178) ∧ (s.rd .SPN_STAT_STATE ≠ 0 → t.rd .SPN_STAT_STATE = 8) ∧
      (s.pwr.retract = 0 → t.pwr.retract = 1 ∧ (s.pwr.link = true → s.raised t 180) ∧
        ∀ a, a < 4 → t.rdBit .SPN_WP_WP a = false ∧ t.rd .SCE_STAT_STATE a = 7)) ∧
    (s.pwr.iso = true → ∃ t, exec .powerLoss s = .next t ∧ t.pwr.iso = false ∧ t.pwr.v12 = s.pwr.v12 ∧ t.pwr.vmot = s.pwr.vmot ∧
      t.bit .SPN_HOLD_ACTIVE = false ∧ s.memSame t ∧
      (s.pwr.link = true → s.raised t 179) ∧ (s.rd .SPN_STAT_STATE ≠ 0 → t.rd .SPN_STAT_STATE = 8) ∧
      (s.pwr.retract = 0 → t.pwr.retract = 1 ∧ (s.pwr.link = true → s.raised t 180) ∧
        ∀ a, a < 4 → t.rdBit .SPN_WP_WP a = false ∧ t.rd .SCE_STAT_STATE a = 7)) ∧
    (s.pwr.link = true → s.up 5 = true → 100 ≤ us.toNat → ∃ t, exec (.linkSilence us x) s = .next t ∧ t.pwr.link = false ∧ t.rst.xsys = x ∧ s.memSame t ∧
      t.bit .SPN_HOLD_ACTIVE = s.bit .SPN_HOLD_ACTIVE ∧
      (s.bit .SPN_HOLD_ACTIVE = false → s.rd .SPN_STAT_STATE ≠ 0 → t.rd .SPN_STAT_STATE = 8) ∧
      (∀ a, a < 4 → t.rdBit .SPN_WP_WP a = false) ∧
      (s.pwr.retract = 0 → t.pwr.retract = 1 ∧ ∀ a, a < 4 → t.rd .SCE_STAT_STATE a = 7))) ∧
  (∀ s : State, s.pwr.iso = false → ∃ t, exec .isolationSwitchClose s = .next t ∧
    t.pwr = { s.pwr with iso := true, vmot := t.rd .SPN_MEAS_VBUS } ∧ s.only t [.SPN_MEAS_VBUS] [.pwr, .free]) ∧
  (∀ s : State, s.up 8 = true → s.bit .SPN_HOLD_ACTIVE = true → ∃ t, exec .take s = .next t ∧
    t.spn = { s.spn with take := true } ∧ s.only t [] [.spn]) ∧
  (∀ s : State, s.pwr.retract = 1 → ∃ t, exec .retractPush s = .next t ∧ t.pwr = { s.pwr with retract := 2 } ∧
    s.sent t (((List.range 4).filter (fun a => !NSet.has a s.pwr.tripped)).map (fun a => .vcmPush a (2 * s.rd .SPN_ILIM_RETI))) ∧ s.only t [] [.pwr, .out]) ∧
  ∀ (t0 t1 t2 t3 : W16) (s : State), s.pwr.retract = 2 → ∃ t, exec (.retractDone t0 t1 t2 t3) s = .next t ∧ t.pwr.retract = 0 ∧
    s.sent t ((List.range 4).map (fun a => .vcmOff a)) ∧ (s.pwr.link = true → s.raised t 181) ∧
    s.only t [.SPN_WP_WP, .SPN_WP_CAUSE] [.pwr, .ev, .out, .chans]

/-- An overloaded bridge goes off, a rail out of range holds every microactuator at 0 V, a hot power die turns every
bridge off. A spindle bridge over-current ends a speed hold and leaves a driven spindle stopped by fault; a voice
coil's switches that bridge off and, with no retract in progress, retracts the arms; a hot power die stores its
temperature, does both and forbids a start until it has cooled. MA_RAIL_OUT_OF_RANGE holds every microactuator output
at 0 V and MA_RAIL_IN_RANGE, once step 2 is released and while VMOT is in its window, ends that. Memory is as before.
Off its occasion a row changes nothing (log entry 6, the model's choice). Other choices of the model it rests on: log
entries 27, 33. -/
def Obligations.BridgesAndRailsProtectThemselves : Prop :=
  (∀ (p : Fin 3) (v : W16) (s : State), ∃ t, exec (.bridgeOvercurrent (.spindle p) v) s = .next t ∧ s.memSame t ∧
    t.bit .SPN_HOLD_ACTIVE = false ∧ (s.rd .SPN_STAT_STATE ≠ 0 → t.rd .SPN_STAT_STATE = 8) ∧ t.spn.loop = (s.spn.loop &&
      (s.rd .SPN_STAT_STATE == 0 || s.rd .SPN_STAT_STATE == 8)) ∧
    s.only t [.SPN_HOLD_ACTIVE, .SPN_STAT_STATE, .SPN_STAT_HLHOLD, .SCE_BANKSEL_ACTIVE, .SCE_BANKSEL_PENDING] [.pwr, .ev, .spn, .out]) ∧
  (∀ (a : Arm) (v : W16) (s : State), ∃ t, exec (.bridgeOvercurrent (.vcm a) v) s = .next t ∧ s.memSame t ∧
    NSet.has a t.pwr.tripped = true ∧ .vcmOff a ∈ t.out ∧
    (s.pwr.retract = 0 → t.pwr.retract = 1 ∧ ∀ k, k < 4 → t.rdBit .SPN_WP_WP k = false ∧ t.rd .SCE_STAT_STATE k = 7)) ∧
  (∀ (v : W16) (s : State), ∃ t, exec (.powerDieOvertemp v) s = .next t ∧ s.memSame t ∧ t.pwr.hotDie = true ∧
    t.rd .AGE_TEMP_TEMP 1 = v.toNat % 4096 ∧ t.bit .SPN_HOLD_ACTIVE = false ∧ t.canStart = false ∧
    (s.pwr.retract = 0 → t.pwr.retract = 1 ∧ ∀ k, k < 4 → t.rdBit .SPN_WP_WP k = false ∧ t.rd .SCE_STAT_STATE k = 7)) ∧
  (∀ s : State, ∃ t, exec .maRailOutOfRange s = .next t ∧ t.pwr.ma = false ∧
    (∀ a p, a < 4 → p < 6 → ((t.arm a).mic p).uApp = 0 ∧ ((t.arm a).mic p).integ = 0) ∧
    s.only t [.SCE_STAT_SATM, .SCE_STAT_OUTWIN] [.pwr, .arms, .out]) ∧
  ∀ s : State, (s.up 2 = true → s.pwr.v12 = true → ∃ t, exec .maRailInRange s = .next t ∧ t.pwr = { s.pwr with ma := true } ∧
      s.only t [] [.pwr]) ∧
    (s.up 2 = false ∨ s.pwr.v12 = false → exec .maRailInRange s = .next s)

/-- When a permit falls, its causes are latched and its arm's event is raised; the permit is high exactly while every
condition holds. After each command of the power die that reports a condition of Table 5-5 (shock, sensors, report,
supplies, controller-die heat), every WP[a] is 1 exactly when all nine conditions hold. The reported condition is
withdrawn or restored as the command says. For every arm whose permit falls, SPN_WP.CAUSE holds the bits of the
conditions that fail, beside the bits it held, and the arm's permit event is raised. Only the permit, its causes, the
rest bias and a frame on the medium that the permit cuts may change, and, with VMOT out of its window, the
microactuators, whose rails stop; memory does not. An input's rest bias starts from the bias found at its first sound
restore after a level reset. -/
def Obligations.PermitFollowsItsConditions : Prop :=
  (∀ (b : Bool) (x : Byte) (k : Arm) (s : State), ∀ c ∈ ([.shockExcursion b, .shockHoldExpire, .shockSensorUnsound b,
      .shockSensorSoundRestore b x, .reportFreshExpire k, .supplyWindowExit .vbus, .supplyWindowExit .vpre, .supplyGoodRestore .vbus,
      .supplyGoodRestore .vpre, .controllerDieOvertemp, .controllerDieTempRestore] : List Instr),
    ∃ t, exec c s = .next t ∧
      (∀ a, a < 4 → (t.rdBit .SPN_WP_WP a = true ↔ failBits (t.wpConds a) = 0) ∧
        (s.rdBit .SPN_WP_WP a = true → t.rdBit .SPN_WP_WP a = false →
          (∀ i, i < 9 → (failBits (t.wpConds a)).testBit i = true → t.rdBit .SPN_WP_CAUSE i = true) ∧ s.raised t (146 + 4 * a))) ∧
      (∀ i, i < 9 → s.rdBit .SPN_WP_CAUSE i = true → t.rdBit .SPN_WP_CAUSE i = true) ∧
      s.only t [.SPN_WP_WP, .SPN_WP_CAUSE, .SPN_SHK_BIASA, .SPN_SHK_BIASB, .SCE_STAT_SATM, .SCE_STAT_OUTWIN]
        [.pwr, .ev, .chans, .arms, .out] ∧
      (c ≠ .supplyWindowExit .vbus → s.only t [.SPN_WP_WP, .SPN_WP_CAUSE, .SPN_SHK_BIASA, .SPN_SHK_BIASB] [.pwr, .ev, .chans])) ∧
  (∀ (b : Bool) (x : Byte) (k : Arm) (s : State),
    (∃ t, exec (.shockExcursion b) s = .next t ∧ t.pwr = { s.pwr with shock := true, outside := true }) ∧
    (∃ t, exec .shockHoldExpire s = .next t ∧ t.pwr = { s.pwr with shock := false, outside := false }) ∧
    (∃ t, exec (.shockSensorUnsound b) s = .next t ∧
      t.pwr = if b then { s.pwr with soundB := false } else { s.pwr with soundA := false }) ∧
    (∃ t, exec (.shockSensorSoundRestore b x) s = .next t ∧
      t.pwr = (if b then { s.pwr with soundB := true, biasB := true } else { s.pwr with soundA := true, biasA := true }) ∧
      t.rd .SPN_SHK_BIASA = (if b = false ∧ s.pwr.biasA = false then x.toNat else s.rd .SPN_SHK_BIASA) ∧
      t.rd .SPN_SHK_BIASB = (if b = true ∧ s.pwr.biasB = false then x.toNat else s.rd .SPN_SHK_BIASB)) ∧
    (∃ t, exec (.reportFreshExpire k) s = .next t ∧ t.pwr = { s.pwr with fresh := NSet.del k s.pwr.fresh }) ∧
    (∃ t, exec .controllerDieOvertemp s = .next t ∧ t.pwr = { s.pwr with hot := true }) ∧
    (∃ t, exec .controllerDieTempRestore s = .next t ∧ t.pwr = { s.pwr with hot := false }) ∧
    (∃ t, exec (.supplyWindowExit .vbus) s = .next t ∧ t.pwr = { s.pwr with v12 := false, ma := false } ∧
      ∀ a p, a < 4 → p < 6 → ((t.arm a).mic p).uApp = 0) ∧
    (∃ t, exec (.supplyGoodRestore .vpre) s = .next t ∧ t.pwr = { s.pwr with vpre := true })) ∧
  ∀ s : State, (∃ t, exec (.supplyWindowExit .core) s = .next t ∧ t.pwr.core = false ∧ t.pwr.good = false ∧
      ∀ a, a < 4 → t.rdBit .SPN_WP_WP a = false) ∧
    ∃ t, exec (.supplyGoodRestore .core) s = .next t ∧ t.pwr.core = true ∧ t.pwr.good = true ∧ t.pwr.close6 = false

/-- After every step, a permit that is active has every condition of Table 5-5 behind it. For every state s in which
each active WP[a] has all nine conditions of Table 5-5, and every command in front of its queue, if step answers a
next state t, then in t too each active WP[a] has all nine. No register write, command or image field can force a
permit active or mask a condition. -/
def Obligations.PermitNeverOutlivesItsConditions : Prop :=
  ∀ s t : State, (∀ a, a < 4 → s.rdBit .SPN_WP_WP a = true → failBits (s.wpConds a) = 0) → step s = .next t →
    ∀ a, a < 4 → t.rdBit .SPN_WP_WP a = true → failBits (t.wpConds a) = 0

/-- RUN, LOAD, UNLOAD, the push and the time-out move an arm through its states. Once step 8 is released, and while no
soft reset of the SCE makes it deaf to writes: RUN 1 takes a stopped SCE to parked, RUN 0 a parked or retracted one to
stopped and a loaded one to unloading; LOAD in parked is refused with LOADREF below HLMIN or out of lock, and
otherwise starts loading; UNLOAD of a loaded arm unloads; the end of the push parks it, or stops it where RUN is 0;
LOADTMO while loading unloads with the control-fault event. An unloading arm has no plausible head, no permit and no
ready head. A power die too hot keeps the voice coils off. A RUN that asks for what already is, or comes before step
8, is only stored. Memory is as before. Choices of the model it rests on: log entries 33, 38. -/
def Obligations.ArmStatesFollowTheirTransitions : Prop :=
  (∀ (a : Arm) (s : State), s.up 8 = true → s.hears (selSce a) = true →
    (s.rd .SCE_STAT_STATE a = 0 → ∃ t, exec (.sceRunWrite a true) s = .next t ∧ t.rd .SCE_STAT_STATE a = 1 ∧ t.rd .SCE_CTL_RUN a = 1 ∧
      s.only t [.SCE_CTL_RUN, .SCE_STAT_STATE, .SCE_STAT_LOADED] []) ∧
    (s.rd .SCE_STAT_STATE a = 1 ∨ s.rd .SCE_STAT_STATE a = 7 → ∃ t, exec (.sceRunWrite a false) s = .next t ∧
      t.rd .SCE_STAT_STATE a = 0 ∧ (t.arm a).queue = [] ∧ s.only t [.SCE_CTL_RUN, .SCE_STAT_STATE, .SCE_STAT_LOADED] [.arms]) ∧
    (s.rd .SCE_STAT_STATE a = 1 → (s.rd .SPN_MEAS_SPEED < 4 * s.rd .SPN_LIM2_HLMIN ∨ s.bit .SPN_STAT_LOCK = false) →
      ∃ t, exec (.load a) s = .next t ∧ t.rd .SCE_STAT_LOADREF a = 1 ∧ s.only t [.SCE_STAT_LOADREF] []) ∧
    (s.rd .SCE_STAT_STATE a = 1 → 4 * s.rd .SPN_LIM2_HLMIN ≤ s.rd .SPN_MEAS_SPEED → s.bit .SPN_STAT_LOCK = true →
      ∃ t, exec (.load a) s = .next t ∧ t.rd .SCE_STAT_STATE a = 2 ∧ t.rd .SCE_STAT_LOADED a = 1 ∧
        s.sent t (if s.pwr.hotDie then [] else [.vcmVel a (s.rd .SCE_LOAD_LOADV a)]) ∧ s.only t [.SCE_STAT_STATE, .SCE_STAT_LOADED] [.arms, .pwr, .out]) ∧
    (s.rd .SCE_STAT_STATE a = 6 → ∃ t, exec (.unloadPushEnd a) s = .next t ∧
      t.rd .SCE_STAT_STATE a = (if s.bit .SCE_CTL_RUN a then 1 else 0) ∧
      s.sent t ((if s.pwr.hotDie = true ∨ NSet.has a s.pwr.tripped = true then [] else [.vcmPush a (2 * s.rd .SPN_ILIM_RETI)]) ++ [.vcmOff a]) ∧
      s.only t [.SCE_STAT_STATE, .SCE_STAT_LOADED, .HSE_STAT_GATES] [.arms, .hses, .chans, .out])) ∧
  (∀ (a : Arm) (run : Bool) (s : State), s.up 5 = true → s.hears (selSce a) = true →
    (s.rst.step < 8 ∨ (run = true ∧ s.rd .SCE_STAT_STATE a ≠ 0) ∨ (run = false ∧ (s.rd .SCE_STAT_STATE a = 0 ∨ s.rd .SCE_STAT_STATE a = 6))) →
    ∃ t, exec (.sceRunWrite a run) s = .next t ∧ t.rd .SCE_CTL_RUN a = b2n run ∧ s.only t [.SCE_CTL_RUN] []) ∧
  ∀ (a : Arm) (s : State), s.up 8 = true → s.hears (selSce a) = true → (∀ c ∈ ([.sceRunWrite a false, .unload a, .loadtmo a] : List Instr),
    s.rd .SCE_STAT_STATE a ∈ (if c = .loadtmo a then [2] else [2, 3, 4, 5]) → ∃ t, exec c s = .next t ∧ t.rd .SCE_STAT_STATE a = 6 ∧
      t.bit .SCE_HSTAT_ARMPL a = false ∧ t.rd .SCE_HSTAT_RDY_RD a = 0 ∧ t.rd .SCE_HSTAT_RDY_WR a = 0 ∧ t.rdBit .SPN_WP_WP a = false ∧
      (∀ p, p < 6 → t.rdBit .SCE_HSTAT_PLAUS p a = false) ∧ (c = .loadtmo a → s.raised t (147 + 4 * a)) ∧ s.memSame t)

/-- A common target is clamped to the arm's tracks and starts or retargets a seek. Once step 5 is released, with no
soft reset of the SCE running, CTGT_WRITE of v answers a next state in which CTGT reads v clamped into MINTRK to
MAXTRK, and CLAMPTRK is set where that changed it; from settle or follow the state becomes seek with no head ready,
and from any other state it stays. SEEKTMO in settle with no head READY_RD sets its flag and raises the control fault,
and the loops keep running. Only that arm's fields change, and memory does not. Choices of the model it rests on: log
entry 28. -/
def Obligations.TargetWriteClampsAndSeeks : Prop :=
  (∀ (a : Arm) (v : W32) (s : State), s.up 5 = true → s.hears (selSce a) = true → s.rd .SCE_MINTRK_MINTRK a < 2 ^ 22 →
    s.rd .SCE_MAXTRK_MAXTRK a < 2 ^ 22 → ∃ t, exec (.ctgtWrite a v) s = .next t ∧
      t.rd .SCE_CTGT_CTGT a = max (1024 * s.rd .SCE_MINTRK_MINTRK a) (min (1024 * s.rd .SCE_MAXTRK_MAXTRK a) v.toNat) ∧
      (t.rd .SCE_CTGT_CTGT a ≠ v.toNat → t.rd .SCE_STAT_CLAMPTRK a = 1) ∧
      (s.rd .SCE_STAT_STATE a = 4 ∨ s.rd .SCE_STAT_STATE a = 5 →
        t.rd .SCE_STAT_STATE a = 3 ∧ t.rd .SCE_HSTAT_RDY_RD a = 0 ∧ t.rd .SCE_HSTAT_RDY_WR a = 0) ∧
      (s.rd .SCE_STAT_STATE a ≠ 4 → s.rd .SCE_STAT_STATE a ≠ 5 → t.rd .SCE_STAT_STATE a = s.rd .SCE_STAT_STATE a) ∧
      s.memSame t ∧ s.keeps t [.arms, .out] ∧
      s.keysBut t (fun k => k.i = a.val ∧ k.reg ∈ [.SCE_CTGT_CTGT, .SCE_STAT_CLAMPTRK, .SCE_STAT_STATE, .SCE_STAT_LOADED,
        .SCE_HSTAT_RDY_RD, .SCE_HSTAT_RDY_WR, .SCE_STAT_SATM, .SCE_STAT_OUTWIN, .SCE_BANKSEL_PENDING, .SCE_BANKSEL_ACTIVE])) ∧
  ∀ (a : Arm) (s : State), s.rd .SCE_STAT_STATE a = 4 → s.rd .SCE_HSTAT_RDY_RD a = 0 → ∃ t, exec (.seektmo a) s = .next t ∧
    t.rd .SCE_STAT_SEEKTMO a = 1 ∧ s.recorded t (147 + 4 * a) [(1, faultSeektmo)] ∧ s.only t [.SCE_STAT_SEEKTMO] [.ev]

/-- A wedge's record joins the end of its SCE's queue, and samples are served in order with a plausibility report.
Once step 9 is released and the SCE not stopped, SAMPLE_RECORD puts one record at the end of the arm's queue: valid
only where a mark was found, with its index the one after the head's last, the reference not low and the track near
the predicted one, and carrying the head and the index read and the instant at which it became valid. No register,
byte or other part changes. SAMPLE_SERVICE takes the oldest record; of those of one instant the reference head's goes
first, then they go by ascending position. An invalid one of a head makes it implausible while the arm tracks, and the
power die's view of the arm follows the report, with WP[a] high only while all its conditions hold. A write frame of
the arm whose co-track window no longer holds is cut. Choices of the model it rests on: log entries 35, 36, 100. -/
def Obligations.SamplesAreQueuedAndServedInOrder : Prop :=
  (∀ (h : Head) (w : Wedge) (same : Bool) (s : State), s.up 9 = true → s.rd .SCE_STAT_STATE h.arm ≠ 0 → ∃ t,
    exec (.sampleRecord h w same) s = .next t ∧
    (t.arm h.arm).queue = (s.arm h.arm).queue ++ [{ s.record h w with inst := (t.arm h.arm).inst }] ∧
    (t.arm h.arm).inst = (if same then (s.arm h.arm).inst else (s.arm h.arm).inst + 1) ∧ s.only t [] [.arms]) ∧
  (∀ (h : Head) (w : Wedge) (s : State), (s.record h w).head = h.val ∧ (s.record h w).widx = w.widx.toNat ∧
    ((s.record h w).valid = true ↔ (s.record h w).miss = false ∧ (s.record h w).idxerr = false ∧ (s.record h w).lowamp = false ∧
      (s.record h w).trkerr = false) ∧
    (s.record h w).miss = !w.sam ∧
    (w.sam = true → (s.record h w).lowamp = w.lowamp ∧ (s.record h w).idxerr = (decide (480 ≤ w.widx.toNat) ||
      (match ((s.arm h.arm).mic h.pos).widx with | some k => w.widx.toNat != (k + 1) % 480 | none => false))) ∧
    (w.n = 0 → 0 ≤ burst (grayDecode w.gray.toNat) w.q → s.rd .SCE_HCAL1_PGAIN h.arm h.pos = 0x4000 →
      (s.record h w).pos = 1024 * grayDecode w.gray.toNat)) ∧
  (∀ (r : Nat) (x y : Sample) (l : List Sample), ((∀ z ∈ l, z.inst ≠ x.inst) → nextSample r (x :: l) = some x) ∧
    (y.inst = x.inst → x.head % 6 ≠ r → y.head % 6 = r → nextSample r (x :: y :: l) = some y) ∧
    (y.inst = x.inst → y.head % 6 < x.head % 6 → (∀ z ∈ x :: y :: l, z.head % 6 ≠ r ∧ y.head % 6 ≤ z.head % 6) →
      nextSample r (x :: y :: l) = some y)) ∧
  ∀ (a : Arm) (x : Sample) (s : State), s.up 8 = true → s.rd .SCE_STAT_STATE a ≠ 0 →
    nextSample (s.rd .SCE_STAT_REFACT a) (s.arm a).queue = some x → ∃ t, exec (.sampleService a) s = .next t ∧
      (t.arm a).queue = (s.arm a).queue.erase x ∧
      (s.armTracks a = true → x.valid = false → t.rdBit .SCE_HSTAT_PLAUS (x.head % 6) a = false) ∧
      NSet.has a t.pwr.plaus = (t.bit .SCE_HSTAT_ARMPL a && t.armLoaded a) ∧
      (∀ k, k < 4 → (t.rdBit .SPN_WP_WP k = true ↔ failBits (t.wpConds k) = 0)) ∧ s.memSame t ∧
      ∀ (p : Nat) (f : WFrame), p < 6 → t.windowOk (6 * a + p) = false → (t.chan (6 * a + p)).wf = some f → f.cut = true

/-- A missed deadline counts as late, and three in a row make a head implausible. With the speed loop running and its
output due, SAMPLE_DEADLINE_MISS of SCE[4] sets its late bit, counts it (wrapping) and, at the start of a run, raises
event 160; nothing else changes. On an arm it marks the first waiting record that will give an output and is not late
yet, and nothing happens where there is none (log entry 6, the model's choice). Of a valid record of the reference
head in seek, settle or follow, or the third in a row while loading, it sets LV, and once as many late samples in a
row as LATE_LIM are counted no head of the arm is plausible; of one whose head's microactuator loop runs it sets the
head's LM. A record that gives no output hides none behind it. -/
def Obligations.LateSamplesAreCounted : Prop :=
  (∀ s : State, s.spn.loop = true → s.spn.late = false → ∃ t, exec (.sampleDeadlineMiss 4) s = .next t ∧
    t.rdBit .SCE_LATE_LM 0 4 = true ∧ t.rd .SCE_LATECNT_COUNT 4 = (s.rd .SCE_LATECNT_COUNT 4 + 1) % 2 ^ 32 ∧ t.spn.late = true ∧
    (s.spn.lateRun = false → s.raised t 160) ∧ s.only t [.SCE_LATE_LM, .SCE_LATECNT_COUNT] [.spn, .ev]) ∧
  (∀ (a : Arm) (x : Sample) (rest : List Sample) (s : State), (s.arm a).queue = x :: rest → x.late = false →
    s.micRuns a (x.head % 6) = true → ∃ t, exec (.sampleDeadlineMiss ⟨a.val, by omega⟩) s = .next t ∧ t.rdBit .SCE_LATE_LM (x.head % 6) a = true ∧ s.memSame t) ∧
  (∀ (a : Arm) (s : State), s.firstDue a (s.arm a).okRun false (s.arm a).queue = none →
    exec (.sampleDeadlineMiss ⟨a.val, by omega⟩) s = .next s) ∧
  (∀ (a : Arm) (x : Sample) (lv lm : Bool) (s : State), s.firstDue a (s.arm a).okRun false (s.arm a).queue = some (x, lv, lm) →
    ∃ t, exec (.sampleDeadlineMiss ⟨a.val, by omega⟩) s = .next t ∧ (lv = true → t.rd .SCE_LATE_LV a = 1) ∧
      (lm = true → t.rdBit .SCE_LATE_LM (x.head % 6) a = true) ∧ (t.arm a).queue = markLate x (s.arm a).queue ∧ s.memSame t) ∧
  (∀ (a : Arm) (x : Sample) (rest : List Sample) (s : State), s.rd .SCE_STAT_STATE a = 5 → s.rd .SCE_CTL_MEN a = 0 →
    (x.valid = false ∨ x.head % 6 ≠ s.rd .SCE_STAT_REFACT a) →
    s.firstDue a (s.arm a).okRun false (x :: rest) = s.firstDue a
      (if x.head % 6 = s.rd .SCE_STAT_REFACT a ∧ (s.arm a).okRun < 3 then (if x.valid then (s.arm a).okRun + 1 else 0) else (s.arm a).okRun) false rest) ∧
  ∀ (a : Arm) (x : Sample) (rest : List Sample) (s : State), (s.arm a).queue = x :: rest → x.late = false → x.valid = true →
    (s.armTracks a = true ∨ (s.rd .SCE_STAT_STATE a = 2 ∧ 2 ≤ (s.arm a).okRun)) → x.head % 6 = s.rd .SCE_STAT_REFACT a → ∃ t, exec (.sampleDeadlineMiss ⟨a.val, by omega⟩) s = .next t ∧ t.rd .SCE_LATE_LV a = 1 ∧
      (max 1 (s.rd .SCE_PLAUS_N_LATE_LIM a) ≤ (s.arm a).lateN + 1 → ∀ p, p < 6 → t.rdBit .SCE_HSTAT_PLAUS p a = false) ∧ s.memSame t

/-- A bank in use takes no write, and castling is refused while one is pending or automatic. With no soft reset of the
SCE running, once step 8 is released: BANKSEL_SWAP while PENDING or AUTO is set only sets REFUSED and raises the fault
event; otherwise, with the loops stopped, ACTIVE changes at once, and with them running PENDING is set and ACTIVE
stays. BANK_WRITE to the inactive bank of an arm stores its four bytes and changes nothing else; to the active bank it
stores nothing, sets WRACT and raises the fault event. SCE[4]'s banks end at word 31. Choices of the model it rests
on: log entry 37. -/
def Obligations.BanksCastleOnRequestOnly : Prop :=
  (∀ (e : Sce) (s : State), s.up 8 = true → s.hears (selSce e) = true →
    ((s.bit .SCE_BANKSEL_PENDING e = true ∨ s.bit .SCE_BANKSEL_AUTO e = true) → ∃ t, exec (.bankselSwap e) s = .next t ∧
      t.rd .SCE_BANKSEL_REFUSED e = 1 ∧ s.raised t (if e.val < 4 then 147 + 4 * e.val else 162) ∧ s.only t [.SCE_BANKSEL_REFUSED] [.ev]) ∧
    (s.bit .SCE_BANKSEL_PENDING e = false → s.bit .SCE_BANKSEL_AUTO e = false → s.bankNow e < 2 → s.loopsRun e = false →
      ∃ t, exec (.bankselSwap e) s = .next t ∧ t.bankNow e = 1 - s.bankNow e ∧
        s.only t [.SCE_BANKSEL_ACTIVE, .SCE_BANKSEL_PENDING] []) ∧
    (s.bit .SCE_BANKSEL_PENDING e = false → s.bit .SCE_BANKSEL_AUTO e = false → s.bankNow e < 2 → s.loopsRun e = true →
      ∃ t, exec (.bankselSwap e) s = .next t ∧ t.bankNow e = s.bankNow e ∧ t.bit .SCE_BANKSEL_PENDING e = true ∧
        s.only t [.SCE_BANKSEL_PENDING] [.arms, .spn])) ∧
  (∀ (e : Sce) (b : Bool) (w : Fin 128) (v : W32) (s : State), e.val = 4 → 32 ≤ w.val → exec (.bankWrite e b w v) s = .next s) ∧
  ∀ (e : Sce) (b : Bool) (w : Fin 128) (v : W32) (s : State), s.up 5 = true → s.hears (selSce e) = true → (e.val = 4 → w.val < 32) → ∃ t, exec (.bankWrite e b w v) s = .next t ∧
    (s.bankNow e ≠ b2n b → t.mrd 4 (bankAddr e (b2n b) (4 * w)) = v.toNat ∧ s.memBut t (bankAddr e (b2n b) (4 * w)) 4 ∧
      s.regsBut t [] ∧ s.keeps t []) ∧
    (s.bankNow e = b2n b → t.rd .SCE_BANKSEL_WRACT e = 1 ∧ s.raised t (if e.val < 4 then 147 + 4 * e.val else 162) ∧
      s.only t [.SCE_BANKSEL_WRACT] [.ev])

/-- Each SEQ chooses the next address as Table 6-2 gives, and each action field of a nanoword acts as given. When the
microword at UPC has that SEQ and goes through, its row answers a next state: after its actions NEXT goes to UPC + 1
modulo 4,096; JUMP, CALL and RETURN go to OPND or the popped address where the branch condition is met and else to UPC
+ 1; CALL pushes UPC + 1; CALL with 8 entries or RETURN with none proceeds and pends vector CSTK; LOOP counts the
selected counter down and branches while it is non-zero; TRET restores the top frame's address, counters, F0 to F3,
nanoword and, OR-ed, the latched conditions, and pends CSTK where the call depth differs, or ILLOP at depth 0; HALT
halts with cause 1, empty stacks, SGAUTO 1 and the read gate closed. The actions leave UPC and the call stack alone.
Of a nanoword with one action in a microword of SEQ NEXT at depth 0: LCLD, SLOTINC, CNTDEC and DST 1 to 5 write their
register and nothing else but the sequencing; DST 6 hands on a preamp command, 7 records the microcode event, 8 pends
SWTRAP; CQLD loads the descriptor at HEAD, or pends ILLOP on an empty queue; CQDONE adds an entry; DREQ raises a
request of the template's kind until CNT of them, and pends ILLOP for another kind; SKIPCHK starts a scan; FARM arms
the framer; SG, RG and WG open and close their gates, or pend what forbids it. TSDROP drops the top frame. Above depth
0 an action that is the base code's does nothing but set OWNVIOL with event 6h + 2. Choices of the model it rests on:
log entries 39, 40, 106. -/
def Obligations.MicrowordsSequenceAsTheTable : Prop :=
  ∀ (h : Head) (s : State), let n := s.curNano h; let u := s.acted h; let next := (s.rd .HSE_UPC_UPC h + 1) % 4096
    let j := u.jc h n
    (∀ k, s.executes h k → u.rd .HSE_UPC_UPC h = s.rd .HSE_UPC_UPC h ∧ (u.hse h).cstk = (s.hse h).cstk) ∧
    (s.executes h 0 → ∃ t, exec (.next h) s = .next t ∧ t.rd .HSE_UPC_UPC h = next) ∧
    (s.executes h 1 → ∃ t, exec (.jump h) s = .next t ∧
      (nwJc n < 48 → t.rd .HSE_UPC_UPC h = if j.1 then mwOpnd (s.curWord h) else next) ∧
      (48 ≤ nwJc n → t.rd .HSE_UPC_UPC h = next ∧ t.caused h 2)) ∧
    (s.executes h 2 → ∃ t, exec (.call h) s = .next t ∧
      (nwJc n < 48 → j.1 = true → (s.hse h).cstk.length < 8 → t.rd .HSE_UPC_UPC h = mwOpnd (s.curWord h) ∧
        (t.hse h).cstk = next :: (s.hse h).cstk) ∧
      (nwJc n < 48 → j.1 = true → 8 ≤ (s.hse h).cstk.length → t.rd .HSE_UPC_UPC h = next ∧ t.caused h 3) ∧
      (nwJc n < 48 → j.1 = false → t.rd .HSE_UPC_UPC h = next ∧ (t.hse h).cstk = (s.hse h).cstk)) ∧
    (s.executes h 3 → ∃ t, exec (.ret h) s = .next t ∧
      (∀ a l, nwJc n < 48 → j.1 = true → (s.hse h).cstk = a :: l → t.rd .HSE_UPC_UPC h = a % 4096 ∧ (t.hse h).cstk = l) ∧
      (nwJc n < 48 → j.1 = true → (s.hse h).cstk = [] → t.rd .HSE_UPC_UPC h = next ∧ t.caused h 3) ∧
      (nwJc n < 48 → j.1 = false → t.rd .HSE_UPC_UPC h = next ∧ (t.hse h).cstk = (s.hse h).cstk)) ∧
    (s.executes h 4 → let r := if nwLcsel n then Reg.HSE_LC_LC1 else Reg.HSE_LC_LC0
      ∃ t, exec (.loop h) s = .next t ∧
      (u.rd r h = 0 → t.rd .HSE_UPC_UPC h = next ∧ t.rd r h = 0) ∧
      (u.rd r h ≠ 0 → t.rd .HSE_UPC_UPC h = mwOpnd (s.curWord h) ∧ t.rd r h = (u.rd r h - 1) % 65536)) ∧
    (s.executes h 6 → ∃ t, exec (.tret h) s = .next t ∧
      ((u.hse h).tstk = [] → t.rd .HSE_UPC_UPC h = next ∧ t.caused h 2) ∧
      ∀ f l, (u.hse h).tstk = f :: l → t.rd .HSE_UPC_UPC h = f.upc % 4096 ∧ t.rd .HSE_LC_LC0 h = f.lc0 % 65536 ∧
        t.rd .HSE_LC_LC1 h = f.lc1 % 65536 ∧ t.rd .HSE_FLAGS_F h = (u.rd .HSE_FLAGS_F h / 16 * 16 + f.flags % 16) % 256 ∧
        (t.hse h).nano = f.nano ∧ (t.hse h).latch = Nat.lor (u.hse h).latch f.latch ∧
        (f.csd = (s.hse h).cstk.length → (t.hse h).tstk = l) ∧ (f.csd ≠ (s.hse h).cstk.length → t.caused h 3)) ∧
    (s.executes h 7 → ∃ t, exec (.halt h) s = .next t ∧ t.running h = false ∧ t.rd .HSE_STAT_HALTC h = 1 ∧
      t.rd .HSE_CTL_SGAUTO h = 1 ∧ (t.hse h).tstk = [] ∧ (t.hse h).cstk = [] ∧ (t.chan h).staged = [] ∧ t.rgOpen h = false ∧
      t.wgOpen h = (u.wgOpen h && (u.chan h).wf.isSome)) ∧
    (s.executes h 0 → (s.hse h).tstk = [] →
      (∀ i : Nat, i < 65536 → ∀ e ∈ ([(2 ^ 17 + i * 2 ^ 32, .HSE_LC_LC0, i), (2 ^ 18 + i * 2 ^ 32, .HSE_LC_LC1, i),
          (2 ^ 17 + 2 ^ 18, .HSE_LC_LC0, s.rd .HSE_SLOTCNT_CNT h), (2 ^ 19, .HSE_SLOTCNT_SLOT, (s.rd .HSE_SLOTCNT_SLOT h + 1) % 2 ^ 14),
          (2 ^ 27, .HSE_SLOTCNT_CNT, s.rd .HSE_SLOTCNT_CNT h - 1), (2 ^ 28 + i * 2 ^ 32, .HSE_CMP_CMP0, i),
          (2 * 2 ^ 28 + i * 2 ^ 32, .HSE_CMP_CMP1, i), (3 * 2 ^ 28 + i * 2 ^ 32, .HSE_WCMP_WCMP, i % 512),
          (4 * 2 ^ 28 + i * 2 ^ 32, .HSE_FLAGS_F, Nat.lor (s.rd .HSE_FLAGS_F h) (i % 256)),
          (5 * 2 ^ 28 + i * 2 ^ 32, .HSE_FLAGS_F, Nat.land (s.rd .HSE_FLAGS_F h) (255 - i % 256)),
          (2 ^ 28 + 2 ^ 48, .HSE_CMP_CMP0, (s.hse h).ofs % 65536), (2 ^ 28 + 2 * 2 ^ 48, .HSE_CMP_CMP0, (s.hse h).wedge % 65536),
          (2 ^ 28 + i * 2 ^ 32 + 3 * 2 ^ 48, .HSE_CMP_CMP0, (s.rd .HSE_CMP_CMP0 h + i) % 65536),
          (2 ^ 28 + i * 2 ^ 32 + 4 * 2 ^ 48, .HSE_CMP_CMP0, (s.rd .HSE_CMP_CMP1 h + i) % 65536)] : List (Nat × Reg × Nat)),
        n = e.1 → s.Canonical → ∃ t, exec (.next h) s = .next t ∧ t.rd e.2.1 h = e.2.2 ∧
          s.headOnly t h [e.2.1, .HSE_UPC_UPC, .HSE_UPC_DEPTH, .HSE_UPC_CSD, .HSE_STAT_STATE, .HSE_TPEND_PEND] []) ∧
      (∀ i : Nat, i < 65536 → (n = 6 * 2 ^ 28 + i * 2 ^ 32 → ∃ t, exec (.next h) s = .next t ∧ (t.hse h).hl = some i ∧ (t.hse h).hlErr = false) ∧
        (n = 7 * 2 ^ 28 + i * 2 ^ 32 → ∃ t, exec (.next h) s = .next t ∧
          s.recorded t (6 * h + 2) [(1, 0), (2, i), (2, s.rd .HSE_UPC_UPC h)]) ∧
        (n = 8 * 2 ^ 28 + i * 2 ^ 32 → ∃ t, exec (.next h) s = .next t ∧ t.rdBit .HSE_TPEND_PEND 14 h = true)) ∧
      (n = 2 ^ 10 → ∃ t, exec (.next h) s = .next t ∧ let i := s.rd .HSE_CQPTR_HEAD h
        (i = s.rd .HSE_CQPTR_TAIL h → t.caused h 2) ∧
        (i ≠ s.rd .HSE_CQPTR_TAIL h → t.rd .HSE_CQPTR_HEAD h = (i + 1) % 16 ∧ (t.hse h).tmpl = s.mrd 8 (cqAddr h i) ∧
          t.rd .HSE_TRK_TRK h = s.mrd 4 (cqAddr h i + 8) % 2 ^ 22 ∧ t.rd .HSE_SLOTCNT_SLOT h = s.mrd 2 (cqAddr h i + 12) % 2 ^ 14 ∧
          t.rd .HSE_SLOTCNT_CNT h = s.mrd 2 (cqAddr h i + 14) % 2 ^ 13 ∧ (t.hse h).reqs = 0 ∧ (t.hse h).wrote = 0 ∧
          (t.chan h).xqi = i ∧ (t.chan h).timer = false)) ∧
      (∀ st, st < 16 → n = 2 ^ 11 + st * 2 ^ 12 → ∃ t, exec (.next h) s = .next t ∧ (t.hse h).done = (s.hse h).done ++
        [⟨(s.hse h).tmpl % 2 ^ 17, st, ((s.hse h).cnt0 - s.rd .HSE_SLOTCNT_CNT h) % 8192, (s.hse h).qidx⟩]) ∧
      (n = 2 ^ 8 → ∃ t, exec (.next h) s = .next t ∧ let k := tagKind (s.hse h).tmpl
        (k ∉ [2, 3, 9, 10] → t.caused h 2) ∧
        (k ∈ [2, 3, 9, 10] → (s.hse h).cnt0 ≤ (s.hse h).reqs → (t.hse h).raisedW = (s.hse h).raisedW ∧ (t.hse h).raisedR = (s.hse h).raisedR) ∧
        (k ∈ [2, 3, 9, 10] → (s.hse h).reqs < (s.hse h).cnt0 → (t.hse h).reqs = (s.hse h).reqs + 1 ∧
          (if k = 2 ∨ k = 10 then (t.hse h).raisedW.length = (s.hse h).raisedW.length + 1 ∧ (t.hse h).raisedR = (s.hse h).raisedR
            else (t.hse h).raisedR.length = (s.hse h).raisedR.length + 1 ∧ (t.hse h).raisedW = (s.hse h).raisedW))) ∧
      (n = 2 ^ 9 → ∃ t, exec (.next h) s = .next t ∧ (t.hse h).scan = true ∧ (t.hse h).skipRdy = false ∧
        (t.hse h).scanTrk = s.rd .HSE_TRK_TRK h ∧ (t.hse h).scanSlot = s.rd .HSE_SLOTCNT_SLOT h) ∧
      (n = 2 ^ 7 → ∃ t, exec (.next h) s = .next t ∧ (s.rgOpen h = false → (t.chan h).armed = true) ∧
        (s.rgOpen h = true → (s.chan h).reading = false → (s.chan h).rclose = false → s.dataTime h = true → s.windowOk h = true →
          (t.chan h).reading = true ∧ (t.chan h).rf.length = (s.chan h).rf.length + 1)) ∧
      (n = 2 ∨ n = 4 → ∃ t, exec (.next h) s = .next t ∧
        t.rdBit .HSE_STAT_GATES 0 h = (if s.bit .HSE_CTL_SGAUTO h then s.rdBit .HSE_STAT_GATES 0 h else decide (n = 2))) ∧
      (n = 2 ^ 3 → ∃ t, exec (.next h) s = .next t ∧ (s.wgOpen h = true → t.caused h 2) ∧
        (s.wgOpen h = false → s.rgOpen h = false → (s.rateOk h = false → t.caused h 7 ∧ t.rgOpen h = false) ∧
          (s.rateOk h = true → s.windowOk h = false → t.caused h 5 ∧ s.raised t (6 * h) ∧ t.rgOpen h = false) ∧
          (s.rateOk h = true → s.windowOk h = true → t.rgOpen h = true))) ∧
      (n = 2 ^ 4 → ∃ t, exec (.next h) s = .next t ∧ ((s.chan h).reading = false → t.rgOpen h = false) ∧
        (s.rgOpen h = true → (s.chan h).reading = true → t.rgOpen h = true ∧ (t.chan h).rclose = true)) ∧
      (n = 2 ^ 5 → ∃ t, exec (.next h) s = .next t ∧ (s.rgOpen h = true → t.caused h 2) ∧
        (s.rgOpen h = false → s.wgOpen h = false → (s.rateOk h = false → t.caused h 7 ∧ t.wgOpen h = false) ∧
          (s.rateOk h = true → s.windowOk h = false → t.caused h 5 ∧ s.raised t (6 * h) ∧ t.wgOpen h = false) ∧
          (s.rateOk h = true → s.windowOk h = true → s.permitOk h = false → t.caused h 6 ∧ t.wgOpen h = false) ∧
          (s.rateOk h = true → s.windowOk h = true → s.permitOk h = true → s.bit .HL_STAT_FLT (h / 6) = true →
            t.caused h 13 ∧ t.wgOpen h = false) ∧
          ∀ f l, s.rateOk h = true → s.windowOk h = true → s.permitOk h = true → s.bit .HL_STAT_FLT (h / 6) = false →
            (s.chan h).wf = none → (s.chan h).staged = f :: l → f.poison = false → t.wgOpen h = true)) ∧
      (n = 2 ^ 6 → ∃ t, exec (.next h) s = .next t ∧ ((s.chan h).wf = none → t.wgOpen h = false) ∧
        (s.wgOpen h = true → (s.chan h).wf.isSome = true → t.wgOpen h = true ∧ (t.chan h).wclose = true))) ∧
    (s.executes h 0 → n = 2 ^ 52 → ∃ t, exec (.next h) s = .next t ∧ ((s.hse h).tstk = [] → t.caused h 2) ∧
      ∀ f l, (s.hse h).tstk = f :: l → (t.hse h).tstk = l) ∧
    (s.executes h 0 → (s.hse h).tstk ≠ [] → ∀ k ∈ [1, 2, 3, 4, 5, 6, 7, 8, 10, 11, 19, 27, 28, 29], n = 2 ^ k →
      ∃ t, exec (.next h) s = .next t ∧ t.rd .HSE_STAT_OWNVIOL h = 1 ∧ ((s.hse h).own = false → s.raised t (6 * h + 2)) ∧
        s.headOnly t h [.HSE_STAT_OWNVIOL, .HSE_UPC_UPC, .HSE_UPC_DEPTH, .HSE_UPC_CSD, .HSE_STAT_STATE, .HSE_TPEND_PEND] [.ev] ∧
        (t.hse h).done = (s.hse h).done ∧ (t.hse h).raisedW = (s.hse h).raisedW ∧ t.chan h = s.chan h)

/-- A WAIT waits, times out or proceeds, and traps, starts and stops of an engine act as their rules give. WAIT on an
engine that does not wait yet: on a reserved condition it pends ILLOP and proceeds; unmet, it waits at its address
with no action, or halts with cause 2 where a RUN = 0 waits outside an ATOM span; met, it acts and proceeds to UPC + 1
while the engine runs on, or stalls at its address. Where the wedge timer may have passed the compare value since it
was last known, the test's answer is free. A WAIT under way is no new one (log entry 6, the model's choice).
WAIT_CONDITION_MET proceeds a waiting WAIT, and one whose actions stalled; WAITTMO with a COUNT that has passed (of
marks found, in wedges) ends a wait that does not stall, pends WAITTMO and leaves the address. ILLEGAL_SEQ proceeds
and pends ILLOP. TRAP_ENTRY outside an ATOM span takes the lowest pending unmasked vector whose frame is not on the
stack: it pushes the frame of Table 6-9 and goes to TVEC, or halts with cause 4 at depth 8; a parity error halts with
cause 3. ATOM_OVERRUN sets ATOMOVR with event 6h + 2. From step 9 on HSE_RUN_START starts a halted engine at ENTRY
with empty stacks, flags and counters and does nothing to a running one; before it RUN is stored. HSE_RUN_STOP halts a
running one with cause 2, or waits for the end of an ATOM span. Neither acts during the engine's soft reset. Choices
of the model it rests on: log entries 6, 40, 41, 42, 43, 44, 101. -/
def Obligations.WaitsTrapsAndHaltsFollowTheirRules : Prop :=
  ∀ (h : Head) (s : State), s.Canonical → let next := (s.rd .HSE_UPC_UPC h + 1) % 4096; let o := mwOpnd (s.curWord h)
    let g := s.timerGuess h (opCond o)
    (s.ready h 5 = true → (s.hse h).waiting = true → exec (.wait h) s = .next s) ∧
    (s.ready h 5 = true → (s.hse h).waiting = false → ∃ t, exec (.wait h) s = .next t ∧
      (48 ≤ opCond o → t.rd .HSE_UPC_UPC h = next ∧ t.caused h 2) ∧
      (opCond o < 48 → g.condNow h (opCond o) = opInv o → (s.hse h).stopping = false → (t.hse h).waiting = true ∧
        t.rd .HSE_STAT_STATE h = (if (s.hse h).tstk = [] then 2 else 3) ∧
        s.headOnly t h [.HSE_STAT_STATE, .HSE_UPC_DEPTH, .HSE_UPC_CSD, .HSE_WT_WT] [.free] ∧ t.chan h = s.chan h) ∧
      (opCond o < 48 → g.condNow h (opCond o) = opInv o → (s.hse h).stopping = true → nwAtom (s.curNano h) = false →
        t.running h = false ∧ t.rd .HSE_STAT_HALTC h = 2) ∧
      (opCond o < 48 → g.condNow h (opCond o) ≠ opInv o → nanoBad (s.curNano h) = false → s.stalls h (s.curNano h) = true →
        (s.hse h).stopping = false → (t.hse h).waiting = true ∧ (t.hse h).stalled = true ∧ t.rd .HSE_UPC_UPC h = s.rd .HSE_UPC_UPC h) ∧
      (opCond o < 48 → g.condNow h (opCond o) ≠ opInv o → nanoBad (s.curNano h) = false → s.stalls h (s.curNano h) = false →
        t.running h = true → t.rd .HSE_UPC_UPC h = next ∧ (t.hse h).waiting = false)) ∧
    (s.ready h 5 = true → (s.hse h).waiting = true → ((s.hse h).stalled = true ∨ s.condNow h (opCond o) ≠ opInv o ∨
        ((opCond o = 3 ∨ opCond o = 4) ∧ opInv o = false)) → nanoBad (s.hse h).nano = false →
      s.stalls h (s.hse h).nano = false → ∃ t, exec (.waitConditionMet h) s = .next t ∧
      (t.running h = true → t.rd .HSE_UPC_UPC h = next ∧ (t.hse h).waiting = false)) ∧
    (s.ready h 5 = true → (s.hse h).waiting = true → (s.hse h).stalled = false → s.mrd 4 (hseBase h + 0x3080 + 4 * opTsel o) % 2 ^ 24 ≠ 0 →
      ((s.mrd 4 (hseBase h + 0x3080 + 4 * opTsel o)).testBit 24 = false ∨
        s.mrd 4 (hseBase h + 0x3080 + 4 * opTsel o) % 2 ^ 24 ≤ (s.hse h).wedges) →
      s.condNow h (opCond o) = opInv o → ∃ t, exec (.waittmo h) s = .next t ∧ t.caused h 4 ∧ (t.hse h).waiting = false ∧
        t.rd .HSE_UPC_UPC h = s.rd .HSE_UPC_UPC h) ∧
    (s.running h = true → 8 ≤ mwSeq (s.curWord h) → s.atBreak h = false → ∃ t, exec (.illegalSeq h) s = .next t ∧
      t.rd .HSE_UPC_UPC h = next ∧ t.caused h 2) ∧
    (∀ v, s.running h = true → s.deferred h = false → s.nextVec h = some v →
      (s.rdBit .HSE_TPEND_PEND v h = true ∧ s.rdBit .HSE_TMASK_MASK v h = false ∧ s.vecOn h v = false ∧
        ∀ w, w < v → s.rdBit .HSE_TPEND_PEND w h = false ∨ s.rdBit .HSE_TMASK_MASK w h = true ∨ s.vecOn h w = true) ∧
      ∃ t, exec (.trapEntry h false) s = .next t ∧
        (8 ≤ (s.hse h).tstk.length → t.running h = false ∧ t.rd .HSE_STAT_HALTC h = 4) ∧
        ((s.hse h).tstk.length < 8 → t.rd .HSE_STAT_STATE h = 3 ∧
          t.rd .HSE_UPC_UPC h = s.mrd 4 (hseBase h + 0x3040 + 4 * v) % 4096 ∧
          (v ≠ 15 → t.rdBit .HSE_TPEND_PEND v h = false) ∧
          ∃ f, (t.hse h).tstk = f :: (s.hse h).tstk ∧ f.upc = s.rd .HSE_UPC_UPC h ∧ f.csd = (s.hse h).cstk.length ∧ f.vec = v ∧
            f.lc0 = s.rd .HSE_LC_LC0 h ∧ f.lc1 = s.rd .HSE_LC_LC1 h ∧ f.flags = s.rd .HSE_FLAGS_F h ∧
            f.latch = (s.hse h).latch ∧ f.nano = (s.hse h).nano ∧ f.waiting = (mwSeq (s.curWord h) == 5))) ∧
    (s.running h = true → ∃ t, exec (.trapEntry h true) s = .next t ∧ t.running h = false ∧ t.rd .HSE_STAT_HALTC h = 3 ∧
      s.raised t (6 * h + 1)) ∧
    (s.running h = true → s.deferred h = true → ∃ t, exec (.atomOverrun h) s = .next t ∧ t.rd .HSE_STAT_ATOMOVR h = 1 ∧
      s.raised t (6 * h + 2)) ∧
    (s.up 5 = true → s.rst.step < 9 → s.hears (selHse h) = true → ∃ t, exec (.hseRunStart h) s = .next t ∧ t.rd .HSE_CTL_RUN h = 1 ∧
      s.headOnly t h [.HSE_CTL_RUN] [] ∧ t.hse h = s.hse h ∧ t.chan h = s.chan h) ∧
    (s.up 9 = true → s.running h = true → exec (.hseRunStart h) s = .next s) ∧
    (s.up 9 = true → s.hears (selHse h) = true → s.running h = false → ∃ t, exec (.hseRunStart h) s = .next t ∧ t.rd .HSE_CTL_RUN h = 1 ∧
      t.rd .HSE_STAT_STATE h = 1 ∧ t.rd .HSE_UPC_UPC h = s.mrd 4 (hseBase h + 0x3000) % 4096 ∧ (t.hse h).cstk = [] ∧
      (t.hse h).tstk = [] ∧ (t.hse h).latch = 0 ∧ t.rd .HSE_FLAGS_F h = 0 ∧ t.rd .HSE_LC_LC0 h = 0 ∧ t.rd .HSE_LC_LC1 h = 0) ∧
    (s.up 5 = true → s.hears (selHse h) = true → s.running h = false → ∃ t, exec (.hseRunStop h) s = .next t ∧ t.rd .HSE_CTL_RUN h = 0 ∧
      s.headOnly t h [.HSE_CTL_RUN] [] ∧ t.hse h = s.hse h ∧ t.chan h = s.chan h) ∧
    (s.up 5 = true → s.hears (selHse h) = true → s.running h = true → ∃ t, exec (.hseRunStop h) s = .next t ∧ t.rd .HSE_CTL_RUN h = 0 ∧
      (s.deferred h = false → t.running h = false ∧ t.rd .HSE_STAT_HALTC h = 2) ∧
      (s.deferred h = true → t.running h = true ∧ (t.hse h).stopping = true))

/-- Whatever its microcode, a sequencer changes its own engine and channel only. Every row that runs, traps, starts or
stops head h's engine, when it answers a next state, leaves alone the registers of every other head and unit, the
engines and channels of the other heads, every part of the state but the event queue, the outputs and the free-value
counter, and every byte of memory outside WSEQ and head h's own defect skip table (to which writes held during a scan
go). Choices of the model it rests on: log entries 43, 101. -/
def Obligations.MicrocodeTouchesItsOwnHeadOnly : Prop :=
  ∀ (h : Head) (p : Bool) (s t : State), ∀ c ∈ ([.next h, .jump h, .call h, .ret h, .loop h, .wait h, .waitConditionMet h, .waittmo h,
      .tret h, .halt h, .illegalSeq h, .trapEntry h p, .atomOverrun h, .hseRunStart h, .hseRunStop h] : List Instr),
    exec c s = .next t → (∀ e ∈ (s.hse h).held, e.1 < 1024) →
    (∀ x, (x < hseBase h + 0x2000 ∨ hseBase h + 0x3000 ≤ x) → (x < 0x0100C700 ∨ 0x0100C708 ≤ x) → t.mb x = s.mb x) ∧
    s.headBut t h [.HSE_CTL_RUN, .HSE_CTL_SGAUTO, .HSE_STAT_STATE, .HSE_STAT_HALTC, .HSE_STAT_OWNVIOL, .HSE_STAT_ATOMOVR, .HSE_STAT_GATES,
      .HSE_UPC_UPC, .HSE_UPC_DEPTH, .HSE_UPC_CSD, .HSE_TPEND_PEND, .HSE_FLAGS_F, .HSE_LC_LC0, .HSE_LC_LC1, .HSE_WT_WT, .HSE_WPER_WPER,
      .HSE_TRK_TRK, .HSE_SLOTCNT_SLOT, .HSE_SLOTCNT_CNT, .HSE_CMP_CMP0, .HSE_CMP_CMP1, .HSE_WCMP_WCMP, .HSE_CQPTR_HEAD,
      .CHAN_STAT_SBVALID, .CHAN_STAT_RDBUSY, .CHAN_STAT_LOCKED, .CHAN_STAT_RLIM, .CHAN_STAT_POISON, .CHAN_BITRATE_RATE,
      .CHAN_RATE_ZRATE] [.ev, .out, .free]

/-- No microcode opens a write gate unless rate, window, plausibility, permit and preamp all allow it. For every
state, every head and every row that runs its microcode, if the head's write gate is closed before and open after,
then RATE_OK holds, the co-track window holds for TRK, the head is plausible, its arm's write permit is active and
HL_FLT_N is high. -/
def Obligations.WriteGateOpensOnlyWithinItsConditions : Prop :=
  ∀ (h : Head) (s t : State), ∀ c ∈ ([.next h, .jump h, .call h, .ret h, .loop h, .wait h, .waitConditionMet h, .tret h, .halt h] : List Instr),
    exec c s = .next t → s.wgOpen h = false → t.wgOpen h = true →
    t.rateOk h = true ∧ t.windowOk h = true ∧ t.plausOk h = true ∧ t.rdBit .SPN_WP_WP (h / 6) = true ∧ t.bit .HL_STAT_FLT (h / 6) = false

/-- Doorbells, queues, stores, skip checks, slot boundaries, keep-out windows and address marks act as given. At the
step that reaches the engine, with no soft reset of it: doorbells pend CMD and ABORT; a TAIL write stores only TAIL +
1 where that is not HEAD, and else sets CQERR; a HSE_DONE read pops the oldest entry (0 with none, or during the soft
reset); a store write lands only while the engine is halted, and else sets STWR with event 6h + 2; a skip-table write
lands at once or is held by a scan; a scan's end sets SKIPRDY and DEFECT from the used entries. In data time a slot
boundary sets SLOTB and keeps a slot just read; with the write gate open it starts the staged frame, taking a WSEQ, or
with none staged and frames still to write closes the gate and pends DMA. Keep-out start and end set the window and
the timer, and at the end a paused frame resumes and a waiting one starts. Where a condition of R25 is lost, or has
cut the frame in progress, and PERMIT has not been taken for it yet, PERMIT pends and the gate closes at the frame's
end; the frame does not count. A found mark restarts the timer and, after a found mark, measures WPER; a missing one,
or one that passes a closed servo gate, restarts it only, and the fourth in a row loses the timing. Choices of the
model it rests on: log entries 6, 43, 45, 101, 106. -/
def Obligations.CommandQueueStoresAndTimersOfAHead : Prop :=
  ∀ (h : Head) (s : State),
    (s.up 9 = true → s.hears (selHse h) = true → ∃ t, exec (.doorbellCmd h) s = .next t ∧ t.rdBit .HSE_TPEND_PEND 10 h = true ∧
      s.headOnly t h [.HSE_TPEND_PEND] [] ∧ t.hse h = s.hse h) ∧
    (s.up 9 = true → s.hears (selHse h) = true → ∃ t, exec (.doorbellAbort h) s = .next t ∧ t.rdBit .HSE_TPEND_PEND 11 h = true ∧
      s.headOnly t h [.HSE_TPEND_PEND] [] ∧ t.hse h = s.hse h) ∧
    (∀ v : BitVec 4, s.up 5 = true → s.hears (selHse h) = true → ∃ t, exec (.cqptrTailWrite h v) s = .next t ∧
      s.headOnly t h [.HSE_CQPTR_TAIL, .HSE_STAT_CQERR] [] ∧
      (v.toNat = (s.rd .HSE_CQPTR_TAIL h + 1) % 16 → v.toNat ≠ s.rd .HSE_CQPTR_HEAD h → t.rd .HSE_CQPTR_TAIL h = v.toNat) ∧
      ((v.toNat ≠ (s.rd .HSE_CQPTR_TAIL h + 1) % 16 ∨ v.toNat = s.rd .HSE_CQPTR_HEAD h) →
        t.rd .HSE_STAT_CQERR h = 1 ∧ t.rd .HSE_CQPTR_TAIL h = s.rd .HSE_CQPTR_TAIL h)) ∧
    (s.up 9 = true → ∃ t, exec (.hseDoneRead h) s = .next t ∧ s.headOnly t h [] [.out] ∧
      ((s.hse h).done = [] ∨ s.hears (selHse h) = false → s.sent t [.popped .HSE_DONE_CMDTAG h 0]) ∧
      ∀ e l, s.hears (selHse h) = true → (s.hse h).done = e :: l → (t.hse h).done = l ∧
        s.sent t [.popped .HSE_DONE_CMDTAG h (e.tag + e.status * 2 ^ 17 + e.frames * 2 ^ 21 + e.qidx * 2 ^ 34 + 2 ^ 63)]) ∧
    (∀ (ofs : W16) (v : W32), s.up 5 = true → s.hears (selHse h) = true → hseStore ofs.toNat = true →
      ∃ t, exec (.hseStoreWrite h ofs v) s = .next t ∧
      (s.running h = false → t.mrd 4 (hseBase h + ofs.toNat) = storeKeep ofs.toNat v.toNat ∧ s.memBut t (hseBase h + ofs.toNat) 4 ∧
        s.headBut t h [] []) ∧
      (s.running h = true → t.rd .HSE_STAT_STWR h = 1 ∧ s.raised t (6 * h + 2) ∧ s.headOnly t h [.HSE_STAT_STWR] [.ev])) ∧
    (∀ (w : Fin 1024) (v : W32), s.up 5 = true → s.hears (selHse h) = true → ∃ t, exec (.defectTableWrite h w v) s = .next t ∧
      s.headBut t h [] [] ∧
      ((s.hse h).scan = false → t.mrd 4 (hseBase h + 0x2000 + 4 * w) = v.toNat ∧ s.memBut t (hseBase h + 0x2000 + 4 * w) 4) ∧
      ((s.hse h).scan = true → s.memSame t ∧ (t.hse h).held = (s.hse h).held ++ [(w.val, v.toNat)])) ∧
    ((s.hse h).scan = true → ∃ t, exec (.skipCheckDone h) s = .next t ∧ (t.hse h).scan = false ∧ (t.hse h).skipRdy = true ∧
      (t.hse h).held = [] ∧ s.headBut t h [] [] ∧
      ((t.hse h).defect = true ↔ ∃ i, i < min 512 (s.rd .HSE_DSKN_DSKN h) ∧
        entryHits (s.mrd 8 (hseBase h + 0x2000 + 8 * i)) (s.hse h).scanTrk (s.hse h).scanSlot = true)) ∧
    ((s.chan h).timer = true → s.dataTime h = true → ∃ t, exec (.slotBoundary h) s = .next t ∧ (t.hse h).latch.testBit latSlotb = true ∧
      ((s.chan h).reading = true → (t.chan h).kept = (s.chan h).lost.or (s.chan h).rf.getLast?) ∧
      ((s.chan h).reading = false → s.wgOpen h = true → (s.chan h).wf = none → (s.chan h).wclose = false →
        ((s.chan h).staged = [] → (s.hse h).wrote < (s.hse h).cnt0 → t.wgOpen h = false ∧ t.rdBit .HSE_TPEND_PEND 9 h = true ∧
          t.wseq = s.wseq) ∧
        (∀ f l, (s.chan h).staged = f :: l → f.poison = false → s.windowOk h = true → s.permitOk h = true →
          s.bit .HL_STAT_FLT (h / 6) = false → t.wgOpen h = true ∧ t.wseq = (s.wseq + 1) % 2 ^ 64 ∧ (t.chan h).wf.isSome = true))) ∧
    (s.rd .HSE_WPER_WPER h ≠ 0 → ∃ t, exec (.keepOutStart h) s = .next t ∧ (t.hse h).ko = true ∧ (t.chan h).wg = false ∧
      t.rd .HSE_WT_WT h = max (s.rd .HSE_WT_WT h) (s.rd .HSE_WPER_WPER h - s.rd .HSE_KO_KO_PRE h) % 65536 ∧
      (s.bit .HSE_CTL_SGAUTO h = true → t.rdBit .HSE_STAT_GATES 0 h = true) ∧ s.headOnly t h [.HSE_WT_WT, .HSE_STAT_GATES] [.out]) ∧
    (s.rd .HSE_WPER_WPER h ≠ 0 → (s.hse h).ko = true → ∃ t, exec (.keepOutEnd h) s = .next t ∧ (t.hse h).ko = false ∧
      t.rd .HSE_WT_WT h = (s.rd .HSE_KO_KO_POST h + 1) % 65536 ∧
      ((s.chan h).wf.isSome = true → (t.chan h).wg = true ∧ (t.chan h).wf = (s.chan h).wf ∧ s.headOnly t h [.HSE_WT_WT, .HSE_STAT_GATES] [.out]) ∧
      (∀ f l, (s.chan h).wf = none → (s.chan h).startW = true → (s.chan h).staged = f :: l → f.poison = false → s.windowOk h = true →
        s.permitOk h = true → s.bit .HL_STAT_FLT (h / 6) = false → t.wseq = (s.wseq + 1) % 2 ^ 64 ∧ (t.chan h).wf.isSome = true) ∧
      ((s.chan h).wf = none → (s.chan h).startW = false → (s.chan h).startR = true → s.windowOk h = true → (t.chan h).reading = true) ∧
      ((s.chan h).wf = none → (s.chan h).startW = false → (s.chan h).startR = false → t.chan h = s.chan h ∧
        s.headOnly t h [.HSE_WT_WT, .HSE_STAT_GATES] [])) ∧
    (s.wgOpen h = true → (∀ f, (s.chan h).wf = some f → f.told = false) → (s.permitOk h = false ∨ s.windowOk h = false ∨
        ∃ f, (s.chan h).wf = some f ∧ f.cut = true) →
      ∃ t, exec (.writePermitDrop h) s = .next t ∧ t.rdBit .HSE_TPEND_PEND 6 h = true ∧ ((s.chan h).wf = none → t.wgOpen h = false) ∧
      ∀ f, (s.chan h).wf = some f → t.wgOpen h = true ∧ (t.chan h).wclose = true ∧ (t.chan h).wf = some { f with cut := true, told := true }) ∧
    (∀ f, (s.chan h).wf = some f → f.told = true → exec (.writePermitDrop h) s = .next s) ∧
    (∀ (widx : BitVec 9) (n : W16), s.up 9 = true → s.armLoaded (h / 6) = true → s.gateShut h = false →
      ∃ t, exec (.servoAddressMark h widx n) s = .next t ∧ t.rd .HSE_WT_WT h = 0 ∧ t.rd .HSE_WT_WIDX h = widx.toNat ∧
        (t.hse h).latch.testBit latSam = true ∧ (t.hse h).servo = true ∧ (t.hse h).miss = 0 ∧ (t.hse h).direct = true ∧
        (t.hse h).ko = true ∧ (t.hse h).wedges = (s.hse h).wedges + 1 ∧
        t.rd .HSE_WPER_WPER h = (if (s.hse h).direct then n.toNat else s.rd .HSE_WPER_WPER h) ∧
        s.headOnly t h [.HSE_WT_WT, .HSE_WT_WIDX, .HSE_WPER_WPER, .HSE_STAT_GATES] [.out]) ∧
    (∀ (widx : BitVec 9) (n : W16), s.gateShut h = true → exec (.servoAddressMark h widx n) s = exec (.samMissing h) s) ∧
    (s.up 9 = true → s.armLoaded (h / 6) = true → ∃ t, exec (.samMissing h) s = .next t ∧ (t.hse h).direct = false ∧
      t.rd .HSE_WPER_WPER h = s.rd .HSE_WPER_WPER h ∧ t.rd .HSE_WT_WT h = 0 ∧
      ((s.hse h).servo = false ∨ (s.hse h).miss + 1 < 4 → (t.hse h).miss = (s.hse h).miss + 1 ∧ (t.hse h).servo = (s.hse h).servo ∧
        (t.hse h).ko = true ∧ s.headOnly t h [.HSE_WT_WT, .HSE_STAT_GATES] [.out]) ∧
      ((s.hse h).servo = true → 4 ≤ (s.hse h).miss + 1 → (t.hse h).servo = false ∧ t.rdBit .HSE_TPEND_PEND 8 h = true ∧
        (s.armTracks (h / 6) = true → (∀ p, p < 6 → p ≠ h % 6 → (s.hse (6 * (h / 6) + p)).servo = false) →
          t.rd .SCE_STAT_STATE (h / 6) = 6)))

/-- A write frame that ends counts unless cut; a read frame ends good, by gambit, or failed with its cause. In data
time WRITE_FRAME_END puts the frame on the medium and, unless a condition of R25 was lost, counts it for its run's
preset and latches WDONE; a cut frame ends the write, with vector PERMIT unless it has been taken. HL_WG falls behind
a frame that none follows. A mark in bits 104 to 152 within MARK_TOL becomes a candidate, the first latching SYNC, and
no other does. A window that closes without one ends the frame with RESULT 2, NOSYNC, DDONE, FRAMEFAIL and event 6h +
3. A converged decode ends with RESULT 0, or 1 at a later candidate, when every tag check passes, and else with the
first check that fails; a parity frame counts for the later frames of its run; a decode that fails on the frame's
budget ends it with RESULT 4, another goes on at the next candidate only where the gambit allows, and else ends with
RESULT 3; a spent budget ends with RESULT 4. A frame's estimate is made once. A CHAN_RDEC_GO write sets its fields
from step 5 on and starts the offline decode only with the gate closed and SBVALID; its result, judged by the last
expectation, replaces the last one. EN is stored before step 9 and then starts the matrix check, which alone sets ENA
or HBAD with event 6h + 5. CLRSTAT clears the counters. Where its occasion is missing a row changes nothing (log entry
6, the model's choice). Choices of the model it rests on: log entries 6, 45, 47, 101. -/
def Obligations.ChannelFramesEndAsTheTagsDecide : Prop :=
  ∀ (h : Head) (s : State), let c := s.chan h
    (∀ f, c.wf = some f → s.dataTime h = true → ∃ t, exec (.writeFrameEnd h) s = .next t ∧ (t.chan h).wf = none ∧
      (∃ l, s.sent t (.medium h (sectorFrame (s.matrix h) f.data) ::
          ((if (c.wclose || s.writeCut h f || c.staged.isEmpty) && c.wg then [.writeGate h false] else []) ++ l)) ∧
        (s.oceActive h = none → l = [])) ∧
      (c.wclose = true ∨ f.cut = true ∨ s.permitOk h = false ∨ s.windowOk h = false → t.wgOpen h = false) ∧
      (f.told = false → f.cut = true ∨ s.permitOk h = false ∨ s.windowOk h = false → t.rdBit .HSE_TPEND_PEND 6 h = true) ∧
      (f.cut = false → s.permitOk h = true → s.windowOk h = true → (t.hse h).latch.testBit latWdone = true ∧
        (t.hse h).wrote = (s.hse h).wrote + 1 ∧ t.rd .CHAN_NWR_COUNT h = (s.rd .CHAN_NWR_COUNT h + 1) % 2 ^ 32 ∧
        t.rd .CHAN_WAFRM_COUNT h f.preset = (s.rd .CHAN_WAFRM_COUNT h f.preset + 1) % 2 ^ 32 ∧
        t.med = (s.waCount h f.preset).med) ∧
      (f.cut = true ∨ s.permitOk h = false ∨ s.windowOk h = false → (t.hse h).wrote = (s.hse h).wrote ∧
        t.rd .CHAN_NWR_COUNT h = s.rd .CHAN_NWR_COUNT h ∧ t.med = s.med ∧ s.memSame t) ∧
      (f.ctx = none → s.oceActive h = none → s.headOnly t h [.CHAN_NWR_COUNT, .CHAN_WAFRM_COUNT, .HSE_STAT_GATES, .HSE_TPEND_PEND, .HSE_WPER_WPER,
        .CHAN_STAT_LOCKED, .CHAN_STAT_RLIM, .CHAN_BITRATE_RATE] [.ev, .med, .out])) ∧
    (c.wf = none ∨ s.dataTime h = false → exec (.writeFrameEnd h) s = .next s) ∧
    (∀ (f : RFrame) (pos dist : Nat), c.rf.getLast? = some f → c.reading = true → c.lost = none → f.closed = false →
      s.dataTime h = true → ∃ t, exec (.syncMarkFound h pos dist) s = .next t ∧
      (104 ≤ pos → pos ≤ 152 → dist ≤ s.rd .CHAN_FRM_MARK_TOL h → f.cands.length < 4 → (∀ x ∈ f.cands, x < pos) →
        (t.chan h).rf = c.rf.dropLast ++ [{ f with cands := f.cands ++ [pos] }] ∧
        (f.cands = [] → (t.hse h).latch.testBit latSync = true)) ∧
      (pos < 104 ∨ 152 < pos ∨ s.rd .CHAN_FRM_MARK_TOL h < dist ∨ 4 ≤ f.cands.length → t = s)) ∧
    (∀ pos dist : Nat, c.reading = false ∨ s.dataTime h = false → exec (.syncMarkFound h pos dist) s = .next s ∧
      exec (.syncWindowClose h) s = .next s) ∧
    (∀ f, c.rf.getLast? = some f → c.reading = true → c.lost = none → f.closed = false → s.dataTime h = true →
      ∃ t, exec (.syncWindowClose h) s = .next t ∧
      (f.cands ≠ [] → (t.chan h).rf = c.rf.dropLast ++ [{ f with closed := true }]) ∧
      (f.cands = [] → t.rd .CHAN_LAST_RESULT h = 2 ∧ (t.hse h).latch.testBit latNosync = true ∧ (t.hse h).latch.testBit latDdone = true ∧
        (t.hse h).dgood = false ∧ t.rdBit .HSE_TPEND_PEND 12 h = true ∧ s.raised t (6 * h + 3) ∧ (t.chan h).rf = c.rf.dropLast ∧
        t.rd .CHAN_NNOSYNC_COUNT h = (s.rd .CHAN_NNOSYNC_COUNT h + 1) % 2 ^ 32)) ∧
    (∀ (f : RFrame) (rest : List RFrame) (d : Decode), c.rf = f :: rest → c.decodes f rest = true →
      let most := s.rd .CHAN_FRM_ITER_MAX h
      let cap := min most (32 - f.iters)
      let used := if d.conv then clampIters d.iters cap else cap
      let f' : RFrame := { f with decodes := f.decodes + 1, iters := f.iters + used, snr := some (f.snr.getD d.snr.toNat) }
      let code := s.tagResult h f.xqi f.xns (f.k - f.pars) d.info
      let par := ((d.info.drop 4096).getD 9 0).toNat.testBit 3
      let more := s.bit .CHAN_CTL_GEN h && f.gambit && decide (f.decodes + 1 ≤ s.rd .CHAN_FRM_GMAX h) &&
        decide (f.decodes + 1 < f.cands.length) && decide (f.iters + used < 32)
      ∃ t, exec (.decodeDone h d) s = .next t ∧
      (f.snr = none → t.rd .CHAN_SNR_LAST h = d.snr.toNat) ∧
      (f.snr ≠ none → t.rd .CHAN_SNR_LAST h = s.rd .CHAN_SNR_LAST h ∧ (t.chan h).snrs = c.snrs) ∧
      (d.conv = true → code = 0 → t.rd .CHAN_LAST_RESULT h = (if f.decodes = 0 then 0 else 1) ∧ (t.hse h).dgood = true ∧
        (t.chan h).rf = (if par then (({ c with rf := rest } : Chan).parity f).rf else rest) ∧
        (t.chan h).res = (d.info ++ List.replicate 4128 0).take 4128 ∧ t.rd .CHAN_LAST_ITER h = (f.iters + used) % 256) ∧
      (d.conv = true → code ≠ 0 → t.rd .CHAN_LAST_RESULT h = code ∧ 5 ≤ code ∧ (t.hse h).dgood = false ∧ (t.chan h).rf = rest ∧
        t.rdBit .HSE_TPEND_PEND 12 h = true ∧ s.raised t (6 * h + 3)) ∧
      (d.conv = false → 32 - f.iters < most → t.rd .CHAN_LAST_RESULT h = 4 ∧ (t.hse h).dgood = false ∧ (t.chan h).rf = rest ∧
        t.rdBit .HSE_TPEND_PEND 12 h = true) ∧
      (d.conv = false → most ≤ 32 - f.iters → more = true → t.rd .CHAN_LAST_RESULT h = s.rd .CHAN_LAST_RESULT h ∧ t.hse h = s.hse h ∧
        (t.chan h).rf = f' :: rest) ∧
      (d.conv = false → most ≤ 32 - f.iters → more = false → t.rd .CHAN_LAST_RESULT h = 3 ∧ (t.hse h).dgood = false ∧
        (t.chan h).rf = rest ∧ t.rdBit .HSE_TPEND_PEND 12 h = true ∧
        t.rd .CHAN_NDEC_COUNT h = (s.rd .CHAN_NDEC_COUNT h + 1) % 2 ^ 32)) ∧
    (∀ (f : RFrame) (rest : List RFrame) (u : Nat) (snr : W16), c.rf = f :: rest → c.decodes f rest = true →
      32 - f.iters ≤ s.rd .CHAN_FRM_ITER_MAX h →
      ∃ t, exec (.decodeBudgetExpire h u snr) s = .next t ∧ t.rd .CHAN_LAST_RESULT h = 4 ∧ t.rd .CHAN_LAST_ITER h = 32 ∧
        (t.hse h).dgood = false ∧ t.rdBit .HSE_TPEND_PEND 12 h = true ∧ (t.chan h).rf = rest) ∧
    (∀ (d : Decode) (u : Nat) (snr : W16), c.rf = [] → exec (.decodeDone h d) s = .next s ∧
      exec (.decodeBudgetExpire h u snr) s = .next s) ∧
    (∀ v : W32, s.up 5 = true → s.hears (selChan h) = true → ∃ t, exec (.chanRdecGo h v) s = .next t ∧
      signedN 6 (t.rd .CHAN_RDEC_OFS h) = max (-24) (min 24 (signedN 6 (v.toNat % 64))) ∧
      t.rd .CHAN_RDEC_ITER h = max 1 (v.toNat / 256 % 256) ∧ t.rd .CHAN_RDEC_REDET h = v.toNat / 65536 % 2 ∧
      (v.toNat.testBit 17 = false ∨ s.rst.step < 9 → s.headOnly t h [.CHAN_RDEC_OFS, .CHAN_RDEC_ITER, .CHAN_RDEC_REDET] []) ∧
      (s.up 9 = true → v.toNat.testBit 17 = true → (s.rgOpen h = true ∨ s.bit .CHAN_STAT_SBVALID h = false) →
        t.rd .CHAN_STAT_RDREF h = 1 ∧ t.rd .CHAN_STAT_RDBUSY h = s.rd .CHAN_STAT_RDBUSY h) ∧
      (s.up 9 = true → v.toNat.testBit 17 = true → s.rgOpen h = false → s.bit .CHAN_STAT_SBVALID h = true →
        t.rd .CHAN_STAT_RDBUSY h = 1)) ∧
    (∀ (f : RFrame) (d : Decode), c.kept = some f → s.bit .CHAN_STAT_RDBUSY h = true → ∃ t, exec (.offlineDecodeDone h d) s = .next t ∧
      t.rd .CHAN_STAT_RDBUSY h = 0 ∧ (t.hse h).latch.testBit latDdone = true ∧ t.rd .CHAN_NFRM_COUNT h = s.rd .CHAN_NFRM_COUNT h ∧
      t.rd .CHAN_LAST_RESULT h = (if d.conv then s.tagResult h c.xqi c.xns (f.k - f.pars) d.info else 3) ∧
      (d.conv = true → s.tagResult h c.xqi c.xns (f.k - f.pars) d.info ≠ 0 → s.raised t (6 * h + 3)) ∧
      t.rd .HSE_TPEND_PEND h = s.rd .HSE_TPEND_PEND h) ∧
    (∀ d : Decode, c.kept = none ∨ s.bit .CHAN_STAT_RDBUSY h = false → exec (.offlineDecodeDone h d) s = .next s) ∧
    (s.up 9 = true → s.hears (selChan h) = true → ∃ t, exec (.chanEnable h) s = .next t ∧ (t.chan h).check = true ∧ s.headOnly t h [] []) ∧
    (s.up 5 = true → s.rst.step < 9 → s.hears (selChan h) = true → ∃ t, exec (.chanEnable h) s = .next t ∧ t.rd .CHAN_CTL_EN h = 1 ∧
      s.headOnly t h [.CHAN_CTL_EN] [] ∧ t.chan h = s.chan h) ∧
    (c.check = true → ∃ t, exec (.baseMatrixCheckDone h) s = .next t ∧ (t.chan h).check = false ∧
      (matrixGood (s.matrixRaw h) = true → t.rd .CHAN_CTL_EN h = 1 ∧ t.rd .CHAN_STAT_ENA h = 1 ∧ t.rd .CHAN_STAT_HBAD h = 0) ∧
      (matrixGood (s.matrixRaw h) = false → t.rd .CHAN_CTL_EN h = 0 ∧ t.rd .CHAN_STAT_ENA h = 0 ∧ t.rd .CHAN_STAT_HBAD h = 1 ∧
        s.recorded t (6 * h + 5) [(1, 2)])) ∧
    (c.check = false → exec (.baseMatrixCheckDone h) s = .next s) ∧
    (s.up 9 = true → s.hears (selChan h) = true → ∃ t, exec (.clrstat h) s = .next t ∧ (∀ r ∈ ([.CHAN_NFRM_COUNT, .CHAN_NGAMB_COUNT,
        .CHAN_NNOSYNC_COUNT, .CHAN_NDEC_COUNT, .CHAN_NTAG_COUNT, .CHAN_NWR_COUNT] : List Reg), t.rd r h = 0) ∧
      (∀ b, b < 8 → t.rd .CHAN_ITH_COUNT h b = 0) ∧ ∀ p, p < 4 → t.rd .CHAN_WAFRM_COUNT h p = 0) ∧
    (s.hears (selChan h) = false → ∀ v : W32, exec (.chanRdecGo h v) s = .next s ∧ exec (.chanEnable h) s = .next s ∧
      exec (.clrstat h) s = .next s) ∧
    ∀ (pos dist u : Nat) (d : Decode) (snr : W16) (v : W32) (t : State), ∀ i ∈ ([.syncMarkFound h pos dist, .syncWindowClose h,
        .decodeDone h d, .decodeBudgetExpire h u snr, .chanRdecGo h v, .offlineDecodeDone h d, .chanEnable h, .baseMatrixCheckDone h,
        .clrstat h] : List Instr), exec i s = .next t →
      s.headOnly t h [.CHAN_CTL_EN, .CHAN_STAT_ENA, .CHAN_STAT_HBAD, .CHAN_STAT_RDBUSY, .CHAN_STAT_RDREF, .CHAN_SNR_LAST, .CHAN_SNR_AVG,
        .CHAN_LAST_RESULT, .CHAN_LAST_CAND, .CHAN_LAST_ITER, .CHAN_LAST_UNSAT, .CHAN_RDEC_OFS, .CHAN_RDEC_ITER, .CHAN_RDEC_REDET,
        .CHAN_NFRM_COUNT, .CHAN_NGAMB_COUNT, .CHAN_NNOSYNC_COUNT, .CHAN_NDEC_COUNT, .CHAN_NTAG_COUNT, .CHAN_NWR_COUNT, .CHAN_ITH_COUNT,
        .CHAN_WAFRM_COUNT, .HSE_TPEND_PEND] [.ev, .free]

/-- Rate changes close gates and relock, preamp faults cut writes, and the preamp link serves in its order. A ZRATE
write is stored at once; from step 9 on with the gates closed it clears WPER and unlocks, setting RLIM exactly where
ZRATE times RATIO leaves 1,000 to 5,000 Mb/s; with a gate open it pends RATE and takes effect when the frame in
progress has ended and the gate closed. TIER_LEAVE pends RATE at every engine; TIER_READY unlocks every channel; a
relock locks at ZRATE times RATIO over 16,384; NOLOCK only raises event 6h + 5. A preamp fault closes every write gate
of the arm, cuts its frames with WFLT and pends HLINK, and FLT stays until the line is high. A firmware request is
queued, or dropped with BADCMD or QFULL; the link serves the fault read, then the heads in turn, then firmware, each
request with its parity bit; an answer is acknowledged only with STATUS 101 and good parity, latches HLACK or sets
HLERR with vector HLINK and event 6h + 4, or queues a response, which a read pops; a fault read's answer names the
heads that take HLINK, and one that fails names none. Off its occasion a row changes nothing (log entry 6, the model's
choice). Other choices of the model it rests on: log entries 47, 48. -/
def Obligations.RatesAndPreampLinkFollowTheirRules : Prop :=
  (∀ (h : Head) (v : W16) (s : State), s.up 5 = true → s.hears (selChan h) = true → ∃ t, exec (.zrateWrite h v) s = .next t ∧
    t.rd .CHAN_RATE_ZRATE h = v.toNat ∧
    (s.rst.step < 9 → s.headOnly t h [.CHAN_RATE_ZRATE] [] ∧ t.chan h = s.chan h ∧ t.hse h = s.hse h) ∧
    (s.up 9 = true → s.wgOpen h = false → s.rgOpen h = false → t.rd .HSE_WPER_WPER h = 0 ∧ t.rd .CHAN_STAT_LOCKED h = 0 ∧
      t.rd .CHAN_BITRATE_RATE h = 0 ∧ (t.rd .CHAN_STAT_RLIM h = 1 ↔
        v.toNat * s.rd .SPN_RATIO_RATIO < 1000 * 16384 ∨ 5000 * 16384 < v.toNat * s.rd .SPN_RATIO_RATIO)) ∧
    (s.up 9 = true → s.wgOpen h = true ∨ s.rgOpen h = true → t.rdBit .HSE_TPEND_PEND 7 h = true) ∧
    (s.up 9 = true → s.wgOpen h = true → s.rgOpen h = false → (s.chan h).wf.isSome = true → (t.chan h).zrate = true ∧
      (t.chan h).wclose = true ∧ t.wgOpen h = true ∧ t.rd .HSE_WPER_WPER h = s.rd .HSE_WPER_WPER h) ∧
    (s.up 9 = true → s.wgOpen h = true → s.rgOpen h = false → (s.chan h).wf = none → (t.chan h).zrate = false ∧
      t.wgOpen h = false ∧ t.rd .HSE_WPER_WPER h = 0 ∧ t.rd .CHAN_STAT_LOCKED h = 0) ∧
    (s.up 9 = true → s.wgOpen h = false → s.rgOpen h = true → (s.chan h).reading = true → (t.chan h).zrate = true ∧
      (t.chan h).rclose = true ∧ t.rgOpen h = true ∧ t.rd .HSE_WPER_WPER h = s.rd .HSE_WPER_WPER h) ∧
    (s.up 9 = true → s.wgOpen h = false → s.rgOpen h = true → (s.chan h).reading = false → (t.chan h).zrate = false ∧
      t.rgOpen h = false ∧ t.rd .HSE_WPER_WPER h = 0 ∧ t.rd .CHAN_STAT_LOCKED h = 0) ∧
    s.headOnly t h [.CHAN_RATE_ZRATE, .HSE_WPER_WPER, .CHAN_STAT_LOCKED, .CHAN_BITRATE_RATE, .CHAN_STAT_RLIM, .CHAN_STAT_SBVALID,
      .HSE_STAT_GATES, .HSE_TPEND_PEND] [.ev, .out]) ∧
  (∀ (h : Head) (v : W16) (s : State), s.rst.step < 5 ∨ s.hears (selChan h) = false → exec (.zrateWrite h v) s = .next s) ∧
  (∀ s : State, s.up 9 = true → s.spn.leave = true → ∃ t, exec .tierLeave s = .next t ∧ t.spn = { s.spn with leave := false } ∧
    (∀ h, h < 24 → t.rdBit .HSE_TPEND_PEND 7 h = true ∧ (t.chan h).fabric = true ∧
      (s.wgOpen h = true → (s.chan h).wf = none → t.wgOpen h = false) ∧
      (s.wgOpen h = true → (s.chan h).wf.isSome = true → (t.chan h).wclose = true)) ∧
    s.only t [.HSE_STAT_GATES, .HSE_TPEND_PEND, .HSE_WPER_WPER, .CHAN_STAT_LOCKED, .CHAN_STAT_RLIM, .CHAN_BITRATE_RATE,
      .CHAN_STAT_SBVALID] [.spn, .hses, .chans, .ev, .out]) ∧
  (∀ s : State, s.up 9 = true → s.spn.leave = false → s.spn.ready = true → ∃ t, exec .tierReady s = .next t ∧
    t.spn = { s.spn with ready := false } ∧ (∀ h, h < 24 → t.rd .CHAN_STAT_LOCKED h = 0 ∧ t.rd .CHAN_BITRATE_RATE h = 0 ∧
      (t.chan h).fabric = true ∧
      (t.rd .CHAN_STAT_RLIM h = 1 ↔ s.rd .CHAN_RATE_ZRATE h * s.rd .SPN_RATIO_RATIO < 1000 * 16384 ∨
        5000 * 16384 < s.rd .CHAN_RATE_ZRATE h * s.rd .SPN_RATIO_RATIO)) ∧
    s.only t [.CHAN_STAT_LOCKED, .CHAN_STAT_RLIM, .CHAN_BITRATE_RATE] [.spn, .chans, .ev]) ∧
  (∀ (h : Head) (s : State), s.up 9 = true → s.bit .CHAN_STAT_LOCKED h = false → s.bit .CHAN_STAT_RLIM h = false →
    (s.chan h).fabric = true →
    (∃ t, exec (.synthRelockDone h) s = .next t ∧ t.rd .CHAN_STAT_LOCKED h = 1 ∧
      t.rd .CHAN_BITRATE_RATE h = s.rd .CHAN_RATE_ZRATE h * s.rd .SPN_RATIO_RATIO / 16384 % 65536 ∧ (t.chan h).fabric = false ∧
      s.headOnly t h [.CHAN_STAT_LOCKED, .CHAN_BITRATE_RATE] []) ∧
    ∃ t, exec (.nolock h) s = .next t ∧ s.recorded t (6 * h + 5) [(1, 1)] ∧ s.only t [] [.ev]) ∧
  (∀ (h : Head) (s : State), s.bit .CHAN_STAT_LOCKED h = true ∨ s.bit .CHAN_STAT_RLIM h = true ∨ (s.chan h).fabric = false →
    exec (.synthRelockDone h) s = .next s ∧ exec (.nolock h) s = .next s) ∧
  (∀ (a : Arm) (s : State), s.up 9 = true → s.bit .HL_STAT_FLT a = false → ∃ t, exec (.preampFault a) s = .next t ∧
    t.bit .HL_STAT_FLT a = true ∧ (s.bit .HL_CFG_AUTOFLT a = true → (t.hlk a).auto = true) ∧
    (∀ p, p < 6 → t.wgOpen (6 * a + p) = false ∧ t.rgOpen (6 * a + p) = s.rgOpen (6 * a + p) ∧
      (s.wgOpen (6 * a + p) = true → t.rdBit .HSE_TPEND_PEND 13 (6 * a + p) = true ∧ (t.chan (6 * a + p)).wf = none ∧
        ((s.chan (6 * a + p)).wf.isSome = true → t.bit .CHAN_STAT_WFLT (6 * a + p) = true))) ∧
    s.only t [.HL_STAT_FLT, .CHAN_STAT_WFLT, .HSE_STAT_GATES, .HSE_TPEND_PEND, .HSE_WPER_WPER, .CHAN_STAT_LOCKED, .CHAN_STAT_RLIM,
      .CHAN_BITRATE_RATE, .GCTX_ERR, .OCE_STAT_ACCERR, .DMA_LPEND_COUNT] [.hls, .hses, .chans, .ev, .out]) ∧
  (∀ (a : Arm) (s : State), s.bit .HL_STAT_FLT a = true → exec (.preampFault a) s = .next s) ∧
  (∀ (a : Arm) (s : State), ∃ t, exec (.hlFltNRelease a) s = .next t ∧ t.bit .HL_STAT_FLT a = false ∧
    s.keysBut t (fun k => k.reg = .HL_STAT_FLT ∧ k.i = a) ∧ s.memSame t ∧ s.keeps t []) ∧
  (∀ (a : Arm) (v : W32) (s : State), s.up 9 = true →
    let bad := !v.toNat.testBit 31 || (v.toNat.testBit 30 && bitsN v.toNat 27 3 == 7)
    ∃ t, exec (.hlCmdWrite a v) s = .next t ∧ s.only t [.HL_STAT_BADCMD, .HL_STAT_QFULL] [.hls] ∧
    (bad = true → t.rd .HL_STAT_BADCMD a = 1 ∧ t.hlk a = s.hlk a) ∧
    (bad = false → 8 ≤ (s.hlk a).fw.length → t.rd .HL_STAT_QFULL a = 1 ∧ t.hlk a = s.hlk a) ∧
    (bad = false → (s.hlk a).fw.length < 8 → t.hlk a = { s.hlk a with fw := (s.hlk a).fw ++ [v.toNat] })) ∧
  (∀ (a : Arm) (s : State), s.up 9 = true → (s.hlk a).cur = none → ∃ t, exec (.hlinkTransactionStart a) s = .next t ∧
    s.only t [.HL_STAT_BUSY] [.hls, .out] ∧
    ((s.hlk a).auto = true → t.rd .HL_STAT_BUSY a = 1 ∧ s.sent t [.hlink a (hlFrame 0xF0000000)]) ∧
    (∀ p, (s.hlk a).auto = false → s.hlNext a = some p →
      let w := hlRequest false p (((s.hse (6 * a + p)).hl).getD 0 / 256) (((s.hse (6 * a + p)).hl).getD 0 % 256)
      (t.hlk a).rr = p ∧ t.rd .HL_STAT_BUSY a = 1 ∧ (t.hlk a).cur = some (.hse p, w) ∧ s.sent t [.hlink a (hlFrame w)]) ∧
    (∀ w l, (s.hlk a).auto = false → s.hlNext a = none → (s.hlk a).fw = w :: l → (t.hlk a).fw = l ∧
      (t.hlk a).cur = some (.fw, w) ∧ s.sent t [.hlink a (hlFrame w)]) ∧
    ((s.hlk a).auto = false → s.hlNext a = none → (s.hlk a).fw = [] → t = s)) ∧
  (∀ (a : Arm) (st : Byte) (d : W16) (par : Bool) (s : State), let bad := !(bitsN st.toNat 5 3 == 5) || !par
    ((s.hlk a).cur = none → exec (.hlinkTransactionDone a st d par) s = .next s) ∧
    (∀ p w, p < 6 → (s.hlk a).cur = some (.hse p, w) → ∃ t, exec (.hlinkTransactionDone a st d par) s = .next t ∧
      (t.hlk a).cur = none ∧ t.rd .HL_STAT_BUSY a = 0 ∧ (t.hse (6 * a + p)).hl = none ∧ (t.hse (6 * a + p)).hlErr = bad ∧
      (bad = true → t.rdBit .HSE_TPEND_PEND 13 (6 * a + p) = true ∧
        s.recorded t (6 * (6 * a + p) + 4) [(1, st.toNat), (1, bitsN w 16 8), (1, 0)]) ∧
      (bad = false → (t.hse (6 * a + p)).latch.testBit latHlack = true) ∧ s.only t [.HL_STAT_BUSY, .HSE_TPEND_PEND] [.hls, .hses, .ev]) ∧
    (∀ w, (s.hlk a).cur = some (.fw, w) → ∃ t, exec (.hlinkTransactionDone a st d par) s = .next t ∧ (t.hlk a).cur = none ∧
      (t.hlk a).resp = (s.hlk a).resp ++ [(if w.testBit 30 then d.toNat else 0, st.toNat, bad)] ∧ s.only t [.HL_STAT_BUSY] [.hls]) ∧
    ∀ w, (s.hlk a).cur = some (.auto, w) → ∃ t, exec (.hlinkTransactionDone a st d par) s = .next t ∧
      (t.hlk a).cur = none ∧ (t.hlk a).cut = [] ∧ (bad = true → s.only t [.HL_STAT_BUSY] [.hls]) ∧
      (bad = false → t.rd .HL_STAT_FHEADS a = d.toNat % 64 ∧ s.only t [.HL_STAT_BUSY, .HL_STAT_FHEADS, .HSE_TPEND_PEND] [.hls, .ev] ∧
        ∀ p, p < 6 → d.toNat.testBit p = true → t.rdBit .HSE_TPEND_PEND 13 (6 * a + p) = true ∧ s.raised t (6 * (6 * a + p) + 4))) ∧
  ∀ (a : Arm) (s : State), s.up 9 = true → ∃ t, exec (.hlRespRead a) s = .next t ∧ s.only t [] [.hls, .out] ∧
    ((s.hlk a).resp = [] → s.sent t [.popped .HL_RESP_DATA a 0]) ∧
    ∀ d st e l, (s.hlk a).resp = (d, st, e) :: l → (t.hlk a).resp = l ∧
      s.sent t [.popped .HL_RESP_DATA a (d + st * 2 ^ 16 + 2 ^ 24 + b2n e * 2 ^ 25)]

/-- OPEN, PARK, FILL and SETRD are taken or refused, and end, as the outer code's rules give. With step 5 released and
no soft reset of the OCE: off those a row changes nothing (log entry 6, the model's choice); a command while BUSY is 1
is answered BUSY and changes nothing else; with EN 0 it is answered BADSTATE; a context above 383, a COUNT above 67, a
HEAD above 23 or an undefined OP is answered BADOP, and the wrong mode or an active head BADSTATE, each with interrupt
473; an accepted command sets BUSY and changes nothing else. OPEN's end, when every frame reads, makes the context
active with NDATA the lesser of COUNT and 64 and NPAR the rest, with COUNT 0 over a zeroed accumulator, and else ends
with BUSERR and leaves it free; PARK's end frees it; FILL's end is TOOMANY with event 273 above 4 erasures, BUSERR
without an answer, MISMATCH with event 274, or DONE, which rewrites the erased frames only, clears ERASE and ERASEP
and raises event 272. A data frame written under an active context counts in NDATA and changes its accumulators only,
and a parity frame in NPAR, the fourth freeing the context. SETRD moves a free context to read mode and back, and is
ignored with CTXWR elsewhere. Choices of the model it rests on: log entries 6, 49, 102. -/
def Obligations.OuterCodeCommandsFollowTheirRules : Prop :=
  (∀ (g : BitVec 9) (n : BitVec 7) (v : W32) (s : State), s.up 5 = true → s.hears selOce = true →
    (383 < v.toNat % 512 ∨ v.toNat / 512 % 8 = 0 ∨ 4 ≤ v.toNat / 512 % 8) →
    ∀ c ∈ ([.oceOpen g n, .ocePark g, .oceFill g, .oceBadop v] : List Instr),
    (s.bit .OCE_RES_BUSY = true → ∃ t, exec c s = .next t ∧ t.rd .OCE_RES_RESULT = 1 ∧ s.only t [.OCE_RES_RESULT] []) ∧
    (s.bit .OCE_RES_BUSY = false → s.bit .OCE_CTL_EN = false → ∃ t, exec c s = .next t ∧ t.rd .OCE_RES_RESULT = 2 ∧
      t.rd .OCE_RES_BUSY = 0 ∧ NSet.has 473 t.ev.edge = true ∧ s.only t [.OCE_RES_CTX, .OCE_RES_OP, .OCE_RES_RESULT, .OCE_RES_BUSY] [.ev])) ∧
  (∀ (g : BitVec 9) (n : BitVec 7) (v : W32) (s : State), s.rst.step < 5 ∨ s.hears selOce = false →
    ∀ c ∈ ([.oceOpen g n, .ocePark g, .oceFill g, .oceBadop v] : List Instr), exec c s = .next s) ∧
  (∀ (g : BitVec 9) (n : BitVec 7) (v : W32) (s : State), s.up 5 = true → s.hears selOce = true → s.bit .OCE_RES_BUSY = false → s.bit .OCE_CTL_EN = true →
    let badN := 383 < g.toNat ∨ 67 < n.toNat ∨ 24 ≤ s.rd .GCTX_HEAD g.toNat
    let badS := s.rd .GCTX_MODE g.toNat ≠ 0 ∨ s.bit .OCE_HACT_VALID (s.rd .GCTX_HEAD g.toNat) = true
    (∃ t, exec (.oceOpen g n) s = .next t ∧ (badN → t.rd .OCE_RES_RESULT = 5 ∧ NSet.has 473 t.ev.edge = true ∧ t.oce = s.oce) ∧
      (¬ badN → badS → t.rd .OCE_RES_RESULT = 2 ∧ NSet.has 473 t.ev.edge = true ∧ t.oce = s.oce) ∧
      (¬ badN → ¬ badS → t.rd .OCE_RES_BUSY = 1 ∧ t.oce = { s.oce with job := some (1, g.toNat, n.toNat) } ∧ s.only t [.OCE_RES_BUSY] [.oce])) ∧
    (∃ t, exec (.ocePark g) s = .next t ∧ (383 < g.toNat → t.rd .OCE_RES_RESULT = 5 ∧ NSet.has 473 t.ev.edge = true) ∧
      (g.toNat ≤ 383 → s.rd .GCTX_MODE g.toNat ≠ 1 → t.rd .OCE_RES_RESULT = 2 ∧ NSet.has 473 t.ev.edge = true) ∧
      (g.toNat ≤ 383 → s.rd .GCTX_MODE g.toNat = 1 → t.rd .OCE_RES_BUSY = 1 ∧ t.oce = { s.oce with job := some (2, g.toNat, 0) })) ∧
    (∃ t, exec (.oceFill g) s = .next t ∧ (383 < g.toNat → t.rd .OCE_RES_RESULT = 5 ∧ NSet.has 473 t.ev.edge = true) ∧
      (g.toNat ≤ 383 → s.rd .GCTX_MODE g.toNat ≠ 2 → t.rd .OCE_RES_RESULT = 2 ∧ NSet.has 473 t.ev.edge = true) ∧
      (g.toNat ≤ 383 → s.rd .GCTX_MODE g.toNat = 2 → t.rd .OCE_RES_BUSY = 1 ∧ t.oce = { s.oce with job := some (3, g.toNat, 0) })) ∧
    ((383 < v.toNat % 512 ∨ v.toNat / 512 % 8 = 0 ∨ 4 ≤ v.toNat / 512 % 8) → ∃ t, exec (.oceBadop v) s = .next t ∧
      t.rd .OCE_RES_RESULT = 5 ∧ NSet.has 473 t.ev.edge = true)) ∧
  (∀ (g n : Nat) (no : Bool) (s : State), s.oce.job = some (1, g, n) → n ≤ 67 → let head := s.rd .GCTX_HEAD g
    ∃ t, exec (.oceCommandEnd no) s = .next t ∧ t.oce.job = none ∧ t.rd .OCE_RES_BUSY = 0 ∧
    (engineReach (s.rd .GCTX_ACC_ACC g) 16384 = true → (n = 0 ∨ no = false ∧ ∀ i, i < min n 64 → s.badFrame (s.gframe g i) = false) →
      t.rd .OCE_RES_RESULT = 0 ∧ t.rd .GCTX_MODE g = 1 ∧ t.rd .GCTX_NDATA g = min n 64 ∧ t.rd .GCTX_NPAR g = n - 64 ∧
      t.rd .OCE_HACT_CTX head = g % 512 ∧ t.rd .OCE_HACT_VALID head = 1 ∧
      (n = 0 → ∀ x, x < 16384 → t.mb (s.rd .GCTX_ACC_ACC g + x) = 0) ∧ s.memBut t (s.rd .GCTX_ACC_ACC g) 16384) ∧
    s.regsBut t [.OCE_RES_CTX, .OCE_RES_OP, .OCE_RES_RESULT, .OCE_RES_BUSY, .GCTX_MODE, .GCTX_NDATA, .GCTX_NPAR, .GCTX_ERR,
      .OCE_HACT_CTX, .OCE_HACT_VALID, .OCE_STAT_ACCERR, .DMA_LPEND_COUNT] ∧ s.keeps t [.poison, .ev, .hses, .chans, .oce, .free, .out] ∧
    ((engineReach (s.rd .GCTX_ACC_ACC g) 16384 = false ∨ 0 < n ∧ no = true ∨ ∃ i, i < min n 64 ∧ s.badFrame (s.gframe g i) = true) → t.rd .OCE_RES_RESULT = 6 ∧
      t.rd .GCTX_MODE g = s.rd .GCTX_MODE g ∧ t.rd .OCE_HACT_VALID head = s.rd .OCE_HACT_VALID head ∧ s.memSame t)) ∧
  (∀ (g n : Nat) (no : Bool) (s : State), s.oce.job = some (2, g, n) → ∃ t, exec (.oceCommandEnd no) s = .next t ∧ t.oce.job = none ∧
    t.rd .OCE_RES_RESULT = 0 ∧ t.rd .OCE_RES_BUSY = 0 ∧ t.rd .GCTX_MODE g = 0 ∧
    (s.rd .OCE_HACT_CTX (s.rd .GCTX_HEAD g) = g → t.bit .OCE_HACT_VALID (s.rd .GCTX_HEAD g) = false) ∧
    s.only t [.OCE_RES_CTX, .OCE_RES_OP, .OCE_RES_RESULT, .OCE_RES_BUSY, .GCTX_MODE, .OCE_HACT_VALID] [.oce, .ev]) ∧
  (∀ (g n : Nat) (no : Bool) (s : State), s.oce.job = some (3, g, n) → let er := s.erased g
    let good := (List.range 68).filter (fun i => !er.contains i)
    let cols := fillColumns ((List.range 68).map (fun i => if er.contains i then List.replicate 2048 0 else symbols (s.mbs (s.gframe g i) 4096))) er
    ∃ t, exec (.oceCommandEnd no) s = .next t ∧ t.oce.job = none ∧ t.rd .OCE_RES_BUSY = 0 ∧ t.rd .OCE_RES_NER = er.length % 128 ∧
    s.regsBut t [.OCE_RES_CTX, .OCE_RES_OP, .OCE_RES_RESULT, .OCE_RES_BUSY, .OCE_RES_NER, .GCTX_ERASE_ERASE, .GCTX_ERASEP_ERASEP] ∧
    s.keeps t [.poison, .ev, .oce, .free, .out] ∧
    (4 < er.length → t.rd .OCE_RES_RESULT = 3 ∧ s.raised t 273 ∧ s.memSame t) ∧
    (er.length ≤ 4 → (no = true ∨ good.any (fun i => s.badFrame (s.gframe g i)) = true ∨
      er.any (fun i => !engineReach (s.gframe g i) 4128) = true) → t.rd .OCE_RES_RESULT = 6 ∧ s.memSame t) ∧
    (er.length ≤ 4 → no = false → good.all (fun i => !s.badFrame (s.gframe g i)) = true →
      er.all (fun i => engineReach (s.gframe g i) 4128) = true →
      (badColumn cols er.length ≠ none → t.rd .OCE_RES_RESULT = 4 ∧ s.raised t 274 ∧ s.memSame t) ∧
      (badColumn cols er.length = none → t.rd .OCE_RES_RESULT = 0 ∧ t.rd .GCTX_ERASE_ERASE g = 0 ∧ t.rd .GCTX_ERASEP_ERASEP g = 0 ∧
        (0 < er.length → s.raised t 272) ∧
        (∀ i ∈ er, let payload := symbolBytes (cols.map (fun c => c.getD i 0))
          t.mbs (s.gframe g i) 4128 = payload ++ sectorTag (s.rebuiltHead g i) (2 ^ 64 - 1) payload) ∧
        ∀ x, (∀ i ∈ er, x < s.gframe g i ∨ s.gframe g i + 4128 ≤ x) → t.mb x = s.mb x))) ∧
  (∀ (no : Bool) (s : State), s.oce.job = none → exec (.oceCommandEnd no) s = .next s) ∧
  (∀ (h : Head) (s : State) (f : WFrame) (g : Nat), (s.chan h).wf = some f → s.dataTime h = true → f.cut = false →
    s.permitOk h = true → s.windowOk h = true → f.ctx = some g → s.rd .GCTX_MODE g = 1 → ∃ t, exec (.writeFrameEnd h) s = .next t ∧
    (f.par = none → t.rd .GCTX_NDATA g = (s.rd .GCTX_NDATA g + 1) % 128 ∧ s.memBut t (s.rd .GCTX_ACC_ACC g) 16384) ∧
    (∀ k, f.par = some k → s.memSame t ∧
      (k ≠ s.rd .GCTX_NPAR g → t.rd .GCTX_NPAR g = s.rd .GCTX_NPAR g) ∧
      (k = s.rd .GCTX_NPAR g → k < 3 → t.rd .GCTX_NPAR g = k + 1) ∧
      (k = s.rd .GCTX_NPAR g → k = 3 → t.rd .GCTX_NPAR g = 4 ∧ t.rd .GCTX_MODE g = 0 ∧
        t.rd .OCE_HACT_VALID (s.rd .GCTX_HEAD g) = 0 ∧ t.rd .OCE_HACT_CTX (s.rd .GCTX_HEAD g) = 0))) ∧
  (∀ (g : Fin 384) (s : State), s.rst.step < 5 ∨ s.hears selOce = false → exec (.setrd g) s = .next s) ∧
  ∀ (g : Fin 384) (s : State), s.up 5 = true → s.hears selOce = true → ∃ t, exec (.setrd g) s = .next t ∧ s.only t [.GCTX_MODE, .OCE_STAT_CTXWR] [] ∧
    (s.rd .GCTX_MODE g = 0 → t.rd .GCTX_MODE g = 2) ∧ (s.rd .GCTX_MODE g = 2 → s.bit .OCE_RES_BUSY = false → t.rd .GCTX_MODE g = 0) ∧
    ((s.rd .GCTX_MODE g = 1 ∨ s.rd .GCTX_MODE g = 2 ∧ s.bit .OCE_RES_BUSY = true) →
      t.rd .OCE_STAT_CTXWR = 1 ∧ t.rd .GCTX_MODE g = s.rd .GCTX_MODE g)

/-- Buffer accesses, the patrol, retraining, the pools and the shaper act as the buffer's rules give. An access with
KIND above 11 or HEAD 24 to 30 raises event 254, and one that reaches past the data space event 246 with the first
address beyond it, halting the running DMA channel that asked with BUSERR and changing nothing else. A write stores
its bytes and no others; whole lines written clean are no longer poisoned, a partial line that fails its check stays
poisoned and is counted, and POISON data poisons its lines. A clean read changes nothing; one that fails its check
poisons a sound line, counts it and raises event 245; a corrected one is counted. The patrol moves to the next line,
and reports KIND 15. MR4_POLL stores its code and asks for retraining, whose end clears RTBUSY with event 247. PLOCK
locks pools that meet R229 and fills them, and else sets PBAD with event 250. A credit write adds, capped at the size,
or takes only what is free, setting PNEG. A shaped function's running transfer takes its next segment's length from a
level between what the bucket held and its size. DRAIN_POOL_STALL raises event 253, and of an arm that a named head
lies on the first zone whose frames wait begins to move to a free band. Off its occasion a row changes nothing (log
entry 6, the model's choice). Other choices of the model it rests on: log entries 50, 54, 55, 102, 109. -/
def Obligations.BufferAccessesCheckTheirLines : Prop :=
  (∀ (q : BufReq) (s : State), let n := if q.write then q.data.length else q.len
    let badTag := 12 ≤ q.kind.toNat ∨ (24 ≤ q.head.toNat ∧ q.head.toNat ≤ 30)
    let past := bufLo ≤ q.addr ∧ bufHi < q.addr + n ∧ q.addr < bufEnd
    ∃ t, exec (.bufferAccess q) s = .next t ∧
    (q.chan = none → badTag → s.recorded t 254 [(1, q.block.toNat), (1, q.kind.toNat), (1, q.head.toNat)] ∧ s.only t [] [.ev]) ∧
    (q.chan = none → ¬ badTag → past → s.recorded t 246 [(8, max q.addr bufHi), (1, q.kind.toNat)] ∧ s.only t [] [.ev]) ∧
    (∀ c, q.chan = some c → (badTag ∨ past) → s.memSame t ∧ s.raised t (if badTag then 254 else 246) ∧
      (s.rd .DMA_CHSTAT_STATE c = 1 → t.rd .DMA_CHSTAT_STATE c = 3 ∧ t.rd .DMA_CHSTAT_ERR c = 2 ∧ s.raised t 256) ∧
      (s.rd .DMA_CHSTAT_STATE c ≠ 1 → s.only t [] [.ev])) ∧
    (¬ badTag → ¬ past → inBuf q.addr n = false → t = s) ∧
    (¬ badTag → inBuf q.addr n = true → q.addr < bufHi → q.write = true → t.mbs q.addr n = q.data ∧ s.memBut t q.addr n ∧
      (q.poison = true → 0 < n → t.poisoned q.addr n = true) ∧
      (q.poison = false → (linesOf q.addr n).all (coversLine q.addr n) = true → t.poisoned q.addr n = false ∧ s.regsBut t [] ∧
        s.keeps t [.poison])) ∧
    (∀ k, ¬ badTag → inBuf q.addr n = true → q.addr < bufHi → q.write = true → partLine q.addr n = some k → q.ecc = .multi →
      NSet.has k s.poison = false → NSet.has k t.poison = true ∧ t.rd .BUF_UECNT_COUNT = min (2 ^ 32 - 1) (s.rd .BUF_UECNT_COUNT + 1) ∧
      t.rd .BUF_UEADDR_ADDR = 64 * k ∧ s.recorded t 245 [(8, 64 * k), (1, q.kind.toNat), (2, q.func.toNat)]) ∧
    (¬ badTag → inBuf q.addr n = true → q.addr < bufHi → q.write = false → q.ecc = .clean → t = s) ∧
    (¬ badTag → inBuf q.addr n = true → q.addr < bufHi → q.write = false → q.ecc = .single → NSet.has (q.addr / 64) s.poison = false →
      t.rd .BUF_CECNT_COUNT = min (2 ^ 32 - 1) (s.rd .BUF_CECNT_COUNT + 1) ∧ t.rd .BUF_CEADDR_ADDR = 64 * (q.addr / 64) ∧
      s.only t [.BUF_CECNT_COUNT, .BUF_CEADDR_ADDR] [.buf, .ev]) ∧
    (¬ badTag → inBuf q.addr n = true → q.addr < bufHi → q.write = false → q.ecc = .multi → NSet.has (q.addr / 64) s.poison = false →
      NSet.has (q.addr / 64) t.poison = true ∧ t.rd .BUF_UECNT_COUNT = min (2 ^ 32 - 1) (s.rd .BUF_UECNT_COUNT + 1) ∧
      t.rd .BUF_UEADDR_ADDR = 64 * (q.addr / 64) ∧ s.raised t 245 ∧ s.only t [.BUF_UECNT_COUNT, .BUF_UEADDR_ADDR] [.poison, .ev])) ∧
  (∀ (e : Ecc) (s : State), s.up 4 = true → s.bit .BUF_CTL_SCRUBEN = true → ∃ t, exec (.patrolScrubRead e) s = .next t ∧
    t.buf.patrol = (s.buf.patrol + 1) % bufLines ∧
    s.only t [.BUF_CECNT_COUNT, .BUF_CEADDR_ADDR, .BUF_UECNT_COUNT, .BUF_UEADDR_ADDR] [.poison, .buf, .ev] ∧
    (e = .multi → NSet.has (bufLo / 64 + s.buf.patrol) s.poison = false → NSet.has (bufLo / 64 + s.buf.patrol) t.poison = true ∧
      s.recorded t 245 [(8, 64 * (bufLo / 64 + s.buf.patrol)), (1, 15), (2, 0)])) ∧
  (∀ (e : Ecc) (s : State), s.rst.step < 4 ∨ s.bit .BUF_CTL_SCRUBEN = false → exec (.patrolScrubRead e) s = .next s) ∧
  (∀ (k : Fin 2) (code : BitVec 3) (hot moved : Bool) (s : State), ∃ t, exec (.mr4Poll k code hot moved) s = .next t ∧
    (if k = 0 then t.rd .BUF_STAT_TRR0 else t.rd .BUF_STAT_TRR1) = code.toNat ∧ NSet.has k t.buf.hot = hot ∧
    (hot = true → t.rd .BUF_STAT_HOT = 1) ∧ (moved = true → t.rd .BUF_STAT_RTBUSY = 1) ∧
    (hot = true → NSet.has k s.buf.hot = false → s.recorded t 249 [(1, k.val), (1, code.toNat)]) ∧
    s.only t [.BUF_STAT_TRR0, .BUF_STAT_TRR1, .BUF_STAT_HOT, .BUF_STAT_RTBUSY] [.buf, .ev]) ∧
  (∀ s : State, s.up 4 = true → ∃ t, exec .retrain s = .next t ∧ t.rd .BUF_STAT_RTBUSY = 1 ∧ s.only t [.BUF_STAT_RTBUSY] []) ∧
  (∀ (eye : Word) (s : State), s.bit .BUF_STAT_RTBUSY = true → ∃ t, exec (.dqRetrainDone eye) s = .next t ∧
    t.rd .BUF_STAT_RTBUSY = 0 ∧ s.recorded t 247 [(8, eye.toNat)] ∧ s.only t [.BUF_STAT_RTBUSY] [.ev]) ∧
  (∀ s : State, s.Canonical → s.up 4 = true → s.bit .BUF_CTL_PLOCK = false → ∃ t, exec .plock s = .next t ∧
    s.only t [.BUF_CTL_PLOCK, .BUF_FREE_FREE, .BUF_STAT_PBAD] [.ev] ∧
    (s.poolChecks.all (fun b => b) = true → t.rd .BUF_CTL_PLOCK = 1 ∧ ∀ k, k < 4 → t.rd .BUF_FREE_FREE k = s.rd .BUF_POOL_SIZE k * 256) ∧
    (s.poolChecks.all (fun b => b) = false → t.rd .BUF_STAT_PBAD = 1 ∧ t.bit .BUF_CTL_PLOCK = false ∧ s.raised t 250)) ∧
  (∀ (k : Fin 4) (v : BitVec 25) (s : State), s.Canonical → s.bit .BUF_CTL_PLOCK = true → ∃ t, exec (.bufPretWrite k v) s = .next t ∧
    s.only t [.BUF_FREE_FREE, .BUF_STAT_POVF, .BUF_STAT_PNEG] [.ev] ∧
    (0 ≤ v.toInt → t.rd .BUF_FREE_FREE k = min (s.rd .BUF_POOL_SIZE k * 256) (s.rd .BUF_FREE_FREE k + v.toInt.toNat)) ∧
    (0 ≤ v.toInt → s.rd .BUF_POOL_SIZE k * 256 < s.rd .BUF_FREE_FREE k + v.toInt.toNat → t.rd .BUF_STAT_POVF = 1 ∧ s.raised t 251) ∧
    (v.toInt < 0 → -v.toInt ≤ s.rd .BUF_FREE_FREE k → (t.rd .BUF_FREE_FREE k : Int) = s.rd .BUF_FREE_FREE k + v.toInt) ∧
    (v.toInt < 0 → (s.rd .BUF_FREE_FREE k : Int) < -v.toInt → t.rd .BUF_STAT_PNEG = 1 ∧
      t.rd .BUF_FREE_FREE k = s.rd .BUF_FREE_FREE k)) ∧
  (∀ (k : Fin 4) (v : BitVec 25) (s : State), s.bit .BUF_CTL_PLOCK = false → exec (.bufPretWrite k v) s = .next s) ∧
  (∀ (f : Func) (len : Nat) (s : State) (c : Cmd), s.Canonical → s.hif.cmds.find? (Cmd.takesSegment f len) = some c →
    s.rd .BUF_SHAPE_RATE f ≠ 0 → ∃ t, exec (.shapeSegmentStart f len) s = .next t ∧ s.only t [.BUF_TOKENS_TOKENS] [.free, .hif] ∧
    t.hif = (s.updCmd c.tag (fun d => { d with moved := d.moved + len })).hif ∧
    (len ≤ s.rd .BUF_SHAPE_BURST f * 65536 → t.rd .BUF_TOKENS_TOKENS f + len ≤ s.rd .BUF_SHAPE_BURST f * 65536 ∧
      min (s.rd .BUF_SHAPE_BURST f * 65536) (s.rd .BUF_TOKENS_TOKENS f) ≤ t.rd .BUF_TOKENS_TOKENS f + len)) ∧
  (∀ (f : Func) (len : Nat) (s : State), s.hif.cmds.find? (Cmd.takesSegment f len) = none ∨ s.rd .BUF_SHAPE_RATE f = 0 →
    exec (.shapeSegmentStart f len) s = .next s) ∧
  ∀ (hd : BitVec 24) (s : State), s.bit .BUF_CTL_PLOCK = true → s.poolFree 2 * 8 < s.poolSize 2 → ∃ t,
    exec (.drainPoolStall hd) s = .next t ∧ s.recorded t 253 [(4, s.poolFree 2), (4, hd.toNat)] ∧
    ((∀ a, a < 4 → bitsN hd.toNat (6 * a) 6 ≠ 0 → s.pooled a = []) → s.only t [] [.ev]) ∧
    ∀ (a ns z b x : Nat) (rest : List (Nat × Nat)), a < 4 → bitsN hd.toNat (6 * a) 6 ≠ 0 → (∀ k, k < 4 → k ≠ a → bitsN hd.toNat (6 * k) 6 = 0) →
      s.pooled a = (ns, z) :: rest → s.zoneBand ns z = some (a, b) → s.armCopy a = none → (s.pickAny a).1 = some x →
      t.armCopy a = some (b, x) ∧ s.only t [] [.ev, .med, .free]

/-- DMA channels start, fetch, move, wait, halt and end as the engine's rules give. With step 5 released and no soft
reset of the engine, EN on a channel not running starts its chain at CHDESC with its status clear, or is refused with
CONFLICT and event 258 where a running channel serves the line, or halts as BADDESC on a descriptor address that is no
multiple of 64. STOP ends a running chain, storing its CRC, or halts with BUSERR where the write-back fails. A request
arrives as one more count, or past 255 is lost with event 258. A fetched descriptor that breaks R234 halts the channel
with BADDESC and event 257, one past CHAIN_MAX with event 255, and one answered with an error or poison with BUSERR
and event 256; a good one is counted and in use; R234's list tells which is which. A copy burst moves BLEN bytes from
source to destination and changes no other byte, counts them and, at the end of the last descriptor, ends the chain; a
media write burst stages a frame and a media read burst stores the last result; a reserved tag, an error answer and 10
µs without answer halt with BUSERR; a guard wait of 1 ms raises event 259 once. Off its occasion a row changes nothing
(log entry 6, the model's choice). Other choices of the model it rests on: log entries 50, 51, 52, 102. -/
def Obligations.DmaChainsStartStepAndEnd : Prop :=
  (∀ (c : Fin 128) (s : State), s.up 5 = true → s.hears selDma = true → s.rd .DMA_CHSTAT_STATE c ≠ 1 → let line := s.rd .DMA_CHCTL_LINE c
    let a := s.rd .DMA_CHDESC_ADDR c
    ∃ t, exec (.dmaChannelEnable c) s = .next t ∧ s.memSame t ∧ s.keeps t [.dma, .ev, .hses] ∧
    s.keysBut t (fun k => k.i = c ∧ k.reg.info.blk = .DMA ∨ k.reg = .HSE_TPEND_PEND) ∧
    (s.lineTaken c line = true → t.rd .DMA_CHSTAT_STATE c = 0 ∧ t.rd .DMA_CHSTAT_ERR c = 4 ∧ s.raised t 258 ∧
      t.rd .DMA_CHDONE_BYTES c = s.rd .DMA_CHDONE_BYTES c ∧ (line < 48 → t.rdBit .HSE_TPEND_PEND 9 (line % 24) = true)) ∧
    (s.lineTaken c line = false → t.rd .DMA_CHDONE_BYTES c = 0 ∧ t.rd .DMA_CHNDESC_COUNT c = 0 ∧ t.rd .DMA_CHCRC_CRC c = 0 ∧
      (a % 64 = 0 → t.rd .DMA_CHSTAT_STATE c = 1 ∧ t.rd .DMA_CHCTL_EN c = 1 ∧ t.rd .DMA_CHSTAT_ERR c = 0 ∧
        (t.dch c).fetch = true ∧ (t.dch c).next = a) ∧
      (a % 64 ≠ 0 → t.rd .DMA_CHSTAT_STATE c = 3 ∧ t.rd .DMA_CHSTAT_ERR c = 3 ∧ t.rd .DMA_CHCTL_EN c = 0 ∧ s.raised t 257))) ∧
  (∀ (c : Fin 128) (wb : WriteBack) (s : State), s.up 5 = true → s.hears selDma = true → s.rd .DMA_CHSTAT_STATE c = 1 →
    ∃ t, exec (.dmaStop c wb) s = .next t ∧ t.rd .DMA_CHCTL_EN c = 0 ∧ s.memBut t (s.rd .DMA_CHCUR_ADDR c + 48) 8 ∧
    (s.rd .DMA_CHNDESC_COUNT c = 0 → s.memSame t) ∧
    (wb = .ok ∨ s.rd .DMA_CHNDESC_COUNT c = 0 → t.rd .DMA_CHSTAT_STATE c = 2 ∧ t.rd .DMA_CHSTAT_END c = 1 ∧
      t.rd .DMA_CHCRC_CRC c = Nat.xor (s.dch c).crc 0xFFFFFFFF % 2 ^ 32 ∧
      s.keysBut t (fun k => k.reg ∈ ([.DMA_CHCRC_CRC, .DMA_CHSTAT_STATE, .DMA_CHSTAT_END, .DMA_CHSTAT_GUARDW, .DMA_CHCTL_EN] : List Reg) ∧
        k.i = c) ∧ s.keeps t [.dma, .poison, .out, .free]) ∧
    (wb ≠ .ok → s.rd .DMA_CHNDESC_COUNT c ≠ 0 → t.rd .DMA_CHSTAT_STATE c = 3 ∧ t.rd .DMA_CHSTAT_ERR c = 2 ∧ s.raised t 256 ∧
      t.rd .DMA_CHCRC_CRC c = s.rd .DMA_CHCRC_CRC c)) ∧
  (∀ (en : Bool) (s : State), s.up 5 = true → s.hears selDma = true → ∃ t, exec (.dmaCtlEnable en) s = .next t ∧ t.bit .DMA_CTL_EN = en ∧
    s.only t [.DMA_CTL_EN] []) ∧
  (∀ (l : BitVec 7) (s : State), s.up 5 = true → s.hears selDma = true → ∃ t, exec (.dmaSwreq l) s = .next t ∧ s.only t [] [.dma] ∧
    (64 ≤ l.toNat → NTab.get 0 l.toNat t.dma.raised = NTab.get 0 l.toNat s.dma.raised + 1) ∧ (l.toNat < 64 → t = s)) ∧
  (∀ (c : Fin 128) (wb : WriteBack) (en : Bool) (l : BitVec 7) (s : State), s.rst.step < 5 ∨ s.hears selDma = false →
    ∀ i ∈ ([.dmaChannelEnable c, .dmaStop c wb, .dmaCtlEnable en, .dmaSwreq l] : List Instr), exec i s = .next s) ∧
  (∀ (c : Fin 128) (wb : WriteBack) (s : State), (s.rd .DMA_CHSTAT_STATE c = 1 → exec (.dmaChannelEnable c) s = .next s) ∧
    (s.rd .DMA_CHSTAT_STATE c ≠ 1 → exec (.dmaStop c wb) s = .next s)) ∧
  (∀ (l : Fin 128) (s : State), 48 ≤ l.val → NTab.get 0 l.val s.dma.raised ≠ 0 → ∃ t, exec (.dmaRequest l) s = .next t ∧
    NTab.get 0 l.val t.dma.raised = NTab.get 0 l.val s.dma.raised - 1 ∧ s.only t [.DMA_LPEND_COUNT, .DMA_LPEND_OVF] [.dma, .ev] ∧
    (s.rd .DMA_LPEND_COUNT l < 255 → t.rd .DMA_LPEND_COUNT l = s.rd .DMA_LPEND_COUNT l + 1) ∧
    (255 ≤ s.rd .DMA_LPEND_COUNT l → t.rd .DMA_LPEND_COUNT l = s.rd .DMA_LPEND_COUNT l ∧ t.rd .DMA_LPEND_OVF l = 1 ∧
      s.recorded t 258 [(1, l.val), (1, 1)])) ∧
  (∀ (h : Head) (s : State), let v := s.hse h
    (∀ x l, v.raisedW = x :: l → ∃ t, exec (.dmaRequest ⟨h, by omega⟩) s = .next t ∧ (t.hse h).raisedW = l ∧
      (s.rd .DMA_LPEND_COUNT h < 255 → s.oceActive h = none → (t.hse h).wreq = v.wreq ++ [x] ∧
        t.rd .DMA_LPEND_COUNT h = s.rd .DMA_LPEND_COUNT h + 1) ∧
      (255 ≤ s.rd .DMA_LPEND_COUNT h → t.rd .DMA_LPEND_OVF h = 1 ∧ s.raised t 258)) ∧
    ∀ x l, v.raisedR = x :: l → ∃ t, exec (.dmaRequest ⟨24 + h, by omega⟩) s = .next t ∧ (t.hse h).raisedR = l ∧
      (s.rd .DMA_LPEND_COUNT (24 + h) < 255 → (t.hse h).rreq = v.rreq ++ [x] ∧
        t.rd .DMA_LPEND_COUNT (24 + h) = s.rd .DMA_LPEND_COUNT (24 + h) + 1) ∧
      (255 ≤ s.rd .DMA_LPEND_COUNT (24 + h) → (t.hse h).rreq = v.rreq ∧ t.rd .DMA_LPEND_OVF (24 + h) = 1 ∧ s.raised t 258)) ∧
  (∀ (c : Fin 128) (ans : Answer) (s : State), s.rd .DMA_CHSTAT_STATE c = 1 → (s.dch c).fetch = true → s.bit .DMA_CTL_EN = true →
    let a := (s.dch c).next
    ∃ t, exec (.descriptorFetchDone c ans) s = .next t ∧ s.memSame t ∧
    (s.rd .DMA_CHAIN_MAX_MAX ≤ s.rd .DMA_CHNDESC_COUNT c → t.rd .DMA_CHSTAT_STATE c = 3 ∧ t.rd .DMA_CHSTAT_ERR c = 1 ∧ s.raised t 255) ∧
    (s.rd .DMA_CHNDESC_COUNT c < s.rd .DMA_CHAIN_MAX_MAX → (ans ≠ .ok ∨ engineReach a 64 = false ∨ s.poisoned a 64 = true) →
      t.rd .DMA_CHSTAT_STATE c = 3 ∧ t.rd .DMA_CHSTAT_ERR c = 2 ∧ s.raised t 256) ∧
    (s.rd .DMA_CHNDESC_COUNT c < s.rd .DMA_CHAIN_MAX_MAX → ans = .ok → engineReach a 64 = true → s.poisoned a 64 = false →
      (t.dch c).src = s.mrd 8 a ∧ (t.dch c).dst = s.mrd 8 (a + 8) ∧ (t.dch c).next = s.mrd 8 (a + 16) ∧
      (t.dch c).blen = s.mrd 4 (a + 32) % 2 ^ 25 ∧ (t.dch c).nburst = s.mrd 4 (a + 36) % 2 ^ 24 ∧ (t.dch c).fetch = false ∧
      (t.dch c).tag = s.mrd 8 (a + 24) ∧ (t.dch c).stride = s.mrd 4 (a + 40) % 2 ^ 25 ∧ (t.dch c).ctl = s.mrd 4 (a + 44) ∧
      t.rd .DMA_CHCUR_ADDR c = a % 2 ^ 64 ∧ t.rd .DMA_CHNDESC_COUNT c = min (2 ^ 32 - 1) (s.rd .DMA_CHNDESC_COUNT c + 1) ∧
      (let bad := descBad (t.dch c) (s.mrd 4 (a + 32) / 2 ^ 25 + s.mrd 4 (a + 36) / 2 ^ 24 + s.mrd 4 (a + 40) / 2 ^ 25 + s.mrd 8 (a + 56))
          (s.rd .DMA_CHCTL_LINE c);
        (bad = none → t.rd .DMA_CHSTAT_STATE c = 1 ∧ t.rd .DMA_CHBURST_COUNT c = 0 ∧ (t.dch c).cs = (t.dch c).src ∧ (t.dch c).cd = (t.dch c).dst) ∧
        ∀ r, bad = some r → t.rd .DMA_CHSTAT_STATE c = 3 ∧ t.rd .DMA_CHSTAT_ERR c = 3 ∧ t.rd .DMA_CHCTL_EN c = 0 ∧
          s.recorded t 257 [(1, c.val), (8, a), (1, r)]))) ∧
  (∀ (c : Fin 128) (wb : WriteBack) (s : State), let d := s.dch c; let line := s.rd .DMA_CHCTL_LINE c
    let done := (s.rd .DMA_CHDONE_BYTES c + d.blen) % 2 ^ 64
    s.rd .DMA_CHSTAT_STATE c = 1 → d.fetch = false → s.bit .DMA_CTL_EN = true → s.bit .DMA_CHSTAT_GUARDW c = false →
    (56 ≤ line → (d.pace = false ∨ s.rd .DMA_LPEND_COUNT line ≠ 0) → tagBad d.tag = false → engineReach d.cs d.blen = true →
      engineReach d.cd d.blen = true → s.rd .DMA_CHBURST_COUNT c + 1 < 2 ^ 24 →
      ∃ t, exec (.dmaBurstDone c .ok wb) s = .next t ∧ t.rd .DMA_CHDONE_BYTES c = done ∧
      (s.rd .DMA_CHBURST_COUNT c + 1 < d.nburst → t.mbs d.cd d.blen = s.mbs d.cs d.blen ∧ s.memBut t d.cd d.blen ∧
        t.rd .DMA_CHBURST_COUNT c = s.rd .DMA_CHBURST_COUNT c + 1 ∧ (t.dch c).cs = d.cs + d.advance ∧ (t.dch c).cd = d.cd + d.advance ∧
        t.rd .DMA_CHSTAT_STATE c = 1) ∧
      (d.nburst ≤ s.rd .DMA_CHBURST_COUNT c + 1 → d.cyclic = true → (t.dch c).cs = d.src ∧ (t.dch c).cd = d.dst ∧
        t.rd .DMA_CHBURST_COUNT c = 0 ∧ t.mbs d.cd d.blen = s.mbs d.cs d.blen ∧ t.rd .DMA_CHSTAT_STATE c = 1) ∧
      (d.nburst ≤ s.rd .DMA_CHBURST_COUNT c + 1 → d.cyclic = false → d.next ≠ 0 → (t.dch c).fetch = true ∧
        t.mbs d.cd d.blen = s.mbs d.cs d.blen) ∧
      (d.nburst ≤ s.rd .DMA_CHBURST_COUNT c + 1 → d.cyclic = false → d.next = 0 →
        (wb = .ok ∨ s.rd .DMA_CHNDESC_COUNT c = 0 → t.rd .DMA_CHSTAT_STATE c = 2 ∧ t.rd .DMA_CHSTAT_END c = 0) ∧
        (wb ≠ .ok → s.rd .DMA_CHNDESC_COUNT c ≠ 0 → t.rd .DMA_CHSTAT_STATE c = 3 ∧ t.rd .DMA_CHSTAT_ERR c = 2 ∧ s.raised t 256))) ∧
    (48 ≤ line → line < 56 → (d.pace = false ∨ s.rd .DMA_LPEND_COUNT line ≠ 0) → tagBad d.tag = false →
      engineReach d.cs d.blen = true → ∃ t, exec (.dmaBurstDone c .ok wb) s = .next t ∧ t.rd .DMA_CHDONE_BYTES c = done) ∧
    (48 ≤ line → d.pace = true → s.rd .DMA_LPEND_COUNT line = 0 → ∀ ans, exec (.dmaBurstDone c ans wb) s = .next s) ∧
    (48 ≤ line → (d.pace = false ∨ s.rd .DMA_LPEND_COUNT line ≠ 0) → ∀ ans, ∃ t, exec (.dmaBurstDone c ans wb) s = .next t ∧
      (tagBad d.tag = true → t.rd .DMA_CHSTAT_STATE c = 3 ∧ t.rd .DMA_CHSTAT_ERR c = 2 ∧ s.raised t 254 ∧ s.raised t 256 ∧ s.memSame t) ∧
      (tagBad d.tag = false → (ans = .error ∨ engineReach d.cs d.blen = false) → t.rd .DMA_CHSTAT_STATE c = 3 ∧
        t.rd .DMA_CHSTAT_ERR c = 2 ∧ s.raised t 256 ∧ s.memSame t)) ∧
    (∀ x rest, line < 24 → (s.hse line).wreq = x :: rest → (s.chan line).staged.length < 2 → s.oceHolds line = false →
      tagBad x = false → engineReach d.cs 4128 = true → ∃ t, exec (.dmaBurstDone c .ok wb) s = .next t ∧ (t.hse line).wreq = rest ∧
      (t.chan line).staged.length = (s.chan line).staged.length + 1 ∧
      t.rd .DMA_CHDONE_BYTES c = (s.rd .DMA_CHDONE_BYTES c + 4128) % 2 ^ 64) ∧
    ∀ x rest, 24 ≤ line → line < 48 → let h := line - 24; let res := (s.chan h).res
      (s.hse h).rreq = x :: rest → res ≠ [] → tagBad (readTag x res) = false → engineReach d.cd res.length = true →
      s.rd .DMA_CHBURST_COUNT c + 1 < d.nburst → ∃ t, exec (.dmaBurstDone c .ok wb) s = .next t ∧ (t.hse h).rreq = rest ∧
      t.mbs d.cd res.length = res ∧ s.memBut t d.cd res.length ∧
      (rest = [] → (s.hse h).raisedR = [] → (t.hse h).latch.testBit latDeliv = true)) ∧
  (∀ (c : Fin 128) (s : State), s.rd .DMA_CHSTAT_STATE c = 1 → s.bit .DMA_CTL_EN = true → ((s.dch c).fetch = true ∨
      s.bit .DMA_CHSTAT_GUARDW c = false ∧ s.burstDue c (s.rd .DMA_CHCTL_LINE c) = true) → ∃ t, exec (.dmaBusTimeout c) s = .next t ∧
    t.rd .DMA_CHSTAT_STATE c = 3 ∧ t.rd .DMA_CHSTAT_ERR c = 2 ∧ t.rd .DMA_CHCTL_EN c = 0 ∧ s.raised t 256 ∧ s.memSame t ∧
    ((s.dch c).fetch = true → s.recorded t 256 [(1, c.val), (8, (s.dch c).next), (1, 0)])) ∧
  (∀ (c : Fin 128) (ans : Answer) (wb : WriteBack) (s : State), s.rd .DMA_CHSTAT_STATE c ≠ 1 ∨ s.bit .DMA_CTL_EN = false →
    exec (.descriptorFetchDone c ans) s = .next s ∧ exec (.dmaBurstDone c ans wb) s = .next s ∧ exec (.dmaBusTimeout c) s = .next s) ∧
  ∀ (c : Fin 128) (s : State), (s.bit .DMA_CHSTAT_GUARDW c = true → (s.dch c).told = false → ∃ t, exec (.guardWait1ms c) s = .next t ∧
    (t.dch c).told = true ∧ s.recorded t 259 [(1, c.val), (1, b2n (s.rd .DMA_CHBURST_COUNT c == 0))] ∧ s.only t [] [.dma, .ev]) ∧
    (s.bit .DMA_CHSTAT_GUARDW c = false ∨ (s.dch c).told = true → exec (.guardWait1ms c) s = .next s)

/-- Doorbells, admission, credits, offers and the 1 s waits act as the host queue rules give. With step 10 released
and for a function there is, a tail doorbell below the queue's size sets the tail, a head doorbell that consumes
posted entries frees their tags and no others, and any other doorbell only raises event 240. COMMAND_ADMIT at a queue
that may not be fetched, or that is not the arbiter's next, changes nothing; at one whose function is at its tag cap
it only raises event 225; an entry whose lock a full wide list has no room for stays, its queue skipped with event
229; any other leaves the queue and takes the next admission number: an admin command that passes its checks is
credited, one that fails them, or that names no namespace, or that writes to one whose key is lost, completes with its
status, a Read whose credits are free is credited under its lock. CREDIT_GRANT gives the earliest waiting command of
the pool its whole need where that is free, and else changes nothing. HIF_NEXT_READ starts the first command in
admission order that is credited, meets no conflict and is ordered, and returns its word, or 0 with none. A command
still held by a lock or by its order after 1 s raises event 227 or 228, and a full completion queue event 226. Where
its occasion is missing a row changes nothing (log entry 6, the model's choice). Other choices of the model it rests
on: log entries 56, 57, 68, 102, 104. -/
def Obligations.QueuesAreFetchedAndCommandsStart : Prop :=
  (∀ (f : Func) (q v : W16) (k : Sq) (s : State), s.up 10 = true → s.hasFunc f = true → s.sq f q.toNat = some k → v.toNat < k.size →
    ∃ t, exec (.sqTailDoorbell f q v) s = .next t ∧ t.sq f q.toNat = some { k with tail := v.toNat } ∧ s.only t [] [.hif] ∧
      t.hif.cmds = s.hif.cmds ∧ t.hif.cqs = s.hif.cqs) ∧
  (∀ (f : Func) (q v : W16) (s : State), s.up 10 = true → s.hasFunc f = true → (∀ k, s.sq f q.toNat = some k → k.size ≤ v.toNat) →
    ∃ t, exec (.sqTailDoorbell f q v) s = .next t ∧ s.recorded t 240 [(2, f), (2, 2 * q.toNat), (2, v.toNat)] ∧ s.only t [] [.ev]) ∧
  (∀ (f : Func) (q v : W16) (k : Cq) (s : State), let n := (v.toNat + k.size - k.head) % k.size
    s.up 10 = true → s.hasFunc f = true → s.cq f q.toNat = some k → v.toNat < k.size → n ≤ k.posted.length →
    ∃ t, exec (.cqHeadDoorbell f q v) s = .next t ∧
      t.cq f q.toNat = some { k with head := v.toNat, posted := k.posted.drop n } ∧
      t.hif.cmds = s.hif.cmds.filter (fun c => !(k.posted.take n).contains c.tag) ∧ s.only t [] [.hif, .ev]) ∧
  (∀ (f : Func) (q v : W16) (s : State), s.up 10 = true → s.hasFunc f = true → (∀ k, s.cq f q.toNat = some k →
      k.size ≤ v.toNat ∨ k.posted.length < (v.toNat + k.size - k.head) % k.size) →
    ∃ t, exec (.cqHeadDoorbell f q v) s = .next t ∧ s.recorded t 240 [(2, f), (2, 2 * q.toNat + 1), (2, v.toNat)] ∧
      s.only t [] [.ev]) ∧
  (∀ (f : Func) (q v : W16) (s : State), s.rst.step < 10 ∨ s.hasFunc f = false →
    exec (.sqTailDoorbell f q v) s = .next s ∧ exec (.cqHeadDoorbell f q v) s = .next s) ∧
  (∀ (f : Func) (q : W16) (e : Sqe) (r : List (Nat × Nat)) (s : State), s.fetchable f q.toNat = false ∨
      s.capped f q.toNat = false ∧ s.mayFetch f q.toNat = false → exec (.commandAdmit f q e r) s = .next s) ∧
  (∀ (f : Func) (q : W16) (e : Sqe) (r : List (Nat × Nat)) (s : State), s.fetchable f q.toNat = true → s.capped f q.toNat = true →
    ∃ t, exec (.commandAdmit f q e r) s = .next t ∧ s.recorded t 225 [(2, f)] ∧ s.only t [] [.ev]) ∧
  (∀ (f : Func) (q : W16) (e : Sqe) (r : List (Nat × Nat)) (ns : Nat) (s : State), s.mayFetch f q.toNat = true →
    s.wideBlocked f q.toNat e r = some ns → ∃ t, exec (.commandAdmit f q e r) s = .next t ∧ t.hif.cmds = s.hif.cmds ∧
      (t.sq f q.toNat).map (fun k => k.wide) = (s.sq f q.toNat).map (fun _ => ns + 1) ∧
      s.recorded t 229 [(1, ns)] ∧ s.only t [] [.hif, .ev]) ∧
  (∀ (f : Func) (q : W16) (e : Sqe) (r : List (Nat × Nat)) (k : Sq) (s : State), s.mayFetch f q.toNat = true → s.sq f q.toNat = some k →
    s.wideBlocked f q.toNat e r = none → s.guardTells →
    ∃ t, exec (.commandAdmit f q e r) s = .next t ∧ t.hif.aseq = s.hif.aseq + 1 ∧
      (q.toNat = 0 → s.adminCheck f e = 0 → e.op ∉ [0x0D, 0x14, 0x80, 0x84] →
        t.sq f 0 = some { k with head := (k.head + 1) % k.size, wide := 0 } ∧
        (∃ c ∈ t.hif.cmds, c.e = e ∧ c.func = f ∧ c.sqid = 0 ∧ c.aseq = s.hif.aseq ∧ c.st = .credited ∧ c.lock = none) ∧
        (∀ x, (x < ctxLo ∨ ctxLo + 0x800000 ≤ x) → (∀ c ∈ s.hif.cmds, x < ctxAddr c.tag + 8 ∨ ctxAddr c.tag + 12 ≤ x) → t.mb x = s.mb x) ∧
        s.regsBut t [.BUF_FREE_FREE, .BUF_STAT_GUARD] ∧ s.keeps t [.hif, .ev, .free, .out]) ∧
      (q.toNat = 0 → s.adminCheck f e ≠ 0 → (∃ x, x < 131072 ∧ s.cmd? x = none) →
        ∃ c ∈ t.hif.cmds, c.e = e ∧ c.func = f ∧ c.sqid = 0 ∧ c.aseq = s.hif.aseq ∧ c.cpl = some (s.adminCheck f e, 0, 0)) ∧
      (q.toNat ≠ 0 → s.psNow < 3 → e.op = 0x02 → s.nsFor f e.nsid.toNat = none → (∃ x, x < 131072 ∧ s.cmd? x = none) →
        ∃ c ∈ t.hif.cmds, c.e = e ∧ c.func = f ∧ c.sqid = q.toNat ∧ c.aseq = s.hif.aseq ∧ c.cpl = some (scNamespace, 0, 0)) ∧
      (∀ n, q.toNat ≠ 0 → s.psNow < 3 → isWrite e.op = true → s.nsFor f e.nsid.toNat = some n → ioCheck n (s.nsBusy f n) e = 0 →
        s.keyLost n = true → (∃ x, x < 131072 ∧ s.cmd? x = none) →
        ∃ c ∈ t.hif.cmds, c.e = e ∧ c.func = f ∧ c.sqid = q.toNat ∧ c.aseq = s.hif.aseq ∧ c.cpl = some (scWriteProtected, 0, 0)) ∧
      ∀ n, q.toNat ≠ 0 → s.psNow < 3 → e.op = 0x02 → s.nsFor f e.nsid.toNat = some n → ioCheck n (s.nsBusy f n) e = 0 →
        e.nlb ≠ 0 → e.nlb ≤ s.poolSize 1 → e.nlb ≤ s.poolFree 1 → s.hif.cmds.any Cmd.waits = false →
        ∃ c ∈ t.hif.cmds, c.e = e ∧ c.func = f ∧ c.sqid = q.toNat ∧ c.aseq = s.hif.aseq ∧ c.st = .credited ∧ c.has1 = e.nlb ∧
          c.lock = lockFor n e none r) ∧
  (∀ (read : Bool) (c : Cmd) (s : State), let k := if read then 1 else 0
    let need (c : Cmd) : Nat := if read then c.need1 else c.need0
    let waits (c : Cmd) : Prop := c.st = .admitted ∧ (if read then c.has1 < c.need1 else c.has0 < c.need0)
    s.Canonical → s.up 10 = true → c ∈ s.hif.cmds → waits c → (∀ d ∈ s.hif.cmds, d ≠ c → d.tag ≠ c.tag ∧ (waits d → c.aseq < d.aseq)) →
    ∃ t, exec (.creditGrant read) s = .next t ∧ (s.rd .BUF_FREE_FREE k < need c → t = s) ∧
      (need c ≤ s.rd .BUF_FREE_FREE k → s.guardTells →
        t.rd .BUF_FREE_FREE k = s.rd .BUF_FREE_FREE k - need c ∧
        (∃ d ∈ t.hif.cmds, d.tag = c.tag ∧ d.st = .credited ∧ (if read then d.has1 else d.has0) = need c) ∧
        s.memBut t (ctxAddr c.tag + 8) 4 ∧ s.keysBut t (fun x => x.reg = .BUF_FREE_FREE ∧ x.i = k ∨ x.reg = .BUF_STAT_GUARD) ∧
        s.keeps t [.hif])) ∧
  (∀ (read : Bool) (s : State), s.rst.step < 10 ∨
      (∀ d ∈ s.hif.cmds, ¬ (d.st = .admitted ∧ (if read then d.has1 < d.need1 else d.has0 < d.need0))) →
    exec (.creditGrant read) s = .next s) ∧
  (∀ (c : Cmd) (s : State), s.hif.cmds.find? s.offered = some c → ∃ t, exec .hifNextRead s = .next t ∧
    (t.cmd? c.tag).map (fun d => d.st) = some .started ∧ s.sent t [.popped .HIF_NEXT_CMDTAG 0 c.nextWord] ∧
    s.memBut t (ctxAddr c.tag + 8) 4 ∧ s.regsBut t [] ∧ s.keeps t [.hif, .out]) ∧
  (∀ s : State, s.hif.cmds.find? s.offered = none → ∃ t, exec .hifNextRead s = .next t ∧
    s.sent t [.popped .HIF_NEXT_CMDTAG 0 0] ∧ s.only t [] [.out]) ∧
  (∀ (tag : Tag) (c b : Cmd) (s : State), s.cmd? tag.toNat = some c → (c.st = .admitted ∨ c.st = .credited) → s.blocker c = some b →
    ∃ t, exec (.lockWait1s tag) s = .next t ∧ s.recorded t 227 [(4, c.tag), (4, b.tag)] ∧ s.only t [] [.ev]) ∧
  (∀ (tag : Tag) (s : State), (∀ c, s.cmd? tag.toNat = some c → c.st ≠ .admitted ∧ c.st ≠ .credited ∨ s.blocker c = none) →
    exec (.lockWait1s tag) s = .next s) ∧
  (∀ (tag : Tag) (c : Cmd) (s : State), s.cmd? tag.toNat = some c → (c.st = .admitted ∨ c.st = .credited) → c.ord = true →
    ∃ t, exec (.orderedWait1s tag) s = .next t ∧ s.recorded t 228 [(4, c.tag), (2, c.sqid)] ∧ s.only t [] [.ev]) ∧
  (∀ (tag : Tag) (s : State), (∀ c, s.cmd? tag.toNat = some c → c.st ≠ .admitted ∧ c.st ≠ .credited ∨ c.ord = false) →
    exec (.orderedWait1s tag) s = .next s) ∧
  ∀ (f : Func) (q : W16) (k : Cq) (s : State), s.cq f q.toNat = some k →
    (k.room = false → ∃ t, exec (.cqFull1s f q) s = .next t ∧
      s.recorded t 226 [(2, f), (2, q.toNat), (4, (s.waitingFor f q.toNat).length)] ∧ s.only t [] [.ev]) ∧
    (k.room = true → exec (.cqFull1s f q) s = .next s)

/-- Host transfers, lock releases, completions and posting act as the host queue rules give. With step 10 released,
HIF_XFER of a started command with data and no transfer yet captures its buffer addresses, none where the list is out
of reach, and runs the transfer; of any other tag it sets XERR. At its end an unfailed transfer, all of whose segments
have started, puts a frame a block on the fabric; one of a Read sends the blocks before the first poisoned one, which
names the first lost LBA and changes a success already written into an unrecovered error, and one of a write fills the
listed blocks and no other byte; an error does neither, and its tag and error stand at the end of XDONE, which
HIF_XDONE_READ pops. LREL.FWD marks the exclusive lock of a started Write or Zone Append forwarding and LREL.REL drops
a shared lock; anything else sets LRERR. HIF_CPL_WRITE completes a started command with the status and dwords written,
an ended one as aborted and a lossy success as unrecovered, and sets CPLERR for a tag not started. COMPLETION_POST
posts the oldest completion of a queue with room at the queue's tail, but not while its transfer runs. A coalescing
timeout signals entries not yet signalled. Off its occasion a row changes nothing (log entry 6, the model's choice).
Other choices of the model it rests on: log entries 20, 58, 59, 88, 102, 104. -/
def Obligations.CommandsTransferAndComplete : Prop :=
  (∀ (tag : Tag) (c : Cmd) (s : State), s.up 10 = true → s.started? tag.toNat = some c → c.hasData = true → c.xfer = .idle →
    let base := s.rd .HIF_XLIST_ADDR
    let l := if hifReach base (8 * c.e.nlb) then (List.range c.e.nlb).map (fun k => s.mrd 8 (base + 8 * k)) else []
    ∃ t, exec (.hifXferWrite tag) s = .next t ∧ t.cmd? tag.toNat = some { c with xfer := .running, xlist := l } ∧
      s.only t [] [.hif, .ev]) ∧
  (∀ (tag : Tag) (s : State), s.up 10 = true → (∀ c, s.started? tag.toNat = some c → c.hasData = false ∨ c.xfer ≠ .idle) →
    ∃ t, exec (.hifXferWrite tag) s = .next t ∧ t.rd .HIF_STAT_XERR = 1 ∧ s.only t [.HIF_STAT_XERR] []) ∧
  (∀ (tag : Tag) (err : Bool) (data : List Byte) (c : Cmd) (s : State), s.cmd? tag.toNat = some c → c.xfer = .running →
    (err = true ∨ s.allMoved c = true) → c.xlist.length = c.e.nlb → (∀ a ∈ c.xlist, hifReach a 4096 = true) →
    let read := c.e.op == 0x02
    let frames := (List.range c.xlist.length).map (fun k => Out.fabric (frameTag c.tag c.func (c.nsidx.getD 0) 31 (b2n read) k
      (b2n (k + 1 == c.xlist.length) + 2 * b2n c.ord + 32 * b2n (read && s.poisoned (c.xlist.getD k 0) 4096))))
    let after : Cmd := { c with xfer := if err then .failed else .ended }
    ∃ t, exec (.hostTransferEnd tag err data) s = .next t ∧ t.hif.xdone = s.hif.xdone ++ [(c.tag, err)] ∧
    (c.st = .completed → c.silent = true → t.cmd? tag.toNat = none) ∧
    (¬ (c.st = .completed ∧ c.silent = true) → (t.cmd? tag.toNat).map (fun d => d.xfer) = some after.xfer) ∧
    (read = true → s.memSame t) ∧
    (read = true → err = false → s.sent t (frames ++ [.toHost c.tag (s.goodBlocks c.xlist 0).1]) ∧
      ∀ k, (s.goodBlocks c.xlist 0).2 = some k → c.errLba = none → ¬ (c.st = .completed ∧ c.silent = true) →
        (t.cmd? tag.toNat).map (fun d => d.errLba) = some (some (c.e.slba + k)) ∧
        (∀ d0 d1, c.st = .completed → c.cpl = some (0, d0, d1) →
          (t.cmd? tag.toNat).map (fun d => d.cpl) = some (some (scUnrecovered, d0, d1)))) ∧
    (err = true → t.out = s.out ∧ s.memSame t) ∧
    (read = false → s.regsBut t [] ∧ (∀ x, (∀ a ∈ c.xlist, x < a ∨ a + 4096 ≤ x) → t.mb x = s.mb x)) ∧
    (read = false → err = false → s.sent t frames ∧ (c.xlist.Pairwise (fun a b => a + 4096 ≤ b ∨ b + 4096 ≤ a) →
      data.length = 4096 * c.e.nlb → ∀ k a, c.xlist[k]? = some a → t.mbs a 4096 = (data.drop (4096 * k)).take 4096))) ∧
  (∀ (tag : Tag) (err : Bool) (data : List Byte) (s : State),
    (∀ c, s.cmd? tag.toNat = some c → c.xfer ≠ .running ∨ err = false ∧ s.allMoved c = false) →
    exec (.hostTransferEnd tag err data) s = .next s) ∧
  (∀ (x : Nat × Bool) (l : List (Nat × Bool)) (s : State), s.hif.xdone = x :: l → ∃ t, exec .hifXdoneRead s = .next t ∧
    t.hif = { s.hif with xdone := l } ∧ s.sent t [.popped .HIF_XDONE_CMDTAG 0 (x.1 + b2n x.2 * 2 ^ 17 + 2 ^ 63)] ∧ s.only t [] [.hif, .out]) ∧
  (∀ s : State, s.hif.xdone = [] → ∃ t, exec .hifXdoneRead s = .next t ∧ s.sent t [.popped .HIF_XDONE_CMDTAG 0 0] ∧ s.only t [] [.out]) ∧
  (∀ (tag : Tag) (c : Cmd) (l : Lock) (s : State), s.up 10 = true → s.started? tag.toNat = some c → c.lock = some l →
    let can := l.ex = true ∧ l.held = true ∧ c.sqid ≠ 0 ∧ (c.e.op = 0x01 ∨ c.e.op = 0x7D)
    (can → ∃ t, exec (.lrelFwd tag) s = .next t ∧
      t.cmd? tag.toNat = some { c with lock := some { l with fwd := true } } ∧ s.only t [] [.hif]) ∧
    (¬ can → ∃ t, exec (.lrelFwd tag) s = .next t ∧ t.rd .HIF_STAT_LRERR = 1 ∧ s.only t [.HIF_STAT_LRERR] []) ∧
    (l.ex = false → ∃ t, exec (.lrelRel tag) s = .next t ∧
      t.cmd? tag.toNat = some { c with lock := some { l with held := false } } ∧ s.only t [] [.hif]) ∧
    (l.ex = true → ∃ t, exec (.lrelRel tag) s = .next t ∧ t.rd .HIF_STAT_LRERR = 1 ∧ s.only t [.HIF_STAT_LRERR] [])) ∧
  (∀ (tag : Tag) (s : State), s.up 10 = true → (∀ c l, s.started? tag.toNat = some c → c.lock ≠ some l) →
    ∀ c ∈ ([.lrelFwd tag, .lrelRel tag] : List Instr),
    ∃ t, exec c s = .next t ∧ t.rd .HIF_STAT_LRERR = 1 ∧ s.only t [.HIF_STAT_LRERR] []) ∧
  (∀ (v : W32) (s : State), s.up 10 = true → let tag := bitsN v.toNat 0 17; let st := bitsN v.toNat 17 15
    (∀ c, s.runs tag c → ∃ t, exec (.hifCplWrite v) s = .next t ∧
      t.done tag (if c.ended then scSqDeleted else if st = 0 ∧ c.errLba.isSome then scUnrecovered else st)
        (s.rd .HIF_CPLDW0_DW0) (s.rd .HIF_CPLDW1_DW1) ∧ (t.cmd? tag).map (fun d => d.xfer) = some c.xfer ∧
        s.completing t [.hif, .ev]) ∧
    (s.started? tag = none → ∃ t, exec (.hifCplWrite v) s = .next t ∧ t.rd .HIF_STAT_CPLERR = 1 ∧ s.only t [.HIF_STAT_CPLERR] [])) ∧
  (∀ (v : W32) (tag : Tag) (s : State), s.rst.step < 10 → exec (.hifCplWrite v) s = .next s ∧ exec (.hifXferWrite tag) s = .next s ∧
    exec (.lrelFwd tag) s = .next s ∧ exec (.lrelRel tag) s = .next s) ∧
  (∀ (f : Func) (q : W16) (k : Cq) (c : Cmd) (l : List Cmd) (s : State), s.cq f q.toNat = some k → s.waitingFor f q.toNat = c :: l →
    (k.room = true → c.xfer ≠ .running → ∃ t, exec (.completionPost f q) s = .next t ∧
      (t.cq f q.toNat).map (fun x => (x.head, x.tail, x.posted)) = some (k.head, (k.tail + 1) % k.size, k.posted ++ [c.tag]) ∧
      ∃ w hd rest st d0 d1, t.out = s.out ++ .fabric w :: .cqe f q.toNat c.sqid hd c.e.cid.toNat st d0 d1 :: rest ∧
        (∀ x, s.sq f c.sqid = some x → hd = x.head) ∧ ∀ x, c.cpl = some x → x = (st, d0, d1)) ∧
    (c.xfer = .running → exec (.completionPost f q) s = .next s)) ∧
  (∀ (f : Func) (q : W16) (s : State), (s.waitingFor f q.toNat = [] ∨ ∀ k, s.cq f q.toNat = some k → k.room = false) →
    exec (.completionPost f q) s = .next s) ∧
  ∀ (f : Func) (q : W16) (k : Cq) (s : State), s.cq f q.toNat = some k →
    (k.ien = true → k.unsig ≠ 0 → ∃ t, exec (.interruptCoalescingTimeout f q) s = .next t ∧
      t.cq f q.toNat = some { k with unsig := 0 } ∧ s.sent t [.irq f k.vec] ∧ s.only t [] [.hif, .out]) ∧
    (k.ien = false ∨ k.unsig = 0 → exec (.interruptCoalescingTimeout f q) s = .next s)

/-- The admin commands of queues, features, events, directives and virtualization act and complete as their rules
give. For a started admin command that nothing ends: a Create makes the queue it describes where identifier, size,
contiguity, vector or completion queue pass, and completes with the status of what does not; a Delete of a submission
queue ends its unstarted commands and completes once all are posted, one of a completion queue waits for no submission
queue using it. Abort aborts nothing, completes with 1 in Dword 0 and raises event 230. Up to eight event requests
wait for notices. Directive Send is refused and Directive Receive returns types 0 and 0Fh. Virtualization Management
assigns flexible resources and moves a secondary controller online or offline with event 242. Set and Get Features set
and return values, no feature is saveable, and cache, governor and power are the physical function's. These commands
touch nothing else. One whose queue or controller is going completes as aborted, and a row with no such command
changes nothing (log entry 6, the model's choice). Status codes are NVMe's (log entry 20). Choices of the model it
rests on: log entries 20, 61, 65, 104. -/
def Obligations.AdminCommandsActAndComplete : Prop :=
  (∀ (tag : Tag) (c : Cmd) (s : State), s.carries tag.toNat c → c.sqid = 0 → c.e.opc.toNat = 0x05 →
    let qid := dwBits c.e.cdw10 0 16
    let size := dwBits c.e.cdw10 16 16 + 1
    let vec := dwBits c.e.cdw11 16 16
    ∃ t, exec (.createIoCompletionQueue tag) s = .next t ∧
    ((qid = 0 ∨ s.queuesOf c.func < qid ∨ (s.cq c.func qid).isSome) → t.done tag.toNat scQueueId 0 0) ∧
    (qid ≠ 0 → qid ≤ s.queuesOf c.func → s.cq c.func qid = none →
      ((4096 < size ∨ size = 1) → t.done tag.toNat scQueueSize 0 0) ∧
      (2 ≤ size → size ≤ 4096 → dwBits c.e.cdw11 0 1 = 0 → t.done tag.toNat scField 0 0) ∧
      (2 ≤ size → size ≤ 4096 → dwBits c.e.cdw11 0 1 = 1 → s.vectorsOf c.func ≤ vec → t.done tag.toNat scVector 0 0) ∧
      (2 ≤ size → size ≤ 4096 → dwBits c.e.cdw11 0 1 = 1 → vec < s.vectorsOf c.func → t.done tag.toNat 0 0 0 ∧
        t.cq c.func qid = some { size := size, vec := vec, ien := dwBits c.e.cdw11 1 1 == 1 }))) ∧
  (∀ (tag : Tag) (c : Cmd) (s : State), s.carries tag.toNat c → c.sqid = 0 → c.e.opc.toNat = 0x01 →
    let qid := dwBits c.e.cdw10 0 16
    let size := dwBits c.e.cdw10 16 16 + 1
    let cq := dwBits c.e.cdw11 16 16
    ∃ t, exec (.createIoSubmissionQueue tag) s = .next t ∧
    ((qid = 0 ∨ s.queuesOf c.func < qid ∨ (s.sq c.func qid).isSome) → t.done tag.toNat scQueueId 0 0) ∧
    (qid ≠ 0 → qid ≤ s.queuesOf c.func → s.sq c.func qid = none →
      ((4096 < size ∨ size = 1) → t.done tag.toNat scQueueSize 0 0) ∧
      (2 ≤ size → size ≤ 4096 → dwBits c.e.cdw11 0 1 = 0 → t.done tag.toNat scField 0 0) ∧
      (2 ≤ size → size ≤ 4096 → dwBits c.e.cdw11 0 1 = 1 →
        ((cq = 0 ∨ s.queuesOf c.func < cq) → t.done tag.toNat scQueueId 0 0) ∧
        (cq ≠ 0 → cq ≤ s.queuesOf c.func → s.cq c.func cq = none → t.done tag.toNat scCqInvalid 0 0) ∧
        (cq ≠ 0 → cq ≤ s.queuesOf c.func → (s.cq c.func cq).isSome → t.done tag.toNat 0 0 0 ∧
          t.sq c.func qid = some { size := size, cq := cq, prio := dwBits c.e.cdw11 1 2 })))) ∧
  (∀ (tag : Tag) (c : Cmd) (s : State), s.carries tag.toNat c → c.sqid = 0 → c.e.opc.toNat = 0x00 →
    let qid := dwBits c.e.cdw10 0 16
    (qid = 0 ∨ (∀ k, s.sq c.func qid = some k → k.deleting ≠ 0) → ∃ t, exec (.deleteIoSubmissionQueue tag) s = .next t ∧
      t.done tag.toNat scQueueId 0 0) ∧
    ∀ k, qid ≠ 0 → s.sq c.func qid = some k → k.deleting = 0 →
    ∃ t, exec (.deleteIoSubmissionQueue tag) s = .next t ∧
    ((∀ x ∈ s.hif.cmds, x.func = c.func → x.sqid ≠ qid) → t.sq c.func qid = none ∧ t.done tag.toNat 0 0 0 ∧ s.raised t 222) ∧
    ∀ x ∈ s.hif.cmds, x.func = c.func → x.sqid = qid → (x.st = .admitted ∨ x.st = .credited) → x.silent = false →
      (∀ y ∈ s.hif.cmds, y.tag = x.tag → y = x) → s.guardTells →
      t.done x.tag scSqDeleted 0 0 ∧ (t.sq c.func qid).map (fun q => q.deleting) = some (c.tag + 1)) ∧
  (∀ (tag : Tag) (c : Cmd) (s : State), s.carries tag.toNat c → c.sqid = 0 → c.e.opc.toNat = 0x04 →
    let qid := dwBits c.e.cdw10 0 16
    let used := s.hif.sqs.any (fun e => e.1 / 65536 == c.func && (match e.2 with | some x => x.cq == qid | none => false))
    ∃ t, exec (.deleteIoCompletionQueue tag) s = .next t ∧
      (qid = 0 ∨ s.cq c.func qid = none → t.done tag.toNat scQueueId 0 0) ∧
      ∀ k, qid ≠ 0 → s.cq c.func qid = some k → (used = true → t.done tag.toNat scQueueDeletion 0 0) ∧
        (used = false → c.tag ∉ k.posted → t.cq c.func qid = none ∧ t.done tag.toNat 0 0 0)) ∧
  (∀ (tag : Tag) (c : Cmd) (s : State), s.carries tag.toNat c → c.sqid = 0 → c.e.opc.toNat = 0x08 →
    ∃ t, exec (.abort tag) s = .next t ∧ t.done tag.toNat 0 1 0 ∧ s.raised t 230) ∧
  (∀ (tag : Tag) (c : Cmd) (s : State), s.carries tag.toNat c → c.sqid = 0 → c.e.opc.toNat = 0x0C → let k := s.ctrl c.func
    ∃ t, exec (.asynchronousEventRequest tag) s = .next t ∧ (c.tag ∈ k.aers → t = s) ∧
    (c.tag ∉ k.aers → 8 ≤ k.aers.length → t.done tag.toNat scAerLimit 0 0) ∧
    (c.tag ∉ k.aers → k.aers.length < 8 → k.notices = [] → (t.ctrl c.func).aers = k.aers ++ [c.tag] ∧ s.only t [] [.hif]) ∧
    (c.tag ∉ k.aers → k.aers.length < 8 → ∀ x l, k.notices = x :: l → t.done tag.toNat 0 x 0)) ∧
  (∀ (tag : Tag) (c : Cmd) (s : State), s.carries tag.toNat c → c.sqid = 0 → c.e.opc.toNat = 0x19 →
    ∃ t, exec (.directiveSend tag) s = .next t ∧ t.done tag.toNat scField 0 0) ∧
  (∀ (tag : Tag) (c : Cmd) (s : State), s.carries tag.toNat c → c.sqid = 0 → c.e.opc.toNat = 0x1A →
    ∃ t, exec (.directiveReceive tag) s = .next t ∧
      (dwBits c.e.cdw11 0 16 = 1 → t.done tag.toNat 0 0 0 ∧
        s.sent t [.toHost c.tag ((leBytes 32 0x8001 ++ leBytes 32 0x8001 ++ zeros 4032).take (4 * (c.e.cdw10.toNat + 1)))]) ∧
      (dwBits c.e.cdw11 0 16 ≠ 1 → t.done tag.toNat scField 0 0 ∧ t.out = s.out)) ∧
  (∀ (tag : Tag) (c : Cmd) (s : State), s.carries tag.toNat c → c.sqid = 0 → c.e.opc.toNat = 0x1C →
    let act := dwBits c.e.cdw10 0 4
    let rt := dwBits c.e.cdw10 8 3
    let f := dwBits c.e.cdw10 16 16
    let nr := dwBits c.e.cdw11 0 16
    ∃ t, exec (.virtualizationManagement tag) s = .next t ∧
    (act ∉ [1, 7, 8, 9] → t.done tag.toNat scField 0 0) ∧
    (act ∈ [7, 8, 9] → f = 0 ∨ 511 < f → t.done tag.toNat scCtrlId 0 0) ∧
    (act = 1 → f = 0 → rt = 0 → nr ≤ 1984 → s.flexQ - (s.ctrl 0).newQ.getD (s.ctrl 0).queues + nr ≤ 32704 →
      t.done tag.toNat 0 nr 0 ∧ (t.ctrl 0).newQ = some nr ∧ (t.ctrl 0).queues = (s.ctrl 0).queues ∧ s.raised t 242) ∧
    (0 < f → f < 512 →
      (act = 8 → (s.ctrl f).online = true → t.done tag.toNat scCtrlState 0 0) ∧
      (act = 8 → (s.ctrl f).online = false → rt = 0 → nr ≤ 2048 → s.flexQ - (s.ctrl f).newQ.getD (s.ctrl f).queues + nr ≤ 32704 →
        t.done tag.toNat 0 nr 0 ∧ (t.ctrl f).queues = nr ∧ s.raised t 242) ∧
      (act = 8 → (s.ctrl f).online = false → rt = 1 → nr ≤ 2048 → s.flexV - (s.ctrl f).newV.getD (s.ctrl f).vecs + nr ≤ 16320 →
        t.done tag.toNat 0 nr 0 ∧ (t.ctrl f).vecs = nr ∧ s.raised t 242) ∧
      (act = 8 → (s.ctrl f).online = false → rt = 0 → (2048 < nr ∨ 32704 < s.flexQ - (s.ctrl f).newQ.getD (s.ctrl f).queues + nr) →
        t.done tag.toNat scResources 0 0 ∧ (t.ctrl f).queues = (s.ctrl f).queues) ∧
      (act = 9 → (s.ctrl f).vecs = 0 → t.done tag.toNat scField 0 0) ∧
      (act = 9 → (s.ctrl f).vecs ≠ 0 → t.done tag.toNat 0 0 0 ∧ (t.ctrl f).online = true ∧ s.raised t 242) ∧
      (act = 7 → (t.ctrl f).online = false ∧ (t.ctrl f).queues = 0 ∧ (t.ctrl f).vecs = 0 ∧ (t.ctrl f).en = false) ∧
      (act = 7 → (s.ctrl f).en = false → t.done tag.toNat 0 0 0 ∧ s.raised t 242))) ∧
  (∀ (tag : Tag) (data : List Byte) (c : Cmd) (s : State), s.carries tag.toNat c → c.sqid = 0 → c.e.opc.toNat = 0x09 →
    let fid := dwBits c.e.cdw10 0 8
    let kept := dwBits c.e.cdw10 31 1
    let v := c.e.cdw11.toNat
    fid ∉ [0x02, 0x05, 0x06, 0xC0] → ∃ t, exec (.setFeatures tag data) s = .next t ∧
    (fid ∉ featIds → t.done tag.toNat scField 0 0) ∧ (fid ∈ featIds → kept = 1 → t.done tag.toNat scNotSaveable 0 0) ∧
    (kept = 0 → (fid = 0x01 ∨ fid = 0x0B ∨ fid = 0x11) → t.done tag.toNat 0 0 0 ∧ t.feat c.func fid = v) ∧
    (kept = 0 → fid = 0x04 → (v / 65536 % 16 = 0 ∨ v / 65536 % 16 = 15) → v / 1048576 % 4 ≤ 1 → t.done tag.toNat 0 0 0 ∧
      t.feat c.func 0x04 (v / 1048576 % 4) = v % 65536) ∧
    (kept = 0 → fid = 0x07 → v % 65536 ≠ 65535 → v / 65536 ≠ 65535 → t.done tag.toNat 0 (s.queueCounts c.func) 0) ∧
    (kept = 0 → fid = 0x08 → t.done tag.toNat 0 0 0 ∧ t.feat c.func fid = v % 65536) ∧
    (kept = 0 → fid = 0x09 → v % 65536 < s.vectorsOf c.func → t.done tag.toNat 0 0 0 ∧
      t.feat c.func 0x09 (v % 65536) = v / 65536 % 2 * 65536) ∧
    (kept = 0 → fid = 0x0C → c.func ≠ 0 → t.done tag.toNat scNotChangeable 0 0) ∧
    (kept = 0 → fid = 0x0C → c.func = 0 → t.done tag.toNat 0 0 0 ∧ t.feat 0 0x0C = v % 2 ∧
      ∀ k, k < 32 → t.feat 0 0x0C (k + 1) = leNat ((data.drop (8 * k)).take 8)) ∧
    (kept = 0 → fid = 0x0E → t.done tag.toNat 0 0 0 ∧ t.feat c.func 0x0E = leNat (data.take 6))) ∧
  (∀ (tag : Tag) (c : Cmd) (s : State), s.carries tag.toNat c → c.sqid = 0 → c.e.opc.toNat = 0x09 →
    let fid := dwBits c.e.cdw10 0 8
    let kept := dwBits c.e.cdw10 31 1
    (∀ x ∈ ([(0x02, .setPowerManagement tag), (0x05, .setErrorRecovery tag), (0x06, .setVolatileWriteCache tag),
        (0xC0, .setSpindleGovernor tag)] : List (Nat × Instr)),
      (fid ≠ x.1 → exec x.2 s = .next s) ∧
      (fid = x.1 → kept = 1 → ∃ t, exec x.2 s = .next t ∧ t.done tag.toNat scNotSaveable 0 0) ∧
      (fid = x.1 → kept = 0 → fid ≠ 0x05 → c.func ≠ 0 → ∃ t, exec x.2 s = .next t ∧ t.done tag.toNat scNotChangeable 0 0)) ∧
    (fid = 0x05 → kept = 0 → dwBits c.e.cdw11 16 1 = 0 → ∃ t, exec (.setErrorRecovery tag) s = .next t ∧ t.done tag.toNat 0 0 0 ∧
      t.feat c.func 0x05 = dwBits c.e.cdw11 0 16) ∧
    (fid = 0x05 → kept = 0 → dwBits c.e.cdw11 16 1 = 1 → ∃ t, exec (.setErrorRecovery tag) s = .next t ∧ t.done tag.toNat scField 0 0) ∧
    (fid = 0x06 → kept = 0 → c.func = 0 → ∃ t, exec (.setVolatileWriteCache tag) s = .next t ∧ t.done tag.toNat 0 0 0 ∧
      t.feat 0 0x06 = dwBits c.e.cdw11 0 1) ∧
    (fid = 0xC0 → kept = 0 → c.func = 0 → ∃ t, exec (.setSpindleGovernor tag) s = .next t ∧ t.done tag.toNat 0 0 0 ∧
      t.feat 0 0xC0 = dwBits c.e.cdw11 0 1 + dwBits c.e.cdw11 8 24 * 256)) ∧
  (∀ (tag : Tag) (c : Cmd) (s : State), s.carries tag.toNat c → c.sqid = 0 → c.e.opc.toNat = 0x0A →
    let fid := dwBits c.e.cdw10 0 8
    let sel := dwBits c.e.cdw10 8 3
    ∃ t, exec (.getFeatures tag) s = .next t ∧
    (sel ≠ 0 ∨ fid ∉ featIds → t.done tag.toNat scField 0 0) ∧
    (sel = 0 → (fid = 0x01 ∨ fid = 0x05 ∨ fid = 0x08 ∨ fid = 0x0B ∨ fid = 0x11) → t.done tag.toNat 0 (s.feat c.func fid) 0) ∧
    (sel = 0 → fid = 0x02 → t.done tag.toNat 0 (if c.func = 0 then s.rd .HIF_PWR_PSREQ else s.rd .HIF_PWR_PSNOW) 0) ∧
    (sel = 0 → fid = 0x06 → t.done tag.toNat 0 (s.feat 0 0x06) 0) ∧
    (sel = 0 → fid = 0x07 → t.done tag.toNat 0 (s.queueCounts c.func) 0) ∧
    (sel = 0 → fid = 0x0C → t.done tag.toNat 0 (s.feat 0 0x0C) 0) ∧
    (sel = 0 → fid = 0x0E → t.done tag.toNat 0 0 0) ∧
    (sel = 0 → fid = 0xC0 → t.done tag.toNat 0 (s.feat 0 0xC0 + 2 * s.tierCode) 0)) ∧
  (∀ (tag : Tag) (data : List Byte) (s t : State),
    (∀ c ∈ ([.createIoCompletionQueue tag, .createIoSubmissionQueue tag, .deleteIoSubmissionQueue tag, .deleteIoCompletionQueue tag, .abort tag,
      .asynchronousEventRequest tag, .directiveSend tag, .setFeatures tag data, .setErrorRecovery tag, .setVolatileWriteCache tag] : List Instr),
      exec c s = .next t → s.completing t [.hif, .ev]) ∧
    ∀ c ∈ ([.directiveReceive tag, .getFeatures tag, .identify tag, .getLogPage tag] : List Instr), exec c s = .next t →
      s.completing t [.hif, .ev, .free, .out]) ∧
  ∀ (tag : Tag) (data : List Byte) (s : State), ∀ x ∈ ([(0x05, .createIoCompletionQueue tag), (0x01, .createIoSubmissionQueue tag),
      (0x00, .deleteIoSubmissionQueue tag), (0x04, .deleteIoCompletionQueue tag), (0x08, .abort tag), (0x0C, .asynchronousEventRequest tag),
      (0x19, .directiveSend tag), (0x1A, .directiveReceive tag), (0x1C, .virtualizationManagement tag), (0x09, .setFeatures tag data),
      (0x09, .setPowerManagement tag), (0x09, .setErrorRecovery tag), (0x09, .setVolatileWriteCache tag), (0x09, .setSpindleGovernor tag),
      (0x0A, .getFeatures tag), (0x02, .getLogPage tag), (0x06, .identify tag)] : List (Nat × Instr)),
    (∀ c, s.runs tag.toNat c → c.sqid = 0 → c.e.opc.toNat = x.1 → c.ended = true →
      ∃ t, exec x.2 s = .next t ∧ t.done tag.toNat scSqDeleted 0 0) ∧
    ((∀ c, s.started? tag.toNat = some c → c.sqid ≠ 0 ∨ c.e.opc.toNat ≠ x.1) → exec x.2 s = .next s)

/-- Get Log Page and Identify return the structures the tables name, as many bytes as asked. For a started admin
command that nothing ends, outside recovery mode: Get Log Page of a supported page sends the number of bytes asked and
completes; a page that is not supported completes with Invalid Field, and a recorder page read by a virtual function
with Invalid Log Page. The SMART page begins with the critical warning byte and the composite temperature, and a
telemetry page carries area F in its first data area, behind the AGE registers; page C1h carries area C behind its
header, without the records a copy skips. Identify sends 4,096 bytes for the values of CNS in Table 10-5: the
controller structure holds the image's version as Firmware Revision and the controller's identifier, and a namespace
structure begins with the size of the namespace; an NSID past 256 completes with Invalid Namespace, another CNS with
Invalid Field. In recovery mode Identify returns the controller and empty namespace lists, and Get Log Page the
recorder's pages; anything else completes with Invalid Command Opcode. Layouts are NVMe's (log entry 20). Choices of
the model it rests on: log entries 18, 20, 94, 98. -/
def Obligations.StructuresAreReturnedToTheHost : Prop :=
  (∀ (tag : Tag) (c : Cmd) (s : State), s.carries tag.toNat c → c.sqid = 0 → c.e.opc.toNat = 0x02 →
    let lid := dwBits c.e.cdw10 0 8
    let n := 4 * (dwBits c.e.cdw10 16 16 + dwBits c.e.cdw11 0 16 * 65536 + 1)
    let off := c.e.cdw12.toNat + c.e.cdw13.toNat * 2 ^ 32
    let ns := c.e.nsid.toNat
    ∃ t, exec (.getLogPage tag) s = .next t ∧
    (s.rst.recovery = true → lid ∉ [0xC0, 0xC1, 0xC2] → t.done tag.toNat scOpcode 0 0 ∧ t.out = s.out) ∧
    (s.rst.recovery = false → lid ∉ logIds → t.done tag.toNat scField 0 0 ∧ t.out = s.out) ∧
    (lid ∈ [0xC0, 0xC1, 0xC2] → c.func ≠ 0 → t.done tag.toNat scLogPage 0 0 ∧ t.out = s.out) ∧
    (s.rst.recovery = false → lid = 0x02 → ns ≠ 0 → ns ≠ 0xFFFFFFFF → t.done tag.toNat scField 0 0 ∧ t.out = s.out) ∧
    (s.rst.recovery = false → lid = 0xBF → (∀ x, s.nsAt c = some x → x.zoned = false) → t.done tag.toNat scField 0 0 ∧ t.out = s.out) ∧
    ((s.rst.recovery = false ∧ (lid ∈ [0x01, 0x03, 0x04, 0x05, 0x06, 0x07, 0x08] ∨ lid = 0x02 ∧ (ns = 0 ∨ ns = 0xFFFFFFFF) ∨
        lid = 0xBF ∧ ∃ x, s.nsAt c = some x ∧ x.zoned = true)) ∨ (lid ∈ [0xC0, 0xC1, 0xC2] ∧ c.func = 0) →
      t.done tag.toNat 0 0 0 ∧ ∃ d, s.sent t [.toHost c.tag d] ∧ d.length = n ∧
        (lid = 0x02 → off = 0 → d.take 3 = leBytes 1 s.hif.warn ++ leBytes 2 s.composite) ∧
        ((lid = 0x07 ∨ lid = 0x08) → off = 512 + 0x800 → n = 64 → d = s.mbs 0x01000000 64) ∧
        (lid = 0xC1 → off = 64 → n = 64 → s.goodC (s.rd .EREC_CHEAD_CHEAD % 512) = true → d = s.mbs (0x01004000 + 64 * (s.rd .EREC_CHEAD_CHEAD % 512)) 64)) ∧
    (s.rst.recovery = false → lid = 0x04 → dwBits c.e.cdw10 15 1 = 0 → t.changedNsOf c.func = [])) ∧
  ∀ (tag : Tag) (c : Cmd) (s : State), s.carries tag.toNat c → c.sqid = 0 → c.e.opc.toNat = 0x06 →
    let cns := dwBits c.e.cdw10 0 8
    let csi := dwBits c.e.cdw11 24 8
    ∃ t, exec (.identify tag) s = .next t ∧
    (cns = 0x01 → t.done tag.toNat 0 0 0 ∧ ∃ d, s.sent t [.toHost c.tag d] ∧ d.length = 4096 ∧
      (d.drop 78).take 2 = leBytes 2 c.func ∧ (d.drop 516).take 4 = leBytes 4 256 ∧
      (s.rst.fwver.length = 8 → (d.drop 64).take 8 = s.rst.fwver)) ∧
    (s.rst.recovery = true → (cns = 0x02 ∨ cns = 0x10) → t.done tag.toNat 0 0 0 ∧ s.sent t [.toHost c.tag (zeros 4096)]) ∧
    (s.rst.recovery = true → cns ∉ [0x01, 0x02, 0x10] → t.done tag.toNat scOpcode 0 0 ∧ t.out = s.out) ∧
    (s.rst.recovery = false →
      (cns ∉ identifyIds → t.done tag.toNat scField 0 0 ∧ t.out = s.out) ∧
      (cns ∈ [0x00, 0x03, 0x11] → (c.e.nsid.toNat = 0 ∨ 256 < c.e.nsid.toNat) → t.done tag.toNat scNamespace 0 0 ∧ t.out = s.out) ∧
      (cns ∈ [0x14, 0x15] ∨ cns = 0x06 ∧ (csi = 0 ∨ csi = 2) ∨
          cns ∈ [0x00, 0x03, 0x11] ∧ 1 ≤ c.e.nsid.toNat ∧ c.e.nsid.toNat ≤ 256 → t.done tag.toNat 0 0 0 ∧
        ∃ d, s.sent t [.toHost c.tag d] ∧ d.length = 4096) ∧
      (cns = 0x02 → t.done tag.toNat 0 0 0 ∧
        s.sent t [.toHost c.tag ((((s.nsidList c.e.nsid.toNat (fun n => NSet.has c.func n.funcs)).map (leBytes 4)).flatten ++ zeros 4096).take 4096)]) ∧
      (cns = 0x10 → t.done tag.toNat 0 0 0 ∧
        s.sent t [.toHost c.tag ((((s.nsidList c.e.nsid.toNat (fun _ => true)).map (leBytes 4)).flatten ++ zeros 4096).take 4096)]) ∧
      ∀ n, cns = 0x00 → 1 ≤ c.e.nsid.toNat → c.e.nsid.toNat ≤ 256 → s.nsAt c = some n →
        ∃ d, s.sent t [.toHost c.tag d] ∧ d.take 8 = leBytes 8 n.nsze)

/-- Namespace management, Format and Sanitize check, wait for earlier commands, act and complete as their rules give.
For a started admin command that nothing ends, the medium being up where it is needed: a create whose structure fails
a check completes with its status; one that fits takes the lowest free index and a free NSID, is attached nowhere and
returns the NSID with event 235; one that does not fit completes with Insufficient Capacity. A delete and a detach
change nothing while an earlier command for the namespace, by its NSID or for all, is not completed; then the delete
removes it, and an attach or a detach changes the controllers it is attached to. An NSID that names none completes
with Invalid Namespace. Format and Sanitize complete with the status of a failed check, change nothing while an
earlier command runs, and otherwise begin with event 236; one that meets no key ends at once and one that does ends at
CRYPTO_ERASE_DONE, which leaves every zone of an erased namespace Empty with WP 0 and its BANDSEQ kept under a
namespace count one higher where its band stays, no stored block and no lost LBA. One whose queue or controller is
going completes as aborted; a command that needs the medium waits in PS3 and PS4, through an exit from them and while
a tier changes; a row with no such command changes nothing (log entry 6, the model's choice). Other choices of the
model it rests on: log entries 20, 63, 64, 103, 109. -/
def Obligations.NamespacesAndErasesActAndComplete : Prop :=
  (∀ (tag : Tag) (data : List Byte) (c : Cmd) (s : State), s.carries tag.toNat c → c.sqid = 0 → c.e.opc.toNat = 0x0D → c.e.sel = 0 →
    s.exiting = false → let num (o n : Nat) : Nat := leNat ((data.drop o).take n)
    let csi := dwBits c.e.cdw11 24 8
    let n (idx id : Nat) : Nsp :=
      { nsid := id, nsidx := idx, zoned := csi == 2, cls := num 3072 1, enc := num 3073 1 == 1, nsze := num 0 8 }
    let st := createStatus csi (num 0 8) (num 8 8) (num 26 1) (num 3072 1) (num 3073 1)
    ∃ t, exec (.namespaceCreate tag data) s = .next t ∧ s.completing t [.hif, .ev, .frc, .med, .free] ∧
    (st ≠ 0 → t.done tag.toNat st 0 0 ∧ t.hif.nss = s.hif.nss) ∧
    (st = 0 → s.freeIdx = [] → t.done tag.toNat scNsUnavailable 0 0 ∧ t.hif.nss = s.hif.nss) ∧
    (∀ idx l, st = 0 → s.freeIdx = idx :: l → s.freeNsid ≠ [] →
      ((∀ id, s.fits (n idx id) = true) → s.raised t 235 ∧ ∃ id, 1 ≤ id ∧ id ≤ 256 ∧ s.nsOf id = none ∧ t.ns? idx = some (n idx id) ∧
        t.done tag.toNat 0 id 0) ∧
      ((∀ id, s.fits (n idx id) = false) → t.done tag.toNat scNsCapacity 0 0 ∧ t.hif.nss = s.hif.nss))) ∧
  (∀ (csi nsze ncap flbas cls enc : Nat), createStatus csi nsze ncap flbas cls enc = 0 ↔
    (flbas = 0 ∧ cls ≤ 2 ∧ enc ≤ 1 ∧ nsze ≠ 0 ∧ ((csi = 0 ∧ cls = 0 ∧ nsze % 256 = 0) ∨ (csi = 2 ∧ nsze % zsze cls = 0 ∧ ncap = nsze)))) ∧
  (∀ (tag : Tag) (c : Cmd) (s : State), s.carries tag.toNat c → c.sqid = 0 → c.e.opc.toNat = 0x0D → c.e.sel = 1 →
    s.exiting = false → s.noRequest c.tag → let l := s.spaces.filter (fun n => c.e.names n.nsid)
    ∃ t, exec (.namespaceDelete tag) s = .next t ∧ s.completing t [.hif, .ev, .frc, .med, .free] ∧
    (l = [] → c.e.nsid.toNat ≠ 0xFFFFFFFF → t.done tag.toNat scNamespace 0 0 ∧ t.hif.nss = s.hif.nss) ∧
    (l = [] → c.e.nsid.toNat = 0xFFFFFFFF → t.done tag.toNat 0 0 0 ∧ t.hif.nss = s.hif.nss) ∧
    (l ≠ [] → s.earlier c (fun _ => true) l = true → t = s) ∧
    (l ≠ [] → s.earlier c (fun _ => true) l = false → t.done tag.toNat 0 0 0 ∧
      ∀ n ∈ l, t.ns? n.nsidx = none ∧ t.key n.nsidx = [] ∧ ∀ b, b < 2 ^ 48 → t.block n.nsidx b = [])) ∧
  (∀ (tag : Tag) (fs : List Func) (c : Cmd) (s : State), s.carries tag.toNat c → c.sqid = 0 → c.e.opc.toNat = 0x15 → s.noRequest c.tag →
    (s.nsOf c.e.nsid.toNat = none → ∀ x ∈ ([(0, .namespaceAttach tag fs), (1, .namespaceDetach tag fs)] : List (Nat × Instr)), c.e.sel = x.1 →
      ∃ t, exec x.2 s = .next t ∧ t.done tag.toNat scNamespace 0 0 ∧ t.hif.nss = s.hif.nss) ∧
    ∀ n, s.nsOf c.e.nsid.toNat = some n →
    (c.e.sel = 0 → ∃ t, exec (.namespaceAttach tag fs) s = .next t ∧ s.completing t [.hif, .ev] ∧
      ((∃ f ∈ fs, NSet.has f n.funcs = true) → t.done tag.toNat scNsAttached 0 0 ∧ t.hif.nss = s.hif.nss) ∧
      ((∀ f ∈ fs, NSet.has f n.funcs = false) → t.done tag.toNat 0 0 0 ∧ ∃ m, t.ns? n.nsidx = some m ∧
        ∀ g : Func, NSet.has g m.funcs = true ↔ (NSet.has g n.funcs = true ∨ g ∈ fs))) ∧
    (c.e.sel = 1 → ∃ t, exec (.namespaceDetach tag fs) s = .next t ∧ s.completing t [.hif, .ev] ∧
      ((∃ f ∈ fs, NSet.has f n.funcs = false) → t.done tag.toNat scNsNotAttached 0 0 ∧ t.hif.nss = s.hif.nss) ∧
      ((∀ f ∈ fs, NSet.has f n.funcs = true) → let busy := s.earlier c (fun x => fs.any (fun f => f.val == x.func)) [n]
        (busy = true → t = s) ∧ (busy = false → t.done tag.toNat 0 0 0 ∧ ∃ m, t.ns? n.nsidx = some m ∧
          ∀ g : Func, NSet.has g m.funcs = true ↔ (NSet.has g n.funcs = true ∧ g ∉ fs))))) ∧
  (∀ (tag : Tag) (c : Cmd) (s : State) (x : Instr) (st : Nat) (l : List Nsp), s.carries tag.toNat c → c.sqid = 0 → c.zone = none →
    s.exiting = false → s.noRequest c.tag →
    ((x = .formatNvm tag ∧ c.e.opc.toNat = 0x80 ∧ st = s.formatCheck c.e ∧ l = s.formatSet c.e) ∨
      (x = .sanitizeCryptoErase tag ∧ c.e.opc.toNat = 0x84 ∧ st = s.sanitizeCheck c.e ∧ l = s.spaces)) →
    let busy := s.hif.erase ≠ none ∨ s.earlier c (fun _ => true) l = true
    ∃ t, exec x s = .next t ∧ s.completing t [.hif, .ev, .med, .free] ∧
    (st ≠ 0 → t.done tag.toNat st 0 0 ∧ t.hif.nss = s.hif.nss ∧ t.hif.blocks = s.hif.blocks) ∧
    (st = 0 → busy → t = s) ∧
    (st = 0 → ¬ busy → (∃ n ∈ l, n.enc = true) → t.hif.erase = some (c.tag, l.map (fun n => n.nsidx)) ∧ t.hif.test = none ∧
      s.raised t 236 ∧ t.hif.blocks = s.hif.blocks ∧ t.cmd? tag.toNat = some c) ∧
    (st = 0 → ¬ busy → (∀ n ∈ l, n.enc = false) → t.done tag.toNat 0 0 0 ∧ t.hif.test = none ∧
      ∀ n ∈ l, ∀ z, z < 2 ^ 32 → (t.zone n.nsidx z).st = .empty ∧ (t.zone n.nsidx z).wp = 0)) ∧
  (∀ (e : Sqe) (s : State), s.formatCheck e = 0 → (dwBits e.cdw10 9 3 = 0 ∨ (dwBits e.cdw10 9 3 = 2 ∧ ∀ n ∈ s.formatSet e, n.enc = true))) ∧
  (∀ (e : Sqe) (s : State), s.sanitizeCheck e = 0 ↔ (dwBits e.cdw10 0 3 = 4 ∧ ∀ n ∈ s.spaces, n.enc = true)) ∧
  (∀ (tag : Tag) (c : Cmd) (l : List Nat) (s : State), s.carries tag.toNat c → s.hif.erase = some (tag.toNat, l) → c.zone = none →
    s.noRequest c.tag →
    ∃ t, exec (.cryptoEraseDone tag) s = .next t ∧ s.completing t [.hif, .ev, .frc, .med, .free] ∧
    t.hif.erase = none ∧ t.done tag.toNat 0 0 0 ∧ s.raised t 236 ∧
    ∀ n ∈ s.spaces, n.nsidx ∈ l → ((∀ m ∈ s.spaces, m.nsidx = n.nsidx → m = n) → t.ns? n.nsidx = some { n with seqBase := (n.seqBase + 1) % 2 ^ 16 }) ∧
      (∀ z, z < 2 ^ 32 → let y := t.zone n.nsidx z
        y.st = .empty ∧ y.wp = 0 ∧ y.fill = 0 ∧ y.unit = 0 ∧ y.esc = [] ∧
        (s.zonesWf → (∀ a b, s.zoneBand n.nsidx z = some (a, b) → (s.clearBand a b).bandOut a b = false) →
          y.bandseq = (s.zone n.nsidx z).bandseq)) ∧
      ∀ b, b < 2 ^ 48 → t.block n.nsidx b = [] ∧ NSet.has (blockKey n.nsidx b) t.hif.bad = false) ∧
  (∀ (tag : Tag) (s : State), ((∀ l, s.hif.erase ≠ some (tag.toNat, l)) ∨ s.cmd? tag.toNat = none) → exec (.cryptoEraseDone tag) s = .next s) ∧
  ∀ (tag : Tag) (data : List Byte) (fs : List Func) (s : State), ∀ x ∈ ([(0x0D, 0, .namespaceCreate tag data), (0x0D, 1, .namespaceDelete tag),
      (0x15, 0, .namespaceAttach tag fs), (0x15, 1, .namespaceDetach tag fs), (0x14, 1, .selfTestShort tag), (0x14, 2, .selfTestExtended tag),
      (0x14, 0xE, .selfCalibration tag), (0x14, 0xF, .selfTestAbort tag)] : List (Nat × Nat × Instr)),
    (∀ c, s.runs tag.toNat c → c.sqid = 0 → c.e.opc.toNat = x.1 → c.e.sel = x.2.1 → c.ended = true →
      ∃ t, exec x.2.2 s = .next t ∧ t.done tag.toNat scSqDeleted 0 0) ∧
    ((∀ c, s.started? tag.toNat = some c → c.sqid ≠ 0 ∨ c.e.opc.toNat ≠ x.1 ∨ c.e.sel ≠ x.2.1) → exec x.2.2 s = .next s) ∧
    ∀ y ∈ ([(0x80, .formatNvm tag), (0x84, .sanitizeCryptoErase tag)] : List (Nat × Instr)),
      (∀ c, s.runs tag.toNat c → c.sqid = 0 → c.e.opc.toNat = y.1 → c.ended = true →
        ∃ t, exec y.2 s = .next t ∧ t.done tag.toNat scSqDeleted 0 0) ∧
      ((∀ c, s.started? tag.toNat = some c → c.sqid ≠ 0 ∨ c.e.opc.toNat ≠ y.1) → exec y.2 s = .next s) ∧
      (s.exiting = true → (∀ c, s.started? tag.toNat = some c → c.ended = false) →
        exec y.2 s = .next s ∧ (x.1 ≠ 0x15 → exec x.2.2 s = .next s))

/-- One self-test runs at a time; its beginning, its end and every pre-emption raise their events and its result is
kept. For a started Device Self-test command that nothing ends, the medium being up: short, extended and
self-calibration begin the test and complete, with event 237, or complete with Self-Test In Progress while one runs;
abort ends the test in progress with result 1 and completes. SELF_TEST_END records result 0, or 6 where the test
failed, as the newest of at most 20 results and raises event 237; a self-calibration that passed also writes its set,
ORIGIN 3 with the heads it rebuilt made valid, first to the copy that was not loaded, behind the NOR writes admitted
before it. A pre-emption of at most 50 ms raises event 238; with no test running, or above 50 ms, nothing happens (log
entry 6, the model's choice). Result codes are NVMe's (log entry 20). Other choices of the model it rests on: log
entries 69, 108. -/
def Obligations.SelfTestsRunEndAndAreRecorded : Prop :=
  (∀ (tag : Tag) (c : Cmd) (s : State), s.carries tag.toNat c → c.sqid = 0 → c.e.opc.toNat = 0x14 → s.exiting = false →
    ∀ x ∈ ([(.selfTestShort tag, 1, 0), (.selfTestExtended tag, 2, 0),
        (.selfCalibration tag, 0xE, if dwBits c.e.cdw11 0 24 = 0 then 0xFFFFFF else dwBits c.e.cdw11 0 24)] : List (Instr × Nat × Nat)),
      c.e.sel = x.2.1 → ∃ t, exec x.1 s = .next t ∧ s.completing t [.hif, .ev] ∧
      (s.hif.test = none → t.hif.test = some ⟨x.2.1, tag.toNat, x.2.2, c.aseq⟩ ∧ t.done tag.toNat 0 0 0 ∧ s.raised t 237) ∧
      (s.hif.test ≠ none → t.hif.test = s.hif.test ∧ t.done tag.toNat scSelfTest 0 0)) ∧
  (∀ (tag : Tag) (c : Cmd) (s : State), s.carries tag.toNat c → c.sqid = 0 → c.e.opc.toNat = 0x14 → c.e.sel = 0xF → s.exiting = false →
    ∃ t, exec (.selfTestAbort tag) s = .next t ∧ t.hif.test = none ∧ t.done tag.toNat 0 0 0 ∧ s.completing t [.hif, .ev] ∧
      (∀ r, s.hif.test = some r → t.hif.testLog = ((r.code, 1) :: s.hif.testLog).take 20 ∧ s.raised t 237) ∧
      (s.hif.test = none → t.hif.testLog = s.hif.testLog)) ∧
  (∀ (failed : Bool) (set : List Byte) (s : State), (s.hif.test = none → exec (.selfTestEnd failed set) s = .next s) ∧
    ∀ r, s.hif.test = some r → ∃ t, exec (.selfTestEnd failed set) s = .next t ∧
    t.hif.test = none ∧ t.hif.testLog = ((r.code, if failed then 6 else 0) :: s.hif.testLog).take 20 ∧
    s.recorded t 237 [(1, r.code), (1, if failed then 6 else 0)] ∧ s.only t [] [.hif, .ev, .norq, .free] ∧
    ((failed = true ∨ r.code ≠ 0xE) → t.norq = s.norq) ∧
    (failed = false → r.code = 0xE → let bs := (s.selfCalSet r.heads set).1; let b := s.rst.copy == 1
      (s.norq = [] → t.norq = [
        { kind := .selfCal, tag := 2 ^ 17, seq := r.seq, data := bs, ops := [calOp (!b) bs, calOp b bs] }]) ∧
      ∀ f rest, s.norq = f :: rest → t.norq = f :: (rest.takeWhile (fun k => decide (k.seq ≤ r.seq)) ++
        { kind := .selfCal, tag := 2 ^ 17, seq := r.seq, data := bs } :: rest.dropWhile (fun k => decide (k.seq ≤ r.seq))))) ∧
  (∀ (heads : Nat) (body : List Byte) (s : State), let bs := (s.selfCalSet heads body).1
    (bs.drop 6).take 1 = [3] ∧ (bs.drop 8).take 4 = leBytes 4 (Nat.lor (leNat ((s.runningCal.drop 8).take 4)) heads) ∧
    (s.runningCal.length = 64 + s.mrd 4 0x80100000C → (bs.drop 0x10).take 28 = (s.runningCal.drop 0x10).take 28) ∧
    (4 ∣ body.length → body.length ≤ 2097088 → bs.length = 64 + body.length ∧ bs.drop 64 = body)) ∧
  ∀ (h : Head) (ms : Byte) (s : State), ∃ t, exec (.selfTestPreempt h ms) s = .next t ∧ s.only t [] [.ev] ∧
    (s.hif.test ≠ none → ms.toNat ≤ 50 → s.recorded t 238 [(1, h.val), (1, ms.toNat)]) ∧
    (s.hif.test = none ∨ 50 < ms.toNat → t = s)

/-- The I/O commands store, return, compare, verify, zero and flush the blocks of their range, and no other block. For
a started I/O command that nothing ends, with its namespace and the medium up: Write and Zone Append wait for their
transfer; a failed one completes with a transfer error, and one whose buffer holds poison with Internal Error. In a
conventional namespace a Write stores exactly its blocks, and waits while every sector it could take is on an arm past
its write-assist budget; a block that no sector carries reads as zeros, with no access to the medium. In a zone it and
Write Zeroes also wait for the zone's earlier writes, store their blocks, move WP to the end of the range, fill the
zone at its capacity, and a Zone Append returns its first LBA; one that does not fit moves nothing and sets Finish
Zone Recommended. Write Zeroes and Deallocate leave blocks of zeros. Read, Verify and Compare end the retry ladders of
the sectors that fail; then an Offline zone or a lost LBA gives its status, Read returns the blocks as served, Verify
only checks and Compare succeeds only on equal data. A ladder ends where Limited Retry or the TLER value ends it.
Flush leaves nothing of its namespaces short of durable. One whose queue or controller is going completes as aborted;
one that waits through an exit, and a row with no such command, change nothing (log entry 6, the model's choice).
Other choices of the model it rests on: log entries 20, 60, 66, 103, 104, 109. -/
def Obligations.IoCommandsStoreAndReturnBlocks : Prop :=
  (∀ (tag : Tag) (c : Cmd) (n : Nsp) (s : State), s.carries tag.toNat c → c.sqid ≠ 0 → s.cmdNs c = some n → s.exiting = false →
    ∀ x ∈ ([(.write tag, 0x01), (.zoneAppend tag, 0x7D)] : List (Instr × Nat)), c.e.opc.toNat = x.2 →
    ∃ t, exec x.1 s = .next t ∧
    (c.xfer = .idle ∨ c.xfer = .running → t = s) ∧
    (c.xfer = .failed → t.done tag.toNat scTransfer 0 0 ∧ t.hif.blocks = s.hif.blocks) ∧
    (c.xfer = .ended → (∃ a ∈ c.xlist, s.poisoned a 4096 = true) → t.done tag.toNat scInternal 0 0 ∧ t.hif.blocks = s.hif.blocks) ∧
    (c.xfer = .ended → (∀ a ∈ c.xlist, s.poisoned a 4096 = false) → c.zone = none →
      (s.convWaits = true → t = s) ∧
      (s.convWaits = false → t.done tag.toNat 0 0 0 ∧
        (∀ k a, c.xlist[k]? = some a → t.block n.nsidx (c.e.slba + k) = packBlock (s.mbs a 4096)) ∧
        ∀ x, (x < blockKey n.nsidx c.e.slba ∨ blockKey n.nsidx c.e.slba + c.xlist.length ≤ x) →
          NTab.get [] x t.hif.blocks = NTab.get [] x s.hif.blocks))) ∧
  (∀ (c : Cmd) (n : Nsp) (l : Nat) (s : State), n.zoned = false → s.convHolder (blockKey n.nsidx l) = none →
    s.hostBlock n l = List.replicate 4096 0 ∧ s.onMedium c n l = false) ∧
  (∀ (tag : Tag) (c : Cmd) (n : Nsp) (z lo m : Nat) (s : State), s.carries tag.toNat c → c.sqid ≠ 0 → s.cmdNs c = some n → s.exiting = false →
    c.zone = some (z, lo, m) → s.noRequest c.tag →
    let at0 := z * zsze n.cls + lo
    let bs := c.xlist.map (fun a => s.mbs a 4096)
    ∀ x ∈ ([(.write tag, 0x01, 0, bs), (.zoneAppend tag, 0x7D, at0, bs),
        (.writeZeroes tag, 0x08, 0, List.replicate c.e.nlb (List.replicate 4096 0))] : List (Instr × Nat × Nat × List (List Byte))),
    c.e.opc.toNat = x.2.1 → (x.2.1 ≠ 0x08 → c.xfer = .ended ∧ ∀ a ∈ c.xlist, s.poisoned a 4096 = false) → ∃ t, exec x.1 s = .next t ∧
    (s.zoneWaits c = true → t = s) ∧
    (∀ u, s.zoneWaits c = false → s.zoneStore c n (z, lo, m) x.2.2.2 = .inl u →
      t.done tag.toNat 0 (x.2.2.1 % 2 ^ 32) (x.2.2.1 / 2 ^ 32) ∧
      (t.zone n.nsidx z).wp = lo + m ∧ (lo + m = zcap n.cls → (t.zone n.nsidx z).st = .full) ∧
      (∀ k b, x.2.2.2[k]? = some b → t.block n.nsidx (at0 + k) = packBlock b) ∧
      (∀ y, (y < blockKey n.nsidx at0 ∨ blockKey n.nsidx at0 + x.2.2.2.length ≤ y) →
        NTab.get [] y t.hif.blocks = NTab.get [] y s.hif.blocks)) ∧
    (∀ st, s.zoneWaits c = false → s.zoneStore c n (z, lo, m) x.2.2.2 = .inr st → t.done tag.toNat st 0 0 ∧ st = scZoneFull ∧
      (t.zone n.nsidx z).wp = (s.zone n.nsidx z).wp ∧ (t.zone n.nsidx z).fzr = true ∧ t.hif.blocks = s.hif.blocks)) ∧
  (∀ (tag : Tag) (c : Cmd) (n : Nsp) (s : State), s.carries tag.toNat c → c.sqid ≠ 0 → s.cmdNs c = some n → s.exiting = false →
    c.e.opc.toNat = 0x08 → c.zone = none →
    ∃ t, exec (.writeZeroes tag) s = .next t ∧ t.done tag.toNat 0 0 0 ∧
    (∀ k, k < c.e.nlb → t.block n.nsidx (c.e.slba + k) = [] ∧ NSet.has (blockKey n.nsidx (c.e.slba + k)) t.hif.bad = false) ∧
    (∀ x, (x < blockKey n.nsidx c.e.slba ∨ blockKey n.nsidx c.e.slba + c.e.nlb ≤ x) →
      NTab.get [] x t.hif.blocks = NTab.get [] x s.hif.blocks)) ∧
  (∀ (tag : Tag) (fails : List Retry) (c : Cmd) (n : Nsp) (s : State), s.carries tag.toNat c → c.sqid ≠ 0 → s.cmdNs c = some n →
    s.exiting = false → s.noRequest c.tag → let s1 := if c.e.fua then s.flushAll n.nsidx else s
    let u := s1.ladders n c.e.slba c.e.limited (s.feat c.func 0x05) (fun s l => s.onMedium c n l) (fails.filter (fun r => decide (r.ofs < c.e.nlb)))
    let off := s1.offlineIn n c.e.slba c.e.nlb
    let lost (t : State) : Prop := ∀ l, off = false → u.lostLba c n = some l → t.done tag.toNat scUnrecovered 0 0 ∧
      (u.heldAt c l = none → NSet.has (blockKey n.nsidx l) t.hif.bad = true ∨ u.keyLost n = true)
    (c.e.opc.toNat = 0x02 → ∃ t, exec (.read tag fails) s = .next t ∧ t.hif.blocks = s.hif.blocks ∧
      (c.xfer = .running → t = s) ∧ (c.xfer = .failed → t.done tag.toNat scTransfer 0 0 ∧ t.out = s.out) ∧
      (c.xfer = .idle ∨ c.xfer = .ended → lost t ∧ (off = true ∨ u.lostLba c n ≠ none → t.out = s.out) ∧
        (off = true → t.done tag.toNat scZoneOffline 0 0) ∧
        (off = false → u.lostLba c n = none → t.done tag.toNat 0 0 0 ∧
          (c.xfer = .idle → s.sent t [.toHost c.tag (u.servedBlocks c n)]) ∧ (c.xfer = .ended → t.out = s.out)))) ∧
    (c.e.opc.toNat = 0x0C → ∃ t, exec (.verify tag fails) s = .next t ∧ t.out = s.out ∧ t.hif.blocks = s.hif.blocks ∧ lost t ∧
      (off = true → t.done tag.toNat scZoneOffline 0 0) ∧ (off = false → u.lostLba c n = none → t.done tag.toNat 0 0 0)) ∧
    (c.e.opc.toNat = 0x05 → ∃ t, exec (.compare tag fails) s = .next t ∧ t.out = s.out ∧ t.hif.blocks = s.hif.blocks ∧
      (c.xfer = .idle ∨ c.xfer = .running → t = s) ∧ (c.xfer = .failed → t.done tag.toNat scTransfer 0 0) ∧
      (c.xfer = .ended → (∃ a ∈ c.xlist, s.poisoned a 4096 = true) → t.done tag.toNat scInternal 0 0) ∧
      (c.xfer = .ended → (∀ a ∈ c.xlist, s.poisoned a 4096 = false) → lost t ∧
        (off = true → t.done tag.toNat scZoneOffline 0 0) ∧ (off = false → u.lostLba c n = none → t.done tag.toNat
          (if (c.xlist.map (fun a => s.mbs a 4096)).flatten = u.servedBlocks c n then 0 else scCompare) 0 0)))) ∧
  (∀ (limited : Bool) (tler : Nat) (r : Retry), 1 ≤ ladder limited tler r ∧ ladder limited tler r ≤ 5 ∧
    (r.step ≤ 1 → ladder limited tler r = 1) ∧ (2 ≤ r.step → limited = true → ladder limited tler r = 5) ∧
    (2 ≤ r.step → tler ≠ 0 → tler ≤ r.t1 → ladder limited tler r = 5) ∧
    (3 ≤ r.step → tler ≠ 0 → tler ≤ r.t2 → ladder limited tler r = 5) ∧
    (4 ≤ r.step → tler ≠ 0 → tler ≤ r.t3 → ladder limited tler r = 5) ∧
    (2 ≤ r.step → limited = false → (tler = 0 ∨ (r.t1 < tler ∧ r.t2 < tler ∧ r.t3 < tler)) → ladder limited tler r = min r.step 5)) ∧
  (∀ (tag : Tag) (c : Cmd) (n : Nsp) (s : State), s.carries tag.toNat c → c.sqid ≠ 0 → s.cmdNs c = some n → s.exiting = false →
    c.e.opc.toNat = 0x09 → ∃ t, exec (.datasetManagement tag) s = .next t ∧
    (dwBits c.e.cdw11 2 1 = 0 → t.done tag.toNat 0 0 0 ∧ t.hif.blocks = s.hif.blocks) ∧
    (dwBits c.e.cdw11 2 1 = 1 → (∃ r ∈ c.ranges, n.nsze < r.1 + r.2) → t.done tag.toNat scLbaRange 0 0 ∧ t.hif.blocks = s.hif.blocks) ∧
    (dwBits c.e.cdw11 2 1 = 1 → (∀ r ∈ c.ranges, r.1 + r.2 ≤ n.nsze) → t.done tag.toNat 0 0 0 ∧
      (∀ r ∈ c.ranges, ∀ k, k < r.2 → t.block n.nsidx (r.1 + k) = []) ∧
      ∀ x, (∀ r ∈ c.ranges, x < blockKey n.nsidx r.1 ∨ blockKey n.nsidx r.1 + r.2 ≤ x) →
        NTab.get [] x t.hif.blocks = NTab.get [] x s.hif.blocks)) ∧
  (∀ (tag : Tag) (c : Cmd) (s : State), s.carries tag.toNat c → c.sqid ≠ 0 → c.e.opc.toNat = 0x00 → s.exiting = false →
    c.zone = none → s.noRequest c.tag →
    let l := if c.e.nsid.toNat = 0xFFFFFFFF then (s.spaces.filter (fun n => NSet.has c.func n.funcs)).map (fun n => n.nsidx) else c.nsidx.toList
    ∃ t, exec (.flush tag) s = .next t ∧ t.done tag.toNat 0 0 0 ∧ t.hif.blocks = s.hif.blocks ∧
    ∀ k ∈ l, (∀ b, b < 2 ^ 48 → NTab.get none (blockKey k b) t.hif.dirty = none) ∧
      ∀ z, z < 2 ^ 32 → (t.zone k z).dwp = (t.zone k z).wp ∧ (t.zone k z).unit = 0) ∧
  (∀ (tag : Tag) (fails : List Retry) (s t : State), ∀ c ∈ ([.write tag, .zoneAppend tag, .writeZeroes tag, .read tag fails,
    .verify tag fails, .compare tag fails, .datasetManagement tag, .flush tag, .zoneOpen tag, .zoneClose tag, .zoneFinish tag, .zoneReset tag,
    .zoneOffline tag, .zoneManagementReceive tag] : List Instr), exec c s = .next t → s.completing t [.hif, .ev, .out, .free, .med]) ∧
  ∀ (tag : Tag) (fails : List Retry) (s : State), ∀ x ∈ ([(0x01, .write tag), (0x7D, .zoneAppend tag), (0x08, .writeZeroes tag), (0x02, .read tag fails),
      (0x0C, .verify tag fails), (0x05, .compare tag fails), (0x09, .datasetManagement tag), (0x00, .flush tag),
      (0x7A, .zoneManagementReceive tag)] : List (Nat × Instr)),
    (∀ c, s.runs tag.toNat c → c.sqid ≠ 0 → c.e.opc.toNat = x.1 → c.ended = true → (x.1 ∈ [0x01, 0x7D] → c.xfer ≠ .running) →
      ∃ t, exec x.2 s = .next t ∧ t.done tag.toNat scSqDeleted 0 0) ∧
    (∀ c, s.carries tag.toNat c → c.sqid ≠ 0 → c.e.opc.toNat = x.1 → s.exiting = false → x.1 ≠ 0x00 → s.cmdNs c = none →
      ∃ t, exec x.2 s = .next t ∧ t.done tag.toNat scNamespace 0 0) ∧
    ((∀ c, s.started? tag.toNat = some c → c.sqid = 0 ∨ c.e.opc.toNat ≠ x.1 ∨ (s.exiting = true ∧ c.ended = false)) → exec x.2 s = .next s)

/-- Zone Management Send moves zones as its action gives, a report lists the zones, and writes are assigned at AP. For
a started Zone Management command that nothing ends, the medium up, on the zone that starts at SLBA: Open opens
explicitly a zone within the limits, closing the least recently written implicitly opened zone to make room, Close
closes an open zone, which fills one with no position left, Finish pads the partly written track group, fills the zone
and leaves its data durable, Reset leaves it Empty without blocks, lost LBAs or escapes, with the next BANDSEQ where
its band stays, and Offline takes a Read Only zone; from another state the action completes with Invalid Zone State
Transition and moves nothing. Where BUF_STAT.GUARD tells whether a command waits, no other zone changes. Select All
acts so on every zone in the states the action takes. An SLBA past the end or not at a zone's start completes with its
error. A report begins with the number of zones listed. An accepted write is assigned the range at AP, within the
capacity, in a zone that takes writes. A compressed unit open for 100 ms is closed, and fill and WP stay. Action codes
and layouts are NVMe's (log entry 20). Off its occasion a row changes nothing (log entry 6, the model's choice). Other
choices of the model it rests on: log entries 20, 67, 103. -/
def Obligations.ZonesMoveBetweenTheirStates : Prop :=
  (∀ (tag : Tag) (c : Cmd) (n : Nsp) (s : State), let z := c.e.slba / zsze n.cls
    let zn := s.zone n.nsidx z
    let others (t : State) : Prop := ∀ k j, k * 2 ^ 32 + j ≠ n.nsidx * 2 ^ 32 + z → t.zone k j = s.zone k j
    s.carries tag.toNat c → c.sqid ≠ 0 → s.cmdNs c = some n → c.e.opc.toNat = 0x79 → c.zone = none → c.e.zall = false →
    s.exiting = false → s.noRequest c.tag →
    (∀ x ∈ ([(3, .zoneOpen tag), (1, .zoneClose tag), (2, .zoneFinish tag), (4, .zoneReset tag), (5, .zoneOffline tag)] : List (Nat × Instr)),
      c.e.zsa = x.1 → ∃ t, exec x.2 s = .next t ∧ (n.nsze ≤ c.e.slba → t.done tag.toNat scLbaRange 0 0) ∧
        (c.e.slba < n.nsze → c.e.slba % zsze n.cls ≠ 0 → t.done tag.toNat scField 0 0)) ∧
    (c.e.slba < n.nsze → c.e.slba % zsze n.cls = 0 →
    (c.e.zsa = 3 → ∃ t, exec (.zoneOpen tag) s = .next t ∧
      let room := (zn.st = .closed ∨ (zn.st = .empty ∧ s.zonesIn n.nsidx isActive < 128 ∧ s.activeAll < 384))
      (zn.st = .explicit ∨ zn.st = .implicit ∨ (room ∧ s.zonesIn n.nsidx isOpen < 128) →
        t.done tag.toNat 0 0 0 ∧ (s.guardTells → t.zone n.nsidx z = { zn with st := .explicit } ∧ others t)) ∧
      (room → 128 ≤ s.zonesIn n.nsidx isOpen → s.oldestImplicit n.nsidx = none → t.done tag.toNat scZoneOpen 0 0 ∧
        (s.guardTells → t.zone n.nsidx z = zn ∧ others t)) ∧
      (∀ y, room → 128 ≤ s.zonesIn n.nsidx isOpen → s.oldestImplicit n.nsidx = some y → t.done tag.toNat 0 0 0 ∧
        (s.guardTells → (t.zone n.nsidx z).st = .explicit ∧ (y ≠ z → y < 2 ^ 32 ∧ isOpen (t.zone n.nsidx y).st = false))) ∧
      (zn.st = .empty → (128 ≤ s.zonesIn n.nsidx isActive ∨ 384 ≤ s.activeAll) → t.done tag.toNat scZoneActive 0 0 ∧
        (s.guardTells → t.zone n.nsidx z = zn ∧ others t)) ∧
      (zn.st = .full ∨ zn.st = .readOnly ∨ zn.st = .offline → t.done tag.toNat scZoneState 0 0 ∧
        (s.guardTells → t.zone n.nsidx z = zn ∧ others t))) ∧
    (c.e.zsa = 1 → ∃ t, exec (.zoneClose tag) s = .next t ∧ (s.guardTells → others t) ∧
      (isOpen zn.st = true → t.done tag.toNat 0 0 0 ∧ t.zone n.nsidx z =
        (if zn.unit ≠ 0 ∧ n.cls ≠ 0 ∧ zn.fill = 65536 then { zn with st := .full, unit := 0, zfc := true }
         else { zn with st := .closed, unit := 0 })) ∧
      (zn.st = .closed → t.done tag.toNat 0 0 0 ∧ (s.guardTells → t.zone n.nsidx z = zn)) ∧
      (zn.st = .empty ∨ zn.st = .full ∨ zn.st = .readOnly ∨ zn.st = .offline → t.done tag.toNat scZoneState 0 0 ∧
        (s.guardTells → t.zone n.nsidx z = zn))) ∧
    (c.e.zsa = 2 → ∃ t, exec (.zoneFinish tag) s = .next t ∧ (s.guardTells → others t) ∧
      (zn.st = .readOnly ∨ zn.st = .offline → t.done tag.toNat scZoneState 0 0 ∧ (s.guardTells → t.zone n.nsidx z = zn)) ∧
      (zn.st = .full → t.done tag.toNat 0 0 0 ∧ (s.guardTells → t.zone n.nsidx z = zn)) ∧
      (zn.st ≠ .readOnly → zn.st ≠ .offline → zn.st ≠ .full → let pads := finishPads n z zn
        let fill := zn.fill + pads.length
        t.done tag.toNat 0 0 0 ∧
          t.zone n.nsidx z = { zn with st := .full, unit := 0, fill := fill, pads := zn.pads ++ pads, dwp := zn.wp, dfill := fill })) ∧
    (c.e.zsa = 4 → ∃ t, exec (.zoneReset tag) s = .next t ∧ (s.guardTells → s.med.want = [] → others t) ∧
      (zn.st = .readOnly ∨ zn.st = .offline → t.done tag.toNat scZoneState 0 0 ∧ (s.guardTells → t.zone n.nsidx z = zn)) ∧
      (zn.st ≠ .readOnly → zn.st ≠ .offline → t.done tag.toNat 0 0 0 ∧
        (s.med.want = [] → (t.zone n.nsidx z).st = .empty ∧ (t.zone n.nsidx z).wp = 0 ∧ (t.zone n.nsidx z).esc = []) ∧
        (s.med.want = [] → (∀ a b, s.zoneBand n.nsidx z = some (a, b) → (s.clearBand a b).bandOut a b = false) →
          t.zone n.nsidx z = { bandseq := (zn.bandseq + 1) % 2 ^ 16 }) ∧
        ∀ b, b < zsze n.cls → t.block n.nsidx (c.e.slba + b) = [] ∧ NSet.has (blockKey n.nsidx (c.e.slba + b)) t.hif.bad = false)) ∧
    (c.e.zsa = 5 → ∃ t, exec (.zoneOffline tag) s = .next t ∧
      (zn.st = .readOnly → t.done tag.toNat 0 0 0 ∧ (s.guardTells → t.zone n.nsidx z = { zn with st := .offline } ∧ others t)) ∧
      (zn.st ≠ .readOnly → t.done tag.toNat scZoneState 0 0 ∧ (s.guardTells → t.zone n.nsidx z = zn ∧ others t))))) ∧
  (∀ (tag : Tag) (c : Cmd) (n : Nsp) (s : State), s.carries tag.toNat c → c.sqid ≠ 0 → s.cmdNs c = some n → c.e.opc.toNat = 0x79 →
    c.zone = none → c.e.zall = true → s.exiting = false → s.noRequest c.tag → s.zonesWf → s.guardTells →
    let st (s : State) (z : Nat) : ZoneSt := (s.zone n.nsidx z).st
    (c.e.zsa = 3 → s.zonesIn n.nsidx isActive ≤ 128 → ∃ t, exec (.zoneOpen tag) s = .next t ∧ t.done tag.toNat 0 0 0 ∧
      ∀ z, z < 2 ^ 32 → if st s z = .closed then st t z = .explicit else st t z = st s z) ∧
    (c.e.zsa = 1 → ∃ t, exec (.zoneClose tag) s = .next t ∧ t.done tag.toNat 0 0 0 ∧
      ∀ z, z < 2 ^ 32 → if isOpen (st s z) = true then st t z = .closed ∨ st t z = .full else st t z = st s z) ∧
    (c.e.zsa = 2 → ∃ t, exec (.zoneFinish tag) s = .next t ∧ t.done tag.toNat 0 0 0 ∧
      ∀ z, z < 2 ^ 32 → if isActive (st s z) = true then st t z = .full else st t z = st s z) ∧
    (c.e.zsa = 4 → s.med.want = [] → ∃ t, exec (.zoneReset tag) s = .next t ∧ t.done tag.toNat 0 0 0 ∧
      ∀ z, z < 2 ^ 32 → if isActive (st s z) = true ∨ st s z = .full then st t z = .empty else st t z = st s z) ∧
    (c.e.zsa = 5 → ∃ t, exec (.zoneOffline tag) s = .next t ∧ t.done tag.toNat 0 0 0 ∧
      ∀ z, z < 2 ^ 32 → if st s z = .readOnly then st t z = .offline else st t z = st s z)) ∧
  (∀ (tag : Tag) (s : State), ∀ x ∈ ([(3, .zoneOpen tag), (1, .zoneClose tag), (2, .zoneFinish tag), (4, .zoneReset tag),
      (5, .zoneOffline tag)] : List (Nat × Instr)),
    (∀ c, s.runs tag.toNat c → c.sqid ≠ 0 → c.e.opc.toNat = 0x79 → c.e.zsa = x.1 → c.ended = true →
      ∃ t, exec x.2 s = .next t ∧ t.done tag.toNat scSqDeleted 0 0) ∧
    (∀ c, s.carries tag.toNat c → c.sqid ≠ 0 → c.e.opc.toNat = 0x79 → c.e.zsa = x.1 → s.exiting = false → s.cmdNs c = none →
      ∃ t, exec x.2 s = .next t ∧ t.done tag.toNat scNamespace 0 0) ∧
    ((∀ c, s.started? tag.toNat = some c → c.sqid = 0 ∨ c.e.opc.toNat ≠ 0x79 ∨ c.e.zsa ≠ x.1 ∨ (s.exiting = true ∧ c.ended = false)) →
      exec x.2 s = .next s)) ∧
  (∀ (tag : Tag) (c : Cmd) (n : Nsp) (s : State), let z := c.e.slba / zsze n.cls
    s.carries tag.toNat c → c.sqid ≠ 0 → s.cmdNs c = some n → c.e.opc.toNat = 0x7A → s.exiting = false →
    ∃ t, exec (.zoneManagementReceive tag) s = .next t ∧
    (dwBits c.e.cdw13 0 8 ≠ 0 ∨ 7 < dwBits c.e.cdw13 8 8 → t.done tag.toNat scField 0 0 ∧ t.out = s.out) ∧
    (dwBits c.e.cdw13 0 8 = 0 → dwBits c.e.cdw13 8 8 ≤ 7 → n.nsze ≤ c.e.slba → t.done tag.toNat scLbaRange 0 0 ∧ t.out = s.out) ∧
    (dwBits c.e.cdw13 0 8 = 0 → dwBits c.e.cdw13 8 8 ≤ 7 → c.e.slba < n.nsze → t.done tag.toNat 0 0 0 ∧
      ∃ d, s.sent t [.toHost c.tag d] ∧ d.length = 4 * (c.e.cdw12.toNat + 1) ∧
      (dwBits c.e.cdw13 8 8 = 0 → dwBits c.e.cdw13 16 1 = 0 → z < n.nsze / zsze n.cls → 31 ≤ c.e.cdw12.toNat →
        d.take 8 = leBytes 8 (n.nsze / zsze n.cls - z) ∧ (d.drop 64).take 2 = [2] ++ leBytes 1 (16 * (s.zone n.nsidx z).st.code) ∧
        (d.drop 72).take 16 = leBytes 8 (zcap n.cls) ++ leBytes 8 (z * zsze n.cls)))) ∧
  (∀ (n : Nsp) (e : Sqe) (z lo m : Nat) (s : State), s.zoneAssign n e = .inl (z, lo, m) →
    z = e.slba / zsze n.cls ∧ lo = s.zoneAp n.nsidx z ∧ m = e.nlb ∧ lo + m ≤ zcap n.cls ∧
    (e.op = 0x7D → e.slba % zsze n.cls = 0) ∧ (e.op ≠ 0x7D → e.slba % zsze n.cls = lo) ∧
    (s.zone n.nsidx z).st ∉ [.full, .readOnly, .offline]) ∧
  (∀ (n : Nsp) (e : Sqe) (s : State), e.op ≠ 0x7D → e.slba % zsze n.cls ≠ s.zoneAp n.nsidx (e.slba / zsze n.cls) →
    s.zoneAssign n e = .inr scZoneWrite) ∧
  ∀ (i : Byte) (z : Nat) (s : State), let zn := s.zone i.toNat z
    ∃ t, exec (.unitCloseTimeout i z) s = .next t ∧ (zn.unit = 0 → t = s) ∧ s.completing t [.hif, .ev] ∧
    (zn.unit ≠ 0 → (∀ n, s.ns? i.toNat = some n → n.cls = 0 ∨ zn.fill ≠ 65536 ∨ isActive zn.st = false) →
      t.zone i.toNat z = { zn with unit := 0 }) ∧
    ∀ n, zn.unit ≠ 0 → s.ns? i.toNat = some n → n.cls ≠ 0 → zn.fill = 65536 → isActive zn.st = true →
      t.zone i.toNat z = { zn with unit := 0, st := .full, zfc := true } ∧ s.raised t 318

/-- Controllers are enabled and reset as R272 and Table 2-7 give, and no host-side reset reaches the module's own
reset state. Enabling a controller (a virtual function's once it is online, outside recovery mode, the internal port's
link not disabled) makes it ready with its admin queues and its arbitration and raises event 220. A controller reset
and a function-level reset of a virtual function end every command of it unposted, remove its queues and event
requests, leave every other controller's settings alone and raise event 221; a function-level reset of the physical
function, PERST_N low, a hot reset, a loss of the upstream link and a reset or disable at the internal port reach
every controller, and those of the link take both ports down and return the ports' configuration spaces and Link
Disable to their defaults. Before step 10 PERST_N is only forwarded. None of them touches anything but the host
interface, the port registers and what completions write: not the release steps, the pass, the spindle, the arms or
the engines. NSSR written with its key on the physical function pulses RSTOUT_N; on another, or another value, it does
nothing. The SMBus command sends one answer with the critical warning byte, the temperature and the percentage used. A
row off its occasion changes nothing (log entry 6, the model's choice). Other choices of the model it rests on: log
entries 20, 61, 70, 71, 104, 105. -/
def Obligations.ControllersComeUpAndAreReset : Prop :=
  (∀ (f : Func) (wrr : Bool) (s : State), s.up 10 = true → s.psw.idpDisabled = false → (s.ctrl f).en = false → (f = 0 ∨ ((s.ctrl f).online = true ∧ s.rst.recovery = false)) →
    ∃ t, exec (.controllerEnable f wrr) s = .next t ∧ (t.ctrl f).en = true ∧ (t.ctrl f).rdy = true ∧ (t.ctrl f).ams = wrr ∧
    s.recorded t 220 [(2, f)] ∧
    (∃ q, t.sq f 0 = some q ∧ q.head = 0 ∧ q.tail = 0) ∧ (∃ q, t.cq f 0 = some q ∧ q.posted = []) ∧ s.only t [] [.hif, .ev, .free]) ∧
  (∀ (f : Func) (wrr : Bool) (s : State),
    (s.up 10 = false ∨ s.psw.idpDisabled = true ∨ (s.ctrl f).en = true ∨ (f ≠ 0 ∧ ((s.ctrl f).online = false ∨ s.rst.recovery = true))) →
    exec (.controllerEnable f wrr) s = .next s) ∧
  (∀ (f : Func) (s : State), (s.up 10 = false ∨ (s.ctrl f).en = false → exec (.controllerReset f) s = .next s) ∧
    (s.up 10 = false ∨ s.psw.idpDisabled = true ∨ (f ≠ 0 ∧ s.rst.recovery = true) → exec (.functionLevelReset f) s = .next s)) ∧
  (∀ (f : Func) (s : State) (c : Instr), s.up 10 = true →
    (c = .controllerReset f ∧ (s.ctrl f).en = true ∨ c = .functionLevelReset f ∧ f ≠ 0 ∧ s.rst.recovery = false ∧ s.psw.idpDisabled = false) → ∃ t, exec c s = .next t ∧
    (t.ctrl f).en = false ∧ (t.ctrl f).rdy = false ∧ (t.ctrl f).aers = [] ∧ s.raised t 221 ∧ t.out = s.out ∧
    (∀ q, q < 65536 → t.sq f q = none ∧ t.cq f q = none) ∧
    (∀ g : Func, g ≠ f → { t.ctrl g with aers := (s.ctrl g).aers, notices := (s.ctrl g).notices } = s.ctrl g) ∧
    (∀ x ∈ t.hif.cmds, x.func = f → x.silent = true ∧ x.ended = true) ∧
    (∀ x ∈ s.hif.cmds, x.func ≠ f → x.zone = none → x.silent = false → (∀ y ∈ s.hif.cmds, y.tag = x.tag → y = x) →
      (∃ y ∈ t.hif.cmds, y.tag = x.tag ∧ y.func = x.func ∧ y.e = x.e)) ∧
    (f ≠ 0 → s.completing t [.hif, .ev])) ∧
  (∀ (s : State) (c : Instr), s.up 10 = true → (c = .functionLevelReset 0 → s.psw.idpDisabled = false) → c ∈ [.functionLevelReset 0, .perstN false, .idpLinkControl true true, .idpLinkControl false true] →
    ∃ t, exec c s = .next t ∧ t.staged = [] ∧ ∀ f : Func, (t.ctrl f).en = false ∧ (t.ctrl f).rdy = false) ∧
  (∀ (p : Byte) (l : W32) (d : Bool) (s : State), ∀ c ∈ ([.hotReset d, .linkDown .usp p l] : List Instr),
    (s.bit .PSW_STAT_USUP = false → exec c s = .next s) ∧ (s.bit .PSW_STAT_USUP = true →
    ∃ t, exec c s = .next t ∧ (∀ f : Func, (t.ctrl f).en = false) ∧ s.sent t (if s.bit .PSW_STAT_DSUP then [.hotReset] else []) ∧
    t.psw = { s.psw with usFinal := false, dsFinal := s.psw.dsFinal && !s.bit .PSW_STAT_DSUP, idpDisabled := false, edpDisabled := false,
                         usp := {}, idp := {}, edp := {} } ∧
    t.rd .PSW_STAT_USUP = 0 ∧ t.rd .PSW_STAT_DSUP = 0 ∧ s.raised t 189 ∧ (s.bit .PSW_STAT_DSUP = true → s.raised t 191) ∧
    (c = .hotReset false → s.raised t 205))) ∧
  (∀ (level : Bool) (s : State), s.up 10 = false → ∃ t, exec (.perstN level) s = .next t ∧ t.psw = { s.psw with perst := !level } ∧
    s.only t [] [.psw]) ∧
  (∀ (level : Bool) (s : State), s.up 10 = true → ∃ t, exec (.perstN level) s = .next t ∧ s.raised t 204 ∧ t.out = s.out ∧
    (level = false → t.bit .PSW_STAT_USUP = false ∧ t.bit .PSW_STAT_DSUP = false ∧
      t.psw = { s.psw with perst := true, usFinal := s.psw.usFinal && !s.bit .PSW_STAT_USUP, dsFinal := s.psw.dsFinal && !s.bit .PSW_STAT_DSUP,
                           idpDisabled := false, edpDisabled := false, usp := {}, idp := {}, edp := {} }) ∧
    (level = true → t.psw = { s.psw with perst := false } ∧ s.only t [] [.psw, .ev])) ∧
  (∀ (a b : Bool) (s : State), (s.up 10 = false → exec (.idpLinkControl a b) s = .next s ∧ exec (.edpSecondaryBusReset a b) s = .next s) ∧
    (s.up 10 = true → (∃ t, exec (.idpLinkControl a b) s = .next t ∧
      t.psw.idpDisabled = (if a then b else s.psw.idpDisabled) ∧ (b = false → s.only t [] [.psw])) ∧
    ∃ t, exec (.edpSecondaryBusReset a b) s = .next t ∧
      s.only t [.PSW_STAT_DSUP, .PSW_DSLNK_SPEED, .PSW_DSLNK_WIDTH, .PSW_CHAIN_BELOW] [.psw, .ev, .out] ∧
      (a = true → t.psw.edpDisabled = b ∧ (b = true → t.bit .PSW_STAT_DSUP = false) ∧ (b = false → s.only t [] [.psw])) ∧
      (a = false → b = true → s.bit .PSW_STAT_DSUP = true → s.sent t [.hotReset] ∧ s.only t [] [.out]) ∧
      (a = false → b = false ∨ s.bit .PSW_STAT_DSUP = false → t = s))) ∧
  (∀ (f : Func) (level a b d : Bool) (p : Byte) (l : W32) (s t : State), ∀ c ∈ ([.controllerReset f, .functionLevelReset f, .perstN level,
      .hotReset d, .linkDown .usp p l, .idpLinkControl a b] : List Instr), exec c s = .next t →
    s.ctxBut t ∧ s.keeps t [.hif, .ev, .psw, .out, .staged, .med] ∧ s.zoneCopies t ∧
    s.regsBut t [.BUF_FREE_FREE, .BUF_STAT_POVF, .BUF_STAT_GUARD, .HIF_PWR_PSREQ, .PSW_STAT_USUP, .PSW_STAT_DEPTHOK, .PSW_USLNK_SPEED,
      .PSW_USLNK_WIDTH, .PSW_STAT_DSUP, .PSW_DSLNK_SPEED, .PSW_DSLNK_WIDTH, .PSW_CHAIN_BELOW]) ∧
  (∀ (f : Func) (v : W32) (s : State), (s.up 10 = true → v.toNat = 0x4E564D65 → s.rst.pulse = none → ∃ t, exec (.nssrWrite 0 v) s = .next t ∧
    t.rst = { s.rst with pulse := some .firmware, pulseSeen := s.rst.pin } ∧ s.only t [] [.rst]) ∧
    (s.up 10 = false ∨ f ≠ 0 ∨ v.toNat ≠ 0x4E564D65 ∨ s.rst.pulse ≠ none → exec (.nssrWrite f v) s = .next s)) ∧
  (∀ s : State, (s.up 10 = false → exec .nvmeMiBasicCommand s = .next s) ∧
    (s.up 10 = true → ∃ t st, exec .nvmeMiBasicCommand s = .next t ∧
      s.sent t [.smbus st s.hif.warn (smbusTemp s.composite) s.percentUsed] ∧ s.only t [] [.out, .free])) ∧
  ∀ k, (400 ≤ k → smbusTemp k = 0x7F) ∧ (273 ≤ k → k < 400 → smbusTemp k + 273 = k) ∧ (213 < k → k < 273 → smbusTemp k + 17 = k) ∧
    (k ≤ 213 → smbusTemp k = 0xC4)

/-- Power states are requested by the host, by timers and by the table, and entered once their conditions hold. Set
Features of Power Management requests a state up to 4, enters an operational one at once, lets PS3 and PS4 wait, and
completes; a state above 4 completes with Invalid Field. With APST disabled and the module idle, the valley timer
requests PS3 from an operational state and the deep timer PS4 from PS3, where they are not off; with APST enabled the
table's entry does. PS3 and PS4 are entered only while no I/O command is admitted, no self-test runs and pool 2 is
empty, with event 233; until then the state in force stays. With an admin command waiting for the medium the last
operational state comes back at once. An operational state asked for is entered at the next entry. The governor steps
one tier, with event 234: up to a permitted tier only, and down from a tier no longer permitted without idle windows.
Where a row's conditions do not hold it changes nothing (log entry 6, the model's choice). Other choices of the model
it rests on: log entries 20, 71. -/
def Obligations.PowerStatesAreRequestedAndEntered : Prop :=
  (∀ (tag : Tag) (c : Cmd) (s : State), s.carries tag.toNat c → c.sqid = 0 → c.e.opc.toNat = 0x09 → dwBits c.e.cdw10 31 1 = 0 →
    dwBits c.e.cdw10 0 8 = 0x02 → let ps := dwBits c.e.cdw11 0 5
    ∃ t, exec (.setPowerManagement tag) s = .next t ∧
    (c.func ≠ 0 → t.done tag.toNat scNotChangeable 0 0 ∧ t.rd .HIF_PWR_PSREQ = s.rd .HIF_PWR_PSREQ) ∧
    (c.func = 0 → 4 < ps → t.done tag.toNat scField 0 0 ∧ t.rd .HIF_PWR_PSREQ = s.rd .HIF_PWR_PSREQ) ∧
    (c.func = 0 → ps ≤ 4 → t.done tag.toNat 0 0 0 ∧ t.rd .HIF_PWR_PSREQ = ps ∧
      (ps ≤ 2 → t.rd .HIF_PWR_PSNOW = ps ∧ t.hif.entry = none ∧ (s.rd .HIF_PWR_PSNOW ≠ ps → s.raised t 233)) ∧
      (3 ≤ ps → t.rd .HIF_PWR_PSNOW = s.rd .HIF_PWR_PSNOW ∧ t.hif.entry = some psHost))) ∧
  (∀ s : State, let idle := s.up 10 = true ∧ (s.feat 0 0x0C).testBit 0 = false ∧ s.ioBusy = false ∧ s.hif.entry = none
    let valley := idle ∧ s.rd .HIF_PWR_PSNOW ≤ 2 ∧ s.feat 0 0xC0 / 256 % 256 ≠ 0
    let deep := idle ∧ s.rd .HIF_PWR_PSNOW = 3 ∧ s.feat 0 0xC0 / 65536 ≠ 0
    (valley → ∃ t, exec .valleyTimerExpire s = .next t ∧ t.rd .HIF_PWR_PSREQ = 3 ∧
      t.hif.entry = some psTimer ∧ s.only t [.HIF_PWR_PSREQ] [.hif]) ∧
    (deep → ∃ t, exec .deepTimerExpire s = .next t ∧ t.rd .HIF_PWR_PSREQ = 4 ∧
      t.hif.entry = some psTimer ∧ s.only t [.HIF_PWR_PSREQ] [.hif]) ∧
    (¬ valley → exec .valleyTimerExpire s = .next s) ∧ (¬ deep → exec .deepTimerExpire s = .next s)) ∧
  (∀ s : State, let e := s.feat 0 0x0C (s.rd .HIF_PWR_PSNOW + 1)
    let ps := bitsN e 3 5
    let due := s.up 10 = true ∧ (s.feat 0 0x0C).testBit 0 = true ∧ s.ioBusy = false ∧ s.hif.entry = none ∧ bitsN e 8 24 ≠ 0 ∧ ps ≤ 4 ∧
      ps ≠ s.rd .HIF_PWR_PSNOW
    (due → ∃ t, exec .autonomousPowerStateTransition s = .next t ∧ t.rd .HIF_PWR_PSREQ = ps ∧
      (3 ≤ ps → t.hif.entry = some psApst ∧ s.only t [.HIF_PWR_PSREQ] [.hif]) ∧ (ps ≤ 2 → t.rd .HIF_PWR_PSNOW = ps ∧ s.raised t 233)) ∧
    (¬ due → exec .autonomousPowerStateTransition s = .next s)) ∧
  (∀ s : State, s.hif.entry = none → exec .powerStateEntry s = .next s) ∧
  (∀ (cause : Nat) (s : State), s.hif.entry = some cause → s.rd .HIF_PWR_PSREQ ≤ 2 → ∃ t, exec .powerStateEntry s = .next t ∧
    t.rd .HIF_PWR_PSNOW = s.rd .HIF_PWR_PSREQ ∧ t.hif.entry = none ∧ (s.rd .HIF_PWR_PSNOW ≠ s.rd .HIF_PWR_PSREQ → s.raised t 233) ∧
    s.memSame t ∧ (3 ≤ s.rd .HIF_PWR_PSNOW → t.hif.exit = true)) ∧
  (∀ (cause : Nat) (s : State), s.hif.entry = some cause → 3 ≤ s.rd .HIF_PWR_PSREQ → s.rd .HIF_PWR_PSREQ ≤ 4 →
    ∃ t, exec .powerStateEntry s = .next t ∧
    (s.ioBusy = false → s.hif.test = none → s.poolFree 2 = s.poolSize 2 → s.mediumWanted = true → s.hif.lastOp ≤ 2 →
      (∀ k z, (s.zone k z).unit = 0) → t.rd .HIF_PWR_PSNOW = s.hif.lastOp ∧ t.rd .HIF_PWR_PSREQ = s.hif.lastOp ∧ t.hif.entry = none ∧
        t.hif.exit = true) ∧
    ((s.ioBusy = true ∨ s.hif.test ≠ none ∨ s.poolFree 2 ≠ s.poolSize 2) → t = s) ∧
    (s.ioBusy = false → s.hif.test = none → s.poolFree 2 = s.poolSize 2 → s.mediumWanted = false → t.rd .HIF_PWR_PSNOW = s.rd .HIF_PWR_PSREQ ∧ t.hif.entry = none ∧
      (s.rd .HIF_PWR_PSNOW ≠ s.rd .HIF_PWR_PSREQ → s.raised t 233) ∧ ∀ k z, (t.zone k z).unit = 0)) ∧
  ∀ (up : Bool) (busy : Byte) (s : State), let old := s.spn.tgt
    let new := if up then (if old = 3600 then 5400 else 7200) else (if old = 7200 then 5400 else 3600)
    let runs := s.up 10 = true ∧ (s.feat 0 0xC0).testBit 0 = true ∧ s.rd .HIF_PWR_PSNOW ≤ 2
    let top := s.topTier (s.rd .HIF_PWR_PSNOW)
    let steps := runs ∧ new ≠ old ∧ (if up then new ≤ top else busy.toNat < 30 ∨ top < old)
    old ∈ [3600, 5400, 7200] →
    (¬ steps → exec (.governorStep up busy) s = .next s) ∧
    (steps → ∃ t, exec (.governorStep up busy) s = .next t ∧ t.rd .SPN_TGT_TGT = new ∧ s.raised t 234 ∧ s.memSame t ∧
      t.hif = s.hif ∧ t.arms = s.arms ∧ t.hses = s.hses ∧ t.chans = s.chans)

/-- The pass opens only with the key, no fault, an allowed depth and nothing holding it, and its closes record their
cause. With step 10 released, PASS with KEY 0xC3 and OPEN 1, CLOSE 0, on a pass not open: with FAULT or TOODEEP set it
only raises event 198; while HOLDOFF, JOIN_EN under POLICY 1, or the supplies hold it, it sets PENDING with event 197;
on a closed pass with nothing holding it the switches leave their rest, the count kept in MRAM is one more, OPENFLAG
is set there and event 195 is raised, with 202 and 203 at the marks. Another key changes nothing. In recovery mode
OPEN changes nothing until the spindle is at rest and the heads are parked, and in a test instruction of the test
access port it stays closed; a debug instruction reads as BYPASS. CLOSE on an open pass, or JOIN_EN low under POLICY
1, goes to closing with its cause recorded in MRAM, OPENFLAG clear, HOLDOFF running, both links down, a link reset of
every port and controller and event 196; PENDING stays for JOIN_EN only. A pending open proceeds on a closed pass once
nothing holds it. The position check ends opening and closing, the lanes then connected to the module's SerDes or
through, or sets FAULT with event 213; a switch on its way connects nothing. A row off its occasion changes nothing
but that instruction (log entry 6, the model's choice). Other choices of the model it rests on: log entries 72, 104,
111. -/
def Obligations.ThePassOpensAndClosesByItsRules : Prop :=
  (∀ (tap : TapInstr) (s : State), (s.setTap tap).psw = { s.psw with tap := if tap = .debug then .bypass else tap } ∧
    s.only (s.setTap tap) [] [.psw]) ∧
  (∀ (v : W32) (tap : TapInstr) (s : State), let u := s.setTap tap
    s.up 10 = true → bitsN v.toNat 0 8 = 0xC3 → v.toNat.testBit 8 = true → v.toNat.testBit 9 = false →
    s.rd .PSW_PASS_STATE ≠ 1 → s.rd .PSW_PASS_STATE ≠ 2 → u.mayOpen = true → ∃ t, exec (.passOpen v tap) s = .next t ∧
    (s.bit .PSW_PASS_FAULT = true → u.recorded t 198 [(1, 0)] ∧ u.only t [] [.ev]) ∧
    (s.bit .PSW_PASS_FAULT = false → s.bit .PSW_STAT_TOODEEP = true → u.recorded t 198 [(1, 1)] ∧ u.only t [] [.ev]) ∧
    (s.bit .PSW_PASS_FAULT = false → s.bit .PSW_STAT_TOODEEP = false →
      (∀ r, s.joinHeld = some r → t.rd .PSW_PASS_PENDING = 1 ∧ u.recorded t 197 [(1, r)] ∧ u.only t [.PSW_PASS_PENDING] [.ev]) ∧
      (s.joinHeld = none → s.rd .PSW_PASS_STATE = 0 → let n := min (2 ^ 32 - 1) (s.passCount + 1)
        t.rd .PSW_PASS_STATE = 1 ∧ t.rd .PSW_PASS_PENDING = 0 ∧ t.passFlag = true ∧ t.passCause = s.passCause ∧
        t.passCount = n ∧ t.view ⟨.PSW_PASSCNT_COUNT, 0, 0⟩ = n ∧ t.view ⟨.PSW_PASSREC_OPENFLAG, 0, 0⟩ = 1 ∧ u.raised t 195 ∧
        (n = 80000000 → u.raised t 202) ∧ (n = 100000000 → u.raised t 203) ∧ (∀ k, t.lanePath k = .nothing) ∧ u.opening t) ∧
      (s.joinHeld = none → s.rd .PSW_PASS_STATE = 3 → t.rd .PSW_PASS_PENDING = 1 ∧ u.only t [.PSW_PASS_PENDING] []))) ∧
  (∀ s : State, (s.joinHeld = none ↔ (s.psw.holdoff = false ∧ (s.bit .PSW_CFG_POLICY = true → s.bit .PSW_STAT_JOINEN = true) ∧ s.pwr.good = true))) ∧
  (∀ (v : W32) (tap : TapInstr) (s : State), (s.up 10 = false ∨ bitsN v.toNat 0 8 ≠ 0xC3 →
      exec (.passOpen v tap) s = .next (s.setTap tap) ∧ exec (.passClose v) s = .next s) ∧
    (v.toNat.testBit 8 = false ∨ v.toNat.testBit 9 = true ∨ s.rd .PSW_PASS_STATE = 1 ∨ s.rd .PSW_PASS_STATE = 2 ∨ (s.setTap tap).mayOpen = false →
      exec (.passOpen v tap) s = .next (s.setTap tap)) ∧ (v.toNat.testBit 9 = false → exec (.passClose v) s = .next s)) ∧
  (∀ s : State, s.mayOpen = false ↔ (s.psw.tap = .boundary ∨ s.psw.tap = .acScan ∨
    (s.rst.recovery = true ∧ (s.pwr.turning = true ∨ s.pwr.retract ≠ 0 ∨ s.pwr.tripped ≠ [] ∨ ∃ a < 4, s.armLoaded a = true)))) ∧
  (∀ (v : W32) (s : State), s.up 10 = true → bitsN v.toNat 0 8 = 0xC3 → v.toNat.testBit 9 = true → ∃ t, exec (.passClose v) s = .next t ∧
    t.rd .PSW_PASS_PENDING = 0 ∧
    (s.rd .PSW_PASS_STATE = 1 ∨ s.rd .PSW_PASS_STATE = 2 → t.rd .PSW_PASS_STATE = 3 ∧ t.passFlag = false ∧ t.passCause = 1 ∧
      t.passCount = s.passCount ∧ s.raised t 196 ∧ t.bit .PSW_STAT_USUP = false ∧ t.bit .PSW_STAT_DSUP = false ∧
      (∀ f : Func, (t.ctrl f).en = false) ∧ (∀ k, t.lanePath k = .nothing) ∧
      t.psw = { s.psw with holdoff := true, swMoving := true, swOpen := 0, usFinal := s.psw.usFinal && !s.bit .PSW_STAT_USUP,
                           dsFinal := s.psw.dsFinal && !s.bit .PSW_STAT_DSUP, idpDisabled := false, edpDisabled := false,
                           usp := {}, idp := {}, edp := {} }) ∧
    (s.rd .PSW_PASS_STATE ≠ 1 → s.rd .PSW_PASS_STATE ≠ 2 → s.only t [.PSW_PASS_PENDING] [])) ∧
  (∀ (level : Bool) (s : State), ∃ t, exec (.joinEnChange level) s = .next t ∧ t.bit .PSW_STAT_JOINEN = level ∧
    ((level = true ∨ s.bit .PSW_CFG_POLICY = false ∨ (s.rd .PSW_PASS_STATE ≠ 1 ∧ s.rd .PSW_PASS_STATE ≠ 2)) → s.only t [.PSW_STAT_JOINEN] []) ∧
    (level = false → s.bit .PSW_CFG_POLICY = true → (s.rd .PSW_PASS_STATE = 1 ∨ s.rd .PSW_PASS_STATE = 2) → t.rd .PSW_PASS_STATE = 3 ∧
      t.passFlag = false ∧ t.passCause = 2 ∧ t.rd .PSW_PASS_PENDING = 1 ∧ s.raised t 196)) ∧
  (∀ (tap : TapInstr) (s : State), let u := s.setTap tap
    let goes := s.up 10 = true ∧ s.bit .PSW_PASS_PENDING = true ∧ s.rd .PSW_PASS_STATE = 0 ∧ s.joinHeld = none ∧
      s.bit .PSW_PASS_FAULT = false ∧ s.bit .PSW_STAT_TOODEEP = false ∧ tap ≠ .boundary ∧ tap ≠ .acScan
    (¬ goes → exec (.joinProceed tap) s = .next u) ∧ (goes → ∃ t, exec (.joinProceed tap) s = .next t ∧ t.rd .PSW_PASS_STATE = 1 ∧
      t.rd .PSW_PASS_PENDING = 0 ∧ t.passFlag = true ∧ t.passCount = min (2 ^ 32 - 1) (s.passCount + 1) ∧ u.raised t 195 ∧ u.opening t)) ∧
  (∀ s : State, ∃ t, exec .holdoffExpire s = .next t ∧ t.psw = { s.psw with holdoff := false } ∧ s.only t [] [.psw]) ∧
  ∀ (w : W32) (s : State), ∃ t, exec (.passPositionCheck w) s = .next t ∧
    (s.rd .PSW_PASS_STATE = 1 → w = 0 → t.rd .PSW_PASS_STATE = 2 ∧ (∀ k, k < 32 → t.lanePath k = .own) ∧ s.only t [.PSW_PASS_STATE] [.psw]) ∧
    (s.rd .PSW_PASS_STATE = 1 → w ≠ 0 → t.rd .PSW_PASS_STATE = 3 ∧ t.rd .PSW_PASS_FAULT = 1 ∧ t.passCause = 4 ∧ t.passFlag = false ∧ s.raised t 213) ∧
    (s.rd .PSW_PASS_STATE = 3 → w = 0 → t.rd .PSW_PASS_STATE = 0 ∧ (∀ k, t.lanePath k = .through) ∧ s.only t [.PSW_PASS_STATE] [.psw]) ∧
    (s.rd .PSW_PASS_STATE = 3 → w ≠ 0 → t.rd .PSW_PASS_STATE = 0 ∧ t.rd .PSW_PASS_PENDING = 0 ∧ t.rd .PSW_PASS_FAULT = 1 ∧
      s.recorded t 213 [(4, w.toNat), (1, 0)]) ∧
    (s.rd .PSW_PASS_STATE = 0 ∨ s.rd .PSW_PASS_STATE = 2 → t = s)

/-- Links come up and go down, chain messages set depth and BELOW, and TLPs pass between the ports as the switch's
rules give. With the pass open and PERST_N high, LINK_UP records speed, lanes and the widest link the unmarked lanes
allow; the upstream port's first one forgets the depth and sends BELOW, and its final rate raises event 188 and
reports ready, at the downstream port event 190. LINK_DOWN of the downstream port clears its status and BELOW. DEPTH
at a live upstream link sets the depth one deeper, at most 16, DEPTH_TIMEOUT sets 0, BELOW sets the count below, told
upstream in a message with the vendor, the signature, Message Code 0x7F and Local routing; above 15 the module sets
TOODEEP, closes the pass and raises event 201. Another vendor or signature changes nothing. A TLP from the host goes
to the port, the endpoint or below as windows and bus numbers claim it; a port answers its own configuration requests,
bus numbers among them; from below it goes to the host, or to the endpoint where ACS lets it; the endpoint's goes to
the host. Without credit it waits whole; a flit that fails its check goes no further, a NOP in its place; without room
nothing is taken; what goes nowhere is unsupported, with event 212, or dropped. At the upstream port own and forwarded
TLPs share by their weights. A full buffer raises event 210, and bus numbers are taken with event 214. A row off its
occasion changes nothing (log entry 6, the model's choice). Choices of the model it rests on: log entries 73, 74, 105.
-/
def Obligations.TheChainLinksTellTheirDepthAndForward : Prop :=
  (∀ (p : Port) (sp : BitVec 3) (w : BitVec 5) (failed : W16) (final : Bool) (rate : BitVec 3) (s : State), s.up 10 = true →
    s.psw.perst = false → s.passOpen = true → (p = .usp → s.psw.usFinal = false) →
    (p = .edp → s.psw.edpDisabled = false ∧ s.psw.edp.contained = false ∧ s.psw.dsFinal = false) →
    let m := Nat.lor failed.toNat (bitsN (s.rd .AGE_FSTAT_LASTING 3) (16 * portLane p) 16)
    let x := min w.toNat (widthWithout m)
    ∃ t, exec (.linkUp p sp w failed final rate) s = .next t ∧ s.memSame t ∧ s.keeps t [.ev, .out, .free, .psw] ∧
    (final = false → ∀ l, l < 16 → failed.toNat = 2 ^ l → s.recorded t 194 [(1, portLane p), (1, l), (1, rate.toNat)]) ∧
    (p = .usp → t.rd .PSW_STAT_USUP = 1 ∧ t.rd .PSW_USLNK_SPEED = sp.toNat ∧ t.rd .PSW_USLNK_WIDTH = x ∧ t.rd .PSW_USLNK_MARKED = m ∧
      t.psw = { s.psw with usFinal := final } ∧ (s.bit .PSW_STAT_USUP = false → t.rd .PSW_STAT_DEPTHOK = 0) ∧
      (s.bit .PSW_STAT_USUP = true → t.rd .PSW_STAT_DEPTHOK = s.rd .PSW_STAT_DEPTHOK) ∧
      (final = true → s.raised t 188 ∧ s.raised t 218 ∧ .ready ∈ t.out ∧ (sp.toNat < 7 ∨ x < 16 → s.raised t 192)) ∧
      s.regsBut t [.PSW_STAT_USUP, .PSW_STAT_DEPTHOK, .PSW_USLNK_SPEED, .PSW_USLNK_WIDTH, .PSW_USLNK_MARKED]) ∧
    (p = .edp → t.rd .PSW_STAT_DSUP = 1 ∧ t.rd .PSW_DSLNK_SPEED = sp.toNat ∧ t.rd .PSW_DSLNK_WIDTH = x ∧ t.rd .PSW_DSLNK_MARKED = m ∧
      t.psw.dsFinal = final ∧ (final = true → s.raised t 190 ∧ (sp.toNat < 7 ∨ x < 16 → s.raised t 193)) ∧
      s.regsBut t [.PSW_STAT_DSUP, .PSW_DSLNK_SPEED, .PSW_DSLNK_WIDTH, .PSW_DSLNK_MARKED])) ∧
  (∀ m l, l < 16 → m.testBit l = true → widthWithout m ≤ 8) ∧ widthWithout 0 = 16 ∧
  (∀ s : State, s.passOpen = true ↔ (s.rd .PSW_PASS_STATE = 2 ∧ s.psw.swMoving = false ∧ ∀ k, k < 32 → s.psw.swOpen.testBit k = true)) ∧
  (∀ (p : Port) (sp : BitVec 3) (w : BitVec 5) (failed : W16) (final : Bool) (rate : BitVec 3) (s : State), (s.up 10 = false ∨
    s.psw.perst = true ∨ s.passOpen = false ∨ (p = .usp ∧ s.psw.usFinal = true) ∨
    (p = .edp ∧ (s.psw.edpDisabled = true ∨ s.psw.edp.contained = true ∨ s.psw.dsFinal = true))) →
    exec (.linkUp p sp w failed final rate) s = .next s) ∧
  (∀ (cause : Byte) (l : W32) (s : State), s.bit .PSW_STAT_DSUP = false → exec (.linkDown .edp cause l) s = .next s) ∧
  (∀ (cause : Byte) (l : W32) (s : State), s.bit .PSW_STAT_DSUP = true → ∃ t, exec (.linkDown .edp cause l) s = .next t ∧
    t.rd .PSW_STAT_DSUP = 0 ∧ t.rd .PSW_DSLNK_SPEED = 0 ∧ t.rd .PSW_DSLNK_WIDTH = 0 ∧ t.rd .PSW_CHAIN_BELOW = 0 ∧ s.raised t 191 ∧
    (cause = 0 → s.raised t 217) ∧ t.psw = { s.psw with dsFinal := false, edp := { s.psw.edp with presence := true, linkChange := true } } ∧
    s.only t [.PSW_STAT_DSUP, .PSW_DSLNK_SPEED, .PSW_DSLNK_WIDTH, .PSW_CHAIN_BELOW] [.ev, .out, .psw]) ∧
  (∀ (hdr : W32) (vid : W16) (s : State), let d := min 16 (bitsN hdr.toNat 8 8 + 1)
    s.bit .PSW_STAT_USUP = true → vid.toNat = s.rd .PSW_ID_VID → bitsN hdr.toNat 16 16 = 0x4E44 → bitsN hdr.toNat 0 8 = 1 →
    ∃ t, exec (.depth hdr vid) s = .next t ∧ t.rd .PSW_CHAIN_DEPTH = d ∧
    (d ≤ 15 → t.rd .PSW_STAT_DEPTHOK = 1 ∧ s.only t [.PSW_CHAIN_DEPTH, .PSW_STAT_DEPTHOK] [.ev, .out] ∧
      (s.bit .PSW_STAT_DEPTHOK = false → s.recorded t 199 [(1, s.rd .PSW_CHAIN_DEPTH), (1, d)])) ∧
    (15 < d → t.rd .PSW_STAT_TOODEEP = 1 ∧ s.raised t 201 ∧
      (s.rd .PSW_PASS_STATE = 1 ∨ s.rd .PSW_PASS_STATE = 2 → t.rd .PSW_PASS_STATE = 3 ∧ t.passCause = 3))) ∧
  (∀ (hdr : W32) (vid : W16) (s : State), let alien := vid.toNat ≠ s.rd .PSW_ID_VID ∨ bitsN hdr.toNat 16 16 ≠ 0x4E44
    (alien ∨ s.bit .PSW_STAT_USUP = false ∨ bitsN hdr.toNat 0 8 ≠ 1 → exec (.depth hdr vid) s = .next s) ∧
    (alien ∨ s.bit .PSW_STAT_DSUP = false ∨ bitsN hdr.toNat 0 8 ≠ 2 → exec (.below hdr vid) s = .next s)) ∧
  (∀ (hdr : W32) (vid : W16) (s : State), let b := bitsN hdr.toNat 8 8 % 32
    s.bit .PSW_STAT_DSUP = true → vid.toNat = s.rd .PSW_ID_VID → bitsN hdr.toNat 16 16 = 0x4E44 → bitsN hdr.toNat 0 8 = 2 →
    ∃ t, exec (.below hdr vid) s = .next t ∧ t.rd .PSW_CHAIN_BELOW = b ∧ s.only t [.PSW_CHAIN_BELOW] [.ev, .out] ∧
    (s.rd .PSW_CHAIN_BELOW ≠ b → s.recorded t 200 [(1, s.rd .PSW_CHAIN_BELOW), (1, b)] ∧
      (s.bit .PSW_STAT_USUP = true → s.sent t [.chain .usp 4 0x7F (s.rd .PSW_ID_VID) (2 + (1 + b) * 2 ^ 8 + 0x4E44 * 2 ^ 16)]))) ∧
  (∀ s : State, s.bit .PSW_STAT_USUP = true → s.bit .PSW_STAT_DEPTHOK = false → ∃ t, exec .depthTimeout s = .next t ∧
    t.rd .PSW_CHAIN_DEPTH = 0 ∧ t.rd .PSW_STAT_DEPTHOK = 1 ∧ s.recorded t 199 [(1, s.rd .PSW_CHAIN_DEPTH), (1, 0)] ∧
    s.only t [.PSW_CHAIN_DEPTH, .PSW_STAT_DEPTHOK] [.ev, .out]) ∧
  (∀ s : State, s.bit .PSW_STAT_USUP = false ∨ s.bit .PSW_STAT_DEPTHOK = true → exec .depthTimeout s = .next s) ∧
  (∀ s : State, let msg (p : Port) (kind value : Nat) : Out := .chain p 4 0x7F (s.rd .PSW_ID_VID) (kind + value * 2 ^ 8 + 0x4E44 * 2 ^ 16)
    ∃ t, exec .chainMessagePeriod s = .next t ∧ s.only t [] [.out] ∧
    s.sent t ((if s.bit .PSW_STAT_DSUP = true ∧ s.bit .PSW_STAT_DEPTHOK = true then [msg .edp 1 (s.rd .PSW_CHAIN_DEPTH)] else []) ++
      (if s.bit .PSW_STAT_USUP = true then [msg .usp 2 (1 + if s.bit .PSW_STAT_DSUP then s.rd .PSW_CHAIN_BELOW else 0)] else []))) ∧
  (∀ (x : Tlp) (credit : Bool) (s : State), (s.up 10 = false ∨ x.rx = .usp ∧ s.bit .PSW_STAT_USUP = false ∨
      x.rx = .edp ∧ s.bit .PSW_STAT_DSUP = false ∨ x.rx = .endpoint ∧ s.psw.idpDisabled = true) →
    exec (.tlpForward x credit) s = .next s) ∧
  (∀ (x : Tlp) (credit : Bool) (s : State), s.up 10 = true → s.ingressUp x.rx = true →
    let refused (t : State) : Prop := s.sent t (if x.nonPosted then [.unsupported x.rx x] else []) ∧ s.only t [] [.out, .ev] ∧
      (x.kind ≠ .completion → x.kind ≠ .message → s.raised t 212)
    ∃ t, exec (.tlpForward x credit) s = .next t ∧
    (∀ p, s.way x = .egress p → s.linkUp p = false → x.sound = false → t = s) ∧
    (∀ p, s.way x = .egress p → s.linkUp p = true → x.sound = false → s.sent t [.nop p] ∧ s.only t [] [.out]) ∧
    ((∀ p, s.way x ≠ .egress p) → x.sound = false → t = s) ∧
    (∀ p, s.way x = .egress p → x.sound = true → x.rx ≠ .endpoint → fwdSize p < s.fwdUsed p + x.size → t = s) ∧
    (∀ p, s.way x = .egress p → x.sound = true → (x.rx = .endpoint ∨ s.fwdUsed p + x.size ≤ fwdSize p) →
      (s.linkUp p = false → refused t) ∧
      (s.linkUp p = true → credit = false → t.out = s.out ∧ s.only t [] [.psw] ∧
        (p = .edp → t.psw = { s.psw with down := s.psw.down ++ [x] }) ∧
        (p = .usp → x.rx = .endpoint → t.psw = { s.psw with upOwn := s.psw.upOwn ++ [x] }) ∧
        (p = .usp → x.rx ≠ .endpoint → t.psw = { s.psw with upFwd := s.psw.upFwd ++ [x] })) ∧
      (s.linkUp p = true → credit = true → s.only t [] [.psw, .out] ∧
        (p = .edp → s.sent t ((s.psw.down ++ [x]).map (.tlp .edp)) ∧ t.psw = { s.psw with down := [] }) ∧
        (p = .usp → t.psw.upOwn = [] ∧ t.psw.upFwd = [] ∧
          (x.rx = .endpoint → s.psw.upFwd = [] → s.sent t ((s.psw.upOwn ++ [x]).map (.tlp .usp))) ∧
          (x.rx ≠ .endpoint → s.psw.upOwn = [] → s.sent t ((s.psw.upFwd ++ [x]).map (.tlp .usp)))))) ∧
    (s.way x = .endpoint → x.sound = true → (s.psw.idpDisabled = false → s.sent t [.toEndpoint x] ∧ s.only t [] [.out]) ∧
      (s.psw.idpDisabled = true → refused t)) ∧
    (s.way x = .nowhere ∨ s.way x = .rejected → x.sound = true → refused t) ∧
    (s.way x = .beyond → x.sound = true → s.sent t [.unsupported x.rx x] ∧ s.only t [] [.out]) ∧
    (∀ p r, s.way x = .port p → x.sound = true → x.kind = .cfgRead r → s.sent t [.configured x (s.cfgRead p r)] ∧ s.only t [] [.out]) ∧
    (∀ p r v, s.way x = .port p → x.sound = true → x.kind = .cfgWrite r v → .configured x 0 ∈ t.out ∧
      (r = .busNumbers → (t.psw.port p).pri = bitsN v.toNat 0 8 ∧ (t.psw.port p).sec = bitsN v.toNat 8 8 ∧
        (t.psw.port p).sub = bitsN v.toNat 16 8 ∧ s.raised t 214) ∧
      (r = .memWindow → (t.psw.port p).mem = v.toNat ∧ s.only t [] [.psw, .out]) ∧
      (r = .acsControl → (t.psw.port p).acs = Nat.land v.toNat 0x1D ∧ s.only t [] [.psw, .out]))) ∧
  (∀ (x : Tlp) (s : State), x.rx = .usp →
    (x.kind = .message → s.way x = .egress .edp) ∧
    (x.kind = .memRead ∨ x.kind = .memWrite → s.way x =
      (if s.psw.edp.claims x.addr.toNat then .egress .edp else if s.psw.idp.claims x.addr.toNat then .endpoint else .nowhere)) ∧
    ((∃ r, x.kind = .cfgRead r) ∨ (∃ r v, x.kind = .cfgWrite r v) → let rid := x.dst.toNat
      let bus := rid / 256
      let inside := s.psw.usp.holds bus = true
      (¬ inside → rid % 256 = 0 → s.way x = .port .usp) ∧
      (inside → bus = s.psw.usp.sec → rid % 256 = 0 → s.way x = .port .idp) ∧
      (inside → bus = s.psw.usp.sec → rid % 256 = 8 → s.way x = .port .edp) ∧
      (inside → bus ≠ s.psw.usp.sec → s.psw.edp.holds bus = true → s.way x = .egress .edp) ∧
      (∀ f, inside → bus ≠ s.psw.usp.sec → s.psw.edp.holds bus = false → s.psw.idp.sec ≠ 0 → s.hasFunc f = true → rid = s.funcRid f →
        s.way x = if bus ≤ max s.psw.idp.sec s.psw.idp.sub then .endpoint else .beyond))) ∧
  (∀ (x : Tlp) (s : State), let c := s.psw.edp
    (x.rx = .endpoint → s.way x = .egress .usp) ∧
    (x.rx = .edp → (c.acs.testBit 0 = true → x.kind ≠ .completion → c.holds (x.req.toNat / 256) = false → s.way x = .rejected) ∧
      (c.acs.testBit 0 = false ∨ x.kind = .completion ∨ c.holds (x.req.toNat / 256) = true →
        (x.kind = .message → s.way x = .egress .usp) ∧
        (x.kind = .memRead ∨ x.kind = .memWrite → s.way x =
          if s.psw.idp.claims x.addr.toNat = true ∧ c.acs.testBit 2 = false then .endpoint else .egress .usp) ∧
        (x.kind = .completion → s.way x =
          if s.psw.idp.holds (x.dst.toNat / 256) = true ∧ c.acs.testBit 3 = false then .endpoint else .egress .usp)))) ∧
  (∀ s : State, s.bit .PSW_STAT_USUP = true → s.psw.turnOwn = 0 → s.psw.turnFwd = 0 →
    let own := if s.bit .PSW_CFG_ARBAUTO then 1 else s.rd .PSW_ARB_OWNW
    let fwd := max 1 (if s.bit .PSW_CFG_ARBAUTO then s.rd .PSW_CHAIN_BELOW else s.rd .PSW_ARB_FWDW)
    own ≤ s.psw.upOwn.length → fwd ≤ s.psw.upFwd.length →
    s.sent (State.arbitrateAll (own + fwd) s) ((s.psw.upOwn.take own).map (.tlp .usp) ++ (s.psw.upFwd.take fwd).map (.tlp .usp))) ∧
  (∀ (u : Bool) (c : Byte) (s : State), let p : Port := if u then .usp else .edp
    (s.up 10 = false ∨ s.fwdUsed p + 544 ≤ fwdSize p → exec (.forwardBufferFull u c) s = .next s) ∧
    (s.up 10 = true → fwdSize p < s.fwdUsed p + 544 → ∃ t, exec (.forwardBufferFull u c) s = .next t ∧
      s.recorded t 210 [(1, b2n (!u)), (1, c.toNat)] ∧ s.only t [] [.ev])) ∧
  ∀ (a b c : Byte) (s : State), (s.up 10 = false → exec (.idpBusNumberWrite a b c) s = .next s) ∧
    (s.up 10 = true → ∃ t, exec (.idpBusNumberWrite a b c) s = .next t ∧
    t.psw = { s.psw with idp := { s.psw.idp with pri := a.toNat, sec := b.toNat, sub := c.toNat } } ∧ s.only t [] [.psw, .ev, .free] ∧
    s.raised t 214 ∧ (b.toNat + 1 ≤ c.toNat → s.recorded t 214 [(1, 1), (1, a.toNat), (1, b.toNat), (1, c.toNat)]) ∧
    (c.toNat < b.toNat + 1 → s.raised t 212))

/-- Coder lanes start, take their input and end with their output in buffer memory, and no key command lets a key out.
With step 5 released and the coder not in a soft reset, GO on a lane idle or done starts the job with its status clear
and its first requests raised, or fails it where CLASS is 3 or NBLK is 0; on a running or failed lane it changes
nothing. A job that has its input ends its lane done, or in error where its output is out of reach, with its source
pending; an encode job with CLOSE leaves no unit open. The end of an encode job of class 0 without encryption leaves
each block and its tag 4,160 bytes apart from FRC_LOUT, and the end of a decode job each good block 4,096 bytes apart
and poison where a block failed, with VERR where a check failed. A key command sets BUSY and, while BUSY is set, does
nothing. At its end the slot of a running lane is refused with RESULT 2, a destroy empties the slot, a load takes the
key its record unwraps to or gives RESULT 1 and marks the namespace's key lost, and a generate stores a new key and
its wrapped record; a record past the data space raises event 246. Nothing but frames on the fabric is sent. Choices
of the model it rests on: log entries 6, 9, 87, 102, 109. -/
def Obligations.CoderLanesAndKeysRun : Prop :=
  (∀ (k : Fin 8) (s : State), s.up 5 = true → s.hears selFrc = true → (s.rd .FRC_LSTAT_STATE k = 0 ∨ s.rd .FRC_LSTAT_STATE k = 2) →
    let bad := s.rd .FRC_LCTL_CLASS k = 3 ∨ s.rd .FRC_LBUD_NBLK k = 0
    ∃ t, exec (.frcLaneGo k) s = .next t ∧ s.memSame t ∧
    s.keysBut t (fun x => x.reg ∈ [.FRC_LSTAT_STATE, .FRC_LSTAT_OVER, .FRC_LSTAT_POS, .FRC_LSTAT_PHASEOUT, .FRC_LCNT_NESC, .FRC_LCNT_NSLOT] ∧
      x.i = k) ∧ s.keeps t [.frc, .dma] ∧ (∀ j : Fin 8, j ≠ k → t.lane j = s.lane j) ∧
    (bad → t.rd .FRC_LSTAT_STATE k = 3 ∧ s.keeps t []) ∧
    (¬ bad → t.rd .FRC_LSTAT_STATE k = 1 ∧ t.rd .FRC_LSTAT_OVER k = 0 ∧ t.rd .FRC_LSTAT_POS k = 0 ∧ t.rd .FRC_LSTAT_PHASEOUT k = 0 ∧
      t.rd .FRC_LCNT_NESC k = 0 ∧ t.rd .FRC_LCNT_NSLOT k = 0 ∧ (t.lane k).input = [] ∧
      (s.bit .FRC_CTL_EN = false → t.dma = s.dma) ∧
      (s.bit .FRC_CTL_EN = true → NTab.get 0 (48 + k) t.dma.raised = NTab.get 0 (48 + k) s.dma.raised +
        (min 2 (if s.bit .FRC_LCTL_OP k = true ∧ s.rd .FRC_LCTL_CLASS k ≠ 0
          then max 1 ((slotSize (s.rd .FRC_LCTL_CLASS k) * (s.rd .FRC_LBUD_NBLK k - 1) + 4095) / 4096) else s.rd .FRC_LBUD_NBLK k) - s.laneOut k)))) ∧
  (∀ (k : Fin 8) (s : State), (s.rst.step < 5 ∨ s.hears selFrc = false ∨ s.rd .FRC_LSTAT_STATE k = 1 ∨ s.rd .FRC_LSTAT_STATE k = 3) →
    exec (.frcLaneGo k) s = .next s) ∧
  (∀ (k : Fin 8) (s : State), let goes := s.rd .FRC_LSTAT_STATE k = 1 ∧ s.laneFull k = true
    (¬ goes → exec (.frcJobEnd k) s = .next s) ∧
    (goes → ∃ t, exec (.frcJobEnd k) s = .next t ∧ NSet.has (474 + k) t.ev.edge = true ∧ (t.rd .FRC_LSTAT_STATE k = 2 ∨ t.rd .FRC_LSTAT_STATE k = 3) ∧
      s.keeps t [.ev, .poison, .free, .out] ∧ s.sentOn t [] ∧
      s.keysBut t (fun x => x.reg ∈ [.FRC_LSTAT_STATE, .FRC_LSTAT_OVER, .FRC_LSTAT_POS, .FRC_LSTAT_PHASEOUT, .FRC_LSTAT_VERR, .FRC_LCNT_NESC,
        .FRC_LCNT_NSLOT] ∧ x.i = k) ∧
      (s.bit .FRC_LCTL_OP k = false → t.rd .FRC_LSTAT_STATE k = 2 → t.bit .FRC_LSTAT_OVER k = (s.laneEncode k).2 ∧
        (s.bit .FRC_LCTL_CLOSE k = true → t.rd .FRC_LSTAT_PHASEOUT k = 0)))) ∧
  (∀ (k : Fin 8) (s : State), let n := s.rd .FRC_LBUD_NBLK k
    let out := s.rd .FRC_LOUT_ADDR k
    s.Canonical → s.rd .FRC_LSTAT_STATE k = 1 → s.rd .FRC_LCTL_OP k = 0 → s.rd .FRC_LCTL_CLASS k = 0 → s.bit .FRC_LCTL_ENC k = false →
    n ≤ (s.lane k).input.length → (∀ u ∈ (s.lane k).input, u.1.length = 4096) → n ≤ s.rd .FRC_LBUD_BUDGET k →
    (∀ i, i < n → engineReach (out + 4160 * i) 4128 = true) →
    ∃ t, exec (.frcJobEnd k) s = .next t ∧ NSet.has (474 + k) t.ev.edge = true ∧ t.rd .FRC_LSTAT_STATE k = 2 ∧ t.bit .FRC_LSTAT_OVER k = false ∧
    t.rd .FRC_LSTAT_POS k = n ∧ t.rd .FRC_LCNT_NESC k = 0 ∧
    ∀ i u, i < n → (s.lane k).input[i]? = some u → t.mbs (out + 4160 * i) 4096 = u.1 ∧
      t.mbs (out + 4160 * i + 4096) 12 = leBytes 8 (s.rd .FRC_LLBA_LBA k + i) ++ leBytes 1 (s.rd .FRC_LCTL_NSIDX k) ++ [0] ++
        leBytes 2 (s.rd .FRC_LID_BANDSEQ k)) ∧
  (∀ (k : Fin 8) (s : State), let bs := (s.laneDecode k).1
    let out := s.rd .FRC_LOUT_ADDR k
    s.rd .FRC_LSTAT_STATE k = 1 → s.bit .FRC_LCTL_OP k = true → (s.laneDecode k).2 = false → engineReach out (4096 * bs.length) = true →
    (∀ b, .inl b ∈ bs → b.length = 4096) →
    ∃ t, exec (.frcJobEnd k) s = .next t ∧ NSet.has (474 + k) t.ev.edge = true ∧ t.rd .FRC_LSTAT_STATE k = 2 ∧
    s.memBut t out (4096 * bs.length) ∧
    (∀ i b, bs[i]? = some (.inl b) → t.mbs (out + 4096 * i) 4096 = b) ∧
    (∀ i c, bs[i]? = some (.inr c) → t.poisoned (out + 4096 * i) 4096 = true ∧ (c ≠ 3 → t.rd .FRC_LSTAT_VERR k = 1))) ∧
  (∀ (ns : Byte) (s : State), s.up 5 = true → s.hears selFrc = true → s.bit .FRC_KSTAT_BUSY = false →
    ∀ x ∈ ([(.keyGenerate ns, 1), (.keyLoad ns, 2), (.keyDestroy ns, 3)] : List (Instr × Nat)), ∃ t, exec x.1 s = .next t ∧
    t.rd .FRC_KSTAT_BUSY = 1 ∧ t.frc = { s.frc with kjob := some (x.2, ns.toNat) } ∧ s.only t [.FRC_KSTAT_BUSY] [.frc]) ∧
  (∀ (ns : Byte) (s : State), (s.rst.step < 5 ∨ s.hears selFrc = false ∨ s.bit .FRC_KSTAT_BUSY = true) →
    ∀ c ∈ ([.keyGenerate ns, .keyLoad ns, .keyDestroy ns] : List Instr), exec c s = .next s) ∧
  (∀ s : State, s.frc.kjob = none → exec .keyCommandEnd s = .next s) ∧
  ∀ (op ns : Nat) (s : State), let a := s.rd .FRC_KADDR_ADDR
    s.frc.kjob = some (op, ns) → ∃ t, exec .keyCommandEnd s = .next t ∧ t.rd .FRC_KSTAT_BUSY = 0 ∧ t.frc.kjob = none ∧
    NSet.has 482 t.ev.edge = true ∧ s.sentOn t [] ∧ s.regsBut t [.FRC_KSTAT_BUSY, .FRC_KSTAT_RESULT] ∧ s.keeps t [.frc, .ev, .poison, .free, .out] ∧
    (s.keyBusy ns = true → t.rd .FRC_KSTAT_RESULT = 2 ∧ t.frc.keys = s.frc.keys ∧ s.memSame t) ∧
    (s.keyBusy ns = false → op = 3 → t.rd .FRC_KSTAT_RESULT = 0 ∧ t.key ns = [] ∧ s.memSame t) ∧
    (s.keyBusy ns = false → op ≠ 3 → engineReach a 72 = false → t.frc.keys = s.frc.keys ∧ s.memSame t ∧
      (bufLo ≤ a → a < bufEnd → bufHi < a + 72 → s.raised t 246)) ∧
    (s.keyBusy ns = false → op = 2 → engineReach a 72 = true → s.memSame t ∧
      (∀ key, keyUnwrap Config.wrapKey (s.mbs a 72) = some key → t.rd .FRC_KSTAT_RESULT = 0 ∧ t.key ns = key) ∧
      (keyUnwrap Config.wrapKey (s.mbs a 72) = none → t.rd .FRC_KSTAT_RESULT = 1 ∧ t.frc.keys = s.frc.keys ∧ NSet.has ns t.frc.lost = true)) ∧
    (s.keyBusy ns = false → op = 1 → engineReach a 72 = true → t.rd .FRC_KSTAT_RESULT = 0 ∧ (t.key ns).length = 64 ∧
      let w := keyWrap Config.wrapKey (t.key ns)
      t.mbs a w.length = w ∧ s.memBut t a w.length)

/-- A hart's access is let through, faults or completes as Table 13-1 gives, reads and writes registers, and meets
parity by Table 13-2. For a hart that runs, an access Table 13-1 does not allow raises event 281 (and 246 outside the
data space) and faults, and one of another width than its register 286; what PMP denies or is misaligned faults. The
fault writes mcause, mtval, mepc and mstatus. MRAM and context RAM are read and written in place. A load of a register
returns its fields, 0 where they are write only or its block resets, and where the register pops, what its popping
read returns; a store is the register write and, of a field with a row, that row. A cached load or fetch returns the
bytes cache or memory holds; a poisoned line raises 280 and faults, marking a line whose check fails. LR reserves its
line and SC stores only with that reservation. A store, AMO or successful SC puts its bytes where they are read and
changes no other byte but of clean lines an engine has overwritten. Parity: clean data is filled again (276), dirty
data goes to memory flagged POISON (277), so a load faults and a store is merged; a failed tag drops the line (278);
an instruction line is fetched again (279). User mode's illegal accesses to CSRs and foreign instructions trap. The
RISC-V numbers and PMP rules are presumed. Choices of the model: log entries 6, 29, 30, 31, 102, 110. -/
def Obligations.HartAccessesFollowTheCoreMap : Prop :=
  (∀ (c : Hart) (k : Access) (a n : Nat) (v mepc : Word) (p : Parity) (e : Ecc) (s : State), s.hartUp c = true →
    let may := s.pmpAllows c (s.effUser c k) (pmpNeed k) a n
    let wide := regionOf a n = .registers → widthOk a n = true
    (tableAllows k a n = false → ∃ t, exec (.hartMemoryAccess c k a n v mepc p e) s = .next t ∧
      s.sent t [.hartFault c (accessFault k) a] ∧ s.Trapped t c (accessFault k) a mepc.toNat ∧ s.raised t 281 ∧ s.only t [] [.ev, .out, .l2] ∧
      (regionOf a n ≠ .outside → s.recorded t 281 [(1, c), (8, a), (1, accessType k), (8, mepc.toNat)]) ∧
      (regionOf a n = .outside → s.raised t 246)) ∧
    (tableAllows k a n = true → regionOf a n = .registers → widthOk a n = false → ∃ t, exec (.hartMemoryAccess c k a n v mepc p e) s = .next t ∧
      s.sent t [.hartFault c (accessFault k) a] ∧ s.Trapped t c (accessFault k) a mepc.toNat ∧ s.recorded t 286 [(1, c), (8, a), (1, n)] ∧
      s.only t [] [.ev, .out, .l2]) ∧
    (tableAllows k a n = true → wide → may = false → ∃ t, exec (.hartMemoryAccess c k a n v mepc p e) s = .next t ∧
      s.sent t [.hartFault c (accessFault k) a] ∧ s.Trapped t c (accessFault k) a mepc.toNat ∧ s.only t [] [.out, .l2]) ∧
    (tableAllows k a n = true → wide → may = true → aligned k a n = false → ∃ t, exec (.hartMemoryAccess c k a n v mepc p e) s = .next t ∧
      s.sent t [.hartFault c (misaligned k) a] ∧ s.Trapped t c (misaligned k) a mepc.toNat ∧ s.only t [] [.out, .l2]) ∧
    (tableAllows k a n = true → (regionOf a n = .mram ∨ regionOf a n = .context) → may = true → a % n = 0 →
      ∃ t, exec (.hartMemoryAccess c k a n v mepc p e) s = .next t ∧ s.regsBut t [] ∧ s.keeps t [.out, .free] ∧
      (k = .load → s.sentOn t [.loaded c (s.mrd n a)] ∧ s.memSame t) ∧
      (k = .store → s.sentOn t [] ∧ t.mbs a n = leBytes n v.toNat ∧ s.memBut t a n))) ∧
  (∀ (k : Access) (a n : Nat), 0 < n → tableAllows k a n = true →
    (k ∈ [.lr, .sc, .amo] → inSram a n = true ∨ inBuf a n = true) ∧
    (k = .fetch → a + n ≤ 0x20000 ∨ inSram a n = true ∨ inBuf a n = true) ∧
    (k = .store → 0x20000 < a + n ∧ ¬ (a < 0x01010000 ∧ 0x0100FF00 < a + n))) ∧
  (∀ (k : Access) (a n : Nat), (aligned k a n = false ↔ ((k = .fetch ∧ a % 2 ≠ 0) ∨ (k ∈ [.lr, .sc, .amo] ∧ a % n ≠ 0) ∨
    (k ∈ [.load, .store] ∧ (regionOf a n).cached = false ∧ a % n ≠ 0)))) ∧
  (∀ (c need a n : Nat) (user : Bool) (s : State), (∀ i, i < 16 → pmpMode (s.pmpCfg c i) = 0) → s.pmpAllows c user need a n = !user) ∧
  (∀ (c : Hart) (a n : Nat) (v mepc : Word) (p : Parity) (e : Ecc) (s : State), let u := s.firmwareTag false
    s.hartUp c = true → regionOf a n = .registers → (blkAt a).isSome = true → widthOk a n = true → a % n = 0 →
    s.pmpAllows c (s.effUser c .load) 1 a n = true →
    (∀ x, (s.softBusy a = true ∧ x = 0 ∨ s.softBusy a = false ∧ (∃ m, winMem a = some m ∧ x = u.readWin a n m) ∨
        s.softBusy a = false ∧ winMem a = none ∧ (fieldsAt a).findSome? (fun f => popRow f.1) = none ∧ x = u.viewReg a n) →
      ∃ t, exec (.hartMemoryAccess c .load a n v mepc p e) s = .next t ∧ s.sentOn t [.loaded c x] ∧ s.only t [] [.out, .free]) ∧
    (∀ (r : Reg) (f : Nat → Instr) (i j d : Nat), (r, f) ∈ ([(.HSE_DONE_CMDTAG, fun i => .hseDoneRead (Fin.ofNat 24 i)),
        (.HIF_NEXT_CMDTAG, fun _ => .hifNextRead), (.HIF_XDONE_CMDTAG, fun _ => .hifXdoneRead),
        (.HL_RESP_DATA, fun i => .hlRespRead (Fin.ofNat 4 i)), (.EVC_CLAIM_SRC, fun i => .evcClaimRead (Fin.ofNat 8 i))] : List (Reg × (Nat → Instr))) →
      s.softBusy a = false → winMem a = none → (⟨r, i, j⟩, d) ∈ fieldsAt a → ∃ w, exec (f i) u = .next w ∧
      exec (.hartMemoryAccess c .load a n v mepc p e) s = .next { w with out := w.out ++ [.loaded c (poppedValue u w)] })) ∧
  (∀ (a n : Nat) (s : State), ((∀ f ∈ fieldsAt a, f.1.reg.info.acc = .WO) → s.viewReg a n = 0) ∧
    (∀ k : RKey, fieldsAt a = [(k, 0)] → k.reg.info.acc = .RW → s.viewReg a n = s.rd k.reg k.i k.j * 2 ^ k.reg.info.lo % 2 ^ (8 * n))) ∧
  (∀ (c : Hart) (a n : Nat) (v mepc : Word) (p : Parity) (e : Ecc) (s : State), let u := s.firmwareTag false
    s.hartUp c = true → regionOf a n = .registers → (blkAt a).isSome = true → widthOk a n = true → a % n = 0 →
    s.pmpAllows c (s.effUser c .store) 2 a n = true →
    (s.softBusy a = true → exec (.hartMemoryAccess c .store a n v mepc p e) s = .next u) ∧
    (winMem a = none → (∀ f ∈ fieldsAt a, f.1.reg ∉ rowRegs) →
      exec (.hartMemoryAccess c .store a n v mepc p e) s = exec (.registerWrite a (n == 8) v) u)) ∧
  (∀ (c : Hart) (v mepc : Word) (p : Parity) (e : Ecc) (s : State), s.hartUp c = true → let w : W32 := v.truncate 32
    ∀ x ∈ ([(Blk.RSTC.base + 0x8, .rstOutPulse w), (Blk.EVC.base + 0x820 + 0x40 * c.val, .evcRaiseWrite c w), (Blk.EVC.base + 0x5004 + 0x10 * c.val, .evcClaimComplete c w),
        (Blk.HIF.base + 0x28, .hifCplWrite w), (Blk.HIF.base + 0x58, .hifXferWrite (w.truncate 17)), (Blk.HLINK.base, .hlCmdWrite 0 w),
        (Blk.SPN.base + 0x4, .spnTgtWrite (w.truncate 16)), (Blk.AGE.base + 0xC, .ageVoutWrite w)] : List (Nat × Instr)),
    s.pmpAllows c (s.effUser c .store) 2 x.1 4 = true →
    exec (.hartMemoryAccess c .store x.1 4 v mepc p e) s = exec x.2 (s.firmwareTag false)) ∧
  (∀ (c : Hart) (a n : Nat) (v mepc : Word) (e : Ecc) (s : State), s.hartUp c = true → (inSram a n = true ∨ inBuf a n = true) →
    let u := s.memoryRead a n e
    let kept (t : State) : Prop := u.regsBut t [.L2_HITCNT_COUNT, .L2_MISSCNT_COUNT] ∧ u.keeps t [.l2, .out, .poison, .free]
    let may (k : Access) : Prop := s.pmpAllows c (s.effUser c k) (pmpNeed k) a n = true
    (∀ k ∈ ([.load, .fetch, .lr, .amo] : List Access), may k → aligned k a n = true → u.meets c k a n = true →
      ∃ t, exec (.hartMemoryAccess c k a n v mepc .none e) s = .next t ∧ s.sent t [.hartFault c (accessFault k) a] ∧
      s.Trapped t c (accessFault k) a mepc.toNat ∧ u.recorded t 280 [(1, c), (8, a), (8, mepc.toNat)] ∧ u.only t [] [.ev, .out, .l2]) ∧
    (may .load → u.meets c .load a n = false → ∃ t, exec (.hartMemoryAccess c .load a n v mepc .none e) s = .next t ∧
      s.sentOn t [.loaded c (leNat (s.peeks a n))] ∧ kept t) ∧
    (may .fetch → a % 2 = 0 → u.meets c .fetch a n = false → ∃ t, exec (.hartMemoryAccess c .fetch a n v mepc .none e) s = .next t ∧
      s.sentOn t [.fetched c ((List.range n).map (fun i => s.fetchByte c (a + i)))] ∧ kept t) ∧
    (may .lr → a % n = 0 → u.meets c .lr a n = false → ∃ t, exec (.hartMemoryAccess c .lr a n v mepc .none e) s = .next t ∧
      s.sentOn t [.loaded c (leNat (s.peeks a n))] ∧ kept t ∧ NTab.get 0 c t.l2.resv = resvLine a) ∧
    (may .amo → a % n = 0 → u.meets c .amo a n = false → ∃ t, exec (.hartMemoryAccess c .amo a n v mepc .none e) s = .next t ∧
      s.sentOn t [.loaded c (leNat (s.peeks a n))] ∧ kept t) ∧
    (may .sc → a % n = 0 → ∃ t, exec (.hartMemoryAccess c .sc a n v mepc .none e) s = .next t ∧ kept t ∧ NTab.get 0 c t.l2.resv = 0 ∧
      (NTab.get 0 c s.l2.resv = resvLine a → s.sentOn t [.loaded c 0]) ∧
      (NTab.get 0 c s.l2.resv ≠ resvLine a → s.sentOn t [.loaded c 1] ∧ s.memSame t)) ∧
    (may .store → ∃ t, exec (.hartMemoryAccess c .store a n v mepc .none e) s = .next t ∧ kept t ∧ s.sentOn t []) ∧
    (∀ k ∈ ([.store, .amo, .sc] : List Access), may k → aligned k a n = true → u.meets c k a n = false → s.CacheWf → 0 < n → n ≤ 8 →
      (k = .sc → NTab.get 0 c s.l2.resv = resvLine a) → ∃ t, exec (.hartMemoryAccess c k a n v mepc .none e) s = .next t ∧
      t.peeks a n = leBytes n v.toNat ∧ ∀ x, (x < a ∨ a + n ≤ x) → s.freshAt x → t.peek x = s.peek x) ∧
    (∀ k ∈ ([.load, .fetch, .lr] : List Access), may k → aligned k a n = true → u.meets c k a n = false → s.CacheWf →
      ∃ t, exec (.hartMemoryAccess c k a n v mepc .none e) s = .next t ∧ ∀ x, s.freshAt x → t.peek x = s.peek x)) ∧
  (∀ (c : Hart) (i : Nat) (s : State), NTab.get [] (i / 64) (s.hart c).icache = [] → s.fetchByte c i = s.peek i) ∧
  (∀ (c : Hart) (k : Access) (a n : Nat) (s : State), (s.meets c k a n = true → k ≠ .store ∧ k ≠ .sc ∧ ∃ x ∈ linesOf a n,
      NSet.has x s.poison = true ∧ s.lineAt (64 * x) = none) ∧
    (k ∈ [.load, .lr, .amo] → (∃ x ∈ linesOf a n, NSet.has x s.poison = true ∧ s.lineAt (64 * x) = none) → s.meets c k a n = true)) ∧
  (∀ (a n : Nat) (e : Ecc) (s : State), let u := s.memoryRead a n e
    s.memSame u ∧ u.l2 = s.l2 ∧ u.out = s.out ∧ (e = .clean → u = s) ∧
    ∀ k, (linesOf a n).find? (fun k => (s.lineAt (64 * k)).isNone) = some k → inBuf (64 * k) 64 = true → NSet.has k s.poison = false → e = .multi →
      NSet.has k u.poison = true ∧ s.raised u 245 ∧ u.meetsPoison a n = true) ∧
  (∀ (c : Hart) (a n : Nat) (v mepc : Word) (l : Line) (s : State), let la := lineAddr a
    s.hartUp c = true → (inSram a n = true ∨ inBuf a n = true) → 0 < n → n ≤ 8 → a % 64 + n ≤ 64 → s.CacheWf →
    s.pmpAllows c (s.effUser c .load) 1 a n = true → s.pmpAllows c (s.effUser c .store) 2 a n = true →
    (∀ l1 : Bool, s.lineAt la = some l → (l1 = true → NSet.has (la / 64) (s.hart c).dcache = true) →
      (l.dirty = false → NSet.has (la / 64) s.poison = false →
        ∃ t, exec (.hartMemoryAccess c .load a n v mepc (.data l1) .clean) s = .next t ∧ s.sentOn t [.loaded c (leNat (s.mbs a n))] ∧
        s.recorded t 276 [(1, b2n l1), (1, if l1 then c.val else 8), (8, la)] ∧ t.rd .L2_PERR_DATAERR = min 65535 (s.rd .L2_PERR_DATAERR + 1) ∧
        t.rd .L2_PERRADDR_ADDR = la ∧ s.regsBut t [.L2_HITCNT_COUNT, .L2_MISSCNT_COUNT, .L2_PERR_DATAERR, .L2_PERRADDR_ADDR]) ∧
      (l.dirty = true →
        (∃ t, exec (.hartMemoryAccess c .load a n v mepc (.data l1) .clean) s = .next t ∧ s.sentOn t [.hartFault c 5 a] ∧ s.raised t 277 ∧
          s.raised t 280 ∧ t.rd .L2_STAT_LOST = 1 ∧ NSet.has (la / 64) t.poison = true ∧ t.mbs la 64 = l.data ∧ s.memBut t la 64 ∧
          t.lineAt la = none) ∧
        ∃ t, exec (.hartMemoryAccess c .store a n v mepc (.data l1) .clean) s = .next t ∧ s.sentOn t [] ∧
          s.recorded t 277 [(1, b2n l1), (8, la)] ∧ t.rd .L2_STAT_LOST = 1 ∧ NSet.has (la / 64) t.poison = true ∧
          t.mbs a n = leBytes n v.toNat ∧ s.memBut t la 64 ∧ t.lineAt la = none)) ∧
    (∀ way : Fin 16, s.lineAt la = some l → l.way = way → NSet.has (la / 64) s.poison = false →
      ∃ t, exec (.hartMemoryAccess c .load a n v mepc (.tag way) .clean) s = .next t ∧ s.sentOn t [.loaded c (leNat (s.mbs a n))] ∧
      s.recorded t 278 [(2, setOf a), (1, way), (1, b2n l.dirty)] ∧ t.rd .L2_PERR_TAGERR = min 65535 (s.rd .L2_PERR_TAGERR + 1) ∧
      t.rd .L2_PERRADDR_ADDR = setOf a * 64 + way ∧ (l.dirty = true → t.rd .L2_STAT_LOST = 1)) ∧
    (s.pmpAllows c (s.effUser c .fetch) 4 a n = true → a % 2 = 0 → NTab.get [] (a / 64) (s.hart c).icache ≠ [] → NSet.has (a / 64) s.poison = false →
      ∃ t, exec (.hartMemoryAccess c .fetch a n v mepc .icache .clean) s = .next t ∧ s.sentOn t [.fetched c (s.peeks a n)] ∧
      s.recorded t 279 [(1, c), (8, a)]) ∧
    (s.l2On = true → s.lineAt la = none → s.victimOf la = some l → l.dirty = true → NSet.has (la / 64) s.poison = false →
      ∃ t, exec (.hartMemoryAccess c .load a n v mepc .victim .clean) s = .next t ∧ s.sentOn t [.loaded c (leNat (s.mbs a n))] ∧
      s.recorded t 277 [(1, 0), (8, l.addr)] ∧ t.rd .L2_STAT_LOST = 1 ∧ NSet.has (l.addr / 64) t.poison = true ∧ t.mbs l.addr 64 = l.data)) ∧
  (∀ (c : Hart) (k : Access) (a n : Nat) (v mepc : Word) (p : Parity) (e : Ecc) (pre : List HartOp) (s : State),
    (s.hartUp c = false → exec (.hartMemoryAccess c k a n v mepc p e pre) s = .next s) ∧
    (s.hartUp c = true → let u := s.hartOps c pre
      u.hartUp c = true ∧ s.only u [] [.l2, .out, .free] ∧ u.l2.lines = s.l2.lines ∧
      exec (.hartMemoryAccess c k a n v mepc p e pre) s = exec (.hartMemoryAccess c k a n v mepc p e) u)) ∧
  ∀ (c : Hart) (s : State), (∀ i : W32, ∃ tv pc, s.Trapped (s.hartOps c [.foreign i]) c 2 tv pc) ∧
    (s.hartOps c [.fenceI]).hart c = { s.hart c with icache := [] } ∧
    ((s.hart c).user = false →
      s.hartOps c [.csrRead 0xC01] = s.emit (.loaded c (s.rd .EVC_MTIME_MTIME)) ∧ s.hartOps c [.csrRead 0xF14] = s.emit (.loaded c c) ∧
      (∀ v : Word, bitsN v.toNat 4 2 ≠ 2 → (s.hartOps c [.csrWrite 0x30A v]).csr c csrMenvcfg = v.toNat) ∧
      (∀ (i : Fin 16) (v : Word), s.pmpaddrLocked c i = false →
        (s.hartOps c [.csrWrite (0x3B0 + BitVec.ofNat 12 i) v]).csr c (0x3B0 + i) = v.toNat % 2 ^ 54) ∧
      ((s.hartOps c [.mret]).hart c).user = (bitsN (s.csr c csrMstatus) 11 2 == 0)) ∧
    ((s.hart c).user = true → (∃ tv pc, s.Trapped (s.hartOps c [.mret]) c 2 tv pc) ∧
      (∀ v : Word, ∃ tv pc, s.Trapped (s.hartOps c [.csrWrite 0x30A v]) c 2 tv pc) ∧
      ((s.csr c csrMcounteren).testBit 1 = true → s.hartOps c [.csrRead 0xC01] = s.emit (.loaded c (s.rd .EVC_MTIME_MTIME))) ∧
      ((s.csr c csrMcounteren).testBit 1 = false → ∃ tv pc, s.Trapped (s.hartOps c [.csrRead 0xC01]) c 2 tv pc))

/-- An access to an unassigned range of the register region faults whatever its width, and raises event 281. For a
hart that runs, every kind of access, every width and every address of the register region that no block of the
register map holds: HART_MEMORY_ACCESS answers a next state in which the hart has taken the access fault of that kind
of access (load, store or AMO, or instruction) with the address, event 281 is raised, and nothing else has changed but
the registers of that exception. What the hart ran before the access that has no row is done first. -/
def Obligations.UnassignedRegisterRangesFault : Prop :=
  ∀ (c : Hart) (k : Access) (a n : Nat) (v mepc : Word) (p : Parity) (e : Ecc) (pre : List HartOp) (s : State), s.hartUp c = true → 0x10000000 ≤ a →
    a < 0x12000000 → blkAt a = none → let u := s.hartOps c pre
    ∃ t, exec (.hartMemoryAccess c k a n v mepc p e pre) s = .next t ∧ u.sent t [.hartFault c (accessFault k) a] ∧
    u.Trapped t c (accessFault k) a mepc.toNat ∧ u.raised t 281 ∧ u.only t [] [.ev, .out, .l2]

/-- Cache-management instructions, range operations, the drain and the locks act on every line as R358 to R362 give.
Of a well-formed cache in use with any lines, cbo.clean writes its line back if dirty and keeps it, cbo.flush writes
it back and drops it, cbo.inval drops it, and no other line or byte changes; user mode needs CBCFE or CBIE, and CBIE
01b makes cbo.inval a flush, else it is an illegal instruction; without PMP rights it is an access fault; with the
cache out of use they do nothing. A GO not refused clears the counts and acts on every line in range, skipping those
in a locked way without LOCKED_TOO and counting dirty lines that an invalidate discards; with the cache disabled it
ends at once with event 284. A refused GO sets INVREF and raises 283. EN 0 starts a drain while a line is dirty, waits
for a range operation's end, and else empties and disables the cache; the drain's end writes every dirty line back,
empties and disables it with event 285. EN 1 while draining sets ENREF. A lock of more than 12 ways sets LOCKREF and
raises 282, else it sets WAYS. Every command of the control complex keeps the cache well formed, as reset leaves it.
Choices of the model it rests on: log entries 6, 31, 32, 80, 81, 102, 110. -/
def Obligations.TheSharedCacheIsManagedByItsRules : Prop :=
  (∀ (c : Hart) (l : Line) (a : Nat) (s : State), s.hartUp c = true → s.l2On = true → s.CacheWf → l ∈ s.l2.lines → l.addr = lineAddr a →
    s.cboAllowed c a = true → ∀ x ∈ ([(.cboClean c a, .clean), (.cboFlush c a, .flush), (.cboInval c a, .inval)] : List (Instr × LineOp)),
    ∀ op, s.cboOp c x.2 = some op → ∃ t, exec x.1 s = .next t ∧ s.regsBut t [] ∧ s.keeps t [.l2, .poison, .out, .free] ∧ s.sentOn t [] ∧
    s.memBut t l.addr 64 ∧ t.mbs l.addr 64 = (if op ≠ .inval ∧ l.dirty = true then l.data else s.mbs l.addr 64) ∧
    (∀ y, y ∈ t.l2.lines ↔ (y ∈ s.l2.lines ∧ y ≠ l) ∨ (op = .clean ∧ y = { l with dirty := false })) ∧
    (op ≠ .clean → ∀ d : Hart, NSet.has (l.addr / 64) (t.hart d).dcache = false)) ∧
  (∀ (c : Hart) (a : Nat) (s : State), s.hartUp c = true → ∀ x ∈ ([(.cboClean c a, .clean), (.cboFlush c a, .flush), (.cboInval c a, .inval)] : List (Instr × LineOp)),
    (s.cboOp c x.2 = none → ∃ t tv pc, exec x.1 s = .next t ∧ s.Trapped t c 2 tv pc ∧ s.only t [] [.l2, .out, .free] ∧ s.sent t [.hartFault c 2 tv]) ∧
    (s.cboOp c x.2 ≠ none → s.cboAllowed c a = false → ∃ t pc, exec x.1 s = .next t ∧ s.Trapped t c 7 a pc ∧ s.only t [] [.l2, .out, .free] ∧
      s.sent t [.hartFault c 7 a]) ∧
    (s.cboOp c x.2 ≠ none → s.cboAllowed c a = true → s.l2On = false ∨ s.lineAt (lineAddr a) = none → exec x.1 s = .next s)) ∧
  (∀ (c : Hart) (op : LineOp) (s : State), let e := s.csr c csrMenvcfg
    ((s.hart c).user = false → s.cboOp c op = some op) ∧
    ((s.hart c).user = true → s.cboOp c op = if op = .inval then (if bitsN e 4 2 = 0 then none else if bitsN e 4 2 = 1 then some .flush else some .inval)
      else if e.testBit 6 then some op else none)) ∧
  (∀ (c : Hart) (a : Nat) (p : Parity) (pre : List HartOp) (s : State), ∀ f ∈ ([(.clean, fun p pre => .cboClean c a p pre),
      (.flush, fun p pre => .cboFlush c a p pre), (.inval, fun p pre => .cboInval c a pre p)] : List (LineOp × (Parity → List HartOp → Instr))),
    (s.hartUp c = false → exec (f.2 p pre) s = .next s) ∧ (s.hartUp c = true → exec (f.2 p pre) s = exec (f.2 p []) (s.hartOps c pre)) ∧
    (s.hartUp c = true → s.l2On = true → s.cboOp c f.1 ≠ none → s.cboAllowed c a = true →
      exec (f.2 p []) s = exec (f.2 .none []) (s.parityError c a p .clean))) ∧
  (∀ (v : W32) (s : State) (x : Instr), let op := bitsN v.toNat 1 2
    let lo := s.rd .L2_INVBASE_BASE / 64 * 64
    let inside (l : Line) : Bool := decide (lo ≤ l.addr) && decide (l.addr < lo + 64 * s.rd .L2_INVLEN_LEN)
    let locked (l : Line) : Bool := (s.rd .L2_LOCK_WAYS).testBit l.way && !v.toNat.testBit 3
    let taken (l : Line) : Bool := inside l && !locked l
    (x = .rangeClean v ∧ op = 0 ∨ x = .rangeCleanInvalidate v ∧ op = 1 ∨ x = .rangeInvalidate v ∧ op = 2) →
    s.up 7 = true → v.toNat.testBit 0 = true → s.rangeRefused op = none → s.bit .L2_STAT_ENABLED = true → s.CacheWf →
    ∃ t, exec x s = .next t ∧
      (∀ y, y ∈ t.l2.lines ↔ (y ∈ s.l2.lines ∧ taken y = false) ∨ (op = 0 ∧ ∃ l ∈ s.l2.lines, taken l = true ∧ y = { l with dirty := false })) ∧
      t.rd .L2_INVCNT_SKIPPED = min 65535 ((s.l2.lines.filter (fun l => inside l && locked l)).length) ∧
      t.rd .L2_INVCNT_DISCARDED = (if op = 2 then min 65535 ((s.l2.lines.filter (fun l => taken l && l.dirty)).length) else 0) ∧
      (∀ l ∈ s.l2.lines, taken l = true → l.dirty = true → op ≠ 2 → t.mbs l.addr 64 = l.data) ∧
      (∀ y, (∀ l ∈ s.l2.lines, taken l = true → l.dirty = true → op ≠ 2 → y < l.addr ∨ l.addr + 64 ≤ y) → t.mb y = s.mb y)) ∧
  (∀ (v : W32) (errs : List WalkError) (s : State), let op := bitsN v.toNat 1 2
    ∀ x ∈ ([(0, .rangeClean v errs), (1, .rangeCleanInvalidate v errs), (2, .rangeInvalidate v errs)] : List (Nat × Instr)),
    (s.rst.step < 7 ∨ op ≠ x.1 → exec x.2 s = .next s) ∧ (s.up 7 = true → op = x.1 → ∃ t, exec x.2 s = .next t ∧
    s.regsBut t [.L2_INVR_OP, .L2_INVR_LOCKED_TOO, .L2_STAT_INVREF, .L2_STAT_LOST, .L2_INVCNT_SKIPPED, .L2_INVCNT_DISCARDED, .L2_INVSTAT_BUSY,
      .L2_INVSTAT_DONE, .L2_PERR_TAGERR, .L2_PERR_DATAERR, .L2_PERRADDR_ADDR, .L2_HITCNT_COUNT, .L2_MISSCNT_COUNT] ∧
    s.keeps t [.l2, .poison, .ev, .out, .free] ∧ s.sentOn t [] ∧ t.rd .L2_INVR_OP = op ∧ t.rd .L2_INVR_LOCKED_TOO = bitsN v.toNat 3 1 ∧
    (v.toNat.testBit 0 = false → s.only t [.L2_INVR_OP, .L2_INVR_LOCKED_TOO] []) ∧
    (∀ cause, v.toNat.testBit 0 = true → s.rangeRefused op = some cause → t.rd .L2_STAT_INVREF = 1 ∧ s.recorded t 283 [(1, cause)] ∧
      t.l2 = s.l2 ∧ s.memSame t) ∧
    (v.toNat.testBit 0 = true → s.rangeRefused op = none → s.bit .L2_STAT_ENABLED = true → t.rd .L2_INVSTAT_BUSY = 1 ∧
      t.l2.range = some op) ∧
    (v.toNat.testBit 0 = true → s.rangeRefused op = none → s.bit .L2_STAT_ENABLED = false → t.rd .L2_INVSTAT_DONE = 1 ∧
      t.bit .L2_INVSTAT_BUSY = false ∧ s.recorded t 284 [(1, op), (2, 0), (2, 0), (4, 0)] ∧ t.l2 = s.l2 ∧ s.memSame t))) ∧
  (∀ (v : W32) (s : State), s.rst.step < 7 ∨ s.rangeRefused (bitsN v.toNat 1 2) = none → exec (.rangeOpRefused v) s = .next s) ∧
  (∀ (us : W32) (errs : List WalkError) (s : State), (s.l2.range = none → exec (.rangeOpDone us) s = .next s) ∧
    (s.rst.step < 7 ∨ s.bit .L2_STAT_ENABLED = false ∨ s.bit .L2_STAT_DRAINING = true → exec .l2Disable s = .next s) ∧
    (s.bit .L2_STAT_DRAINING = false ∨ s.bit .L2_INVSTAT_BUSY = true → exec (.l2DrainDone us errs) s = .next s) ∧
    (s.rst.step < 7 → exec .l2Enable s = .next s ∧ ∀ v, exec (.l2LockWrite v) s = .next s)) ∧
  (∀ (v : W32) (cause : Nat) (s : State), let op := bitsN v.toNat 1 2
    s.up 7 = true → v.toNat.testBit 0 = true → s.rangeRefused op = some cause → ∃ t, exec (.rangeOpRefused v) s = .next t ∧
    t.rd .L2_STAT_INVREF = 1 ∧ s.recorded t 283 [(1, cause)] ∧ s.only t [.L2_STAT_INVREF, .L2_INVR_OP, .L2_INVR_LOCKED_TOO] [.ev]) ∧
  (∀ (op : Nat) (s : State), (s.rangeRefused op ≠ none ↔
    (s.bit .L2_INVSTAT_BUSY = true ∨ s.bit .L2_STAT_DRAINING = true ∨ op = 3 ∨ s.rd .L2_INVLEN_LEN = 0))) ∧
  (∀ (us : W32) (op : Nat) (s : State), s.l2.range = some op → ∃ t, exec (.rangeOpDone us) s = .next t ∧ t.rd .L2_INVSTAT_BUSY = 0 ∧
    t.rd .L2_INVSTAT_DONE = 1 ∧ t.l2.range = none ∧
    s.recorded t 284 [(1, op), (2, s.rd .L2_INVCNT_SKIPPED), (2, s.rd .L2_INVCNT_DISCARDED), (4, us.toNat)] ∧
    s.only t [.L2_INVSTAT_BUSY, .L2_INVSTAT_DONE, .L2_STAT_DRAINING, .L2_STAT_ENABLED] [.l2, .ev] ∧
    (s.l2.off = false → s.only t [.L2_INVSTAT_BUSY, .L2_INVSTAT_DONE] [.l2, .ev] ∧ t.l2 = { s.l2 with range := none }) ∧
    (s.l2.off = true → t.l2.off = false ∧
      ((∀ l ∈ s.l2.lines, l.dirty = false) → t.rd .L2_STAT_ENABLED = 0 ∧ t.l2.lines = []) ∧
      ((∃ l ∈ s.l2.lines, l.dirty = true) → t.rd .L2_STAT_DRAINING = 1 ∧ t.l2.lines = s.l2.lines))) ∧
  (∀ s : State, s.up 7 = true → s.bit .L2_STAT_ENABLED = true → s.bit .L2_STAT_DRAINING = false → ∃ t, exec .l2Disable s = .next t ∧
    t.rd .L2_CTL_EN = 0 ∧ s.only t [.L2_CTL_EN, .L2_STAT_DRAINING, .L2_STAT_ENABLED] [.l2] ∧
    ((∃ l ∈ s.l2.lines, l.dirty = true) → t.rd .L2_STAT_DRAINING = 1 ∧ t.bit .L2_STAT_ENABLED = true ∧ t.l2 = { s.l2 with off := false }) ∧
    ((∀ l ∈ s.l2.lines, l.dirty = false) → s.bit .L2_INVSTAT_BUSY = true → t.bit .L2_STAT_ENABLED = true ∧ t.l2 = { s.l2 with off := true }) ∧
    ((∀ l ∈ s.l2.lines, l.dirty = false) → s.bit .L2_INVSTAT_BUSY = false → t.bit .L2_STAT_DRAINING = false ∧ t.rd .L2_STAT_ENABLED = 0 ∧
      t.l2.lines = [] ∧ ∀ d : Hart, (t.hart d).dcache = [])) ∧
  (∀ (us : W32) (s : State), s.bit .L2_STAT_DRAINING = true → s.bit .L2_INVSTAT_BUSY = false → ∃ t, exec (.l2DrainDone us) s = .next t ∧
    t.l2.lines = [] ∧ (∀ d : Hart, (t.hart d).dcache = []) ∧ t.rd .L2_STAT_DRAINING = 0 ∧ t.rd .L2_STAT_ENABLED = 0 ∧
    s.recorded t 285 [(4, (s.l2.lines.filter (fun l => l.dirty)).length), (4, us.toNat)] ∧
    s.regsBut t [.L2_STAT_DRAINING, .L2_STAT_ENABLED] ∧ s.keeps t [.l2, .ev, .poison, .out, .free] ∧ s.sentOn t [] ∧
    (s.CacheWf → (∀ l ∈ s.l2.lines, l.dirty = true → t.mbs l.addr 64 = l.data) ∧
      ∀ y, (∀ l ∈ s.l2.lines, l.dirty = true → y < l.addr ∨ l.addr + 64 ≤ y) → t.mb y = s.mb y)) ∧
  (∀ s : State, s.up 7 = true → ∃ t, exec .l2Enable s = .next t ∧ s.only t [.L2_STAT_ENREF, .L2_STAT_ENABLED, .L2_CTL_EN] [.l2] ∧
    (s.bit .L2_STAT_DRAINING = true → t.rd .L2_STAT_ENREF = 1 ∧ t.rd .L2_CTL_EN = s.rd .L2_CTL_EN ∧ t.l2 = s.l2) ∧
    (s.bit .L2_STAT_DRAINING = false → t.rd .L2_CTL_EN = 1 ∧ t.bit .L2_STAT_ENABLED = true ∧ t.l2.off = false ∧
      (s.bit .L2_STAT_ENABLED = false → t.l2.lines = []))) ∧
  (∀ (v : W32) (s : State), let w := bitsN v.toNat 0 16
    let n := ((List.range 16).filter (fun k => w.testBit k)).length
    s.up 7 = true → ∃ t, exec (.l2LockWrite v) s = .next t ∧
    (n ≤ 12 → t.rd .L2_LOCK_WAYS = w ∧ s.only t [.L2_LOCK_WAYS] []) ∧
    (12 < n → t.rd .L2_STAT_LOCKREF = 1 ∧ s.recorded t 282 [(2, w)] ∧ s.only t [.L2_STAT_LOCKREF] [.ev])) ∧
  State.reset.CacheWf ∧
  ∀ (c : Hart) (k : Access) (a n : Nat) (v mepc : Word) (p : Parity) (e : Ecc) (pre : List HartOp) (w : W32) (errs : List WalkError) (s : State), s.CacheWf → 0 < n → n ≤ 8 →
    ∀ x ∈ ([.hartMemoryAccess c k a n v mepc p e pre, .cboClean c a p pre, .cboFlush c a p pre, .cboInval c a pre p, .rangeClean w errs,
      .rangeCleanInvalidate w errs, .rangeInvalidate w errs, .rangeOpRefused w, .rangeOpDone w, .l2Disable, .l2DrainDone w errs, .l2Enable,
      .l2LockWrite w] : List Instr), ∃ t, exec x s = .next t ∧ t.CacheWf

/-- Interrupts go to one hart at a time, events are numbered and queued, and a record is written whole with its
numbers. With step 5 released: a claim takes the qualifying source with the highest priority, the lowest number among
equals, out of pending and into service; only the hart that claimed it ends its service. An MSIP written for a hart
that waits in the boot ROM sends it to LDR_ENTRY with its number outside recovery mode. The timer row leaves MTIP set.
Raising an event, by the module or by firmware, gives it the source's next number and queues its entry; with 512
entries queued it is lost and counted; reserved sources are never raised. The lost run is recorded first as event 314.
Writing the oldest entry puts a record of 64 bytes in the next usable slot of area C, its number in the source's word,
and a valid control block; an entry that merges rewrites the record in place. A slot that fails its read-back is
retired with event 312 and the record waits; a counter or a control block that fails makes the MRAM unusable:
LASTGASP, MEDONLY, event 313 and critical warning bit 2, with GSEQ even again. While it is unusable a record goes to
the buffer's ring, where there is one. HOLD keeps the recorder from writing, and its expiry is marked. Events 206 to
208 mark the AER status of their port and 211 takes the EDP's link down where containment is enabled. An
operating-time save writes the control block only. Choices of the model it rests on: log entries 6, 11, 75, 85, 102,
105, 109. -/
def Obligations.InterruptsAreClaimedAndEventsRecorded : Prop :=
  (∀ (c : Hart) (s : State), s.up 5 = true → ∃ t, exec (.evcClaimRead c) s = .next t ∧
    (s.best c = none → s.sent t [.popped .EVC_CLAIM_SRC c 0] ∧ s.only t [] [.out]) ∧
    (∀ k, s.best c = some k → s.sent t [.popped .EVC_CLAIM_SRC c (k + 2 ^ 31)] ∧ NSet.has k t.ev.edge = false ∧
      NTab.get 0 k t.ev.svc = c + 1 ∧ s.only t [] [.ev, .out] ∧ s.qualifies c k = true ∧
      ∀ x, x < 488 → s.qualifies c x = true → s.rd .EVC_PRIO_PRIO x < s.rd .EVC_PRIO_PRIO k ∨
        (s.rd .EVC_PRIO_PRIO x = s.rd .EVC_PRIO_PRIO k ∧ k ≤ x))) ∧
  (∀ (c : Hart) (v : W32) (s : State), let k := bitsN v.toNat 0 9
    (s.up 5 = true → NTab.get 0 k s.ev.svc = c + 1 → ∃ t, exec (.evcClaimComplete c v) s = .next t ∧ s.inService k = true ∧
      t.inService k = false ∧ t.ev.edge = s.ev.edge ∧ s.only t [] [.ev]) ∧
    (s.up 5 = false ∨ NTab.get 0 k s.ev.svc ≠ c + 1 → exec (.evcClaimComplete c v) s = .next s)) ∧
  (∀ (c : Hart) (v : W32) (a b d : Bool) (s : State), s.up 5 = false → ∀ x ∈ ([.evcClaimRead c, .evcMsipWrite c v, .timerInterrupt c,
    .lostEventsRecord, .recordWrite a b d, .optimeSave a] : List Instr), exec x s = .next s) ∧
  (∀ (c : Hart) (v : W32) (s : State), let wakes := v.toNat.testBit 0 = true ∧ c ≠ 0 ∧ s.up 7 = true ∧ s.rst.done = true ∧
      s.rst.recovery = false ∧ NSet.has c s.l2.awake = false
    s.up 5 = true → ∃ t, exec (.evcMsipWrite c v) s = .next t ∧ s.keysBut t (fun k => k.reg = .EVC_MSIP_MSIP ∧ k.i = c) ∧ s.memSame t ∧
    (wakes → t.rd .EVC_MSIP_MSIP c = 0 ∧ t.l2 = { s.l2 with awake := NSet.add c s.l2.awake } ∧ NSet.has c t.l2.awake = true ∧
      s.keeps t [.l2, .out] ∧ s.sent t [.hartJump c s.rst.entry c]) ∧
    (¬ wakes → t.rd .EVC_MSIP_MSIP c = v.toNat % 2 ∧ s.keeps t [])) ∧
  (∀ (c : Hart) (s : State), s.up 5 = true → ∃ t, exec (.timerInterrupt c) s = .next t ∧ t.mtip c = true ∧
    s.rd .EVC_MTIME_MTIME ≤ t.rd .EVC_MTIME_MTIME ∧ s.only t [.EVC_MTIME_MTIME] []) ∧
  (∀ (src : Source) (d : List (Nat × Nat)) (s : State), let bad := src.val = 219 ∨ (260 ≤ src.val ∧ src.val ≤ 271) ∨ (287 ≤ src.val ∧ src.val ≤ 291)
    let item (k : Nat) : Nat := (d.getD k (0, 0)).2
    let aer := 206 ≤ src.val ∧ src.val ≤ 208 ∧ s.up 10 = true
    let contains := src.val = 211 ∧ s.up 10 = true ∧ s.psw.edp.dpc % 4 ≠ 0
    let mark (c : PortCfg) : PortCfg := if src.val = 206 then { c with aerCor := Nat.lor c.aerCor (item 1 % 2 ^ 32) }
      else { c with aerUnc := Nat.lor c.aerUnc (item 1 % 2 ^ 32) }
    ((bad ∨ s.up 5 = false) → exec (.eventRaise src d) s = .next s) ∧
    (¬ bad → s.up 5 = true → ∃ t, exec (.eventRaise src d) s = .next t ∧ s.memSame t ∧
      (¬ contains → s.only t [] (if aer then [.ev, .psw] else [.ev])) ∧
      (¬ contains → (src.val = 314 → s.ev.run = none) → s.recorded t src d) ∧
      (aer → t.psw = if item 0 = 0 then { s.psw with usp := mark s.psw.usp } else { s.psw with edp := mark s.psw.edp }) ∧
      (contains → t.psw.edp.contained = true ∧ t.bit .PSW_STAT_DSUP = false ∧ s.raised t 211 ∧
        (s.bit .PSW_STAT_DSUP = true → s.raised t 191)) ∧
      (¬ contains → s.bit .EVC_REC_EN src = true → 512 ≤ s.ev.queue.length → t.ev.queue = s.ev.queue ∧ t.ev.lost = min (s.ev.lost + 1) 0xFFFFFFFF ∧
        t.ev.run = some (s.ev.run.getD src) ∧ NSet.has src t.ev.gap = true))) ∧
  (∀ (c : Hart) (v : W32) (s : State), let src := bitsN v.toNat 0 9
    let d := ((List.range 8).flatMap (fun j => leBytes 4 (s.rd .EVC_RDATA_DATA c j))).take (min 32 (bitsN v.toNat 16 6))
    (319 < src ∨ s.up 5 = false → exec (.evcRaiseWrite c v) s = .next s) ∧
    (src ≤ 319 → s.up 5 = true → ∃ t, exec (.evcRaiseWrite c v) s = .next t ∧ ((src = 314 → s.ev.run = none) → s.raised t src) ∧ s.only t [] [.ev] ∧
      (s.bit .EVC_REC_EN src = true → s.ev.run = none → s.ev.queue.length < 512 → t.ev.queue = s.ev.queue ++
        [⟨src, NTab.get 0 src s.ev.seq, true, false, d, s.rd .EREC_OPTIME_OPTIME, s.rd .EREC_PCYC_PCYC⟩]))) ∧
  (∀ s : State, s.ev.run = none → exec .lostEventsRecord s = .next s) ∧
  (∀ (f : Nat) (s : State), s.up 5 = true → s.ev.run = some f → ∃ t, exec .lostEventsRecord s = .next t ∧ s.only t [] [.ev] ∧
    (s.ev.queue.length < 512 → t.ev.run = none ∧ s.raised t 314) ∧ (512 ≤ s.ev.queue.length → t = s)) ∧
  (∀ (e : Ent) (l : List Ent) (s : State), s.Canonical → s.up 5 = true → s.ev.queue = e :: l → e.src < 320 → s.bit .EREC_CTL_HOLD = false →
    s.bit .EREC_STAT_MEDONLY = false → s.erec.redo = [] →
    (∀ k b, s.mergeSlot e = some (k, b) → k < 512) → ∃ t, exec (.recordWrite true true true) s = .next t ∧ t.ev.queue = l ∧
    t.mrd 4 (seqAddr e.src) = (e.seq + 1) % 2 ^ 32 ∧ t.blockValid (1 - s.erec.cur) = true ∧ t.erec.cur = 1 - s.erec.cur ∧
    t.rd .EREC_GSEQ_GSEQ = (s.rd .EREC_GSEQ_GSEQ + 2) % 2 ^ 32 ∧
    s.regsBut t [.EREC_GSEQ_GSEQ, .EREC_CHEAD_CHEAD, .EREC_CSPILL_CSPILL, .EREC_UNSPILL_COUNT, .EREC_FCOUNT_FCOUNT, .EREC_STAT_FFULL] ∧
    s.keeps t [.ev, .erec, .med] ∧ (∀ x, (x < 0x01000000 ∨ 0x0100C700 ≤ x) → t.mb x = s.mb x) ∧
    (∀ k, s.mergeSlot e = some (k, true) → t.mbs (areaC k) 64 = s.mergedRecord k e ∧ t.rd .EREC_CHEAD_CHEAD = s.rd .EREC_CHEAD_CHEAD) ∧
    (s.mergeSlot e = none → s.bit .EVC_REC_KEEP e.src = false →
      let slot := nextSlot s.erec.retC 512 512 (s.rd .EREC_CHEAD_CHEAD)
      t.mbs (areaC slot) 64 = recordBytes e.seq e.src (e.flags false false (NSet.has e.src s.ev.gap) false) e.data.length 0 e.pcyc e.opt 0 e.data ∧
      t.rd .EREC_CHEAD_CHEAD = nextSlot s.erec.retC 512 512 (slot + 1))) ∧
  (∀ (a b c : Bool) (s : State), (s.ev.queue = [] ∨ s.bit .EREC_CTL_HOLD = true ∨
      (s.bit .EREC_STAT_MEDONLY = true ∧ s.rd .EREC_MRING_BASE = 0)) → exec (.recordWrite a b c) s = .next s) ∧
  (∀ (a b c : Bool) (s : State), ∃ t, exec (.recordWrite a b c) s = .next t ∧ s.keeps t [.ev, .erec, .med, .free, .hif, .out, .poison]) ∧
  (∀ (b c : Bool) (e : Ent) (l : List Ent) (s : State), s.up 5 = true → s.ev.queue = e :: l → s.bit .EREC_CTL_HOLD = false →
    s.bit .EREC_STAT_MEDONLY = false → s.erec.redo = [] →
    (b = false ∨ c = false → ∃ t, exec (.recordWrite true b c) s = .next t ∧ t.rd .EREC_STAT_MEDONLY = 1 ∧ t.rd .EREC_GSEQ_GSEQ % 2 = 0 ∧
      t.rd .LASTGASP_VALUE 0 % 2 ^ 24 = 0x4C47 + (if b then 2 else 3) * 2 ^ 16 ∧ t.rd .LASTGASP_VALUE 2 = e.seq % 2 ^ 32 ∧
      t.ev.queue.head? = some e ∧ NSet.has 313 t.ev.edge = true ∧ t.hif.warn.testBit 2 = true) ∧
    (s.mergeSlot e = none → s.bit .EVC_REC_KEEP e.src = false →
      let slot := nextSlot s.erec.retC 512 512 (s.rd .EREC_CHEAD_CHEAD)
      ∃ t, exec (.recordWrite false b c) s = .next t ∧ NSet.has slot t.erec.retC = true ∧ s.raised t 312 ∧ t.ev.queue.head? = some e ∧
      t.rd .EREC_CHEAD_CHEAD = nextSlot s.erec.retC 512 512 (slot + 1) ∧ (128 < t.erec.retC.length → t.rd .EREC_STAT_MEDONLY = 1))) ∧
  (∀ (a b c : Bool) (e : Ent) (l : List Ent) (s : State), let base := s.rd .EREC_MRING_BASE
    s.up 5 = true → s.ev.queue = e :: l → s.bit .EREC_CTL_HOLD = false → s.bit .EREC_STAT_MEDONLY = true → base ≠ 0 →
    let a' := base + 64 * s.rd .EREC_MHEAD_MHEAD
    ∃ t, exec (.recordWrite a b c) s = .next t ∧ t.rd .EREC_MHEAD_MHEAD = (s.rd .EREC_MHEAD_MHEAD + 1) % 4096 ∧
    t.rd .EREC_GSEQ_GSEQ = (s.rd .EREC_GSEQ_GSEQ + 2) % 2 ^ 32 ∧ s.sentOn t [] ∧ s.memBut t a' 64 ∧ s.keeps t [.ev, .poison, .out, .free] ∧
    s.regsBut t [.EREC_MHEAD_MHEAD, .EREC_GSEQ_GSEQ] ∧
    (inBuf a' 64 = true → t.ev.queue = l ∧ t.mbs a' 64 =
      recordBytes e.seq e.src (e.flags false true (NSet.has e.src s.ev.gap) false) e.data.length 0 e.pcyc e.opt 0 e.data) ∧
    (inBuf a' 64 = false → s.memSame t ∧ (bufLo ≤ a' → a' < bufEnd → s.raised t 246))) ∧
  (∀ s : State, ∃ t, exec .hold s = .next t ∧ t.rd .EREC_CTL_HOLD = 1 ∧ s.only t [.EREC_CTL_HOLD] []) ∧
  (∀ s : State, s.bit .EREC_CTL_HOLD = false → exec .holdExpire s = .next s) ∧
  (∀ s : State, s.bit .EREC_CTL_HOLD = true → ∃ t, exec .holdExpire s = .next t ∧ t.rd .EREC_CTL_HOLD = 0 ∧ t.rd .EREC_STAT_HOLDEXP = 1 ∧
    s.only t [.EREC_CTL_HOLD, .EREC_STAT_HOLDEXP] []) ∧
  (∀ (ok : Bool) (s : State), s.bit .EREC_STAT_MEDONLY = true ∨ s.bit .EREC_CTL_HOLD = true → exec (.optimeSave ok) s = .next s) ∧
  (∀ s : State, s.up 5 = true → s.bit .EREC_STAT_MEDONLY = false → s.bit .EREC_CTL_HOLD = false → ∃ t, exec (.optimeSave false) s = .next t ∧
    t.rd .EREC_STAT_MEDONLY = 1 ∧ t.rd .EREC_GSEQ_GSEQ % 2 = 0 ∧ t.rd .LASTGASP_VALUE 0 % 2 ^ 24 = 0x4C47 + 2 * 2 ^ 16 ∧
    NSet.has 313 t.ev.edge = true ∧ t.hif.warn.testBit 2 = true) ∧
  ∀ s : State, s.up 5 = true → s.bit .EREC_STAT_MEDONLY = false → s.bit .EREC_CTL_HOLD = false → ∃ t, exec (.optimeSave true) s = .next t ∧
    t.blockValid (1 - s.erec.cur) = true ∧ s.memBut t (blockAddr (1 - s.erec.cur)) 256 ∧ s.regsBut t [.EREC_GSEQ_GSEQ] ∧ s.keeps t [.erec]

/-- Fault classes become lasting at their threshold, thermal levels act with hysteresis, and the core voltage stays in
limits. A class's next sub-window drops the counts that left the window and no other class's. A count at its threshold
latches the lasting bit with event 300 and halves the scrub interval of a degraded head's arm, and clearing a lasting
bit zeroes its count and leaves the other bits. A monitor's slack is stored; below the threshold, with the guard
enabled and no command running, the voltage in force rises one step within VMAX with event 304, or ATMAX is set where
it is at VMAX. A voltage write takes the nearer limit, and nothing while a command runs; it goes to the regulator at
ADDR and PAGE. An acknowledged command's voltage is then in force; one without an acknowledge sets PMBERR with event
306 and leaves it as it was. A thermal level holds from its threshold up until the composite temperature is more than
5 K below it, and WCTEMP or a lasting fault of class 6 takes a spindle above its limit down with event 234.
AON_FALLBACK sets AONFB and AONLOSS. Choices of the model it rests on: log entries 6, 11, 77, 78, 79, 103, 109. -/
def Obligations.FaultsHeatAndVoltageAreWatched : Prop :=
  (∀ (k : Fin 8) (s : State), s.Canonical → s.rd .AGE_FCLS_WIN k ≠ 0 → s.rd .EREC_OPTIME_OPTIME < 2 ^ 63 → ∃ t,
    exec (.faultSubwindow k) s = .next t ∧ t.subNow k = s.subNow k + 1 ∧
    t.ev.counts = s.ev.counts.filter (fun c => c.cls != k.val || decide (s.subNow k + 1 < c.sub + 8)) ∧ s.only t [.EREC_OPTIME_OPTIME] [.ev]) ∧
  (∀ (k : Fin 8) (i : Fin 32) (s : State), k.val ≤ 6 → s.rd .AGE_FCLS_THR k ≤ s.ageCnt k i → s.rdBit .AGE_FSTAT_LASTING i k = false →
    ∃ t, exec (.faultClassLasting k i) s = .next t ∧ t.rdBit .AGE_FSTAT_LASTING i k = true ∧ s.raised t 300 ∧
    s.regsBut t (.AGE_FSTAT_LASTING :: (if k.val = 6 then tierRegs else [.BUF_FREE_FREE, .BUF_STAT_POVF, .BUF_STAT_GUARD])) ∧ s.ctxBut t ∧
    s.keeps t (if k.val = 6 then [.ev, .hif, .spn, .out, .pwr, .free] else [.ev, .hif, .med]) ∧
    (k.val = 3 → s.only t [.AGE_FSTAT_LASTING] [.ev]) ∧ (k.val = 2 → i.val < 4 → NSet.has i.val t.med.recal = true) ∧
    (k.val ≤ 1 → i.val < 24 → NSet.has (i.val / 6) t.med.halved = true ∧ NSet.has i.val t.med.replan = true ∧
      NTab.get 0 i.val t.med.degraded = s.optime + 1 ∧
      (NTab.get 0 i.val s.med.degraded ≠ 0 → s.optime < NTab.get 0 i.val s.med.degraded - 1 + 30 * dayUnits → t.hif.warn.testBit 2 = true)) ∧
    (k.val = 4 ∨ k.val = 5 → t.hif.warn.testBit 2 = true) ∧ (k.val = 6 → t.hif.limit = min s.hif.limit 5400 ∧
      (s.up 10 = true → 5400 < s.spn.tgt → t.rd .SPN_TGT_TGT = t.topTier s.psNow ∧ s.raised t 234))) ∧
  (∀ (k : Fin 8) (i : Fin 32) (s : State), (6 < k.val ∨ s.ageCnt k i < s.rd .AGE_FCLS_THR k ∨ s.rdBit .AGE_FSTAT_LASTING i k = true) →
    exec (.faultClassLasting k i) s = .next s) ∧
  (∀ (k : Fin 8) (v : W32) (s : State), ∃ t, exec (.ageFstatClear k v) s = .next t ∧ s.keysBut t (fun x => x.reg = .AGE_FSTAT_LASTING ∧ x.i = k) ∧
    s.memSame t ∧ s.keeps t [.ev] ∧ ∀ i, i < 32 → t.rdBit .AGE_FSTAT_LASTING i k = (s.rdBit .AGE_FSTAT_LASTING i k && !v.toNat.testBit i) ∧
    (v.toNat.testBit i = true → s.rdBit .AGE_FSTAT_LASTING i k = true → t.ageCnt k i = 0)) ∧
  (∀ (m : Fin 64) (x : Byte) (s : State), s.Canonical → ∃ t, exec (.guardVoltageStep m x) s = .next t ∧ t.rd .AGE_PDM_SLACK m = x.toNat ∧
    t.rd .AGE_PDM_MIN m = min x.toNat (s.rd .AGE_PDM_MIN m) ∧ t.rd .AGE_PDMIN_SLACK = x.toNat ∧ t.rd .AGE_PDMIN_MON = m ∧
    let acts := s.bit .AGE_CTL_GUARDEN = true ∧ x.toNat < s.rd .AGE_GUARD_THR ∧ s.bit .AGE_STAT_BUSY = false
    let now := s.age.volt
    (¬ acts → s.only t [.AGE_PDM_SLACK, .AGE_PDM_MIN, .AGE_PDMIN_SLACK, .AGE_PDMIN_MON] [.med]) ∧
    (acts → s.only t [.AGE_PDM_SLACK, .AGE_PDM_MIN, .AGE_PDMIN_SLACK, .AGE_PDMIN_MON, .AGE_VOUT_VOUT, .AGE_STAT_BUSY, .AGE_STAT_ATMAX, .AGE_PMB_EXP]
      [.med, .age, .free, .out, .ev] ∧ (now = 0 → t.rd .AGE_STAT_ATMAX = 1 ∨ s.raised t 304)) ∧
    (acts → now ≠ 0 → s.rd .AGE_VLIM_VMAX ≤ now → t.rd .AGE_STAT_ATMAX = 1 ∧ t.rd .AGE_VOUT_VOUT = s.rd .AGE_VOUT_VOUT ∧ t.age = s.age) ∧
    (acts → now ≠ 0 → now < s.rd .AGE_VLIM_VMAX → let v := min (s.rd .AGE_VLIM_VMAX) (now + s.rd .AGE_GUARD_STEP)
      t.rd .AGE_VOUT_VOUT = v ∧ t.age.volt = now ∧ t.rd .AGE_STAT_BUSY = 1 ∧ s.recorded t 304 [(1, m), (1, x.toNat), (2, v)] ∧
      ∃ w, s.sent t [.pmbus (s.rd .AGE_PMB_ADDR) (s.rd .AGE_PMB_PAGE) w])) ∧
  (∀ (v : W32) (s : State), s.Canonical → ∃ t, exec (.ageVoutWrite v) s = .next t ∧ (s.bit .AGE_STAT_BUSY = true → t = s) ∧
    (s.bit .AGE_STAT_BUSY = false → let mv := max (s.rd .AGE_VLIM_VMIN) (min (s.rd .AGE_VLIM_VMAX) (bitsN v.toNat 0 12))
      t.rd .AGE_VOUT_VOUT = mv ∧ t.rd .AGE_STAT_BUSY = 1 ∧ t.age = { s.age with mode := true } ∧
      (∃ w, s.sent t [.pmbus (s.rd .AGE_PMB_ADDR) (s.rd .AGE_PMB_PAGE) w]) ∧
      (s.age.mode = true → s.sent t [.pmbus (s.rd .AGE_PMB_ADDR) (s.rd .AGE_PMB_PAGE) (linear16 mv (signedN 5 (s.rd .AGE_PMB_EXP)))]) ∧
      s.only t [.AGE_VOUT_VOUT, .AGE_STAT_BUSY, .AGE_PMB_EXP] [.out, .age, .free])) ∧
  (∀ (ack : Bool) (s : State), s.bit .AGE_STAT_BUSY = false → exec (.pmbusCommandDone ack) s = .next s) ∧
  (∀ (ack : Bool) (s : State), s.bit .AGE_STAT_BUSY = true → ∃ t, exec (.pmbusCommandDone ack) s = .next t ∧ t.rd .AGE_STAT_BUSY = 0 ∧
    (ack = true → t.age = { s.age with volt := s.rd .AGE_VOUT_VOUT } ∧ s.only t [.AGE_STAT_BUSY] [.age]) ∧ (ack = false → t.rd .AGE_STAT_PMBERR = 1 ∧ s.recorded t 306 [(2, s.rd .AGE_VOUT_VOUT)] ∧
      s.only t [.AGE_STAT_BUSY, .AGE_STAT_PMBERR] [.ev])) ∧
  (∀ (q : Fin 4) (temp : BitVec 12) (s : State), ∃ t, exec (.thermalLevelCross q temp) s = .next t ∧ t.rd .AGE_TEMP_TEMP q = temp.toNat ∧
    s.regsBut t (.AGE_TEMP_TEMP :: tierRegs) ∧ s.ctxBut t ∧ s.keeps t [.age, .ev, .hif, .pwr, .spn, .out, .free] ∧
    (q = 1 → temp.toNat ≤ 2985 → t.pwr.hotDie = false) ∧
    (∀ n, n < 3 → NSet.has n t.age.levels = (if NSet.has n s.age.levels then decide (s.thermalLevel n ≤ t.composite + 5)
      else decide (s.thermalLevel n ≤ t.composite)) ∧
      (s.up 5 = true → NSet.has n s.age.levels = false → NSet.has n t.age.levels = true → NSet.has 302 t.ev.edge = true) ∧
      (s.up 5 = true → NSet.has n s.age.levels = true → NSet.has n t.age.levels = false → NSet.has 303 t.ev.edge = true)) ∧
    (s.up 10 = true → 5400 < s.spn.tgt → NSet.has 1 s.age.levels = false → 353 ≤ t.composite → NSet.has 2 s.age.levels = false →
      t.composite < 363 → t.rd .SPN_TGT_TGT = t.topTier s.psNow ∧ s.raised t 234) ∧
    (NSet.has 0 s.age.levels = false → s.thermalLevel 0 ≤ t.composite → t.hif.warn.testBit 1 = true) ∧
    (NSet.has 0 s.age.levels = true → t.composite + 5 < s.thermalLevel 0 → t.hif.warn.testBit 1 = false)) ∧
  ∀ s : State, ∃ t, exec .aonFallback s = .next t ∧ t.rd .CLK_STAT_AONFB = 1 ∧ t.rd .CLK_STAT_AONLOSS = 1 ∧
    s.only t [.CLK_STAT_AONFB, .CLK_STAT_AONLOSS] []

/-- A register write sets what its field's access code gives, and reserved places, wrong widths and read-only fields
take none. With step 5 released, of every register of every block (PSW_CFG, whose POLICY can close the pass, is said
apart): an RO or WO field keeps its value, an RWL field does while the lock holds, an RW or open RWL field takes the
bits written, as its chapter keeps them, unless its value has a row of its own or its unit's state shuts it, and a W1C
field clears where ones are written; no other field and no memory changes but what the chapters tie to the value: the
permit and its causes, loops and castling of heads turned off, the servo gate, a context's CTXWR, a guard's wait and a
channel's ENA. The event controller's priority, enables, thresholds and timers and the cache's registers are spelled
out. PSW_CFG sets its locked fields only before the lock, HOLDOFF at least 1, its other field always, and a POLICY of
1 closes an open pass with cause 2 while JOIN_EN is low. A block in a soft reset, an address outside every window, one
not aligned, of another width or at a reserved offset takes nothing. A write reaches no memory but the bytes at its
address. A word written to an engine's command queue stands there. Choices of the model it rests on: log entries 6,
83, 84. -/
def Obligations.RegisterWritesFollowTheirAccessCode : Prop :=
  (∀ (v : Word) (s : State), s.up 5 = true →
    (∀ k, k < 512 → ∃ t, exec (.registerWrite (0x10022000 + 4 * k) false v) s = .next t ∧ t.rd .EVC_PRIO_PRIO k = v.toNat % 8 ∧
      s.keysBut t (fun x => x.reg = .EVC_PRIO_PRIO ∧ x.i = k) ∧ s.memSame t ∧ s.keeps t []) ∧
    (∀ c w, c < 8 → w < 16 → ∃ t, exec (.registerWrite (0x10024000 + 0x40 * c + 4 * w) false v) s = .next t ∧
      t.rd .EVC_IE_IE c w = v.toNat % 2 ^ 32 ∧ s.keysBut t (fun x => x = ⟨.EVC_IE_IE, c, w⟩) ∧ s.memSame t ∧ s.keeps t []) ∧
    (∀ c, c < 8 → ∃ t, exec (.registerWrite (0x10025000 + 0x10 * c) false v) s = .next t ∧ t.rd .EVC_THR_THR c = v.toNat % 8 ∧
      s.keysBut t (fun x => x.reg = .EVC_THR_THR ∧ x.i = c) ∧ s.memSame t ∧ s.keeps t []) ∧
    (∀ c, c < 8 → ∃ t, exec (.registerWrite (0x10021040 + 8 * c) true v) s = .next t ∧ t.rd .EVC_MTIMECMP_CMP c = v.toNat ∧
      s.keysBut t (fun x => x.reg = .EVC_MTIMECMP_CMP ∧ x.i = c) ∧ s.memSame t ∧ s.keeps t []) ∧
    (∃ t, exec (.registerWrite 0x10040018 true v) s = .next t ∧ t.rd .L2_INVBASE_BASE = v.toNat ∧ s.only t [.L2_INVBASE_BASE] []) ∧
    (∃ t, exec (.registerWrite 0x10040020 false v) s = .next t ∧ t.rd .L2_INVLEN_LEN = v.toNat % 2 ^ 32 ∧ s.only t [.L2_INVLEN_LEN] []) ∧
    (∃ t, exec (.registerWrite 0x10040004 false v) s = .next t ∧ s.only t [.L2_STAT_ENREF, .L2_STAT_LOCKREF, .L2_STAT_INVREF, .L2_STAT_LOST] [] ∧
      (s.Canonical → ∀ x ∈ ([(.L2_STAT_ENREF, 3), (.L2_STAT_LOCKREF, 4), (.L2_STAT_INVREF, 5), (.L2_STAT_LOST, 6)] : List (Reg × Nat)),
        t.rd x.1 = if v.toNat.testBit x.2 then 0 else s.rd x.1)) ∧
    (let closes := s.rst.locked = false ∧ v.toNat.testBit 0 = true ∧ s.bit .PSW_STAT_JOINEN = false ∧
        (s.rd .PSW_PASS_STATE = 1 ∨ s.rd .PSW_PASS_STATE = 2)
      ∃ t, exec (.registerWrite 0x11000000 false v) s = .next t ∧ t.rd .PSW_CFG_ARBAUTO = bitsN v.toNat 16 1 ∧
      (¬ closes → s.only t [.PSW_CFG_POLICY, .PSW_CFG_HOLDOFF, .PSW_CFG_ARBAUTO] []) ∧
      (closes → t.rd .PSW_PASS_STATE = 3 ∧ t.passFlag = false ∧ t.passCause = 2 ∧ s.raised t 196) ∧
      (s.rst.locked = true → s.regsBut t [.PSW_CFG_ARBAUTO]) ∧
      (s.rst.locked = false → t.rd .PSW_CFG_POLICY = v.toNat % 2 ∧ t.rd .PSW_CFG_HOLDOFF = max 1 (bitsN v.toNat 8 8)))) ∧
  (∀ (a : Nat) (wide : Bool) (v : Word) (s : State), let n := if wide then 8 else 4
    let side : List Reg := [.SPN_WP_WP, .SPN_WP_CAUSE, .SCE_STAT_SATM, .SCE_STAT_OUTWIN, .SCE_BANKSEL_PENDING, .HSE_STAT_GATES,
      .DMA_CHSTAT_GUARDW, .CHAN_STAT_ENA, .OCE_STAT_CTXWR]
    s.up 5 = true → (blkAt a).isSome = true → a % n = 0 → widthOk a n = true → winMem a = none → s.softBusy a = false → a ≠ 0x11000000 →
    ∃ t, exec (.registerWrite a wide v) s = .next t ∧ s.memSame t ∧
    s.keysBut t (fun k => (∃ d, (k, d) ∈ fieldsAt a) ∨ k.reg ∈ side) ∧
    s.keeps t [.ev, .erec, .arms, .hif, .chans, .dma, .med, .out] ∧
    ∀ (k : RKey) (d : Nat), (k, d) ∈ fieldsAt a →
      let x := s.fieldOf k d n v.toNat
      let old := s.rd k.reg k.i k.j
      let new := t.rd k.reg k.i k.j
      let opens := k.reg.info.acc = .RW ∨ (k.reg.info.acc = .RWL ∧ s.rst.locked = false)
      (k.reg.info.acc = .RO ∨ k.reg.info.acc = .WO → k.reg ∉ side → new = old) ∧
      (k.reg.info.acc = .RWL → s.rst.locked = true → new = old) ∧
      (opens → hasRow k.reg x = true ∨ s.shut k = true → new = old) ∧
      (opens → hasRow k.reg x = false → s.shut k = false → new = fieldKeeps k.reg (x % 2 ^ k.reg.info.w) % 2 ^ k.reg.info.w) ∧
      (k.reg.info.acc = .W1C → k.reg ∉ side → hasRow k.reg x = false → ∀ b, b < k.reg.info.w →
        new.testBit b = (old.testBit b && !(clears k.reg (fieldOnes k d n v.toNat)).testBit b))) ∧
  (∀ (v : Word) (w : Nat) (s : State), w < 16 → exec (.registerWrite (0x10023000 + 4 * w) false v) s = .next s) ∧
  (∀ (a : Nat) (wide : Bool) (v : Word) (s : State), (s.up 5 = false ∨ blkAt a = none ∨ a % (if wide then 8 else 4) ≠ 0 ∨
    widthOk a (if wide then 8 else 4) = false ∨ s.softBusy a = true ∨ (fieldsAt a = [] ∧ winMem a = none)) →
    exec (.registerWrite a wide v) s = .next s) ∧
  (∀ (a : Nat) (wide : Bool) (v : Word) (s t : State), exec (.registerWrite a wide v) s = .next t →
    (∀ r i j, r.info.acc = .RWL → s.rst.locked = true → t.rdW r i j = s.rdW r i j) ∧
    (a ≠ 0x11000000 → s.memBut t a 8 ∧ t.rst = s.rst ∧ t.out.take s.out.length = s.out)) ∧
  ∀ (h : Head) (k : Nat) (v : Word) (s : State), s.up 5 = true → k < 128 → s.rst.soft = none → ∃ t,
    exec (.registerWrite (0x10100400 + 0x10000 * h + 4 * k) false v) s = .next t ∧
    t.mrd 4 (0x10100400 + 0x10000 * h + 4 * k) = v.toNat % 2 ^ 32 ∧ s.memBut t (0x10100400 + 0x10000 * h + 4 * k) 4 ∧ s.regsBut t [] ∧ s.keeps t []

/-- Once the configuration fields are locked, no command but an activation changes one without a reset that unlocks
them. For every state s past the hand-off with the RWL fields locked and every command but the end of an activation
drain, which places a new image's records as the loader does (R278), if exec answers a next state t in which the
fields are still locked, then every RWL field at every index reads in t as in s, whatever the command wrote, reset
softly or was sent. Choices of the model it rests on: log entry 17. -/
def Obligations.LockedFieldsKeepTheirValues : Prop :=
  ∀ (c : Instr) (s t : State), s.up 7 = true → s.rst.locked = true → (∀ ms, c ≠ .activationDrainDone ms) → exec c s = .next t →
    t.rst.locked = true → ∀ r i j, r.info.acc = .RWL → t.rdW r i j = s.rdW r i j
end

