-- ==== Sys2Proof/Laws/State.lean ====
section
/-! SUPPORT. Laws/State.lean: one lemma per part of the state per update: what an update leaves alone, and what it sets. -/

namespace Sys2Proof.Machine

variable (s : State)

/-! ### wr -/

@[simp] theorem State.wr_pending (r : Reg) (v i j : Nat) : (s.wr r v i j).pending = s.pending := rfl
@[simp] theorem State.wr_mem (r : Reg) (v i j : Nat) : (s.wr r v i j).mem = s.mem := rfl
@[simp] theorem State.wr_poison (r : Reg) (v i j : Nat) : (s.wr r v i j).poison = s.poison := rfl
@[simp] theorem State.wr_nor (r : Reg) (v i j : Nat) : (s.wr r v i j).nor = s.nor := rfl
@[simp] theorem State.wr_staged (r : Reg) (v i j : Nat) : (s.wr r v i j).staged = s.staged := rfl
@[simp] theorem State.wr_norq (r : Reg) (v i j : Nat) : (s.wr r v i j).norq = s.norq := rfl
@[simp] theorem State.wr_rst (r : Reg) (v i j : Nat) : (s.wr r v i j).rst = s.rst := rfl
@[simp] theorem State.wr_ev (r : Reg) (v i j : Nat) : (s.wr r v i j).ev = s.ev := rfl
@[simp] theorem State.wr_erec (r : Reg) (v i j : Nat) : (s.wr r v i j).erec = s.erec := rfl
@[simp] theorem State.wr_age (r : Reg) (v i j : Nat) : (s.wr r v i j).age = s.age := rfl
@[simp] theorem State.wr_pwr (r : Reg) (v i j : Nat) : (s.wr r v i j).pwr = s.pwr := rfl
@[simp] theorem State.wr_spn (r : Reg) (v i j : Nat) : (s.wr r v i j).spn = s.spn := rfl
@[simp] theorem State.wr_arms (r : Reg) (v i j : Nat) : (s.wr r v i j).arms = s.arms := rfl
@[simp] theorem State.wr_hif (r : Reg) (v i j : Nat) : (s.wr r v i j).hif = s.hif := rfl
@[simp] theorem State.wr_psw (r : Reg) (v i j : Nat) : (s.wr r v i j).psw = s.psw := rfl
@[simp] theorem State.wr_l2 (r : Reg) (v i j : Nat) : (s.wr r v i j).l2 = s.l2 := rfl
@[simp] theorem State.wr_hses (r : Reg) (v i j : Nat) : (s.wr r v i j).hses = s.hses := rfl
@[simp] theorem State.wr_chans (r : Reg) (v i j : Nat) : (s.wr r v i j).chans = s.chans := rfl
@[simp] theorem State.wr_hls (r : Reg) (v i j : Nat) : (s.wr r v i j).hls = s.hls := rfl
@[simp] theorem State.wr_oce (r : Reg) (v i j : Nat) : (s.wr r v i j).oce = s.oce := rfl
@[simp] theorem State.wr_dma (r : Reg) (v i j : Nat) : (s.wr r v i j).dma = s.dma := rfl
@[simp] theorem State.wr_buf (r : Reg) (v i j : Nat) : (s.wr r v i j).buf = s.buf := rfl
@[simp] theorem State.wr_frc (r : Reg) (v i j : Nat) : (s.wr r v i j).frc = s.frc := rfl
@[simp] theorem State.wr_med (r : Reg) (v i j : Nat) : (s.wr r v i j).med = s.med := rfl
@[simp] theorem State.wr_frac (r : Reg) (v i j : Nat) : (s.wr r v i j).frac = s.frac := rfl
@[simp] theorem State.wr_free (r : Reg) (v i j : Nat) : (s.wr r v i j).free = s.free := rfl
@[simp] theorem State.wr_out (r : Reg) (v i j : Nat) : (s.wr r v i j).out = s.out := rfl

/-! ### emit -/

@[simp] theorem State.emit_pending (o : Out) : (s.emit o).pending = s.pending := rfl
@[simp] theorem State.emit_regs (o : Out) : (s.emit o).regs = s.regs := rfl
@[simp] theorem State.emit_mem (o : Out) : (s.emit o).mem = s.mem := rfl
@[simp] theorem State.emit_poison (o : Out) : (s.emit o).poison = s.poison := rfl
@[simp] theorem State.emit_nor (o : Out) : (s.emit o).nor = s.nor := rfl
@[simp] theorem State.emit_staged (o : Out) : (s.emit o).staged = s.staged := rfl
@[simp] theorem State.emit_norq (o : Out) : (s.emit o).norq = s.norq := rfl
@[simp] theorem State.emit_rst (o : Out) : (s.emit o).rst = s.rst := rfl
@[simp] theorem State.emit_ev (o : Out) : (s.emit o).ev = s.ev := rfl
@[simp] theorem State.emit_erec (o : Out) : (s.emit o).erec = s.erec := rfl
@[simp] theorem State.emit_age (o : Out) : (s.emit o).age = s.age := rfl
@[simp] theorem State.emit_pwr (o : Out) : (s.emit o).pwr = s.pwr := rfl
@[simp] theorem State.emit_spn (o : Out) : (s.emit o).spn = s.spn := rfl
@[simp] theorem State.emit_arms (o : Out) : (s.emit o).arms = s.arms := rfl
@[simp] theorem State.emit_hif (o : Out) : (s.emit o).hif = s.hif := rfl
@[simp] theorem State.emit_psw (o : Out) : (s.emit o).psw = s.psw := rfl
@[simp] theorem State.emit_l2 (o : Out) : (s.emit o).l2 = s.l2 := rfl
@[simp] theorem State.emit_hses (o : Out) : (s.emit o).hses = s.hses := rfl
@[simp] theorem State.emit_chans (o : Out) : (s.emit o).chans = s.chans := rfl
@[simp] theorem State.emit_hls (o : Out) : (s.emit o).hls = s.hls := rfl
@[simp] theorem State.emit_oce (o : Out) : (s.emit o).oce = s.oce := rfl
@[simp] theorem State.emit_dma (o : Out) : (s.emit o).dma = s.dma := rfl
@[simp] theorem State.emit_buf (o : Out) : (s.emit o).buf = s.buf := rfl
@[simp] theorem State.emit_frc (o : Out) : (s.emit o).frc = s.frc := rfl
@[simp] theorem State.emit_med (o : Out) : (s.emit o).med = s.med := rfl
@[simp] theorem State.emit_frac (o : Out) : (s.emit o).frac = s.frac := rfl
@[simp] theorem State.emit_free (o : Out) : (s.emit o).free = s.free := rfl

/-! ### setRst -/

@[simp] theorem State.setRst_pending (x : Rstc) : (s.setRst x).pending = s.pending := rfl
@[simp] theorem State.setRst_regs (x : Rstc) : (s.setRst x).regs = s.regs := rfl
@[simp] theorem State.setRst_mem (x : Rstc) : (s.setRst x).mem = s.mem := rfl
@[simp] theorem State.setRst_poison (x : Rstc) : (s.setRst x).poison = s.poison := rfl
@[simp] theorem State.setRst_nor (x : Rstc) : (s.setRst x).nor = s.nor := rfl
@[simp] theorem State.setRst_staged (x : Rstc) : (s.setRst x).staged = s.staged := rfl
@[simp] theorem State.setRst_norq (x : Rstc) : (s.setRst x).norq = s.norq := rfl
@[simp] theorem State.setRst_rst (x : Rstc) : (s.setRst x).rst = x := rfl
@[simp] theorem State.setRst_ev (x : Rstc) : (s.setRst x).ev = s.ev := rfl
@[simp] theorem State.setRst_erec (x : Rstc) : (s.setRst x).erec = s.erec := rfl
@[simp] theorem State.setRst_age (x : Rstc) : (s.setRst x).age = s.age := rfl
@[simp] theorem State.setRst_pwr (x : Rstc) : (s.setRst x).pwr = s.pwr := rfl
@[simp] theorem State.setRst_spn (x : Rstc) : (s.setRst x).spn = s.spn := rfl
@[simp] theorem State.setRst_arms (x : Rstc) : (s.setRst x).arms = s.arms := rfl
@[simp] theorem State.setRst_hif (x : Rstc) : (s.setRst x).hif = s.hif := rfl
@[simp] theorem State.setRst_psw (x : Rstc) : (s.setRst x).psw = s.psw := rfl
@[simp] theorem State.setRst_l2 (x : Rstc) : (s.setRst x).l2 = s.l2 := rfl
@[simp] theorem State.setRst_hses (x : Rstc) : (s.setRst x).hses = s.hses := rfl
@[simp] theorem State.setRst_chans (x : Rstc) : (s.setRst x).chans = s.chans := rfl
@[simp] theorem State.setRst_hls (x : Rstc) : (s.setRst x).hls = s.hls := rfl
@[simp] theorem State.setRst_oce (x : Rstc) : (s.setRst x).oce = s.oce := rfl
@[simp] theorem State.setRst_dma (x : Rstc) : (s.setRst x).dma = s.dma := rfl
@[simp] theorem State.setRst_buf (x : Rstc) : (s.setRst x).buf = s.buf := rfl
@[simp] theorem State.setRst_frc (x : Rstc) : (s.setRst x).frc = s.frc := rfl
@[simp] theorem State.setRst_med (x : Rstc) : (s.setRst x).med = s.med := rfl
@[simp] theorem State.setRst_frac (x : Rstc) : (s.setRst x).frac = s.frac := rfl
@[simp] theorem State.setRst_free (x : Rstc) : (s.setRst x).free = s.free := rfl
@[simp] theorem State.setRst_out (x : Rstc) : (s.setRst x).out = s.out := rfl

/-! ### setPwr -/

@[simp] theorem State.setPwr_pending (x : Pwr) : (s.setPwr x).pending = s.pending := rfl
@[simp] theorem State.setPwr_regs (x : Pwr) : (s.setPwr x).regs = s.regs := rfl
@[simp] theorem State.setPwr_mem (x : Pwr) : (s.setPwr x).mem = s.mem := rfl
@[simp] theorem State.setPwr_poison (x : Pwr) : (s.setPwr x).poison = s.poison := rfl
@[simp] theorem State.setPwr_nor (x : Pwr) : (s.setPwr x).nor = s.nor := rfl
@[simp] theorem State.setPwr_staged (x : Pwr) : (s.setPwr x).staged = s.staged := rfl
@[simp] theorem State.setPwr_norq (x : Pwr) : (s.setPwr x).norq = s.norq := rfl
@[simp] theorem State.setPwr_rst (x : Pwr) : (s.setPwr x).rst = s.rst := rfl
@[simp] theorem State.setPwr_ev (x : Pwr) : (s.setPwr x).ev = s.ev := rfl
@[simp] theorem State.setPwr_erec (x : Pwr) : (s.setPwr x).erec = s.erec := rfl
@[simp] theorem State.setPwr_age (x : Pwr) : (s.setPwr x).age = s.age := rfl
@[simp] theorem State.setPwr_pwr (x : Pwr) : (s.setPwr x).pwr = x := rfl
@[simp] theorem State.setPwr_spn (x : Pwr) : (s.setPwr x).spn = s.spn := rfl
@[simp] theorem State.setPwr_arms (x : Pwr) : (s.setPwr x).arms = s.arms := rfl
@[simp] theorem State.setPwr_hif (x : Pwr) : (s.setPwr x).hif = s.hif := rfl
@[simp] theorem State.setPwr_psw (x : Pwr) : (s.setPwr x).psw = s.psw := rfl
@[simp] theorem State.setPwr_l2 (x : Pwr) : (s.setPwr x).l2 = s.l2 := rfl
@[simp] theorem State.setPwr_hses (x : Pwr) : (s.setPwr x).hses = s.hses := rfl
@[simp] theorem State.setPwr_chans (x : Pwr) : (s.setPwr x).chans = s.chans := rfl
@[simp] theorem State.setPwr_hls (x : Pwr) : (s.setPwr x).hls = s.hls := rfl
@[simp] theorem State.setPwr_oce (x : Pwr) : (s.setPwr x).oce = s.oce := rfl
@[simp] theorem State.setPwr_dma (x : Pwr) : (s.setPwr x).dma = s.dma := rfl
@[simp] theorem State.setPwr_buf (x : Pwr) : (s.setPwr x).buf = s.buf := rfl
@[simp] theorem State.setPwr_frc (x : Pwr) : (s.setPwr x).frc = s.frc := rfl
@[simp] theorem State.setPwr_med (x : Pwr) : (s.setPwr x).med = s.med := rfl
@[simp] theorem State.setPwr_frac (x : Pwr) : (s.setPwr x).frac = s.frac := rfl
@[simp] theorem State.setPwr_free (x : Pwr) : (s.setPwr x).free = s.free := rfl
@[simp] theorem State.setPwr_out (x : Pwr) : (s.setPwr x).out = s.out := rfl

/-! ### setSpn -/

@[simp] theorem State.setSpn_pending (x : Spn) : (s.setSpn x).pending = s.pending := rfl
@[simp] theorem State.setSpn_regs (x : Spn) : (s.setSpn x).regs = s.regs := rfl
@[simp] theorem State.setSpn_mem (x : Spn) : (s.setSpn x).mem = s.mem := rfl
@[simp] theorem State.setSpn_poison (x : Spn) : (s.setSpn x).poison = s.poison := rfl
@[simp] theorem State.setSpn_nor (x : Spn) : (s.setSpn x).nor = s.nor := rfl
@[simp] theorem State.setSpn_staged (x : Spn) : (s.setSpn x).staged = s.staged := rfl
@[simp] theorem State.setSpn_norq (x : Spn) : (s.setSpn x).norq = s.norq := rfl
@[simp] theorem State.setSpn_rst (x : Spn) : (s.setSpn x).rst = s.rst := rfl
@[simp] theorem State.setSpn_ev (x : Spn) : (s.setSpn x).ev = s.ev := rfl
@[simp] theorem State.setSpn_erec (x : Spn) : (s.setSpn x).erec = s.erec := rfl
@[simp] theorem State.setSpn_age (x : Spn) : (s.setSpn x).age = s.age := rfl
@[simp] theorem State.setSpn_pwr (x : Spn) : (s.setSpn x).pwr = s.pwr := rfl
@[simp] theorem State.setSpn_spn (x : Spn) : (s.setSpn x).spn = x := rfl
@[simp] theorem State.setSpn_arms (x : Spn) : (s.setSpn x).arms = s.arms := rfl
@[simp] theorem State.setSpn_hif (x : Spn) : (s.setSpn x).hif = s.hif := rfl
@[simp] theorem State.setSpn_psw (x : Spn) : (s.setSpn x).psw = s.psw := rfl
@[simp] theorem State.setSpn_l2 (x : Spn) : (s.setSpn x).l2 = s.l2 := rfl
@[simp] theorem State.setSpn_hses (x : Spn) : (s.setSpn x).hses = s.hses := rfl
@[simp] theorem State.setSpn_chans (x : Spn) : (s.setSpn x).chans = s.chans := rfl
@[simp] theorem State.setSpn_hls (x : Spn) : (s.setSpn x).hls = s.hls := rfl
@[simp] theorem State.setSpn_oce (x : Spn) : (s.setSpn x).oce = s.oce := rfl
@[simp] theorem State.setSpn_dma (x : Spn) : (s.setSpn x).dma = s.dma := rfl
@[simp] theorem State.setSpn_buf (x : Spn) : (s.setSpn x).buf = s.buf := rfl
@[simp] theorem State.setSpn_frc (x : Spn) : (s.setSpn x).frc = s.frc := rfl
@[simp] theorem State.setSpn_med (x : Spn) : (s.setSpn x).med = s.med := rfl
@[simp] theorem State.setSpn_frac (x : Spn) : (s.setSpn x).frac = s.frac := rfl
@[simp] theorem State.setSpn_free (x : Spn) : (s.setSpn x).free = s.free := rfl
@[simp] theorem State.setSpn_out (x : Spn) : (s.setSpn x).out = s.out := rfl

/-! ### setPsw -/

@[simp] theorem State.setPsw_pending (x : Psw) : (s.setPsw x).pending = s.pending := rfl
@[simp] theorem State.setPsw_regs (x : Psw) : (s.setPsw x).regs = s.regs := rfl
@[simp] theorem State.setPsw_mem (x : Psw) : (s.setPsw x).mem = s.mem := rfl
@[simp] theorem State.setPsw_poison (x : Psw) : (s.setPsw x).poison = s.poison := rfl
@[simp] theorem State.setPsw_nor (x : Psw) : (s.setPsw x).nor = s.nor := rfl
@[simp] theorem State.setPsw_staged (x : Psw) : (s.setPsw x).staged = s.staged := rfl
@[simp] theorem State.setPsw_norq (x : Psw) : (s.setPsw x).norq = s.norq := rfl
@[simp] theorem State.setPsw_rst (x : Psw) : (s.setPsw x).rst = s.rst := rfl
@[simp] theorem State.setPsw_ev (x : Psw) : (s.setPsw x).ev = s.ev := rfl
@[simp] theorem State.setPsw_erec (x : Psw) : (s.setPsw x).erec = s.erec := rfl
@[simp] theorem State.setPsw_age (x : Psw) : (s.setPsw x).age = s.age := rfl
@[simp] theorem State.setPsw_pwr (x : Psw) : (s.setPsw x).pwr = s.pwr := rfl
@[simp] theorem State.setPsw_spn (x : Psw) : (s.setPsw x).spn = s.spn := rfl
@[simp] theorem State.setPsw_arms (x : Psw) : (s.setPsw x).arms = s.arms := rfl
@[simp] theorem State.setPsw_hif (x : Psw) : (s.setPsw x).hif = s.hif := rfl
@[simp] theorem State.setPsw_psw (x : Psw) : (s.setPsw x).psw = x := rfl
@[simp] theorem State.setPsw_l2 (x : Psw) : (s.setPsw x).l2 = s.l2 := rfl
@[simp] theorem State.setPsw_hses (x : Psw) : (s.setPsw x).hses = s.hses := rfl
@[simp] theorem State.setPsw_chans (x : Psw) : (s.setPsw x).chans = s.chans := rfl
@[simp] theorem State.setPsw_hls (x : Psw) : (s.setPsw x).hls = s.hls := rfl
@[simp] theorem State.setPsw_oce (x : Psw) : (s.setPsw x).oce = s.oce := rfl
@[simp] theorem State.setPsw_dma (x : Psw) : (s.setPsw x).dma = s.dma := rfl
@[simp] theorem State.setPsw_buf (x : Psw) : (s.setPsw x).buf = s.buf := rfl
@[simp] theorem State.setPsw_frc (x : Psw) : (s.setPsw x).frc = s.frc := rfl
@[simp] theorem State.setPsw_med (x : Psw) : (s.setPsw x).med = s.med := rfl
@[simp] theorem State.setPsw_frac (x : Psw) : (s.setPsw x).frac = s.frac := rfl
@[simp] theorem State.setPsw_free (x : Psw) : (s.setPsw x).free = s.free := rfl
@[simp] theorem State.setPsw_out (x : Psw) : (s.setPsw x).out = s.out := rfl

/-! ### setArm -/

@[simp] theorem State.setArm_pending (a : Nat) (x : ArmS) : (s.setArm a x).pending = s.pending := rfl
@[simp] theorem State.setArm_regs (a : Nat) (x : ArmS) : (s.setArm a x).regs = s.regs := rfl
@[simp] theorem State.setArm_mem (a : Nat) (x : ArmS) : (s.setArm a x).mem = s.mem := rfl
@[simp] theorem State.setArm_poison (a : Nat) (x : ArmS) : (s.setArm a x).poison = s.poison := rfl
@[simp] theorem State.setArm_nor (a : Nat) (x : ArmS) : (s.setArm a x).nor = s.nor := rfl
@[simp] theorem State.setArm_staged (a : Nat) (x : ArmS) : (s.setArm a x).staged = s.staged := rfl
@[simp] theorem State.setArm_norq (a : Nat) (x : ArmS) : (s.setArm a x).norq = s.norq := rfl
@[simp] theorem State.setArm_rst (a : Nat) (x : ArmS) : (s.setArm a x).rst = s.rst := rfl
@[simp] theorem State.setArm_ev (a : Nat) (x : ArmS) : (s.setArm a x).ev = s.ev := rfl
@[simp] theorem State.setArm_erec (a : Nat) (x : ArmS) : (s.setArm a x).erec = s.erec := rfl
@[simp] theorem State.setArm_age (a : Nat) (x : ArmS) : (s.setArm a x).age = s.age := rfl
@[simp] theorem State.setArm_pwr (a : Nat) (x : ArmS) : (s.setArm a x).pwr = s.pwr := rfl
@[simp] theorem State.setArm_spn (a : Nat) (x : ArmS) : (s.setArm a x).spn = s.spn := rfl
@[simp] theorem State.setArm_hif (a : Nat) (x : ArmS) : (s.setArm a x).hif = s.hif := rfl
@[simp] theorem State.setArm_psw (a : Nat) (x : ArmS) : (s.setArm a x).psw = s.psw := rfl
@[simp] theorem State.setArm_l2 (a : Nat) (x : ArmS) : (s.setArm a x).l2 = s.l2 := rfl
@[simp] theorem State.setArm_hses (a : Nat) (x : ArmS) : (s.setArm a x).hses = s.hses := rfl
@[simp] theorem State.setArm_chans (a : Nat) (x : ArmS) : (s.setArm a x).chans = s.chans := rfl
@[simp] theorem State.setArm_hls (a : Nat) (x : ArmS) : (s.setArm a x).hls = s.hls := rfl
@[simp] theorem State.setArm_oce (a : Nat) (x : ArmS) : (s.setArm a x).oce = s.oce := rfl
@[simp] theorem State.setArm_dma (a : Nat) (x : ArmS) : (s.setArm a x).dma = s.dma := rfl
@[simp] theorem State.setArm_buf (a : Nat) (x : ArmS) : (s.setArm a x).buf = s.buf := rfl
@[simp] theorem State.setArm_frc (a : Nat) (x : ArmS) : (s.setArm a x).frc = s.frc := rfl
@[simp] theorem State.setArm_med (a : Nat) (x : ArmS) : (s.setArm a x).med = s.med := rfl
@[simp] theorem State.setArm_frac (a : Nat) (x : ArmS) : (s.setArm a x).frac = s.frac := rfl
@[simp] theorem State.setArm_free (a : Nat) (x : ArmS) : (s.setArm a x).free = s.free := rfl
@[simp] theorem State.setArm_out (a : Nat) (x : ArmS) : (s.setArm a x).out = s.out := rfl

/-! ### setHse -/

@[simp] theorem State.setHse_pending (h : Nat) (x : Hse) : (s.setHse h x).pending = s.pending := rfl
@[simp] theorem State.setHse_regs (h : Nat) (x : Hse) : (s.setHse h x).regs = s.regs := rfl
@[simp] theorem State.setHse_mem (h : Nat) (x : Hse) : (s.setHse h x).mem = s.mem := rfl
@[simp] theorem State.setHse_poison (h : Nat) (x : Hse) : (s.setHse h x).poison = s.poison := rfl
@[simp] theorem State.setHse_nor (h : Nat) (x : Hse) : (s.setHse h x).nor = s.nor := rfl
@[simp] theorem State.setHse_staged (h : Nat) (x : Hse) : (s.setHse h x).staged = s.staged := rfl
@[simp] theorem State.setHse_norq (h : Nat) (x : Hse) : (s.setHse h x).norq = s.norq := rfl
@[simp] theorem State.setHse_rst (h : Nat) (x : Hse) : (s.setHse h x).rst = s.rst := rfl
@[simp] theorem State.setHse_ev (h : Nat) (x : Hse) : (s.setHse h x).ev = s.ev := rfl
@[simp] theorem State.setHse_erec (h : Nat) (x : Hse) : (s.setHse h x).erec = s.erec := rfl
@[simp] theorem State.setHse_age (h : Nat) (x : Hse) : (s.setHse h x).age = s.age := rfl
@[simp] theorem State.setHse_pwr (h : Nat) (x : Hse) : (s.setHse h x).pwr = s.pwr := rfl
@[simp] theorem State.setHse_spn (h : Nat) (x : Hse) : (s.setHse h x).spn = s.spn := rfl
@[simp] theorem State.setHse_arms (h : Nat) (x : Hse) : (s.setHse h x).arms = s.arms := rfl
@[simp] theorem State.setHse_hif (h : Nat) (x : Hse) : (s.setHse h x).hif = s.hif := rfl
@[simp] theorem State.setHse_psw (h : Nat) (x : Hse) : (s.setHse h x).psw = s.psw := rfl
@[simp] theorem State.setHse_l2 (h : Nat) (x : Hse) : (s.setHse h x).l2 = s.l2 := rfl
@[simp] theorem State.setHse_chans (h : Nat) (x : Hse) : (s.setHse h x).chans = s.chans := rfl
@[simp] theorem State.setHse_hls (h : Nat) (x : Hse) : (s.setHse h x).hls = s.hls := rfl
@[simp] theorem State.setHse_oce (h : Nat) (x : Hse) : (s.setHse h x).oce = s.oce := rfl
@[simp] theorem State.setHse_dma (h : Nat) (x : Hse) : (s.setHse h x).dma = s.dma := rfl
@[simp] theorem State.setHse_buf (h : Nat) (x : Hse) : (s.setHse h x).buf = s.buf := rfl
@[simp] theorem State.setHse_frc (h : Nat) (x : Hse) : (s.setHse h x).frc = s.frc := rfl
@[simp] theorem State.setHse_med (h : Nat) (x : Hse) : (s.setHse h x).med = s.med := rfl
@[simp] theorem State.setHse_frac (h : Nat) (x : Hse) : (s.setHse h x).frac = s.frac := rfl
@[simp] theorem State.setHse_free (h : Nat) (x : Hse) : (s.setHse h x).free = s.free := rfl
@[simp] theorem State.setHse_out (h : Nat) (x : Hse) : (s.setHse h x).out = s.out := rfl

/-! ### setChan -/

@[simp] theorem State.setChan_pending (h : Nat) (x : Chan) : (s.setChan h x).pending = s.pending := rfl
@[simp] theorem State.setChan_regs (h : Nat) (x : Chan) : (s.setChan h x).regs = s.regs := rfl
@[simp] theorem State.setChan_mem (h : Nat) (x : Chan) : (s.setChan h x).mem = s.mem := rfl
@[simp] theorem State.setChan_poison (h : Nat) (x : Chan) : (s.setChan h x).poison = s.poison := rfl
@[simp] theorem State.setChan_nor (h : Nat) (x : Chan) : (s.setChan h x).nor = s.nor := rfl
@[simp] theorem State.setChan_staged (h : Nat) (x : Chan) : (s.setChan h x).staged = s.staged := rfl
@[simp] theorem State.setChan_norq (h : Nat) (x : Chan) : (s.setChan h x).norq = s.norq := rfl
@[simp] theorem State.setChan_rst (h : Nat) (x : Chan) : (s.setChan h x).rst = s.rst := rfl
@[simp] theorem State.setChan_ev (h : Nat) (x : Chan) : (s.setChan h x).ev = s.ev := rfl
@[simp] theorem State.setChan_erec (h : Nat) (x : Chan) : (s.setChan h x).erec = s.erec := rfl
@[simp] theorem State.setChan_age (h : Nat) (x : Chan) : (s.setChan h x).age = s.age := rfl
@[simp] theorem State.setChan_pwr (h : Nat) (x : Chan) : (s.setChan h x).pwr = s.pwr := rfl
@[simp] theorem State.setChan_spn (h : Nat) (x : Chan) : (s.setChan h x).spn = s.spn := rfl
@[simp] theorem State.setChan_arms (h : Nat) (x : Chan) : (s.setChan h x).arms = s.arms := rfl
@[simp] theorem State.setChan_hif (h : Nat) (x : Chan) : (s.setChan h x).hif = s.hif := rfl
@[simp] theorem State.setChan_psw (h : Nat) (x : Chan) : (s.setChan h x).psw = s.psw := rfl
@[simp] theorem State.setChan_l2 (h : Nat) (x : Chan) : (s.setChan h x).l2 = s.l2 := rfl
@[simp] theorem State.setChan_hses (h : Nat) (x : Chan) : (s.setChan h x).hses = s.hses := rfl
@[simp] theorem State.setChan_hls (h : Nat) (x : Chan) : (s.setChan h x).hls = s.hls := rfl
@[simp] theorem State.setChan_oce (h : Nat) (x : Chan) : (s.setChan h x).oce = s.oce := rfl
@[simp] theorem State.setChan_dma (h : Nat) (x : Chan) : (s.setChan h x).dma = s.dma := rfl
@[simp] theorem State.setChan_buf (h : Nat) (x : Chan) : (s.setChan h x).buf = s.buf := rfl
@[simp] theorem State.setChan_frc (h : Nat) (x : Chan) : (s.setChan h x).frc = s.frc := rfl
@[simp] theorem State.setChan_med (h : Nat) (x : Chan) : (s.setChan h x).med = s.med := rfl
@[simp] theorem State.setChan_frac (h : Nat) (x : Chan) : (s.setChan h x).frac = s.frac := rfl
@[simp] theorem State.setChan_free (h : Nat) (x : Chan) : (s.setChan h x).free = s.free := rfl
@[simp] theorem State.setChan_out (h : Nat) (x : Chan) : (s.setChan h x).out = s.out := rfl

/-! ### setHlk -/

@[simp] theorem State.setHlk_pending (a : Nat) (x : Hlink) : (s.setHlk a x).pending = s.pending := rfl
@[simp] theorem State.setHlk_regs (a : Nat) (x : Hlink) : (s.setHlk a x).regs = s.regs := rfl
@[simp] theorem State.setHlk_mem (a : Nat) (x : Hlink) : (s.setHlk a x).mem = s.mem := rfl
@[simp] theorem State.setHlk_poison (a : Nat) (x : Hlink) : (s.setHlk a x).poison = s.poison := rfl
@[simp] theorem State.setHlk_nor (a : Nat) (x : Hlink) : (s.setHlk a x).nor = s.nor := rfl
@[simp] theorem State.setHlk_staged (a : Nat) (x : Hlink) : (s.setHlk a x).staged = s.staged := rfl
@[simp] theorem State.setHlk_norq (a : Nat) (x : Hlink) : (s.setHlk a x).norq = s.norq := rfl
@[simp] theorem State.setHlk_rst (a : Nat) (x : Hlink) : (s.setHlk a x).rst = s.rst := rfl
@[simp] theorem State.setHlk_ev (a : Nat) (x : Hlink) : (s.setHlk a x).ev = s.ev := rfl
@[simp] theorem State.setHlk_erec (a : Nat) (x : Hlink) : (s.setHlk a x).erec = s.erec := rfl
@[simp] theorem State.setHlk_age (a : Nat) (x : Hlink) : (s.setHlk a x).age = s.age := rfl
@[simp] theorem State.setHlk_pwr (a : Nat) (x : Hlink) : (s.setHlk a x).pwr = s.pwr := rfl
@[simp] theorem State.setHlk_spn (a : Nat) (x : Hlink) : (s.setHlk a x).spn = s.spn := rfl
@[simp] theorem State.setHlk_arms (a : Nat) (x : Hlink) : (s.setHlk a x).arms = s.arms := rfl
@[simp] theorem State.setHlk_hif (a : Nat) (x : Hlink) : (s.setHlk a x).hif = s.hif := rfl
@[simp] theorem State.setHlk_psw (a : Nat) (x : Hlink) : (s.setHlk a x).psw = s.psw := rfl
@[simp] theorem State.setHlk_l2 (a : Nat) (x : Hlink) : (s.setHlk a x).l2 = s.l2 := rfl
@[simp] theorem State.setHlk_hses (a : Nat) (x : Hlink) : (s.setHlk a x).hses = s.hses := rfl
@[simp] theorem State.setHlk_chans (a : Nat) (x : Hlink) : (s.setHlk a x).chans = s.chans := rfl
@[simp] theorem State.setHlk_oce (a : Nat) (x : Hlink) : (s.setHlk a x).oce = s.oce := rfl
@[simp] theorem State.setHlk_dma (a : Nat) (x : Hlink) : (s.setHlk a x).dma = s.dma := rfl
@[simp] theorem State.setHlk_buf (a : Nat) (x : Hlink) : (s.setHlk a x).buf = s.buf := rfl
@[simp] theorem State.setHlk_frc (a : Nat) (x : Hlink) : (s.setHlk a x).frc = s.frc := rfl
@[simp] theorem State.setHlk_med (a : Nat) (x : Hlink) : (s.setHlk a x).med = s.med := rfl
@[simp] theorem State.setHlk_frac (a : Nat) (x : Hlink) : (s.setHlk a x).frac = s.frac := rfl
@[simp] theorem State.setHlk_free (a : Nat) (x : Hlink) : (s.setHlk a x).free = s.free := rfl
@[simp] theorem State.setHlk_out (a : Nat) (x : Hlink) : (s.setHlk a x).out = s.out := rfl

/-! ### setDch -/

@[simp] theorem State.setDch_pending (c : Nat) (x : Dch) : (s.setDch c x).pending = s.pending := rfl
@[simp] theorem State.setDch_regs (c : Nat) (x : Dch) : (s.setDch c x).regs = s.regs := rfl
@[simp] theorem State.setDch_mem (c : Nat) (x : Dch) : (s.setDch c x).mem = s.mem := rfl
@[simp] theorem State.setDch_poison (c : Nat) (x : Dch) : (s.setDch c x).poison = s.poison := rfl
@[simp] theorem State.setDch_nor (c : Nat) (x : Dch) : (s.setDch c x).nor = s.nor := rfl
@[simp] theorem State.setDch_staged (c : Nat) (x : Dch) : (s.setDch c x).staged = s.staged := rfl
@[simp] theorem State.setDch_norq (c : Nat) (x : Dch) : (s.setDch c x).norq = s.norq := rfl
@[simp] theorem State.setDch_rst (c : Nat) (x : Dch) : (s.setDch c x).rst = s.rst := rfl
@[simp] theorem State.setDch_ev (c : Nat) (x : Dch) : (s.setDch c x).ev = s.ev := rfl
@[simp] theorem State.setDch_erec (c : Nat) (x : Dch) : (s.setDch c x).erec = s.erec := rfl
@[simp] theorem State.setDch_age (c : Nat) (x : Dch) : (s.setDch c x).age = s.age := rfl
@[simp] theorem State.setDch_pwr (c : Nat) (x : Dch) : (s.setDch c x).pwr = s.pwr := rfl
@[simp] theorem State.setDch_spn (c : Nat) (x : Dch) : (s.setDch c x).spn = s.spn := rfl
@[simp] theorem State.setDch_arms (c : Nat) (x : Dch) : (s.setDch c x).arms = s.arms := rfl
@[simp] theorem State.setDch_hif (c : Nat) (x : Dch) : (s.setDch c x).hif = s.hif := rfl
@[simp] theorem State.setDch_psw (c : Nat) (x : Dch) : (s.setDch c x).psw = s.psw := rfl
@[simp] theorem State.setDch_l2 (c : Nat) (x : Dch) : (s.setDch c x).l2 = s.l2 := rfl
@[simp] theorem State.setDch_hses (c : Nat) (x : Dch) : (s.setDch c x).hses = s.hses := rfl
@[simp] theorem State.setDch_chans (c : Nat) (x : Dch) : (s.setDch c x).chans = s.chans := rfl
@[simp] theorem State.setDch_hls (c : Nat) (x : Dch) : (s.setDch c x).hls = s.hls := rfl
@[simp] theorem State.setDch_oce (c : Nat) (x : Dch) : (s.setDch c x).oce = s.oce := rfl
@[simp] theorem State.setDch_buf (c : Nat) (x : Dch) : (s.setDch c x).buf = s.buf := rfl
@[simp] theorem State.setDch_frc (c : Nat) (x : Dch) : (s.setDch c x).frc = s.frc := rfl
@[simp] theorem State.setDch_med (c : Nat) (x : Dch) : (s.setDch c x).med = s.med := rfl
@[simp] theorem State.setDch_frac (c : Nat) (x : Dch) : (s.setDch c x).frac = s.frac := rfl
@[simp] theorem State.setDch_free (c : Nat) (x : Dch) : (s.setDch c x).free = s.free := rfl
@[simp] theorem State.setDch_out (c : Nat) (x : Dch) : (s.setDch c x).out = s.out := rfl

/-! ### setL2 -/

@[simp] theorem State.setL2_pending (f : L2 → L2) : (s.setL2 f).pending = s.pending := rfl
@[simp] theorem State.setL2_regs (f : L2 → L2) : (s.setL2 f).regs = s.regs := rfl
@[simp] theorem State.setL2_mem (f : L2 → L2) : (s.setL2 f).mem = s.mem := rfl
@[simp] theorem State.setL2_poison (f : L2 → L2) : (s.setL2 f).poison = s.poison := rfl
@[simp] theorem State.setL2_nor (f : L2 → L2) : (s.setL2 f).nor = s.nor := rfl
@[simp] theorem State.setL2_staged (f : L2 → L2) : (s.setL2 f).staged = s.staged := rfl
@[simp] theorem State.setL2_norq (f : L2 → L2) : (s.setL2 f).norq = s.norq := rfl
@[simp] theorem State.setL2_rst (f : L2 → L2) : (s.setL2 f).rst = s.rst := rfl
@[simp] theorem State.setL2_ev (f : L2 → L2) : (s.setL2 f).ev = s.ev := rfl
@[simp] theorem State.setL2_erec (f : L2 → L2) : (s.setL2 f).erec = s.erec := rfl
@[simp] theorem State.setL2_age (f : L2 → L2) : (s.setL2 f).age = s.age := rfl
@[simp] theorem State.setL2_pwr (f : L2 → L2) : (s.setL2 f).pwr = s.pwr := rfl
@[simp] theorem State.setL2_spn (f : L2 → L2) : (s.setL2 f).spn = s.spn := rfl
@[simp] theorem State.setL2_arms (f : L2 → L2) : (s.setL2 f).arms = s.arms := rfl
@[simp] theorem State.setL2_hif (f : L2 → L2) : (s.setL2 f).hif = s.hif := rfl
@[simp] theorem State.setL2_psw (f : L2 → L2) : (s.setL2 f).psw = s.psw := rfl
@[simp] theorem State.setL2_hses (f : L2 → L2) : (s.setL2 f).hses = s.hses := rfl
@[simp] theorem State.setL2_chans (f : L2 → L2) : (s.setL2 f).chans = s.chans := rfl
@[simp] theorem State.setL2_hls (f : L2 → L2) : (s.setL2 f).hls = s.hls := rfl
@[simp] theorem State.setL2_oce (f : L2 → L2) : (s.setL2 f).oce = s.oce := rfl
@[simp] theorem State.setL2_dma (f : L2 → L2) : (s.setL2 f).dma = s.dma := rfl
@[simp] theorem State.setL2_buf (f : L2 → L2) : (s.setL2 f).buf = s.buf := rfl
@[simp] theorem State.setL2_frc (f : L2 → L2) : (s.setL2 f).frc = s.frc := rfl
@[simp] theorem State.setL2_med (f : L2 → L2) : (s.setL2 f).med = s.med := rfl
@[simp] theorem State.setL2_frac (f : L2 → L2) : (s.setL2 f).frac = s.frac := rfl
@[simp] theorem State.setL2_free (f : L2 → L2) : (s.setL2 f).free = s.free := rfl
@[simp] theorem State.setL2_out (f : L2 → L2) : (s.setL2 f).out = s.out := rfl

/-! ### setCmds -/

@[simp] theorem State.setCmds_pending (l : List Cmd) : (s.setCmds l).pending = s.pending := rfl
@[simp] theorem State.setCmds_regs (l : List Cmd) : (s.setCmds l).regs = s.regs := rfl
@[simp] theorem State.setCmds_mem (l : List Cmd) : (s.setCmds l).mem = s.mem := rfl
@[simp] theorem State.setCmds_poison (l : List Cmd) : (s.setCmds l).poison = s.poison := rfl
@[simp] theorem State.setCmds_nor (l : List Cmd) : (s.setCmds l).nor = s.nor := rfl
@[simp] theorem State.setCmds_staged (l : List Cmd) : (s.setCmds l).staged = s.staged := rfl
@[simp] theorem State.setCmds_norq (l : List Cmd) : (s.setCmds l).norq = s.norq := rfl
@[simp] theorem State.setCmds_rst (l : List Cmd) : (s.setCmds l).rst = s.rst := rfl
@[simp] theorem State.setCmds_ev (l : List Cmd) : (s.setCmds l).ev = s.ev := rfl
@[simp] theorem State.setCmds_erec (l : List Cmd) : (s.setCmds l).erec = s.erec := rfl
@[simp] theorem State.setCmds_age (l : List Cmd) : (s.setCmds l).age = s.age := rfl
@[simp] theorem State.setCmds_pwr (l : List Cmd) : (s.setCmds l).pwr = s.pwr := rfl
@[simp] theorem State.setCmds_spn (l : List Cmd) : (s.setCmds l).spn = s.spn := rfl
@[simp] theorem State.setCmds_arms (l : List Cmd) : (s.setCmds l).arms = s.arms := rfl
@[simp] theorem State.setCmds_psw (l : List Cmd) : (s.setCmds l).psw = s.psw := rfl
@[simp] theorem State.setCmds_l2 (l : List Cmd) : (s.setCmds l).l2 = s.l2 := rfl
@[simp] theorem State.setCmds_hses (l : List Cmd) : (s.setCmds l).hses = s.hses := rfl
@[simp] theorem State.setCmds_chans (l : List Cmd) : (s.setCmds l).chans = s.chans := rfl
@[simp] theorem State.setCmds_hls (l : List Cmd) : (s.setCmds l).hls = s.hls := rfl
@[simp] theorem State.setCmds_oce (l : List Cmd) : (s.setCmds l).oce = s.oce := rfl
@[simp] theorem State.setCmds_dma (l : List Cmd) : (s.setCmds l).dma = s.dma := rfl
@[simp] theorem State.setCmds_buf (l : List Cmd) : (s.setCmds l).buf = s.buf := rfl
@[simp] theorem State.setCmds_frc (l : List Cmd) : (s.setCmds l).frc = s.frc := rfl
@[simp] theorem State.setCmds_med (l : List Cmd) : (s.setCmds l).med = s.med := rfl
@[simp] theorem State.setCmds_frac (l : List Cmd) : (s.setCmds l).frac = s.frac := rfl
@[simp] theorem State.setCmds_free (l : List Cmd) : (s.setCmds l).free = s.free := rfl
@[simp] theorem State.setCmds_out (l : List Cmd) : (s.setCmds l).out = s.out := rfl

/-! ### setCounts -/

@[simp] theorem State.setCounts_pending (l : List AgeCount) : (s.setCounts l).pending = s.pending := rfl
@[simp] theorem State.setCounts_regs (l : List AgeCount) : (s.setCounts l).regs = s.regs := rfl
@[simp] theorem State.setCounts_mem (l : List AgeCount) : (s.setCounts l).mem = s.mem := rfl
@[simp] theorem State.setCounts_poison (l : List AgeCount) : (s.setCounts l).poison = s.poison := rfl
@[simp] theorem State.setCounts_nor (l : List AgeCount) : (s.setCounts l).nor = s.nor := rfl
@[simp] theorem State.setCounts_staged (l : List AgeCount) : (s.setCounts l).staged = s.staged := rfl
@[simp] theorem State.setCounts_norq (l : List AgeCount) : (s.setCounts l).norq = s.norq := rfl
@[simp] theorem State.setCounts_rst (l : List AgeCount) : (s.setCounts l).rst = s.rst := rfl
@[simp] theorem State.setCounts_erec (l : List AgeCount) : (s.setCounts l).erec = s.erec := rfl
@[simp] theorem State.setCounts_age (l : List AgeCount) : (s.setCounts l).age = s.age := rfl
@[simp] theorem State.setCounts_pwr (l : List AgeCount) : (s.setCounts l).pwr = s.pwr := rfl
@[simp] theorem State.setCounts_spn (l : List AgeCount) : (s.setCounts l).spn = s.spn := rfl
@[simp] theorem State.setCounts_arms (l : List AgeCount) : (s.setCounts l).arms = s.arms := rfl
@[simp] theorem State.setCounts_hif (l : List AgeCount) : (s.setCounts l).hif = s.hif := rfl
@[simp] theorem State.setCounts_psw (l : List AgeCount) : (s.setCounts l).psw = s.psw := rfl
@[simp] theorem State.setCounts_l2 (l : List AgeCount) : (s.setCounts l).l2 = s.l2 := rfl
@[simp] theorem State.setCounts_hses (l : List AgeCount) : (s.setCounts l).hses = s.hses := rfl
@[simp] theorem State.setCounts_chans (l : List AgeCount) : (s.setCounts l).chans = s.chans := rfl
@[simp] theorem State.setCounts_hls (l : List AgeCount) : (s.setCounts l).hls = s.hls := rfl
@[simp] theorem State.setCounts_oce (l : List AgeCount) : (s.setCounts l).oce = s.oce := rfl
@[simp] theorem State.setCounts_dma (l : List AgeCount) : (s.setCounts l).dma = s.dma := rfl
@[simp] theorem State.setCounts_buf (l : List AgeCount) : (s.setCounts l).buf = s.buf := rfl
@[simp] theorem State.setCounts_frc (l : List AgeCount) : (s.setCounts l).frc = s.frc := rfl
@[simp] theorem State.setCounts_med (l : List AgeCount) : (s.setCounts l).med = s.med := rfl
@[simp] theorem State.setCounts_frac (l : List AgeCount) : (s.setCounts l).frac = s.frac := rfl
@[simp] theorem State.setCounts_free (l : List AgeCount) : (s.setCounts l).free = s.free := rfl
@[simp] theorem State.setCounts_out (l : List AgeCount) : (s.setCounts l).out = s.out := rfl

/-! ### setMbs -/

@[simp] theorem State.setMbs_pending (a : Nat) (b : List Byte) : (s.setMbs a b).pending = s.pending := rfl
@[simp] theorem State.setMbs_regs (a : Nat) (b : List Byte) : (s.setMbs a b).regs = s.regs := rfl
@[simp] theorem State.setMbs_poison (a : Nat) (b : List Byte) : (s.setMbs a b).poison = s.poison := rfl
@[simp] theorem State.setMbs_nor (a : Nat) (b : List Byte) : (s.setMbs a b).nor = s.nor := rfl
@[simp] theorem State.setMbs_staged (a : Nat) (b : List Byte) : (s.setMbs a b).staged = s.staged := rfl
@[simp] theorem State.setMbs_norq (a : Nat) (b : List Byte) : (s.setMbs a b).norq = s.norq := rfl
@[simp] theorem State.setMbs_rst (a : Nat) (b : List Byte) : (s.setMbs a b).rst = s.rst := rfl
@[simp] theorem State.setMbs_ev (a : Nat) (b : List Byte) : (s.setMbs a b).ev = s.ev := rfl
@[simp] theorem State.setMbs_erec (a : Nat) (b : List Byte) : (s.setMbs a b).erec = s.erec := rfl
@[simp] theorem State.setMbs_age (a : Nat) (b : List Byte) : (s.setMbs a b).age = s.age := rfl
@[simp] theorem State.setMbs_pwr (a : Nat) (b : List Byte) : (s.setMbs a b).pwr = s.pwr := rfl
@[simp] theorem State.setMbs_spn (a : Nat) (b : List Byte) : (s.setMbs a b).spn = s.spn := rfl
@[simp] theorem State.setMbs_arms (a : Nat) (b : List Byte) : (s.setMbs a b).arms = s.arms := rfl
@[simp] theorem State.setMbs_hif (a : Nat) (b : List Byte) : (s.setMbs a b).hif = s.hif := rfl
@[simp] theorem State.setMbs_psw (a : Nat) (b : List Byte) : (s.setMbs a b).psw = s.psw := rfl
@[simp] theorem State.setMbs_l2 (a : Nat) (b : List Byte) : (s.setMbs a b).l2 = s.l2 := rfl
@[simp] theorem State.setMbs_hses (a : Nat) (b : List Byte) : (s.setMbs a b).hses = s.hses := rfl
@[simp] theorem State.setMbs_chans (a : Nat) (b : List Byte) : (s.setMbs a b).chans = s.chans := rfl
@[simp] theorem State.setMbs_hls (a : Nat) (b : List Byte) : (s.setMbs a b).hls = s.hls := rfl
@[simp] theorem State.setMbs_oce (a : Nat) (b : List Byte) : (s.setMbs a b).oce = s.oce := rfl
@[simp] theorem State.setMbs_dma (a : Nat) (b : List Byte) : (s.setMbs a b).dma = s.dma := rfl
@[simp] theorem State.setMbs_buf (a : Nat) (b : List Byte) : (s.setMbs a b).buf = s.buf := rfl
@[simp] theorem State.setMbs_frc (a : Nat) (b : List Byte) : (s.setMbs a b).frc = s.frc := rfl
@[simp] theorem State.setMbs_med (a : Nat) (b : List Byte) : (s.setMbs a b).med = s.med := rfl
@[simp] theorem State.setMbs_frac (a : Nat) (b : List Byte) : (s.setMbs a b).frac = s.frac := rfl
@[simp] theorem State.setMbs_free (a : Nat) (b : List Byte) : (s.setMbs a b).free = s.free := rfl
@[simp] theorem State.setMbs_out (a : Nat) (b : List Byte) : (s.setMbs a b).out = s.out := rfl

/-! ### hold -/

@[simp] theorem State.hold_pending (n : Nat) (l : List (Nat × Nat)) : (s.hold n l).pending = s.pending := rfl
@[simp] theorem State.hold_regs (n : Nat) (l : List (Nat × Nat)) : (s.hold n l).regs = s.regs := rfl
@[simp] theorem State.hold_mem (n : Nat) (l : List (Nat × Nat)) : (s.hold n l).mem = s.mem := rfl
@[simp] theorem State.hold_poison (n : Nat) (l : List (Nat × Nat)) : (s.hold n l).poison = s.poison := rfl
@[simp] theorem State.hold_nor (n : Nat) (l : List (Nat × Nat)) : (s.hold n l).nor = s.nor := rfl
@[simp] theorem State.hold_staged (n : Nat) (l : List (Nat × Nat)) : (s.hold n l).staged = s.staged := rfl
@[simp] theorem State.hold_norq (n : Nat) (l : List (Nat × Nat)) : (s.hold n l).norq = s.norq := rfl
@[simp] theorem State.hold_rst (n : Nat) (l : List (Nat × Nat)) : (s.hold n l).rst = s.rst := rfl
@[simp] theorem State.hold_ev (n : Nat) (l : List (Nat × Nat)) : (s.hold n l).ev = s.ev := rfl
@[simp] theorem State.hold_erec (n : Nat) (l : List (Nat × Nat)) : (s.hold n l).erec = s.erec := rfl
@[simp] theorem State.hold_age (n : Nat) (l : List (Nat × Nat)) : (s.hold n l).age = s.age := rfl
@[simp] theorem State.hold_spn (n : Nat) (l : List (Nat × Nat)) : (s.hold n l).spn = s.spn := rfl
@[simp] theorem State.hold_arms (n : Nat) (l : List (Nat × Nat)) : (s.hold n l).arms = s.arms := rfl
@[simp] theorem State.hold_hif (n : Nat) (l : List (Nat × Nat)) : (s.hold n l).hif = s.hif := rfl
@[simp] theorem State.hold_psw (n : Nat) (l : List (Nat × Nat)) : (s.hold n l).psw = s.psw := rfl
@[simp] theorem State.hold_l2 (n : Nat) (l : List (Nat × Nat)) : (s.hold n l).l2 = s.l2 := rfl
@[simp] theorem State.hold_hses (n : Nat) (l : List (Nat × Nat)) : (s.hold n l).hses = s.hses := rfl
@[simp] theorem State.hold_chans (n : Nat) (l : List (Nat × Nat)) : (s.hold n l).chans = s.chans := rfl
@[simp] theorem State.hold_hls (n : Nat) (l : List (Nat × Nat)) : (s.hold n l).hls = s.hls := rfl
@[simp] theorem State.hold_oce (n : Nat) (l : List (Nat × Nat)) : (s.hold n l).oce = s.oce := rfl
@[simp] theorem State.hold_dma (n : Nat) (l : List (Nat × Nat)) : (s.hold n l).dma = s.dma := rfl
@[simp] theorem State.hold_buf (n : Nat) (l : List (Nat × Nat)) : (s.hold n l).buf = s.buf := rfl
@[simp] theorem State.hold_frc (n : Nat) (l : List (Nat × Nat)) : (s.hold n l).frc = s.frc := rfl
@[simp] theorem State.hold_med (n : Nat) (l : List (Nat × Nat)) : (s.hold n l).med = s.med := rfl
@[simp] theorem State.hold_frac (n : Nat) (l : List (Nat × Nat)) : (s.hold n l).frac = s.frac := rfl
@[simp] theorem State.hold_free (n : Nat) (l : List (Nat × Nat)) : (s.hold n l).free = s.free := rfl
@[simp] theorem State.hold_out (n : Nat) (l : List (Nat × Nat)) : (s.hold n l).out = s.out := rfl

/-! ### edge -/

@[simp] theorem State.edge_pending (n : Nat) : (s.edge n).pending = s.pending := rfl
@[simp] theorem State.edge_regs (n : Nat) : (s.edge n).regs = s.regs := rfl
@[simp] theorem State.edge_mem (n : Nat) : (s.edge n).mem = s.mem := rfl
@[simp] theorem State.edge_poison (n : Nat) : (s.edge n).poison = s.poison := rfl
@[simp] theorem State.edge_nor (n : Nat) : (s.edge n).nor = s.nor := rfl
@[simp] theorem State.edge_staged (n : Nat) : (s.edge n).staged = s.staged := rfl
@[simp] theorem State.edge_norq (n : Nat) : (s.edge n).norq = s.norq := rfl
@[simp] theorem State.edge_rst (n : Nat) : (s.edge n).rst = s.rst := rfl
@[simp] theorem State.edge_erec (n : Nat) : (s.edge n).erec = s.erec := rfl
@[simp] theorem State.edge_age (n : Nat) : (s.edge n).age = s.age := rfl
@[simp] theorem State.edge_pwr (n : Nat) : (s.edge n).pwr = s.pwr := rfl
@[simp] theorem State.edge_spn (n : Nat) : (s.edge n).spn = s.spn := rfl
@[simp] theorem State.edge_arms (n : Nat) : (s.edge n).arms = s.arms := rfl
@[simp] theorem State.edge_hif (n : Nat) : (s.edge n).hif = s.hif := rfl
@[simp] theorem State.edge_psw (n : Nat) : (s.edge n).psw = s.psw := rfl
@[simp] theorem State.edge_l2 (n : Nat) : (s.edge n).l2 = s.l2 := rfl
@[simp] theorem State.edge_hses (n : Nat) : (s.edge n).hses = s.hses := rfl
@[simp] theorem State.edge_chans (n : Nat) : (s.edge n).chans = s.chans := rfl
@[simp] theorem State.edge_hls (n : Nat) : (s.edge n).hls = s.hls := rfl
@[simp] theorem State.edge_oce (n : Nat) : (s.edge n).oce = s.oce := rfl
@[simp] theorem State.edge_dma (n : Nat) : (s.edge n).dma = s.dma := rfl
@[simp] theorem State.edge_buf (n : Nat) : (s.edge n).buf = s.buf := rfl
@[simp] theorem State.edge_frc (n : Nat) : (s.edge n).frc = s.frc := rfl
@[simp] theorem State.edge_med (n : Nat) : (s.edge n).med = s.med := rfl
@[simp] theorem State.edge_frac (n : Nat) : (s.edge n).frac = s.frac := rfl
@[simp] theorem State.edge_free (n : Nat) : (s.edge n).free = s.free := rfl
@[simp] theorem State.edge_out (n : Nat) : (s.edge n).out = s.out := rfl

/-! ### setMed -/

@[simp] theorem State.setMed_pending (m : Media) : (s.setMed m).pending = s.pending := rfl
@[simp] theorem State.setMed_regs (m : Media) : (s.setMed m).regs = s.regs := rfl
@[simp] theorem State.setMed_mem (m : Media) : (s.setMed m).mem = s.mem := rfl
@[simp] theorem State.setMed_poison (m : Media) : (s.setMed m).poison = s.poison := rfl
@[simp] theorem State.setMed_nor (m : Media) : (s.setMed m).nor = s.nor := rfl
@[simp] theorem State.setMed_staged (m : Media) : (s.setMed m).staged = s.staged := rfl
@[simp] theorem State.setMed_norq (m : Media) : (s.setMed m).norq = s.norq := rfl
@[simp] theorem State.setMed_rst (m : Media) : (s.setMed m).rst = s.rst := rfl
@[simp] theorem State.setMed_ev (m : Media) : (s.setMed m).ev = s.ev := rfl
@[simp] theorem State.setMed_erec (m : Media) : (s.setMed m).erec = s.erec := rfl
@[simp] theorem State.setMed_age (m : Media) : (s.setMed m).age = s.age := rfl
@[simp] theorem State.setMed_pwr (m : Media) : (s.setMed m).pwr = s.pwr := rfl
@[simp] theorem State.setMed_spn (m : Media) : (s.setMed m).spn = s.spn := rfl
@[simp] theorem State.setMed_arms (m : Media) : (s.setMed m).arms = s.arms := rfl
@[simp] theorem State.setMed_hif (m : Media) : (s.setMed m).hif = s.hif := rfl
@[simp] theorem State.setMed_psw (m : Media) : (s.setMed m).psw = s.psw := rfl
@[simp] theorem State.setMed_l2 (m : Media) : (s.setMed m).l2 = s.l2 := rfl
@[simp] theorem State.setMed_hses (m : Media) : (s.setMed m).hses = s.hses := rfl
@[simp] theorem State.setMed_chans (m : Media) : (s.setMed m).chans = s.chans := rfl
@[simp] theorem State.setMed_hls (m : Media) : (s.setMed m).hls = s.hls := rfl
@[simp] theorem State.setMed_oce (m : Media) : (s.setMed m).oce = s.oce := rfl
@[simp] theorem State.setMed_dma (m : Media) : (s.setMed m).dma = s.dma := rfl
@[simp] theorem State.setMed_buf (m : Media) : (s.setMed m).buf = s.buf := rfl
@[simp] theorem State.setMed_frc (m : Media) : (s.setMed m).frc = s.frc := rfl
@[simp] theorem State.setMed_med (m : Media) : (s.setMed m).med = m := rfl
@[simp] theorem State.setMed_frac (m : Media) : (s.setMed m).frac = s.frac := rfl
@[simp] theorem State.setMed_free (m : Media) : (s.setMed m).free = s.free := rfl
@[simp] theorem State.setMed_out (m : Media) : (s.setMed m).out = s.out := rfl

end Sys2Proof.Machine
end

