-- ==== Sys2Proof/Laws/Events.lean ====
section
/-! SUPPORT. Laws/Events.lean: raising an event changes the event part only. -/

namespace Sys2Proof.Machine

variable (s : State)

theorem State.event_eq (n : Nat) (fw : Bool) (d : List Byte × Bool) :
    s.event n fw d = { s with ev := (s.event n fw d).ev } := by
  simp only [State.event]

theorem State.lostRun_eq : s.lostRun = { s with ev := s.lostRun.ev } := by
  unfold State.lostRun
  split
  · rfl
  · split
    · rw [State.event_eq]
    · rfl

theorem State.raiseRaw_eq (n : Nat) (fw : Bool) (d : List Byte × Bool) :
    s.raiseRaw n fw d = { s with ev := (s.raiseRaw n fw d).ev } := by
  unfold State.raiseRaw
  split
  · rw [State.event_eq, State.lostRun_eq]
  · rfl

theorem State.raise_eq (n : Nat) (l : List (Nat × Nat)) : s.raise n l = { s with ev := (s.raise n l).ev } :=
  State.raiseRaw_eq s n false (pack l)

@[simp] theorem State.raiseRaw_pending (n : Nat) (fw : Bool) (d : List Byte × Bool) : (s.raiseRaw n fw d).pending = s.pending := by
  rw [State.raiseRaw_eq]
@[simp] theorem State.raiseRaw_regs (n : Nat) (fw : Bool) (d : List Byte × Bool) : (s.raiseRaw n fw d).regs = s.regs := by
  rw [State.raiseRaw_eq]
@[simp] theorem State.raiseRaw_mem (n : Nat) (fw : Bool) (d : List Byte × Bool) : (s.raiseRaw n fw d).mem = s.mem := by
  rw [State.raiseRaw_eq]
@[simp] theorem State.raiseRaw_poison (n : Nat) (fw : Bool) (d : List Byte × Bool) : (s.raiseRaw n fw d).poison = s.poison := by
  rw [State.raiseRaw_eq]
@[simp] theorem State.raiseRaw_nor (n : Nat) (fw : Bool) (d : List Byte × Bool) : (s.raiseRaw n fw d).nor = s.nor := by
  rw [State.raiseRaw_eq]
@[simp] theorem State.raiseRaw_staged (n : Nat) (fw : Bool) (d : List Byte × Bool) : (s.raiseRaw n fw d).staged = s.staged := by
  rw [State.raiseRaw_eq]
@[simp] theorem State.raiseRaw_norq (n : Nat) (fw : Bool) (d : List Byte × Bool) : (s.raiseRaw n fw d).norq = s.norq := by
  rw [State.raiseRaw_eq]
@[simp] theorem State.raiseRaw_rst (n : Nat) (fw : Bool) (d : List Byte × Bool) : (s.raiseRaw n fw d).rst = s.rst := by
  rw [State.raiseRaw_eq]
@[simp] theorem State.raiseRaw_erec (n : Nat) (fw : Bool) (d : List Byte × Bool) : (s.raiseRaw n fw d).erec = s.erec := by
  rw [State.raiseRaw_eq]
@[simp] theorem State.raiseRaw_age (n : Nat) (fw : Bool) (d : List Byte × Bool) : (s.raiseRaw n fw d).age = s.age := by
  rw [State.raiseRaw_eq]
@[simp] theorem State.raiseRaw_pwr (n : Nat) (fw : Bool) (d : List Byte × Bool) : (s.raiseRaw n fw d).pwr = s.pwr := by
  rw [State.raiseRaw_eq]
@[simp] theorem State.raiseRaw_spn (n : Nat) (fw : Bool) (d : List Byte × Bool) : (s.raiseRaw n fw d).spn = s.spn := by
  rw [State.raiseRaw_eq]
@[simp] theorem State.raiseRaw_arms (n : Nat) (fw : Bool) (d : List Byte × Bool) : (s.raiseRaw n fw d).arms = s.arms := by
  rw [State.raiseRaw_eq]
@[simp] theorem State.raiseRaw_hif (n : Nat) (fw : Bool) (d : List Byte × Bool) : (s.raiseRaw n fw d).hif = s.hif := by
  rw [State.raiseRaw_eq]
@[simp] theorem State.raiseRaw_psw (n : Nat) (fw : Bool) (d : List Byte × Bool) : (s.raiseRaw n fw d).psw = s.psw := by
  rw [State.raiseRaw_eq]
@[simp] theorem State.raiseRaw_l2 (n : Nat) (fw : Bool) (d : List Byte × Bool) : (s.raiseRaw n fw d).l2 = s.l2 := by
  rw [State.raiseRaw_eq]
@[simp] theorem State.raiseRaw_hses (n : Nat) (fw : Bool) (d : List Byte × Bool) : (s.raiseRaw n fw d).hses = s.hses := by
  rw [State.raiseRaw_eq]
@[simp] theorem State.raiseRaw_chans (n : Nat) (fw : Bool) (d : List Byte × Bool) : (s.raiseRaw n fw d).chans = s.chans := by
  rw [State.raiseRaw_eq]
@[simp] theorem State.raiseRaw_hls (n : Nat) (fw : Bool) (d : List Byte × Bool) : (s.raiseRaw n fw d).hls = s.hls := by
  rw [State.raiseRaw_eq]
@[simp] theorem State.raiseRaw_oce (n : Nat) (fw : Bool) (d : List Byte × Bool) : (s.raiseRaw n fw d).oce = s.oce := by
  rw [State.raiseRaw_eq]
@[simp] theorem State.raiseRaw_dma (n : Nat) (fw : Bool) (d : List Byte × Bool) : (s.raiseRaw n fw d).dma = s.dma := by
  rw [State.raiseRaw_eq]
@[simp] theorem State.raiseRaw_buf (n : Nat) (fw : Bool) (d : List Byte × Bool) : (s.raiseRaw n fw d).buf = s.buf := by
  rw [State.raiseRaw_eq]
@[simp] theorem State.raiseRaw_frc (n : Nat) (fw : Bool) (d : List Byte × Bool) : (s.raiseRaw n fw d).frc = s.frc := by
  rw [State.raiseRaw_eq]
@[simp] theorem State.raiseRaw_med (n : Nat) (fw : Bool) (d : List Byte × Bool) : (s.raiseRaw n fw d).med = s.med := by
  rw [State.raiseRaw_eq]
@[simp] theorem State.raiseRaw_frac (n : Nat) (fw : Bool) (d : List Byte × Bool) : (s.raiseRaw n fw d).frac = s.frac := by
  rw [State.raiseRaw_eq]
@[simp] theorem State.raiseRaw_free (n : Nat) (fw : Bool) (d : List Byte × Bool) : (s.raiseRaw n fw d).free = s.free := by
  rw [State.raiseRaw_eq]
@[simp] theorem State.raiseRaw_out (n : Nat) (fw : Bool) (d : List Byte × Bool) : (s.raiseRaw n fw d).out = s.out := by
  rw [State.raiseRaw_eq]
@[simp] theorem State.raise_pending (n : Nat) (l : List (Nat × Nat)) : (s.raise n l).pending = s.pending := by
  rw [State.raise_eq]
@[simp] theorem State.raise_regs (n : Nat) (l : List (Nat × Nat)) : (s.raise n l).regs = s.regs := by
  rw [State.raise_eq]
@[simp] theorem State.raise_mem (n : Nat) (l : List (Nat × Nat)) : (s.raise n l).mem = s.mem := by
  rw [State.raise_eq]
@[simp] theorem State.raise_poison (n : Nat) (l : List (Nat × Nat)) : (s.raise n l).poison = s.poison := by
  rw [State.raise_eq]
@[simp] theorem State.raise_nor (n : Nat) (l : List (Nat × Nat)) : (s.raise n l).nor = s.nor := by
  rw [State.raise_eq]
@[simp] theorem State.raise_staged (n : Nat) (l : List (Nat × Nat)) : (s.raise n l).staged = s.staged := by
  rw [State.raise_eq]
@[simp] theorem State.raise_norq (n : Nat) (l : List (Nat × Nat)) : (s.raise n l).norq = s.norq := by
  rw [State.raise_eq]
@[simp] theorem State.raise_rst (n : Nat) (l : List (Nat × Nat)) : (s.raise n l).rst = s.rst := by
  rw [State.raise_eq]
@[simp] theorem State.raise_erec (n : Nat) (l : List (Nat × Nat)) : (s.raise n l).erec = s.erec := by
  rw [State.raise_eq]
@[simp] theorem State.raise_age (n : Nat) (l : List (Nat × Nat)) : (s.raise n l).age = s.age := by
  rw [State.raise_eq]
@[simp] theorem State.raise_pwr (n : Nat) (l : List (Nat × Nat)) : (s.raise n l).pwr = s.pwr := by
  rw [State.raise_eq]
@[simp] theorem State.raise_spn (n : Nat) (l : List (Nat × Nat)) : (s.raise n l).spn = s.spn := by
  rw [State.raise_eq]
@[simp] theorem State.raise_arms (n : Nat) (l : List (Nat × Nat)) : (s.raise n l).arms = s.arms := by
  rw [State.raise_eq]
@[simp] theorem State.raise_hif (n : Nat) (l : List (Nat × Nat)) : (s.raise n l).hif = s.hif := by
  rw [State.raise_eq]
@[simp] theorem State.raise_psw (n : Nat) (l : List (Nat × Nat)) : (s.raise n l).psw = s.psw := by
  rw [State.raise_eq]
@[simp] theorem State.raise_l2 (n : Nat) (l : List (Nat × Nat)) : (s.raise n l).l2 = s.l2 := by
  rw [State.raise_eq]
@[simp] theorem State.raise_hses (n : Nat) (l : List (Nat × Nat)) : (s.raise n l).hses = s.hses := by
  rw [State.raise_eq]
@[simp] theorem State.raise_chans (n : Nat) (l : List (Nat × Nat)) : (s.raise n l).chans = s.chans := by
  rw [State.raise_eq]
@[simp] theorem State.raise_hls (n : Nat) (l : List (Nat × Nat)) : (s.raise n l).hls = s.hls := by
  rw [State.raise_eq]
@[simp] theorem State.raise_oce (n : Nat) (l : List (Nat × Nat)) : (s.raise n l).oce = s.oce := by
  rw [State.raise_eq]
@[simp] theorem State.raise_dma (n : Nat) (l : List (Nat × Nat)) : (s.raise n l).dma = s.dma := by
  rw [State.raise_eq]
@[simp] theorem State.raise_buf (n : Nat) (l : List (Nat × Nat)) : (s.raise n l).buf = s.buf := by
  rw [State.raise_eq]
@[simp] theorem State.raise_frc (n : Nat) (l : List (Nat × Nat)) : (s.raise n l).frc = s.frc := by
  rw [State.raise_eq]
@[simp] theorem State.raise_med (n : Nat) (l : List (Nat × Nat)) : (s.raise n l).med = s.med := by
  rw [State.raise_eq]
@[simp] theorem State.raise_frac (n : Nat) (l : List (Nat × Nat)) : (s.raise n l).frac = s.frac := by
  rw [State.raise_eq]
@[simp] theorem State.raise_free (n : Nat) (l : List (Nat × Nat)) : (s.raise n l).free = s.free := by
  rw [State.raise_eq]
@[simp] theorem State.raise_out (n : Nat) (l : List (Nat × Nat)) : (s.raise n l).out = s.out := by
  rw [State.raise_eq]
@[simp] theorem State.lostRun_pending : s.lostRun.pending = s.pending := by
  rw [State.lostRun_eq]
@[simp] theorem State.lostRun_regs : s.lostRun.regs = s.regs := by
  rw [State.lostRun_eq]
@[simp] theorem State.lostRun_mem : s.lostRun.mem = s.mem := by
  rw [State.lostRun_eq]
@[simp] theorem State.lostRun_poison : s.lostRun.poison = s.poison := by
  rw [State.lostRun_eq]
@[simp] theorem State.lostRun_nor : s.lostRun.nor = s.nor := by
  rw [State.lostRun_eq]
@[simp] theorem State.lostRun_staged : s.lostRun.staged = s.staged := by
  rw [State.lostRun_eq]
@[simp] theorem State.lostRun_norq : s.lostRun.norq = s.norq := by
  rw [State.lostRun_eq]
@[simp] theorem State.lostRun_rst : s.lostRun.rst = s.rst := by
  rw [State.lostRun_eq]
@[simp] theorem State.lostRun_erec : s.lostRun.erec = s.erec := by
  rw [State.lostRun_eq]
@[simp] theorem State.lostRun_age : s.lostRun.age = s.age := by
  rw [State.lostRun_eq]
@[simp] theorem State.lostRun_pwr : s.lostRun.pwr = s.pwr := by
  rw [State.lostRun_eq]
@[simp] theorem State.lostRun_spn : s.lostRun.spn = s.spn := by
  rw [State.lostRun_eq]
@[simp] theorem State.lostRun_arms : s.lostRun.arms = s.arms := by
  rw [State.lostRun_eq]
@[simp] theorem State.lostRun_hif : s.lostRun.hif = s.hif := by
  rw [State.lostRun_eq]
@[simp] theorem State.lostRun_psw : s.lostRun.psw = s.psw := by
  rw [State.lostRun_eq]
@[simp] theorem State.lostRun_l2 : s.lostRun.l2 = s.l2 := by
  rw [State.lostRun_eq]
@[simp] theorem State.lostRun_hses : s.lostRun.hses = s.hses := by
  rw [State.lostRun_eq]
@[simp] theorem State.lostRun_chans : s.lostRun.chans = s.chans := by
  rw [State.lostRun_eq]
@[simp] theorem State.lostRun_hls : s.lostRun.hls = s.hls := by
  rw [State.lostRun_eq]
@[simp] theorem State.lostRun_oce : s.lostRun.oce = s.oce := by
  rw [State.lostRun_eq]
@[simp] theorem State.lostRun_dma : s.lostRun.dma = s.dma := by
  rw [State.lostRun_eq]
@[simp] theorem State.lostRun_buf : s.lostRun.buf = s.buf := by
  rw [State.lostRun_eq]
@[simp] theorem State.lostRun_frc : s.lostRun.frc = s.frc := by
  rw [State.lostRun_eq]
@[simp] theorem State.lostRun_med : s.lostRun.med = s.med := by
  rw [State.lostRun_eq]
@[simp] theorem State.lostRun_frac : s.lostRun.frac = s.frac := by
  rw [State.lostRun_eq]
@[simp] theorem State.lostRun_free : s.lostRun.free = s.free := by
  rw [State.lostRun_eq]
@[simp] theorem State.lostRun_out : s.lostRun.out = s.out := by
  rw [State.lostRun_eq]

/-- Before step 5 is released an event is gone (R370). -/
theorem State.raise_early (n : Nat) (l : List (Nat × Nat)) (h : s.up 5 = false) : s.raise n l = s := by
  simp [State.raise, State.raiseRaw, h]

end Sys2Proof.Machine
end

