-- ==== Sys2Proof/Laws/Tab.lean ====
section
/-! SUPPORT. Laws/Tab.lean: the laws of sparse tables: a read after a write to the same key gives the value, a write
leaves every other key alone, and a write keeps the canonical form. -/

namespace Sys2Proof

variable {K α : Type} [DecidableEq K]

theorem Tab.get_drop_same (d : α) (k : K) (t : List (K × α)) : Tab.get d k (Tab.drop k t) = d := by
  induction t with
  | nil => rfl
  | cons e t ih => by_cases h : e.1 = k <;> simp [Tab.drop, Tab.get, h, ih]

theorem Tab.get_drop_other (d : α) {k j : K} (h : j ≠ k) (t : List (K × α)) :
    Tab.get d j (Tab.drop k t) = Tab.get d j t := by
  induction t with
  | nil => rfl
  | cons e t ih =>
    by_cases he : e.1 = k
    · have : ¬ e.1 = j := fun x => h (x.symm.trans he)
      simp [Tab.drop, Tab.get, he, ih, Ne.symm h]
    · simp [Tab.drop, Tab.get, he, ih]

theorem Tab.get_place_same (lt : K → K → Bool) (d : α) (k : K) (v : α) (t : List (K × α))
    (hk : ∀ e ∈ t, e.1 ≠ k) : Tab.get d k (Tab.place lt k v t) = v := by
  induction t with
  | nil => simp [Tab.place, Tab.get]
  | cons e t ih =>
    have he : e.1 ≠ k := hk e (by simp)
    have ht : ∀ x ∈ t, x.1 ≠ k := fun x hx => hk x (by simp [hx])
    simp only [Tab.place]
    split
    · simp [Tab.get]
    · simp [Tab.get, he, ih ht]

theorem Tab.get_place_other (lt : K → K → Bool) (d : α) {k j : K} (h : j ≠ k) (v : α) (t : List (K × α)) :
    Tab.get d j (Tab.place lt k v t) = Tab.get d j t := by
  induction t with
  | nil => simp [Tab.place, Tab.get, Ne.symm h]
  | cons e t ih =>
    simp only [Tab.place]
    split
    · simp [Tab.get, Ne.symm h]
    · simp [Tab.get, ih]

theorem Tab.drop_key (k : K) (t : List (K × α)) : ∀ e ∈ Tab.drop k t, e.1 ≠ k := by
  induction t with
  | nil => simp [Tab.drop]
  | cons e t ih =>
    by_cases h : e.1 = k
    · simpa [Tab.drop, h] using ih
    · intro x hx
      simp only [Tab.drop, h, if_false, List.mem_cons] at hx
      rcases hx with rfl | hx
      · exact h
      · exact ih x hx

/-- A read after a write to the same key. -/
theorem Tab.get_put_same [DecidableEq α] (lt : K → K → Bool) (d : α) (k : K) (v : α) (t : List (K × α)) :
    Tab.get d k (Tab.put lt d k v t) = v := by
  unfold Tab.put
  split
  · rename_i h; rw [h]; exact Tab.get_drop_same d k t
  · exact Tab.get_place_same lt d k v _ (Tab.drop_key k t)

/-- A write leaves every other key alone. The default it is written with does not matter there. -/
theorem Tab.get_put_other [DecidableEq α] (lt : K → K → Bool) (d d' : α) {k j : K} (h : j ≠ k) (v : α) (t : List (K × α)) :
    Tab.get d' j (Tab.put lt d k v t) = Tab.get d' j t := by
  unfold Tab.put
  split
  · exact Tab.get_drop_other d' h t
  · rw [Tab.get_place_other lt d' h, Tab.get_drop_other d' h]

theorem Tab.mem_drop {k : K} {t : List (K × α)} {e : K × α} (h : e ∈ Tab.drop k t) : e ∈ t := by
  induction t with
  | nil => simp [Tab.drop] at h
  | cons x t ih =>
    simp only [Tab.drop] at h
    split at h
    · exact List.mem_cons_of_mem _ (ih h)
    · rcases List.mem_cons.1 h with rfl | h
      · simp
      · exact List.mem_cons_of_mem _ (ih h)

theorem Tab.wf_drop [DecidableEq α] (lt : K → K → Bool) (d : K → α) (k : K) {t : List (K × α)} (h : Tab.wf lt d t = true) :
    Tab.wf lt d (Tab.drop k t) = true := by
  induction t with
  | nil => rfl
  | cons e t ih =>
    simp only [Tab.wf, Bool.and_eq_true, List.all_eq_true] at h
    obtain ⟨⟨h1, h2⟩, h3⟩ := h
    simp only [Tab.drop]
    split
    · exact ih h3
    · simp only [Tab.wf, Bool.and_eq_true, List.all_eq_true]
      exact ⟨⟨h1, fun x hx => h2 x (Tab.mem_drop hx)⟩, ih h3⟩

omit [DecidableEq K] in
theorem Tab.mem_place {lt : K → K → Bool} {k : K} {v : α} {t : List (K × α)} {e : K × α}
    (h : e ∈ Tab.place lt k v t) : e = (k, v) ∨ e ∈ t := by
  induction t with
  | nil => simpa [Tab.place] using h
  | cons x t ih =>
    simp only [Tab.place] at h
    split at h
    · simpa using h
    · rcases List.mem_cons.1 h with rfl | h
      · simp
      · rcases ih h with h | h
        · exact .inl h
        · exact .inr (List.mem_cons_of_mem _ h)

/-- An order that a table may be kept by. -/
structure TabOrder (lt : K → K → Bool) : Prop where
  trans : ∀ a b c, lt a b = true → lt b c = true → lt a c = true
  tri : ∀ a b, a ≠ b → lt a b = false → lt b a = true

/-- An entry of a written table was there, or is the one written. -/
theorem Tab.mem_put [DecidableEq α] {lt : K → K → Bool} {d : α} {k : K} {v : α} {t : List (K × α)} {e : K × α}
    (h : e ∈ Tab.put lt d k v t) : e ∈ t ∨ e = (k, v) := by
  unfold Tab.put at h
  split at h
  · exact .inl (Tab.mem_drop h)
  · rcases Tab.mem_place h with h | h
    · exact .inr h
    · exact .inl (Tab.mem_drop h)

/-- A key reads as its entry, or as an unlisted one. -/
theorem Tab.get_mem (d : α) (k : K) (t : List (K × α)) : Tab.get d k t = d ∨ (k, Tab.get d k t) ∈ t := by
  induction t with
  | nil => exact .inl rfl
  | cons e t ih =>
    by_cases h : e.1 = k
    · right
      simp only [Tab.get, if_pos h]
      rw [← h]
      exact List.mem_cons_self
    · simp only [Tab.get, if_neg h]
      rcases ih with ih | ih
      · exact .inl ih
      · exact .inr (List.mem_cons_of_mem _ ih)

omit [DecidableEq K] in
theorem Tab.wf_place [DecidableEq α] {lt : K → K → Bool} (o : TabOrder lt) (d : K → α) {k : K} {v : α} (hv : v ≠ d k)
    {t : List (K × α)} (hk : ∀ e ∈ t, e.1 ≠ k) (h : Tab.wf lt d t = true) :
    Tab.wf lt d (Tab.place lt k v t) = true := by
  induction t with
  | nil => simp [Tab.place, Tab.wf, hv]
  | cons e t ih =>
    have hw := h
    simp only [Tab.wf, Bool.and_eq_true, List.all_eq_true] at h
    obtain ⟨⟨h1, h2⟩, h3⟩ := h
    simp only [Tab.place]
    split
    · rename_i hlt
      rw [Tab.wf, hw]
      simp only [Bool.and_true, Bool.and_eq_true, decide_eq_true_eq, List.all_eq_true, List.mem_cons]
      refine ⟨hv, ?_⟩
      rintro x (rfl | hx)
      · exact hlt
      · exact o.trans _ _ _ hlt (h2 x hx)
    · rename_i hlt
      have hlt' : lt e.1 k = true := o.tri _ _ (Ne.symm (hk e (by simp))) (by simpa using hlt)
      simp only [Tab.wf, Bool.and_eq_true, List.all_eq_true]
      refine ⟨⟨h1, fun x hx => ?_⟩, ih (fun x hx => hk x (by simp [hx])) h3⟩
      rcases Tab.mem_place hx with rfl | hx
      · exact hlt'
      · exact h2 x hx

/-- A write keeps the canonical form. -/
theorem Tab.wf_put [DecidableEq α] {lt : K → K → Bool} (o : TabOrder lt) (d : K → α) (k : K) (v : α)
    {t : List (K × α)} (h : Tab.wf lt d t = true) : Tab.wf lt d (Tab.put lt (d k) k v t) = true := by
  unfold Tab.put
  split
  · exact Tab.wf_drop lt d k h
  · rename_i hv
    exact Tab.wf_place o d hv (Tab.drop_key k t) (Tab.wf_drop lt d k h)

omit [DecidableEq K] in
theorem Tab.wf_filter [DecidableEq α] (lt : K → K → Bool) (d : K → α) (p : K × α → Bool) {t : List (K × α)}
    (h : Tab.wf lt d t = true) : Tab.wf lt d (t.filter p) = true := by
  induction t with
  | nil => rfl
  | cons e t ih =>
    simp only [Tab.wf, Bool.and_eq_true, List.all_eq_true] at h
    obtain ⟨⟨h1, h2⟩, h3⟩ := h
    simp only [List.filter]
    split
    · simp only [Tab.wf, Bool.and_eq_true, List.all_eq_true]
      exact ⟨⟨h1, fun x hx => h2 x (List.mem_of_mem_filter hx)⟩, ih h3⟩
    · exact ih h3

theorem natLt_order : TabOrder natLt where
  trans a b c h1 h2 := by simp only [natLt, decide_eq_true_eq] at *; omega
  tri a b h1 h2 := by simp only [natLt, decide_eq_true_eq, decide_eq_false_iff_not] at *; omega

end Sys2Proof
end

