-- ==== Sys2Proof/Laws/Registers.lean ====
section
/-! SUPPORT. Laws/Registers.lean: a read after a write of the same field gives the value cut to the field's width, a
write leaves every other field alone, and other updates leave all fields alone. -/

namespace Sys2Proof.Machine

variable (s : State)

theorem Reg.width_le (r : Reg) : r.info.w ≤ 64 := by cases r <;> decide

theorem State.rdW_congr {s t : State} (h : t.regs = s.regs) (r : Reg) (i j : Nat) : t.rdW r i j = s.rdW r i j := by
  simp only [State.rdW, h]

theorem State.rd_congr {s t : State} (h : t.regs = s.regs) (r : Reg) (i j : Nat) : t.rd r i j = s.rd r i j := by
  simp only [State.rd, State.rdW, h]

theorem State.bit_congr {s t : State} (h : t.regs = s.regs) (r : Reg) (i j : Nat) : t.bit r i j = s.bit r i j := by
  simp only [State.bit, State.rd, State.rdW, h]

@[simp] theorem State.rdW_wr_same (r : Reg) (v i j : Nat) :
    (s.wr r v i j).rdW r i j = BitVec.ofNat 64 (v % 2 ^ r.info.w) :=
  Tab.get_put_same _ _ _ _ _

theorem State.rdW_wr_key {r q : Reg} {i j a b : Nat} (v : Nat) (h : (⟨q, a, b⟩ : RKey) ≠ ⟨r, i, j⟩) :
    (s.wr r v i j).rdW q a b = s.rdW q a b :=
  Tab.get_put_other _ _ _ h _ _

/-- A write of one field leaves the fields of other names alone. -/
theorem State.rdW_wr_ne {r q : Reg} {i j a b : Nat} (v : Nat) (h : q ≠ r) : (s.wr r v i j).rdW q a b = s.rdW q a b :=
  State.rdW_wr_key s v (fun e => h (congrArg RKey.reg e))

@[simp] theorem State.rd_wr_same (r : Reg) (v i j : Nat) : (s.wr r v i j).rd r i j = v % 2 ^ r.info.w := by
  simp only [State.rd, State.rdW_wr_same, BitVec.toNat_ofNat]
  have h : 2 ^ r.info.w ≤ 2 ^ 64 := Nat.pow_le_pow_right (by decide) (Reg.width_le r)
  exact Nat.mod_eq_of_lt (lt_of_lt_of_le (Nat.mod_lt _ (Nat.two_pow_pos _)) h)

theorem State.rd_wr_ne {r q : Reg} {i j a b : Nat} (v : Nat) (h : q ≠ r) : (s.wr r v i j).rd q a b = s.rd q a b := by
  simp only [State.rd, State.rdW_wr_ne s v h]

theorem State.bit_wr_ne {r q : Reg} {i j a b : Nat} (v : Nat) (h : q ≠ r) : (s.wr r v i j).bit q a b = s.bit q a b := by
  simp only [State.bit, State.rd_wr_ne s v h]

theorem State.bit_wr_same (r : Reg) (v i j : Nat) : (s.wr r v i j).bit r i j = (v % 2 ^ r.info.w != 0) := by
  simp only [State.bit, State.rd_wr_same]

@[simp] theorem State.rdW_emit (o : Out) (q : Reg) (u w : Nat) : (s.emit o).rdW q u w = s.rdW q u w := rfl
@[simp] theorem State.rd_emit (o : Out) (q : Reg) (u w : Nat) : (s.emit o).rd q u w = s.rd q u w := rfl
@[simp] theorem State.bit_emit (o : Out) (q : Reg) (u w : Nat) : (s.emit o).bit q u w = s.bit q u w := rfl
@[simp] theorem State.rdW_setRst (x : Rstc) (q : Reg) (u w : Nat) : (s.setRst x).rdW q u w = s.rdW q u w := rfl
@[simp] theorem State.rd_setRst (x : Rstc) (q : Reg) (u w : Nat) : (s.setRst x).rd q u w = s.rd q u w := rfl
@[simp] theorem State.bit_setRst (x : Rstc) (q : Reg) (u w : Nat) : (s.setRst x).bit q u w = s.bit q u w := rfl
@[simp] theorem State.rdW_setPwr (x : Pwr) (q : Reg) (u w : Nat) : (s.setPwr x).rdW q u w = s.rdW q u w := rfl
@[simp] theorem State.rd_setPwr (x : Pwr) (q : Reg) (u w : Nat) : (s.setPwr x).rd q u w = s.rd q u w := rfl
@[simp] theorem State.bit_setPwr (x : Pwr) (q : Reg) (u w : Nat) : (s.setPwr x).bit q u w = s.bit q u w := rfl
@[simp] theorem State.rdW_setSpn (x : Spn) (q : Reg) (u w : Nat) : (s.setSpn x).rdW q u w = s.rdW q u w := rfl
@[simp] theorem State.rd_setSpn (x : Spn) (q : Reg) (u w : Nat) : (s.setSpn x).rd q u w = s.rd q u w := rfl
@[simp] theorem State.bit_setSpn (x : Spn) (q : Reg) (u w : Nat) : (s.setSpn x).bit q u w = s.bit q u w := rfl
@[simp] theorem State.rdW_setPsw (x : Psw) (q : Reg) (u w : Nat) : (s.setPsw x).rdW q u w = s.rdW q u w := rfl
@[simp] theorem State.rd_setPsw (x : Psw) (q : Reg) (u w : Nat) : (s.setPsw x).rd q u w = s.rd q u w := rfl
@[simp] theorem State.bit_setPsw (x : Psw) (q : Reg) (u w : Nat) : (s.setPsw x).bit q u w = s.bit q u w := rfl
@[simp] theorem State.rdW_setArm (a : Nat) (x : ArmS) (q : Reg) (u w : Nat) : (s.setArm a x).rdW q u w = s.rdW q u w := rfl
@[simp] theorem State.rd_setArm (a : Nat) (x : ArmS) (q : Reg) (u w : Nat) : (s.setArm a x).rd q u w = s.rd q u w := rfl
@[simp] theorem State.bit_setArm (a : Nat) (x : ArmS) (q : Reg) (u w : Nat) : (s.setArm a x).bit q u w = s.bit q u w := rfl
@[simp] theorem State.rdW_setHse (h : Nat) (x : Hse) (q : Reg) (u w : Nat) : (s.setHse h x).rdW q u w = s.rdW q u w := rfl
@[simp] theorem State.rd_setHse (h : Nat) (x : Hse) (q : Reg) (u w : Nat) : (s.setHse h x).rd q u w = s.rd q u w := rfl
@[simp] theorem State.bit_setHse (h : Nat) (x : Hse) (q : Reg) (u w : Nat) : (s.setHse h x).bit q u w = s.bit q u w := rfl
@[simp] theorem State.rdW_setChan (h : Nat) (x : Chan) (q : Reg) (u w : Nat) : (s.setChan h x).rdW q u w = s.rdW q u w := rfl
@[simp] theorem State.rd_setChan (h : Nat) (x : Chan) (q : Reg) (u w : Nat) : (s.setChan h x).rd q u w = s.rd q u w := rfl
@[simp] theorem State.bit_setChan (h : Nat) (x : Chan) (q : Reg) (u w : Nat) : (s.setChan h x).bit q u w = s.bit q u w := rfl
@[simp] theorem State.rdW_setHlk (a : Nat) (x : Hlink) (q : Reg) (u w : Nat) : (s.setHlk a x).rdW q u w = s.rdW q u w := rfl
@[simp] theorem State.rd_setHlk (a : Nat) (x : Hlink) (q : Reg) (u w : Nat) : (s.setHlk a x).rd q u w = s.rd q u w := rfl
@[simp] theorem State.bit_setHlk (a : Nat) (x : Hlink) (q : Reg) (u w : Nat) : (s.setHlk a x).bit q u w = s.bit q u w := rfl
@[simp] theorem State.rdW_setDch (c : Nat) (x : Dch) (q : Reg) (u w : Nat) : (s.setDch c x).rdW q u w = s.rdW q u w := rfl
@[simp] theorem State.rd_setDch (c : Nat) (x : Dch) (q : Reg) (u w : Nat) : (s.setDch c x).rd q u w = s.rd q u w := rfl
@[simp] theorem State.bit_setDch (c : Nat) (x : Dch) (q : Reg) (u w : Nat) : (s.setDch c x).bit q u w = s.bit q u w := rfl
@[simp] theorem State.rdW_setL2 (f : L2 → L2) (q : Reg) (u w : Nat) : (s.setL2 f).rdW q u w = s.rdW q u w := rfl
@[simp] theorem State.rd_setL2 (f : L2 → L2) (q : Reg) (u w : Nat) : (s.setL2 f).rd q u w = s.rd q u w := rfl
@[simp] theorem State.bit_setL2 (f : L2 → L2) (q : Reg) (u w : Nat) : (s.setL2 f).bit q u w = s.bit q u w := rfl
@[simp] theorem State.rdW_setCmds (l : List Cmd) (q : Reg) (u w : Nat) : (s.setCmds l).rdW q u w = s.rdW q u w := rfl
@[simp] theorem State.rd_setCmds (l : List Cmd) (q : Reg) (u w : Nat) : (s.setCmds l).rd q u w = s.rd q u w := rfl
@[simp] theorem State.bit_setCmds (l : List Cmd) (q : Reg) (u w : Nat) : (s.setCmds l).bit q u w = s.bit q u w := rfl
@[simp] theorem State.rdW_setCounts (l : List AgeCount) (q : Reg) (u w : Nat) : (s.setCounts l).rdW q u w = s.rdW q u w := rfl
@[simp] theorem State.rd_setCounts (l : List AgeCount) (q : Reg) (u w : Nat) : (s.setCounts l).rd q u w = s.rd q u w := rfl
@[simp] theorem State.bit_setCounts (l : List AgeCount) (q : Reg) (u w : Nat) : (s.setCounts l).bit q u w = s.bit q u w := rfl
@[simp] theorem State.rdW_setMbs (a : Nat) (b : List Byte) (q : Reg) (u w : Nat) : (s.setMbs a b).rdW q u w = s.rdW q u w := rfl
@[simp] theorem State.rd_setMbs (a : Nat) (b : List Byte) (q : Reg) (u w : Nat) : (s.setMbs a b).rd q u w = s.rd q u w := rfl
@[simp] theorem State.bit_setMbs (a : Nat) (b : List Byte) (q : Reg) (u w : Nat) : (s.setMbs a b).bit q u w = s.bit q u w := rfl
@[simp] theorem State.rdW_hold (n : Nat) (l : List (Nat × Nat)) (q : Reg) (u w : Nat) : (s.hold n l).rdW q u w = s.rdW q u w := rfl
@[simp] theorem State.rd_hold (n : Nat) (l : List (Nat × Nat)) (q : Reg) (u w : Nat) : (s.hold n l).rd q u w = s.rd q u w := rfl
@[simp] theorem State.bit_hold (n : Nat) (l : List (Nat × Nat)) (q : Reg) (u w : Nat) : (s.hold n l).bit q u w = s.bit q u w := rfl
@[simp] theorem State.rdW_edge (n : Nat) (q : Reg) (u w : Nat) : (s.edge n).rdW q u w = s.rdW q u w := rfl
@[simp] theorem State.rd_edge (n : Nat) (q : Reg) (u w : Nat) : (s.edge n).rd q u w = s.rd q u w := rfl
@[simp] theorem State.bit_edge (n : Nat) (q : Reg) (u w : Nat) : (s.edge n).bit q u w = s.bit q u w := rfl
@[simp] theorem State.rdW_setMed (m : Media) (q : Reg) (u w : Nat) : (s.setMed m).rdW q u w = s.rdW q u w := rfl
@[simp] theorem State.rd_setMed (m : Media) (q : Reg) (u w : Nat) : (s.setMed m).rd q u w = s.rd q u w := rfl
@[simp] theorem State.bit_setMed (m : Media) (q : Reg) (u w : Nat) : (s.setMed m).bit q u w = s.bit q u w := rfl
@[simp] theorem State.rdW_raise (n : Nat) (l : List (Nat × Nat)) (q : Reg) (u w : Nat) : (s.raise n l).rdW q u w = s.rdW q u w := State.rdW_congr (by simp) q u w
@[simp] theorem State.rd_raise (n : Nat) (l : List (Nat × Nat)) (q : Reg) (u w : Nat) : (s.raise n l).rd q u w = s.rd q u w := State.rd_congr (by simp) q u w
@[simp] theorem State.bit_raise (n : Nat) (l : List (Nat × Nat)) (q : Reg) (u w : Nat) : (s.raise n l).bit q u w = s.bit q u w := State.bit_congr (by simp) q u w
@[simp] theorem State.rdW_raiseRaw (n : Nat) (fw : Bool) (d : List Byte × Bool) (q : Reg) (u w : Nat) : (s.raiseRaw n fw d).rdW q u w = s.rdW q u w := State.rdW_congr (by simp) q u w
@[simp] theorem State.rd_raiseRaw (n : Nat) (fw : Bool) (d : List Byte × Bool) (q : Reg) (u w : Nat) : (s.raiseRaw n fw d).rd q u w = s.rd q u w := State.rd_congr (by simp) q u w
@[simp] theorem State.bit_raiseRaw (n : Nat) (fw : Bool) (d : List Byte × Bool) (q : Reg) (u w : Nat) : (s.raiseRaw n fw d).bit q u w = s.bit q u w := State.bit_congr (by simp) q u w

end Sys2Proof.Machine
end

