-- ==== Sys2Proof/Laws/Splice.lean ====
section
/-! SUPPORT. Laws/Splice.lean: writing a run of bytes keeps the canonical form, leaves every byte outside the run alone, and
is read back inside it. -/

namespace Sys2Proof

variable {α : Type} [DecidableEq α]

omit [DecidableEq α] in
theorem Tab.get_append_left {d : α} {k : Nat} {l r : List (Nat × α)} (h : ∀ e ∈ r, e.1 ≠ k) :
    Tab.get d k (l ++ r) = Tab.get d k l := by
  induction l with
  | nil =>
    induction r with
    | nil => rfl
    | cons e r ih =>
      simp only [List.nil_append, Tab.get] at *
      rw [if_neg (h e (by simp)), ih (fun x hx => h x (by simp [hx]))]
  | cons e l ih => simp only [List.cons_append, Tab.get, ih]

omit [DecidableEq α] in
theorem Tab.get_append_right {d : α} {k : Nat} {l r : List (Nat × α)} (h : ∀ e ∈ l, e.1 ≠ k) :
    Tab.get d k (l ++ r) = Tab.get d k r := by
  induction l with
  | nil => rfl
  | cons e l ih =>
    simp only [List.cons_append, Tab.get]
    rw [if_neg (h e (by simp)), ih (fun x hx => h x (by simp [hx]))]

omit [DecidableEq α] in
theorem Tab.get_filter {d : α} {k : Nat} {p : Nat → Bool} (h : p k = true) (t : List (Nat × α)) :
    Tab.get d k (t.filter (fun e => p e.1)) = Tab.get d k t := by
  induction t with
  | nil => rfl
  | cons e t ih =>
    by_cases he : e.1 = k
    · simp [List.filter, Tab.get, he, h]
    · by_cases hp : p e.1 = true <;> simp [List.filter, Tab.get, he, hp, ih]

theorem Tab.listed_key {d : α} {bs : List α} {a : Nat} : ∀ e ∈ Tab.listed d a bs, a ≤ e.1 ∧ e.1 < a + bs.length := by
  induction bs generalizing a with
  | nil => simp [Tab.listed]
  | cons b t ih =>
    intro e he
    simp only [Tab.listed] at he
    split at he
    · have := ih e he; simp only [List.length_cons]; omega
    · rcases List.mem_cons.1 he with rfl | he
      · simp
      · have := ih e he; simp only [List.length_cons]; omega

theorem Tab.get_listed {d : α} {bs : List α} {a k : Nat} : Tab.get d (a + k) (Tab.listed d a bs) = bs.getD k d := by
  induction bs generalizing a k with
  | nil => simp [Tab.listed, Tab.get]
  | cons b t ih =>
    simp only [Tab.listed]
    cases k with
    | zero =>
      split
      · rename_i h
        have hn : ∀ e ∈ Tab.listed d (a + 1) t, e.1 ≠ a := fun e he => by
          have := Tab.listed_key e he; omega
        have := Tab.get_append_left (d := d) (l := []) hn
        simpa [Tab.get, h] using this
      · simp [Tab.get]
    | succ k =>
      have e : a + (k + 1) = a + 1 + k := by omega
      split
      · rw [e, ih]; simp
      · simp only [Tab.get]
        rw [if_neg (by omega), e, ih]; simp

/-- A byte outside the run is left alone. -/
theorem Tab.get_splice_other (d : α) {a k : Nat} {bs : List α} (h : k < a ∨ a + bs.length ≤ k) (t : List (Nat × α)) :
    Tab.get d k (Tab.splice d a bs t) = Tab.get d k t := by
  unfold Tab.splice
  rcases h with h | h
  · rw [Tab.get_append_left, Tab.get_append_left, Tab.get_filter (p := fun x => decide (x < a)) (by simp [h])]
    · intro e he; have := Tab.listed_key e he; omega
    · intro e he; simp only [List.mem_filter, decide_eq_true_eq] at he; omega
  · rw [Tab.get_append_right, Tab.get_filter (p := fun x => decide (a + bs.length ≤ x)) (by simp [h])]
    intro e he
    rcases List.mem_append.1 he with he | he
    · simp only [List.mem_filter, decide_eq_true_eq] at he; omega
    · have := Tab.listed_key e he; omega

/-- A byte of the run reads as written. -/
theorem Tab.get_splice_same (d : α) {a k : Nat} {bs : List α} (h : k < bs.length) (t : List (Nat × α)) :
    Tab.get d (a + k) (Tab.splice d a bs t) = bs.getD k d := by
  unfold Tab.splice
  rw [Tab.get_append_left, Tab.get_append_right, Tab.get_listed]
  · intro e he; simp only [List.mem_filter, decide_eq_true_eq] at he; omega
  · intro e he; simp only [List.mem_filter, decide_eq_true_eq] at he; omega

theorem Tab.wf_append {d : Nat → α} {l r : List (Nat × α)} (hl : Tab.wf natLt d l = true) (hr : Tab.wf natLt d r = true)
    (h : ∀ e ∈ l, ∀ x ∈ r, e.1 < x.1) : Tab.wf natLt d (l ++ r) = true := by
  induction l with
  | nil => exact hr
  | cons e l ih =>
    simp only [Tab.wf, Bool.and_eq_true, List.all_eq_true] at hl
    simp only [List.cons_append, Tab.wf, Bool.and_eq_true, List.all_eq_true, List.mem_append]
    refine ⟨⟨hl.1.1, ?_⟩, ih hl.2 (fun e he => h e (List.mem_cons_of_mem _ he))⟩
    rintro x (hx | hx)
    · exact hl.1.2 x hx
    · simpa [natLt] using h e (by simp) x hx

theorem Tab.wf_listed {d : α} {bs : List α} {a : Nat} : Tab.wf natLt (fun _ => d) (Tab.listed d a bs) = true := by
  induction bs generalizing a with
  | nil => rfl
  | cons b t ih =>
    simp only [Tab.listed]
    split
    · exact ih
    · rename_i h
      simp only [Tab.wf, Bool.and_eq_true, List.all_eq_true, decide_eq_true_eq]
      refine ⟨⟨h, fun x hx => ?_⟩, ih⟩
      have := Tab.listed_key x hx
      simp only [natLt, decide_eq_true_eq]; omega

/-- Writing a run keeps the canonical form. -/
theorem Tab.wf_splice (d : α) (a : Nat) (bs : List α) {t : List (Nat × α)} (h : Tab.wf natLt (fun _ => d) t = true) :
    Tab.wf natLt (fun _ => d) (Tab.splice d a bs t) = true := by
  unfold Tab.splice
  refine Tab.wf_append (Tab.wf_append (Tab.wf_filter _ _ _ h) Tab.wf_listed ?_) (Tab.wf_filter _ _ _ h) ?_
  · intro e he x hx
    simp only [List.mem_filter, decide_eq_true_eq] at he
    have := Tab.listed_key x hx
    omega
  · intro e he x hx
    simp only [List.mem_filter, decide_eq_true_eq] at hx
    rcases List.mem_append.1 he with he | he
    · simp only [List.mem_filter, decide_eq_true_eq] at he; omega
    · have := Tab.listed_key e he; omega

end Sys2Proof
end

