-- ==== Sys2Proof/Laws/Canonical.lean ====
section
/-! SUPPORT. Laws/Canonical.lean: every operation over memory and over the registers keeps its canonical form, a write of
memory changes the bytes it names only, and the state at reset is canonical. -/

namespace Sys2Proof.Machine

theorem Reg.ctorIdx_inj {r q : Reg} (h : r.ctorIdx = q.ctorIdx) : r = q := by
  rw [← Reg.ofNat_ctorIdx r, ← Reg.ofNat_ctorIdx q, h]

theorem RKey.lt_iff (a b : RKey) : RKey.lt a b = true ↔
    a.reg.ctorIdx < b.reg.ctorIdx ∨ (a.reg.ctorIdx = b.reg.ctorIdx ∧ (a.i < b.i ∨ (a.i = b.i ∧ a.j < b.j))) := by
  unfold RKey.lt
  split
  · simp only [decide_eq_true_eq]; omega
  · split <;> simp only [decide_eq_true_eq] <;> omega

theorem RKey.lt_order : TabOrder RKey.lt where
  trans a b c h1 h2 := by
    rw [RKey.lt_iff] at *
    omega
  tri a b h hn := by
    rw [← Bool.not_eq_true, RKey.lt_iff] at hn
    rw [RKey.lt_iff]
    by_contra hc
    apply h
    have h1 : a.reg = b.reg := Reg.ctorIdx_inj (by omega)
    have h2 : a.i = b.i := by omega
    have h3 : a.j = b.j := by omega
    cases a; cases b; simp_all

variable {s : State}

/-- A value cut to a field's width fits it. -/
theorem ofNat_fit (r : Reg) (v : Nat) : (BitVec.ofNat 64 (v % 2 ^ r.info.w)).toNat < 2 ^ r.info.w := by
  rw [BitVec.toNat_ofNat]
  exact Nat.lt_of_le_of_lt (Nat.mod_le _ _) (Nat.mod_lt _ (Nat.two_pow_pos _))

theorem Reg.rst_lt (r : Reg) : r.info.rst < 2 ^ r.info.w := by cases r <;> decide

theorem getD_lt {l : List Nat} {n : Nat} (i : Nat) (hn : 0 < n) (h : ∀ x ∈ l, x < n) : l.getD i 0 < n := by
  rw [List.getD_eq_getElem?_getD]
  cases e : l[i]? with
  | none => exact hn
  | some x => exact h x (List.mem_of_getElem? e)

/-- A field's reset value fits it. -/
theorem Reg.dflt_lt {r : Reg} (h : r ≠ .DMA_CHCTL_LINE) (i j : Nat) : (RKey.dflt ⟨r, i, j⟩).toNat < 2 ^ r.info.w := by
  have e : (RKey.dflt ⟨r, i, j⟩).toNat ≤ r.resetAt i := by
    simp only [RKey.dflt, BitVec.toNat_ofNat]
    exact Nat.mod_le _ _
  refine Nat.lt_of_le_of_lt e ?_
  unfold Reg.resetAt
  split
  · exact getD_lt i (by decide) (by decide)
  · exact getD_lt i (by decide) (by decide)
  · split <;> decide
  · exact absurd rfl h
  · split <;> decide
  · exact getD_lt i (by decide) (by decide)
  · exact Reg.rst_lt _

theorem State.reset_canonical : State.reset.Canonical := ⟨by decide, rfl, by decide⟩

theorem State.Canonical.of_eq {t : State} (h : s.Canonical) (hm : t.mem = s.mem) (hr : t.regs = s.regs) : t.Canonical :=
  ⟨hm ▸ h.mem, hr ▸ h.regs, hr ▸ h.fit⟩

theorem State.Canonical.wr (h : s.Canonical) (r : Reg) (v i j : Nat) : (s.wr r v i j).Canonical :=
  ⟨h.mem, Tab.wf_put RKey.lt_order RKey.dflt _ _ h.regs, by
    intro e he
    rcases Tab.mem_put he with he | rfl
    · exact h.fit e he
    · exact ofNat_fit r v⟩

theorem State.Canonical.setMb (h : s.Canonical) (a : Nat) (b : Byte) : (s.setMb a b).Canonical :=
  ⟨Tab.wf_put natLt_order (fun _ => 0) a b h.mem, h.regs, h.fit⟩

theorem State.Canonical.setMbs (h : s.Canonical) (a : Nat) (bs : List Byte) : (s.setMbs a bs).Canonical :=
  ⟨Tab.wf_splice 0 a bs h.mem, h.regs, h.fit⟩

theorem State.Canonical.filterRegs (h : s.Canonical) (p : RKey × Word → Bool) :
    State.Canonical { s with regs := s.regs.filter p } :=
  ⟨h.mem, Tab.wf_filter _ _ p h.regs, fun e he => h.fit e (List.mem_of_mem_filter he)⟩

theorem State.Canonical.filterMem (h : s.Canonical) (p : Host.Cell → Bool) :
    State.Canonical { s with mem := s.mem.filter p } :=
  ⟨Tab.wf_filter _ _ p h.mem, h.regs, h.fit⟩

/-- A field of a canonical state reads no more than its width. A DMA channel's line resets to the channel's number, which is
no more than its width for the channels there are. -/
theorem State.Canonical.rd_lt (h : s.Canonical) {r : Reg} (hr : r ≠ .DMA_CHCTL_LINE) (i j : Nat) :
    s.rd r i j < 2 ^ r.info.w := by
  rcases Tab.get_mem (RKey.dflt ⟨r, i, j⟩) ⟨r, i, j⟩ s.regs with hd | hm
  · simp only [State.rd, State.rdW, hd]
    exact Reg.dflt_lt hr i j
  · exact h.fit _ hm

/-- A store changes the bytes it names only. -/
theorem State.mb_setMbs_other {a x : Nat} {bs : List Byte} (h : x < a ∨ a + bs.length ≤ x) :
    (s.setMbs a bs).mb x = s.mb x := by
  simp only [State.mb, State.setMbs, Tab.get_splice_other 0 h]

/-- A stored byte reads back, outside the boot ROM. -/
theorem State.mb_setMbs_same {a k : Nat} {bs : List Byte} (hk : k < bs.length) (ha : 0x20000 ≤ a) :
    (s.setMbs a bs).mb (a + k) = bs.getD k 0 := by
  simp only [State.mb, State.setMbs, Tab.get_splice_same 0 hk, if_neg (show ¬ a + k < 0x20000 by omega)]

theorem State.mb_congr {t : State} (h : t.mem = s.mem) (x : Nat) : t.mb x = s.mb x := by
  simp only [State.mb, h]

theorem leBytes_length (n v : Nat) : (leBytes n v).length = n := by
  induction n generalizing v with
  | zero => rfl
  | succ n ih => simp [leBytes, ih]

end Sys2Proof.Machine
end

