-- ==== Sys2Proof/Laws/Recorded.lean ====
section
/-! SUPPORT. Laws/Recorded.lean: everything raising an event does: the interrupt source, the sequence number and the entry
of the recorder's queue. -/

namespace Sys2Proof.Machine

variable {s t u : State}

@[simp] theorem Ev.push_edge (e : Ent) (v : Ev) : (v.push e).edge = v.edge := by
  unfold Ev.push; split <;> rfl

@[simp] theorem Ev.push_seq (e : Ent) (v : Ev) : (v.push e).seq = v.seq := by
  unfold Ev.push; split <;> rfl

theorem State.event_edge_eq (n : Nat) (fw : Bool) (d : List Byte × Bool) :
    (s.event n fw d).ev.edge = NSet.add n s.ev.edge := by
  simp only [State.event]
  split <;> simp

theorem State.event_seq_eq (n : Nat) (fw : Bool) (d : List Byte × Bool) :
    (s.event n fw d).ev.seq = NTab.put 0 n ((NTab.get 0 n s.ev.seq + 1) % 2 ^ 32) s.ev.seq := by
  simp only [State.event]
  split <;> simp

theorem State.event_edge (n : Nat) (fw : Bool) (d : List Byte × Bool) : NSet.has n (s.event n fw d).ev.edge = true := by
  rw [State.event_edge_eq]
  exact Tab.get_put_same natLt false n true _

theorem State.event_seq (n : Nat) (fw : Bool) (d : List Byte × Bool) :
    NTab.get 0 n (s.event n fw d).ev.seq = (NTab.get 0 n s.ev.seq + 1) % 2 ^ 32 := by
  rw [State.event_seq_eq]
  exact Tab.get_put_same natLt 0 n _ _

theorem State.event_seq_other {n m : Nat} (h : m ≠ n) (fw : Bool) (d : List Byte × Bool) :
    NTab.get 0 m (s.event n fw d).ev.seq = NTab.get 0 m s.ev.seq := by
  rw [State.event_seq_eq]
  exact Tab.get_put_other natLt 0 0 h _ _

theorem State.lostRun_seq {m : Nat} (h : m ≠ 314) : NTab.get 0 m s.lostRun.ev.seq = NTab.get 0 m s.ev.seq := by
  unfold State.lostRun
  split
  · rfl
  · split
    · rw [State.event_seq_other h]
    · rfl

/-- Raising an event with s2 in the part of s that the event reads. -/
theorem State.recorded_raise {n : Nat} {items : List (Nat × Nat)} (h : n ≠ 314) (hr : u.up 5 = s.up 5) (he : u.ev = s.ev)
    (hb : u.bit .EVC_REC_EN n = s.bit .EVC_REC_EN n) (ho : u.rd .EREC_OPTIME_OPTIME = s.rd .EREC_OPTIME_OPTIME)
    (hp : u.rd .EREC_PCYC_PCYC = s.rd .EREC_PCYC_PCYC) (ht : t.ev = (u.raise n items).ev) : s.recorded t n items := by
  refine ⟨fun h5 => ?_, fun h5 hen hrun hq => ?_⟩
  · rw [ht]
    simp only [State.raise, State.raiseRaw, hr, if_pos h5]
    refine ⟨State.event_edge _ _ _, ?_⟩
    rw [State.event_seq, State.lostRun_seq h, he]
  · rw [ht]
    have hl : u.lostRun = u := by simp [State.lostRun, he, hrun]
    simp only [State.raise, State.raiseRaw, hr, if_pos h5, hl, State.event, hb, hen, if_true, Ev.push, he, hq]
    rw [ho, hp]

theorem State.recorded.raised {n : Nat} {items : List (Nat × Nat)} (h : s.recorded t n items) : s.raised t n := h.1

end Sys2Proof.Machine
end

