-- ==== Sys2Proof/Tests/Slice0.lean ====
section
/-! SUPPORT. Tests/Slice0.lean: the smoke test of WellFormed, a witness for the hypotheses of every statement with what
the command does there, and the spec's worked numbers. Every expected value comes from the spec's rules or tables. -/

namespace Sys2Proof.Tests

open Sys2Proof Sys2Proof.Machine

set_option Elab.async false

/-! ### Helpers -/

/-- The command goes on to a state that passes the check. -/
def nx (r : Res) (p : State → Bool) : Bool := match r with | .next t => p t | _ => false

/-- The module after release step n has completed. -/
def up (n : Nat) : State := { State.reset with rst := { step := n, done := true } }

/-- A state with register fields set. -/
def put (s : State) (l : List (Reg × Nat × Nat × Nat)) : State :=
  l.foldl (fun s e => s.wr e.1 e.2.2.2 e.2.1 e.2.2.1) s

def parts : List Part := [.poison, .nor, .staged, .norq, .rst, .ev, .erec, .age, .pwr, .spn, .arms, .hif, .psw, .l2, .hses,
  .chans, .hls, .oce, .dma, .buf, .frc, .med, .frac, .free, .out]

def same (s t : State) : Part → Bool
  | .poison => t.poison == s.poison
  | .nor => t.nor == s.nor
  | .staged => t.staged == s.staged
  | .norq => t.norq == s.norq
  | .rst => t.rst == s.rst
  | .ev => t.ev == s.ev
  | .erec => t.erec == s.erec
  | .age => t.age == s.age
  | .pwr => t.pwr == s.pwr
  | .spn => t.spn == s.spn
  | .arms => t.arms == s.arms
  | .hif => t.hif == s.hif
  | .psw => t.psw == s.psw
  | .l2 => t.l2 == s.l2
  | .hses => t.hses == s.hses
  | .chans => t.chans == s.chans
  | .hls => t.hls == s.hls
  | .oce => t.oce == s.oce
  | .dma => t.dma == s.dma
  | .buf => t.buf == s.buf
  | .frc => t.frc == s.frc
  | .med => t.med == s.med
  | .frac => t.frac == s.frac
  | .free => t.free == s.free
  | .out => t.out == s.out

def keepsB (s t : State) (but : List Part) : Bool :=
  t.pending == s.pending && parts.all (fun p => but.contains p || same s t p)

def regsB (s t : State) (but : List Reg) : Bool :=
  t.regs.filter (fun e => !but.contains e.1.reg) == s.regs.filter (fun e => !but.contains e.1.reg)

/-- The Boolean form of State.only, on lists in canonical form. -/
def onlyB (s t : State) (fields : List Reg) (ps : List Part) : Bool := regsB s t fields && t.mem == s.mem && keepsB s t ps

def memButB (s t : State) (a n : Nat) : Bool :=
  t.mem.filter (fun e => e.1 < a || a + n ≤ e.1) == s.mem.filter (fun e => e.1 < a || a + n ≤ e.1)

def raisedB (s t : State) (n : Nat) : Bool :=
  NSet.has n t.ev.edge && NTab.get 0 n t.ev.seq == (NTab.get 0 n s.ev.seq + 1) % 2 ^ 32

def doneB (s : State) (tag st d0 d1 : Nat) : Bool :=
  match s.cmd? tag with | some c => c.st == .completed && c.cpl == some (st, d0, d1) | none => false


/-! ### WellFormed: one ill-formed term for each check -/

theorem test_ill_wedge : (Instr.servoAddressMark 0 480 0).illFormed = some .wedge ∧ (Instr.servoAddressMark 0 479 0).WellFormed := by decide
theorem test_ill_interval : (Instr.zeroCrossing 0 0).illFormed = some .interval ∧ (Instr.zeroCrossing 1 0).WellFormed := by decide
theorem test_ill_decode : (Instr.decodeDone 0 ⟨true, 1, 0, [], 0⟩).illFormed = some .decode ∧
    (Instr.decodeBudgetExpire 0 4097 0).illFormed = some .decode := by decide
theorem test_ill_sync : (Instr.syncMarkFound 0 0 41).illFormed = some .sync ∧ (Instr.syncMarkFound 0 0 40).WellFormed := by decide
theorem test_ill_width : (Instr.hartMemoryAccess 0 .load 0 3 0 0 .none .clean).illFormed = some .width := by decide
theorem test_ill_align : (Instr.registerWrite 4 true 0).illFormed = some .align ∧ (Instr.registerWrite 4 false 0).WellFormed := by decide
theorem test_ill_item : (Instr.eventRaise 0 [(9, 0)]).illFormed = some .item := by decide
theorem test_ill_ranges : (Instr.commandAdmit 0 0 ⟨2, 0, 0, 1, 0, 0, 0, 0, 0, 0, 0, 0, 0, 0, 0⟩ (List.replicate 257 (0, 0))).illFormed =
    some .ranges := by decide +kernel
theorem test_ill_calibration (n : Nat) : (Instr.calibrationSetWrite 0 (List.replicate n 0)).illFormed =
    if n ≤ 2097152 then none else some .calibration := by
  show (if (List.replicate n (0 : Byte)).length ≤ 2097152 then none else some IllFormed.calibration) = _
  rw [List.length_replicate]

/-! ### The machine -/

theorem witness_StepRunsTheFrontCommand : ({ State.reset with pending := [.powerOnRelease, .releaseStep] } : State).pending =
    .powerOnRelease :: [.releaseStep] ∧ State.reset.pending = [] := by decide

theorem witness_EveryStepKeepsTheCanonicalForm : ({ State.reset with pending := [.powerOnRelease] } : State).Canonical ∧
    nx (step { State.reset with pending := [.powerOnRelease] }) (fun t => t.rst.por == false) = true :=
  ⟨⟨by decide +kernel, by decide, by decide⟩, by decide +kernel⟩

theorem witness_OnlyTheTwoSourcesResetTheModule : Instr.powerOnRelease ≠ .powerOnReset ∧ (∀ p, Instr.powerOnRelease ≠ .sysrstNAssert p) ∧
    nx (exec .powerOnRelease State.reset) (fun t => t.rst.step == 0 && t.rst.level == 0) = true :=
  ⟨by decide, nofun, by decide +kernel⟩

/-! ### Resets and starts -/

/-- A running module with a byte of MRAM, of SRAM, a kept field, one of reach L1 and one of reach L2. -/
def live : State := put { (up 10) with mem := [(0x01000000, 7), (0x02000000, 9)], hses := [(3, { ofs := 1 })] }
  [(.EREC_OPTIME_OPTIME, 0, 0, 2), (.EVC_PRIO_PRIO, 5, 0, 3), (.SPN_HOLD_SPD, 0, 0, 9), (.RST_BLK_SEL, 0, 0, 3)]

theorem witness_PowerOnReset : live.rst.por = false ∧ nx (exec .powerOnReset live) (fun t =>
    t.rst.por && t.rst.tookPor && t.rst.level == 0 && t.rst.step == 0 && t.rst.pulse.isNone && t.rd .EREC_OPTIME_OPTIME == 2 &&
    t.rd .EVC_PRIO_PRIO 5 == 0 && t.mb 0x01000000 == 7 && t.mb 0x02000000 == 0 && t.hses == [] && t.ev == {}) = true := by
  decide +kernel
theorem witness_PowerOnRelease : State.reset.rst.por = true ∧
    nx (exec .powerOnRelease State.reset) (fun t => t == { State.reset with rst := { State.reset.rst with por := false } }) = true := by
  decide +kernel

/-- The same, with SYSRST_N fused to level L1. -/
def livePin : State := put live [(.RST_FUSE_PINLVL, 0, 0, 1)]

theorem witness_PinReset : (livePin.rst.por = false ∧ livePin.rst.pin = false ∧ ¬(livePin.rst.step = 6 ∧ livePin.rst.failed = false)) ∧
    nx (exec (.sysrstNAssert 0) livePin) (fun t => t.rst.pin && t.rst.level == toLevel livePin.pinLevel && t.rst.step == 0 &&
      t.rd .EVC_PRIO_PRIO 5 == 0 && t.rd .EREC_OPTIME_OPTIME == 2 && t.mb 0x01000000 == 7) = true ∧
    nx (exec (.sysrstNAssert 0) { livePin with rst := { step := 4, level := 0 } }) (fun t => t.rst.level == 0) = true := by
  decide +kernel
theorem witness_PinMarks : let s : State := { up 0 with rst := { por := true } }
    nx (exec (.sysrstNAssert 0) s) (fun t => t.rst.pin && t.rst.tookPin && t.rst.por && onlyB s t [] [.rst]) = true ∧
    let s : State := { up 0 with rst := { pin := true } }
    nx (exec (.sysrstNAssert 0) s) (fun t => t == s) = true ∧
    nx (exec .powerOnReset { up 0 with rst := { por := true } }) (fun t => t == { up 0 with rst := { por := true } }) = true ∧
    nx (exec .powerOnRelease (up 0)) (fun t => t == up 0) = true := by decide +kernel
/-- The end of a restart's assertion inside the loader window: XSPI_RESET_N rises and the gap begins (R409). -/
theorem witness_PinReleaseRestart : let s : State := { up 6 with rst := { step := 6, pin := true, restarted := true } }
    (s.rst.pin = true ∧ s.rst.pulse = none ∧ s.rst.step = 6 ∧ s.rst.restarted = true ∧ s.rst.failed = false) ∧
    nx (exec .sysrstNRelease s) (fun t => !t.rst.pin && t.rst.xspi && t.rst.restartGap && onlyB s t [] [.rst]) = true := by decide +kernel
theorem witness_PinRelease : nx (exec .sysrstNRelease { up 0 with rst := { pin := true } })
    (fun t => t.rst.pin == false && onlyB { up 0 with rst := { pin := true } } t [] [.rst]) = true := by decide +kernel

def softRunning : State := put { live with rst := { live.rst with soft := some 3 } } [(.RST_BLK_GO, 0, 0, 1), (.RST_BLK_BUSY, 0, 0, 1)]
theorem witness_LevelResetDiscardsSoftReset : (softRunning.rst.por = false ∧ softRunning.rst.pin = false ∧ softRunning.rst.step ≠ 6) ∧
    ([.powerOnReset, .sysrstNAssert 0] : List Instr).all (fun c => nx (exec c softRunning) (fun t => t.rst.soft.isNone && t.rd .RST_BLK_BUSY == 0 &&
      t.rd .RST_BLK_GO == 0 && t.rd .RST_BLK_SEL == 0)) = true := by decide +kernel

/-- The loader at work on copy B. -/
def loading : State := { up 6 with rst := { step := 6, copyB := true } }

/-- The loader reads the header first; it cannot read partition 1 of an erased copy, whose header is not one. -/
theorem reading_loading : (loading.readingPart 0).isSome = true ∧ (loading.readingPart 1).isSome = false ∧
    (({ loading with rst := { step := 6 } } : State).readingPart 0).isSome = true := by decide +kernel
theorem witness_LoaderRestart : (loading.rst.por = false ∧ loading.rst.pin = false ∧ loading.rst.step = 6 ∧ loading.rst.failed = false) ∧
    nx (exec (.sysrstNAssert 0) loading) (fun t => t.rst.step == 6 && t.rst.pin && t.rst.restarted && !t.rst.copyB &&
      t.rd .RST_STAT_LEVEL == 3 && raisedB loading t 296 && t.mem == loading.mem && !t.rst.xspi) = true := by decide +kernel

def restartGap : State := put { up 6 with rst := { step := 6, restartGap := true, restarted := true } } [(.RST_FUSE_BOOT_LIMIT, 0, 0, 3)]
theorem witness_LoaderRestartStart : (restartGap.rst.restartGap = true ∧ restartGap.rst.por = false ∧ restartGap.rst.pin = false ∧
    restartGap.rd .BOOT_TRIES_TRIES < restartGap.rd .RST_FUSE_BOOT_LIMIT ∧ restartGap.rst.buffail = false) ∧
    nx (exec .loaderRestartStart restartGap) (fun t => !t.rst.restartGap && !t.rst.done && !t.rst.recovery && onlyB restartGap t [] [.rst]) =
      true := by decide +kernel

theorem witness_ReleaseStep : ((up 6).sequence = true ∧ (up 6).rst.step < 10 ∧ (up 6).rst.done = true ∧ (up 6).rst.recovery = false) ∧
    nx (exec .releaseStep (up 6)) (fun t => t.rst.step == 7 && t.rst.locked && t.rst.window && t.rd .BOOT_TRIES_TRIES == 1) = true ∧
    (List.range 10).all (fun k => nx (exec .releaseStep (up k)) (fun t => t.rst.step == k + 1)) = true := by decide +kernel

def stepping (k n : Nat) : State := { up k with rst := { step := k, attempts := n } }
theorem witness_ReleaseStepComplete : ((stepping 4 1).sequence = true ∧ (stepping 4 1).rst.done = false) ∧
    ([1, 2, 3, 4, 5, 7].all (fun k => nx (exec (.releaseStepComplete 1) (stepping k 1)) (fun t =>
      t.rst == { (stepping k 1).rst with done := true } && regsB (stepping k 1) t [.CLK_STAT_LOCK, .BUF_STAT_TRAINED, .L2_STAT_INITBUSY]))) =
    true := by decide +kernel
theorem witness_ReleaseStepTimeout :
    nx (exec (.releaseStepTimeout 0 0 0) (stepping 2 2)) (fun t => t.rst.attempts == 3 && !t.rst.halted) = true ∧
    nx (exec (.releaseStepTimeout 0 0 0) (stepping 3 3)) (fun t => t.rst.halted && t.rd .BOOT_CAUSE_HALT == 3) = true ∧
    nx (exec (.releaseStepTimeout 0 0 0) (stepping 4 1)) (fun t => t.rst.done && t.rst.buffail && t.bit .BOOT_CAUSE_BUFFAIL) = true ∧
    nx (exec (.releaseStepTimeout 0 0 0) (stepping 5 1)) (fun t => t.rst.halted && t.rd .BOOT_CAUSE_HALT == 5) = true ∧
    nx (exec (.releaseStepTimeout 0 0 0) loading) (fun t => t.rst.reasonB == 9 && t.rst.failed) = true ∧
    nx (exec (.releaseStepTimeout 0 0 0) { loading with rst := { step := 6 } }) (fun t => t.rst.reasonA == 9 && t.rst.copyB && !t.rst.failed) =
      true := by decide +kernel

/-- An erased NOR holds no good copy: R66's first check gives reason 1. -/
theorem witness_LoadCopyDone_bad : loading.loading = true ∧ (loading.loadOf (loading.copyImg true) true).reason = 1 ∧
    nx (exec .loadCopyDone loading) (fun t => t.rst.failed && t.rst.reasonB == 1 && t.rd .BOOT_TRIES_TRIES == 1) = true ∧
    nx (exec .loadCopyDone { loading with rst := { step := 6 } }) (fun t => t.rst.copyB && !t.rst.failed && t.rst.reasonA == 1) = true := by
  decide +kernel
theorem witness_NorReadTimeout : nx (exec (.norReadTimeout 0) loading) (fun t => t.rst.reasonB == 9 && t.rst.failed) = true ∧
    nx (exec (.norReadTimeout 0) { loading with rst := { step := 6 } }) (fun t => t.rst.reasonA == 9 && t.rst.copyB) = true ∧
    nx (exec (.norReadTimeout 1) loading) (fun t => t == loading) = true := by
  decide +kernel

def window : State := { up 7 with rst := { step := 7, done := true, window := true, secver := 3 } }
theorem witness_RstRunokWrite : (7 ≤ window.rst.step ∧ (1 : W32).toNat.testBit 0 = true ∧ window.rst.window = true ∧
    window.secMin < window.rst.secver) ∧ nx (exec (.rstRunokWrite 1) window) (fun t => t.rd .BOOT_TRIES_TRIES == 0 &&
      t.rd .RST_STAT_RUNOK == 1 && !t.rst.window && t.rd .LDR_SECMIN_SECMIN == 3 && memButB window t 0x0100FF00 4 && t.mrd 4 0x0100FF00 == 3) =
      true := by decide +kernel
theorem witness_BootWindowExpire : nx (exec .bootWindowExpire window) (fun t => t.rst.windowAck && !t.rst.window &&
    t.rd .BOOT_CAUSE_WINDOW == 1 && raisedB window t 299) = true ∧
    nx (exec .windowRecordAckPulse { window with rst := { window.rst with windowAck := true } }) (fun t => t.rst.pulse == some .window) = true := by
  decide +kernel
theorem witness_RstOutPulse : (bitsN (0x1A5 : W32).toNat 0 8 = 0xA5 ∧ (0x1A5 : W32).toNat.testBit 8 = true) ∧
    nx (exec (.rstOutPulse 0x1A5) (up 5)) (fun t => t.rst.pulse == some .firmware && onlyB (up 5) t [] [.rst]) = true ∧
    nx (exec (.rstOutPulse 0x1A4) (up 5)) (fun t => t == up 5) = true ∧ nx (exec (.rstOutPulse 0xA5) (up 5)) (fun t => t == up 5) = true := by
  decide +kernel
def pulsing (seen : Bool) : State := { up 10 with rst := { step := 10, done := true, pulse := some .firmware, pulseSeen := seen } }
theorem witness_RstoutPulseEnd : nx (exec .rstoutPulseEnd (pulsing true)) (fun t => t.rst.pulse.isNone && onlyB (pulsing true) t [] [.rst]) = true ∧
    nx (exec .rstoutPulseEnd (pulsing false)) (fun t => t.rd .RST_STAT_LOOP_OPEN == 1 && raisedB (pulsing false) t 297) = true ∧
    let s : State := { up 6 with rst := { step := 6, failed := true, pulse := some .loader } }
    nx (exec .rstoutPulseEnd s) (fun t => t.rst.pulse.isNone && t.rst.recovery && t.rst.done && t.rd .RST_STAT_LOOP_OPEN == 1 &&
      raisedB s t 297 && raisedB s t 295 && onlyB s t [.RST_STAT_LOOP_OPEN] [.rst, .ev]) = true ∧
    nx (exec (.rstOutPulse 0x1A5) (pulsing false)) (fun t => t == pulsing false) = true := by
  decide +kernel

def hse3 : State := put (up 10) [(.HSE_CTL_RUN, 3, 0, 1), (.HSE_CTL_RUN, 4, 0, 1)]
theorem witness_RstBlkGo : (5 ≤ hse3.rst.step ∧ hse3.softIdle 3 = some true ∧ hse3.bit .RST_BLK_BUSY = false) ∧
    nx (exec (.rstBlkGo 0x103) hse3) (fun t => t.bit .RST_BLK_BUSY && t.rst.soft == some 3 && t.rd .HSE_CTL_RUN 3 == 0 &&
      t.rd .HSE_CTL_RUN 4 == 1) = true ∧
    (hse3.softIdle 0x53 = none ∧ nx (exec (.rstBlkGo 0x153) hse3) (fun t => t.rd .RST_STAT_SRST_REFUSED == 1 && raisedB hse3 t 293 &&
      onlyB hse3 t [.RST_BLK_SEL, .RST_STAT_SRST_REFUSED] [.ev]) = true) := by decide +kernel
/-- Every other block at rest takes a soft reset; its fields of reach L2 return and a gating register it has no part in stays. -/
theorem witness_RstBlkGo_blocks : [0x20, 0x40, 0x44, 0x50, 0x51, 0x52].all (fun sel =>
    (up 10).softIdle sel == some true && nx (exec (.rstBlkGo (BitVec.ofNat 32 (0x100 + sel))) (up 10)) (fun t =>
      t.bit .RST_BLK_BUSY && t.rst.soft == some sel)) = true ∧
    nx (exec (.rstBlkGo 0x152) (put (up 10) [(.DMA_CHSTAT_ERR, 5, 0, 3), (.OCE_CTL_EN, 0, 0, 1)])) (fun t =>
      t.rd .DMA_CHSTAT_ERR 5 == 0 && t.rd .OCE_CTL_EN == 1) = true := by decide +kernel
theorem witness_SoftResetDone : nx (exec .softResetDone softRunning) (fun t => t.rd .RST_BLK_BUSY == 0 && t.rst.soft.isNone &&
    onlyB softRunning t [.RST_BLK_BUSY] [.rst]) = true := by decide +kernel


/-! ### Image -/

/-- A module that has started, with one command of queue sqid carried out under tag 1. -/
def carrying (sqid : Nat) (e : Sqe) : State :=
  { (up 10) with hif := { cmds := [{ tag := 1, func := 0, sqid := sqid, e := e, st := .started }] } }

/-- A submission entry with its opcode and the dwords set. -/
def entry (opc : Byte) (nsid cdw10 cdw11 cdw12 : W32) : Sqe :=
  { opc := opc, cid := 0, nsid := nsid, cdw10 := cdw10, cdw11 := cdw11, cdw12 := cdw12 }

/-- A calibration set of four data bytes, its CRC computed over the header and them. -/
def calSet : List Byte :=
  let head : List Byte := [0x43, 0x41, 0x4C, 0x53, 1, 0, 0, 0, 0, 0, 0, 0, 4, 0, 0, 0] ++ List.replicate 44 0
  head ++ (List.range 4).map (fun k => BitVec.ofNat 8 (crc32c (head ++ [1, 2, 3, 4]) / 256 ^ k)) ++ [1, 2, 3, 4]

def calWrite : State := carrying 0 (entry 0xC4 0 17 0x43414C31 0)

theorem witness_CalibrationSetWrite_good : calWrite.carries 1 calWrite.hif.cmds[0] ∧
    calGood (calSet.take 64) (fun n => (calSet.drop 64).take n) = .valid 4 ∧
    ((calWrite.copyImg (calWrite.rst.copy == 1)).bytes 0x1E00000 64).all (fun b => b == 0xFF) = true ∧
    nx (exec (.calibrationSetWrite 1 calSet) calWrite) (fun t =>
      t.norq == [{ kind := .calibration, tag := 1, seq := 0, data := calSet, ops := [calOp true calSet, calOp false calSet] }] && onlyB calWrite t [] [.norq]) = true := by
  unfold State.carries; decide +kernel
theorem witness_CalibrationSetWrite_bad : let s := carrying 0 (entry 0xC4 0 17 0x43414C30 0)
    (s.carries 1 s.hif.cmds[0] ∧ s.hif.cmds[0].e.cdw11 ≠ 0x43414C31) ∧
    nx (exec (.calibrationSetWrite 1 calSet) s) (fun t => doneB t 1 scField 0 0 && t.norq == []) = true := by
  unfold State.carries; decide +kernel
theorem witness_CalibrationSetRead : let s := carrying 0 (entry 0xC5 0 1 0 0)
    nx (exec (.calibrationSetRead 1) s) (fun t => doneB t 1 0 0 0 && t.out == [.toHost 1 [0xFF, 0xFF, 0xFF, 0xFF]]) = true := by
  decide +kernel

/-- Two writes of one job, the second of which follows. -/
def norBusy : State := { carrying 0 (entry 0xC4 0 0 0 0) with norq := [{ kind := .calibration, tag := 1, seq := 0, ops := [⟨0, 4, true, [(0, [1])]⟩, ⟨8, 12, true, []⟩] }] }
theorem witness_NorWriteComplete : nx (exec (.norWriteComplete false 0) norBusy) (fun t => t.norq == [] && doneB t 1 scInternal 0 0 &&
    raisedB norBusy t 315) = true ∧ norBusy.carries 1 norBusy.hif.cmds[0] := by unfold State.carries; decide +kernel
/-- The first write reads back: the job's next is at the front; the last one's end completes the command. -/
theorem witness_NorWriteComplete_good :
    nx (exec (.norWriteComplete true 0) norBusy) (fun t => t.norq.map (·.ops.length) == [1] && keepsB norBusy t [.nor, .norq]) = true ∧
    (([.fragment, .calibration, .commitPlain] : List NorKind).all (fun k =>
      nx (exec (.norWriteComplete true 0) { norBusy with norq := [{ kind := k, tag := 1, seq := 0, ops := [⟨0, 4, true, []⟩] }] }) (fun t =>
        t.norq == [] && doneB t 1 0 0 0))) = true ∧
    (([.commitReset, .commitCopy] : List NorKind).all (fun k =>
      nx (exec (.norWriteComplete true 0) { norBusy with norq := [{ kind := k, tag := 1, seq := 0, ops := [⟨0, 4, true, []⟩] }] }) (fun t =>
        t.norq == [] && doneB t 1 scFwReset 0 0))) = true ∧
    nx (exec (.norWriteComplete true 0) { norBusy with norq := [{ kind := .commitRecovery, tag := 1, seq := 0, ops := [⟨0, 4, true, []⟩] }] })
      (fun t => doneB t 1 0 0 0 && t.rst.pulse.isSome) = true ∧
    nx (exec (.norWriteComplete true 0) { norBusy with norq := [{ kind := .commitActivate, tag := 1, seq := 0, ops := [⟨0, 4, true, []⟩] }] })
      (fun t => t.hif.drain == some 1 && raisedB norBusy t 231) = true ∧
    nx (exec (.norWriteComplete true 0) { norBusy with norq := [] }) (fun t => t == { norBusy with norq := [] }) = true := by decide +kernel
/-- Behind a running write a job waits its turn. -/
theorem witness_NorWaits : nx (exec (.calibrationSetWrite 1 calSet) { calWrite with norq := norBusy.norq }) (fun t =>
    t.norq == norBusy.norq ++ [{ kind := .calibration, tag := 1, seq := 0, data := calSet }] && onlyB calWrite t [] [.norq]) = true := by
  decide +kernel
theorem witness_NorWriteComplete_next : ∃ j op next, norBusy.norq = [j] ∧ j.ops = op :: next :: [] ∧ j.tag = 1 :=
  ⟨_, _, _, rfl, rfl, rfl⟩

def download (cdw10 cdw11 : W32) : State := { carrying 0 (entry 0x11 0 cdw10 cdw11 0) with staged := [(4, some 9)] }
theorem witness_Download : (download 0 1).carries 1 (download 0 1).hif.cmds[0] ∧
    nx (exec (.firmwareImageDownload 1 [1, 2, 3, 4]) (download 0 1)) (fun t => doneB t 1 0 0 0 &&
      t.staged == [(4, some 1), (5, some 2), (6, some 3), (7, some 4)]) = true ∧
    nx (exec (.firmwareImageDownload 1 [1, 2, 3, 4]) (download 0 0x800000)) (fun t => doneB t 1 scField 0 0 && t.staged == [(4, some 9)]) =
      true := by unfold State.carries; decide +kernel

/-- In recovery mode a fragment is a NOR write of its own. -/
def downloadR : State := { download 0 1 with rst := { (up 10).rst with recovery := true } }
theorem witness_Download_recovery : (downloadR.carries 1 downloadR.hif.cmds[0] ∧ downloadR.rst.recovery = true ∧ downloadR.norq = []) ∧
    nx (exec (.firmwareImageDownload 1 [1, 2, 3, 4]) { downloadR with norq := norBusy.norq }) (fun t =>
      t.norq == norBusy.norq ++ [{ kind := .fragment, tag := 1, seq := 0, ofs := 4, data := [1, 2, 3, 4] }] && onlyB downloadR t [] [.norq]) =
      true := by unfold State.carries; decide +kernel

def commit (cdw10 : W32) : State := carrying 0 (entry 0x10 0 cdw10 0 0)
/-- Action 010b of slot 2 (cdw10 bits 5:3 and 2:0) copies B over A; of slot 1 it does nothing else; a staged image that is not one
is refused; slot 3 is none. -/
theorem witness_Commit : ((commit 0x12).carries 1 (commit 0x12).hif.cmds[0] ∧ commitAction (commit 0x12).hif.cmds[0] = 2 ∧
      commitSlot (commit 0x12).hif.cmds[0] = 2 ∧ (commit 0x02).stagedBad = some scFwImage) ∧
    nx (exec (.firmwareCommitCa010b 1) (commit 0x12)) (fun t => t.norq.map (·.kind) == [.commitCopy] && keepsB (commit 0x12) t [.norq]) = true ∧
    nx (exec (.firmwareCommitCa010b 1) (commit 0x11)) (fun t => doneB t 1 0 0 0 && t.norq == []) = true ∧
    nx (exec (.firmwareCommitCa000b 1) (commit 0x02)) (fun t => doneB t 1 scFwImage 0 0 && t.norq == []) = true ∧
    nx (exec (.firmwareCommitCa000b 1) (commit 0x01)) (fun t => doneB t 1 scFwSlot 0 0) = true ∧
    nx (exec (.firmwareCommitCa001b 1) (commit 0x09)) (fun t => doneB t 1 scFwImage 0 0) = true := by
  unfold State.carries; decide +kernel
theorem witness_Commit2 : nx (exec (.firmwareCommitCa011b 1) (commit 0x19)) (fun t => doneB t 1 scFwImage 0 0) = true ∧
    nx (exec (.firmwareCommitCa011b 1) (commit 0x1A)) (fun t => doneB t 1 scFwSlot 0 0) = true ∧
    nx (exec (.firmwareCommitCa001b 1) (commit 0x0B)) (fun t => doneB t 1 scFwSlot 0 0) = true ∧
    nx (exec (.firmwareCommitCa010b 1) (commit 0x13)) (fun t => doneB t 1 scFwSlot 0 0) = true ∧
    nx (exec (.firmwareCommitCaReserved 1) (commit 0x20)) (fun t => doneB t 1 scField 0 0) = true := by decide +kernel

/-- Recovery mode, a running write, and a queue that is going. -/
theorem witness_Commit3 :
    nx (exec (.firmwareCommitCa001b 1) { commit 0x09 with rst := { (up 10).rst with recovery := true } }) (fun t =>
      doneB t 1 scFwImage 0 0 && t.norq == []) = true ∧
    nx (exec (.firmwareCommitCa010b 1) { commit 0x12 with norq := norBusy.norq }) (fun t =>
      t.norq == norBusy.norq ++ [{ kind := .commitCopy, tag := 1, seq := 0, ofs := 2 }]) = true ∧
    nx (exec (.firmwareCommitCa000b 1) (commit 0x12)) (fun t => t == commit 0x12) = true ∧
    nx (exec (.firmwareCommitCaReserved 1) (commit 0x12)) (fun t => t == commit 0x12) = true := by decide +kernel
/-- The command of tag 1, its queue going. -/
def going (s : State) : State := { s with hif := { s.hif with cmds := s.hif.cmds.map (fun c => { c with ended := true }) } }
theorem witness_Ended_image : (going calWrite).runs 1 (going calWrite).hif.cmds[0] ∧ (going calWrite).hif.cmds[0].ended = true ∧
    ([(.calibrationSetWrite 1 calSet, going calWrite), (.calibrationSetRead 1, going (carrying 0 (entry 0xC5 0 1 0 0))),
      (.firmwareImageDownload 1 [], going (download 0 1)), (.firmwareCommitCa010b 1, going (commit 0x12))] : List (Instr × State)).all
      (fun x => nx (exec x.1 x.2) (fun t => doneB t 1 scSqDeleted 0 0)) = true := by unfold State.runs; decide +kernel

def draining : State := { commit 0x19 with hif := { (commit 0x19).hif with drain := some 1 } }
theorem witness_ActivationDrain : (draining.hif.drain = some 1 ∧ draining.carries 1 draining.hif.cmds[0] ∧ draining.others 1 = []) ∧
    nx (exec (.activationDrainDone 5) draining) (fun t => t.hif.drain.isNone && doneB t 1 0 0 0) = true ∧
    nx (exec .activationDrainTimeout draining) (fun t => t.hif.drain.isNone && doneB t 1 scFwReset 0 0 && raisedB draining t 232 &&
      memButB draining t (ctxAddr 1) 64) = true := by
  unfold State.carries; decide +kernel


/-! ### The standards of R66, and a copy that passes

The hash of "abc" is FIPS 180-4's worked one. The key pair and the signatures were made outside the model; only the fused hash,
which no rule gives, stands as a hypothesis. -/

theorem test_sha384 : sha384 [0x61, 0x62, 0x63] = beBytes 48
    0xCB00753F45A35E8BB5A03D699AC65007272C32AB0EDED1631A8B605A43FF5BED8086072BA1E7CC2358BAECA134C825A7 := by
  decide +kernel
def imgKey : List Byte := 4 :: beBytes 48
    0xC787D37C05C2C199A12C7E85BAA2354AAAD83260C08A156DCE611B3CDFCE17076F28FC663C8A5F74B82E910595E2D6B5 ++
  beBytes 48 0xC8CC2CD81F71DC13134D55F1AE20A8D70EE52ADD3B9AB0387E96EFB2CCFAE6DA6B81128990B1A142C2BFC26119801766
def imgR : List Byte := beBytes 48
    0x0A9A0EFA3814AD7532423B51401AFCFFE6A608518F8DB80358ACB73A42388CD701273EA782593838EBF95552DD060429
def imgS : List Byte := beBytes 48
    0xD966C4C3E3D38324ED0450F01252E0AD58380D2547A52496AD331EE96E67808663FEE4AB234DF50D1DDC69B7425B6F09


def le (n v : Nat) : List Byte := (List.range n).map (fun k => BitVec.ofNat 8 (v / 256 ^ k))
def partEntry (typ flags ofs len crc : Nat) : List Byte := le 2 typ ++ le 2 flags ++ le 4 ofs ++ le 4 len ++ le 4 crc ++ le 16 0
def imgHead : List Byte :=
  le 4 0x434D4152 ++ le 2 1 ++ le 2 7 ++ le 16 0 ++ le 8 0x2000000 ++ le 32 0 ++ partEntry 1 1 0x1000 1 1366517706 ++
  ((List.range 5).map (fun k => partEntry (k + 2) 1 0x2000 0 0)).flatten ++ partEntry 7 0 0x1E00000 0x200000 0 ++ le 32 0 ++ imgKey ++ le 31 0 ++ imgR ++ imgS
def imgBytes : List Byte := imgHead ++ le 4 (266391953)

/-- The image as its reader sees it. -/
def img (staged : Bool) : Img :=
  ⟨fun o => if o < 548 then imgBytes.getD o 0xFF else if o = 0x1000 then 0x13 else 0xFF, fun o => !staged || decide (o < 548) || o == 0x1000⟩

/-- A module whose copy A and whose staged image are this image. -/
def imaged : State :=
  { (up 6) with rst := { step := 6 }, nor := Tab.splice 0xFF 0 imgBytes [(0x1000, 0x13)]
                staged := Tab.splice none 0 (imgBytes.map some) [(0x1000, some 0x13)] }

theorem img_length : imgBytes.length = 548 := by decide +kernel
theorem imaged_copy : imaged.copyImg false = img false := by
  have h : ∀ o, imaged.norB (0 + o) = if o < 548 then imgBytes.getD o 0xFF else if o = 0x1000 then 0x13 else 0xFF := by
    intro o
    rw [Nat.zero_add]
    unfold State.norB imaged
    simp only
    by_cases ho : o < 548
    · rw [if_pos ho]; simpa using Tab.get_splice_same (0xFF : Byte) (a := 0) (k := o) (bs := imgBytes) (by rw [img_length]; exact ho) [(0x1000, 0x13)]
    · rw [if_neg ho, Tab.get_splice_other _ (by right; rw [img_length]; omega)]
      by_cases h2 : o = 0x1000
      · subst h2; rfl
      · rw [if_neg h2]; simp [Tab.get, Ne.symm h2]
  unfold State.copyImg img
  congr 1
  funext o; exact h o
theorem imaged_staged : imaged.stagedImg = img true := by
  have h : ∀ o, NTab.get none o imaged.staged = if o < 548 then some (imgBytes.getD o 0xFF) else if o = 0x1000 then some 0x13 else none := by
    intro o
    unfold NTab.get imaged
    simp only
    by_cases ho : o < 548
    · rw [if_pos ho]
      have := Tab.get_splice_same (none : Option Byte) (a := 0) (k := o) (bs := imgBytes.map some) (by simpa [img_length] using ho) [(0x1000, some 0x13)]
      rw [Nat.zero_add] at this
      rw [this, List.getD_eq_getElem?_getD, List.getD_eq_getElem?_getD, List.getElem?_map, List.getElem?_eq_getElem (by rw [img_length]; exact ho)]
      rfl
    · rw [if_neg ho, Tab.get_splice_other _ (by right; simp [img_length]; omega)]
      by_cases h2 : o = 0x1000
      · subst h2; rfl
      · rw [if_neg h2]; simp [Tab.get, Ne.symm h2]
  have hr : imaged.rst.recovery = false := rfl
  unfold State.stagedImg img
  congr 1 <;> funext o <;> rw [h o] <;> by_cases ho : o < 548 <;> by_cases h2 : o = 0x1000 <;> simp [ho, h2, hr]

/-- CRC-32C with each step evaluated before the next. -/
def crcStrict (c : Nat) : List Byte → Nat
  | [] => c
  | b :: t => match crcByte c b with
    | 0 => crcStrict 0 t
    | n + 1 => crcStrict (n + 1) t
theorem crcStrict_eq (bs : List Byte) : ∀ c, crcStrict c bs = crcRun c bs := by
  induction bs with
  | nil => intro c; rfl
  | cons b t ih => intro c; show (match crcByte c b with | 0 => _ | n + 1 => _) = crcRun (crcByte c b) t; cases crcByte c b <;> exact ih _

theorem load_passes (g : Img) (hash : List Byte) (cal : Bool)
    (h0 : g.num 4 0 = 0x434D4152 ∧ g.num 2 4 = 1 ∧ Nat.xor (crcStrict 0xFFFFFFFF (g.bytes 0 0x220)) 0xFFFFFFFF = g.num 4 0x220)
    (h4 : g.tableGood = true) (h5 : (g.entries.foldl (fun l e => g.part cal l e) ({} : Load)).reason = 0)
    (h2 : sha384 g.pubkey = hash) (h3 : ecdsaP384 g.pubkey (sha384 g.signed) (g.bytes 0x1C0 48) (g.bytes 0x1F0 48) = true) :
    (g.load hash 0 cal).reason = 0 := by
  have h1 : ¬ (g.num 4 0 ≠ 0x434D4152 ∨ g.num 2 4 ≠ 1 ∨ crc32c (g.bytes 0 0x220) ≠ g.num 4 0x220) := by
    simp only [not_or, Decidable.not_not]; exact ⟨h0.1, h0.2.1, by rw [← h0.2.2, crcStrict_eq]; rfl⟩
  have hh : g.header hash 0 = 0 := by
    unfold Img.header
    rw [if_neg h1, if_neg (by simp [h2]), if_neg (Nat.not_lt_zero _), if_neg (by simp [h4])]
  have hp : (g.parts hash 0 cal g.entries).reason = 0 := by
    unfold Img.parts
    simp only [hh]; exact h5
  unfold Img.load
  simp only [hp, h3, ne_eq, not_true_eq_false, if_false, if_true]

theorem img_bytes (b : Bool) : (img b).bytes 0 0x220 = imgHead := by
  have h : ∀ n, n ≤ 544 → (List.range n).map (fun k => (img b).byte (0 + k)) = imgHead.take n := by
    intro n hn
    apply List.ext_getElem
    · rw [List.length_take, List.length_map, List.length_range, show imgHead.length = 544 by decide +kernel]; omega
    · intro k h1 h2
      have hk : k < n := by simpa using h1
      have hi : k < imgHead.length := by rw [show imgHead.length = 544 by decide +kernel]; omega
      simp [img, imgBytes, List.getD_eq_getElem?_getD, List.getElem?_append_left hi, List.getElem?_eq_getElem hi, show k < 548 by omega]
  unfold Img.bytes
  rw [h 0x220 (by decide), List.take_of_length_le (by decide +kernel)]
theorem img_crc : Nat.xor (crcStrict 0xFFFFFFFF imgHead) 0xFFFFFFFF = 266391953 := by decide +kernel
theorem img_nums : (img true).num 4 0 = 0x434D4152 ∧ (img true).num 2 4 = 1 ∧ (img true).num 4 0x220 = 266391953 ∧
    (img true).pubkey = imgKey ∧ (img true).bytes 0x1C0 48 = imgR ∧ (img true).bytes 0x1F0 48 = imgS := by decide +kernel
theorem img_signed : (img true).signed = imgHead.take 0x1C0 ++ [0x13] := by decide +kernel
theorem test_ecdsa : ecdsaP384 imgKey (sha384 (imgHead.take 0x1C0 ++ [0x13])) imgR imgS = true ∧
    ecdsaP384 imgKey (sha384 (imgHead.take 0x1C0 ++ [0x12])) imgR imgS = false := by decide +kernel
theorem img_table : (img true).tableGood = true := by decide +kernel
theorem img_parts : ((img true).entries.foldl (fun l e => (img true).part false l e) ({} : Load)).reason = 0 := by decide +kernel
theorem img_partsL : ((img false).entries.foldl (fun l e => (img false).part true l e) ({} : Load)).reason = 0 := by decide +kernel

theorem img_good (b : Bool) (hash : List Byte) (h2 : sha384 imgKey = hash) : ((img b).load hash 0 (!b)).reason = 0 := by
  refine load_passes _ _ _ ⟨img_nums.1, img_nums.2.1, ?_⟩ img_table ?_ (Eq.trans (congrArg _ img_nums.2.2.2.1) h2) ?_
  · rw [img_bytes, img_crc]; exact img_nums.2.2.1.symm
  · cases b
    · exact img_partsL
    · exact img_parts
  · show ecdsaP384 (img true).pubkey (sha384 (img true).signed) ((img true).bytes 0x1C0 48) ((img true).bytes 0x1F0 48) = true
    rw [img_nums.2.2.2.1, img_nums.2.2.2.2.1, img_nums.2.2.2.2.2, img_signed]; exact test_ecdsa.1

theorem witness_LoadCopyDone_good (h2 : sha384 imgKey = Config.keyHash 0) :
    imaged.loading = true ∧ (imaged.loadOf (imaged.copyImg imaged.rst.copyB) true).reason = 0 := by
  refine ⟨by decide, ?_⟩
  show (Img.load (imaged.copyImg false) _ _ _).reason = 0
  rw [imaged_copy]; exact img_good false _ h2

theorem witness_Commit_good (h2 : sha384 imgKey = Config.keyHash 0) : imaged.stagedBad = none := by
  unfold State.stagedBad State.loadOf
  rw [imaged_staged]
  rw [if_pos ⟨img_good true _ h2, by decide +kernel⟩]

/-! ### Spindle and power die -/

/-- The speed loop holds the spindle. -/
def spinning : State := put { (up 10) with
    pwr := { iso := true, v12 := true, vpre := true, core := true, good := true, link := true, ma := true, turning := true, soundA := true,
             soundB := true, plaus := [(0, true)], fresh := [(0, true)] }
    spn := { loop := true, tgt := 7200, ramp := 7200, meas := 7200, ivals := [11574, 11574, 11574, 11574, 11574] } }
  [(.SPN_STAT_STATE, 0, 0, 5), (.SPN_MEAS_SPEED, 0, 0, 28800), (.SPN_TGT_TGT, 0, 0, 7200), (.SPN_LIM_SPDMIN, 0, 0, 4200),
   (.SPN_LIM_SPDMAX, 0, 0, 7200), (.SPN_LIM2_REFRPM, 0, 0, 7200), (.SPN_LIM2_HLMIN, 0, 0, 3600)]

def spinPart : List Reg := [.SPN_MEAS_SPEED, .SPN_STAT_STATE, .SPN_STAT_HLHOLD, .SPN_HOLD_ACTIVE, .SPN_WP_WP, .SPN_WP_CAUSE,
  .SCE_BANKSEL_ACTIVE, .SCE_BANKSEL_PENDING]

/-- The spindle turns, and no loop holds it. -/
def coasting : State := put (spinning.setSpn { ivals := List.replicate 5 13333 }) [(.SPN_STAT_STATE, 0, 0, 0)]
theorem witness_ZeroCrossing : (8 ≤ coasting.rst.step ∧ 5 ≤ coasting.spn.ivals.length ∧
      2000000000 ≤ 65535 * ((13335 :: coasting.spn.ivals).take 6).sum) ∧
    nx (exec (.zeroCrossing 13335 0) coasting) (fun t => t.spn.ivals == (13335 :: coasting.spn.ivals).take 6 && t.pwr.turning &&
      t.rd .SPN_MEAS_SPEED * 80000 < 2000000000 + 80000 && 2000000000 < (t.rd .SPN_MEAS_SPEED + 1) * 80000 &&
      onlyB coasting t spinPart [.spn, .pwr, .ev, .out]) = true := by decide +kernel

/-- A crossing of a running loop; before step 8 a crossing is only noted. -/
theorem witness_ZeroCrossing_loop : (8 ≤ spinning.rst.step ∧ spinning.spn.loop = true ∧ spinning.spn.tgt ≠ 0) ∧
    nx (exec (.zeroCrossing 9 0) (up 7)) (fun t => t.pwr.turning && t.spn == { (up 7).spn with ivals := [9] } && onlyB (up 7) t [] [.spn, .pwr]) =
      true := by decide +kernel

def inBand : State := { spinning with spn := { spinning.spn with inRun := 36 } }
theorem witness_LockEntered : (inBand.spn.loop = true ∧ inBand.bit .SPN_STAT_LOCK = false ∧ inBand.spn.tgt ≠ 0 ∧ 36 ≤ inBand.spn.inRun) ∧
    nx (exec .lockEntered inBand) (fun t => t.rd .SPN_STAT_LOCK == 1 && t.rd .SPN_STAT_STATE == 6 && t.rd .SPN_RATIO_READY == 1 &&
      t.rd .SPN_RATIO_RATIO == 16384 && t.spn.ready && raisedB inBand t 171 &&
      onlyB inBand t [.SPN_STAT_LOCK, .SPN_STAT_STATE, .SPN_RATIO_RATIO, .SPN_RATIO_READY] [.spn, .ev]) = true := by decide +kernel
def outBand : State := put { spinning with spn := { spinning.spn with outRun := 6 } } [(.SPN_STAT_LOCK, 0, 0, 1), (.SPN_RATIO_READY, 0, 0, 1)]
theorem witness_LockLost : (outBand.bit .SPN_STAT_LOCK = true ∧ 6 ≤ outBand.spn.outRun) ∧
    nx (exec .lockLost outBand) (fun t => t.rd .SPN_STAT_LOCK == 0 && t.rd .SPN_RATIO_READY == 0 && t.spn.leave && raisedB outBand t 172 &&
      onlyB outBand t [.SPN_STAT_LOCK, .SPN_STAT_STATE, .SPN_RATIO_READY] [.spn, .ev]) = true := by decide +kernel

theorem witness_SpnTgtWrite : (8 ≤ spinning.rst.step ∧ spinning.pwr.link = true ∧ spinning.bit .SPN_HOLD_ACTIVE = false) ∧
    ([((-5 : W16), 0), (1, 4200), (4199, 4200), (4200, 4200), (7200, 7200), (7201, 7200)].all (fun e =>
      nx (exec (.spnTgtWrite e.1) spinning) (fun t => t.spn.tgt == e.2 && t.rd .SPN_TGT_TGT == e.1.toNat &&
        ((t.spn.tgt : Int) == e.1.toInt || t.rd .SPN_STAT_CLAMPED == 1 && raisedB spinning t 173) &&
        (e.2 == 7200 || t.spn.leave) && t.mem == spinning.mem))) = true := by decide +kernel

theorem witness_SpnTgtWrite_held : let s := put spinning [(.SPN_HOLD_ACTIVE, 0, 0, 1)]
    nx (exec (.spnTgtWrite 5000) s) (fun t => t.rd .SPN_TGT_TGT == 5000 && t.spn == s.spn && t.pwr.link &&
      onlyB s t [.SPN_TGT_TGT, .SPN_STAT_CLAMPED] [.ev, .pwr]) = true ∧
    nx (exec (.spnTgtWrite 5000) (up 6)) (fun t => t.rd .SPN_TGT_TGT == 5000 && t.spn == (up 6).spn) = true ∧
    nx (exec (.cogenWrite true) (up 6)) (fun t => t.bit .SPN_CTL_COGEN && onlyB (up 6) t [.SPN_CTL_COGEN] []) = true ∧
    (up 6).hears (selSce 4) = true := by decide +kernel

/-- A cogging table whose entry 3 is too large, beyond a quarter of the current limit (R85). -/
def cogged : State := { up 8 with mem := [(cogAddr 3, 255), (cogAddr 3 + 1, 127)] }
theorem witness_Cogen : cogged.cogBad 3 = true ∧ nx (exec (.cogenWrite true) cogged) (fun t => !t.bit .SPN_CTL_COGEN && raisedB cogged t 163) =
      true ∧ nx (exec (.cogenWrite true) (up 8)) (fun t => t.bit .SPN_CTL_COGEN) = true ∧
    nx (exec (.cogTableWrite 2 5) (put (up 8) [(.SPN_CTL_COGEN, 0, 0, 1)])) (fun t => t.mrd 4 (cogAddr 4) == 5 &&
      t.bit .SPN_CTL_COGEN == (!t.cogBad 4 && !t.cogBad 5)) = true := by decide +kernel

/-- The spindle in a state of its start sequence. -/
def starting (st attempt : Nat) : State := put { spinning with spn := { tgt := 7200 } }
  [(.SPN_STAT_STATE, 0, 0, st), (.SPN_STAT_ATTEMPT, 0, 0, attempt), (.SPN_START_ALIGN_I, 0, 0, 50), (.SPN_START_BLIND_I, 0, 0, 60)]
def startPart : List Reg := [.SPN_STAT_STATE, .SPN_STAT_ATTEMPT, .SPN_STAT_FAIL, .SPN_MEAS_SPEED, .SPN_WP_WP, .SPN_WP_CAUSE,
  .SCE_BANKSEL_ACTIVE, .SCE_BANKSEL_PENDING]
def sentB (s t : State) (l : List Out) : Bool := t.out == s.out ++ l

theorem witness_ObserveEnd : nx (exec (.observeEnd (.forward 1200)) (starting 1 0)) (fun t => t.rd .SPN_STAT_STATE == 5 && t.spn.loop &&
      t.spn.ramp == 300 && t.rd .SPN_MEAS_SPEED == 1200 && raisedB (starting 1 0) t 167 &&
      onlyB (starting 1 0) t startPart [.spn, .pwr, .ev, .out]) = true ∧
    ([.forward 1199, .reverse 40, .few].all (fun o => nx (exec (.observeEnd o) (starting 1 0)) (fun t => t.rd .SPN_STAT_STATE == 2 &&
      t.rd .SPN_STAT_ATTEMPT == 1 && sentB (starting 1 0) t [.bridge .short 0] &&
      onlyB (starting 1 0) t startPart [.spn, .pwr, .ev, .out]))) = true := by decide +kernel
theorem witness_ObserveEnd_again : nx (exec (.observeEnd .inconsistent) (starting 1 0)) (fun t => t.spn.again && t.rd .SPN_STAT_STATE == 1) =
      true ∧
    nx (exec (.observeEnd .inconsistent) ((starting 1 0).setSpn { tgt := 7200, again := true })) (fun t => t.rd .SPN_STAT_STATE == 2) = true := by
  decide +kernel
theorem witness_Brake : nx (exec (.brakeConfirmed 9) (starting 2 1)) (fun t => t.rd .SPN_STAT_STATE == 3 && !t.pwr.turning &&
      raisedB (starting 2 1) t 166 && sentB (starting 2 1) t [.bridge (.vector 1) 500] &&
      onlyB (starting 2 1) t startPart [.spn, .pwr, .ev, .out]) = true ∧
    nx (exec .brakeTimeout (starting 2 1)) (fun t => t.rd .SPN_STAT_STATE == 8 && t.rd .SPN_STAT_FAIL == 2 && raisedB (starting 2 1) t 185 &&
      sentB (starting 2 1) t [.bridge .off 0] && onlyB (starting 2 1) t startPart [.spn, .pwr, .ev, .out]) = true := by decide +kernel
theorem witness_Align : nx (exec .alignVectorEnd (starting 3 1)) (fun t => t.spn.vec == 1 && t.rd .SPN_STAT_STATE == 3 &&
      sentB (starting 3 1) t [.bridge (.vector 2) 500]) = true ∧
    nx (exec .alignVectorEnd ((starting 3 1).setSpn { tgt := 7200, vec := 1 })) (fun t => t.rd .SPN_STAT_STATE == 4 &&
      sentB (starting 3 1) t [.bridge .blind 600]) = true ∧
    nx (exec .handover (starting 4 1)) (fun t => t.rd .SPN_STAT_STATE == 5 && t.spn.loop && t.spn.integ == 0 && t.spn.ramp == 7200 &&
      raisedB (starting 4 1) t 168 && onlyB (starting 4 1) t startPart [.spn, .pwr, .ev, .out]) = true := by decide +kernel
theorem witness_StartAttemptFail : nx (exec .startAttemptFail (starting 4 2)) (fun t => t.rd .SPN_STAT_STATE == 2 && t.rd .SPN_STAT_ATTEMPT == 3 &&
      raisedB (starting 4 2) t 169) = true ∧
    nx (exec .startAttemptFail (starting 4 3)) (fun t => t.rd .SPN_STAT_STATE == 8 && t.rd .SPN_STAT_FAIL == 1 && raisedB (starting 4 3) t 170 &&
      onlyB (starting 4 3) t startPart [.spn, .pwr, .ev, .out]) = true ∧
    nx (exec (.windingShortStop 9) ((starting 2 0).setSpn { stopping := true })) (fun t => t.rd .SPN_STAT_STATE == 0 &&
      sentB (starting 2 0) t [.bridge .off 0]) = true := by decide +kernel

/-- A target that was zero and is not any more starts the spindle once the stop is confirmed. -/
theorem witness_Stop_restart : let s := (starting 2 0).setSpn { tgt := 7200, stopping := true, restart := true }
    (s.rd .SPN_STAT_STATE = 2 ∧ s.spn.stopping = true ∧ s.spn.restart = true ∧ s.pwr.iso = true) ∧
    (([.brakeConfirmed 9, .windingShortStop 9] : List Instr).all (fun c => nx (exec c s) (fun t => t.rd .SPN_STAT_STATE == 1 &&
      t.rd .SPN_STAT_ATTEMPT == 0 && raisedB s t 164 && raisedB s t 166 && sentB s t [.bridge .off 0]))) = true := by decide +kernel

def busPart : List Reg := [.SPN_MEAS_VBUS, .SPN_STAT_BUSWATCH, .SPN_STAT_CHOPON, .SPN_STAT_CHOPFLT, .SPN_STAT_OV2]
theorem witness_BusThresholds : nx (exec (.busWatchEnter 1290) spinning) (fun t => t.rd .SPN_MEAS_VBUS == 1290 && t.bit .SPN_STAT_BUSWATCH &&
      raisedB spinning t 175 && onlyB spinning t busPart [.spn, .pwr, .ev]) = true ∧
    nx (exec (.busWatchRelease 1269) (put spinning [(.SPN_STAT_BUSWATCH, 0, 0, 1)])) (fun t => !t.bit .SPN_STAT_BUSWATCH) = true ∧
    nx (exec (.ov1Engage 1320) spinning) (fun t => t.bit .SPN_STAT_CHOPON && raisedB spinning t 176) = true ∧
    nx (exec (.ov1Release 1289) (put spinning [(.SPN_STAT_CHOPON, 0, 0, 1)])) (fun t => !t.bit .SPN_STAT_CHOPON) = true := by decide +kernel
theorem witness_Chopper : let s := put spinning [(.SPN_STAT_CHOPON, 0, 0, 1)]
    nx (exec (.chopperFault true) s) (fun t => !t.bit .SPN_STAT_CHOPON && t.bit .SPN_STAT_CHOPFLT && raisedB s t 177) = true ∧
    nx (exec .clrchop (put spinning [(.SPN_STAT_CHOPFLT, 0, 0, 1)])) (fun t => !t.bit .SPN_STAT_CHOPFLT) = true ∧
    nx (exec .clrov (put (spinning.setPwr { spinning.pwr with vmot := 1289 }) [(.SPN_STAT_OV2, 0, 0, 1)])) (fun t => !t.bit .SPN_STAT_OV2) = true ∧
    nx (exec .clrov (put (spinning.setPwr { spinning.pwr with vmot := 1290 }) [(.SPN_STAT_OV2, 0, 0, 1)])) (fun t => t.bit .SPN_STAT_OV2) = true := by
  decide +kernel

/-- The same with arm 0 following its track and its permit active. -/
def tracking : State := put spinning [(.SPN_WP_EN, 0, 0, 1), (.SCE_STAT_STATE, 0, 0, 5), (.SPN_WP_WP, 0, 0, 1), (.SPN_STAT_LOCK, 0, 0, 1), (.SPN_STAT_STATE, 0, 0, 6)]
def outB (s : State) : Bool := (List.range 4).all (fun a => !s.rdBit .SPN_WP_WP a && s.rd .SCE_STAT_STATE a == 7) && s.pwr.retract == 1

theorem witness_Retracts : (tracking.pwr.retract = 0 ∧ tracking.bit .SPN_STAT_OV2 = false ∧ tracking.pwr.iso = true ∧
      tracking.pwr.link = true ∧ 5 ≤ tracking.rst.step) ∧
    nx (exec (.ov2Shutdown 1440) tracking) (fun t => t.bit .SPN_STAT_OV2 && outB t && t.rd .SPN_STAT_STATE == 8 && raisedB tracking t 178 &&
      raisedB tracking t 180 && t.mem == tracking.mem) = true ∧
    nx (exec (.linkSilence 100) (put tracking [(.SPN_HOLD_ACTIVE, 0, 0, 1)])) (fun t => !t.pwr.link && outB t && t.bit .SPN_HOLD_ACTIVE) = true := by
  decide +kernel
theorem witness_PowerLoss : tracking.pwr.iso = true ∧ tracking.pwr.link = true ∧ tracking.pwr.retract = 0 ∧ tracking.rd .SPN_STAT_STATE ≠ 0 := by decide
theorem witness_RetractEnds : let s := { spinning with pwr := { spinning.pwr with retract := 1, iso := false } }
    nx (exec .retractPush s) (fun t => t.pwr.retract == 2 && sentB s t ((List.range 4).map (fun a => .vcmPush a (2 * s.rd .SPN_ILIM_RETI))) &&
      onlyB s t [] [.pwr, .out]) = true ∧
    nx (exec (.retractDone 1 2 3 4) (s.setPwr { s.pwr with retract := 2 })) (fun t => t.pwr.retract == 0 && raisedB s t 181 &&
      sentB s t ((List.range 4).map (fun a => .vcmOff a)) && onlyB s t [.SPN_WP_WP, .SPN_WP_CAUSE] [.pwr, .ev, .out]) = true ∧
    nx (exec .isolationSwitchClose s) (fun t => t.pwr.iso && keepsB s t [.pwr, .free]) = true ∧
    nx (exec .take (put spinning [(.SPN_HOLD_ACTIVE, 0, 0, 1)])) (fun t => t.spn.take) = true := by decide +kernel

theorem witness_BridgeOvercurrent : nx (exec (.bridgeOvercurrent (.spindle 0) 9) tracking) (fun t => t.rd .SPN_STAT_STATE == 8 && !t.spn.loop &&
      onlyB tracking t [.SPN_HOLD_ACTIVE, .SPN_STAT_STATE, .SCE_BANKSEL_ACTIVE, .SCE_BANKSEL_PENDING] [.pwr, .ev, .spn, .out]) = true ∧
    nx (exec (.bridgeOvercurrent (.vcm 1) 9) tracking) (fun t => NSet.has 1 t.pwr.tripped && t.pwr.retract == 1 && !t.rdBit .SPN_WP_WP 0 &&
      t.rd .SCE_STAT_STATE 0 == 7) = true ∧
    nx (exec (.powerDieOvertemp 1200) tracking) (fun t => t.pwr.hotDie && t.rd .AGE_TEMP_TEMP 1 == 1200 && !t.canStart && t.pwr.retract == 1) =
      true := by decide +kernel
theorem witness_MaRail : nx (exec .maRailOutOfRange tracking) (fun t => !t.pwr.ma && ((t.arm 0).mic 0).uApp == 0 &&
      onlyB tracking t [.SCE_STAT_SATM, .SCE_STAT_OUTWIN] [.pwr, .arms, .out]) = true ∧
    nx (exec .maRailInRange { up 2 with pwr := { v12 := true } }) (fun t => t.pwr.ma && onlyB { up 2 with pwr := { v12 := true } } t [] [.pwr]) = true ∧
    nx (exec .maRailInRange (up 2)) (fun t => t == up 2) = true := by decide +kernel

def wpPart : List Reg := [.SPN_WP_WP, .SPN_WP_CAUSE, .SPN_SHK_BIASA, .SPN_SHK_BIASB]
theorem witness_PermitFollows : failBits (tracking.wpConds 0) = 0 ∧ tracking.rdBit .SPN_WP_WP 0 = true ∧
    (([.shockExcursion false, .shockSensorUnsound true, .reportFreshExpire 0, .supplyWindowExit .vbus, .controllerDieOvertemp] : List Instr).all
      (fun c => nx (exec c tracking) (fun t => !t.rdBit .SPN_WP_WP 0 && raisedB tracking t 146 && failBits (t.wpConds 0) != 0 &&
        onlyB tracking t wpPart [.pwr, .ev]))) = true ∧
    (([.shockHoldExpire, .shockSensorSoundRestore true 3, .supplyGoodRestore .vpre, .controllerDieTempRestore] : List Instr).all
      (fun c => nx (exec c tracking) (fun t => t.rdBit .SPN_WP_WP 0 && onlyB tracking t wpPart [.pwr, .ev]))) = true := by decide +kernel
theorem witness_CoreSupply : nx (exec (.supplyWindowExit .core) tracking) (fun t => !t.pwr.core && !t.pwr.good && !t.rdBit .SPN_WP_WP 0) = true ∧
    nx (exec (.supplyGoodRestore .core) { up 0 with pwr := { close6 := true } }) (fun t => t.pwr.core && t.pwr.good && !t.pwr.close6) = true := by
  decide +kernel
theorem witness_PermitNeverOutlives : (∀ a, a < 4 → tracking.rdBit .SPN_WP_WP a = true → failBits (tracking.wpConds a) = 0) ∧
    nx (step { tracking with pending := [.controllerDieTempRestore] }) (fun t => t.rdBit .SPN_WP_WP 0) = true := by decide +kernel


/-! ### Servo -/

/-- Arm 0 in a state, with its spindle in lock. -/
def armIn (st : Nat) : State := put spinning [(.SCE_STAT_STATE, 0, 0, st), (.SPN_STAT_LOCK, 0, 0, 1), (.SPN_STAT_STATE, 0, 0, 6),
  (.SCE_CTL_RUN, 0, 0, 1), (.SCE_MINTRK_MINTRK, 0, 0, 100), (.SCE_MAXTRK_MAXTRK, 0, 0, 400000)]

theorem witness_ArmStates : nx (exec (.sceRunWrite 0 true) (armIn 0)) (fun t => t.rd .SCE_STAT_STATE 0 == 1 && t.rd .SCE_CTL_RUN 0 == 1 &&
      onlyB (armIn 0) t [.SCE_CTL_RUN, .SCE_STAT_STATE, .SCE_STAT_LOADED] []) = true ∧
    ([1, 7].all (fun k => nx (exec (.sceRunWrite 0 false) (armIn k)) (fun t => t.rd .SCE_STAT_STATE 0 == 0 && (t.arm 0).queue == [] &&
      onlyB (armIn k) t [.SCE_CTL_RUN, .SCE_STAT_STATE, .SCE_STAT_LOADED] [.arms]))) = true ∧
    nx (exec (.unloadPushEnd 0) (armIn 6)) (fun t => t.rd .SCE_STAT_STATE 0 == 1 && t.out.length == 2 &&
      onlyB (armIn 6) t [.SCE_STAT_STATE, .SCE_STAT_LOADED, .HSE_STAT_GATES] [.arms, .hses, .chans, .out]) = true := by decide +kernel
theorem witness_Load : let low := put (armIn 1) [(.SPN_MEAS_SPEED, 0, 0, 14399)]
    let high := put (armIn 1) [(.SPN_MEAS_SPEED, 0, 0, 14400)]
    nx (exec (.load 0) low) (fun t => t.rd .SCE_STAT_LOADREF 0 == 1 && onlyB low t [.SCE_STAT_LOADREF] []) = true ∧
    nx (exec (.load 0) high) (fun t => t.rd .SCE_STAT_STATE 0 == 2 && t.rd .SCE_STAT_LOADED 0 == 1 &&
      t.out == [.vcmVel 0 (high.rd .SCE_LOAD_LOADV 0)] && onlyB high t [.SCE_STAT_STATE, .SCE_STAT_LOADED] [.arms, .pwr, .out]) = true := by
  decide +kernel
theorem witness_Unload : ([(.sceRunWrite 0 false, 5), (.unload 0, 2), (.loadtmo 0, 2)] : List (Instr × Nat)).all (fun e =>
    let s := put (armIn e.2) [(.SPN_WP_EN, 0, 0, 1), (.SPN_WP_WP, 0, 0, 1), (.SCE_HSTAT_PLAUS, 0, 0, 63), (.SCE_HSTAT_ARMPL, 0, 0, 1)]
    nx (exec e.1 s) (fun t => t.rd .SCE_STAT_STATE 0 == 6 && !t.bit .SCE_HSTAT_ARMPL 0 && t.rd .SCE_HSTAT_PLAUS 0 == 0 &&
      !t.rdBit .SPN_WP_WP 0 && t.mem == s.mem)) = true := by decide +kernel

theorem witness_CtgtWrite : ([(0, 102400), (102400, 102400), (409600000, 409600000), (409600001, 409600000)] : List (Nat × Nat)).all (fun e =>
    nx (exec (.ctgtWrite 0 (BitVec.ofNat 32 e.1)) (armIn 5)) (fun t => t.rd .SCE_CTGT_CTGT 0 == e.2 && t.rd .SCE_STAT_STATE 0 == 3 &&
      (e.1 == e.2 || t.rd .SCE_STAT_CLAMPTRK 0 == 1) && t.rd .SCE_HSTAT_RDY_RD 0 == 0 && t.mem == (armIn 5).mem &&
      keepsB (armIn 5) t [.arms, .out])) = true := by decide +kernel
theorem witness_Seektmo : (armIn 4).rd .SCE_HSTAT_RDY_RD 0 = 0 ∧ nx (exec (.seektmo 0) (armIn 4)) (fun t => t.rd .SCE_STAT_SEEKTMO 0 == 1 &&
    raisedB (armIn 4) t 147 && onlyB (armIn 4) t [.SCE_STAT_SEEKTMO] [.ev]) = true := by decide +kernel

/-- Gray code 3 is binary 2; a null burst pair at the centre adds nothing (R106). -/
def onTrack : Wedge := { gray := 3, widx := 479, n := 0, q := 1, sam := true, lowamp := false }
def unity (s : State) : State := put s [(.SCE_HCAL1_PGAIN, 0, 0, 0x4000)]
theorem witness_SampleRecord : let s := unity (armIn 5)
    nx (exec (.sampleRecord 0 onTrack false) s) (fun t => onlyB s t [] [.arms] && (match (t.arm 0).queue with
      | [x] => x.head == 0 && x.widx == 479 && x.valid && x.pos == 2048
      | _ => false)) = true ∧
    nx (exec (.sampleRecord 0 { onTrack with widx := 480 } false) s) (fun t => match (t.arm 0).queue with
      | [x] => x.idxerr && !x.valid
      | _ => false) = true := by decide +kernel
def sample (valid : Bool) : Sample := { head := 0, pos := 0, widx := 1, valid := valid, corr := false, miss := !valid, idxerr := false, lowamp := false, trkerr := false }
/-- Two samples of one instant: the reference head's first, then ascending; of two instants the older. -/
theorem witness_NextSample : let x (h i : Nat) : Sample := { sample true with head := h, inst := i }
    nextSample 3 [x 4 7, x 3 7] = some (x 3 7) ∧ nextSample 0 [x 4 7, x 3 7] = some (x 3 7) ∧ nextSample 3 [x 4 6, x 3 7] = some (x 4 6) := by
  decide +kernel
/-- The bursts of an odd track are read against the phase of an even one's (R106; which is which is log entry 100). -/
theorem witness_Burst : (onTrack.n = 0 ∧ 0 ≤ burst (grayDecode onTrack.gray.toNat) onTrack.q ∧ grayDecode onTrack.gray.toNat = 2) ∧
    burst 2 5 = 5 ∧ burst 3 5 = -5 := by decide +kernel
theorem witness_SceRun_stored : ([(true, 5), (false, 0), (false, 6)] : List (Bool × Nat)).all (fun e =>
    nx (exec (.sceRunWrite 0 e.1) (armIn e.2)) (fun t => t.rd .SCE_CTL_RUN 0 == b2n e.1 && onlyB (armIn e.2) t [.SCE_CTL_RUN] [])) = true ∧
    (armIn 5).hears (selSce 0) = true ∧ (armIn 5).hears (selSce 4) = true := by decide +kernel
def queued (valid : Bool) : State := put ((armIn 5).setArm 0 { queue := [sample valid] }) [(.SCE_HSTAT_PLAUS, 0, 0, 1), (.SCE_HSTAT_ARMPL, 0, 0, 1)]
theorem witness_SampleService : (8 ≤ (queued false).rst.step ∧ ((queued false).arm 0).queue = [sample false] ∧ (queued false).armTracks 0 = true) ∧
    nx (exec (.sampleService 0) (queued false)) (fun t => (t.arm 0).queue == [] && !t.rdBit .SCE_HSTAT_PLAUS 0 0 && t.mem == (queued false).mem) = true ∧
    (let s := put ((queued false).setChan 0 { wf := some { data := [], ctx := none, par := none } }) [(.HSE_TRK_TRK, 0, 0, 1000000)]
     nx (exec (.sampleService 0) s) (fun t => !t.windowOk 0 && (t.chan 0).wf.map (·.cut) == some true) = true) := by decide +kernel
theorem witness_Late : nx (exec (.sampleDeadlineMiss 4) spinning) (fun t => t.rdBit .SCE_LATE_LM 0 4 && t.rd .SCE_LATECNT_COUNT 4 == 1 && t.spn.late &&
      raisedB spinning t 160 && onlyB spinning t [.SCE_LATE_LM, .SCE_LATECNT_COUNT] [.spn, .ev]) = true ∧
    (let s := (queued true).setArm 0 { queue := [sample true], lateN := (queued true).lateLim 0 - 1 }
     s.rd .SCE_STAT_REFACT 0 = 0 ∧ nx (exec (.sampleDeadlineMiss 0) s) (fun t => t.rd .SCE_LATE_LV 0 == 1 && t.rd .SCE_HSTAT_PLAUS 0 == 0 &&
      t.mem == s.mem) = true) := by decide +kernel

theorem witness_Late_micro : let s := put ((queued true).setArm 0 { queue := [{ sample true with head := 1 }] }) [(.SCE_CTL_MEN, 0, 0, 63)]
    s.micRuns 0 1 = true ∧ nx (exec (.sampleDeadlineMiss 0) s) (fun t => t.rdBit .SCE_LATE_LM 1 0 && t.mem == s.mem) = true := by decide +kernel
theorem witness_BankselSwap : nx (exec (.bankselSwap 0) (armIn 1)) (fun t => t.bankNow 0 == 1 && onlyB (armIn 1) t [.SCE_BANKSEL_ACTIVE, .SCE_BANKSEL_PENDING] []) =
      true ∧ nx (exec (.bankselSwap 0) (armIn 5)) (fun t => t.bankNow 0 == 0 && t.bit .SCE_BANKSEL_PENDING 0) = true ∧
    (let s := put (armIn 5) [(.SCE_BANKSEL_AUTO, 0, 0, 1)]
     nx (exec (.bankselSwap 0) s) (fun t => t.rd .SCE_BANKSEL_REFUSED 0 == 1 && raisedB s t 147 && onlyB s t [.SCE_BANKSEL_REFUSED] [.ev]) = true) := by
  decide +kernel
theorem witness_BankWrite : nx (exec (.bankWrite 4 true 31 9) (armIn 1)) (fun t => t.mrd 4 (bankAddr 4 1 124) == 9 && memButB (armIn 1) t (bankAddr 4 1 124) 4 &&
      regsB (armIn 1) t [] && keepsB (armIn 1) t []) = true ∧
    nx (exec (.bankWrite 0 false 127 9) (armIn 1)) (fun t => t.rd .SCE_BANKSEL_WRACT 0 == 1 && raisedB (armIn 1) t 147 &&
      onlyB (armIn 1) t [.SCE_BANKSEL_WRACT] [.ev]) = true := by decide +kernel


/-! ### Head sequencers -/

/-- Engine 0 running at address 5, where a microword with SEQ and OPND stands, its nanoword n at NADDR 0 (Tables 6-1, 6-3). -/
def engine (seq opnd n : Nat) (e : Hse := {}) : State :=
  put ((({ (up 10) with hses := [(0, { ofs := 1 })] }).setHse 0 e).mwr 4 (hseBase 0 + 0x8000 + 20) (seq * 4096 + opnd) |>.mwr 8 (hseBase 0 + 0x4000) n)
    [(.HSE_STAT_STATE, 0, 0, 1), (.HSE_UPC_UPC, 0, 0, 5), (.HSE_LC_LC0, 0, 0, 2), (.HSE_TPEND_PEND, 0, 0, 0)]

theorem witness_Next : (engine 0 9 0).executes 0 0 ∧ nx (exec (.next 0) (engine 0 9 0)) (fun t => t.rd .HSE_UPC_UPC 0 == 6) = true := by
  unfold State.executes; decide +kernel
/-- JC 0 is always true; JCINV (bit 26) turns it (Table 6-4); JC 48 (bits 25:20) is reserved. -/
theorem witness_Jump : (engine 1 9 0).executes 0 1 ∧ nx (exec (.jump 0) (engine 1 9 0)) (fun t => t.rd .HSE_UPC_UPC 0 == 9) = true ∧
    nx (exec (.jump 0) (engine 1 9 0x4000000)) (fun t => t.rd .HSE_UPC_UPC 0 == 6) = true ∧
    nx (exec (.jump 0) (engine 1 9 0x3000000)) (fun t => t.rd .HSE_UPC_UPC 0 == 6 && t.rdBit .HSE_TPEND_PEND 2 0) = true := by
  unfold State.executes; decide +kernel
def calls (n : Nat) : Hse := { cstk := List.replicate n 77 }
theorem witness_Call : (engine 2 9 0 (calls 7)).executes 0 2 ∧
    nx (exec (.call 0) (engine 2 9 0 (calls 7))) (fun t => t.rd .HSE_UPC_UPC 0 == 9 && (t.hse 0).cstk == 6 :: List.replicate 7 77) = true ∧
    nx (exec (.call 0) (engine 2 9 0 (calls 8))) (fun t => t.rd .HSE_UPC_UPC 0 == 6 && t.rdBit .HSE_TPEND_PEND 3 0) = true ∧
    nx (exec (.call 0) (engine 2 9 0x4000000 (calls 7))) (fun t => t.rd .HSE_UPC_UPC 0 == 6 && (t.hse 0).cstk.length == 7) = true := by
  unfold State.executes; decide +kernel
theorem witness_Return : (engine 3 9 0 (calls 1)).executes 0 3 ∧
    nx (exec (.ret 0) (engine 3 9 0 (calls 1))) (fun t => t.rd .HSE_UPC_UPC 0 == 77 && (t.hse 0).cstk == []) = true ∧
    nx (exec (.ret 0) (engine 3 9 0)) (fun t => t.rd .HSE_UPC_UPC 0 == 6 && t.rdBit .HSE_TPEND_PEND 3 0) = true := by
  unfold State.executes; decide +kernel
theorem witness_Loop : (engine 4 9 0).executes 0 4 ∧
    nx (exec (.loop 0) (engine 4 9 0)) (fun t => t.rd .HSE_UPC_UPC 0 == 9 && t.rd .HSE_LC_LC0 0 == 1) = true ∧
    nx (exec (.loop 0) (engine 4 9 0x10000)) (fun t => t.rd .HSE_UPC_UPC 0 == 6 && t.rd .HSE_LC_LC1 0 == 0) = true := by
  unfold State.executes; decide +kernel
def frame (csd : Nat) : TFrame := ⟨40, csd, 10, false, 3, 4, 0xF5, 1, 8, false⟩
theorem witness_Tret : (engine 6 0 0 { tstk := [frame 0], latch := 2 }).executes 0 6 ∧
    nx (exec (.tret 0) (engine 6 0 0 { tstk := [frame 0], latch := 2 })) (fun t => t.rd .HSE_UPC_UPC 0 == 40 && t.rd .HSE_LC_LC0 0 == 3 &&
      t.rd .HSE_LC_LC1 0 == 4 && t.rd .HSE_FLAGS_F 0 == 5 && (t.hse 0).latch == 3 && (t.hse 0).nano == 8 && (t.hse 0).tstk == []) = true ∧
    nx (exec (.tret 0) (engine 6 0 0 { tstk := [frame 1] })) (fun t => t.rdBit .HSE_TPEND_PEND 3 0) = true ∧
    nx (exec (.tret 0) (engine 6 0 0)) (fun t => t.rd .HSE_UPC_UPC 0 == 6 && t.rdBit .HSE_TPEND_PEND 2 0) = true := by
  unfold State.executes; decide +kernel
theorem witness_Halt : (engine 7 0 0 (calls 1)).executes 0 7 ∧ nx (exec (.halt 0) (engine 7 0 0 (calls 1))) (fun t => !t.running 0 &&
    t.rd .HSE_STAT_HALTC 0 == 1 && t.rd .HSE_CTL_SGAUTO 0 == 1 && (t.hse 0).cstk == [] && !t.rgOpen 0) = true := by
  unfold State.executes; decide +kernel

/-- OPND of a WAIT: condition in bits 11:6, INV bit 5, TSEL bits 4:0 (Table 6-2). Condition 13 is a staged frame, false here. -/
def waitOn (c : Nat) (w : Bool) : State := (engine 5 (64 * c) 0 { waiting := w }).mwr 4 (hseBase 0 + 0x3080) 9
theorem witness_Wait : (waitOn 13 false).ready 0 5 = true ∧
    nx (exec (.wait 0) (waitOn 13 false)) (fun t => (t.hse 0).waiting && t.rd .HSE_STAT_STATE 0 == 2 && t.rd .HSE_UPC_UPC 0 == 5 && t.mem == (waitOn 13 false).mem) = true ∧
    nx (exec (.wait 0) (waitOn 0 false)) (fun t => t.running 0 && t.rd .HSE_UPC_UPC 0 == 6 && !(t.hse 0).waiting) = true ∧
    nx (exec (.wait 0) (waitOn 48 false)) (fun t => t.rd .HSE_UPC_UPC 0 == 6 && t.rdBit .HSE_TPEND_PEND 2 0) = true := by decide +kernel
theorem witness_WaitEnds : nx (exec (.waitConditionMet 0) (waitOn 0 true)) (fun t => t.rd .HSE_UPC_UPC 0 == 6 && !(t.hse 0).waiting) = true ∧
    nx (exec (.waittmo 0) (waitOn 13 true)) (fun t => t.rdBit .HSE_TPEND_PEND 4 0 && t.rd .HSE_UPC_UPC 0 == 5) = true ∧
    nx (exec (.illegalSeq 0) (engine 8 0 0)) (fun t => t.rd .HSE_UPC_UPC 0 == 6 && t.rdBit .HSE_TPEND_PEND 2 0) = true := by decide +kernel

/-- Vectors 10 and 12 pend; TVEC[10] is 100. -/
def trapped (e : Hse) : State := put ((engine 0 0 0 e).mwr 4 (hseBase 0 + 0x3040 + 40) 100) [(.HSE_TPEND_PEND, 0, 0, 0x1400)]
theorem witness_TrapEntry : (trapped {}).nextVec 0 = some 10 ∧ (trapped {}).deferred 0 = false ∧
    nx (exec (.trapEntry 0 false) (trapped {})) (fun t => t.rd .HSE_STAT_STATE 0 == 3 && t.rd .HSE_UPC_UPC 0 == 100 &&
      t.rd .HSE_TPEND_PEND 0 == 0x1000 && (t.hse 0).tstk.map (·.upc) == [5] && (t.hse 0).tstk.map (·.lc0) == [2]) = true ∧
    nx (exec (.trapEntry 0 false) (trapped { tstk := List.replicate 8 ⟨0, 0, 1, false, 0, 0, 0, 0, 0, false⟩ })) (fun t => !t.running 0 &&
      t.rd .HSE_STAT_HALTC 0 == 4) = true ∧
    nx (exec (.trapEntry 0 true) (trapped {})) (fun t => !t.running 0 && t.rd .HSE_STAT_HALTC 0 == 3 && raisedB (trapped {}) t 1) = true := by
  decide +kernel
theorem witness_AtomAndRuns : let atom := engine 0 0 0 { nano := 1 }
    nx (exec (.atomOverrun 0) atom) (fun t => t.rd .HSE_STAT_ATOMOVR 0 == 1 && raisedB atom t 2) = true ∧
    nx (exec (.hseRunStop 0) atom) (fun t => t.running 0 && (t.hse 0).stopping && t.rd .HSE_CTL_RUN 0 == 0) = true ∧
    nx (exec (.hseRunStop 0) (engine 0 0 0)) (fun t => !t.running 0 && t.rd .HSE_STAT_HALTC 0 == 2) = true ∧
    nx (exec (.hseRunStart 0) ((up 9).mwr 4 (hseBase 0 + 0x3000) 9)) (fun t => t.rd .HSE_CTL_RUN 0 == 1 && t.rd .HSE_STAT_STATE 0 == 1 &&
      t.rd .HSE_UPC_UPC 0 == 9 && (t.hse 0).cstk == [] && t.rd .HSE_LC_LC0 0 == 0) = true := by decide +kernel

/-- Rate, window, plausibility, permit and preamp all allow a write on head 0; its microword opens the write gate (WG 1, bits 6:5). -/
def armed (n : Nat) : State := put ({ engine 0 0 n with pwr := { fresh := [] } }.setChan 0 { staged := [⟨0, [], false, none, none⟩], timed := true })
  [(.CHAN_STAT_ENA, 0, 0, 1), (.SPN_RATIO_READY, 0, 0, 1), (.CHAN_STAT_LOCKED, 0, 0, 1), (.SCE_HSTAT_PLAUS, 0, 0, 1), (.SPN_WP_WP, 0, 0, 1)]
theorem witness_WriteGateOpens : (armed 0x20).wgOpen 0 = false ∧ nx (exec (.next 0) (armed 0x20)) (fun t => t.wgOpen 0 && t.rateOk 0 && t.windowOk 0 &&
    t.plausOk 0 && t.rdBit .SPN_WP_WP 0 && !t.bit .HL_STAT_FLT 0) = true := by decide +kernel
theorem witness_MicrocodeTouchesItsOwnHeadOnly : (∀ e ∈ ((engine 0 0 0).hse 0).held, e.1 < 1024) ∧
    nx (exec (.next 0) (engine 0 0 0x80000)) (fun t => t.rd .HSE_SLOTCNT_SLOT 0 == 1 && t.rd .HSE_SLOTCNT_SLOT 1 == 0 && t.mem == (engine 0 0 0x80000).mem) = true := by
  decide +kernel

theorem witness_Doorbells : nx (exec (.doorbellCmd 3) (up 9)) (fun t => t.rdBit .HSE_TPEND_PEND 10 3 && onlyB (up 9) t [.HSE_TPEND_PEND] []) = true ∧
    nx (exec (.doorbellAbort 3) (up 9)) (fun t => t.rdBit .HSE_TPEND_PEND 11 3) = true ∧
    nx (exec (.cqptrTailWrite 3 1) (up 5)) (fun t => t.rd .HSE_CQPTR_TAIL 3 == 1) = true ∧
    nx (exec (.cqptrTailWrite 3 2) (up 5)) (fun t => t.rd .HSE_CQPTR_TAIL 3 == 0 && t.rd .HSE_STAT_CQERR 3 == 1) = true ∧
    nx (exec (.cqptrTailWrite 3 0) (put (up 5) [(.HSE_CQPTR_TAIL, 3, 0, 15)])) (fun t => t.rd .HSE_CQPTR_TAIL 3 == 15 && t.rd .HSE_STAT_CQERR 3 == 1) =
      true := by decide +kernel
theorem witness_DoneAndStores : nx (exec (.hseDoneRead 0) (up 9)) (fun t => t.out == [.popped .HSE_DONE_CMDTAG 0 0]) = true ∧
    nx (exec (.hseDoneRead 0) ((up 9).setHse 0 { done := [⟨5, 1, 2, 3⟩] })) (fun t => (t.hse 0).done == [] &&
      t.out == [.popped .HSE_DONE_CMDTAG 0 (5 + 2 ^ 17 + 2 ^ 22 + 3 * 2 ^ 34 + 2 ^ 63)]) = true ∧
    nx (exec (.hseStoreWrite 0 0x8000 0x1FFFFFF) (up 5)) (fun t => t.mrd 4 (hseBase 0 + 0x8000) == 0xFFFFFF) = true ∧
    nx (exec (.hseStoreWrite 0 0x8000 1) (engine 0 0 0)) (fun t => t.rd .HSE_STAT_STWR 0 == 1 && raisedB (engine 0 0 0) t 2 && t.mem == (engine 0 0 0).mem) =
      true := by decide +kernel
def scanning : State := put ((up 9).setHse 0 { scan := true, scanTrk := 7, scanSlot := 3 } |>.mwr 8 (hseBase 0 + 0x2000) (2 ^ 63 + 7 + 3 * 2 ^ 24 + 2 ^ 40))
  [(.HSE_DSKN_DSKN, 0, 0, 1)]
theorem witness_SkipTable : nx (exec (.defectTableWrite 0 2 9) (up 5)) (fun t => t.mrd 4 (hseBase 0 + 0x2008) == 9) = true ∧
    nx (exec (.defectTableWrite 0 2 9) scanning) (fun t => t.mem == scanning.mem && (t.hse 0).held == [(2, 9)]) = true ∧
    nx (exec (.skipCheckDone 0) scanning) (fun t => (t.hse 0).defect && (t.hse 0).skipRdy && !(t.hse 0).scan) = true ∧
    nx (exec (.skipCheckDone 0) (put scanning [(.HSE_DSKN_DSKN, 0, 0, 0)])) (fun t => !(t.hse 0).defect) = true := by decide +kernel

/-- The write gate is open at a slot boundary, with and without a staged frame. -/
def writing (staged : List SFrame) (wf : Option WFrame) : State :=
  put ((armed 0).setChan 0 { staged := staged, wf := wf, timer := true, timed := true } |>.setHse 0 { cnt0 := 1 }) [(.HSE_STAT_GATES, 0, 0, 4), (.HSE_WPER_WPER, 0, 0, 3000)]
theorem witness_SlotBoundary : nx (exec (.slotBoundary 0) (writing [] none)) (fun t => !t.wgOpen 0 && t.rdBit .HSE_TPEND_PEND 9 0 && t.wseq == 0 &&
      (t.hse 0).latch.testBit latSlotb) = true ∧
    nx (exec (.slotBoundary 0) (writing [⟨0, [], false, none, none⟩] none)) (fun t => t.wgOpen 0 && t.wseq == 1 && (t.chan 0).wf.isSome) = true := by
  decide +kernel
theorem witness_KeepOut : let s := put (up 9) [(.HSE_WPER_WPER, 0, 0, 3000), (.HSE_KO_KO_PRE, 0, 0, 20), (.HSE_KO_KO_POST, 0, 0, 60), (.HSE_CTL_SGAUTO, 0, 0, 1)]
    nx (exec (.keepOutStart 0) s) (fun t => (t.hse 0).ko && t.rd .HSE_WT_WT 0 == 2980 && t.rdBit .HSE_STAT_GATES 0 0) = true ∧
    nx (exec (.keepOutEnd 0) (s.setHse 0 { ko := true })) (fun t => !(t.hse 0).ko && t.rd .HSE_WT_WT 0 == 61) = true := by decide +kernel
theorem witness_WritePermitDrop : let s := put (writing [] (some { data := [], ctx := none, par := none })) [(.SPN_WP_WP, 0, 0, 0)]
    nx (exec (.writePermitDrop 0) s) (fun t => t.rdBit .HSE_TPEND_PEND 6 0 && t.wgOpen 0 && (t.chan 0).wclose && (t.chan 0).wf == some { data := [], ctx := none, par := none, cut := true, told := true }) = true ∧
    nx (exec (.writePermitDrop 0) (put (writing [] none) [(.SPN_WP_WP, 0, 0, 0)])) (fun t => t.rdBit .HSE_TPEND_PEND 6 0 && !t.wgOpen 0) = true := by
  decide +kernel

/-- CQDONE (nanoword bit 11) with the completion queue's 16 entries used: a WAIT whose condition holds stalls at its address. -/
def stalling : State := (waitOn 0 false).setHse 0 { done := List.replicate 16 ⟨0, 0, 0, 0⟩ }
theorem witness_WaitStalls : let s := stalling.mwr 8 (hseBase 0 + 0x4000) (2 ^ 11)
    (s.ready 0 5 = true ∧ s.stalls 0 (s.curNano 0) = true ∧ nanoBad (s.curNano 0) = false ∧ (s.hse 0).stopping = false) ∧
    nx (exec (.wait 0) s) (fun t => (t.hse 0).waiting && (t.hse 0).stalled && t.rd .HSE_UPC_UPC 0 == 5) = true := by decide +kernel
/-- A stall ends when room is made; a WAIT under a RUN = 0 halts; a time-out in wedges needs its marks (bit 24 of COUNT's word). -/
theorem witness_WaitOthers :
    nx (exec (.waitConditionMet 0) ((waitOn 13 true).setHse 0 { waiting := true, stalled := true })) (fun t =>
      t.rd .HSE_UPC_UPC 0 == 6 && !(t.hse 0).waiting) = true ∧
    nx (exec (.wait 0) ((waitOn 13 false).setHse 0 { stopping := true })) (fun t => !t.running 0 && t.rd .HSE_STAT_HALTC 0 == 2) = true ∧
    (let s (n : Nat) := ((engine 5 (64 * 13) 0).setHse 0 { waiting := true, wedges := n }).mwr 4 (hseBase 0 + 0x3080) (2 ^ 24 + 3)
     nx (exec (.waittmo 0) (s 3)) (fun t => t.rdBit .HSE_TPEND_PEND 4 0 && !(t.hse 0).waiting && t.rd .HSE_UPC_UPC 0 == 5) = true ∧
     nx (exec (.waittmo 0) (s 2)) (fun t => t == s 2) = true) := by decide +kernel
theorem witness_Runs2 : nx (exec (.hseRunStart 0) (up 5)) (fun t => t.rd .HSE_CTL_RUN 0 == 1 && onlyB (up 5) t [.HSE_CTL_RUN] []) = true ∧
    nx (exec (.hseRunStart 0) (engine 0 0 0)) (fun t => t == engine 0 0 0) = true ∧
    nx (exec (.hseRunStop 0) (put (up 5) [(.HSE_CTL_RUN, 0, 0, 1)])) (fun t => t.rd .HSE_CTL_RUN 0 == 0) = true ∧
    (up 9).hears (selHse 0) = true ∧
    (let s : State := { up 9 with rst := { (up 9).rst with soft := some 0 }, hses := [(0, { done := [⟨5, 1, 2, 3⟩] })] }
     s.hears (selHse 0) = false ∧ nx (exec (.hseDoneRead 0) s) (fun t => t.out == [.popped .HSE_DONE_CMDTAG 0 0] && t.hses == s.hses) = true) := by
  decide +kernel

theorem witness_SlotBoundary_read : let s := (put (writing [] none) [(.CHAN_ADAPT_FREEZE, 0, 0, 1)]).setChan 0 { reading := true, timer := true, timed := true, lost := none, kept := none }
    nx (exec (.slotBoundary 0) s) (fun t => (t.hse 0).latch.testBit latSlotb && (t.chan 0).kept == none && !(t.chan 0).reading) = true := by
  decide +kernel
/-- The end of a window resumes a paused frame behind its lead, starts one that waited, or a slot's search (R139, R180). -/
theorem witness_KeepOutEnd : let s (c : Chan) : State := ((writing [] none).setChan 0 c).setHse 0 { ko := true, cnt0 := 1 }
    let f : WFrame := { data := [], ctx := none, par := none }
    nx (exec (.keepOutEnd 0) (s { wf := some f, timed := true })) (fun t => (t.chan 0).wg && (t.chan 0).wf == some f && t.rd .HSE_WT_WT 0 == 601) = true ∧
    nx (exec (.keepOutEnd 0) (s { startW := true, staged := [⟨0, [], false, none, none⟩], timer := true, timed := true })) (fun t =>
      t.wseq == 1 && (t.chan 0).wf.isSome) = true ∧
    nx (exec (.keepOutEnd 0) (s { startR := true, timed := true })) (fun t => (t.chan 0).reading) = true ∧
    (s { startW := true, timed := true }).windowOk 0 = true ∧ (s { startW := true, timed := true }).permitOk 0 = true ∧
    nx (exec (.keepOutStart 0) ((writing [] (some f)).setChan 0 { wf := some f, wg := true })) (fun t => !(t.chan 0).wg && (t.hse 0).ko) = true := by
  decide +kernel

/-- Arm 0 loaded; head 0 has found a mark, and the interval counted since is WPER. -/
def marking (e : Hse) : State := put ((up 9).setHse 0 e) [(.SCE_STAT_STATE, 0, 0, 5), (.HSE_CTL_SGAUTO, 0, 0, 1), (.HSE_WPER_WPER, 0, 0, 2000),
  (.HSE_STAT_GATES, 0, 0, 1)]
theorem witness_ServoAddressMark :
    ((marking { servo := true, direct := true }).armLoaded 0 = true ∧ (marking { servo := true, direct := true }).gateShut 0 = false) ∧
    nx (exec (.servoAddressMark 0 17 3000) (marking { servo := true, direct := true })) (fun t => t.rd .HSE_WT_WIDX 0 == 17 &&
      t.rd .HSE_WPER_WPER 0 == 3000 && t.rd .HSE_WT_WT 0 == 0 && (t.hse 0).ko && (t.hse 0).wedges == 1 && (t.hse 0).latch.testBit latSam) = true ∧
    nx (exec (.servoAddressMark 0 17 3000) (marking { servo := true })) (fun t => t.rd .HSE_WPER_WPER 0 == 2000 && (t.hse 0).direct) = true := by
  decide +kernel
theorem witness_SamMissing : (let s := put (marking { servo := true, miss := 1, direct := true }) [(.HSE_STAT_GATES, 0, 0, 0), (.HSE_CTL_SGAUTO, 0, 0, 0)]
      s.gateShut 0 = true ∧ nx (exec (.servoAddressMark 0 17 3000) s) (fun t => (t.hse 0).miss == 2 && !(t.hse 0).direct && t.rd .HSE_WPER_WPER 0 == 2000) = true) ∧
    nx (exec (.samMissing 0) (marking { servo := true, miss := 2 })) (fun t => (t.hse 0).miss == 3 && (t.hse 0).servo && (t.hse 0).ko) = true ∧
    nx (exec (.samMissing 0) (marking { servo := true, miss := 3 })) (fun t => !(t.hse 0).servo && t.rdBit .HSE_TPEND_PEND 8 0 &&
      t.rd .SCE_STAT_STATE 0 == 6) = true := by decide +kernel


/-! ### Channels -/

theorem witness_WriteFrameEnd : let s := put (writing [] (some { data := [], ctx := none, par := none })) [(.HSE_WPER_WPER, 0, 0, 3000)]
    nx (exec (.writeFrameEnd 0) s) (fun t => (t.chan 0).wf.isNone && (t.hse 0).wrote == 1 && (t.hse 0).latch.testBit latWdone &&
      t.rd .CHAN_NWR_COUNT 0 == 1 && t.rd .CHAN_WAFRM_COUNT 0 0 == 1) = true ∧
    nx (exec (.writeFrameEnd 0) (s.setChan 0 { (s.chan 0) with wf := some { data := [], ctx := none, par := none, cut := true }, wclose := true })) (fun t =>
      (t.hse 0).wrote == 0 && t.rd .CHAN_NWR_COUNT 0 == 0 && !t.wgOpen 0) = true ∧
    (let s := s.setChan 0 { (s.chan 0) with wf := some { data := [], ctx := none, par := none, cut := true } }
     s.permitOk 0 = true ∧ s.windowOk 0 = true ∧ nx (exec (.writeFrameEnd 0) s) (fun t => (t.hse 0).wrote == 0 && !t.wgOpen 0) = true) := by decide +kernel

/-- A slot being read, its frame with the candidates given. -/
def rframe (cands : List Nat) (closed : Bool) : RFrame := { slot := 3, trk := 7, widx := 1, gambit := true, k := 0, cands := cands, closed := closed }
def readingSlot (cands : List Nat) (closed reading : Bool) : State :=
  put ((up 9).setChan 0 { rf := [rframe cands closed], reading := reading })
    [(.HSE_WPER_WPER, 0, 0, 3000), (.CHAN_FRM_MARK_TOL, 0, 0, 4), (.HSE_STAT_GATES, 0, 0, 2), (.CHAN_FRM_ITER_MAX, 0, 0, 10), (.CHAN_CTL_GEN, 0, 0, 1),
      (.CHAN_FRM_GMAX, 0, 0, 3)]
theorem witness_SyncMark : nx (exec (.syncMarkFound 0 104 4) (readingSlot [] false true)) (fun t => ((t.chan 0).rf.map (·.cands)) == [[104]] &&
      (t.hse 0).latch.testBit latSync) = true ∧
    [(103, 0), (153, 0), (120, 5)].all (fun e => nx (exec (.syncMarkFound 0 e.1 e.2) (readingSlot [] false true)) (fun t => t == readingSlot [] false true)) = true ∧
    nx (exec (.syncMarkFound 0 152 0) (readingSlot [104, 105, 106, 107] false true)) (fun t => t == readingSlot [104, 105, 106, 107] false true) = true := by
  decide +kernel
theorem witness_SyncWindowClose : nx (exec (.syncWindowClose 0) (readingSlot [104] false true)) (fun t => (t.chan 0).rf == [rframe [104] true]) = true ∧
    nx (exec (.syncWindowClose 0) (readingSlot [] false true)) (fun t => t.rd .CHAN_LAST_RESULT 0 == 2 && (t.hse 0).latch.testBit latNosync &&
      (t.hse 0).latch.testBit latDdone && !(t.hse 0).dgood && t.rdBit .HSE_TPEND_PEND 12 0 && raisedB (readingSlot [] false true) t 3 &&
      (t.chan 0).rf == [] && t.rd .CHAN_NNOSYNC_COUNT 0 == 1) = true := by decide +kernel

def decoded (conv : Bool) (info : List Byte) : Decode := ⟨conv, 5, 0, info, 0⟩
/-- Two candidates: a failed decode goes on; one candidate: it ends. A converged frame of zeros fails the tag's own CRC. -/
theorem witness_DecodeDone : ((readingSlot [104, 110] true false).chan 0).decodes (rframe [104, 110] true) [] = true ∧
    nx (exec (.decodeDone 0 (decoded false [])) (readingSlot [104, 110] true false)) (fun t => (t.chan 0).rf.map (·.decodes) == [1] &&
      (t.chan 0).rf.map (·.iters) == [10]) = true ∧
    nx (exec (.decodeDone 0 (decoded false [])) (readingSlot [104] true false)) (fun t => t.rd .CHAN_LAST_RESULT 0 == 3 && (t.chan 0).rf == [] &&
      t.rd .CHAN_NDEC_COUNT 0 == 1 && t.rdBit .HSE_TPEND_PEND 12 0) = true ∧
    nx (exec (.decodeDone 0 (decoded true (List.replicate 4096 0 ++ [1]))) (readingSlot [104] true false)) (fun t => t.rd .CHAN_LAST_RESULT 0 == 5 && (t.chan 0).rf == [] &&
      !(t.hse 0).dgood && raisedB (readingSlot [104] true false) t 3) = true := by decide +kernel
/-- The frame's other decodes have used 25 of its 32 iterations: the running one ends on the budget (R171), and one that failed at
its cap has; an estimate made once stays (R161). -/
def lateSlot : State := (readingSlot [104] true false).setChan 0 { rf := [{ rframe [104] true with iters := 25, snr := some 9 }] }
theorem witness_DecodeBudget : (32 - 25 ≤ lateSlot.rd .CHAN_FRM_ITER_MAX 0 ∧ ((lateSlot.chan 0).decodes { rframe [104] true with iters := 25, snr := some 9 } []) = true) ∧
    nx (exec (.decodeBudgetExpire 0 1 0) lateSlot) (fun t => t.rd .CHAN_LAST_RESULT 0 == 4 &&
      t.rd .CHAN_LAST_ITER 0 == 32 && !(t.hse 0).dgood && (t.chan 0).rf == []) = true ∧
    nx (exec (.decodeDone 0 ⟨false, 5, 0, [], 77⟩) lateSlot) (fun t => t.rd .CHAN_LAST_RESULT 0 == 4 && (t.chan 0).rf == [] &&
      t.rd .CHAN_SNR_LAST 0 == 0) = true ∧
    nx (exec (.decodeDone 0 ⟨false, 5, 0, [], 77⟩) (readingSlot [104] true false)) (fun t => t.rd .CHAN_SNR_LAST 0 == 77) = true ∧
    nx (exec (.decodeDone 0 (decoded false [])) (up 9)) (fun t => t == up 9) = true := by decide +kernel

/-- A payload whose first four bytes clear the CRC register; n zeros leave it clear. -/
def clearPayload (n : Nat) : List Byte := [0xFF, 0xFF, 0xFF, 0xFF] ++ List.replicate n 0
theorem crcRun_zeros (n : Nat) : crcRun 0 (List.replicate n 0) = 0 := by
  induction n with
  | zero => rfl
  | succ n ih =>
    have h : crcByte 0 0 = 0 := by decide +kernel
    exact (congrArg (fun c => crcRun c (List.replicate n 0)) h).trans ih
theorem clearPayload_crc (n : Nat) : crc32c (clearPayload n) = 0xFFFFFFFF := by
  have h : crcRun 0xFFFFFFFF (clearPayload n) = 0 := by
    show crcRun (crcByte (crcByte (crcByte (crcByte 0xFFFFFFFF 0xFF) 0xFF) 0xFF) 0xFF) (List.replicate n 0) = 0
    rw [show crcByte (crcByte (crcByte (crcByte 0xFFFFFFFF 0xFF) 0xFF) 0xFF) 0xFF = 0 by decide +kernel, crcRun_zeros]
  unfold crc32c; rw [h]; decide
theorem clearPayload_length (n : Nat) : (clearPayload n).length = 4 + n := by
  rw [clearPayload, List.length_append, List.length_replicate]; rfl
def clearTag : List Byte :=
  let b : List Byte := List.replicate 20 0 ++ [0xFF, 0xFF, 0xFF, 0xFF, 0, 0, 0, 0]
  b ++ leBytes 4 (crc32c b)
/-- Every tag check passes: LBA 0, NSIDX 0 and BANDSEQ 0 are those of an expectation of zeros (R177). -/
theorem witness_DecodeGood (n : Nat) (hn : 4 + n = 4096) : (readingSlot [104] true false).tagResult 0 0 0 0 (clearPayload n ++ clearTag) = 0 := by
  have hl : 4096 = (clearPayload n).length := by rw [clearPayload_length, hn]
  have hd : (clearPayload n ++ clearTag).drop 4096 = clearTag := by rw [hl]; exact List.drop_left
  have ht : (clearPayload n ++ clearTag).take 4096 = clearPayload n := by rw [hl]; exact List.take_left
  unfold State.tagResult
  rw [hd, ht, clearPayload_crc]
  decide +kernel

theorem witness_Rdec : nx (exec (.chanRdecGo 0 0x20000) (up 9)) (fun t => t.rd .CHAN_STAT_RDREF 0 == 1 && t.rd .CHAN_RDEC_ITER 0 == 1) = true ∧
    nx (exec (.chanRdecGo 0 0x20A19) (put (up 9) [(.CHAN_STAT_SBVALID, 0, 0, 1)])) (fun t => t.rd .CHAN_STAT_RDBUSY 0 == 1 &&
      signedN 6 (t.rd .CHAN_RDEC_OFS 0) == 24 && t.rd .CHAN_RDEC_ITER 0 == 10) = true ∧
    nx (exec (.offlineDecodeDone 0 (decoded false [])) (put ((up 9).setChan 0 { kept := some (rframe [104] true) }) [(.CHAN_STAT_RDBUSY, 0, 0, 1)]))
      (fun t => t.rd .CHAN_STAT_RDBUSY 0 == 0 && (t.hse 0).latch.testBit latDdone && t.rd .CHAN_LAST_RESULT 0 == 3 && t.rd .CHAN_NFRM_COUNT 0 == 0) = true := by
  decide +kernel
/-- Each parity column has its block, and each other column two of them; 16 columns of one row. -/
def goodRaw (i j : Nat) : Nat := if j = 129 + i ∨ (j < 129 ∧ (i = j % 16 ∨ i = (j + 1) % 16)) then 0x8000 else 0
theorem witness_MatrixGood : matrixGood goodRaw = true ∧ matrixGood (fun i j => if j = 159 then 1 else goodRaw i j) = false := by decide +kernel
theorem witness_Offline_tag : let s := put ((up 9).setChan 0 { kept := some (rframe [104] true) }) [(.CHAN_STAT_RDBUSY, 0, 0, 1)]
    nx (exec (.offlineDecodeDone 0 (decoded true (List.replicate 4096 0 ++ [1]))) s) (fun t => t.rd .CHAN_LAST_RESULT 0 == 5 &&
      raisedB s t 3 && t.rd .HSE_TPEND_PEND 0 == 0) = true ∧
    nx (exec (.offlineDecodeDone 0 (decoded false [])) (up 9)) (fun t => t == up 9) = true := by decide +kernel
theorem witness_ChanWrites5 : (up 5).hears (selChan 0) = true ∧
    nx (exec (.chanEnable 0) (up 5)) (fun t => t.rd .CHAN_CTL_EN 0 == 1 && onlyB (up 5) t [.CHAN_CTL_EN] []) = true ∧
    nx (exec (.chanRdecGo 0 0x20000) (up 5)) (fun t => t.rd .CHAN_RDEC_ITER 0 == 1 && t.rd .CHAN_STAT_RDREF 0 == 0) = true ∧
    nx (exec (.zrateWrite 0 1000) (up 5)) (fun t => onlyB (up 5) t [.CHAN_RATE_ZRATE] []) = true ∧
    (let s : State := { up 9 with rst := { (up 9).rst with soft := some 0x20 } }
     s.hears (selChan 0) = false ∧ ([.zrateWrite 0 1, .chanEnable 0, .clrstat 0, .chanRdecGo 0 1] : List Instr).all (fun c =>
       nx (exec c s) (fun t => t == s)) = true) := by decide +kernel
theorem witness_ChanEnable : nx (exec (.chanEnable 0) (up 9)) (fun t => (t.chan 0).check && onlyB (up 9) t [] [.chans]) = true ∧
    nx (exec (.baseMatrixCheckDone 0) ((up 9).setChan 0 { check := true })) (fun t => !(t.chan 0).check && t.rd .CHAN_STAT_HBAD 0 == 1 &&
      t.rd .CHAN_CTL_EN 0 == 0 && raisedB (up 9) t 5) = true ∧
    nx (exec (.clrstat 0) (put (up 9) [(.CHAN_NFRM_COUNT, 0, 0, 4), (.CHAN_ITH_COUNT, 0, 7, 4)])) (fun t => t.regs == []) = true := by decide +kernel

def relocking : State := put ((up 9).setChan 0 { fabric := true }) [(.CHAN_RATE_ZRATE, 0, 0, 2400), (.SPN_RATIO_RATIO, 0, 0, 16384)]
theorem witness_Rates : nx (exec (.zrateWrite 0 5001) relocking) (fun t => t.rd .CHAN_RATE_ZRATE 0 == 5001 && t.rd .CHAN_STAT_RLIM 0 == 1) = true ∧
    nx (exec (.zrateWrite 0 1000) relocking) (fun t => t.rd .CHAN_STAT_RLIM 0 == 0 && t.rd .CHAN_STAT_LOCKED 0 == 0) = true ∧
    nx (exec (.zrateWrite 0 1000) (writing [] (some { data := [], ctx := none, par := none }))) (fun t => (t.chan 0).zrate && t.rd .CHAN_RATE_ZRATE 0 == 1000 && (t.chan 0).wclose &&
      t.rdBit .HSE_TPEND_PEND 7 0) = true ∧
    nx (exec (.synthRelockDone 0) relocking) (fun t => t.rd .CHAN_STAT_LOCKED 0 == 1 && t.rd .CHAN_BITRATE_RATE 0 == 2400 && !(t.chan 0).fabric) = true ∧
    nx (exec (.nolock 0) relocking) (fun t => raisedB relocking t 5 && onlyB relocking t [] [.ev]) = true := by decide +kernel
theorem witness_Rates_gates :
    nx (exec (.zrateWrite 0 1000) (writing [] none)) (fun t => !t.wgOpen 0 && t.rd .HSE_WPER_WPER 0 == 0 && !(t.chan 0).zrate) = true ∧
    nx (exec (.zrateWrite 0 1000) (readingSlot [] false true)) (fun t => t.rgOpen 0 && (t.chan 0).zrate && (t.chan 0).rclose) = true ∧
    nx (exec (.zrateWrite 0 1000) (readingSlot [] false false)) (fun t => !t.rgOpen 0 && t.rd .HSE_WPER_WPER 0 == 0) = true ∧
    nx (exec (.synthRelockDone 0) (up 9)) (fun t => t == up 9) = true := by decide +kernel
theorem witness_Tiers : nx (exec .tierLeave ((up 9).setSpn { leave := true })) (fun t => !t.spn.leave && t.rdBit .HSE_TPEND_PEND 7 23 && (t.chan 23).fabric) = true ∧
    nx (exec .tierReady ((up 9).setSpn { ready := true })) (fun t => !t.spn.ready && t.rd .CHAN_STAT_LOCKED 23 == 0 && t.rd .CHAN_STAT_RLIM 23 == 1) = true := by
  decide +kernel

theorem witness_PreampFault : let s := writing [] (some { data := [], ctx := none, par := none })
    nx (exec (.preampFault 0) s) (fun t => t.bit .HL_STAT_FLT 0 && !t.wgOpen 0 && t.rdBit .HSE_TPEND_PEND 13 0 && (t.chan 0).wf.isNone &&
      t.bit .CHAN_STAT_WFLT 0) = true ∧
    nx (exec (.hlFltNRelease 0) (put s [(.HL_STAT_FLT, 0, 0, 1)])) (fun t => !t.bit .HL_STAT_FLT 0) = true := by decide +kernel
theorem witness_HlCmd : nx (exec (.hlCmdWrite 0 0x80000001) (up 9)) (fun t => (t.hlk 0).fw == [0x80000001]) = true ∧
    nx (exec (.hlCmdWrite 0 0xF8000001) (up 9)) (fun t => t.rd .HL_STAT_BADCMD 0 == 1 && (t.hlk 0).fw == []) = true ∧
    nx (exec (.hlCmdWrite 0 0x80000001) ((up 9).setHlk 0 { fw := List.replicate 8 1 })) (fun t => t.rd .HL_STAT_QFULL 0 == 1 && (t.hlk 0).fw.length == 8) =
      true := by decide +kernel
theorem witness_HlinkStart : nx (exec (.hlinkTransactionStart 0) ((up 9).setHlk 0 { auto := true })) (fun t => t.rd .HL_STAT_BUSY 0 == 1 &&
      t.out == [.hlink 0 (hlFrame 0xF0000000)]) = true ∧
    nx (exec (.hlinkTransactionStart 0) ((up 9).setHlk 0 { fw := [0x80000001] })) (fun t => (t.hlk 0).fw == [] && t.out == [.hlink 0 (hlFrame 0x80000001)]) = true ∧
    (let s := (up 9).setHse 2 { hl := some 0x0305 }
     s.hlNext 0 = some 2 ∧ nx (exec (.hlinkTransactionStart 0) s) (fun t => (t.hlk 0).rr == 2 && t.out == [.hlink 0 (hlFrame (hlRequest false 2 3 5))]) = true) := by
  decide +kernel
def linked (c : HlSrc × Nat) : State := ((up 9).setHse 2 { hl := some 1 }).setHlk 0 { cur := some c }
theorem witness_HlinkOthers : nx (exec (.hlinkTransactionStart 0) (up 9)) (fun t => t == up 9) = true ∧
    nx (exec (.hlinkTransactionDone 0 0xA0 7 true) (up 9)) (fun t => t == up 9) = true ∧
    nx (exec (.hlinkTransactionDone 0 0xA0 7 false) (linked (.auto, 0))) (fun t => (t.hlk 0).cut == [] && (t.hlk 0).cur.isNone &&
      t.rd .HL_STAT_FHEADS 0 == 0) = true ∧ hlFrame 3 = 7 ∧ hlFrame 1 = 2 := by decide +kernel
theorem witness_HlinkDone : nx (exec (.hlinkTransactionDone 0 0xA0 7 true) (linked (.hse 2, 0))) (fun t => (t.hlk 0).cur.isNone && (t.hse 2).hl.isNone &&
      (t.hse 2).latch.testBit latHlack && !(t.hse 2).hlErr) = true ∧
    nx (exec (.hlinkTransactionDone 0 0xA0 7 false) (linked (.hse 2, 0))) (fun t => (t.hse 2).hlErr && t.rdBit .HSE_TPEND_PEND 13 2 && raisedB (linked (.hse 2, 0)) t 16) =
      true ∧
    nx (exec (.hlinkTransactionDone 0 0xA0 7 true) (linked (.fw, 0xC0000000))) (fun t => (t.hlk 0).resp == [(7, 0xA0, false)]) = true ∧
    nx (exec (.hlinkTransactionDone 0 0xA0 1 true) (linked (.auto, 0))) (fun t => t.rd .HL_STAT_FHEADS 0 == 1 && t.rdBit .HSE_TPEND_PEND 13 0 &&
      raisedB (linked (.auto, 0)) t 4) = true ∧
    nx (exec (.hlRespRead 0) ((up 9).setHlk 0 { resp := [(7, 0xA0, true)] })) (fun t => (t.hlk 0).resp == [] &&
      t.out == [.popped .HL_RESP_DATA 0 (7 + 0xA0 * 65536 + 3 * 2 ^ 24)]) = true := by decide +kernel


/-! ### Outer code -/

/-- The outer code engine, its context 5 in a mode. Frames stand in buffer memory. -/
def outer (mode : Nat) (job : Option (Nat × Nat × Nat)) : State :=
  put { (up 5) with oce := { job := job } } [(.OCE_CTL_EN, 0, 0, 1), (.GCTX_MODE, 5, 0, mode), (.GCTX_GBASE_GBASE, 5, 0, bufLo), (.GCTX_ACC_ACC, 5, 0, bufLo + 0x100000)]
theorem witness_OceRefusals : let busy := put (outer 0 none) [(.OCE_RES_BUSY, 0, 0, 1)]
    ([.oceOpen 5 3, .ocePark 5, .oceFill 5, .oceBadop 0] : List Instr).all (fun c => nx (exec c busy) (fun t => t.rd .OCE_RES_RESULT == 1 &&
      onlyB busy t [.OCE_RES_RESULT] []) && nx (exec c (up 5)) (fun t => t.rd .OCE_RES_RESULT == 2 && NSet.has 473 t.ev.edge)) = true := by decide +kernel
theorem witness_OceChecks :
    nx (exec (.oceOpen 5 67) (outer 0 none)) (fun t => t.rd .OCE_RES_BUSY == 1 && t.oce.job == some (1, 5, 67) && onlyB (outer 0 none) t [.OCE_RES_BUSY] [.oce]) = true ∧
    nx (exec (.oceOpen 5 68) (outer 0 none)) (fun t => t.rd .OCE_RES_RESULT == 5) = true ∧
    nx (exec (.oceOpen 384 0) (outer 0 none)) (fun t => t.rd .OCE_RES_RESULT == 5) = true ∧
    nx (exec (.oceOpen 5 0) (outer 1 none)) (fun t => t.rd .OCE_RES_RESULT == 2) = true := by decide +kernel
theorem witness_OceChecks2 : nx (exec (.ocePark 5) (outer 1 none)) (fun t => t.oce.job == some (2, 5, 0)) = true ∧
    nx (exec (.ocePark 5) (outer 0 none)) (fun t => t.rd .OCE_RES_RESULT == 2) = true ∧
    nx (exec (.ocePark 384) (outer 1 none)) (fun t => t.rd .OCE_RES_RESULT == 5) = true ∧
    nx (exec (.oceFill 5) (outer 2 none)) (fun t => t.oce.job == some (3, 5, 0)) = true ∧
    nx (exec (.oceFill 5) (outer 0 none)) (fun t => t.rd .OCE_RES_RESULT == 2) = true ∧
    nx (exec (.oceBadop (4 * 512)) (outer 0 none)) (fun t => t.rd .OCE_RES_RESULT == 5 && NSet.has 473 t.ev.edge) = true := by decide +kernel
theorem witness_OpenEnd : engineReach ((outer 0 (some (1, 5, 0))).rd .GCTX_ACC_ACC 5) 16384 = true ∧
    nx (exec (.oceCommandEnd false) (outer 0 (some (1, 5, 0)))) (fun t => t.oce.job.isNone && t.rd .OCE_RES_RESULT == 0 && t.rd .GCTX_MODE 5 == 1 &&
      t.rd .GCTX_NDATA 5 == 0 && t.rd .OCE_HACT_CTX 0 == 5 && t.rd .OCE_HACT_VALID 0 == 1) = true ∧
    nx (exec (.oceCommandEnd true) (outer 0 (some (1, 5, 1)))) (fun t => t.rd .OCE_RES_RESULT == 6 && t.rd .GCTX_MODE 5 == 0 && t.mem == (up 5).mem) = true ∧
    nx (exec (.oceCommandEnd false) ({ outer 0 (some (1, 5, 67)) with poison := [(bufLo / 64, true)] })) (fun t => t.rd .OCE_RES_RESULT == 6) = true := by
  decide +kernel
theorem witness_ParkEnd : nx (exec (.oceCommandEnd false) (put (outer 1 (some (2, 5, 0))) [(.OCE_HACT_CTX, 0, 0, 5), (.OCE_HACT_VALID, 0, 0, 1)])) (fun t =>
    t.rd .GCTX_MODE 5 == 0 && !t.bit .OCE_HACT_VALID 0 && t.rd .OCE_RES_RESULT == 0) = true := by decide +kernel
def filling (erase : Nat) (mem : List Host.Cell) : State := put { outer 2 (some (3, 5, 0)) with mem := mem } [(.GCTX_ERASE_ERASE, 5, 0, erase)]
/-- Five erasures are too many; a lone byte in a group breaks its first column; four erasures leave no column to check. -/
theorem witness_FillEnd : nx (exec (.oceCommandEnd false) (filling 31 [])) (fun t => t.rd .OCE_RES_RESULT == 3 && t.rd .OCE_RES_NER == 5 && raisedB (filling 31 []) t 273) =
      true ∧
    nx (exec (.oceCommandEnd true) (filling 15 [])) (fun t => t.rd .OCE_RES_RESULT == 6) = true ∧
    nx (exec (.oceCommandEnd false) (filling 0 [(bufLo, 1)])) (fun t => t.rd .OCE_RES_RESULT == 4 && raisedB (filling 0 []) t 274) = true := by decide +kernel
theorem witness_FillDone : (filling 15 []).erased 5 = [0, 1, 2, 3] ∧
    ((List.range 68).filter (fun i => !(([0, 1, 2, 3] : List Nat).contains i))).all (fun i => !(filling 15 []).badFrame ((filling 15 []).gframe 5 i)) = true ∧
    [0, 1, 2, 3].all (fun i => engineReach ((filling 15 []).gframe 5 i) 4128) = true ∧ badColumn (List.replicate 2048 []) 4 = none := by decide +kernel
theorem witness_Setrd : nx (exec (.setrd 5) (outer 0 none)) (fun t => t.rd .GCTX_MODE 5 == 2) = true ∧ nx (exec (.setrd 5) (outer 2 none)) (fun t => t.rd .GCTX_MODE 5 == 0) =
    true ∧ nx (exec (.setrd 5) (outer 1 none)) (fun t => t.rd .GCTX_MODE 5 == 1 && t.rd .OCE_STAT_CTXWR == 1) = true := by decide +kernel

theorem witness_OceDeaf : let s : State := { up 5 with rst := { (up 5).rst with soft := some 0x50 } }
    s.hears selOce = false ∧ (up 5).hears selOce = true ∧ ([.oceOpen 5 3, .ocePark 5, .oceFill 5, .oceBadop 0, .setrd 5] : List Instr).all (fun c =>
      nx (exec c s) (fun t => t == s)) = true ∧ nx (exec (.oceCommandEnd false) (up 5)) (fun t => t == up 5) = true := by decide +kernel
/-- A parity frame of the active context ends: the fourth frees it and clears OCE_HACT (R202). -/
def parityEnd (k : Nat) : State := put { (up 9) with pwr := { fresh := [] } } [(.HSE_WPER_WPER, 0, 0, 3000), (.HSE_STAT_GATES, 0, 0, 4), (.SPN_WP_WP, 0, 0, 1),
  (.SCE_HSTAT_PLAUS, 0, 0, 1), (.CHAN_STAT_ENA, 0, 0, 1), (.SPN_RATIO_READY, 0, 0, 1), (.CHAN_STAT_LOCKED, 0, 0, 1), (.GCTX_MODE, 5, 0, 1), (.GCTX_NPAR, 5, 0, k),
  (.OCE_HACT_CTX, 0, 0, 5), (.OCE_HACT_VALID, 0, 0, 1)] |>.setChan 0 { wf := some { data := [], ctx := some 5, par := some k }, timed := true }
theorem witness_ParityEnd : ((parityEnd 3).dataTime 0 = true ∧ (parityEnd 3).permitOk 0 = true ∧ (parityEnd 3).windowOk 0 = true) ∧
    nx (exec (.writeFrameEnd 0) (parityEnd 3)) (fun t => t.rd .GCTX_NPAR 5 == 4 && t.rd .GCTX_MODE 5 == 0 && t.rd .OCE_HACT_VALID 0 == 0 &&
      t.rd .OCE_HACT_CTX 0 == 0) = true ∧
    nx (exec (.writeFrameEnd 0) (parityEnd 2)) (fun t => t.rd .GCTX_NPAR 5 == 3 && t.rd .GCTX_MODE 5 == 1) = true := by decide +kernel

/-! ### Buffer -/

def access (write : Bool) (addr : Nat) (data : List Byte) (ecc : Ecc) : BufReq :=
  { kind := 0, func := 3, head := 31, drain := false, poison := false, write := write, addr := addr, data := data, len := 4, ecc := ecc, block := 9 }
theorem witness_BufferAccess : nx (exec (.bufferAccess { access false bufLo [] .clean with kind := 12 }) (up 5)) (fun t => raisedB (up 5) t 254 && onlyB (up 5) t [] [.ev]) =
      true ∧
    nx (exec (.bufferAccess { access false bufLo [] .clean with head := 24 }) (up 5)) (fun t => raisedB (up 5) t 254) = true ∧
    nx (exec (.bufferAccess (access false bufHi [] .clean)) (up 5)) (fun t => raisedB (up 5) t 246 && onlyB (up 5) t [] [.ev]) = true ∧
    nx (exec (.bufferAccess (access true bufLo [1, 2, 3, 4] .clean)) (up 5)) (fun t => t.mbs bufLo 4 == [1, 2, 3, 4] && memButB (up 5) t bufLo 4) = true ∧
    nx (exec (.bufferAccess { access true bufLo [1] .clean with poison := true }) (up 5)) (fun t => t.poisoned bufLo 1) = true := by decide +kernel
theorem witness_BufferReads : nx (exec (.bufferAccess (access true bufLo (List.replicate 64 7) .clean)) { (up 5) with poison := [(bufLo / 64, true)] }) (fun t =>
      !t.poisoned bufLo 64 && t.regs == []) = true ∧
    nx (exec (.bufferAccess (access false bufLo [] .clean)) (up 5)) (fun t => t == up 5) = true ∧
    nx (exec (.bufferAccess (access false bufLo [] .multi)) (up 5)) (fun t => NSet.has (bufLo / 64) t.poison && t.rd .BUF_UECNT_COUNT == 1 &&
      t.rd .BUF_UEADDR_ADDR == bufLo && raisedB (up 5) t 245 && onlyB (up 5) t [.BUF_UECNT_COUNT, .BUF_UEADDR_ADDR] [.poison, .ev]) = true := by decide +kernel
theorem witness_Patrol : let s := put { (up 5) with buf := { patrol := bufLines - 1 } } [(.BUF_CTL_SCRUBEN, 0, 0, 1)]
    nx (exec (.patrolScrubRead .multi) s) (fun t => t.buf.patrol == 0 && NSet.has (bufLo / 64 + bufLines - 1) t.poison && raisedB s t 245) = true ∧
    nx (exec (.mr4Poll 1 5 true true) s) (fun t => t.rd .BUF_STAT_TRR1 == 5 && NSet.has 1 t.buf.hot && t.rd .BUF_STAT_HOT == 1 && t.rd .BUF_STAT_RTBUSY == 1 &&
      raisedB s t 249) = true ∧
    nx (exec .retrain s) (fun t => t.rd .BUF_STAT_RTBUSY == 1) = true ∧
    nx (exec (.dqRetrainDone 3) (put s [(.BUF_STAT_RTBUSY, 0, 0, 1)])) (fun t => t.rd .BUF_STAT_RTBUSY == 0 && raisedB s t 247) = true := by decide +kernel
def pooled : State := put (up 5) [(.BUF_POOL_BASE, 0, 0, 32), (.BUF_POOL_SIZE, 0, 0, 10), (.BUF_POOL_BASE, 2, 0, 42), (.BUF_POOL_SIZE, 2, 0, 256)]
def locked : State := put pooled [(.BUF_CTL_PLOCK, 0, 0, 1), (.BUF_FREE_FREE, 0, 0, 2559)]
theorem witness_Pools : pooled.poolChecks.all (fun b => b) = true ∧ nx (exec .plock pooled) (fun t => t.rd .BUF_CTL_PLOCK == 1 && t.rd .BUF_FREE_FREE 0 == 2560 &&
      t.rd .BUF_FREE_FREE 2 == 65536) = true ∧
    nx (exec .plock (up 5)) (fun t => t.rd .BUF_STAT_PBAD == 1 && !t.bit .BUF_CTL_PLOCK && raisedB (up 5) t 250) = true ∧
    nx (exec (.bufPretWrite 0 1) locked) (fun t => t.rd .BUF_FREE_FREE 0 == 2560 && t.rd .BUF_STAT_POVF == 0) = true ∧
    nx (exec (.bufPretWrite 0 2) locked) (fun t => t.rd .BUF_FREE_FREE 0 == 2560 && t.rd .BUF_STAT_POVF == 1 && raisedB locked t 251) = true := by decide +kernel
theorem witness_Pools2 : nx (exec (.bufPretWrite 0 (-2559)) locked) (fun t => t.rd .BUF_FREE_FREE 0 == 0) = true ∧
    nx (exec (.bufPretWrite 0 (-2560)) locked) (fun t => t.rd .BUF_FREE_FREE 0 == 2559 && t.rd .BUF_STAT_PNEG == 1) = true ∧
    (locked.poolFree 2 * 8 < locked.poolSize 2 ∧ nx (exec (.drainPoolStall 1) locked) (fun t => raisedB locked t 253 && onlyB locked t [] [.ev]) = true) := by decide +kernel
/-- A running read of two blocks of function 3, whose first segment is a whole block (R228). -/
def shaped : State := put { locked with hif := { cmds := [{ tag := 1, func := 3, sqid := 1, st := .started, xfer := .running, e := { opc := 2, cid := 0, nsid := 1, cdw10 := 0, cdw11 := 0, cdw12 := 1 } }] } }
  [(.BUF_SHAPE_RATE, 3, 0, 1), (.BUF_SHAPE_BURST, 3, 0, 1), (.BUF_TOKENS_TOKENS, 3, 0, 4096)]
theorem witness_Shape : (shaped.rd .BUF_SHAPE_RATE 3 ≠ 0 ∧ 4096 ≤ shaped.rd .BUF_SHAPE_BURST 3 * 65536 ∧
      shaped.hif.cmds.find? (Cmd.takesSegment 3 4096) = some shaped.hif.cmds[0]) ∧
    nx (exec (.shapeSegmentStart 3 4096) shaped) (fun t => t.hif.cmds.map (·.moved) == [4096]) = true ∧
    nx (exec (.shapeSegmentStart 3 4097) shaped) (fun t => t == shaped) = true ∧
    nx (exec (.shapeSegmentStart 3 4096) locked) (fun t => t == locked) = true := by decide +kernel
/-- A request of a running channel that breaks the rules halts it; of a partial line only the line in part is read and judged. -/
theorem witness_BufferAccess_more : let s := put (up 5) [(.DMA_CHSTAT_STATE, 2, 0, 1)]
    ([{ access false bufLo [] .clean with kind := 12, chan := some 2 }, { access false bufHi [] .clean with chan := some 2 }] : List BufReq).all (fun q =>
      nx (exec (.bufferAccess q) s) (fun t => t.rd .DMA_CHSTAT_STATE 2 == 3 && t.rd .DMA_CHSTAT_ERR 2 == 2 && raisedB s t 256 && t.mem == s.mem)) = true ∧
    partLine bufLo 96 = some (bufLo / 64 + 1) ∧
    nx (exec (.bufferAccess (access true bufLo (List.replicate 96 7) .multi)) (up 5)) (fun t => NSet.has (bufLo / 64 + 1) t.poison &&
      !NSet.has (bufLo / 64) t.poison && t.rd .BUF_UECNT_COUNT == 1 && t.rd .BUF_UEADDR_ADDR == bufLo + 64 && raisedB (up 5) t 245) = true ∧
    nx (exec (.bufferAccess (access false bufLo [] .single)) (up 5)) (fun t => t.rd .BUF_CECNT_COUNT == 1 && t.rd .BUF_CEADDR_ADDR == bufLo &&
      onlyB (up 5) t [.BUF_CECNT_COUNT, .BUF_CEADDR_ADDR] [.buf, .ev]) = true ∧
    nx (exec (.patrolScrubRead .clean) (put (up 5) [(.BUF_CTL_SCRUBEN, 0, 0, 0)])) (fun t => t == put (up 5) [(.BUF_CTL_SCRUBEN, 0, 0, 0)]) = true := by decide +kernel

/-! ### DMA -/

/-- Channel 2 on firmware line 60. -/
def dmaOn (l : List (Reg × Nat × Nat × Nat)) : State := put (up 5) ([(.DMA_CHCTL_LINE, 2, 0, 60), (.DMA_CTL_EN, 0, 0, 1), (.DMA_CHAIN_MAX_MAX, 0, 0, 4)] ++ l)
theorem witness_DmaEnable : nx (exec (.dmaChannelEnable 2) (dmaOn [(.DMA_CHDESC_ADDR, 2, 0, 0x2000040)])) (fun t => t.rd .DMA_CHSTAT_STATE 2 == 1 && t.rd .DMA_CHCTL_EN 2 == 1 &&
      (t.dch 2).fetch && (t.dch 2).next == 0x2000040) = true ∧
    nx (exec (.dmaChannelEnable 2) (dmaOn [(.DMA_CHDESC_ADDR, 2, 0, 0x2000041)])) (fun t => t.rd .DMA_CHSTAT_STATE 2 == 3 && t.rd .DMA_CHSTAT_ERR 2 == 3 && raisedB (dmaOn []) t 257) =
      true ∧
    (let s := dmaOn [(.DMA_CHCTL_LINE, 3, 0, 60), (.DMA_CHSTAT_STATE, 3, 0, 1)]
     s.lineTaken 2 60 = true ∧ nx (exec (.dmaChannelEnable 2) s) (fun t => t.rd .DMA_CHSTAT_STATE 2 == 0 && t.rd .DMA_CHSTAT_ERR 2 == 4 && raisedB s t 258) = true) := by decide +kernel
def chain (d : Dch) : State := { dmaOn [(.DMA_CHSTAT_STATE, 2, 0, 1)] with dma := { ch := [(2, d)] } }
theorem witness_DmaStop : nx (exec (.dmaStop 2 .ok) (chain {})) (fun t => t.rd .DMA_CHSTAT_STATE 2 == 2 && t.rd .DMA_CHSTAT_END 2 == 1 && t.rd .DMA_CHCRC_CRC 2 == 0 && t.mem == (up 5).mem) = true ∧
    nx (exec (.dmaCtlEnable false) (chain {})) (fun t => !t.bit .DMA_CTL_EN) = true ∧
    nx (exec (.dmaSwreq 64) (up 5)) (fun t => NTab.get 0 64 t.dma.raised == 1) = true ∧ nx (exec (.dmaSwreq 63) (up 5)) (fun t => t == up 5) = true := by decide +kernel
theorem witness_DmaRequest : let s := put { (up 5) with dma := { raised := [(64, 1)] } } [(.DMA_LPEND_COUNT, 64, 0, 254)]
    nx (exec (.dmaRequest 64) s) (fun t => t.rd .DMA_LPEND_COUNT 64 == 255 && NTab.get 0 64 t.dma.raised == 0) = true ∧
    nx (exec (.dmaRequest 64) (put s [(.DMA_LPEND_COUNT, 64, 0, 255)])) (fun t => t.rd .DMA_LPEND_COUNT 64 == 255 && t.rd .DMA_LPEND_OVF 64 == 1 && raisedB s t 258) = true ∧
    nx (exec (.dmaRequest 3) ((up 5).setHse 3 { raisedW := [7] })) (fun t => (t.hse 3).raisedW == []) = true ∧
    nx (exec (.dmaRequest 27) ((up 5).setHse 3 { raisedR := [7] })) (fun t => (t.hse 3).rreq == [7] && t.rd .DMA_LPEND_COUNT 27 == 1) = true := by decide +kernel
/-- A descriptor at 0x2000040 whose SRC, DST and sizes are copied in; one out of reach of the channel, and a chain too long. -/
def fetching : State := ((chain { fetch := true, next := 0x2000040 }).mwr 8 0x2000040 0x2001000 |>.mwr 8 0x2000048 0x2002000 |>.mwr 8 0x2000060 0x100000010)
theorem witness_DescriptorFetch : nx (exec (.descriptorFetchDone 2 .ok) fetching) (fun t => (t.dch 2).src == 0x2001000 && (t.dch 2).dst == 0x2002000 && (t.dch 2).blen == 16 &&
      (t.dch 2).nburst == 1 && !(t.dch 2).fetch && t.mem == fetching.mem && (t.rd .DMA_CHSTAT_STATE 2 == 1 || raisedB fetching t 257)) = true ∧
    nx (exec (.descriptorFetchDone 2 .error) fetching) (fun t => t.rd .DMA_CHSTAT_STATE 2 == 3 && t.rd .DMA_CHSTAT_ERR 2 == 2 && raisedB fetching t 256) = true ∧
    nx (exec (.descriptorFetchDone 2 .ok) (put fetching [(.DMA_CHNDESC_COUNT, 2, 0, 4)])) (fun t => t.rd .DMA_CHSTAT_ERR 2 == 1 && raisedB fetching t 255) = true := by decide +kernel
def moving (n next : Nat) : State :=
  (chain { src := 0x2001000, dst := 0x2002000, cs := 0x2001000, cd := 0x2002000, blen := 16, nburst := n, next := next }).mwr 8 0x2001000 0x1122
theorem witness_DmaBurst : let d := (moving 2 0).dch 2
    (d.pace = false ∧ d.cyclic = false ∧ tagBad d.tag = false ∧ engineReach d.cs d.blen = true ∧ engineReach d.cd d.blen = true) ∧
    nx (exec (.dmaBurstDone 2 .ok .ok) (moving 2 0)) (fun t => t.mrd 8 0x2002000 == 0x1122 && t.rd .DMA_CHBURST_COUNT 2 == 1 && t.rd .DMA_CHDONE_BYTES 2 == 16 &&
      memButB (moving 2 0) t 0x2002000 16 && (t.dch 2).cs == 0x2001010) = true ∧
    nx (exec (.dmaBurstDone 2 .ok .ok) (moving 1 0x2000040)) (fun t => (t.dch 2).fetch && t.mrd 8 0x2002000 == 0x1122) = true ∧
    nx (exec (.dmaBurstDone 2 .ok .ok) (moving 1 0)) (fun t => t.rd .DMA_CHSTAT_STATE 2 == 2 && t.rd .DMA_CHSTAT_END 2 == 0) = true := by decide +kernel
theorem witness_DmaEnds : nx (exec (.dmaBusTimeout 2) (moving 1 0)) (fun t => t.rd .DMA_CHSTAT_STATE 2 == 3 && t.rd .DMA_CHSTAT_ERR 2 == 2 && raisedB (moving 1 0) t 256) = true ∧
    nx (exec (.guardWait1ms 2) (put (moving 1 0) [(.DMA_CHSTAT_GUARDW, 2, 0, 1)])) (fun t => (t.dch 2).told && raisedB (moving 1 0) t 259) = true := by decide +kernel
/-- A write-back that fails, where a descriptor is there to be written to. -/
theorem witness_DmaWriteBack : let s := put (moving 1 0) [(.DMA_CHNDESC_COUNT, 2, 0, 1), (.DMA_CHCUR_ADDR, 2, 0, 0x2000040)]
    s.rd .DMA_CHNDESC_COUNT 2 ≠ 0 ∧ s.rd .DMA_CHSTAT_STATE 2 = 1 ∧
    nx (exec (.dmaStop 2 .ok) s) (fun t => t.rd .DMA_CHSTAT_STATE 2 == 2 && memButB s t (0x2000040 + 48) 8) = true := by decide +kernel
/-- A cyclic descriptor begins again; a paced one waits for its request; a reserved tag and an error answer halt. -/
theorem witness_DmaBurst_more : let d := (moving 1 0).dch 2
    let s (d : Dch) : State := { moving 1 0 with dma := { ch := [(2, d)] } }
    let k := (List.range 32).find? (fun k => ({ d with ctl := 2 ^ k } : Dch).cyclic)
    let p := (List.range 32).find? (fun k => ({ d with ctl := 2 ^ k } : Dch).pace)
    (k.isSome && p.isSome) = true ∧
    nx (exec (.dmaBurstDone 2 .ok .ok) (s { d with ctl := 2 ^ k.getD 0 })) (fun t => (t.dch 2).cs == 0x2001000 && t.rd .DMA_CHBURST_COUNT 2 == 0 &&
      t.rd .DMA_CHSTAT_STATE 2 == 1) = true ∧
    nx (exec (.dmaBurstDone 2 .ok .ok) (s { d with ctl := 2 ^ p.getD 0 })) (fun t => t == s { d with ctl := 2 ^ p.getD 0 }) = true ∧
    tagBad (12 * 2 ^ 39) = true ∧
    nx (exec (.dmaBurstDone 2 .ok .ok) (s { d with tag := 12 * 2 ^ 39 })) (fun t => t.rd .DMA_CHSTAT_STATE 2 == 3 && raisedB (s d) t 254 &&
      raisedB (s d) t 256 && t.mem == (s d).mem) = true ∧
    nx (exec (.dmaBurstDone 2 .error .ok) (s d)) (fun t => t.rd .DMA_CHSTAT_STATE 2 == 3 && raisedB (s d) t 256 && t.mem == (s d).mem) = true := by
  decide +kernel
/-- The media lines: head 3's write line stages a frame, and its read line delivers a mark of 64 bytes. -/
def mediaLine (line : Nat) (d : Dch) : State :=
  put { (up 5) with dma := { ch := [(2, d)] } } [(.DMA_CHCTL_LINE, 2, 0, line), (.DMA_CTL_EN, 0, 0, 1), (.DMA_CHSTAT_STATE, 2, 0, 1)]
theorem witness_MediaWrite : let s := (mediaLine 3 { cs := bufLo, blen := 4128, nburst := 2 }).setHse 3 { wreq := [0] }
    ((s.hse 3).wreq = [0] ∧ (s.chan 3).staged.length < 2 ∧ s.oceHolds 3 = false ∧ engineReach bufLo 4128 = true) ∧
    nx (exec (.dmaBurstDone 2 .ok .ok) s) (fun t => (t.hse 3).wreq == [] && (t.chan 3).staged.length == 1) = true := by decide +kernel
theorem witness_MediaRead : let s := ((mediaLine 27 { cd := bufLo, blen := 4128, nburst := 2 }).setHse 3 { rreq := [0] }).setChan 3 { res := List.replicate 64 5 }
    tagBad (readTag 0 (List.replicate 64 5)) = false ∧
    nx (exec (.dmaBurstDone 2 .ok .ok) s) (fun t => (t.hse 3).rreq == [] && t.mbs bufLo 64 == List.replicate 64 5 && (t.hse 3).latch.testBit latDeliv &&
      memButB s t bufLo 64) = true := by decide +kernel
theorem witness_DmaDeaf : let s : State := { up 5 with rst := { (up 5).rst with soft := some 0x52 } }
    s.hears selDma = false ∧ (up 5).hears selDma = true ∧ ([.dmaChannelEnable 2, .dmaStop 2 .ok, .dmaCtlEnable true, .dmaSwreq 64] : List Instr).all (fun c =>
      nx (exec c s) (fun t => t == s)) = true ∧
    ([.descriptorFetchDone 2 .ok, .dmaBurstDone 2 .ok .ok, .dmaBusTimeout 2, .guardWait1ms 2, .dmaStop 2 .ok] : List Instr).all (fun c =>
      nx (exec c (up 5)) (fun t => t == up 5)) = true := by decide +kernel

/-! ### Host interface -/

/-- Function 0 enabled, its admin queue pair and I/O queue pair 1, the pools locked. -/
def host (cmds : List Cmd) : State :=
  put { (up 10) with hif := { cmds := cmds, ctrls := [(0, { en := true, rdy := true })], aseq := 9,
                              sqs := [(0, some { size := 8, cq := 0, tail := 2 }), (1, some { size := 8, cq := 1 })],
                              cqs := [(0, some { size := 8 }), (1, some { size := 8, vec := 2 })] } }
    [(.HIF_CTL_FETCHEN, 0, 0, 1), (.HIF_FNCAP_TCAP, 0, 0, 64), (.BUF_CTL_PLOCK, 0, 0, 1), (.BUF_POOL_SIZE, 1, 0, 1), (.BUF_FREE_FREE, 1, 0, 2)]
theorem witness_SqTailDoorbell : (host []).sq 0 1 = some { size := 8, cq := 1 } ∧ nx (exec (.sqTailDoorbell 0 1 7) (host [])) (fun t =>
      t.sq 0 1 == some { size := 8, cq := 1, tail := 7 } && onlyB (host []) t [] [.hif]) = true ∧
    nx (exec (.sqTailDoorbell 0 1 8) (host [])) (fun t => raisedB (host []) t 240 && onlyB (host []) t [] [.ev]) = true ∧
    nx (exec (.sqTailDoorbell 0 2 0) (host [])) (fun t => raisedB (host []) t 240) = true := by decide +kernel
def cmd (tag sqid : Nat) (e : Sqe) (st : CmdSt) : Cmd := { tag := tag, func := 0, sqid := sqid, e := e, st := st, aseq := tag }
def posted : State := (host [cmd 5 1 (entry 0 1 0 0 0) .posted]).setCq 0 1 (some { size := 8, tail := 1, posted := [5] })
theorem witness_CqHeadDoorbell : nx (exec (.cqHeadDoorbell 0 1 1) posted) (fun t => t.cq 0 1 == some { size := 8, tail := 1, head := 1 } && t.hif.cmds == [] &&
      onlyB posted t [] [.hif, .ev]) = true ∧
    nx (exec (.cqHeadDoorbell 0 1 2) posted) (fun t => raisedB posted t 240 && t.hif.cmds.length == 1) = true ∧
    nx (exec (.cqHeadDoorbell 0 1 8) posted) (fun t => raisedB posted t 240) = true := by decide +kernel
theorem witness_CommandAdmit : (host []).fetchable 0 1 = false ∧ nx (exec (.commandAdmit 0 1 (entry 0 1 0 0 0) []) (host [])) (fun t => t == host []) = true ∧
    ((host []).fetchable 0 0 = true ∧ (host []).adminCheck 0 (entry 8 0 0 0 0) = 0) := by decide +kernel
/-- The queue that the arbiter takes next gives its entry: an admin command is credited, an undefined one completes; an I/O command
that names no namespace completes, and a Read with credits is credited under its lock. -/
def space1 : Nsp := { nsid := 1, nsidx := 0, zoned := false, cls := 0, enc := false, nsze := 2048, funcs := [(0, true)] }
def fetch1 : State := let s := ((host []).setSq 0 0 (some { size := 8, cq := 0 })).setSq 0 1 (some { size := 8, cq := 1, tail := 1 })
  { s with hif := { s.hif with nss := [(0, some space1)] } }
theorem witness_CommandAdmit_takes : ((host []).mayFetch 0 0 = true ∧ (host []).sq 0 0 = some { size := 8, cq := 0, tail := 2 } ∧
      (host []).wideBlocked 0 0 (entry 8 0 0 0 0) [] = none ∧ (host []).adminCheck 0 (entry 0x7F 0 0 0 0) ≠ 0 ∧ (∃ x, x < 131072 ∧ (host []).cmd? x = none)) ∧
    (fetch1.mayFetch 0 1 = true ∧ fetch1.psNow < 3 ∧ fetch1.nsFor 0 9 = none ∧ (fetch1.nsFor 0 1).isSome = true ∧
      (fetch1.nsFor 0 1).all (fun n => ioCheck n (fetch1.nsBusy 0 n) (entry 2 1 0 0 1) == 0) = true ∧ fetch1.poolFree 1 = 2) ∧
    (host []).guardTells ∧ fetch1.guardTells := by
  unfold State.guardTells
  exact ⟨⟨by decide, by decide, by decide, by decide, 0, by decide, by decide⟩, by decide +kernel, by decide, by decide⟩
/-- A write to a namespace whose key is lost completes with its status, and its data reads as lost. -/
def keyless : State := let s := { fetch1 with frc := { fetch1.frc with lost := [(0, true)] } }
  { s with hif := { s.hif with nss := [(0, some { space1 with enc := true })] } }
theorem witness_KeyLost : (keyless.nsFor 0 1).all (fun n => keyless.keyLost n && ioCheck n (keyless.nsBusy 0 n) (entry 1 1 0 0 1) == 0 &&
      keyless.ioStatus 0 n (entry 1 1 0 0 1) == scWriteProtected && keyless.ioStatus 0 n (entry 2 1 0 0 1) == 0) = true ∧
    (keyless.nsFor 0 1).isSome = true ∧ keyless.mayFetch 0 1 = true ∧ isWrite (entry 1 1 0 0 1).op = true ∧ (∃ x, x < 131072 ∧ keyless.cmd? x = none) := by
  exact ⟨by decide +kernel, by decide, by decide +kernel, by decide, 0, by decide, by decide⟩
/-- 64 entries of the wide list of one namespace: a further one stays in its queue. -/
def wideFetch : State := { fetch1 with hif := { fetch1.hif with
  cmds := (List.range 64).map (fun k => { cmd k 1 (entry 9 1 0 4 0) .started with nsidx := some 0, func := 1, lock := some { ex := true, lo := 0, hi := 999, wide := true } }) } }
theorem witness_WideBlocked : (wideFetch.mayFetch 0 1 = true ∧ wideFetch.wideBlocked 0 1 (entry 8 1 0 0 0xFF) [] = none ∧
      wideFetch.wideCount 0 = 64) ∧ wideFetch.wideBlocked 0 1 (entry 9 1 1 4 0) [(0, 1), (1279, 1)] = some 0 ∧
    nx (exec (.commandAdmit 0 1 (entry 9 1 1 4 0) [(0, 1), (1279, 1)]) wideFetch) (fun t => (t.sq 0 1).map (·.wide) == some 1 && raisedB wideFetch t 229 &&
      t.hif.cmds == wideFetch.hif.cmds) = true := by decide +kernel
theorem witness_Idle_hif : (let s := host [cmd 5 1 (entry 2 1 0 0 0) .credited]
     ([.lockWait1s 5, .orderedWait1s 5, .creditGrant true, .cqFull1s 0 1, .interruptCoalescingTimeout 0 1, .hostTransferEnd 5 false []] : List Instr).all (fun c =>
       nx (exec c s) (fun t => t == s)) = true) ∧
    (let s := { host [] with rst := { step := 9, done := true } }
     ([.sqTailDoorbell 0 1 7, .cqHeadDoorbell 0 1 1, .hifCplWrite 5, .hifXferWrite 5, .lrelFwd 4, .lrelRel 4] : List Instr).all (fun c =>
       nx (exec c s) (fun t => t == s)) = true) ∧
    (host []).hasFunc 0 = true ∧ (host []).hasFunc 511 = true := by decide +kernel
def capped : State := put ((host []).setSq 0 1 (some { size := 8, cq := 1, tail := 1 })) [(.HIF_FNCAP_TCAP, 0, 0, 0)]
theorem witness_CommandAdmit_cap : (capped.fetchable 0 1 = true ∧ capped.capped 0 1 = true) ∧
    nx (exec (.commandAdmit 0 1 (entry 0 1 0 0 0) []) capped) (fun t => raisedB capped t 225 && onlyB capped t [] [.ev]) = true := by decide +kernel
def needing (n : Nat) : State := host [{ cmd 5 1 (entry 2 1 0 0 0) .admitted with need1 := n }]
theorem witness_CreditGrant : nx (exec (.creditGrant true) (needing 2)) (fun t => t.rd .BUF_FREE_FREE 1 == 0 && t.hif.cmds.map (fun c => (c.st, c.has1)) == [(.credited, 2)] &&
      keepsB (needing 2) t [.hif, .ev]) = true ∧ nx (exec (.creditGrant true) (needing 3)) (fun t => t == needing 3) = true := by decide +kernel
theorem witness_HifNext : nx (exec .hifNextRead (host [cmd 5 0 (entry 8 0 0 0 0) .credited])) (fun t => t.hif.cmds.map (·.st) == [.started] &&
      t.out == [.popped .HIF_NEXT_CMDTAG 0 (5 + 2 ^ 63)]) = true ∧
    nx (exec .hifNextRead (host [])) (fun t => t.out == [.popped .HIF_NEXT_CMDTAG 0 0] && onlyB (host []) t [] [.out]) = true := by decide +kernel
/-- A read of the blocks that an earlier write holds an exclusive lock on. -/
def blocked : State := host [{ cmd 4 1 (entry 1 1 0 0 0) .started with nsidx := some 0, lock := some { ex := true, lo := 0, hi := 1, wide := false } },
  { cmd 5 1 (entry 2 1 0 0 0) .credited with nsidx := some 0, ord := true, lock := some { ex := false, lo := 0, hi := 1, wide := false } }]
theorem witness_Waits : (blocked.blocker blocked.hif.cmds[1]).isSome = true ∧ nx (exec (.lockWait1s 5) blocked) (fun t => raisedB blocked t 227 && onlyB blocked t [] [.ev]) = true ∧
    nx (exec (.orderedWait1s 5) blocked) (fun t => raisedB blocked t 228) = true ∧
    (let s := (host []).setCq 0 1 (some { size := 8, tail := 7 })
     nx (exec (.cqFull1s 0 1) s) (fun t => raisedB s t 226 && onlyB s t [] [.ev]) = true) := by decide +kernel

/-- A Read and a Write of one block, started, their transfer in a state. -/
def io (opc : Byte) (x : Xfer) (l : List Nat) : State := host [{ cmd 5 1 (entry opc 1 3 0 0) .started with nsidx := some 0, xfer := x, xlist := l }]
theorem witness_HifXfer : (io 2 .idle []).started? 5 = some (io 2 .idle []).hif.cmds[0] ∧
    nx (exec (.hifXferWrite 5) (put (io 2 .idle []) [(.HIF_XLIST_ADDR, 0, 0, sramLo)])) (fun t => t.hif.cmds.map (fun c => (c.xfer, c.xlist)) == [(.running, [0])]) = true ∧
    nx (exec (.hifXferWrite 6) (io 2 .idle [])) (fun t => t.rd .HIF_STAT_XERR == 1 && onlyB (io 2 .idle []) t [.HIF_STAT_XERR] []) = true := by decide +kernel
theorem witness_HostTransferEnd : nx (exec (.hostTransferEnd 5 false []) (io 2 .running [bufLo])) (fun t => t.hif.xdone == [(5, false)] && t.hif.cmds.map (·.xfer) == [.ended] &&
      t.out.length == 2 && t.mem == (up 5).mem) = true ∧
    nx (exec (.hostTransferEnd 5 true [1]) (io 1 .running [bufLo])) (fun t => t.hif.xdone == [(5, true)] && t.hif.cmds.map (·.xfer) == [.failed] && t.out == [] &&
      t.mem == (up 5).mem) = true ∧
    nx (exec (.hostTransferEnd 5 false [7]) (io 1 .running [bufLo])) (fun t => t.mb bufLo == 7 && t.regs == (io 1 .running [bufLo]).regs) = true := by decide +kernel
/-- The second block is poisoned: the first is sent, the second is the first lost LBA, and a success already written is taken back. -/
theorem witness_HostTransferEnd_lost : let c : Cmd := { cmd 5 1 (entry 2 1 3 0 1) .completed with nsidx := some 0, xfer := .running, xlist := [bufLo, bufLo + 4096], cpl := some (0, 8, 9) }
    let s : State := { host [c] with poison := [(bufLo / 64 + 64, true)] }
    (s.cmd? 5 = some c ∧ s.allMoved c = true ∧ c.silent = false ∧ (s.goodBlocks c.xlist 0).2 = some 1) ∧
    nx (exec (.hostTransferEnd 5 false []) s) (fun t => t.hif.cmds.map (fun d => (d.errLba, d.cpl)) == [(some 4, some (scUnrecovered, 8, 9))]) = true := by
  decide +kernel
theorem witness_Xdone : nx (exec .hifXdoneRead { (up 10) with hif := { xdone := [(5, true)] } }) (fun t => t.hif.xdone == [] &&
      t.out == [.popped .HIF_XDONE_CMDTAG 0 (5 + 2 ^ 17 + 2 ^ 63)]) = true ∧ nx (exec .hifXdoneRead (up 10)) (fun t => t.out == [.popped .HIF_XDONE_CMDTAG 0 0]) = true := by
  decide +kernel
theorem witness_Lrel : nx (exec (.lrelFwd 4) blocked) (fun t => t.hif.cmds.map (fun c => c.lock.map (·.fwd)) == [some true, some false]) = true ∧
    (let s := host [{ cmd 5 1 (entry 2 1 0 0 0) .started with lock := some { ex := false, lo := 0, hi := 1, wide := false } }]
     nx (exec (.lrelRel 5) s) (fun t => t.hif.cmds.map (fun c => c.lock.map (·.held)) == [some false]) = true) ∧
    [.lrelFwd 6, .lrelRel 6].all (fun c => nx (exec c blocked) (fun t => t.rd .HIF_STAT_LRERR == 1 && onlyB blocked t [.HIF_STAT_LRERR] [])) = true := by decide +kernel
/-- CPL: tag in bits 16:0, status in bits 31:17 (R257). -/
theorem witness_HifCpl : let s := put (io 2 .ended []) [(.HIF_CPLDW0_DW0, 0, 0, 6), (.HIF_CPLDW1_DW1, 0, 0, 7)]
    s.carries 5 s.hif.cmds[0] ∧ nx (exec (.hifCplWrite (5 + 0x281 * 131072)) s) (fun t => doneB t 5 0x281 6 7) = true ∧
    nx (exec (.hifCplWrite 5) (io 2 .running [])) (fun t => t.hif.cmds.map (fun c => (c.st, c.cpl)) == [(.completed, some (0, 0, 0))]) = true ∧
    nx (exec (.hifCplWrite 6) s) (fun t => t.rd .HIF_STAT_CPLERR == 1 && onlyB s t [.HIF_STAT_CPLERR] []) = true := by
  unfold State.carries; decide +kernel
def finished : State := host [{ cmd 5 1 (entry 2 1 0 0 0) .completed with cpl := some (0, 6, 7) }]
theorem witness_CompletionPost : finished.waitingFor 0 1 = finished.hif.cmds := by
  unfold State.waitingFor; exact List.mergeSort_singleton _
theorem witness_CompletionPost_held : ({ finished.hif.cmds[0] with xfer := .running } : Cmd).xfer = .running ∧ (finished.cq 0 1).all (fun k => k.room) = true := by
  decide
theorem witness_Coalescing : nx (exec (.interruptCoalescingTimeout 0 1) ((host []).setCq 0 1 (some { size := 8, vec := 2, unsig := 3 }))) (fun t =>
    t.cq 0 1 == some { size := 8, vec := 2 } && t.out == [.irq 0 2]) = true := by decide +kernel

/-! ### Admin commands -/

def admin (opc : Byte) (cdw10 cdw11 : W32) : State := host [{ cmd 5 0 (entry opc 1 cdw10 cdw11 0) .started with aseq := 5 }]
theorem witness_admin_carries : (admin 5 0 0).carries 5 (admin 5 0 0).hif.cmds[0] := by unfold State.carries; decide +kernel

theorem witness_CreateCq : nx (exec (.createIoCompletionQueue 5) (admin 5 0x00010002 3)) (fun t => doneB t 5 0 0 0 && t.cq 0 2 == some { size := 2, vec := 0, ien := true }) = true ∧
    nx (exec (.createIoCompletionQueue 5) (admin 5 0x00010001 1)) (fun t => doneB t 5 scQueueId 0 0) = true ∧
    nx (exec (.createIoCompletionQueue 5) (admin 5 0x00000002 1)) (fun t => doneB t 5 scQueueSize 0 0) = true ∧
    nx (exec (.createIoCompletionQueue 5) (admin 5 0x0FFF0002 0x00400001)) (fun t => doneB t 5 scVector 0 0) = true := by decide +kernel
theorem witness_CreateSq : nx (exec (.createIoSubmissionQueue 5) (admin 1 0x0FFF0002 0x00010001)) (fun t => doneB t 5 0 0 0 && t.sq 0 2 == some { size := 4096, cq := 1 }) = true ∧
    nx (exec (.createIoSubmissionQueue 5) (admin 1 0x0FFF0002 0x00030001)) (fun t => doneB t 5 scCqInvalid 0 0) = true := by decide +kernel
theorem witness_DeleteSq : nx (exec (.deleteIoSubmissionQueue 5) (admin 0 1 0)) (fun t => doneB t 5 0 0 0 && (t.sq 0 1).isNone && raisedB (admin 0 1 0) t 222) = true ∧
    (let s := host ((admin 0 1 0).hif.cmds ++ [cmd 6 1 (entry 2 1 0 0 0) .credited])
     nx (exec (.deleteIoSubmissionQueue 5) s) (fun t => doneB t 6 scSqDeleted 0 0 && (t.sq 0 1).map (·.deleting) == some 6) = true) := by decide +kernel
theorem witness_DeleteCq : nx (exec (.deleteIoCompletionQueue 5) (admin 4 1 0)) (fun t => doneB t 5 scQueueDeletion 0 0) = true ∧
    nx (exec (.deleteIoCompletionQueue 5) ((admin 4 1 0).setSq 0 1 none)) (fun t => doneB t 5 0 0 0 && (t.cq 0 1).isNone) = true ∧
    nx (exec (.abort 5) (admin 8 0 0)) (fun t => doneB t 5 0 1 0 && raisedB (admin 8 0 0) t 230) = true := by decide +kernel
theorem witness_Aer : let full (n : Nat) := (admin 0x0C 0 0).setCtrl 0 { aers := List.replicate n 9 }
    nx (exec (.asynchronousEventRequest 5) (full 7)) (fun t => (t.ctrl 0).aers == List.replicate 7 9 ++ [5] && onlyB (full 7) t [] [.hif]) = true ∧
    nx (exec (.asynchronousEventRequest 5) (full 8)) (fun t => doneB t 5 scAerLimit 0 0) = true ∧
    nx (exec (.asynchronousEventRequest 5) ((admin 0x0C 0 0).setCtrl 0 { notices := [77] })) (fun t => doneB t 5 0 77 0 && (t.ctrl 0).notices == []) = true := by decide +kernel
theorem witness_Directives : nx (exec (.directiveSend 5) (admin 0x19 0 0)) (fun t => doneB t 5 scField 0 0) = true ∧
    nx (exec (.directiveReceive 5) (admin 0x1A 0 1)) (fun t => doneB t 5 0 0 0 && t.out == [.toHost 5 [1, 0x80, 0, 0]]) = true := by decide +kernel
/-- Action 8 assigns, 9 brings online, 7 takes offline: Controller Identifier in bits 31:16, resource type in bits 10:8. -/
theorem witness_Virtualization : nx (exec (.virtualizationManagement 5) (admin 0x1C 0x00030008 2)) (fun t => doneB t 5 0 2 0 && (t.ctrl 3).queues == 2 && raisedB (admin 0x1C 0 0) t 242) =
      true ∧
    nx (exec (.virtualizationManagement 5) ((admin 0x1C 0x00030009 0).setCtrl 3 { queues := 2, vecs := 2 })) (fun t => doneB t 5 0 0 0 && (t.ctrl 3).online) = true ∧
    nx (exec (.virtualizationManagement 5) ((admin 0x1C 0x00030007 0).setCtrl 3 { queues := 2, vecs := 2, online := true })) (fun t => doneB t 5 0 0 0 && !(t.ctrl 3).online &&
      (t.ctrl 3).queues == 0) = true := by decide +kernel
theorem witness_SetFeatures : nx (exec (.setFeatures 5 []) (admin 9 0x80000001 7)) (fun t => doneB t 5 scNotSaveable 0 0) = true ∧
    nx (exec (.setFeatures 5 []) (admin 9 0x0B 7)) (fun t => doneB t 5 0 0 0 && t.feat 0 0x0B == 7) = true ∧
    nx (exec (.setFeatures 5 []) (admin 9 0x08 0x10007)) (fun t => doneB t 5 0 0 0 && t.feat 0 0x08 == 7) = true ∧
    nx (exec (.setFeatures 5 []) (admin 9 0x7F 7)) (fun t => doneB t 5 scField 0 0) = true := by decide +kernel
theorem witness_SetFeatures2 : nx (exec (.setErrorRecovery 5) (admin 9 5 7)) (fun t => doneB t 5 0 0 0 && t.feat 0 5 == 7) = true ∧
    nx (exec (.setVolatileWriteCache 5) (admin 9 6 1)) (fun t => doneB t 5 0 0 0 && t.feat 0 6 == 1) = true ∧
    nx (exec (.setSpindleGovernor 5) (admin 9 0xC0 0xF01)) (fun t => doneB t 5 0 0 0 && t.feat 0 0xC0 == 1 + 15 * 256) = true ∧
    (let s := host [{ cmd 5 0 (entry 9 1 6 1 0) .started with func := 3 }]
     nx (exec (.setVolatileWriteCache 5) s) (fun t => doneB t 5 scNotChangeable 0 0) = true) := by decide +kernel
theorem witness_GetFeatures : nx (exec (.getFeatures 5) (admin 0x0A 0x101 0)) (fun t => doneB t 5 scField 0 0) = true ∧
    nx (exec (.getFeatures 5) ((admin 0x0A 0x0B 0).setFeat 0 0x0B 0 9)) (fun t => doneB t 5 0 9 0) = true ∧
    nx (exec (.getFeatures 5) (put (admin 0x0A 2 0) [(.HIF_PWR_PSREQ, 0, 0, 3)])) (fun t => doneB t 5 0 3 0) = true := by decide +kernel

theorem witness_GetLogPage : nx (exec (.getLogPage 5) (admin 2 0x7F 0)) (fun t => doneB t 5 scField 0 0 && t.out == []) = true ∧
    (let s := host [{ cmd 5 0 (entry 2 1 0xC0 0 0) .started with func := 3 }]
     nx (exec (.getLogPage 5) s) (fun t => doneB t 5 scLogPage 0 0) = true) ∧
    nx (exec (.getLogPage 5) (admin 2 0x10001 0)) (fun t => doneB t 5 0 0 0 && t.out.map (fun o => match o with | .toHost 5 d => d.length | _ => 0) == [8]) = true ∧
    (let s := host [{ cmd 5 0 (entry 2 0 0x02 0 0) .started with func := 0 }]
     nx (exec (.getLogPage 5) { s with hif := { s.hif with warn := 4 } }) (fun t => doneB t 5 0 0 0 && t.out.map (fun o => match o with | .toHost 5 d => d.take 1 | _ => []) == [[4]]) =
      true) := by decide +kernel
/-- A telemetry page: area F at byte 512 + 0x800, the last block of its areas in the header, and an AGE register. -/
theorem witness_Telemetry : let data (t : State) : List Byte := match t.out with | [.toHost 5 d] => d | _ => []
    (let s := (host [{ cmd 5 0 (entry 2 0 0xF0007 0 0xA00) .started with func := 0 }]).setMbs mramLo [7, 8]
     nx (exec (.getLogPage 5) s) (fun t => doneB t 5 0 0 0 && data t == [7, 8] ++ zeros 62) = true) ∧
    (let s := host [{ cmd 5 0 (entry 2 0 0x10008 0 8) .started with func := 0 }]
     nx (exec (.getLogPage 5) s) (fun t => (data t).take 6 == [36, 0, 100, 0, 100, 32]) = true) ∧
    (let s := put (host [{ cmd 5 0 (entry 2 0 0x10007 0 (0x200 + 0x2C)) .started with func := 0 }]) [(.AGE_TEMP_TEMP, 3, 0, 5)]
     nx (exec (.getLogPage 5) s) (fun t => data t == [5, 0, 0, 0, 0, 0, 0, 0]) = true) := by decide +kernel
theorem witness_Identify : nx (exec (.identify 5) (admin 6 0x7F 0)) (fun t => doneB t 5 scField 0 0) = true ∧
    (let s := host [cmd 5 0 (entry 6 257 0 0 0) .started]
     nx (exec (.identify 5) s) (fun t => doneB t 5 scNamespace 0 0) = true) ∧
    nx (exec (.identify 5) (admin 6 1 0)) (fun t => doneB t 5 0 0 0) = true ∧ nx (exec (.identify 5) (admin 6 2 0)) (fun t => doneB t 5 0 0 0 && t.out.length == 1) = true := by
  decide +kernel

/-! ### Commands whose queue is going, and rows without their command -/

/-- Every command's queue is going; the medium is on its way up, its commands held. -/
def goingAll (s : State) : State := { s with hif := { s.hif with cmds := s.hif.cmds.map (fun c => { c with ended := true }) } }
def exitingS (s : State) : State := { s with hif := { s.hif with exit := true } }
theorem witness_Admin_ended : ([(.createIoCompletionQueue 5, 5), (.createIoSubmissionQueue 5, 1), (.deleteIoSubmissionQueue 5, 0), (.abort 5, 8),
    (.directiveReceive 5, 0x1A), (.virtualizationManagement 5, 0x1C), (.getFeatures 5, 0x0A), (.identify 5, 6), (.getLogPage 5, 2)] : List (Instr × Nat)).all (fun x =>
      nx (exec x.1 (goingAll (admin (BitVec.ofNat 8 x.2) 0 0))) (fun t => doneB t 5 scSqDeleted 0 0) &&
      nx (exec x.1 (admin 0x7F 0 0)) (fun t => t == admin 0x7F 0 0)) = true ∧
    (goingAll (admin 5 0 0)).runs 5 (goingAll (admin 5 0 0)).hif.cmds[0] := by unfold State.runs; decide +kernel
theorem witness_SetFeatures3 : nx (exec (.setFeatures 5 []) (admin 9 0x8000007F 7)) (fun t => doneB t 5 scField 0 0) = true ∧
    nx (exec (.setErrorRecovery 5) (admin 9 5 0x10007)) (fun t => doneB t 5 scField 0 0) = true ∧
    nx (exec (.virtualizationManagement 5) (admin 0x1C 0x00000001 5)) (fun t => doneB t 5 0 5 0 && (t.ctrl 0).newQ == some 5 && raisedB (admin 0x1C 0 0) t 242) = true := by
  decide +kernel
def recovering (s : State) : State := { s with rst := { s.rst with recovery := true } }
theorem witness_Recovery : nx (exec (.identify 5) (recovering (admin 6 0x10 0))) (fun t => doneB t 5 0 0 0 && t.out.map (fun o => match o with | .toHost 5 d => (d.length, d.take 4) | _ => (0, [])) == [(4096, [0, 0, 0, 0])]) = true ∧
    nx (exec (.identify 5) (recovering (admin 6 0 0))) (fun t => doneB t 5 scOpcode 0 0 && t.out == []) = true ∧
    nx (exec (.getLogPage 5) (recovering (admin 2 2 0))) (fun t => doneB t 5 scOpcode 0 0 && t.out == []) = true := by decide +kernel

/-! ### Namespaces, self-tests and blocks -/

def nsp (zoned : Bool) (enc : Bool) : Nsp := { nsid := 1, nsidx := 0, zoned := zoned, cls := 0, enc := enc, nsze := 65536 * 4, funcs := [(3, true)] }
def withNs (s : State) (n : Nsp) : State := s.setNs 0 (some n)

theorem witness_NamespaceCreate : nx (exec (.namespaceCreate 5 (zeros 4096)) (admin 0x0D 0 0)) (fun t => doneB t 5 scField 0 0 && t.hif.nss == []) = true ∧
    createStatus 0 256 0 0 0 0 = 0 ∧ createStatus 2 131072 131072 0 2 1 = 0 ∧ createStatus 0 255 0 0 0 0 = scField ∧ createStatus 2 131072 131071 0 2 1 = scField ∧
    (admin 0x0D 0 0).freeIdx.take 2 = [0, 1] ∧ (admin 0x0D 0 0).freeNsid.take 2 = [1, 2] := by decide +kernel
theorem witness_NamespaceCreate_full : let s := { admin 0x0D 0 0 with hif := { (admin 0x0D 0 0).hif with nss := (List.range 256).map (fun k => (k, some { nsp false false with nsidx := k })) } }
    s.freeIdx = [] ∧ nx (exec (.namespaceCreate 5 (leBytes 8 256 ++ zeros 4088)) s) (fun t => doneB t 5 scNsUnavailable 0 0) = true := by decide +kernel
/-- Whether a namespace fits depends on the zone table's capacity alone. -/
theorem witness_NamespaceCreate_fits (h : Config.convBlocks = 256) (idx id : Nat) :
    (admin 0x0D 0 0).fits { nsid := id, nsidx := idx, zoned := false, cls := 0, enc := false, nsze := 256 } = true ∧
    (admin 0x0D 0 0).fits { nsid := id, nsidx := idx, zoned := false, cls := 0, enc := false, nsze := 512 } = false := by
  unfold State.fits; rw [h]; exact ⟨rfl, rfl⟩
theorem witness_NamespaceDelete : (∀ f, 5 ∉ ((admin 0x0D 1 0).ctrl f).aers) ∧ nx (exec (.namespaceDelete 5) (admin 0x0D 1 0)) (fun t => doneB t 5 scNamespace 0 0) = true ∧
    nx (exec (.namespaceDelete 5) (withNs (admin 0x0D 1 0) (nsp false false))) (fun t => doneB t 5 0 0 0 && (t.ns? 0).isNone) = true ∧
    (let s := withNs (host ((admin 0x0D 1 0).hif.cmds ++ [{ cmd 4 1 (entry 2 1 0 0 0) .started with nsidx := some 0 }])) (nsp false false)
     nx (exec (.namespaceDelete 5) s) (fun t => t == s) = true) := by
  refine ⟨fun f => ?_, by decide +kernel⟩
  have h : (admin 0x0D 1 0).ctrl f = {} ∨ (admin 0x0D 1 0).ctrl f = { en := true, rdy := true } := by
    show (if 0 = f then ({ en := true, rdy := true } : Ctrl) else {}) = {} ∨ (if 0 = f then ({ en := true, rdy := true } : Ctrl) else {}) = { en := true, rdy := true }
    split
    · exact .inr rfl
    · exact .inl rfl
  rcases h with h | h <;> rw [h] <;> decide
theorem witness_Attach : nx (exec (.namespaceAttach 5 [3]) (withNs (admin 0x15 0 0) (nsp false false))) (fun t => doneB t 5 scNsAttached 0 0) = true ∧
    nx (exec (.namespaceAttach 5 [4]) (withNs (admin 0x15 0 0) (nsp false false))) (fun t => doneB t 5 0 0 0 && (t.ns? 0).map (·.funcs) == some [(3, true), (4, true)]) = true ∧
    nx (exec (.namespaceDetach 5 [4]) (withNs (admin 0x15 1 0) (nsp false false))) (fun t => doneB t 5 scNsNotAttached 0 0) = true ∧
    nx (exec (.namespaceDetach 5 [3]) (withNs (admin 0x15 1 0) (nsp false false))) (fun t => doneB t 5 0 0 0 && (t.ns? 0).map (·.funcs) == some []) = true := by decide +kernel
theorem witness_FormatAndSanitize : nx (exec (.formatNvm 5) (withNs (admin 0x80 0 0) (nsp true false))) (fun t => doneB t 5 0 0 0 && (t.zone 0 3).st == .empty) = true ∧
    nx (exec (.formatNvm 5) (withNs (admin 0x80 0x200 0) (nsp true false))) (fun t => doneB t 5 scField 0 0) = true ∧
    nx (exec (.formatNvm 5) (withNs (admin 0x80 0x400 0) (nsp true true))) (fun t => t.hif.erase == some (5, [0]) && raisedB (admin 0x80 0 0) t 236) = true ∧
    nx (exec (.sanitizeCryptoErase 5) (withNs (admin 0x84 4 0) (nsp true true))) (fun t => t.hif.erase == some (5, [0])) = true ∧
    nx (exec (.sanitizeCryptoErase 5) (withNs (admin 0x84 4 0) (nsp true false))) (fun t => doneB t 5 scField 0 0) = true := by decide +kernel
def erasing : State := let s := withNs (admin 0x84 4 0) (nsp true true)
  { s with hif := { s.hif with erase := some (5, [0]), zones := [(2, { st := .closed, wp := 5, bandseq := 6 })], blocks := [(9, [1])] } }
theorem witness_CryptoEraseDone : erasing.zonesWf ∧ nx (exec (.cryptoEraseDone 5) erasing) (fun t => doneB t 5 0 0 0 && t.hif.erase.isNone && t.zone 0 2 == { bandseq := 6 } &&
    t.block 0 9 == [] && (t.ns? 0).map (·.seqBase) == some 1 && raisedB erasing t 236) = true := by unfold State.zonesWf; decide +kernel

theorem witness_SelfTest : ([(.selfTestShort 5, 1), (.selfTestExtended 5, 2), (.selfCalibration 5, 0xE)] : List (Instr × Nat)).all (fun x =>
    let s := admin 0x14 (BitVec.ofNat 32 x.2) 0
    nx (exec x.1 s) (fun t => doneB t 5 0 0 0 && (t.hif.test.map (·.code)) == some x.2 && raisedB s t 237) &&
    nx (exec x.1 { s with hif := { s.hif with test := some ⟨1, 4, 0, 0⟩ } }) (fun t => doneB t 5 scSelfTest 0 0)) = true := by decide +kernel
def testing : State := let s := admin 0x14 0xF 0
  { s with hif := { s.hif with test := some ⟨1, 4, 0, 0⟩, testLog := List.replicate 20 (2, 0) } }
theorem witness_SelfTestEnds : nx (exec (.selfTestAbort 5) testing) (fun t => doneB t 5 0 0 0 && t.hif.test.isNone && t.hif.testLog == (1, 1) :: List.replicate 19 (2, 0)) = true ∧
    nx (exec (.selfTestEnd true []) testing) (fun t => t.hif.testLog == (1, 6) :: List.replicate 19 (2, 0) && t.norq == [] && raisedB testing t 237) = true ∧
    nx (exec (.selfTestPreempt 0 50) testing) (fun t => raisedB testing t 238 && onlyB testing t [] [.ev]) = true := by decide +kernel

/-- A started I/O command of one block at LBA 3 with its namespace, its data at the start of buffer memory. -/
def blockIo (opc : Byte) (zoned : Bool) (x : Xfer) (z : Option (Nat × Nat × Nat)) : State :=
  withNs (host [{ cmd 5 1 (entry opc 1 3 0 0) .started with nsidx := some 0, xfer := x, xlist := [bufLo], zone := z }]) (nsp zoned false)
theorem witness_Write : (blockIo 1 false .ended none).carries 5 (blockIo 1 false .ended none).hif.cmds[0] ∧
    nx (exec (.write 5) (blockIo 1 false .idle none)) (fun t => t == blockIo 1 false .idle none) = true ∧
    nx (exec (.write 5) (blockIo 1 false .failed none)) (fun t => doneB t 5 scTransfer 0 0 && t.hif.blocks == []) = true ∧
    nx (exec (.write 5) { blockIo 1 false .ended none with poison := [(bufLo / 64, true)] }) (fun t => doneB t 5 scInternal 0 0) = true ∧
    nx (exec (.write 5) ((blockIo 1 false .ended none).mwr 4 bufLo 9)) (fun t => doneB t 5 0 0 0 && (t.block 0 3).take 1 == [9] && t.hif.blocks.length == 1) = true := by
  unfold State.carries; decide +kernel
theorem witness_ZonedWrite : let s := blockIo 1 true .ended (some (0, 3, 1))
    s.zoneWaits s.hif.cmds[0] = false ∧ nx (exec (.write 5) s) (fun t => doneB t 5 0 0 0 && (t.zone 0 0).wp == 4) = true ∧
    nx (exec (.zoneAppend 5) (blockIo 0x7D true .ended (some (0, 65535, 1)))) (fun t => doneB t 5 0 65535 0 && (t.zone 0 0).st == .full) = true := by decide +kernel
/-- A block always takes a position, whatever the compressor makes of it. -/
theorem enc_block_takes (f : Nat → List Byte → List Byte) (lba : Nat) (b : List Byte) : 0 < (({ lba := lba } : Enc).block 2 f lba b).pos 2 := by
  unfold Enc.block Enc.pos Enc.close
  simp only [List.length_nil]
  split
  · next h => exact absurd h (by decide)
  · split
    · simp
    · split
      · split
        · simp
        · simp [unitSlots, unitSectors]
      · simp
theorem enc_run_stops (f : Nat → List Byte → List Byte) (lba : Nat) (b : List Byte) :
    (Enc.run 2 f 0 lba [b] ({ lba := lba } : Enc)).2 = true := by
  show (if 0 < (({ lba := lba } : Enc).block 2 f lba b).pos 2 then (({ lba := lba } : Enc), true) else _).2 = true
  rw [if_pos (enc_block_takes f lba b)]
/-- So in a zone of class 2 with no position left a write of one block does not fit. -/
theorem witness_ZonedWrite_full : let n := { nsp true false with cls := 2 }
    let s := (withNs (blockIo 1 true .ended (some (0, 3, 1))) n).setZone 0 0 { st := .implicit, wp := 3, fill := 65536 }
    s.zoneStore s.hif.cmds[0] n (0, 3, 1) [zeros 4096] = .inr scZoneFull := by
  intro n s
  have hz : s.zone n.nsidx 0 = { st := .implicit, wp := 3, fill := 65536 } := by decide +kernel
  have h : s.codeBlocks n (s.zone n.nsidx 0) 3 [zeros 4096] = none := by
    rw [hz]; exact if_pos (enc_run_stops (s.seal n) 3 (zeros 4096))
  unfold State.zoneStore
  have hc : n.cls ≠ 0 := by decide
  have hl : 0 * zsze n.cls + 3 = 3 := by decide
  simp only [if_neg hc]
  rw [hl, h]
def stored (opc : Byte) (x : Xfer) : State := let s := blockIo opc false x none
  { s with hif := { s.hif with blocks := [(3, [9])] }, med := { s.med with conv := [(0, ⟨4, 1, 16⟩)], convNext := 2 } }
theorem witness_ZeroesAndDeallocate : nx (exec (.writeZeroes 5) (stored 8 .idle)) (fun t => doneB t 5 0 0 0 && t.block 0 3 == []) = true ∧
    nx (exec (.datasetManagement 5) (stored 9 .idle)) (fun t => doneB t 5 0 0 0 && t.block 0 3 == [9]) = true ∧
    (let s := withNs (host [{ cmd 5 1 (entry 9 1 0 4 0) .started with nsidx := some 0, ranges := [(3, 1)] }]) (nsp false false)
     nx (exec (.datasetManagement 5) { s with hif := { s.hif with blocks := [(3, [9])] } }) (fun t => doneB t 5 0 0 0 && t.block 0 3 == []) = true) ∧
    (let s := withNs (host [{ cmd 5 1 (entry 9 1 0 4 0) .started with nsidx := some 0, ranges := [(65536 * 4, 1)] }]) (nsp false false)
     nx (exec (.datasetManagement 5) s) (fun t => doneB t 5 scLbaRange 0 0) = true) := by decide +kernel
theorem witness_Read : nx (exec (.read 5 []) (stored 2 .idle)) (fun t => doneB t 5 0 0 0 && t.out.map (fun o => match o with | .toHost 5 d => (d.take 2, d.length) | _ => ([], 0)) == [([9, 0], 4096)]) =
      true ∧
    nx (exec (.read 5 [⟨0, 5, 0, 0, 0⟩]) (stored 2 .idle)) (fun t => doneB t 5 scUnrecovered 0 0 && t.out == [] && NSet.has 3 t.hif.bad) = true ∧
    nx (exec (.read 5 []) (stored 2 .failed)) (fun t => doneB t 5 scTransfer 0 0) = true ∧
    nx (exec (.read 5 []) ((blockIo 2 true .idle none).setZone 0 0 { st := .offline })) (fun t => doneB t 5 scZoneOffline 0 0) = true := by decide +kernel
theorem witness_Verify : nx (exec (.verify 5 []) (stored 0x0C .idle)) (fun t => doneB t 5 0 0 0 && t.out == []) = true ∧
    nx (exec (.verify 5 [⟨0, 5, 0, 0, 0⟩]) (stored 0x0C .idle)) (fun t => doneB t 5 scUnrecovered 0 0) = true := by decide +kernel
theorem witness_Compare : nx (exec (.compare 5 []) (stored 5 .ended)) (fun t => doneB t 5 scCompare 0 0) = true ∧
    (let s := (stored 5 .ended).mwr 4 bufLo 9
     (s.mbs bufLo 4096 == s.hostBlocks (nsp false false) 3 1) = true) := by decide +kernel
theorem witness_Flush : (let s := stored 0 .idle
     nx (exec (.flush 5) { s with hif := { s.hif with dirty := [(3, some [])] } }) (fun t => doneB t 5 0 0 0 && t.hif.dirty == []) = true) := by decide +kernel

/-- The second ladder step recovers a sector unless Limited Retry or a spent TLER value ends the ladder first (R208). -/
theorem witness_Ladder : ladder false 0 ⟨0, 2, 0, 0, 0⟩ = 2 ∧ ladder true 0 ⟨0, 2, 0, 0, 0⟩ = 5 ∧ ladder false 3 ⟨0, 3, 1, 3, 0⟩ = 5 ∧ ladder false 3 ⟨0, 4, 1, 2, 2⟩ = 4 ∧
    ladder true 3 ⟨0, 1, 9, 9, 9⟩ = 1 ∧ ladder false 3 ⟨0, 2, 3, 0, 0⟩ = 5 ∧ ladder false 3 ⟨0, 4, 1, 2, 3⟩ = 5 := by decide
theorem witness_Io_waits : (exitingS (stored 2 .idle)).exiting = true ∧
    ([(.read 5 [], stored 2 .idle), (.write 5, stored 1 .idle), (.flush 5, stored 0 .idle), (.writeZeroes 5, stored 8 .idle)] : List (Instr × State)).all (fun x =>
      nx (exec x.1 (exitingS x.2)) (fun t => t == exitingS x.2) && nx (exec x.1 (exitingS (goingAll x.2))) (fun t => doneB t 5 scSqDeleted 0 0)) = true ∧
    nx (exec (.read 5 []) (host [cmd 5 1 (entry 2 1 3 0 0) .started])) (fun t => doneB t 5 scNamespace 0 0) = true ∧
    ([(.formatNvm 5, admin 0x80 0 0), (.namespaceCreate 5 [], admin 0x0D 0 0), (.selfTestShort 5, admin 0x14 1 0)] : List (Instr × State)).all (fun x =>
      nx (exec x.1 (exitingS x.2)) (fun t => t == exitingS x.2) && nx (exec x.1 (goingAll x.2)) (fun t => doneB t 5 scSqDeleted 0 0)) = true := by decide +kernel
/-- The holder's block stands in the buffer and its lock is forwarding: the read returns it before it is stored (R263, R264). -/
theorem witness_Read_forwarded : let s := withNs (host [
      { cmd 4 1 (entry 1 1 3 0 0) .started with nsidx := some 0, xfer := .ended, xlist := [bufLo], lock := some { ex := true, lo := 3, hi := 3, wide := false, fwd := true } },
      { cmd 5 1 (entry 2 1 3 0 0) .started with nsidx := some 0, lock := some { ex := false, lo := 3, hi := 3, wide := false } }]) (nsp false false)
    s.heldAt s.hif.cmds[1] 3 = some bufLo ∧ nx (exec (.read 5 []) (s.mwr 4 bufLo 9)) (fun t => doneB t 5 0 0 0 &&
      t.out.map (fun o => match o with | .toHost 5 d => d.take 2 | _ => []) == [[9, 0]]) = true := by decide +kernel
/-- An erase and a detach wait for an earlier command for all namespaces; so does a delete. -/
theorem witness_Ns_wait : let s (o : Byte) (d : W32) := withNs (host ((admin o d 0).hif.cmds ++ [cmd 4 1 (entry 0 0xFFFFFFFF 0 0 0) .started])) { nsp true true with funcs := [(0, true)] }
    (([(.namespaceDelete 5, s 0x0D 1), (.formatNvm 5, s 0x80 0x400), (.sanitizeCryptoErase 5, s 0x84 4), (.namespaceDetach 5 [0], s 0x15 1)] : List (Instr × State)).all (fun x =>
      nx (exec x.1 x.2) (fun t => t == x.2))) = true := by decide +kernel
theorem witness_SelfCal_end : let s := { testing with hif := { testing.hif with test := some ⟨0xE, 4, 0xFFFFFF, 3⟩ } }
    (s.hif.test = some ⟨0xE, 4, 0xFFFFFF, 3⟩ ∧ s.norq = []) ∧ nx (exec (.selfTestEnd true []) s) (fun t => t.norq == []) = true ∧
    nx (exec (.selfTestEnd false []) { s with hif := { s.hif with test := none } }) (fun t => t == { s with hif := { s.hif with test := none } }) = true ∧
    nx (exec (.selfTestPreempt 0 51) testing) (fun t => t == testing) = true := by decide +kernel

/-! ### Zones -/

/-- A Zone Management command for zone 1, with its action in CDW13, and the zone in a state. -/
def zoneMgmt (opc : Byte) (zsa : W32) (st : ZoneSt) : State :=
  (withNs (host [{ cmd 5 1 { entry opc 1 65536 0 31 with cdw13 := zsa } .started with nsidx := some 0 }]) (nsp true false)).setZone 0 1 { st := st, wp := 5, dwp := 2, bandseq := 65535, unit := 1 }
theorem witness_ZoneOpen : [.empty, .implicit, .explicit, .closed].all (fun st => nx (exec (.zoneOpen 5) (zoneMgmt 0x79 3 st)) (fun t => doneB t 5 0 0 0 && (t.zone 0 1).st == .explicit)) = true ∧
    [.full, .readOnly, .offline].all (fun st => nx (exec (.zoneOpen 5) (zoneMgmt 0x79 3 st)) (fun t => doneB t 5 scZoneState 0 0 && (t.zone 0 1).st == st)) = true ∧
    (let s := zoneMgmt 0x79 3 .empty
     let z : NTab Zone := [(1, { wp := 5 })] ++ (List.range 128).map (fun k => (k + 2, { st := .closed, wp := 1 }))
     nx (exec (.zoneOpen 5) { s with hif := { s.hif with zones := z } }) (fun t => doneB t 5 scZoneActive 0 0) = true) := by decide +kernel
theorem witness_ZoneClose : [.implicit, .explicit, .closed].all (fun st => nx (exec (.zoneClose 5) (zoneMgmt 0x79 1 st)) (fun t => doneB t 5 0 0 0 && (t.zone 0 1).st == .closed)) = true ∧
    nx (exec (.zoneClose 5) (zoneMgmt 0x79 1 .empty)) (fun t => doneB t 5 scZoneState 0 0 && (t.zone 0 1).st == .empty) = true ∧
    nx (exec (.zoneFinish 5) (zoneMgmt 0x79 2 .closed)) (fun t => doneB t 5 0 0 0 && (t.zone 0 1).st == .full && (t.zone 0 1).dwp == 5) = true ∧
    nx (exec (.zoneFinish 5) (zoneMgmt 0x79 2 .offline)) (fun t => doneB t 5 scZoneState 0 0) = true := by decide +kernel
theorem witness_ZoneReset : nx (exec (.zoneReset 5) (zoneMgmt 0x79 4 .full)) (fun t => doneB t 5 0 0 0 && t.zone 0 1 == { bandseq := 0 }) = true ∧
    nx (exec (.zoneReset 5) (zoneMgmt 0x79 4 .readOnly)) (fun t => doneB t 5 scZoneState 0 0) = true ∧
    nx (exec (.zoneOffline 5) (zoneMgmt 0x79 5 .readOnly)) (fun t => doneB t 5 0 0 0 && (t.zone 0 1).st == .offline) = true ∧
    nx (exec (.zoneOffline 5) (zoneMgmt 0x79 5 .full)) (fun t => doneB t 5 scZoneState 0 0) = true := by decide +kernel
theorem witness_ZoneReport : nx (exec (.zoneManagementReceive 5) (zoneMgmt 0x7A 0 .closed)) (fun t => doneB t 5 0 0 0 && t.out.map (fun o => match o with
    | .toHost 5 d => (d.length, d.take 2, (d.drop 64).take 2) | _ => (0, [], [])) == [(128, [3, 0], [2, 0x40])]) = true := by decide +kernel
theorem witness_ZoneAssign : (zoneMgmt 0x7A 0 .closed).zoneAssign (nsp true false) (entry 1 1 65541 0 2) = .inl (1, 5, 3) ∧
    (zoneMgmt 0x7A 0 .closed).zoneAssign (nsp true false) (entry 1 1 65540 0 2) = .inr scZoneWrite ∧
    nx (exec (.unitCloseTimeout 0 1) (zoneMgmt 0x7A 0 .closed)) (fun t => (t.zone 0 1).unit == 0 && (t.zone 0 1).wp == 5) = true := by decide +kernel
/-- With 128 zones open the least recently written implicitly opened one is closed to make room; with none of those there is none. -/
def manyOpen (st : ZoneSt) : State := let s := zoneMgmt 0x79 3 .closed
  { s with hif := { s.hif with zones := [(1, { st := .closed, wp := 5 })] ++ (List.range 127).map (fun k => (k + 2, { st := .explicit, wp := 1 })) ++ [(130, { st := st, wp := 1 })] } }
theorem witness_ZoneOpen_full : (manyOpen .implicit).oldestImplicit 0 = some 130 ∧ (manyOpen .explicit).oldestImplicit 0 = none ∧
    nx (exec (.zoneOpen 5) (manyOpen .implicit)) (fun t => doneB t 5 0 0 0 && (t.zone 0 1).st == .explicit && (t.zone 0 130).st == .closed) = true ∧
    nx (exec (.zoneOpen 5) (manyOpen .explicit)) (fun t => doneB t 5 scZoneOpen 0 0 && (t.zone 0 1).st == .closed) = true := by decide +kernel
/-- Select All (bit 8 of CDW13) takes every zone in the states the action takes. -/
def allZones (zsa : W32) : State := let s := zoneMgmt 0x79 (0x100 + zsa) .closed
  { s with hif := { s.hif with zones := [(0, { st := .implicit, wp := 5, dwp := 2 }), (1, { st := .closed, wp := 5, dwp := 5 }), (2, { st := .full, wp := 65536 }), (3, { st := .readOnly, wp := 3 })] } }
theorem witness_SelectAll : ((allZones 3).hif.cmds[0].e.zall = true ∧ (allZones 3).guardTells ∧ (allZones 3).med.want = [] ∧ (allZones 3).zonesIn 0 isActive ≤ 128) ∧
    ([(.zoneOpen 5, 3, [.implicit, .explicit, .full, .readOnly]), (.zoneClose 5, 1, [.closed, .closed, .full, .readOnly]), (.zoneFinish 5, 2, [.full, .full, .full, .readOnly]),
      (.zoneReset 5, 4, [.empty, .empty, .empty, .readOnly]), (.zoneOffline 5, 5, [.implicit, .closed, .full, .offline])] : List (Instr × Nat × List ZoneSt)).all (fun x =>
        nx (exec x.1 (allZones (BitVec.ofNat 32 x.2.1))) (fun t => doneB t 5 0 0 0 && (List.range 4).map (fun z => (t.zone 0 z).st) == x.2.2)) = true := by
  unfold State.guardTells; decide +kernel
theorem witness_SelectAll_wf : (allZones 3).zonesWf := by unfold State.zonesWf; decide +kernel
/-- A position that no further one follows: closing its unit fills the zone (R303); a group partly written is padded (R302). -/
theorem witness_ZoneEnds : let full (s : State) : State := (withNs s { nsp true false with cls := 2 }).setZone 0 1 { st := .explicit, wp := 5, fill := 65536, unit := 1 }
    let at2 : Sqe := { entry 1 1 131072 0 31 with cdw13 := 1 }
    (let s := full (zoneMgmt 0x79 1 .explicit)
     nx (exec (.unitCloseTimeout 0 1) s) (fun t => (t.zone 0 1).st == .full && (t.zone 0 1).zfc && (t.zone 0 1).unit == 0 && raisedB s t 318) = true) ∧
    (let s := full (host [{ cmd 5 1 { at2 with opc := 0x79 } .started with nsidx := some 0 }])
     at2.slba / zsze 2 = 1 ∧ nx (exec (.zoneClose 5) s) (fun t => doneB t 5 0 0 0 && t.zone 0 1 == { st := .full, wp := 5, fill := 65536, unit := 0, zfc := true }) = true) ∧
    finishPads (nsp true false) 1 { fill := 5 } = (padPositions 5).map (fun d => (d, 65536 + d)) := by decide +kernel
theorem witness_Zone_ended : ([(.zoneOpen 5, 3), (.zoneClose 5, 1), (.zoneFinish 5, 2), (.zoneReset 5, 4), (.zoneOffline 5, 5)] : List (Instr × Nat)).all (fun x =>
    let s := zoneMgmt 0x79 (BitVec.ofNat 32 x.2) .closed
    nx (exec x.1 (goingAll s)) (fun t => doneB t 5 scSqDeleted 0 0) && nx (exec x.1 (exitingS s)) (fun t => t == exitingS s) &&
    nx (exec x.1 (zoneMgmt 0x79 6 .closed)) (fun t => t == zoneMgmt 0x79 6 .closed) && nx (exec x.1 { s with hif := { s.hif with nss := [] } }) (fun t => doneB t 5 scNamespace 0 0)) =
  true := by decide +kernel

/-! ### Controllers, power states and the chain -/

theorem witness_ControllerEnable : let s := up 10
    nx (exec (.controllerEnable 0 true) s) (fun t => (t.ctrl 0).ams && (t.ctrl 0).en && (t.ctrl 0).rdy && raisedB s t 220 && (t.sq 0 0).isSome && (t.cq 0 0).isSome && onlyB s t [] [.hif, .ev, .free]) = true ∧
    (let s := s.setCtrl 511 { online := true }
     nx (exec (.controllerEnable 511 false) s) (fun t => (t.ctrl 511).en && raisedB s t 220) = true) ∧
    nx (exec (.controllerEnable 511 false) s) (fun t => t == s) = true ∧ nx (exec (.controllerEnable 0 false) (up 9)) (fun t => t == up 9) = true ∧
    (let s := { (up 10).setCtrl 511 { online := true } with rst := { (up 10).rst with recovery := true } }
     [Instr.controllerEnable 511 false, .functionLevelReset 511, .controllerReset 0].all (fun c => nx (exec c s) (fun t => t == s))) = true ∧
    nx (exec (.functionLevelReset 0) (up 9)) (fun t => t == up 9) = true := by decide +kernel
/-- Two controllers with a command each. -/
def twoUp : State := ((host [{ cmd 5 1 (entry 2 1 0 0 0) .started with func := 3 }, cmd 6 1 (entry 2 1 0 0 0) .started]).setCtrl 3 { en := true, rdy := true, online := true, aers := [9] }).setSq 3 1 (some { size := 4, cq := 1 })
theorem witness_ControllerReset : [Instr.controllerReset 3, .functionLevelReset 3].all (fun c => nx (exec c twoUp) (fun t => !(t.ctrl 3).en && !(t.ctrl 3).rdy && (t.ctrl 3).aers == [] &&
      raisedB twoUp t 221 && (t.sq 3 1).isNone && t.ctrl 0 == twoUp.ctrl 0 && t.out == twoUp.out && t.hif.cmds.all (fun x => x.func != 3 || x.silent && x.ended) &&
      t.hif.cmds.any (fun x => x.tag == 6 && x.func == 0 && x.st == .started))) = true := by decide +kernel
theorem witness_ResetAll : [.functionLevelReset 0, .perstN false, .idpLinkControl true true, .idpLinkControl false true].all (fun c =>
    nx (exec c twoUp) (fun t => !(t.ctrl 0).en && !(t.ctrl 3).en && t.staged == [] && t.rst == twoUp.rst && t.spn == twoUp.spn)) = true := by decide +kernel
def allOpen : Nat := 2 ^ 32 - 1
/-- Both links up behind an open pass; the endpoint has buses 3 and 4, the chain below 5 and 6. -/
def chained : State := put { twoUp with
    psw := { refclk := true, swOpen := allOpen, usp := { sec := 2, sub := 6 }, idp := { pri := 2, sec := 3, sub := 4 },
             edp := { pri := 2, sec := 5, sub := 6 }, usFinal := true, dsFinal := true } }
  [(.PSW_STAT_USUP, 0, 0, 1), (.PSW_STAT_DSUP, 0, 0, 1), (.PSW_PASS_STATE, 0, 0, 2), (.PSW_ID_VID, 0, 0, 0x1AF4)]
theorem witness_HotReset : chained.passOpen = true ∧ [Instr.hotReset false, .hotReset true, .linkDown .usp 1 0].all (fun c => nx (exec c chained) (fun t =>
      !(t.ctrl 0).en && !(t.ctrl 3).en && t.out == [.hotReset] && !t.bit .PSW_STAT_USUP && !t.bit .PSW_STAT_DSUP && raisedB chained t 189 && raisedB chained t 191 &&
      raisedB chained t 205 == (c == .hotReset false) && t.rd .PSW_PASS_STATE == 2 && t.psw == { refclk := true, swOpen := allOpen })) = true ∧
    [Instr.hotReset true, .hotReset false, .linkDown .usp 1 0].all (fun c => nx (exec c twoUp) (fun t => t == twoUp)) = true := by decide +kernel
theorem witness_PerstN : nx (exec (.perstN false) (up 9)) (fun t => t.psw.perst && onlyB (up 9) t [] [.psw]) = true ∧
    nx (exec (.perstN false) chained) (fun t => t.psw == { perst := true, refclk := true, swOpen := allOpen } && raisedB chained t 204 && !t.bit .PSW_STAT_USUP &&
      !t.bit .PSW_STAT_DSUP && t.out == []) = true ∧
    nx (exec (.perstN true) chained) (fun t => !t.psw.perst && raisedB chained t 204 && onlyB chained t [] [.psw, .ev]) = true := by decide +kernel
theorem witness_PortControl : nx (exec (.idpLinkControl true false) chained) (fun t => !t.psw.idpDisabled && onlyB chained t [] [.psw]) = true ∧
    nx (exec (.idpLinkControl true true) chained) (fun t => t.psw.idpDisabled && !(t.ctrl 0).en) = true ∧
    nx (exec (.edpSecondaryBusReset true true) chained) (fun t => t.psw.edpDisabled && !t.bit .PSW_STAT_DSUP && t.hif == chained.hif) = true ∧
    nx (exec (.edpSecondaryBusReset false true) chained) (fun t => t.out == [.hotReset] && onlyB chained t [] [.out]) = true ∧
    nx (exec (.edpSecondaryBusReset true false) chained) (fun t => !t.psw.edpDisabled && onlyB chained t [] [.psw]) = true ∧
    nx (exec (.edpSecondaryBusReset false false) chained) (fun t => t == chained) = true ∧ nx (exec (.edpSecondaryBusReset false true) twoUp) (fun t => t == twoUp) = true ∧
    [Instr.idpLinkControl true true, .edpSecondaryBusReset true true].all (fun c => nx (exec c (up 9)) (fun t => t == up 9)) = true := by decide +kernel
theorem witness_Nssr : (let s := { up 10 with rst := { (up 10).rst with pin := true } }
     nx (exec (.nssrWrite 0 0x4E564D65) s) (fun t => t.rst == { s.rst with pulse := some .firmware, pulseSeen := true } && onlyB s t [] [.rst]) = true) ∧
    [Instr.nssrWrite 1 0x4E564D65, .nssrWrite 0 0x4E564D64].all (fun c => nx (exec c (up 10)) (fun t => t == up 10)) = true ∧
    (let s := { up 10 with rst := { (up 10).rst with pulse := some .firmware } }
     nx (exec (.nssrWrite 0 0x4E564D65) s) (fun t => t == s)) = true ∧
    nx (exec .nvmeMiBasicCommand (up 9)) (fun t => t == up 9) = true ∧
    [(0, 0xC4), (213, 0xC4), (214, 197), (272, 255), (273, 0), (399, 126), (400, 0x7F), (8191, 0x7F)].all (fun (e : Nat × Nat) => smbusTemp e.1 == e.2) = true ∧
    nx (exec .nvmeMiBasicCommand (up 10)) (fun t => t.out.length == 1 && t.free == 1 && onlyB (up 10) t [] [.out, .free]) = true := by decide +kernel

/-! ### Power states -/

def powered (ps : Nat) : State := put { spinning with rst := (up 10).rst } [(.SPN_LIM_SPDMIN, 0, 0, 3600), (.HIF_PWR_PSNOW, 0, 0, ps), (.HIF_PWR_PSREQ, 0, 0, ps)]
def withAdmin (s : State) (c : Cmd) : State := { s with hif := { s.hif with cmds := [c], ctrls := [(0, { en := true, rdy := true })] } }
def setPm (ps : W32) (f : Nat) : State := withAdmin (powered 0) { cmd 5 0 (entry 9 0 2 ps 0) .started with func := f }
theorem witness_SetPowerManagement : nx (exec (.setPowerManagement 5) (setPm 2 0)) (fun t => doneB t 5 0 0 0 && t.rd .HIF_PWR_PSREQ == 2 && t.rd .HIF_PWR_PSNOW == 2 &&
      raisedB (setPm 2 0) t 233 && t.spn.tgt == 3600 && t.hif.entry.isNone) = true ∧
    [3, 4].all (fun n => nx (exec (.setPowerManagement 5) (setPm (BitVec.ofNat 32 n) 0)) (fun t => doneB t 5 0 0 0 && t.rd .HIF_PWR_PSREQ == n && t.rd .HIF_PWR_PSNOW == 0 &&
      t.hif.entry == some psHost)) = true ∧
    nx (exec (.setPowerManagement 5) (setPm 5 0)) (fun t => doneB t 5 scField 0 0 && t.rd .HIF_PWR_PSREQ == 0) = true ∧
    nx (exec (.setPowerManagement 5) (setPm 1 3)) (fun t => doneB t 5 scNotChangeable 0 0 && t.rd .HIF_PWR_PSREQ == 0) = true := by decide +kernel
theorem witness_PowerTimers : let s := (powered 2).setFeat 0 0xC0 0 0x010100
    nx (exec .valleyTimerExpire s) (fun t => t.rd .HIF_PWR_PSREQ == 3 && t.hif.entry == some psTimer && onlyB s t [.HIF_PWR_PSREQ] [.hif]) = true ∧
    (let s := (powered 3).setFeat 0 0xC0 0 0x010100
     nx (exec .deepTimerExpire s) (fun t => t.rd .HIF_PWR_PSREQ == 4 && t.hif.entry == some psTimer && onlyB s t [.HIF_PWR_PSREQ] [.hif]) = true) ∧
    [Instr.valleyTimerExpire, .deepTimerExpire].all (fun c => nx (exec c (s.setFeat 0 0x0C 0 1)) (fun t => t == s.setFeat 0 0x0C 0 1)) = true ∧
    nx (exec .deepTimerExpire s) (fun t => t == s) = true ∧ nx (exec .valleyTimerExpire ((powered 2).setFeat 0 0xC0 0 0x010000)) (fun t => t == (powered 2).setFeat 0 0xC0 0 0x010000) = true := by decide +kernel
theorem witness_Apst : let s (e : Nat) := ((powered 0).setFeat 0 0x0C 0 1).setFeat 0 0x0C 1 e
    nx (exec .autonomousPowerStateTransition (s (256 + 8 * 4))) (fun t => t.rd .HIF_PWR_PSREQ == 4 && t.hif.entry == some psApst && onlyB (s (256 + 8 * 4)) t [.HIF_PWR_PSREQ] [.hif]) = true ∧
    nx (exec .autonomousPowerStateTransition (s (256 + 8))) (fun t => t.rd .HIF_PWR_PSNOW == 1 && raisedB (s 0) t 233) = true ∧
    [8 * 4, 256, 256 + 8 * 5].all (fun e => nx (exec .autonomousPowerStateTransition (s e)) (fun t => t == s e)) = true := by decide +kernel
def entering (l : List Cmd) : State := let s := put (powered 1) [(.HIF_PWR_PSREQ, 0, 0, 3), (.BUF_POOL_SIZE, 2, 0, 1), (.BUF_FREE_FREE, 2, 0, 256)]
  { s with hif := { s.hif with entry := some psHost, cmds := l, zones := [(2, { st := .closed, wp := 5, unit := 3 })] } }
theorem witness_PowerStateEntry : (entering []).poolFree 2 = (entering []).poolSize 2 ∧ nx (exec .powerStateEntry (entering [])) (fun t => t.rd .HIF_PWR_PSNOW == 3 && t.hif.entry.isNone &&
      raisedB (entering []) t 233 && (t.zone 0 2).unit == 0) = true ∧
    nx (exec .powerStateEntry (entering [cmd 5 1 (entry 2 1 0 0 0) .started])) (fun t => t == entering [cmd 5 1 (entry 2 1 0 0 0) .started]) = true ∧
    nx (exec .powerStateEntry (powered 1)) (fun t => t == powered 1) = true ∧
    (let s := { put (powered 3) [(.HIF_PWR_PSREQ, 0, 0, 1)] with hif := { (powered 3).hif with entry := some psHost } }
     nx (exec .powerStateEntry s) (fun t => t.rd .HIF_PWR_PSNOW == 1 && t.hif.entry.isNone && t.hif.exit && raisedB s t 233 && t.mem == s.mem)) = true := by decide +kernel
def governed : State := (powered 0).setFeat 0 0xC0 0 1
theorem witness_Governor : governed.topTier 0 = 7200 ∧ nx (exec (.governorStep false 29) governed) (fun t => t.rd .SPN_TGT_TGT == 5400 && raisedB governed t 234) = true ∧
    nx (exec (.governorStep false 30) governed) (fun t => t == governed) = true ∧ nx (exec (.governorStep true 90) governed) (fun t => t == governed) = true := by decide +kernel

/-! ### The chain -/

def passing (l : List (Reg × Nat × Nat × Nat)) : State := put { up 10 with pwr := { good := true } } l
/-- MRAM outside the record of the pass. -/
def passOnlyB (s t : State) (fields : List Reg) (ps : List Part) : Bool := regsB s t fields && memButB s t 0x0100C708 8 && keepsB s t ps
theorem witness_PassOpen : let s := passing []
    s.joinHeld = none ∧ nx (exec (.passOpen 0x1C3) s) (fun t => t.rd .PSW_PASS_STATE == 1 && t.passFlag && t.passCount == 1 && t.passCause == 0 && raisedB s t 195 &&
      t.view ⟨.PSW_PASSCNT_COUNT, 0, 0⟩ == 1 && t.view ⟨.PSW_PASSREC_OPENFLAG, 0, 0⟩ == 1 && t.lanePath 7 == .nothing &&
      passOnlyB s t [.PSW_PASS_STATE, .PSW_PASS_PENDING] [.psw, .ev]) = true ∧
    (let s := s.setPassCount (2 ^ 32 - 1)
     nx (exec (.passOpen 0x1C3) s) (fun t => t.passCount == 2 ^ 32 - 1 && t.view ⟨.PSW_STAT_WORN, 0, 0⟩ == 1)) = true ∧
    [(79999999, 202), (99999999, 203)].all (fun (e : Nat × Nat) => let s := s.setPassCount e.1
      nx (exec (.passOpen 0x1C3) s) (fun t => t.passCount == e.1 + 1 && raisedB s t e.2)) = true ∧
    (let s := passing [(.PSW_PASS_FAULT, 0, 0, 1)]
     nx (exec (.passOpen 0x1C3) s) (fun t => raisedB s t 198 && onlyB s t [] [.ev]) = true) ∧
    (let s := passing [(.PSW_STAT_TOODEEP, 0, 0, 1)]
     nx (exec (.passOpen 0x1C3) s) (fun t => raisedB s t 198 && onlyB s t [] [.ev]) = true) ∧
    (let s := passing [(.PSW_CFG_POLICY, 0, 0, 1)]
     s.joinHeld = some 1 ∧ nx (exec (.passOpen 0x1C3) s) (fun t => t.rd .PSW_PASS_PENDING == 1 && raisedB s t 197 && onlyB s t [.PSW_PASS_PENDING] [.ev]) = true) ∧
    (let s := passing [(.PSW_PASS_STATE, 0, 0, 3)]
     nx (exec (.passOpen 0x1C3) s) (fun t => t.rd .PSW_PASS_PENDING == 1 && onlyB s t [.PSW_PASS_PENDING] []) = true) ∧
    [Instr.passOpen 0x1C2, .passClose 0x2C2, .passOpen 0xC3, .passOpen 0x3C3, .passClose 0x1C3].all (fun c => nx (exec c s) (fun t => t == s)) = true := by decide +kernel
theorem witness_MayOpen : (passing []).mayOpen = true ∧
    [({ good := true, turning := true } : Pwr), { good := true, retract := 1 }, { good := true, tripped := [2] }].all (fun p =>
      let s := { passing [] with rst := { (passing []).rst with recovery := true }, pwr := p }
      !s.mayOpen && nx (exec (.passOpen 0x1C3) s) (fun t => t == s)) = true ∧
    nx (exec (.passOpen 0x1C3 .debug) (passing [])) (fun t => t.rd .PSW_PASS_STATE == 1 && t.psw.tap == .bypass) = true ∧
    [TapInstr.boundary, .acScan].all (fun i => nx (exec (.passOpen 0x1C3 i) (passing [])) (fun t => t == (passing []).setTap i && t.psw.tap == i)) = true := by decide +kernel
theorem witness_JoinHeld : (up 10).joinHeld = some 2 ∧ { passing [(.PSW_CFG_POLICY, 0, 0, 1)] with psw := { holdoff := true } }.joinHeld = some 0 := by decide +kernel
theorem witness_PassClose : [(1, 0x2C3), (2, 0x3C3)].all (fun (e : Nat × W32) =>
      let s := (put chained [(.PSW_PASS_STATE, 0, 0, e.1)]).setPassRec true 0
      nx (exec (.passClose e.2) s) (fun t => t.rd .PSW_PASS_STATE == 3 && t.passCause == 1 && !t.passFlag && t.passCount == s.passCount && raisedB s t 196 &&
        !t.bit .PSW_STAT_USUP && !t.bit .PSW_STAT_DSUP && !(t.ctrl 0).en && t.psw == { holdoff := true, swMoving := true, refclk := true })) = true ∧
    (let s := passing [(.PSW_PASS_PENDING, 0, 0, 1)]
     nx (exec (.passClose 0x2C3) s) (fun t => t.rd .PSW_PASS_PENDING == 0 && onlyB s t [.PSW_PASS_PENDING] []) = true) := by decide +kernel
theorem witness_JoinEn : (let s := (put chained [(.PSW_CFG_POLICY, 0, 0, 1), (.PSW_STAT_JOINEN, 0, 0, 1)]).setPassRec true 0
     nx (exec (.joinEnChange false) s) (fun t => t.rd .PSW_PASS_STATE == 3 && t.passCause == 2 && t.rd .PSW_PASS_PENDING == 1 && !t.passFlag && raisedB s t 196) = true) ∧
    nx (exec (.joinEnChange true) (passing [])) (fun t => t.bit .PSW_STAT_JOINEN && onlyB (passing []) t [.PSW_STAT_JOINEN] []) = true ∧
    (let s := passing [(.PSW_PASS_PENDING, 0, 0, 1)]
     nx (exec .joinProceed s) (fun t => t.rd .PSW_PASS_STATE == 1 && t.rd .PSW_PASS_PENDING == 0 && t.passFlag && t.passCount == 1 && raisedB s t 195) = true ∧
     nx (exec (.joinProceed .boundary) s) (fun t => t == s.setTap .boundary) = true) ∧
    nx (exec .joinProceed (passing [])) (fun t => t == passing []) = true ∧
    (let s := passing [(.PSW_PASS_PENDING, 0, 0, 1), (.PSW_PASS_FAULT, 0, 0, 1)]
     nx (exec .joinProceed s) (fun t => t == s) = true) ∧
    (let s := { passing [] with psw := { holdoff := true } }
     nx (exec .holdoffExpire s) (fun t => !t.psw.holdoff && onlyB s t [] [.psw]) = true) := by decide +kernel
theorem witness_PassPosition : [(1, 0, 2, 0), (3, 0, 0, 0), (1, 8, 3, 1), (3, 8, 0, 1), (0, 8, 0, 0), (2, 8, 2, 0)].all (fun (e : Nat × Nat × Nat × Nat) =>
    let s := passing [(.PSW_PASS_STATE, 0, 0, e.1)]
    nx (exec (.passPositionCheck (BitVec.ofNat 32 e.2.1)) s) (fun t => t.rd .PSW_PASS_STATE == e.2.2.1 && t.rd .PSW_PASS_FAULT == e.2.2.2 && raisedB s t 213 == (e.2.2.2 == 1) &&
      (e.1 != 1 || e.2.1 == 0 || t.passCause == 4 && !t.passFlag) &&
      (List.range 32).all (fun k => t.lanePath k == if e.2.2.1 == 3 then .nothing else if e.1 == 1 || e.1 == 3 && e.2.1.testBit k then .own else .through))) = true := by
  decide +kernel

/-- The pass is open and no link is up. -/
def opened : State := { passing [(.PSW_PASS_STATE, 0, 0, 2)] with psw := { swOpen := allOpen } }
theorem witness_LinkUp : let s := put opened [(.PSW_STAT_DEPTHOK, 0, 0, 1)]
    s.passOpen = true ∧ nx (exec (.linkUp .usp 1 16 0 false) s) (fun t => t.rd .PSW_STAT_USUP == 1 && t.rd .PSW_STAT_DEPTHOK == 0 && t.rd .PSW_USLNK_SPEED == 1 &&
      t.rd .PSW_USLNK_WIDTH == 16 && !raisedB s t 188 && t.out.length == 1 && t.psw == s.psw) = true ∧
    nx (exec (.linkUp .usp 7 16 0) (put s [(.PSW_STAT_USUP, 0, 0, 1)])) (fun t => t.rd .PSW_STAT_DEPTHOK == 1 && t.rd .PSW_USLNK_SPEED == 7 && t.psw.usFinal &&
      raisedB s t 188 && raisedB s t 218 && t.out == [.ready] && t.mem == s.mem && keepsB s t [.ev, .out, .free, .psw]) = true ∧
    nx (exec (.linkUp .usp 7 16 4 false 6) s) (fun t => t.rd .PSW_USLNK_WIDTH == 8 && t.rd .PSW_USLNK_MARKED == 4 && raisedB s t 194) = true ∧
    nx (exec (.linkUp .edp 1 1 0x8000) s) (fun t => t.rd .PSW_STAT_DSUP == 1 && t.rd .PSW_DSLNK_SPEED == 1 && raisedB s t 190 && raisedB s t 193 && raisedB s t 194 &&
      t.psw.dsFinal && t.psw.edp.presence && t.psw.edp.linkChange) = true ∧
    [{ s with psw := { s.psw with perst := true } }, passing [], { s with rst := { step := 9 } }, { s with psw := { s.psw with usFinal := true } }].all (fun s =>
      nx (exec (.linkUp .usp 7 16 0) s) (fun t => t == s)) = true ∧
    [{ s.psw with edpDisabled := true }, { s.psw with edp := { contained := true } }, { s.psw with dsFinal := true }].all (fun q =>
      nx (exec (.linkUp .edp 1 1 0x8000) { s with psw := q }) (fun t => t == { s with psw := q })) = true ∧
    widthWithout 0 = 16 ∧ (List.range 16).all (fun l => widthWithout (2 ^ l) == 8) = true := by decide +kernel
theorem witness_LinkDown : let s := put chained [(.PSW_CHAIN_BELOW, 0, 0, 5)]
    nx (exec (.linkDown .edp 0 0) s) (fun t => t.rd .PSW_STAT_DSUP == 0 && t.rd .PSW_CHAIN_BELOW == 0 && raisedB s t 191 && raisedB s t 217 &&
      t.psw == { s.psw with dsFinal := false, edp := { s.psw.edp with presence := true, linkChange := true } } &&
      onlyB s t [.PSW_STAT_DSUP, .PSW_DSLNK_SPEED, .PSW_DSLNK_WIDTH, .PSW_CHAIN_BELOW] [.ev, .out, .psw]) = true ∧
    nx (exec (.linkDown .edp 0 0) twoUp) (fun t => t == twoUp) = true := by decide +kernel
/-- A chain message: kind in bits 7:0, value in bits 15:8, signature in bits 31:16. -/
def chainHdr (kind value : Nat) : W32 := BitVec.ofNat 32 (kind + 256 * value + 65536 * 0x4E44)
def chainTo (p : Port) (kind value : Nat) : Out := .chain p 4 0x7F 0x1AF4 (chainHdr kind value).toNat
theorem witness_Depth : nx (exec (.depth (chainHdr 1 14) 0x1AF4) chained) (fun t => t.rd .PSW_CHAIN_DEPTH == 15 && t.rd .PSW_STAT_DEPTHOK == 1 && raisedB chained t 199 &&
      onlyB chained t [.PSW_CHAIN_DEPTH, .PSW_STAT_DEPTHOK] [.ev, .out]) = true ∧
    [15, 255].all (fun d => nx (exec (.depth (chainHdr 1 d) 0x1AF4) chained) (fun t => t.rd .PSW_CHAIN_DEPTH == 16 && t.rd .PSW_STAT_TOODEEP == 1 && raisedB chained t 201 &&
      t.rd .PSW_PASS_STATE == 3 && t.passCause == 3)) = true ∧
    [Instr.depth (chainHdr 1 3) 0x1AF5, .below (chainHdr 2 3) 0x1AF5, .depth 0x00000301 0x1AF4].all (fun c => nx (exec c chained) (fun t => t == chained)) = true ∧
    [Instr.depth (chainHdr 2 3) 0x1AF4, .below (chainHdr 1 3) 0x1AF4].all (fun c => nx (exec c chained) (fun t => t == chained)) = true ∧
    (let s := put chained [(.PSW_STAT_USUP, 0, 0, 0), (.PSW_STAT_DSUP, 0, 0, 0)]
     [Instr.depth (chainHdr 1 3) 0x1AF4, .below (chainHdr 2 3) 0x1AF4, .depthTimeout].all (fun c => nx (exec c s) (fun t => t == s))) = true ∧
    nx (exec .depthTimeout chained) (fun t => t.rd .PSW_CHAIN_DEPTH == 0 && t.rd .PSW_STAT_DEPTHOK == 1 && raisedB chained t 199 &&
      onlyB chained t [.PSW_CHAIN_DEPTH, .PSW_STAT_DEPTHOK] [.ev, .out]) = true := by decide +kernel
theorem witness_Below : nx (exec (.below (chainHdr 2 31) 0x1AF4) chained) (fun t => t.rd .PSW_CHAIN_BELOW == 31 && raisedB chained t 200 && t.out == [chainTo .usp 2 32] &&
      onlyB chained t [.PSW_CHAIN_BELOW] [.ev, .out]) = true ∧
    nx (exec (.below (chainHdr 2 0) 0x1AF4) chained) (fun t => t == chained) = true ∧
    (let s := put chained [(.PSW_STAT_DEPTHOK, 0, 0, 1), (.PSW_CHAIN_DEPTH, 0, 0, 4), (.PSW_CHAIN_BELOW, 0, 0, 2)]
     nx (exec .chainMessagePeriod s) (fun t => t.out == [chainTo .edp 1 4, chainTo .usp 2 3] && onlyB s t [] [.out]) = true) ∧
    nx (exec .chainMessagePeriod (up 10)) (fun t => t == up 10) = true := by decide +kernel
/-- TLPs of the host, of a drive below (requester 0x500) and of the endpoint. -/
def tlpOf (rx : Ingress) (k : TlpKind) (addr : Word) (dst : W16 := 0) : Tlp := { rx := rx, kind := k, req := if rx == .edp then 0x500 else 0, addr := addr, dst := dst, len := 64 }
/-- The endpoint's window is 1 MiB at 0x1000_0000, that of the chain below 1 MiB at 0x2000_0000. -/
def windowed : State := { chained with psw := { chained.psw with idp := { chained.psw.idp with command := 2, mem := 0x10001000 }, edp := { chained.psw.edp with command := 2, mem := 0x20002000 } } }
/-- The command sends exactly one message and raises event 212 where it says so. -/
def tells (s : State) (x : Tlp) (o : List Out) (unsup : Bool) (credit : Bool := true) : Bool :=
  nx (exec (.tlpForward x credit) s) (fun t => t.out == o && raisedB s t 212 == unsup && onlyB s t [] [.out, .ev])
theorem witness_TlpFromHost : let m (k : TlpKind) (a : Word) := tlpOf .usp k a
    [TlpKind.memRead, .memWrite].all (fun k => tells windowed (m k 0x20000000) [.tlp .edp (m k 0x20000000)] false && tells windowed (m k 0x200FFFFF) [.tlp .edp (m k 0x200FFFFF)] false &&
      tells windowed (m k 0x10000000) [.toEndpoint (m k 0x10000000)] false &&
      [0x0FFFFFFF, 0x10100000, 0x20100000].all (fun a => tells windowed (m k a) (if k == .memRead then [.unsupported .usp (m k a)] else []) true)) = true ∧
    tells windowed (m .message 0) [.tlp .edp (m .message 0)] false = true ∧ tells windowed (tlpOf .usp .completion 0 0x501) [.tlp .edp (tlpOf .usp .completion 0 0x501)] false = true ∧
    (let s := put windowed [(.PSW_STAT_DSUP, 0, 0, 0)]
     tells s (m .memRead 0x20000000) [.unsupported .usp (m .memRead 0x20000000)] true = true ∧ tells s (m .memWrite 0x20000000) [] true = true) ∧
    (let s := { windowed with psw := { windowed.psw with idpDisabled := true } }
     tells s (m .memRead 0x10000000) [.unsupported .usp (m .memRead 0x10000000)] true = true) ∧
    [(0x10000000, []), (0x20000000, [Out.nop .edp])].all (fun (e : Word × List Out) => tells windowed { m .memWrite e.1 with sound := false } e.2 false) = true ∧
    [m .memRead 0, tlpOf .edp .memRead 0].all (fun x => nx (exec (.tlpForward x) twoUp) (fun t => t == twoUp)) = true := by decide +kernel
theorem witness_ConfigRequest : let c (r : CfgReg) (d : Nat) : Tlp := tlpOf .usp (.cfgRead r) 0 (BitVec.ofNat 16 d)
    let w (r : CfgReg) (v : W32) (d : Nat) : Tlp := tlpOf .usp (.cfgWrite r v) 0 (BitVec.ofNat 16 d)
    (chained.funcRid 0 = 0x300 ∧ chained.funcRid 255 = 0x3FF ∧ chained.funcRid 256 = 0x400 ∧ chained.hasFunc 256 = true) ∧
    [(0x100, 0x060200), (0x200, 0x040302), (0x208, 0x060502)].all (fun (e : Nat × Nat) => tells chained (c .busNumbers e.1) [.configured (c .busNumbers e.1) e.2] false) = true ∧
    [0x500, 0x6FF].all (fun d => tells chained (c .command d) [.tlp .edp (c .command d)] false) = true ∧
    [0x300, 0x3FF, 0x400, 0x4FF].all (fun d => tells chained (c .command d) [.toEndpoint (c .command d)] false) = true ∧
    [0x101, 0x201, 0x207, 0x701, 0x708].all (fun d => tells chained (c .command d) [.unsupported .usp (c .command d)] true) = true ∧
    (let s := { chained with psw := { chained.psw with idp := { chained.psw.idp with sub := 3 } } }
     s.way (c .command 0x400) = .beyond ∧ tells s (c .command 0x400) [.unsupported .usp (c .command 0x400)] false = true) ∧
    nx (exec (.tlpForward (w .busNumbers 0x00090807 0x208)) chained) (fun t => t.out == [.configured (w .busNumbers 0x00090807 0x208) 0] && raisedB chained t 214 &&
      t.psw == { chained.psw with edp := { pri := 7, sec := 8, sub := 9 } }) = true ∧
    nx (exec (.tlpForward (w .acsControl 0xFF 0x208)) chained) (fun t => t.psw == { chained.psw with edp := { chained.psw.edp with acs := 0x1D } } && onlyB chained t [] [.psw, .out]) = true ∧
    nx (exec (.tlpForward (w .memWindow 5 0x100)) chained) (fun t => t.psw == { chained.psw with usp := { chained.psw.usp with mem := 5 } } && onlyB chained t [] [.psw, .out]) = true ∧
    tells chained (c .linkStatus 0x200) [.configured (c .linkStatus 0x200) (7 + 16 * 16 + 0x2000)] false = true := by decide +kernel
/-- A state whose EDP has the given ACS control. -/
def acs (n : Nat) : State := { windowed with psw := { windowed.psw with edp := { windowed.psw.edp with acs := n } } }
theorem witness_TlpFromBelow : let m (k : TlpKind) (a : Word) (d : W16 := 0) := tlpOf .edp k a d
    ([0x4FF, 0x700].all (fun r => tells (acs 1) { m .memRead 0x10000000 with req := r } [.unsupported .edp { m .memRead 0x10000000 with req := r }] true &&
       tells (acs 1) { m .memWrite 0x10000000 with req := r } [] true) = true) ∧
    [0x500, 0x6FF].all (fun r => tells (acs 1) { m .memRead 0x10000000 with req := r } [.toEndpoint { m .memRead 0x10000000 with req := r }] false) = true ∧
    [(acs 0, Out.toEndpoint (m .memRead 0x10000000)), (acs 4, .tlp .usp (m .memRead 0x10000000))].all (fun (e : State × Out) =>
      nx (exec (.tlpForward (m .memRead 0x10000000)) e.1) (fun t => t.out == [e.2])) = true ∧
    [(acs 0, Out.toEndpoint (m .completion 0 0x301)), (acs 8, .tlp .usp (m .completion 0 0x301))].all (fun (e : State × Out) =>
      nx (exec (.tlpForward (m .completion 0 0x301)) e.1) (fun t => t.out == [e.2])) = true ∧
    tells windowed (m .message 0) [.tlp .usp (m .message 0)] false = true ∧ tells windowed (m .memRead 0x30000000) [.tlp .usp (m .memRead 0x30000000)] false = true ∧
    tells windowed (m (.cfgRead .command) 0) [.unsupported .edp (m (.cfgRead .command) 0)] true = true ∧
    (let s := put windowed [(.PSW_STAT_USUP, 0, 0, 0)]
     tells s (m .memRead 0x30000000) [.unsupported .edp (m .memRead 0x30000000)] true = true) := by decide +kernel
def fwd (n : Nat) : Tlp := { tlpOf .edp .memWrite (BitVec.ofNat 64 (0x30000000 + n)) with len := 512 }
def own (n : Nat) : Tlp := { tlpOf .endpoint .memWrite (BitVec.ofNat 64 n) with len := 512 }
theorem witness_Egress : nx (exec (.tlpForward (fwd 1) false) chained) (fun t => t.psw == { chained.psw with upFwd := [fwd 1] } && onlyB chained t [] [.psw]) = true ∧
    nx (exec (.tlpForward (own 1) false) chained) (fun t => t.psw == { chained.psw with upOwn := [own 1] } && onlyB chained t [] [.psw]) = true ∧
    (let x := tlpOf .usp .message 0
     let s := { chained with psw := { chained.psw with down := [x] } }
     nx (exec (.tlpForward x false) s) (fun t => t.psw == { chained.psw with down := [x, x] } && t.out == []) = true ∧
     nx (exec (.tlpForward x) s) (fun t => t.psw == chained.psw && t.out == [.tlp .edp x, .tlp .edp x]) = true) ∧
    (let s := { chained with psw := { chained.psw with upFwd := [fwd 1] } }
     nx (exec (.tlpForward (fwd 2)) s) (fun t => t.out == [.tlp .usp (fwd 1), .tlp .usp (fwd 2)] && t.psw == chained.psw) = true) ∧
    (let s := put { chained with psw := { chained.psw with upFwd := [fwd 1, fwd 2, fwd 3], upOwn := [own 1, own 2] } } [(.PSW_CFG_ARBAUTO, 0, 0, 0), (.PSW_ARB_OWNW, 0, 0, 1), (.PSW_ARB_FWDW, 0, 0, 2)]
     (s.arbitrateAll 3).out = [.tlp .usp (own 1), .tlp .usp (fwd 1), .tlp .usp (fwd 2)] ∧ (s.arbitrateAll 4).out.getLast? = some (.tlp .usp (own 2))) := by decide +kernel
/-- The smaller buffer with room for fewer than 544 more bytes. -/
def heaped : State := { chained with psw := { chained.psw with down := [{ tlpOf .usp .message 0 with len := 131072 - 32 - 500 }] } }
theorem witness_BufferFull : nx (exec (.forwardBufferFull false 5) heaped) (fun t => raisedB heaped t 210 && onlyB heaped t [] [.ev]) = true ∧
    nx (exec (.forwardBufferFull true 5) heaped) (fun t => t == heaped) = true ∧
    nx (exec (.tlpForward { tlpOf .usp .message 0 with len := 500 }) heaped) (fun t => t == heaped) = true ∧
    [Instr.forwardBufferFull true 5, .idpBusNumberWrite 1 2 3].all (fun c => nx (exec c (up 9)) (fun t => t == up 9)) = true ∧
    nx (exec (.idpBusNumberWrite 1 2 3) chained) (fun t => t.psw == { chained.psw with idp := { pri := 1, sec := 2, sub := 3 } } && raisedB chained t 214 && !raisedB chained t 212) = true ∧
    nx (exec (.idpBusNumberWrite 1 2 2) chained) (fun t => raisedB chained t 214 && raisedB chained t 212) = true := by decide +kernel

/-! ### The fixed-ratio coder and the cores -/

/-- What has been sent is l, after frames on the fabric. -/
def busB (t : State) (l : List Out) : Bool := t.out.filter (fun o => !o.onBus) == l && t.out.drop (t.out.length - l.length) == l
def lane (l : List (Reg × Nat × Nat × Nat)) (k : Nat) (inp : List (List Byte × Bool)) : State :=
  (put (up 5) ([(.FRC_LBUD_NBLK, k, 0, 1), (.FRC_LBUD_BUDGET, k, 0, 1), (.FRC_LOUT_ADDR, k, 0, sramLo)] ++ l)).setLane k { input := inp }
theorem witness_FrcLaneGo : [(0, 0), (7, 2)].all (fun (e : Fin 8 × Nat) => let s := lane [(.FRC_LSTAT_STATE, e.1, 0, e.2)] e.1 [([], false)]
      nx (exec (.frcLaneGo e.1) s) (fun t => t.rd .FRC_LSTAT_STATE e.1 == 1 && (t.lane e.1).input == [] && t.mem == s.mem && keepsB s t [.frc, .dma])) = true ∧
    nx (exec (.frcLaneGo 7) (lane [(.FRC_LCTL_CLASS, 7, 0, 3)] 7 [])) (fun t => t.rd .FRC_LSTAT_STATE 7 == 3) = true ∧
    nx (exec (.frcLaneGo 7) (lane [(.FRC_LBUD_NBLK, 7, 0, 0)] 7 [])) (fun t => t.rd .FRC_LSTAT_STATE 7 == 3) = true ∧
    [1, 3].all (fun n => let s := lane [(.FRC_LSTAT_STATE, 7, 0, n)] 7 []
      nx (exec (.frcLaneGo 7) s) (fun t => t == s)) = true ∧
    (let s := lane [(.FRC_CTL_EN, 0, 0, 1), (.FRC_LBUD_NBLK, 7, 0, 3)] 7 []
     nx (exec (.frcLaneGo 7) s) (fun t => NTab.get 0 55 t.dma.raised == 2) = true) ∧
    [up 4, { up 5 with rst := { (up 5).rst with soft := some selFrc } }].all (fun s => ([.frcLaneGo 7, .keyGenerate 1, .keyLoad 1, .keyDestroy 1, .keyCommandEnd] : List Instr).all (fun c =>
      nx (exec c s) (fun t => t == s))) = true ∧
    [lane [] 7 [([], false)], lane [(.FRC_LSTAT_STATE, 7, 0, 1)] 7 []].all (fun s => nx (exec (.frcJobEnd 7) s) (fun t => t == s)) = true := by decide +kernel
def encoding : State := lane [(.FRC_LSTAT_STATE, 7, 0, 1), (.FRC_LLBA_LBA, 7, 0, 0x0102), (.FRC_LCTL_NSIDX, 7, 0, 9), (.FRC_LID_BANDSEQ, 7, 0, 0x0304)] 7
  [(1 :: zeros 4095, false)]
theorem witness_FrcEncode : engineReach sramLo 4128 = true ∧ nx (exec (.frcJobEnd 7) encoding) (fun t => NSet.has 481 t.ev.edge && t.rd .FRC_LSTAT_STATE 7 == 2 &&
      t.rd .FRC_LSTAT_POS 7 == 1 && t.mbs sramLo 2 == [1, 0] && t.mbs (sramLo + 4096) 12 == [2, 1, 0, 0, 0, 0, 0, 0, 9, 0, 4, 3] && busB t []) = true := by decide +kernel
/-- A decode job of class 0 with one frame. -/
def decoding (lba : Byte) : State := lane [(.FRC_LSTAT_STATE, 0, 0, 1), (.FRC_LCTL_OP, 0, 0, 1), (.FRC_LLBA_LBA, 0, 0, 2)] 0 [((zeros 4096) ++ (lba :: zeros 31), false)]
/-- A frame that comes poisoned, and one of class 1 whose slot holds no payload that inflates. -/
def spoiled (cls : Nat) : State := lane [(.FRC_LSTAT_STATE, 0, 0, 1), (.FRC_LCTL_OP, 0, 0, 1), (.FRC_LCTL_CLASS, 0, 0, cls), (.FRC_LLBA_LBA, 0, 0, 2)] 0
  [((1 :: zeros 4095) ++ (2 :: zeros 31), cls == 0)]
theorem witness_FrcVerr : [(0, 3, 0), (1, 0, 1)].all (fun (e : Nat × Nat × Nat) => ((spoiled e.1).laneDecode 0).1.map (fun b => match b with | .inl _ => 9 | .inr c => c) == [e.2.1] &&
    nx (exec (.frcJobEnd 0) (spoiled e.1)) (fun t => t.rd .FRC_LSTAT_VERR 0 == e.2.2 && t.poisoned sramLo 4096)) = true := by decide +kernel
theorem witness_FrcDecode : ((decoding 2).laneDecode 0).2 = false ∧ ((decoding 2).laneDecode 0).1.map (fun b => match b with | .inl x => (x.length, 0) | .inr c => (0, c)) = [(4096, 0)] ∧
    nx (exec (.frcJobEnd 0) (decoding 2)) (fun t => NSet.has 474 t.ev.edge && t.rd .FRC_LSTAT_STATE 0 == 2 && !t.poisoned sramLo 4096) = true := by decide +kernel
theorem witness_Keys : let s := up 5
    [(Instr.keyGenerate 255, 1), (.keyLoad 255, 2), (.keyDestroy 255, 3)].all (fun x => nx (exec x.1 s) (fun t => t.rd .FRC_KSTAT_BUSY == 1 &&
      t.frc == { s.frc with kjob := some (x.2, 255) } && onlyB s t [.FRC_KSTAT_BUSY] [.frc]) &&
      nx (exec x.1 (put s [(.FRC_KSTAT_BUSY, 0, 0, 1)])) (fun t => t == put s [(.FRC_KSTAT_BUSY, 0, 0, 1)])) = true := by decide +kernel
def keyJob (op : Nat) (l : List (Reg × Nat × Nat × Nat)) : State := let s := put (up 5) ((.FRC_KSTAT_BUSY, 0, 0, 1) :: (.FRC_KADDR_ADDR, 0, 0, sramLo) :: l)
  { s with frc := { keys := [(9, [1])], kjob := some (op, 9) } }
theorem witness_KeyCommandEnd : (let s := keyJob 3 [(.FRC_LSTAT_STATE, 7, 0, 1), (.FRC_LCTL_NSIDX, 7, 0, 9), (.FRC_LCTL_ENC, 7, 0, 1)]
     s.keyBusy 9 = true ∧ nx (exec .keyCommandEnd s) (fun t => t.rd .FRC_KSTAT_RESULT == 2 && t.key 9 == [1] && t.rd .FRC_KSTAT_BUSY == 0) = true) ∧
    (keyJob 3 []).keyBusy 9 = false ∧ nx (exec .keyCommandEnd (keyJob 3 [])) (fun t => t.rd .FRC_KSTAT_RESULT == 0 && t.key 9 == [] && NSet.has 482 t.ev.edge && busB t []) = true ∧
    nx (exec .keyCommandEnd (up 5)) (fun t => t == up 5) = true ∧
    [1, 2].all (fun op => engineReach 4 72 == false && nx (exec .keyCommandEnd (keyJob op [(.FRC_KADDR_ADDR, 0, 0, 4)])) (fun t => t.frc.keys == [(9, [1])] && !raisedB (keyJob op []) t 246) &&
      nx (exec .keyCommandEnd (keyJob op [(.FRC_KADDR_ADDR, 0, 0, bufHi - 8)])) (fun t => t.frc.keys == [(9, [1])] && raisedB (keyJob op []) t 246)) = true ∧
    (engineReach sramLo 72 = true ∧ [1, 2].all (fun op => (keyJob op []).keyBusy 9 == false && (keyJob op []).frc.kjob == some (op, 9)) = true) := by
  decide +kernel

/-! ### Harts -/

def harts (l : List (Reg × Nat × Nat × Nat)) : State :=
  put { up 10 with l2 := { awake := [(0, true), (7, true)] } } l
def hartDoes (c : Hart) (k : Access) (a n : Nat) (v : Word) : Instr := .hartMemoryAccess c k a n v 0x80 .none .clean
/-- A buffer line that nothing has cached, and a hart that is not running. -/
def hartMeets (e : Ecc) (k : Access) (a n : Nat) (v : Word) : Instr := .hartMemoryAccess 7 k a n v 0x80 .none e
/-- The hart has taken an exception, as State.Trapped says, and nothing else but parts has changed. -/
def trapB (s t : State) (c : Hart) (cause tval pc : Nat) (ps : List Part) : Bool :=
  t.out.getLast? == some (.hartFault c cause tval) && busB t [.hartFault c cause tval] && t.csr c csrMcause == cause && t.csr c csrMtval == tval && t.csr c csrMepc == pc &&
    !(t.hart c).user && bitsN (t.csr c csrMstatus) 11 2 == (if (s.hart c).user then 0 else 3) && !(t.csr c csrMstatus).testBit 3 && t.l2.lines == s.l2.lines && onlyB s t [] (.l2 :: .out :: ps)
theorem witness_HartDenied : (harts []).hartUp 7 = true ∧ [(Access.store, 0x1FFFC, 4), (.store, 0x0100FF00, 4), (.amo, mramLo, 4), (.lr, 0x10000000, 4), (.fetch, mramLo, 4), (.load, 0x20000, 4)].all
      (fun e => tableAllows e.1 e.2.1 e.2.2 == false && decide (regionOf e.2.1 e.2.2 ≠ .outside) && nx (exec (hartDoes 7 e.1 e.2.1 e.2.2 0) (harts [])) (fun t =>
        trapB (harts []) t 7 (accessFault e.1) e.2.1 0x80 [.ev] && t.out.length == 1 && raisedB (harts []) t 281)) = true ∧
    nx (exec (hartDoes 7 .load bufHi 4 0) (harts [])) (fun t => trapB (harts []) t 7 5 bufHi 0x80 [.ev] && raisedB (harts []) t 281 && raisedB (harts []) t 246) = true := by decide +kernel
theorem witness_HartRegister : widthOk 0x10040004 8 = false ∧ nx (exec (hartDoes 7 .load 0x10040004 8 0) (harts [])) (fun t => trapB (harts []) t 7 5 0x10040004 0x80 [.ev] &&
      raisedB (harts []) t 286) = true ∧
    nx (exec (hartDoes 0 .load 0x10040004 4 0) (harts [(.L2_STAT_INVREF, 0, 0, 1)])) (fun t => busB t [.loaded 0 0x21] && onlyB (harts [(.L2_STAT_INVREF, 0, 0, 1)]) t [] [.out, .free]) = true := by decide +kernel
theorem witness_HartMram : nx (exec (hartDoes 7 .load 0x0100C4FF 2 0) (harts [])) (fun t => trapB (harts []) t 7 4 0x0100C4FF 0x80 []) = true ∧
    nx (exec (hartDoes 7 .load 0x0100C500 2 0) (harts [])) (fun t => busB t [.loaded 7 1] && onlyB (harts []) t [] [.out, .free]) = true ∧
    nx (exec (hartDoes 7 .store 0x0100FEFC 4 0x01020304) (harts [])) (fun t => t.mbs 0x0100FEFC 4 == [4, 3, 2, 1] && memButB (harts []) t 0x0100FEFC 4 && regsB (harts []) t [] &&
      keepsB (harts []) t [.out, .free] && busB t []) = true ∧ nx (exec (hartDoes 1 .load mramLo 4 0) (harts [])) (fun t => t == harts []) = true := by decide +kernel
theorem witness_Unassigned : [(Access.load, 0x10060000, 4), (.store, 0x11FFFFFF, 8), (.fetch, 0x10060000, 2), (.amo, 0x10060004, 1)].all (fun e => (blkAt e.2.1).isNone &&
    nx (exec (hartDoes 7 e.1 e.2.1 e.2.2 0) (harts [])) (fun t => trapB (harts []) t 7 (accessFault e.1) e.2.1 0x80 [.ev] && raisedB (harts []) t 281)) = true := by
  decide +kernel

/-- A hart in user mode with control and status registers. -/
def userHart (csrs : List (Nat × Nat)) (s : State) : State := s.setHart 7 { user := true, csrs := csrs }
/-- Entry 0 lets all modes read the first 2^57 bytes, by a range from 0. -/
def pmpRead : List (Nat × Nat) := [(0x3A0, 0x1F), (0x3B0, 2 ^ 54 - 1)]
theorem witness_Pmp : (harts []).pmpAllows 7 false 1 sramLo 4 = true ∧ (userHart [] (harts [])).pmpAllows 7 true 1 sramLo 4 = false ∧
    nx (exec (hartDoes 7 .load mramLo 4 0) (userHart [] (harts []))) (fun t => trapB (userHart [] (harts [])) t 7 5 mramLo 0x80 []) = true ∧
    nx (exec (hartDoes 7 .load 0x0100C500 2 0) (userHart pmpRead (harts []))) (fun t => busB t [.loaded 7 1]) = true ∧
    [(0x98, 1), (0x9A, 2)].all (fun (e : Nat × Nat) => let s := (harts []).setHart 7 { csrs := [(0x3A0, e.1), (0x3B0, 2 ^ 54 - 1)] }
      nx (exec (hartDoes 7 .store mramLo 4 9) s) (fun t => if e.2 == 2 then t.mbs mramLo 4 == [9, 0, 0, 0] else trapB s t 7 7 mramLo 0x80 [])) = true := by decide +kernel
theorem witness_HartOps : let m := harts [(.EVC_MTIME_MTIME, 0, 0, 77)]
    nx (exec (.hartMemoryAccess 7 .load 0x0100C500 2 0 0x80 .none .clean [.csrRead 0xC01, .csrRead 0xF14, .csrWrite 0x30A 0x50, .csrWrite 0x3B3 5]) m) (fun t =>
      t.out.filter (fun o => !o.onBus) == [.loaded 7 77, .loaded 7 7, .loaded 7 1] && t.csr 7 csrMenvcfg == 0x50 && t.csr 7 0x3B3 == 5) = true ∧
    ((m.hartOps 7 [.mret]).hart 7).user = true ∧ ((m.hartOps 7 [.csrWrite 0x300 0x1800, .mret]).hart 7).user = false ∧
    ((m.setHart 7 { icache := [(5, [1])] }).hartOps 7 [.fenceI]).hart 7 = {} ∧
    ((userHart [(csrMcounteren, 2)] m).hartOps 7 [.csrRead 0xC01]).out = [.loaded 7 77] ∧
    nx (exec (.hartMemoryAccess 1 .load mramLo 4 0 0 .none .clean [.fenceI]) m) (fun t => t == m) = true := by decide +kernel
/-- Where a hart has taken an illegal instruction; its mepc and mtval are free. -/
def illegalB (t : State) (c : Hart) : Bool := match t.out with | [.hartFault d 2 _] => d == c | _ => false
theorem witness_HartIllegal : illegalB ((harts []).hartOps 7 [.foreign 0]) 7 = true ∧
    [HartOp.mret, .csrWrite 0x30A 0x50, .csrRead 0xC01].all (fun o => illegalB ((userHart [] (harts [])).hartOps 7 [o]) 7) = true := by decide +kernel

def cacheOn : State := harts [(.L2_STAT_ENABLED, 0, 0, 1), (.L2_CTL_EN, 0, 0, 1)]
theorem witness_HartCached : (let s := { cacheOn with poison := [(sramLo / 64, true)] }
     s.meets 7 .load sramLo 4 = true ∧ nx (exec (hartDoes 7 .load sramLo 4 0) s) (fun t => trapB s t 7 5 sramLo 0x80 [.ev] && raisedB s t 280) = true ∧
     nx (exec (hartDoes 7 .store sramLo 4 1) s) (fun t => t.mbs sramLo 4 == [1, 0, 0, 0] && NSet.has (sramLo / 64) t.poison) = true) ∧
    nx (exec (hartDoes 7 .load (sramLo + 62) 4 0) (cacheOn.mwr 4 (sramLo + 62) 0x01020304)) (fun t => busB t [.loaded 7 0x01020304] && t.l2.lines.length == 2 && t.rd .L2_MISSCNT_COUNT == 2 &&
      (t.hart 7).dcache.length == 2) = true ∧
    nx (exec (hartDoes 7 .store (sramLo + 60) 4 0x01020304) cacheOn) (fun t => t.peeks (sramLo + 60) 4 == [4, 3, 2, 1] && t.mem == cacheOn.mem && t.l2.lines.map (·.dirty) == [true]) = true ∧
    nx (exec (hartDoes 7 .store (sramLo + 60) 4 0x01020304) (harts [(.L2_STAT_ENABLED, 0, 0, 0)])) (fun t => t.mbs (sramLo + 60) 4 == [4, 3, 2, 1] && t.l2.lines == []) = true := by decide +kernel

/-- A check that fails in the buffer's line marks it; LR, SC and AMO move their reservation. -/
theorem witness_HartEcc : (let s := cacheOn
     inBuf bufLo 4 = true ∧ (s.memoryRead bufLo 4 .multi).meetsPoison bufLo 4 = true ∧ raisedB s (s.memoryRead bufLo 4 .multi) 245 = true ∧
     nx (exec (hartMeets .multi .load bufLo 4 0) s) (fun t => busB t [.hartFault 7 5 bufLo] && raisedB s t 245 && raisedB s t 280 && NSet.has (bufLo / 64) t.poison) = true) ∧
    (let s := cacheOn.mwr 4 sramLo 5
     nx (exec (hartDoes 7 .lr sramLo 4 0) s) (fun t => busB t [.loaded 7 5] && NTab.get 0 7 t.l2.resv == resvLine sramLo) = true ∧
     nx (exec (hartDoes 7 .amo sramLo 4 9) s) (fun t => busB t [.loaded 7 5] && t.peeks sramLo 4 == [9, 0, 0, 0]) = true ∧
     nx (exec (hartDoes 7 .fetch sramLo 4 0) s) (fun t => busB t [.fetched 7 [5, 0, 0, 0]] && (NTab.get [] (sramLo / 64) (t.hart 7).icache).length == 64) = true ∧
     nx (exec (hartDoes 7 .sc sramLo 4 9) s) (fun t => busB t [.loaded 7 1] && t.mem == s.mem) = true ∧
     (let s := { s with l2 := { s.l2 with resv := [(7, resvLine sramLo)] } }
      nx (exec (hartDoes 7 .sc sramLo 4 9) s) (fun t => busB t [.loaded 7 0] && NTab.get 0 7 t.l2.resv == 0 && t.peeks sramLo 4 == [9, 0, 0, 0]) = true)) := by decide +kernel
/-- A hart's instruction cache is not reached by what is written since (R354). -/
theorem witness_StaleFetch : let s := (cacheOn.mwr 4 sramLo 5).setHart 7 { icache := [(sramLo / 64, 1 :: zeros 63)] }
    nx (exec (hartDoes 7 .fetch sramLo 2 0) s) (fun t => busB t [.fetched 7 [1, 0]]) = true ∧
    nx (exec (.hartMemoryAccess 7 .fetch sramLo 2 0 0x80 .none .clean [.fenceI]) s) (fun t => busB t [.fetched 7 [5, 0]]) = true := by decide +kernel

/-! ### Registers by a hart (R425) -/

/-- Two states that differ in the fabric's frames at most: what those carry in part is free. -/
def alikeB (s t : State) : Bool := regsB s t [] && t.mem == s.mem && keepsB s t [.out]
theorem witness_HartStores : let s := harts [(.EVC_CLAIM_SRC, 0, 0, 0)]
    nx (exec (hartDoes 7 .store (Blk.EVC.base + 0x820 + 0x40 * 3) 4 200) s) (fun t => nx (exec (.evcRaiseWrite 3 200) (s.firmwareTag false)) (fun u => alikeB u t)) = true ∧
    nx (exec (hartDoes 7 .store (Blk.HLINK.base) 4 0x20) s) (fun t => nx (exec (.hlCmdWrite 0 0x20) (s.firmwareTag false)) (fun u => alikeB u t)) = true ∧
    nx (exec (hartDoes 7 .store (Blk.EVC.base + 0x4000) 4 0) s) (fun t => nx (exec (.registerWrite (Blk.EVC.base + 0x4000) false 0) (s.firmwareTag false)) (fun u => alikeB u t)) = true ∧
    (let s := { s with rst := { s.rst with soft := some selFrc } }
     s.softBusy Blk.FRC.base = true ∧ nx (exec (hartDoes 7 .store Blk.FRC.base 4 1) s) (fun t => alikeB (s.firmwareTag false) t) = true ∧
     nx (exec (hartDoes 7 .load Blk.FRC.base 4 1) s) (fun t => busB t [.loaded 7 0]) = true) := by decide +kernel
theorem witness_HartPops : let s := { harts [] with ev := { (harts []).ev with edge := NSet.add 200 [] } }
    let s := put s [(.EVC_PRIO_PRIO, 200, 0, 3), (.EVC_IE_IE, 7, 6, 2 ^ 8)]
    nx (exec (.evcClaimRead 7) (s.firmwareTag false)) (fun u => nx (exec (hartDoes 7 .load (Blk.EVC.base + 0x5004 + 0x10 * 7) 4 0) s) (fun t =>
      alikeB u t && t.out.getLast? == some (.loaded 7 (200 + 2 ^ 31)))) = true := by decide +kernel

/-! ### Parity (Table 13-2) -/

def parLine (addr way : Nat) (dirty : Bool) : Line := ⟨setOf addr, way, addr, dirty, 7 :: zeros 63⟩
/-- Memory differs from the line, which the hart's data cache holds too. -/
def parity (dirty : Bool) : State :=
  let s := cacheOn.mwr 4 sramLo (if dirty then 0 else 7)
  { s with l2 := { s.l2 with lines := [parLine sramLo 3 dirty], harts := [(7, { dcache := [(sramLo / 64, true)] })] } }
def parMeets (k : Access) (v : Word) (p : Parity) : Instr := .hartMemoryAccess 7 k sramLo 4 v 0x80 p .clean
theorem witness_ParityData : [true, false].all (fun l1 =>
    nx (exec (parMeets .load 0 (.data l1)) (parity false)) (fun t => busB t [.loaded 7 7] && raisedB (parity false) t 276 && t.rd .L2_PERR_DATAERR == 1 && t.rd .L2_PERRADDR_ADDR == sramLo) &&
    nx (exec (parMeets .load 0 (.data l1)) (parity true)) (fun t => busB t [.hartFault 7 5 sramLo] && raisedB (parity true) t 277 && raisedB (parity true) t 280 && t.rd .L2_STAT_LOST == 1 &&
      NSet.has (sramLo / 64) t.poison && t.mbs sramLo 4 == [7, 0, 0, 0] && t.l2.lines == []) &&
    nx (exec (parMeets .store 0x01020304 (.data l1)) (parity true)) (fun t => busB t [] && raisedB (parity true) t 277 && NSet.has (sramLo / 64) t.poison && t.mbs sramLo 5 == [4, 3, 2, 1, 0] &&
      t.l2.lines == [])) = true := by decide +kernel
theorem witness_ParityTag : [true, false].all (fun d => nx (exec (parMeets .load 0 (.tag 3)) (parity d)) (fun t => busB t [.loaded 7 (if d then 0 else 7)] && raisedB (parity d) t 278 &&
      t.rd .L2_PERR_TAGERR == 1 && t.rd .L2_PERRADDR_ADDR == setOf sramLo * 64 + 3 && t.bit .L2_STAT_LOST == d)) = true := by decide +kernel
theorem witness_ParityInstr : (let s := (cacheOn.mwr 4 sramLo 5).setHart 7 { icache := [(sramLo / 64, 1 :: zeros 63)] }
     nx (exec (parMeets .fetch 0 .icache) s) (fun t => busB t [.fetched 7 [5, 0, 0, 0]] && raisedB s t 279)) = true ∧
    (let l := parLine (sramLo + 0x40000) 0 true
     let s := put { cacheOn with l2 := { cacheOn.l2 with lines := [l] } } [(.L2_CTL_FILLWAYS, 0, 0, 1)]
     Machine.setOf (sramLo + 0x40000) = Machine.setOf sramLo ∧ s.victimOf sramLo = some l ∧ nx (exec (parMeets .load 0 .victim) s) (fun t => busB t [.loaded 7 0] && raisedB s t 277 &&
       t.rd .L2_STAT_LOST == 1 && NSet.has (l.addr / 64) t.poison && t.mbs l.addr 64 == l.data) = true) := by decide +kernel

/-! ### The shared cache -/

def line1 (dirty : Bool) : Line := ⟨Machine.setOf sramLo, 3, sramLo, dirty, 7 :: zeros 63⟩
/-- Two lines out of the range's reach: one dirty, one clean. -/
def otherLines : List Line := [⟨Machine.setOf (sramLo + 64), 0, sramLo + 64, true, 8 :: zeros 63⟩, ⟨Machine.setOf (sramLo + 128), 15, sramLo + 128, false, zeros 64⟩]
def oneLine (dirty : Bool) (l : List (Reg × Nat × Nat × Nat)) : State := let s := put cacheOn ([(.L2_INVBASE_BASE, 0, 0, sramLo), (.L2_INVLEN_LEN, 0, 0, 1)] ++ l)
  { s with l2 := { s.l2 with lines := line1 dirty :: otherLines } }
theorem oneLine_cacheWf : (oneLine true []).CacheWf ∧ (oneLine false []).CacheWf :=
  ⟨⟨by decide +kernel, by decide +kernel⟩, ⟨by decide +kernel, by decide +kernel⟩⟩
theorem witness_Cbo : [true, false].all (fun d => nx (exec (.cboClean 7 (sramLo + 63)) (oneLine d [])) (fun t => t.l2.lines == line1 false :: otherLines && (t.mb sramLo == 7) == d &&
        t.mb (sramLo + 64) == 0 && busB t []) &&
      nx (exec (.cboFlush 7 sramLo) (oneLine d [])) (fun t => t.l2.lines == otherLines && (t.mb sramLo == 7) == d) &&
      nx (exec (.cboInval 7 sramLo) (oneLine d [])) (fun t => t.l2.lines == otherLines && t.mb sramLo == 0) &&
      nx (exec (.cboInval 7 sramLo) (userHart ((csrMenvcfg, 0x10) :: pmpRead) (oneLine d []))) (fun t => t.l2.lines == otherLines && (t.mb sramLo == 7) == d)) = true ∧
    (let s := put (oneLine true []) [(.L2_STAT_DRAINING, 0, 0, 1)]
     [Instr.cboClean 7 sramLo, .cboFlush 7 sramLo, .cboInval 7 sramLo].all (fun c => nx (exec c s) (fun t => t == s)) = true) ∧
    [Instr.cboClean 7 (sramLo + 192), .cboFlush 7 (sramLo + 192), .cboInval 7 (sramLo + 192), .cboClean 1 sramLo].all (fun c => nx (exec c (oneLine true [])) (fun t => t == oneLine true [])) = true := by
  decide +kernel
theorem witness_CboUser : let u (e : Nat) := userHart ((csrMenvcfg, e) :: pmpRead) (oneLine true [])
    (u 0).cboOp 7 .inval = none ∧ (u 0x10).cboOp 7 .inval = some .flush ∧ (u 0x30).cboOp 7 .inval = some .inval ∧ (u 0x40).cboOp 7 .clean = some .clean ∧ (u 0x40).cboAllowed 7 sramLo = true ∧
    [Instr.cboClean 7 sramLo, .cboFlush 7 sramLo, .cboInval 7 sramLo].all (fun c => nx (exec c (u 0)) (fun t => illegalB t 7 && t.l2.lines == (u 0).l2.lines)) = true ∧
    (let s := userHart [(csrMenvcfg, 0x70)] (oneLine true [])
     s.cboAllowed 7 sramLo = false ∧ [Instr.cboClean 7 sramLo, .cboFlush 7 sramLo, .cboInval 7 sramLo].all (fun c => nx (exec c s) (fun t => t.out == [.hartFault 7 7 sramLo])) = true) ∧
    nx (exec (.cboClean 7 sramLo .none [.fenceI]) (oneLine true [])) (fun t => t.l2.lines == line1 false :: otherLines) = true ∧
    nx (exec (.cboClean 7 sramLo (.data false)) (oneLine true [])) (fun t => t.l2.lines == otherLines && raisedB (oneLine true []) t 277 && NSet.has (sramLo / 64) t.poison) = true := by decide +kernel
theorem witness_Range : (oneLine true []).rangeRefused 0 = none ∧
    nx (exec (.rangeClean 1) (oneLine true [])) (fun t => t.rd .L2_INVSTAT_BUSY == 1 && t.l2.range == some 0 && t.l2.lines == line1 false :: otherLines && t.mb sramLo == 7) = true ∧
    nx (exec (.rangeCleanInvalidate 3) (oneLine true [])) (fun t => t.l2.lines == otherLines && t.mb sramLo == 7 && t.rd .L2_INVCNT_DISCARDED == 0) = true ∧
    nx (exec (.rangeInvalidate 5) (oneLine true [])) (fun t => t.l2.lines == otherLines && t.mb sramLo == 0 && t.rd .L2_INVCNT_DISCARDED == 1) = true ∧
    (let s := oneLine true [(.L2_LOCK_WAYS, 0, 0, 8)]
     nx (exec (.rangeInvalidate 5) s) (fun t => t.l2.lines == line1 true :: otherLines && t.rd .L2_INVCNT_SKIPPED == 1 && t.mem == s.mem) = true ∧
     nx (exec (.rangeInvalidate 13) s) (fun t => t.l2.lines == otherLines && t.rd .L2_INVCNT_DISCARDED == 1) = true) := by decide +kernel
theorem witness_RangeEnds : (let s := put (oneLine true []) [(.L2_STAT_ENABLED, 0, 0, 0)]
     nx (exec (.rangeClean 1) s) (fun t => t.rd .L2_INVSTAT_DONE == 1 && raisedB s t 284 && t.l2 == s.l2 && t.mem == s.mem) = true) ∧
    [oneLine true [(.L2_INVSTAT_BUSY, 0, 0, 1)], oneLine true [(.L2_STAT_DRAINING, 0, 0, 1)], oneLine true [(.L2_INVLEN_LEN, 0, 0, 0)]].all (fun s =>
      nx (exec (.rangeOpRefused 1) s) (fun t => t.rd .L2_STAT_INVREF == 1 && raisedB s t 283 && onlyB s t [.L2_STAT_INVREF, .L2_INVR_OP, .L2_INVR_LOCKED_TOO] [.ev])) = true ∧
    nx (exec (.rangeOpRefused 7) (oneLine true [])) (fun t => raisedB (oneLine true []) t 283) = true ∧
    (let s := put (oneLine true []) [(.L2_INVSTAT_BUSY, 0, 0, 1)]
     nx (exec (.rangeOpDone 9) { s with l2 := { s.l2 with range := some 2 } }) (fun t => t.rd .L2_INVSTAT_BUSY == 0 && t.rd .L2_INVSTAT_DONE == 1 && raisedB s t 284 && t.l2.range.isNone) = true) ∧
    ([.rangeClean 3, .rangeCleanInvalidate 5, .rangeInvalidate 1, .rangeOpRefused 1, .rangeOpDone 9, .l2DrainDone 9] : List Instr).all (fun c =>
      nx (exec c (oneLine true [])) (fun t => t == oneLine true [])) = true ∧
    nx (exec (.rangeClean 8) (oneLine true [])) (fun t => t.rd .L2_INVR_LOCKED_TOO == 1 && onlyB (oneLine true []) t [.L2_INVR_OP, .L2_INVR_LOCKED_TOO] []) = true ∧
    ([.rangeClean 1, .l2Disable, .l2Enable, .l2LockWrite 1, .rangeOpRefused 1] : List Instr).all (fun c => nx (exec c (up 6)) (fun t => t == up 6)) = true ∧
    (let s := oneLine true [(.L2_INVSTAT_BUSY, 0, 0, 1)]
     nx (exec (.rangeClean 1) s) (fun t => t.rd .L2_STAT_INVREF == 1 && raisedB s t 283 && t.l2 == s.l2 && t.mem == s.mem) = true) := by
  decide +kernel
def cleanLines : State := { oneLine false [] with l2 := { (oneLine false []).l2 with lines := [line1 false] } }
theorem witness_L2Control : nx (exec .l2Disable (oneLine true [])) (fun t => t.rd .L2_CTL_EN == 0 && t.rd .L2_STAT_DRAINING == 1 && t.bit .L2_STAT_ENABLED && t.l2 == (oneLine true []).l2) = true ∧
    nx (exec .l2Disable cleanLines) (fun t => t.rd .L2_STAT_ENABLED == 0 && t.l2.lines == []) = true ∧
    (let s := { put cleanLines [(.L2_INVSTAT_BUSY, 0, 0, 1)] with l2 := { cleanLines.l2 with range := some 1 } }
     nx (exec .l2Disable s) (fun t => t.l2.off && t.bit .L2_STAT_ENABLED && t.l2.lines == [line1 false] && nx (exec (.rangeOpDone 9) t) (fun t =>
       !t.l2.off && t.rd .L2_STAT_ENABLED == 0 && t.l2.lines == [] && raisedB s t 284)) = true) ∧
    (let s := { put (oneLine true []) [(.L2_INVSTAT_BUSY, 0, 0, 1)] with l2 := { (oneLine true []).l2 with range := some 1, off := true } }
     nx (exec (.rangeOpDone 9) s) (fun t => !t.l2.off && t.rd .L2_STAT_DRAINING == 1 && t.l2.lines == s.l2.lines)) = true ∧
    (let s := oneLine true [(.L2_STAT_DRAINING, 0, 0, 1)]
     nx (exec (.l2DrainDone 9) s) (fun t => t.l2.lines == [] && t.rd .L2_STAT_DRAINING == 0 && t.rd .L2_STAT_ENABLED == 0 && raisedB s t 285 && t.mb sramLo == 7 && t.mb (sramLo + 64) == 8 && busB t []) = true ∧
     nx (exec .l2Enable s) (fun t => t.rd .L2_STAT_ENREF == 1 && t.l2 == s.l2) = true) ∧
    nx (exec .l2Enable (harts [(.L2_STAT_ENABLED, 0, 0, 0)])) (fun t => t.rd .L2_CTL_EN == 1 && t.bit .L2_STAT_ENABLED && t.l2.lines == []) = true ∧
    nx (exec (.l2LockWrite 0x0FFF) (harts [])) (fun t => t.rd .L2_LOCK_WAYS == 0xFFF && onlyB (harts []) t [.L2_LOCK_WAYS] []) = true ∧
    nx (exec (.l2LockWrite 0x1FFF) (harts [])) (fun t => t.rd .L2_STAT_LOCKREF == 1 && raisedB (harts []) t 282 && onlyB (harts []) t [.L2_STAT_LOCKREF] [.ev]) = true := by decide +kernel

/-! ### Interrupts, events and ageing -/

/-- Two sources of priority 5 and one of priority 4 pending for hart 7. -/
def claiming : State := let s := put (up 5) [(.EVC_PRIO_PRIO, 100, 0, 5), (.EVC_PRIO_PRIO, 487, 0, 5), (.EVC_PRIO_PRIO, 99, 0, 4), (.EVC_IE_IE, 7, 3, 2 ^ 3 + 2 ^ 4), (.EVC_IE_IE, 7, 15, 2 ^ 7)]
  { s with ev := { edge := [(99, true), (100, true), (487, true)] } }
theorem witness_Claim : claiming.best 7 = some 100 ∧ nx (exec (.evcClaimRead 7) claiming) (fun t => t.out == [.popped .EVC_CLAIM_SRC 7 (100 + 2 ^ 31)] && !NSet.has 100 t.ev.edge &&
      NTab.get 0 100 t.ev.svc == 8 && onlyB claiming t [] [.ev, .out]) = true ∧
    nx (exec (.evcClaimRead 0) claiming) (fun t => t.out == [.popped .EVC_CLAIM_SRC 0 0] && onlyB claiming t [] [.out]) = true ∧
    ([.evcClaimRead 7, .evcMsipWrite 7 1, .timerInterrupt 7, .lostEventsRecord, .recordWrite true true true, .optimeSave, .evcClaimComplete 7 1, .evcRaiseWrite 7 1] : List Instr).all (fun c =>
      nx (exec c (up 4)) (fun t => t == up 4)) = true := by decide +kernel
theorem witness_Complete : let s := { claiming with ev := { svc := [(487, 8)] } }
    nx (exec (.evcClaimComplete 7 487) s) (fun t => !t.inService 487 && s.inService 487 && onlyB s t [] [.ev]) = true ∧
    [Instr.evcClaimComplete 6 487, .evcClaimComplete 7 486].all (fun c => nx (exec c s) (fun t => t == s)) = true := by decide +kernel
theorem witness_Msip : let s := { (up 7) with rst := { (up 7).rst with recovery := false } }
    nx (exec (.evcMsipWrite 7 1) s) (fun t => t.rd .EVC_MSIP_MSIP 7 == 0 && NSet.has 7 t.l2.awake && t.out == [.hartJump 7 s.rst.entry 7] && keepsB s t [.l2, .out]) = true ∧
    nx (exec (.evcMsipWrite 0 1) s) (fun t => t.rd .EVC_MSIP_MSIP 0 == 1 && !NSet.has 0 t.l2.awake && keepsB s t []) = true ∧
    nx (exec (.evcMsipWrite 7 1) (up 5)) (fun t => t.rd .EVC_MSIP_MSIP 7 == 1) = true ∧
    (let s := put (up 5) [(.EVC_MTIMECMP_CMP, 7, 0, 2 ^ 64 - 1)]
     nx (exec (.timerInterrupt 7) s) (fun t => t.mtip 7 && onlyB s t [.EVC_MTIME_MTIME] []) = true) := by decide +kernel

def recording (n : Nat) : State := let s := put (up 5) [(.EVC_REC_EN, 171, 0, 1), (.EREC_CTL_REPWIN, 0, 0, 100)]
  { s with ev := { queue := List.replicate n ⟨171, 4, false, false, [9], 0, 0⟩ } }
theorem witness_EventRaise : nx (exec (.eventRaise 171 [(1, 7)]) (recording 511)) (fun t => raisedB (recording 511) t 171 && t.ev.queue.length == 512 && onlyB (recording 511) t [] [.ev]) = true ∧
    nx (exec (.eventRaise 171 [(1, 7)]) (recording 512)) (fun t => t.ev.queue.length == 512 && t.ev.lost == 1 && t.ev.run == some 171 && NSet.has 171 t.ev.gap) = true ∧
    [219, 260, 271, 287, 291].all (fun (n : Source) => nx (exec (.eventRaise n []) (recording 0)) (fun t => t == recording 0)) = true ∧
    [218, 220, 259, 272, 286, 292].all (fun (n : Source) => nx (exec (.eventRaise n []) (recording 0)) (fun t => raisedB (recording 0) t n.val)) = true ∧
    nx (exec (.eventRaise 171 []) (up 4)) (fun t => t == up 4) = true ∧
    nx (exec .lostEventsRecord (recording 512)) (fun t => t == recording 512) = true := by decide +kernel
/-- Events 206 to 208 mark the AER status of port 0 or 1; 211 contains the EDP where the host has enabled it. -/
theorem witness_PortErrors : [(206, 0, ({ aerCor := 5 } : PortCfg), ({} : PortCfg)), (207, 1, {}, { aerUnc := 5 }), (208, 0, { aerUnc := 5 }, {})].all (fun (e : Source × Nat × PortCfg × PortCfg) =>
      nx (exec (.eventRaise e.1 [(1, e.2.1), (4, 5)]) (up 10)) (fun t => t.psw == { (up 10).psw with usp := e.2.2.1, edp := e.2.2.2 } && raisedB (up 10) t e.1 && onlyB (up 10) t [] [.ev, .psw])) = true ∧
    (let s := put { up 10 with psw := { edp := { dpc := 1 }, dsFinal := true } } [(.PSW_STAT_DSUP, 0, 0, 1)]
     nx (exec (.eventRaise 211 []) s) (fun t => t.psw.edp.contained && !t.bit .PSW_STAT_DSUP && raisedB s t 211 && raisedB s t 191) = true) ∧
    nx (exec (.eventRaise 211 []) (up 10)) (fun t => raisedB (up 10) t 211 && onlyB (up 10) t [] [.ev]) = true := by decide +kernel
theorem witness_EvcRaise : let s := put (recording 0) [(.EVC_RDATA_DATA, 7, 0, 0x04030201), (.EVC_REC_EN, 319, 0, 1)]
    nx (exec (.evcRaiseWrite 7 (319 + 3 * 65536)) s) (fun t => raisedB s t 319 && t.ev.queue == [⟨319, 0, true, false, [1, 2, 3], 0, 0⟩] && onlyB s t [] [.ev]) = true ∧
    nx (exec (.evcRaiseWrite 7 (320 + 3 * 65536)) s) (fun t => t == s) = true := by decide +kernel
theorem witness_Lost : (let s := { recording 511 with ev := { (recording 511).ev with lost := 9, run := some 3 } }
     nx (exec .lostEventsRecord s) (fun t => t.ev.run.isNone && raisedB s t 314 && onlyB s t [] [.ev]) = true) ∧
    (let s := { recording 512 with ev := { (recording 512).ev with lost := 9, run := some 3 } }
     nx (exec .lostEventsRecord s) (fun t => t == s) = true) := by decide +kernel
/-- The record's layout: sequence number in bytes 3:0, source in 5:4, flags in 6, length in 7, data from byte 28 on. -/
theorem witness_RecordWrite : (recording 1).mergeSlot ⟨171, 4, false, false, [9], 0, 0⟩ = none ∧ nx (exec (.recordWrite true true true) (recording 1)) (fun t => t.ev.queue == [] &&
      t.mrd 4 (seqAddr 171) == 5 && t.erec.cur == 1 && t.rd .EREC_GSEQ_GSEQ == 2 && t.mbs (areaC 0) 8 == [4, 0, 0, 0, 171, 0, 0, 1] && t.mb (areaC 0 + 28) == 9 &&
      t.rd .EREC_CHEAD_CHEAD == 1 && keepsB (recording 1) t [.ev, .erec]) = true ∧
    nx (exec (.recordWrite true true true) { recording 1 with erec := { retC := [(0, true), (1, true)] } }) (fun t => t.mbs (areaC 2) 4 == [4, 0, 0, 0] && t.rd .EREC_CHEAD_CHEAD == 3) = true := by
  decide +kernel
/-- The same event again, with the next sequence number, merges into the record just written. -/
theorem witness_RecordMerge : (match exec (.recordWrite true true true) (put (recording 1) [(.EVC_REC_MERGE, 171, 0, 1)]) with
    | .next s =>
      let e : Ent := ⟨171, 5, false, false, [9], 0, 0⟩
      let s := { s with ev := { s.ev with queue := [e] } }
      decide (s.mergeSlot e = some (0, true)) && nx (exec (.recordWrite true true true) s) (fun t => t.mrd 4 (areaC 0 + 8) == 1 && t.mrd 4 (seqAddr 171) == 6 && t.rd .EREC_CHEAD_CHEAD == 1)
    | _ => false) = true := by decide +kernel
/-- With the MRAM out of use, a record goes to the ring's place MHEAD; without a ring it waits. -/
def ringing (base head : Nat) : State := put (recording 1) [(.EREC_STAT_MEDONLY, 0, 0, 1), (.EREC_MRING_BASE, 0, 0, base), (.EREC_MHEAD_MHEAD, 0, 0, head)]
theorem witness_Ring : nx (exec (.recordWrite true true true) (ringing bufLo 4095)) (fun t => t.ev.queue == [] && t.rd .EREC_MHEAD_MHEAD == 0 &&
      t.mbs (bufLo + 64 * 4095) 8 == [4, 0, 0, 0, 171, 0, 4, 1] && t.mb (bufLo + 64 * 4095 + 28) == 9 && memButB (ringing bufLo 4095) t (bufLo + 64 * 4095) 64 &&
      keepsB (ringing bufLo 4095) t [.ev, .out, .free] && busB t []) = true ∧
    nx (exec (.recordWrite true true true) (ringing bufHi 0)) (fun t => raisedB (ringing bufHi 0) t 246 && t.mem == (ringing bufHi 0).mem && t.rd .EREC_MHEAD_MHEAD == 1) = true ∧
    [ringing 0 0, recording 0].all (fun s => nx (exec (.recordWrite true true true) s) (fun t => t == s)) = true ∧
    nx (exec .optimeSave (ringing 0 0)) (fun t => t == ringing 0 0) = true ∧ nx (exec .holdExpire (recording 1)) (fun t => t == recording 1) = true := by decide +kernel
theorem witness_Hold : nx (exec .hold (recording 1)) (fun t => t.rd .EREC_CTL_HOLD == 1 && onlyB (recording 1) t [.EREC_CTL_HOLD] []) = true ∧
    (let s := put (recording 1) [(.EREC_CTL_HOLD, 0, 0, 1)]
     nx (exec (.recordWrite true true true) s) (fun t => t == s) = true ∧
     nx (exec .holdExpire s) (fun t => t.rd .EREC_CTL_HOLD == 0 && t.rd .EREC_STAT_HOLDEXP == 1 && onlyB s t [.EREC_CTL_HOLD, .EREC_STAT_HOLDEXP] []) = true) ∧
    nx (exec .optimeSave (up 5)) (fun t => memButB (up 5) t (blockAddr 1) 256 && keepsB (up 5) t [.erec] && t.mrd 4 (blockAddr 1) == 1) = true := by decide +kernel

/-- The MRAM has proved unusable: cause in LASTGASP, event 313, critical warning bit 2, and GSEQ even. -/
def gaspB (t : State) (cause : Nat) : Bool :=
  t.rd .EREC_STAT_MEDONLY == 1 && t.rd .EREC_GSEQ_GSEQ % 2 == 0 && t.rd .LASTGASP_VALUE 0 % 2 ^ 24 == 0x4C47 + cause * 2 ^ 16 && NSet.has 313 t.ev.edge && t.hif.warn.testBit 2
theorem witness_RecordFails : nx (exec (.recordWrite true false true) (recording 1)) (fun t => gaspB t 3 && t.rd .LASTGASP_VALUE 2 == 4 && t.ev.queue.head? == (recording 1).ev.queue.head?) = true ∧
    nx (exec (.recordWrite true true false) (recording 1)) (fun t => gaspB t 2) = true ∧
    nx (exec (.recordWrite false true true) (recording 1)) (fun t => NSet.has 0 t.erec.retC && raisedB (recording 1) t 312 && t.ev.queue.head? == (recording 1).ev.queue.head? && t.rd .EREC_CHEAD_CHEAD == 1) = true ∧
    ((recording 1).up 5 && !(recording 1).bit .EREC_STAT_MEDONLY && !(recording 1).bit .EREC_CTL_HOLD) = true := by decide +kernel

/-- Class 5, number 31 with two events in sub-window 0. -/
def counted (l : List (Reg × Nat × Nat × Nat)) : State := let s := put (up 10) ([(.AGE_FCLS_WIN, 5, 0, 1), (.AGE_FCLS_THR, 5, 0, 2)] ++ l)
  { s with ev := { counts := [⟨5, 31, 0, 2⟩, ⟨6, 0, 0, 9⟩] } }
theorem witness_Subwindow : let s := counted [(.EREC_OPTIME_OPTIME, 0, 0, 7 * 128)]
    s.subNow 5 = 7 ∧ nx (exec (.faultSubwindow 5) s) (fun t => t.subNow 5 == 8 && t.ev.counts == [⟨6, 0, 0, 9⟩] && onlyB s t [.EREC_OPTIME_OPTIME] [.ev]) = true ∧
    nx (exec (.faultSubwindow 5) (counted [(.EREC_OPTIME_OPTIME, 0, 0, 6 * 128)])) (fun t => t.ev.counts.length == 2) = true := by decide +kernel
theorem witness_Lasting : (counted []).ageCnt 5 31 = 2 ∧ nx (exec (.faultClassLasting 5 31) (counted [])) (fun t => t.rdBit .AGE_FSTAT_LASTING 31 5 && raisedB (counted []) t 300 &&
      t.hif.warn.testBit 2 && onlyB (counted []) t [.AGE_FSTAT_LASTING] [.ev, .hif]) = true ∧
    (let s := put (counted []) [(.AGE_FCLS_THR, 6, 0, 9), (.AGE_FCLS_WIN, 6, 0, 1)]
     nx (exec (.faultClassLasting 6 0) s) (fun t => t.hif.limit == 5400) = true ∧
     nx (exec (.faultClassLasting 6 0) { s with spn := { tgt := 7200 } }) (fun t => t.hif.limit == 5400 && t.rd .SPN_TGT_TGT == 5400 && raisedB s t 234) = true) ∧
    (let s := { put (up 10) [(.AGE_FCLS_THR, 2, 0, 1), (.AGE_FCLS_WIN, 2, 0, 1)] with ev := { counts := [⟨2, 3, 0, 1⟩] } }
     nx (exec (.faultClassLasting 2 3) s) (fun t => NSet.has 3 t.med.recal) = true) ∧
    [counted [(.AGE_FCLS_THR, 5, 0, 3)], counted [(.AGE_FSTAT_LASTING, 5, 0, 2 ^ 31)]].all (fun s => nx (exec (.faultClassLasting 5 31) s) (fun t => t == s)) = true ∧
    (let s := counted [(.AGE_FSTAT_LASTING, 5, 0, 2 ^ 31 + 1)]
     nx (exec (.ageFstatClear 5 0x80000000) s) (fun t => t.rd .AGE_FSTAT_LASTING 5 == 1 && t.ageCnt 5 31 == 0 && t.mem == s.mem && keepsB s t [.ev]) = true) := by decide +kernel
def guard (l : List (Reg × Nat × Nat × Nat)) (volt : Nat := 700) : State :=
  put { up 10 with age := { mode := true, volt := volt } } ([(.AGE_CTL_GUARDEN, 0, 0, 1), (.AGE_GUARD_THR, 0, 0, 20), (.AGE_GUARD_STEP, 0, 0, 6), (.AGE_VLIM_VMIN, 0, 0, 600), (.AGE_VLIM_VMAX, 0, 0, 705), (.AGE_VOUT_VOUT, 0, 0, 700)] ++ l)
/-- A second degraded head on one arm within 30 days warns; the arm's scrub interval is halved. -/
theorem witness_Degraded : let s := { put (up 10) [(.AGE_FCLS_THR, 1, 0, 1), (.AGE_FCLS_WIN, 1, 0, 1)] with ev := { counts := [⟨1, 6, 0, 1⟩, ⟨1, 7, 0, 1⟩] } }
    (match exec (.faultClassLasting 1 6) s with
      | .next t => NSet.has 1 t.med.halved && NTab.get 0 6 t.med.degraded == 1 && t.hif.warn == s.hif.warn && onlyB s t [.AGE_FSTAT_LASTING] [.ev, .hif, .med] &&
          nx (exec (.faultClassLasting 1 6) (t.wr .AGE_FSTAT_LASTING 0 1)) (fun u => u.hif.warn.testBit 2)
      | _ => false) = true := by decide +kernel
theorem witness_Guard : nx (exec (.guardVoltageStep 63 19) (guard [])) (fun t => t.rd .AGE_PDM_SLACK 63 == 19 && t.rd .AGE_VOUT_VOUT == 705 && t.rd .AGE_STAT_BUSY == 1 &&
      raisedB (guard []) t 304 && t.out.length == 1) = true ∧
    nx (exec (.guardVoltageStep 63 19) (guard [] 705)) (fun t => t.rd .AGE_STAT_ATMAX == 1 && t.rd .AGE_VOUT_VOUT == 700) = true ∧
    nx (exec (.guardVoltageStep 63 20) (guard [])) (fun t => onlyB (guard []) t [.AGE_PDM_SLACK, .AGE_PDM_MIN, .AGE_PDMIN_SLACK, .AGE_PDMIN_MON] [.med]) = true := by decide +kernel
theorem witness_Vout : [(599, 600), (600, 600), (705, 705), (4095, 705)].all (fun (e : W32 × Nat) => nx (exec (.ageVoutWrite e.1) (guard [])) (fun t => t.rd .AGE_VOUT_VOUT == e.2 &&
      t.rd .AGE_STAT_BUSY == 1 && t.out.length == 1)) = true ∧
    (let s := guard [(.AGE_STAT_BUSY, 0, 0, 1)]
     nx (exec (.ageVoutWrite 650) s) (fun t => t == s) = true ∧ nx (exec (.pmbusCommandDone true) s) (fun t => t.rd .AGE_STAT_BUSY == 0 && t.age.volt == s.rd .AGE_VOUT_VOUT && onlyB s t [.AGE_STAT_BUSY] [.age]) = true ∧
     nx (exec (.pmbusCommandDone false) s) (fun t => t.rd .AGE_STAT_PMBERR == 1 && raisedB s t 306 && onlyB s t [.AGE_STAT_BUSY, .AGE_STAT_PMBERR] [.ev]) = true) := by decide +kernel
/-- WCTEMP is 353 K; a sensor reads in eighths of a kelvin. -/
theorem witness_Thermal : let s := (up 10).setFeat 0 0x04 0 353
    nx (exec (.thermalLevelCross 3 (353 * 8)) s) (fun t => NSet.has 0 t.age.levels && NSet.has 1 t.age.levels && !NSet.has 2 t.age.levels && t.hif.warn.testBit 1 &&
      onlyB s t [.AGE_TEMP_TEMP] [.age, .ev, .hif, .pwr]) = true ∧
    nx (exec (.thermalLevelCross 3 (353 * 8 - 1)) s) (fun t => t.age.levels == []) = true ∧
    (let s := { s with age := { levels := [(0, true), (1, true)] }, hif := { s.hif with warn := 2 } }
     nx (exec (.thermalLevelCross 3 (348 * 8)) s) (fun t => NSet.has 0 t.age.levels && t.hif.warn.testBit 1) = true ∧
     nx (exec (.thermalLevelCross 3 (348 * 8 - 1)) s) (fun t => t.age.levels == [] && !t.hif.warn.testBit 1) = true) ∧
    nx (exec (.thermalLevelCross 3 (353 * 8)) { s with spn := { tgt := 7200 } }) (fun t => t.rd .SPN_TGT_TGT == 5400 && raisedB s t 234) = true ∧
    nx (exec .aonFallback (up 10)) (fun t => t.rd .CLK_STAT_AONFB == 1 && t.rd .CLK_STAT_AONLOSS == 1 && onlyB (up 10) t [.CLK_STAT_AONFB, .CLK_STAT_AONLOSS] []) = true := by decide +kernel

/-! ### Register writes -/

theorem witness_RegisterWrite : nx (exec (.registerWrite (0x10022000 + 4 * 511) false 0xFFFFFFFFFFFFFFFD) (up 5)) (fun t => t.rd .EVC_PRIO_PRIO 511 == 5 && onlyB (up 5) t [.EVC_PRIO_PRIO] []) = true ∧
    nx (exec (.registerWrite (0x10024000 + 0x40 * 7 + 4 * 15) false 0x1FFFFFFFF) (up 5)) (fun t => t.rd .EVC_IE_IE 7 15 == 0xFFFFFFFF && onlyB (up 5) t [.EVC_IE_IE] []) = true ∧
    nx (exec (.registerWrite (0x10021040 + 8 * 7) true 0x123456789) (up 5)) (fun t => t.rd .EVC_MTIMECMP_CMP 7 == 0x123456789) = true ∧
    nx (exec (.registerWrite 0x10040018 true 0x123456789) (up 5)) (fun t => t.rd .L2_INVBASE_BASE == 0x123456789 && onlyB (up 5) t [.L2_INVBASE_BASE] []) = true ∧
    nx (exec (.registerWrite 0x10040020 false 7) (up 5)) (fun t => t.rd .L2_INVLEN_LEN == 7 && onlyB (up 5) t [.L2_INVLEN_LEN] []) = true := by decide +kernel
theorem witness_RegisterWrite_clears : let s := put (up 5) [(.L2_STAT_ENREF, 0, 0, 1), (.L2_STAT_LOCKREF, 0, 0, 1), (.L2_STAT_LOST, 0, 0, 1), (.EVC_CLAIM_SRC, 0, 0, 5)]
    nx (exec (.registerWrite 0x10040004 false 0x48) s) (fun t => t.rd .L2_STAT_ENREF == 0 && t.rd .L2_STAT_LOCKREF == 1 && t.rd .L2_STAT_LOST == 0 && t.rd .L2_STAT_ENABLED == 1) = true ∧
    nx (exec (.registerWrite 0x10023000 false 5) s) (fun t => t == s) = true := by decide +kernel
theorem witness_RegisterWrite_locked : let s := { up 10 with rst := { (up 10).rst with locked := true } }
    nx (exec (.registerWrite 0x11000000 false 0x10001) s) (fun t => t.rd .PSW_CFG_ARBAUTO == 1 && t.rd .PSW_CFG_POLICY == 0) = true ∧
    nx (exec (.registerWrite 0x11000000 false 0x0001) (up 10)) (fun t => t.rd .PSW_CFG_ARBAUTO == 0 && t.rd .PSW_CFG_POLICY == 1 && t.rd .PSW_CFG_HOLDOFF == 1) = true ∧
    nx (exec (.registerWrite 0x11000000 false 0xFF00) (up 10)) (fun t => t.rd .PSW_CFG_HOLDOFF == 255) = true := by decide +kernel
/-- POLICY written 1 with JOIN_EN low closes an open pass; a context's, a threshold's and a lane's fields follow their access codes. -/
theorem witness_RegisterWrite_closes : let s := put (up 10) [(.PSW_PASS_STATE, 0, 0, 2)]
    nx (exec (.registerWrite 0x11000000 false 0x0001) s) (fun t => t.rd .PSW_PASS_STATE == 3 && t.passCause == 2 && !t.passFlag && raisedB s t 196) = true ∧
    nx (exec (.registerWrite 0x10025070 false 0xD) (up 5)) (fun t => t.rd .EVC_THR_THR 7 == 5 && onlyB (up 5) t [.EVC_THR_THR] []) = true := by decide +kernel
theorem witness_RegisterWrite_refused : widthOk 0x10040020 8 = false ∧ blkAt 0x20000 = none ∧ (fieldsAt 0x10040FF8 = [] ∧ winMem 0x10040FF8 = none) ∧
    [(0x10040020, true), (0x20000, false), (0x10040022, false), (0x10040FF8, true)].all (fun (e : Nat × Bool) => nx (exec (.registerWrite e.1 e.2 9) (up 10)) (fun t => t == up 10)) = true ∧
    nx (exec (.registerWrite 0x10040020 false 9) (up 4)) (fun t => t == up 4) = true := by decide +kernel
theorem witness_RegisterWrite_queue : [(0, 0), (23, 127)].all (fun (e : Nat × Nat) => let a := 0x10100400 + 0x10000 * e.1 + 4 * e.2
    nx (exec (.registerWrite a false 0x104030201) (up 5)) (fun t => t.mrd 4 a == 0x04030201 && memButB (up 5) t a 4 && regsB (up 5) t [] && keepsB (up 5) t [])) = true := by decide +kernel
theorem witness_Locked : (let s := { up 7 with rst := { (up 7).rst with locked := true } }
     (7 ≤ s.rst.step ∧ s.rst.locked = true) ∧ nx (exec .hold s) (fun t => t.rst.locked) = true) := by decide +kernel

/-! ### Further clauses -/

/-- A start before step 1, with XSYS running or stopped. -/
def begun (x : Bool) : State := { up 0 with rst := { por := false, xsys := x, done := true } }
theorem witness_Xsys : (begun true).sequence = true ∧ nx (exec .releaseStep (begun true)) (fun t => t.rst.step == 1) = true ∧
    nx (exec .releaseStep (begun false)) (fun t => t == begun false) = true ∧
    nx (exec (.powerOnRelease false) State.reset) (fun t => !t.rst.por && !t.rst.xsys) = true ∧
    (let s := { up 10 with rst := { (up 10).rst with pin := true } }
     nx (exec (.sysrstNRelease false) s) (fun t => !t.rst.pin && !t.rst.xsys && onlyB s t [] [.rst]) = true) ∧
    nx (exec (.linkSilence 100 false) tracking) (fun t => !t.pwr.link && !t.rst.xsys) = true ∧
    nx (exec .powerOnReset State.reset) (fun t => t == State.reset) = true := by decide +kernel
theorem witness_ReleaseSteps : (let s := { (up 4) with rst := { step := 4, done := true, tookPor := true, level := 1 } }
     s.blockValid 0 = true ∧ nx (exec .releaseStep s) (fun t => t.rst.step == 5 && t.rst.counted && t.rd .EREC_PCYC_PCYC == 1 && t.rd .EREC_STARTS_STARTS == 1) = true) ∧
    (let s := put { up 5 with rst := { step := 5, done := true } } [(.RST_FUSE_BOOT_LIMIT, 0, 0, 3), (.BOOT_TRIES_TRIES, 0, 0, 3)]
     nx (exec .releaseStep s) (fun t => t.rst.recovery && t.rst.done && t.rst.copy == 3 && raisedB s t 295) = true) ∧
    (let s := put { up 5 with rst := { step := 5, done := true } } [(.RST_FUSE_BOOT_LIMIT, 0, 0, 3), (.BOOT_TRIES_TRIES, 0, 0, 2)]
     nx (exec .releaseStep s) (fun t => !t.rst.recovery && !t.rst.done && t.rst.xspi && onlyB s t [] [.rst]) = true) ∧
    (let s := { (up 2) with rst := { step := 2 }, pwr := { close6 := true } }
     nx (exec (.releaseStepComplete 0) s) (fun t => t.passCause == 6 && !t.passFlag && !t.pwr.close6 && t.pwr.core) = true) ∧
    (let s := { (up 7) with rst := { step := 7, entry := 0x2000000 } }
     nx (exec (.releaseStepComplete 0) s) (fun t => NSet.has 0 t.l2.awake && t.out == (List.range 8).map (fun c => .hartStart (Fin.ofNat 8 c) 0) ++ [.hartJump 0 0x2000000 0]) = true) := by
  decide +kernel

/-- Crossings of a driven spindle: of the phase that the step in force waits for, and of another; and under the power die's own hold. -/
theorem witness_Commutation : (let s := { spinning with spn := { spinning.spn with comm := 3 } }
     (s.commutate 11574 3).spn.comm = 4 ∧ (s.commutate 11574 3).out.length = 1 ∧ s.commutate 11574 0 = s) ∧
    (let s := put { up 7 with spn := { ivals := List.replicate 5 11574, comm := 3 } } [(.SPN_HOLD_ACTIVE, 0, 0, 1), (.SPN_HOLD_SPD, 0, 0, 5400)]
     nx (exec (.zeroCrossing 11574 3) s) (fun t => t.out.length == 2 && t.out.any (fun o => match o with | .commutate 4 _ _ _ => true | _ => false)) = true) := by decide +kernel
theorem witness_FirstDue : let q (l : List Sample) : State := put ((armIn 5).setArm 0 { queue := l, okRun := 3 }) [(.SCE_HSTAT_PLAUS, 0, 0, 1), (.SCE_HSTAT_ARMPL, 0, 0, 1), (.SCE_CTL_MEN, 0, 0, 0)]
    let x := sample true
    let y : Sample := { x with head := 1 }
    (q [x]).firstDue 0 3 false [x] = some (x, true, false) ∧ (q [y, x]).firstDue 0 3 false [y, x] = some (x, true, false) ∧
    nx (exec (.sampleDeadlineMiss 0) (q [y, x])) (fun t => t.rd .SCE_LATE_LV 0 == 1 && (t.arm 0).queue == markLate x [y, x]) = true ∧
    nx (exec (.sampleDeadlineMiss 0) (q [y])) (fun t => t == q [y]) = true := by decide +kernel

/-- Nanowords of one action each. -/
theorem witness_Actions : [(2 ^ 17 + 9 * 2 ^ 32, Reg.HSE_LC_LC0, 9), (2 ^ 19, .HSE_SLOTCNT_SLOT, 1), (2 ^ 28 + 7 * 2 ^ 32, .HSE_CMP_CMP0, 7), (4 * 2 ^ 28 + 5 * 2 ^ 32, .HSE_FLAGS_F, 5)].all
      (fun (e : Nat × Reg × Nat) => nx (exec (.next 0) (engine 0 0 e.1)) (fun t => t.rd e.2.1 0 == e.2.2)) = true ∧
    nx (exec (.next 0) (engine 0 0 (6 * 2 ^ 28 + 3 * 2 ^ 32))) (fun t => (t.hse 0).hl == some 3) = true ∧
    nx (exec (.next 0) (engine 0 0 (7 * 2 ^ 28 + 3 * 2 ^ 32))) (fun t => raisedB (engine 0 0 0) t 2) = true ∧
    nx (exec (.next 0) (engine 0 0 (8 * 2 ^ 28))) (fun t => t.rdBit .HSE_TPEND_PEND 14 0) = true ∧
    nx (exec (.next 0) (engine 0 0 (2 ^ 10))) (fun t => t.rdBit .HSE_TPEND_PEND 2 0) = true ∧
    nx (exec (.next 0) (put (engine 0 0 (2 ^ 10)) [(.HSE_CQPTR_TAIL, 0, 0, 1)])) (fun t => t.rd .HSE_CQPTR_HEAD 0 == 1) = true ∧
    nx (exec (.next 0) (engine 0 0 (2 ^ 11 + 2 * 2 ^ 12))) (fun t => (t.hse 0).done.map (·.status) == [2]) = true ∧
    nx (exec (.next 0) (engine 0 0 (2 ^ 8))) (fun t => t.rdBit .HSE_TPEND_PEND 2 0) = true ∧
    nx (exec (.next 0) (engine 0 0 (2 ^ 8) { tmpl := 2 * 2 ^ 39, cnt0 := 2 })) (fun t => (t.hse 0).reqs == 1 && (t.hse 0).raisedW.length == 1) = true ∧
    nx (exec (.next 0) (engine 0 0 (2 ^ 9))) (fun t => (t.hse 0).scan) = true ∧ nx (exec (.next 0) (engine 0 0 (2 ^ 7))) (fun t => (t.chan 0).armed) = true ∧
    nx (exec (.next 0) (engine 0 0 (2 ^ 3))) (fun t => t.rdBit .HSE_TPEND_PEND 7 0) = true ∧ nx (exec (.next 0) (engine 0 0 (2 ^ 52))) (fun t => t.rdBit .HSE_TPEND_PEND 2 0) = true ∧
    nx (exec (.next 0) (engine 0 0 (2 ^ 52) { tstk := [frame 0] })) (fun t => (t.hse 0).tstk == []) = true ∧
    nx (exec (.next 0) (engine 0 0 (2 ^ 11) { tstk := [frame 0] })) (fun t => t.rd .HSE_STAT_OWNVIOL 0 == 1 && (t.hse 0).done == [] && raisedB (engine 0 0 0) t 2) = true := by decide +kernel
theorem witness_WaitUnderWay : nx (exec (.wait 0) (waitOn 13 true)) (fun t => t == waitOn 13 true) = true ∧
    (let s := writing [] (some { data := [], ctx := none, par := none, told := true })
     nx (exec (.writePermitDrop 0) s) (fun t => t == s) = true) ∧
    (let s := writing [] (some { data := [], ctx := none, par := none })
     nx (exec (.writeFrameEnd 0) { s with chans := NTab.put {} 0 { s.chan 0 with wg := true } s.chans }) (fun t => t.out.contains (.writeGate 0 false)) = true) := by decide +kernel

theorem witness_DescBad : descBad { blen := 16, nburst := 1, ctl := 1 } 0 64 = none ∧ descBad { blen := 0, nburst := 1 } 0 64 = some 1 ∧
    descBad { blen := 16, nburst := 1 } 0 5 = some 5 ∧ descBad { blen := 16, nburst := 1, ctl := 1 } 0 5 = some 6 ∧ descBad { blen := 16, nburst := 1 } 1 64 = some 0 := by decide +kernel
/-- Arm 0 holds a zone whose frames wait; its commands fail where it has no band. -/
def stalled : State := { locked with hif := { locked.hif with zones := [(0, { st := .implicit, wp := 9, dwp := 3 })] } }
theorem witness_DrainStall : stalled.pooled 0 = [(0, 0)] ∧ bitsN 1 0 6 ≠ 0 ∧ stalled.armCopy 0 = none ∧
    { stalled with med := { stalled.med with place := [(zoneKey 0 0, 5)] } }.zoneBand 0 0 = some (0, 4) ∧
    nx (exec (.drainPoolStall 1) stalled) (fun t => raisedB stalled t 253) = true := by decide +kernel
/-- With one sector, on an arm past its budget, a conventional write waits. -/
theorem witness_ConvWaits (h : Config.convBlocks = 1) (h0 : convArm 0 = 0) :
    State.convWaits { (up 10) with med := { waLevel := [(0, 2)] } } = true := by
  unfold State.convWaits; rw [h]; simp only [List.range_one, List.all_cons, List.all_nil, h0]; decide
theorem witness_ConvEmpty : (stored 2 .idle).convHolder (blockKey 0 9) = none := by decide +kernel
theorem witness_MediumWanted : let c := { cmd 7 0 (entry 0x80 0 0 0 0) .started with func := 0 }
    (entering [c]).mediumWanted = true ∧ (entering [c]).ioBusy = false ∧ (entering [c]).hif.lastOp ≤ 2 ∧ nx (exec .powerStateEntry (entering [c])) (fun t =>
      t.rd .HIF_PWR_PSNOW == 0 && t.rd .HIF_PWR_PSREQ == 0 && t.hif.exit && t.hif.entry.isNone) = true := by decide +kernel

end Sys2Proof.Tests
end

section

/- The proofs are elaborated one after the other: a thread for each of them, all waiting for the kernel, takes more memory than
the check allows. -/
set_option Elab.async false

/-! PROOFS. What every operation keeps that is no level reset and places no image: the queue, the canonical form of the stores
(R4), the release sequence (R38), and the locked configuration fields (R6). -/

namespace Sys2Proof

theorem Tab.get_filterKeys {K α : Type} [DecidableEq K] {d : α} {k : K} {p : K → Bool} (h : p k = true) (t : List (K × α)) :
    Tab.get d k (t.filter (fun e => p e.1)) = Tab.get d k t := by
  induction t with
  | nil => rfl
  | cons e t ih =>
    by_cases he : e.1 = k
    · simp [List.filter, Tab.get, he, h]
    · by_cases hp : p e.1 = true <;> simp [List.filter, Tab.get, he, hp, ih]

end Sys2Proof

namespace Sys2Proof.Machine

/-- The module has been handed over with the RWL fields locked (R6, R40): steps 1 to 7 are released. -/
def Rstc.Closed (r : Rstc) : Prop := 7 ≤ r.step ∧ r.locked = true

/-- The reset controller went no step back: released steps stay released, the level in force stays, the fields stay locked. -/
structure Rstc.Onward (r q : Rstc) : Prop where
  step : r.step ≤ q.step
  level : q.level = r.level
  por : r.por = false → q.por = false
  closed : r.Closed → q.Closed

theorem Rstc.Onward.refl (r : Rstc) : r.Onward r := ⟨le_rfl, rfl, id, id⟩

/-- The release of a step that is not released yet. -/
theorem Rstc.Onward.release {r q : Rstc} (hs : r.step < q.step) (hl : q.level = r.level := by rfl) (hp : q.por = r.por := by rfl)
    (hk : 7 ≤ r.step → q.locked = r.locked := by exact fun _ => rfl) : r.Onward q :=
  ⟨hs.le, hl, fun h => hp.trans h, fun c => ⟨c.1.trans hs.le, (hk c.1).trans c.2⟩⟩

theorem Rstc.Onward.trans {r q p : Rstc} (h : r.Onward q) (g : q.Onward p) : r.Onward p :=
  ⟨h.step.trans g.step, g.level.trans h.level, fun e => g.por (h.por e), fun e => g.closed (h.closed e)⟩

/-- t may follow s: the queue is left alone, the stores keep their canonical form, and the release sequence goes no step back. -/
structure State.Kept (s t : State) : Prop where
  pending : t.pending = s.pending
  canon : s.Canonical → t.Canonical
  onward : s.rst.Onward t.rst

/-- t may follow s by an operation that is no level reset and no activation: once the module has been handed over with the RWL
fields locked, they keep their values. -/
structure State.Steady (s t : State) : Prop extends State.Kept s t where
  locked : s.rst.Closed → ∀ r i j, r.info.acc = .RWL → t.rdW r i j = s.rdW r i j

/-- A command answers a next state that may follow s. -/
def Res.Steady (s : State) (r : Res) : Prop := ∃ t, r = .next t ∧ s.Steady t

namespace State.Kept

variable {s u t : State}

theorem trans (h : s.Kept u) (g : u.Kept t) : s.Kept t :=
  ⟨g.pending.trans h.pending, fun c => g.canon (h.canon c), h.onward.trans g.onward⟩

theorem wr {r : Reg} {v i j : Nat} (h : s.Kept u) : s.Kept (u.wr r v i j) :=
  ⟨h.pending, fun c => (h.canon c).wr r v i j, h.onward⟩

theorem ite {c : Prop} {i : Decidable c} {a b : State} (ha : s.Kept a) (hb : s.Kept b) : s.Kept (if c then a else b) := by
  split <;> assumption

theorem foldl {α : Type} {f : State → α → State} {l : List α} (hf : ∀ v a, s.Kept v → s.Kept (f v a)) (h : s.Kept u) :
    s.Kept (l.foldl f u) := by
  induction l generalizing u with
  | nil => exact h
  | cons a l ih => exact ih (hf u a h)

end State.Kept

namespace State.Steady

variable {s u : State}

theorem refl (s : State) : s.Steady s := ⟨⟨rfl, id, .refl _⟩, fun _ _ _ _ _ => rfl⟩

theorem of_eq {t : State} (h : s.Steady u) (hp : t.pending = u.pending) (hm : t.mem = u.mem) (hr : t.regs = u.regs)
    (hs : t.rst = u.rst) : s.Steady t :=
  ⟨⟨hp.trans h.pending, fun c => (h.canon c).of_eq hm hr, hs ▸ h.onward⟩,
    fun l r i j k => (State.rdW_congr hr r i j).trans (h.locked l r i j k)⟩

/-- What lies outside the queue, the stores and the reset controller may change at will. -/
theorem parts {poison : NSet} {nor : List Host.Cell} {staged : NTab (Option Byte)} {norq : List NorJob} {ev : Ev} {erec : Erec}
    {age : Age} {pwr : Pwr} {spn : Spn} {arms : NTab ArmS} {hif : Hif} {psw : Psw} {l2 : L2} {hses : NTab Hse} {chans : NTab Chan}
    {hls : NTab Hlink} {oce : Oce} {dma : Dma} {buf : Buf} {frc : Frc} {med : Media} {frac free : Nat} {out : List Out}
    (h : s.Steady u) :
    s.Steady ⟨u.pending, u.regs, u.mem, poison, nor, staged, norq, u.rst, ev, erec, age, pwr, spn, arms, hif, psw, l2, hses, chans,
      hls, oce, dma, buf, frc, med, frac, free, out⟩ :=
  h.of_eq rfl rfl rfl rfl

/-- The reset controller's part may be written so that it goes no step back. -/
theorem withRst {q : Rstc} (h : s.Steady u) (hq : u.rst.Onward q := by exact ⟨le_rfl, rfl, id, id⟩) :
    s.Steady { u with rst := q } :=
  ⟨⟨h.pending, fun c => (h.canon c).of_eq rfl rfl, h.onward.trans hq⟩, h.locked⟩

theorem setRst {q : Rstc} (h : s.Steady u) (hq : u.rst.Onward q := by exact ⟨le_rfl, rfl, id, id⟩) : s.Steady (u.setRst q) :=
  h.withRst hq

/-- While the RWL fields are open, an operation need not look which fields it writes. -/
theorem of_open {t : State} (hs : ¬ s.rst.Closed) (h : s.Kept t) : s.Steady t := ⟨h, fun c => absurd c hs⟩

/-- Where the fields are open now, they were open before. -/
theorem was_open (h : s.Steady u) (hu : ¬ u.rst.Closed) : ¬ s.rst.Closed := fun c => hu (h.onward.closed c)

/-- A field that is not RWL may be written at any time. -/
theorem wr {r : Reg} {v i j : Nat} (h : s.Steady u) (hr : r.info.acc ≠ .RWL := by decide) : s.Steady (u.wr r v i j) :=
  ⟨⟨h.pending, fun c => (h.canon c).wr r v i j, h.onward⟩,
    fun l q a b k => (State.rdW_wr_ne u v (fun e : q = r => hr (e ▸ k))).trans (h.locked l q a b k)⟩

theorem wrb {r : Reg} {b : Bool} {i j : Nat} (h : s.Steady u) (hr : r.info.acc ≠ .RWL := by decide) : s.Steady (u.wrb r b i j) :=
  h.wr hr

theorem satAdd {r : Reg} {n i j : Nat} (h : s.Steady u) (hr : r.info.acc ≠ .RWL := by decide) : s.Steady (u.satAdd r n i j) :=
  h.wr hr

theorem wrapAdd {r : Reg} {n i j : Nat} (h : s.Steady u) (hr : r.info.acc ≠ .RWL := by decide) : s.Steady (u.wrapAdd r n i j) :=
  h.wr hr

theorem wrBit {r : Reg} {b i j : Nat} {v : Bool} (h : s.Steady u) (hr : r.info.acc ≠ .RWL := by decide) :
    s.Steady (u.wrBit r b v i j) :=
  h.wr hr

theorem setMb {a : Nat} {b : Byte} (h : s.Steady u) : s.Steady (u.setMb a b) :=
  ⟨⟨h.pending, fun c => (h.canon c).setMb a b, h.onward⟩, h.locked⟩

theorem setMbs {a : Nat} {bs : List Byte} (h : s.Steady u) : s.Steady (u.setMbs a bs) :=
  ⟨⟨h.pending, fun c => (h.canon c).setMbs a bs, h.onward⟩, h.locked⟩

theorem filterMem {p : Host.Cell → Bool} {q : NSet} (h : s.Steady u) :
    s.Steady { u with mem := u.mem.filter p, poison := q } :=
  ⟨⟨h.pending, fun c => ((h.canon c).filterMem p).of_eq rfl rfl, h.onward⟩, h.locked⟩

/-! ### The ways operations are put together -/

theorem ite {c : Prop} {i : Decidable c} {a b : State} (ha : s.Steady a) (hb : s.Steady b) : s.Steady (if c then a else b) := by
  split <;> assumption

theorem iteOf {c : Prop} {i : Decidable c} {a b : State} (ha : c → s.Steady a) (hb : ¬ c → s.Steady b) :
    s.Steady (if c then a else b) := by
  split
  · exact ha ‹_›
  · exact hb ‹_›

/-- The state that a pair brings with it. -/
theorem of_snd {α : Type} {p : α × State} {x : α} {v : State} (h : s.Steady p.2) (e : p = (x, v)) : s.Steady v := by
  subst e; exact h

/-- The continuation of a state that followed already. -/
theorem after {v w : State} (hw : s.Steady v → s.Steady w) (h : s.Steady v) : s.Steady w := hw h

theorem on {c : Bool} {f : State → State} (h : s.Steady u) (hf : s.Steady (f u)) : s.Steady (u.on c f) :=
  .ite hf h

theorem onOf {c : Bool} {f : State → State} (h : s.Steady u) (hf : c = true → s.Steady (f u)) : s.Steady (u.on c f) :=
  .iteOf hf (fun _ => h)

theorem foldl {α : Type} {f : State → α → State} {l : List α} (hf : ∀ v a, s.Steady v → s.Steady (f v a)) (h : s.Steady u) :
    s.Steady (l.foldl f u) := by
  induction l generalizing u with
  | nil => exact h
  | cons a l ih => exact ih (hf u a h)

end State.Steady

namespace Res.Steady

variable {s t : State} {r q : Res}

theorem next (h : s.Steady t) : Res.Steady s (.next t) := ⟨t, rfl, h⟩

theorem ite {c : Prop} {i : Decidable c} (hr : Res.Steady s r) (hq : Res.Steady s q) : Res.Steady s (if c then r else q) := by
  split <;> assumption

/-- One of two commands, chosen before the state is given. -/
theorem pick {c : Prop} {i : Decidable c} {f g : State → Res} {u : State} (hf : Res.Steady s (f u)) (hg : Res.Steady s (g u)) :
    Res.Steady s ((if c then f else g) u) := by
  split <;> assumption

theorem after {v : State} (hr : s.Steady v → Res.Steady s r) (h : s.Steady v) : Res.Steady s r := hr h

end Res.Steady

end Sys2Proof.Machine
end

section

/- The proofs are elaborated one after the other: a thread for each of them, all waiting for the kernel, takes more memory than
the check allows. -/
set_option Elab.async false

/-! PROOFS. One lemma per operation of the model: what it answers is steady where its start is. Each proof goes through the
operation as it is written, by the lemmas of what it calls. -/

namespace Sys2Proof.Machine

variable {s u : State}

/-! ### Machine/Ops -/

theorem State.Steady.mwr {n a v : Nat} (hu : s.Steady u) : s.Steady (u.mwr n a v) := hu.setMbs

theorem State.Steady.setPoison {a n : Nat} {p : Bool} (hu : s.Steady u) : s.Steady (u.setPoison a n p) := hu.parts

theorem State.Steady.setWseq {n : Nat} (hu : s.Steady u) : s.Steady (u.setWseq n) := hu.mwr

theorem State.Steady.setPassCount {n : Nat} (hu : s.Steady u) : s.Steady (u.setPassCount n) := hu.mwr

theorem State.Steady.setPassRec {flag : Bool} {cause : Nat} (hu : s.Steady u) : s.Steady (u.setPassRec flag cause) := hu.mwr

theorem State.Steady.draw {w : Nat} (hu : s.Steady u) : s.Steady (u.draw w).2 := hu.parts

theorem State.Steady.drawMany {n : Nat} (hu : s.Steady u) : s.Steady (u.drawMany n).2 := hu.parts

theorem State.Steady.emit {o : Out} (hu : s.Steady u) : s.Steady (u.emit o) := hu.parts

theorem State.Steady.fabric {tag : Nat} (hu : s.Steady u) : s.Steady (u.fabric tag) := hu.emit

theorem State.Steady.ownAccess {kind : Option Nat} {head : Nat} (hu : s.Steady u) : s.Steady (u.ownAccess kind head) :=
  hu.parts.fabric

theorem State.Steady.ownAccesses {kind : Option Nat} {head n : Nat} (hu : s.Steady u) : s.Steady (u.ownAccesses kind head n) := by
  induction n generalizing u with
  | zero => exact hu
  | succ n ih => exact ih hu.ownAccess

theorem State.Steady.event {src : Nat} {fw : Bool} {d : List Byte × Bool} (hu : s.Steady u) : s.Steady (u.event src fw d) :=
  hu.parts

theorem State.Steady.lostRun (hu : s.Steady u) : s.Steady u.lostRun := by
  unfold State.lostRun
  split
  · exact hu
  · exact .ite hu.parts.event hu

theorem State.Steady.raiseRaw {src : Nat} {fw : Bool} {d : List Byte × Bool} (hu : s.Steady u) :
    s.Steady (u.raiseRaw src fw d) := .ite hu.lostRun.event hu

theorem State.Steady.raise {src : Nat} {items : List (Nat × Nat)} (hu : s.Steady u) : s.Steady (u.raise src items) :=
  hu.raiseRaw

theorem State.Steady.edge {src : Nat} (hu : s.Steady u) : s.Steady (u.edge src) := hu.parts

theorem State.Steady.hold {src : Nat} {items : List (Nat × Nat)} (hu : s.Steady u) : s.Steady (u.hold src items) := hu.parts

theorem State.Steady.raiseHeld (hu : s.Steady u) : s.Steady u.raiseHeld := .foldl (fun _ _ hv => hv.raise) hu.parts

/-! ### Machine/HifOps -/

theorem State.Steady.setSq {f q : Nat} {v : Option Sq} (hu : s.Steady u) : s.Steady (u.setSq f q v) := hu.parts

theorem State.Steady.setCq {f q : Nat} {v : Option Cq} (hu : s.Steady u) : s.Steady (u.setCq f q v) := hu.parts

theorem State.Steady.setCtrl {f : Nat} {c : Ctrl} (hu : s.Steady u) : s.Steady (u.setCtrl f c) := hu.parts

theorem State.Steady.setCmds {l : List Cmd} (hu : s.Steady u) : s.Steady (u.setCmds l) := hu.parts

theorem State.Steady.updCmd {tag : Nat} {f : Cmd → Cmd} (hu : s.Steady u) : s.Steady (u.updCmd tag f) := hu.setCmds

theorem State.Steady.setArea {a : Nat} {v : SysArea} (hu : s.Steady u) : s.Steady (u.setArea a v) := hu.parts

theorem State.Steady.setZones {t : NTab Zone} (hu : s.Steady u) : s.Steady (u.setZones t) :=
  .foldl (fun _ _ hv => hv.setArea) hu.parts

theorem State.Steady.setZone {ns z : Nat} {v : Zone} (hu : s.Steady u) : s.Steady (u.setZone ns z v) := hu.setZones

theorem State.Steady.setNs {nsidx : Nat} {v : Option Nsp} (hu : s.Steady u) : s.Steady (u.setNs nsidx v) := hu.parts

theorem State.Steady.setFeat {f fid sub v : Nat} (hu : s.Steady u) : s.Steady (u.setFeat f fid sub v) := hu.parts

theorem State.Steady.ctxState {tag : Nat} (hu : s.Steady u) : s.Steady (u.ctxState tag) := by
  unfold State.ctxState
  split
  · exact hu.mwr
  · exact hu

theorem State.Steady.fairCheck (hu : s.Steady u) : s.Steady u.fairCheck := .ite hu (.ite hu.parts.raise hu.parts.raise)

theorem State.Steady.giveCredit {k n : Nat} (hu : s.Steady u) : s.Steady (u.giveCredit k n) := .ite hu.wr.wr.raise hu.wr

theorem State.Steady.takeCredit {k n : Nat} (hu : s.Steady u) : s.Steady (u.takeCredit k n) := hu.wr

theorem State.Steady.noteStatus {c : Cmd} {st : Nat} (hu : s.Steady u) : s.Steady (u.noteStatus c st) :=
  .ite hu (.raise (.parts (.ite hu.raise hu)))

theorem State.Steady.creditsBack {c : Cmd} (hu : s.Steady u) : s.Steady (u.creditsBack c) :=
  .after (fun h1 => .ite h1 h1.giveCredit) (.ite hu.giveCredit hu)

theorem State.Steady.dropCmd {tag : Nat} (hu : s.Steady u) : s.Steady (u.dropCmd tag) := hu.setCmds

theorem State.Steady.complete0 {tag st d0 d1 : Nat} (hu : s.Steady u) : s.Steady (u.complete0 tag st d0 d1) := by
  unfold State.complete0
  split
  · exact hu
  · exact .ite hu (.noteStatus (.ite hu.creditsBack.dropCmd hu.creditsBack.updCmd.parts.ctxState))

theorem State.Steady.notify {f b dw0 : Nat} (hu : s.Steady u) : s.Steady (u.notify f b dw0) :=
  .ite hu (by
    dsimp only
    split
    · exact hu.setCtrl.complete0
    · exact .ite hu hu.setCtrl)

theorem State.Steady.notifyWarn {bit : Nat} (hu : s.Steady u) : s.Steady (u.notifyWarn bit) :=
  .foldl (fun _ _ hv => hv.notify) hu

theorem State.Steady.zoneChanged {n : Nsp} {z cause : Nat} (hu : s.Steady u) : s.Steady (u.zoneChanged n z cause) :=
  .raise (.foldl (fun _ _ hv => hv.parts.notify) hu)

theorem State.Steady.fullCheck {n : Nsp} {z : Nat} (hu : s.Steady u) : s.Steady (u.fullCheck n z) :=
  .ite hu.setZone.zoneChanged hu

theorem State.Steady.closeUnit {ns z : Nat} (hu : s.Steady u) : s.Steady (u.closeUnit ns z) :=
  .ite hu (by
    split
    · exact hu.setZone.fullCheck
    · exact hu.setZone)

theorem State.Steady.closeUnits {p : Nat → Bool} (hu : s.Steady u) : s.Steady (u.closeUnits p) :=
  .foldl (fun _ _ hv => .ite hv.closeUnit hv) hu

theorem State.Steady.guardCheck (hu : s.Steady u) : s.Steady u.guardCheck := .ite hu (.ite hu.wr.raise.closeUnits hu.wr)

theorem State.Steady.complete1 {tag st d0 d1 : Nat} (hu : s.Steady u) : s.Steady (u.complete1 tag st d0 d1) :=
  hu.complete0.guardCheck

theorem State.Steady.failLater {c : Cmd} (hu : s.Steady u) : s.Steady (u.failLater c) := by
  unfold State.failLater
  split
  · exact .foldl (fun _ _ hv => hv.complete1) hu
  · exact hu

theorem State.Steady.complete {tag st d0 d1 : Nat} (hu : s.Steady u) : s.Steady (u.complete tag st d0 d1) := by
  unfold State.complete
  split
  · exact hu
  · exact .ite hu.complete1.failLater (.complete1 (by
        split
        · exact hu.setZone
        · exact hu))

theorem State.Steady.finish {tag st d0 d1 : Nat} (hu : s.Steady u) : s.Steady (u.finish tag st d0 d1) := by
  unfold State.finish
  split
  · exact hu
  · exact .ite hu.complete hu

theorem State.Steady.finishCmd {c : Cmd} {st d0 d1 : Nat} (hu : s.Steady u) : s.Steady (u.finishCmd c st d0 d1) := hu.finish

theorem State.Steady.signal {f q : Nat} {k : Cq} (hu : s.Steady u) : s.Steady (u.signal f q k) :=
  .ite hu (.ite hu.setCq.emit hu.setCq)

theorem State.Steady.deleteCheck {f q : Nat} (hu : s.Steady u) : s.Steady (u.deleteCheck f q) := by
  unfold State.deleteCheck
  split
  · exact .ite hu (.ite hu hu.setSq.complete.raise)
  · exact hu

theorem State.Steady.entryTag {tag func nsidx : Nat} {ord : Bool} (hu : s.Steady u) :
    s.Steady (u.entryTag tag func nsidx ord) := hu.parts.fabric

theorem State.Steady.postOne {f q : Nat} (hu : s.Steady u) : s.Steady (u.postOne f q) := by
  unfold State.postOne
  split
  · exact .ite hu.updCmd.ctxState.entryTag.setCq.emit.signal.deleteCheck hu
  · exact hu

theorem State.Steady.failNow {tag st : Nat} (hu : s.Steady u) : s.Steady (u.failNow tag st) := by
  unfold State.failNow
  split
  · exact hu
  · exact hu.complete1.postOne

theorem State.Steady.endCmds {pick : Cmd → Bool} {quiet : Bool} (hu : s.Steady u) : s.Steady (u.endCmds pick quiet) :=
  .after (fun h2 => .ite h2.setCmds h2) (.foldl (fun _ _ hv => hv.failLater) (.foldl (fun _ _ hv => hv.complete1)
      hu.setCmds))

theorem State.Steady.virtEvent {f : Nat} (hu : s.Steady u) : s.Steady (u.virtEvent f) := hu.raise

theorem State.Steady.resetCtrl {f cause : Nat} (hu : s.Steady u) : s.Steady (u.resetCtrl f cause) :=
  .after (fun h3 => .after (fun h5 => .raise (.fairCheck (.closeUnits (.ite h5.wr.parts h5)))) (.ite h3.setCtrl.virtEvent
      h3.setCtrl)) hu.endCmds.setCmds.parts

theorem State.Steady.endTest {result : Nat} (hu : s.Steady u) : s.Steady (u.endTest result) := by
  unfold State.endTest
  split
  · exact hu
  · exact hu.parts.raise

theorem State.Steady.resetAll {cause : Nat} (hu : s.Steady u) : s.Steady (u.resetAll cause) :=
  .parts (.foldl (fun _ _ hv => hv.resetCtrl) (by
    split
    · exact .ite hu.endTest hu
    · exact hu))

/-! ### Machine/PowerOps -/

theorem State.Steady.cutFrame {h : Nat} (hu : s.Steady u) : s.Steady (u.cutFrame h) := by
  unfold State.cutFrame
  dsimp only
  split
  · exact hu.parts
  · exact hu

theorem State.Steady.wpArm {a : Nat} (hu : s.Steady u) : s.Steady (u.wpArm a) :=
  .ite (.raise (.foldl (fun _ _ hv => hv.cutFrame) hu.wrBit.wr)) (.ite hu.wrBit hu)

theorem State.Steady.updWp (hu : s.Steady u) : s.Steady u.updWp := hu.wpArm.wpArm.wpArm.wpArm

theorem State.Steady.setPwr {p : Pwr} (hu : s.Steady u) : s.Steady (u.setPwr p) := hu.parts

theorem State.Steady.setSpn {p : Spn} (hu : s.Steady u) : s.Steady (u.setSpn p) := hu.parts

theorem State.Steady.setPsw {p : Psw} (hu : s.Steady u) : s.Steady (u.setPsw p) := hu.parts

theorem State.Steady.setArm {a : Nat} {v : ArmS} (hu : s.Steady u) : s.Steady (u.setArm a v) := hu.parts

theorem State.Steady.planned {cycles : Nat} (hu : s.Steady u) : s.Steady (u.planned cycles) := by
  unfold State.planned; dsimp only; split <;> exact hu.setSpn

theorem State.Steady.powerEvent {src : Nat} {items : List (Nat × Nat)} (hu : s.Steady u) :
    s.Steady (u.powerEvent src items) := .ite hu.raise hu.hold

theorem State.Steady.linkHeard (hu : s.Steady u) : s.Steady u.linkHeard := .ite hu hu.setPwr.raiseHeld

theorem State.Steady.setPlaus {a p : Nat} {b : Bool} {cause : Nat} {res : Int} (hu : s.Steady u) :
    s.Steady (u.setPlaus a p b cause res) := .ite hu (.raise (.wrBit (.ite hu hu.cutFrame)))

theorem State.Steady.armPlaus {a : Nat} (hu : s.Steady u) : s.Steady (u.armPlaus a) := .ite hu.wrb hu.wrb.setPwr

theorem State.Steady.losePlaus {a p cause : Nat} (hu : s.Steady u) : s.Steady (u.losePlaus a p cause) := hu.setPlaus

theorem State.Steady.allImplausible {a : Nat} (hu : s.Steady u) : s.Steady (u.allImplausible a) :=
  .armPlaus (.foldl (fun _ _ hv => hv.losePlaus) hu)

theorem State.Steady.stopMicro {a p : Nat} (hu : s.Steady u) : s.Steady (u.stopMicro a p) :=
  .wrBit (.wrBit (.ite hu.setArm hu.setArm.emit))

theorem State.Steady.stopLoops {a : Nat} (hu : s.Steady u) : s.Steady (u.stopLoops a) :=
  .after (fun h1 => .wr (.wr (.wr (.wr (.setArm (.ite h1.wr h1)))))) (.foldl (fun _ _ hv => hv.stopMicro) hu)

theorem State.Steady.loseTiming {a : Nat} (hu : s.Steady u) : s.Steady (u.loseTiming a) :=
  .foldl (fun _ _ hv => .ite hv.parts.wrBit hv.parts) hu

theorem State.Steady.setSceState {a st : Nat} (hu : s.Steady u) : s.Steady (u.setSceState a st) :=
  .ite hu.wr.wrb.loseTiming hu.wr.wrb

theorem State.Steady.sceFault {a cause : Nat} (hu : s.Steady u) : s.Steady (u.sceFault a cause) := hu.raise

theorem State.Steady.drive {a : Nat} {o : Out} (hu : s.Steady u) : s.Steady (u.drive a o) := .ite hu hu.emit

theorem State.Steady.sceDrive {a : Nat} {o : Out} (hu : s.Steady u) : s.Steady (u.sceDrive a o) := .ite hu hu.drive

theorem State.Steady.armUnload {a : Nat} (hu : s.Steady u) : s.Steady (u.armUnload a) :=
  hu.stopLoops.allImplausible.setSceState.updWp.sceDrive

theorem State.Steady.armRetract {a : Nat} (hu : s.Steady u) : s.Steady (u.armRetract a) :=
  hu.stopLoops.allImplausible.setSceState.drive

theorem State.Steady.retract {c : RetractCause} (hu : s.Steady u) : s.Steady (u.retract c) := by
  unfold State.retract
  have h : s.Steady ((List.range 4).foldl (fun s a => s.armRetract a) (u.setPwr { u.pwr with retract := 1 })) :=
    .foldl (fun _ _ hv => hv.armRetract) hu.setPwr
  refine .ite hu ?_
  cases c
  case fault => exact .updWp (.powerEvent (.parts h))
  all_goals exact .updWp (.powerEvent h)

theorem State.Steady.sendBelow (hu : s.Steady u) : s.Steady u.sendBelow := .ite hu.emit hu

theorem State.Steady.setBelow {b : Nat} (hu : s.Steady u) : s.Steady (u.setBelow b) := .ite hu hu.wr.raise.sendBelow

theorem State.Steady.uspDown {cause : Nat} (hu : s.Steady u) : s.Steady (u.uspDown cause) :=
  .ite hu.wr.wr.wr.wr.setPsw.raise hu

theorem State.Steady.edpDown {cause : Nat} (hu : s.Steady u) : s.Steady (u.edpDown cause) :=
  .ite hu.wr.wr.wr.setPsw.raise.setBelow hu

theorem State.Steady.linkReset (hu : s.Steady u) : s.Steady u.linkReset := hu.setPsw.resetAll

theorem State.Steady.linksDown (hu : s.Steady u) : s.Steady u.linksDown := hu.uspDown.edpDown

theorem State.Steady.leave (hu : s.Steady u) : s.Steady u.leave := hu.wr.setPsw.linksDown.linkReset

theorem State.Steady.passClose {cause : Nat} (hu : s.Steady u) : s.Steady (u.passClose cause) :=
  .ite hu.wr.setPassRec.raise.leave hu

theorem State.Steady.passClose6 (hu : s.Steady u) : s.Steady u.passClose6 := .ite hu.wr.setPwr.leave hu

theorem State.Steady.recordClose6 (hu : s.Steady u) : s.Steady u.recordClose6 :=
  .ite (.after (fun h1 => .ite h1.raise h1.hold) hu.setPassRec.setPwr) hu

/-! ### Machine/LoopOps -/

theorem State.Steady.bankFault {e cause : Nat} (hu : s.Steady u) : s.Steady (u.bankFault e cause) :=
  .ite hu.sceFault hu.raise

theorem State.Steady.castleTo {e b : Nat} (hu : s.Steady u) : s.Steady (u.castleTo e b) :=
  .ite hu.wr.wr (.after (fun h1 => .ite h1.wr h1) (.ite hu.setArm hu.setSpn))

theorem State.Steady.bankSwap {e : Nat} (hu : s.Steady u) : s.Steady (u.bankSwap e) := .ite hu.wr.bankFault hu.castleTo

theorem State.Steady.bankStore {e : Nat} {bankB : Bool} {w v : Nat} (hu : s.Steady u) : s.Steady (u.bankStore e bankB w v) :=
  .ite hu (.ite hu.wr.bankFault hu.mwr)

/-! ### Machine/AdminOps -/

theorem State.Steady.exitDone (hu : s.Steady u) : s.Steady u.exitDone := .ite hu.parts hu

theorem Res.Steady.onCmd {c : Option Cmd} {f : Cmd → State} (hf : ∀ x : Cmd, s.Steady (f x)) (hu : s.Steady u) :
    Res.Steady s (u.onCmd c f) :=
  .next (by
    split
    · exact .ite hu.finishCmd (hf _)
    · exact hu)

/-! ### Machine/Buffer -/

theorem State.Steady.busWrite {a : Nat} {bs : List Byte} {p : Bool} (hu : s.Steady u) : s.Steady (u.busWrite a bs p) :=
  hu.setMbs.parts

theorem State.Steady.spaceError {a n kind : Nat} (hu : s.Steady u) : s.Steady (u.spaceError a n kind) := .ite hu.raise hu

theorem State.Steady.spaceErrors {l : List (Nat × Nat)} (hu : s.Steady u) : s.Steady (u.spaceErrors l) := by
  unfold State.spaceErrors
  split
  · exact hu.parts.spaceError
  · exact hu

theorem State.Steady.lineCorrected {line : Nat} (hu : s.Steady u) : s.Steady (u.lineCorrected line) :=
  .ite hu.satAdd.wr.raise.parts hu.satAdd.wr.parts

theorem State.Steady.lineFailed {line kind func : Nat} (hu : s.Steady u) : s.Steady (u.lineFailed line kind func) :=
  .ite hu hu.parts.satAdd.wr.raise

theorem State.Steady.lineRead {line kind func : Nat} {l : Ecc} (hu : s.Steady u) : s.Steady (u.lineRead line kind func l) :=
    by
  unfold State.lineRead
  split
  · exact hu
  · exact .ite hu hu.lineCorrected
  · exact hu.lineFailed

theorem execPatrolScrubRead_steady {ecc : Ecc} (hu : s.Steady u) : Res.Steady s (execPatrolScrubRead ecc u) :=
  .next (.on hu (.parts (.ite hu hu.lineRead)))

theorem execMr4Poll_steady {stack : Fin 2} {code : BitVec 3} {hot moved : Bool} (hu : s.Steady u) :
    Res.Steady s (execMr4Poll stack code hot moved u) :=
  .after (fun h1 => .after (fun h4 => .next (.ite h4.wr h4)) (.ite h1.parts.wrb.raise h1.parts.wrb)) (.ite hu.wr hu.wr)

theorem execRetrain_steady (hu : s.Steady u) : Res.Steady s (execRetrain u) := .next (.on hu hu.wr)

theorem execDqRetrainDone_steady {eye : Word} (hu : s.Steady u) : Res.Steady s (execDqRetrainDone eye u) :=
  .next (.on hu hu.wr.raise)

theorem execPlock_steady (hu : s.Steady u) : Res.Steady s (execPlock u) :=
  .next (.on hu (by
      split
      · exact hu.wr.raise
      · exact .foldl (fun _ _ hv => hv.wr) hu.wr))

theorem execBufPretWrite_steady {k : Fin 4} {v : BitVec 25} (hu : s.Steady u) : Res.Steady s (execBufPretWrite k v u) :=
  .next (.on hu (.ite hu.giveCredit (.ite hu.wr hu.takeCredit)))

theorem execShapeSegmentStart_steady {f : Func} {len : Nat} (hu : s.Steady u) :
    Res.Steady s (execShapeSegmentStart f len u) :=
  .next (by
    split
    · exact .on hu hu.parts.wr.updCmd
    · exact hu)

/-! ### Machine/Recorder -/

theorem State.Steady.writeBlock (hu : s.Steady u) : s.Steady u.writeBlock := hu.setMbs.parts

theorem State.Steady.fullFlag (hu : s.Steady u) : s.Steady u.fullFlag := hu.wrb

theorem State.Steady.gseq {n : Nat} (hu : s.Steady u) : s.Steady (u.gseq n) := hu.wrapAdd

theorem State.Steady.evenGseq (hu : s.Steady u) : s.Steady u.evenGseq := .ite hu.gseq hu

theorem State.Steady.saveBlock (hu : s.Steady u) : s.Steady u.saveBlock := hu.gseq.writeBlock.gseq

theorem State.Steady.warnSet {bit : Nat} {v : Bool} (hu : s.Steady u) : s.Steady (u.warnSet bit v) :=
  .ite hu (.ite hu.parts.raise.notifyWarn hu.parts.raise)

theorem State.Steady.mramFail {cause offset src seq ahead : Nat} (hu : s.Steady u) :
    s.Steady (u.mramFail cause offset src seq ahead) := by
  unfold State.mramFail
  exact .warnSet (.parts (.parts hu.evenGseq.wr.wr.wr.wr.wr))

theorem State.Steady.mramFailIdle {cause offset : Nat} (hu : s.Steady u) : s.Steady (u.mramFailIdle cause offset) :=
  hu.parts.mramFail

theorem State.Steady.blockFails (hu : s.Steady u) : s.Steady u.blockFails := hu.parts.mwr.mwr

theorem State.Steady.updateBlock {ok : Bool} (hu : s.Steady u) : s.Steady (u.updateBlock ok) :=
  .ite hu.saveBlock hu.gseq.blockFails.mramFailIdle

theorem State.Steady.storedOpen (hu : s.Steady u) : s.Steady u.storedOpen := hu.wr.wr.wr.wr.wr.wr.wr.wr.parts

theorem State.Steady.recorderStart {powerOn blkOk : Bool} (hu : s.Steady u) : s.Steady (u.recorderStart powerOn blkOk) :=
  .ite hu.parts.storedOpen.parts.mramFailIdle (.after (fun h7 => .ite h7.parts.mramFailIdle h7)
      hu.parts.wr.wr.wr.wr.wr.wr.wr.wr.fullFlag.updateBlock)

theorem State.Steady.logAppend {l : List (List Byte)} (hu : s.Steady u) : s.Steady (u.logAppend l) :=
  .foldl (fun _ _ hv => hv.parts) hu

theorem State.Steady.spill {l : List (List Byte)} (hu : s.Steady u) : s.Steady (u.spill l) :=
  .ite hu.parts.logAppend hu.parts

theorem State.Steady.spillC {old : Nat} (hu : s.Steady u) : s.Steady (u.spillC old) := hu.spill

theorem State.Steady.spillM {old : Nat} (hu : s.Steady u) : s.Steady (u.spillM old) := .ite hu hu.spill

theorem State.Steady.popQueue (hu : s.Steady u) : s.Steady u.popQueue := hu.parts

theorem State.Steady.endRecord {e : Ent} {seqOk blkOk : Bool} (hu : s.Steady u) : s.Steady (u.endRecord e seqOk blkOk) :=
  .ite hu.parts.mwr.mramFail (.ite hu.mwr.blockFails.mramFail hu.mwr.writeBlock.gseq.popQueue)

theorem State.Steady.retire {inF : Bool} {slot : Nat} {e : Ent} (hu : s.Steady u) : s.Steady (u.retire inF slot e) :=
  .after (fun h3 => .ite h3.mramFail h3) hu.mwr.parts.wr.wr.fullFlag.raise.writeBlock.gseq

theorem State.Steady.passSlot {slot : Nat} (hu : s.Steady u) : s.Steady (u.passSlot slot) := hu.wr.parts

theorem State.Steady.takeSlot {slot src : Nat} (hu : s.Steady u) : s.Steady (u.takeSlot slot src) :=
  .after (fun h2 => .ite h2.satAdd.wr h2) hu.parts.passSlot

theorem State.Steady.ringStore {a : Nat} {b : List Byte} (hu : s.Steady u) : s.Steady (u.ringStore a b) :=
  .ite hu.ownAccess.busWrite hu.spaceErrors

theorem State.Steady.ringRecord {e : Ent} (hu : s.Steady u) : s.Steady (u.ringRecord e) :=
  .ite hu hu.ringStore.parts.wr.gseq.popQueue

theorem State.Steady.mergeRecord {k : Nat} {e : Ent} {slotOk seqOk blkOk : Bool} (hu : s.Steady u) :
    s.Steady (u.mergeRecord k e slotOk seqOk blkOk) := .ite hu.setMbs.endRecord hu.parts.retire

theorem State.Steady.redoRecord {e : Ent} {slotOk seqOk blkOk : Bool} (hu : s.Steady u) :
    s.Steady (u.redoRecord e slotOk seqOk blkOk) := .ite hu.setMbs.takeSlot.parts.endRecord hu.passSlot.retire

theorem State.Steady.newRecord {e : Ent} {broken slotOk seqOk blkOk : Bool} (hu : s.Steady u) :
    s.Steady (u.newRecord e broken slotOk seqOk blkOk) :=
  .ite (.retire (.ite hu hu.passSlot)) (.after (fun h2 => .endRecord (.ite h2.parts.wr.fullFlag.spill h2.takeSlot))
      hu.setMbs.parts)

theorem State.Steady.recordWrite {slotOk seqOk blkOk : Bool} (hu : s.Steady u) :
    s.Steady (u.recordWrite slotOk seqOk blkOk) := by
  unfold State.recordWrite
  split
  · exact hu
  · exact .ite hu (.ite hu.ringRecord (.ite hu.gseq.redoRecord (by
          split
          · exact hu.gseq.mergeRecord
          · exact hu.gseq.newRecord
          · exact hu.gseq.newRecord)))

theorem State.Steady.portError {src : Nat} {data : List (Nat × Nat)} (hu : s.Steady u) : s.Steady (u.portError src data) :=
  .ite hu (.ite hu.setPsw (.ite hu.setPsw.edpDown hu))

theorem execEventRaise_steady {src : Source} {data : List (Nat × Nat)} (hu : s.Steady u) :
    Res.Steady s (execEventRaise src data u) := .next (.on hu hu.portError.raise)

theorem execEvcRaiseWrite_steady {c : Hart} {v : W32} (hu : s.Steady u) : Res.Steady s (execEvcRaiseWrite c v u) :=
  .next (.on hu hu.raiseRaw)

theorem execRecordWrite_steady {slotOk seqOk blkOk : Bool} (hu : s.Steady u) :
    Res.Steady s (execRecordWrite slotOk seqOk blkOk u) := .next (.on hu hu.recordWrite)

theorem execLostEventsRecord_steady (hu : s.Steady u) : Res.Steady s (execLostEventsRecord u) := .next (.on hu hu.lostRun)

theorem execHold_steady (hu : s.Steady u) : Res.Steady s (execHold u) := .next hu.wr

theorem execHoldExpire_steady (hu : s.Steady u) : Res.Steady s (execHoldExpire u) := .next (.on hu hu.wr.wr)

theorem execOptimeSave_steady {blkOk : Bool} (hu : s.Steady u) : Res.Steady s (execOptimeSave u blkOk) :=
  .next (.on hu hu.updateBlock)

/-! ### Machine/Media -/

theorem State.Steady.setMed {m : Media} (hu : s.Steady u) : s.Steady (u.setMed m) := hu.parts

theorem State.Steady.setBand {a b : Nat} {v : Band} (hu : s.Steady u) : s.Steady (u.setBand a b v) := hu.setMed

theorem State.Steady.setCopy {a : Nat} {c : Option (Nat × Nat)} (hu : s.Steady u) : s.Steady (u.setCopy a c) := hu.setMed

theorem State.Steady.pickBand {a first n : Nat} (hu : s.Steady u) : s.Steady (u.pickBand a first n).2 := hu.parts

theorem State.Steady.pickAny {a : Nat} (hu : s.Steady u) : s.Steady (u.pickAny a).2 := hu.pickBand

theorem State.Steady.putZone {ns z b : Nat} (hu : s.Steady u) : s.Steady (u.putZone ns z b) := hu.setBand.setMed

theorem State.Steady.clearBand {a b : Nat} (hu : s.Steady u) : s.Steady (u.clearBand a b) := hu.setBand

theorem State.Steady.seqFrom {ns z b : Nat} (hu : s.Steady u) : s.Steady (u.seqFrom ns z b) := hu.setZone

theorem State.Steady.placeZones {ns count : Nat} (hu : s.Steady u) : s.Steady (u.placeZones ns count) :=
  .foldl (fun _ _ hv => by
    split
    · exact (hv.pickAny.of_snd ‹_›).putZone.seqFrom
    · exact hv.pickAny.of_snd ‹_›) hu

theorem State.Steady.dropPlaces {ns : Nat} (hu : s.Steady u) : s.Steady (u.dropPlaces ns) :=
  .setMed (.foldl (fun _ _ hv => hv.clearBand) hu)

theorem State.Steady.saveArm {a : Nat} (hu : s.Steady u) : s.Steady (u.saveArm a) := hu.setArea

theorem State.Steady.saveCounts (hu : s.Steady u) : s.Steady u.saveCounts := .setMed (.foldl (fun _ _ hv => hv.saveArm) hu)

theorem State.Steady.charge {a b n : Nat} (hu : s.Steady u) : s.Steady (u.charge a b n) := hu.setBand

theorem State.Steady.chargeNear {a b n : Nat} (hu : s.Steady u) : s.Steady (u.chargeNear a b n) :=
  .ite hu (.foldl (fun _ _ hv => hv.charge) hu)

theorem State.Steady.bandWritten {ns z lo hi : Nat} (hu : s.Steady u) : s.Steady (u.bandWritten ns z lo hi) := by
  unfold State.bandWritten
  have h : s.Steady (if lo < hi then u.setMed { u.med with moved := NSet.add (zoneKey ns z) u.med.moved } else u) := .ite hu.setMed hu
  dsimp only
  split
  · exact .chargeNear (.ite h.setBand h)
  · exact h

theorem State.Steady.saveRecords (hu : s.Steady u) : s.Steady u.saveRecords := hu.saveCounts

theorem State.Steady.mediaStop (hu : s.Steady u) : s.Steady u.mediaStop :=
  .foldl (fun _ _ hv => by
    split
    · exact hv.chargeNear
    · exact hv) hu.setMed

theorem State.Steady.countMedia {k i : Nat} (hu : s.Steady u) : s.Steady (u.countMedia k i) := hu.setMed

theorem State.Steady.zoneFault {ns z a b : Nat} (hu : s.Steady u) : s.Steady (u.zoneFault ns z a b) :=
  .ite hu.countMedia.setBand hu.countMedia

theorem State.Steady.growSlot {x : Nat × Nat × Nat} (hu : s.Steady u) : s.Steady (u.growSlot x) := .ite hu hu.setArea

theorem State.Steady.growDefect {ns z a b d : Nat} (hu : s.Steady u) : s.Steady (u.growDefect ns z a b d) :=
  .ite hu hu.growSlot.setBand.zoneFault

theorem State.Steady.slotFault {x : Nat × Nat × Nat} (hu : s.Steady u) : s.Steady (u.slotFault x).1 := hu.countMedia

theorem State.Steady.spareSector {a : Nat} (hu : s.Steady u) : s.Steady (u.spareSector a).2 := hu.parts

theorem State.Steady.relocate {n : Nsp} {lba : Nat} (hu : s.Steady u) : s.Steady (u.relocate n lba) := by
  unfold State.relocate
  refine .ite hu.parts.setArea ?_
  split
  · exact hu.setBand.setMed
  · exact .ite hu hu.setZone.zoneChanged

theorem State.Steady.relocateAll {n : Nsp} {z d : Nat} (hu : s.Steady u) : s.Steady (u.relocateAll n z d) :=
  .foldl (fun _ _ hv => .ite hv hv.relocate) hu

theorem State.Steady.retryWants (hu : s.Steady u) : s.Steady u.retryWants :=
  .foldl (fun _ _ hv => by
    split
    · exact hv.relocate
    · exact hv) hu.setMed

theorem State.Steady.convLadder {key step : Nat} (hu : s.Steady u) : s.Steady (u.convLadder key step) := by
  unfold State.convLadder
  split
  · exact hu
  · exact .ite hu (.ite hu.growSlot (.ite hu.slotFault.growSlot hu.slotFault))

theorem State.Steady.zoneLadder {n : Nsp} {lba d step : Nat} (hu : s.Steady u) : s.Steady (u.zoneLadder n lba d step) := by
  unfold State.zoneLadder
  dsimp only
  split
  · exact hu
  · exact .ite hu (.ite hu.zoneFault.growDefect (.ite hu.slotFault.growDefect.relocateAll hu.slotFault))

theorem State.Steady.ladderEnd {n : Nsp} {lba d step : Nat} (hu : s.Steady u) : s.Steady (u.ladderEnd n lba d step) :=
  .after (fun h1 => .ite h1.zoneLadder h1.convLadder) (.ite hu.parts hu)

theorem State.Steady.blockPos {n : Nsp} {lba : Nat} (hu : s.Steady u) : s.Steady (u.blockPos n lba).2 := by
  unfold State.blockPos
  dsimp only
  split
  · exact hu
  · split
    · exact hu
    · exact hu
    · exact hu.parts

theorem State.Steady.ladders {n : Nsp} {lo : Nat} {limited : Bool} {tler : Nat} {holds : State → Nat → Bool} {l : List
    Retry} (hu : s.Steady u) :
    s.Steady (u.ladders n lo limited tler holds l) := .foldl (fun _ _ hv => .ite hv.blockPos.ladderEnd hv) hu

theorem State.Steady.freeEntries {ns z : Nat} (hu : s.Steady u) : s.Steady (u.freeEntries ns z) := hu.setMed.setArea

theorem State.Steady.exchange {a f t : Nat} (hu : s.Steady u) : s.Steady (u.exchange a f t) := by
  unfold State.exchange
  dsimp only
  split
  · exact hu.setCopy
  · exact hu.setCopy.clearBand.putZone.setBand.seqFrom.freeEntries.chargeNear.retryWants

theorem State.Steady.refreshStep {a b : Nat} (hu : s.Steady u) : s.Steady (u.refreshStep a b) := by
  unfold State.refreshStep
  split
  · exact hu.exchange
  · split
    · exact (hu.pickAny.of_snd ‹_›).setCopy
    · exact hu.pickAny.of_snd ‹_›

theorem State.Steady.bandReset {ns z : Nat} (hu : s.Steady u) : s.Steady (u.bandReset ns z) := by
  unfold State.bandReset
  split
  · exact hu
  · rename_i a b _
    have h : s.Steady ((u.freeEntries ns z).clearBand a b).retryWants := hu.freeEntries.clearBand.retryWants
    dsimp only
    split <;> rename_i e <;> split at e
    · exact (h.pickBand.of_snd e).putZone.seqFrom
    · exact absurd e (by simp)
    · exact (h.pickBand.of_snd e).putZone
    · exact (h.of_snd (p := (none, _)) e).putZone

theorem State.Steady.freeNs {ns : Nat} (hu : s.Steady u) : s.Steady (u.freeNs ns) :=
  .foldl (fun _ _ hv => hv.setArea) hu.setMed

theorem State.Steady.nsBandsReset {ns : Nat} (hu : s.Steady u) : s.Steady (u.nsBandsReset ns) :=
  .foldl (fun _ _ hv => hv.bandReset) hu.freeNs

theorem State.Steady.mismatch {ns z groups : Nat} (hu : s.Steady u) : s.Steady (u.mismatch ns z groups) := by
  unfold State.mismatch
  dsimp only
  split
  · exact hu.parts.raise
  · exact hu.parts

theorem State.Steady.scrubStep {a b : Nat} (hu : s.Steady u) : s.Steady (u.scrubStep a b) :=
  .setBand (.ite hu.parts.mismatch hu.parts)

theorem State.Steady.ladderStep {a b : Nat} (hu : s.Steady u) : s.Steady (u.ladderStep a b) := by
  unfold State.ladderStep
  dsimp only
  split
  · exact hu.setBand
  · split
    · exact hu.setBand
    · exact .ladderEnd (.blockPos (.draw (.draw hu.setBand)))

theorem State.Steady.lateBands (hu : s.Steady u) : s.Steady u.lateBands := .foldl (fun _ _ hv => .ite hv.setBand.raise hv) hu

theorem State.Steady.waCount {h p : Nat} (hu : s.Steady u) : s.Steady (u.waCount h p) := hu.setMed

theorem State.Steady.waCheck {h : Nat} (hu : s.Steady u) : s.Steady (u.waCheck h) := .ite hu.setMed.raise hu.setMed

theorem State.Steady.usedCheck (hu : s.Steady u) : s.Steady u.usedCheck := .ite hu.setMed hu.setMed.raise

theorem State.Steady.mapConv {key : Nat} (hu : s.Steady u) : s.Steady (u.mapConv key) := hu.parts

theorem State.Steady.mapConvs {key n : Nat} (hu : s.Steady u) : s.Steady (u.mapConvs key n) :=
  .foldl (fun _ _ hv => hv.mapConv) hu

theorem State.Steady.dropConv {ns : Nat} (hu : s.Steady u) : s.Steady (u.dropConv ns) := hu.setMed

theorem State.Steady.unmapConv {lo n : Nat} (hu : s.Steady u) : s.Steady (u.unmapConv lo n) := hu.setMed

/-! ### Machine/HseOps -/

theorem State.Steady.setHse {h : Nat} {v : Hse} (hu : s.Steady u) : s.Steady (u.setHse h v) := hu.parts

theorem State.Steady.setChan {h : Nat} {v : Chan} (hu : s.Steady u) : s.Steady (u.setChan h v) := hu.parts

theorem State.Steady.setHlk {a : Nat} {v : Hlink} (hu : s.Steady u) : s.Steady (u.setHlk a v) := hu.parts

theorem State.Steady.latchOn {h b : Nat} (hu : s.Steady u) : s.Steady (u.latchOn h b) := hu.setHse

theorem State.Steady.hseShow {h : Nat} (hu : s.Steady u) : s.Steady (u.hseShow h) := .wr (.wr (.ite hu.wr hu))

theorem State.Steady.servoGate {h : Nat} (hu : s.Steady u) : s.Steady (u.servoGate h) := .ite hu.wrBit hu

theorem State.Steady.relock {h : Nat} (hu : s.Steady u) : s.Steady (u.relock h) :=
  .after (fun h2 => .ite h2.wr.raise h2.wr) hu.wr.wr.setChan

theorem State.Steady.zrateSet {h : Nat} (hu : s.Steady u) : s.Steady (u.zrateSet h) := hu.wr.setHse.relock

theorem State.Steady.zrateNow {h : Nat} (hu : s.Steady u) : s.Steady (u.zrateNow h) := .ite hu.setChan.zrateSet hu

theorem State.Steady.wgFall {h : Nat} (hu : s.Steady u) : s.Steady (u.wgFall h) := .ite hu.setChan.emit hu

theorem State.Steady.wgRise {h : Nat} (hu : s.Steady u) : s.Steady (u.wgRise h) := hu.setChan.emit.emit

theorem State.Steady.runLead {h : Nat} (hu : s.Steady u) : s.Steady (u.runLead h) := .ite hu hu.wgFall.setChan.emit.wgRise

theorem State.Steady.wgEnd {h : Nat} (hu : s.Steady u) : s.Steady (u.wgEnd h) := hu.wrBit.wgFall.setChan.zrateNow

theorem State.Steady.wgClose {h : Nat} (hu : s.Steady u) : s.Steady (u.wgClose h) := .ite (.ite hu.setChan hu.wgEnd) hu

theorem State.Steady.wgCut {h : Nat} (hu : s.Steady u) : s.Steady (u.wgCut h) := hu.setChan.wgClose

theorem State.Steady.rgEnd {h : Nat} (hu : s.Steady u) : s.Steady (u.rgEnd h) := hu.wrBit.setChan.wrb.zrateNow

theorem State.Steady.rgClose {h : Nat} (hu : s.Steady u) : s.Steady (u.rgClose h) := .ite (.ite hu.setChan hu.rgEnd) hu

theorem State.Steady.hseHalt {h haltc : Nat} (hu : s.Steady u) : s.Steady (u.hseHalt h haltc) :=
  .after (fun h2 => .ite h2.hseShow h2.hseShow.raise) (.servoGate (.wr (.wr (.wr (.setHse (.wgCut (.ite hu.setChan.rgEnd
      hu.setChan)))))))

theorem State.Steady.cause {h v : Nat} (hu : s.Steady u) : s.Steady (u.cause h v) := .ite hu.hseHalt hu.wrBit

theorem State.Steady.dmaTrap {h c : Nat} (hu : s.Steady u) : s.Steady (u.dmaTrap h c) := hu.setHse.cause

theorem State.Steady.windowEvent {h gate at' : Nat} (hu : s.Steady u) : s.Steady (u.windowEvent h gate at') := hu.raise

theorem State.Steady.accCheck {g : Nat} (hu : s.Steady u) : s.Steady (u.accCheck g) := .ite hu.wr.wr.raise hu

theorem State.Steady.accumulate {g i : Nat} {payload : List Byte} (hu : s.Steady u) : s.Steady (u.accumulate g i payload) :=
  .foldl (fun _ _ hv => hv.setMbs) hu.accCheck

theorem State.Steady.setLpend {line n : Nat} (hu : s.Steady u) : s.Steady (u.setLpend line n) := hu.wr

theorem State.Steady.oceServe {h : Nat} (hu : s.Steady u) : s.Steady (u.oceServe h) := by
  unfold State.oceServe
  split
  · exact .ite (by
      dsimp only
      split
      · exact hu
      · exact hu.accCheck.setChan.setHse.fabric.setLpend) hu
  · exact hu

theorem State.Steady.oceWritten {f : WFrame} (hu : s.Steady u) : s.Steady (u.oceWritten f) := by
  unfold State.oceWritten
  split
  · exact hu
  · exact .ite hu (by
      split
      · exact hu.accumulate.wrapAdd
      · exact .ite hu (.ite hu.wr.wr.wr.wr hu.wr))

theorem State.Steady.frameBegin {h : Nat} {f : SFrame} {rest : List SFrame} (hu : s.Steady u) :
    s.Steady (u.frameBegin h f rest) := hu.setWseq.runLead.setChan

theorem State.Steady.refusePoison {h : Nat} {f : SFrame} {rest : List SFrame} (hu : s.Steady u) :
    s.Steady (u.refusePoison h f rest) := hu.setChan.wgEnd.wr.raise.dmaTrap

theorem State.Steady.startWrite {h : Nat} (hu : s.Steady u) : s.Steady (u.startWrite h) := by
  unfold State.startWrite
  split
  · exact hu
  · exact .ite hu.setChan (.ite hu.windowEvent.wgEnd.cause (.ite hu.wgEnd.cause (.ite hu.wgEnd.cause (.ite hu.refusePoison
        hu.frameBegin))))

theorem State.Steady.starve {h : Nat} (hu : s.Steady u) : s.Steady (u.starve h) := hu.wgEnd.dmaTrap

theorem State.Steady.openW {h : Nat} (hu : s.Steady u) : s.Steady (u.openW h) :=
  .ite hu.cause (.ite hu (.ite hu.cause (.ite hu.windowEvent.cause (.ite hu.cause (.ite hu.cause (.after (fun h1 => .ite h1
      (.ite (.ite h1 h1.starve) h1.startWrite)) hu.wrBit.setChan))))))

theorem State.Steady.startRead {h : Nat} (hu : s.Steady u) : s.Steady (u.startRead h) :=
  .ite hu.setChan (.ite hu.windowEvent.rgEnd.cause hu.parts.setChan)

theorem State.Steady.adaptEq {h : Nat} (hu : s.Steady u) : s.Steady (u.adaptEq h) :=
  .ite (.foldl (fun _ _ hv => hv.parts.wr) hu) hu

theorem State.Steady.openR {h : Nat} (hu : s.Steady u) : s.Steady (u.openR h) :=
  .ite hu.cause (.ite hu (.ite hu.cause (.ite hu.windowEvent.cause (.after (fun h1 => .ite h1.wr.wr.startRead h1.wr.wr)
      hu.wrBit.setChan))))

theorem State.Steady.farm {h : Nat} (hu : s.Steady u) : s.Steady (u.farm h) := .ite hu.setChan.startRead hu.setChan

theorem State.Steady.snrNote {h snr : Nat} (hu : s.Steady u) : s.Steady (u.snrNote h snr) := hu.setChan.wr.wr

theorem State.Steady.frameSnr {h : Nat} {f : RFrame} {snr : Nat} (hu : s.Steady u) : s.Steady (u.frameSnr h f snr).2 := by
  unfold State.frameSnr
  split
  · exact hu
  · exact hu.setChan.snrNote

theorem State.Steady.setResult {h code cand iter unsat : Nat} {data : List Byte} (hu : s.Steady u) :
    s.Steady (u.setResult h code cand iter unsat data) := hu.wr.wr.wr.wr.setChan.setHse.latchOn

theorem State.Steady.frameFailed {h code cand iter unsat : Nat} {f : RFrame} (hu : s.Steady u) :
    s.Steady (u.frameFailed h code cand iter unsat f) := hu.raise

theorem State.Steady.readEnd {h code cand iter unsat : Nat} {data : List Byte} {f : RFrame} (hu : s.Steady u) :
    s.Steady (u.readEnd h code cand iter unsat data f) :=
  .after (fun h2 => .after (fun h3 => .ite h3 h3.frameFailed.cause) (.ite h2.wrapAdd (.ite h2.wrapAdd (.ite h2.wrapAdd (.ite
      h2.wrapAdd h2))))) hu.setResult.wrapAdd

theorem State.Steady.ithNote {h iters : Nat} (hu : s.Steady u) : s.Steady (u.ithNote h iters) := .ite hu.wrapAdd hu

/-! ### Machine/Preamp -/

theorem State.Steady.faultHead {a p : Nat} (hu : s.Steady u) : s.Steady (u.faultHead a p) :=
  .ite (.oceServe (.cause (.wgEnd (.ite hu.setChan.wr.setHlk hu.setChan)))) hu

theorem execPreampFault_steady {a : Arm} (hu : s.Steady u) : Res.Steady s (execPreampFault a u) :=
  .next (.on hu (.foldl (fun _ _ hv => hv.faultHead) (.ite hu.wr.setHlk hu.wr)))

theorem execHlFltNRelease_steady {a : Arm} (hu : s.Steady u) : Res.Steady s (execHlFltNRelease a u) := .next hu.wr

theorem execHlCmdWrite_steady {a : Arm} {v : W32} (hu : s.Steady u) : Res.Steady s (execHlCmdWrite a v u) :=
  .next (.on hu (.ite hu.wr (.ite hu.wr hu.setHlk)))

theorem execHlinkTransactionStart_steady {a : Arm} (hu : s.Steady u) : Res.Steady s (execHlinkTransactionStart a u) :=
  .next (.on hu (.ite hu.setHlk.wr.emit (by
        split
        · exact hu.setHlk.wr.emit
        · split
          · exact hu.setHlk.wr.emit
          · exact hu)))

theorem State.Steady.faultNamed {a p fault : Nat} (hu : s.Steady u) : s.Steady (u.faultNamed a p fault) :=
  .ite hu.raise.cause hu

theorem execHlinkTransactionDone_steady {a : Arm} {status : Byte} {data : W16} {parityOk : Bool} (hu : s.Steady u) :
    Res.Steady s (execHlinkTransactionDone a status data parityOk u) :=
  .next (by
    split
    · exact hu
    · dsimp only
      split
      · exact .ite hu.setHlk.wr.setHlk (.setHlk (.foldl (fun _ _ hv => hv.faultNamed) hu.setHlk.wr.wr))
      · exact .after (fun h2 => .ite h2.raise.cause h2.latchOn) hu.setHlk.wr.setHse
      · exact hu.setHlk.wr.setHlk)

theorem execHlRespRead_steady {a : Arm} (hu : s.Steady u) : Res.Steady s (execHlRespRead a u) :=
  .next (.on hu (by
      split
      · exact hu.emit
      · exact hu.setHlk.emit))

/-! ### Machine/Planner -/

theorem State.Steady.planArm {a : Nat} (hu : s.Steady u) : s.Steady (u.planArm a) :=
  .setMed (.foldl (fun _ _ hv => .ite hv.raise hv) hu)

theorem State.Steady.recalServo {a : Nat} (hu : s.Steady u) : s.Steady (u.recalServo a) :=
  .castleTo (.setMed (.foldl (fun _ _ hv => hv.mwr) (.foldl (fun _ _ hv => hv.mwr) hu.parts)))

theorem State.Steady.preampWrite {h : Nat} {l : List (Nat × Nat)} (hu : s.Steady u) : s.Steady (u.preampWrite h l) :=
  hu.setHlk

theorem State.Steady.heaterPlan {h : Nat} (hu : s.Steady u) : s.Steady (u.heaterPlan h) := hu.parts.setMed.raise.preampWrite

theorem State.Steady.settingsPlan {h : Nat} (hu : s.Steady u) : s.Steady (u.settingsPlan h) := hu.setMed.preampWrite

theorem State.Steady.recalStep (hu : s.Steady u) : s.Steady u.recalStep := by
  unfold State.recalStep
  split
  · exact hu.recalServo
  · split
    · exact hu.heaterPlan
    · split
      · exact hu.settingsPlan
      · exact hu

theorem State.Steady.bgWork (hu : s.Steady u) : s.Steady u.bgWork := by
  unfold State.bgWork
  split
  · exact hu.refreshStep
  · exact .ite hu (by
      split
      · exact hu.ladderStep
      · split
        · exact hu.scrubStep
        · split
          · exact hu.refreshStep
          · exact hu.recalStep)

theorem State.Steady.background (hu : s.Steady u) : s.Steady u.background :=
  .ite hu (.after (fun h2 => .after (fun h3 => .after (fun h4 => .ite h4.bgWork h4) (.lateBands (.ite h3 h3.usedCheck)))
      (.foldl (fun _ _ hv => hv.waCheck) (.spill (.ite (.foldl (fun _ _ hv => hv.planArm) h2.setMed) h2)))) (.ite
      hu.exitDone.saveCounts hu.exitDone))

/-! ### Machine/SpinOps -/

theorem State.Steady.turn {b : Bool} (hu : s.Steady u) : s.Steady (u.turn b) := hu.setPwr

theorem State.Steady.tierOut (hu : s.Steady u) : s.Steady u.tierOut := .setSpn (.ite hu.wr.wr.wr hu.wr.wr)

theorem State.Steady.spnLeave {st : Nat} (hu : s.Steady u) : s.Steady (u.spnLeave st) :=
  .setSpn (.wr (.wr (.ite hu.wr.wr hu)))

theorem State.Steady.spnCut {fail : Nat} (hu : s.Steady u) : s.Steady (u.spnCut fail) :=
  .ite hu (.emit (.spnLeave (.ite hu.wr hu)))

theorem State.Steady.holdEnd {cause : Nat} (hu : s.Steady u) : s.Steady (u.holdEnd cause) := .ite hu.wr.powerEvent hu

theorem State.Steady.brake (hu : s.Steady u) : s.Steady u.brake := hu.wr.emit

theorem State.Steady.attempt (hu : s.Steady u) : s.Steady u.attempt := hu.wrapAdd.brake

theorem State.Steady.spnStart (hu : s.Steady u) : s.Steady u.spnStart :=
  .after (fun h2 => .ite h2.emit h2.spnCut) hu.wr.wr.raise.wr.setSpn

theorem State.Steady.retarget {e : Nat} (hu : s.Steady u) : s.Steady (u.retarget e) :=
  .ite hu.spnStart (.ite hu.setSpn (.ite hu.setSpn.brake hu))

theorem State.Steady.setTarget {e : Nat} (hu : s.Steady u) : s.Steady (u.setTarget e) :=
  .retarget (.ite hu.setSpn.tierOut hu.setSpn)

theorem State.Steady.spnTarget {v : Nat} (hu : s.Steady u) : s.Steady (u.spnTarget v) :=
  .ite hu.wr (.after (fun h2 => .ite h2 h2.setTarget) (.ite hu.wr hu.wr.wr.raise))

theorem State.Steady.cogCheck {ks : List Nat} (hu : s.Steady u) : s.Steady (u.cogCheck ks) := by
  unfold State.cogCheck
  split
  · exact hu.wr.raise
  · exact hu

theorem State.Steady.cogStore {w v : Nat} (hu : s.Steady u) : s.Steady (u.cogStore w v) := .ite hu.mwr.cogCheck hu.mwr

theorem State.Steady.commutate {interval angle : Nat} (hu : s.Steady u) : s.Steady (u.commutate interval angle) :=
  .ite hu hu.setSpn.emit

theorem State.Steady.satWatch (hu : s.Steady u) : s.Steady u.satWatch := .ite hu.setSpn.raise hu.setSpn

theorem State.Steady.cogCommands {b : Nat} {base : Rat} {interval angle : Nat} (hu : s.Steady u) :
    s.Steady (u.cogCommands b base interval angle) := .foldl (fun _ _ hv => hv.emit) hu.setSpn

theorem State.Steady.spnSend {b : Nat} {base : Rat} {interval angle : Nat} (hu : s.Steady u) :
    s.Steady (u.spnSend b base interval angle) := .ite hu.setSpn (.ite hu.setSpn.emit hu.setSpn.emit.cogCommands)

theorem State.Steady.spnSample {interval angle : Nat} (hu : s.Steady u) : s.Steady (u.spnSample interval angle) :=
  .after (fun h1 => .spnSend (.satWatch (.setSpn (.ite h1.wrb.wr.wr h1.wrb)))) (.ite hu.raise hu)

theorem State.Steady.lockWatch (hu : s.Steady u) : s.Steady u.lockWatch := hu.setSpn

theorem State.Steady.takeOver (hu : s.Steady u) : s.Steady u.takeOver := hu.wr.wr.raise.setSpn.emit

/-! ### Machine/Ageing -/

theorem State.Steady.setCounts {l : List AgeCount} (hu : s.Steady u) : s.Steady (u.setCounts l) := hu.parts

theorem State.Steady.moveTier {t : Nat} (hu : s.Steady u) : s.Steady (u.moveTier t) := .ite hu hu.spnTarget

theorem State.Steady.limitTier (hu : s.Steady u) : s.Steady u.limitTier := .ite hu hu.parts.moveTier.raise

theorem execFaultSubwindow_steady {k : Fin 8} (hu : s.Steady u) : Res.Steady s (execFaultSubwindow k u) :=
  .next hu.wr.setCounts

theorem State.Steady.degrade {h : Nat} (hu : s.Steady u) : s.Steady (u.degrade h) := .ite hu.setMed.warnSet hu.setMed

theorem State.Steady.lastingAction {k i : Nat} (hu : s.Steady u) : s.Steady (u.lastingAction k i) :=
  .ite (.ite hu.degrade hu) (.ite (.ite hu.setMed hu) (.ite hu.warnSet (.ite hu.parts.limitTier hu)))

theorem execFaultClassLasting_steady {k : Fin 8} {i : Fin 32} (hu : s.Steady u) :
    Res.Steady s (execFaultClassLasting k i u) := .next (.on hu hu.wrBit.raise.lastingAction)

theorem State.Steady.clearLasting {k i : Nat} (hu : s.Steady u) : s.Steady (u.clearLasting k i) := hu.wrBit.setCounts.raise

theorem execAgeFstatClear_steady {k : Fin 8} {v : W32} (hu : s.Steady u) : Res.Steady s (execAgeFstatClear k v u) :=
  .next (.foldl (fun _ _ hv => .ite hv.clearLasting hv) hu)

theorem State.Steady.vout {mv : Nat} (hu : s.Steady u) : s.Steady (u.vout mv) :=
  .emit (.wr (.wr (.ite hu hu.parts.wr.parts)))

theorem State.Steady.noteSlack {slack : Nat} (hu : s.Steady u) : s.Steady (u.noteSlack slack) := hu.setMed

theorem State.Steady.voltNow (hu : s.Steady u) : s.Steady u.voltNow.2 := by
  unfold State.voltNow
  split
  · exact hu.parts
  · exact hu

theorem State.Steady.voltPlan (hu : s.Steady u) : s.Steady u.voltPlan :=
  .ite hu (.ite (.ite hu.setMed.voltNow hu.setMed.voltNow.vout.raise) hu.setMed)

theorem execGuardVoltageStep_steady {mon : Fin 64} {slack : Byte} (hu : s.Steady u) :
    Res.Steady s (execGuardVoltageStep mon slack u) :=
  .next (.on hu.wr.wr.wr.wr.noteSlack (.ite hu.wr.wr.wr.wr.noteSlack.voltNow.wr hu.wr.wr.wr.wr.noteSlack.voltNow.vout.raise))

theorem execAgeVoutWrite_steady {v : W32} (hu : s.Steady u) : Res.Steady s (execAgeVoutWrite v u) := .next (.on hu hu.vout)

theorem execPmbusCommandDone_steady {ack : Bool} (hu : s.Steady u) : Res.Steady s (execPmbusCommandDone ack u) :=
  .next (.on hu (.ite hu.wr.parts hu.wr.wr.raise))

theorem State.Steady.thermalOne {sensor temp n : Nat} (hu : s.Steady u) : s.Steady (u.thermalOne sensor temp n) :=
  .ite (.raise (.ite hu.parts.warnSet hu.parts.limitTier)) (.ite (.raise (.ite hu.parts.warnSet hu.parts.limitTier)) hu)

theorem execThermalLevelCross_steady {sensor : Fin 4} {temp : BitVec 12} (hu : s.Steady u) :
    Res.Steady s (execThermalLevelCross sensor temp u) :=
  .next (.thermalOne (.thermalOne (.thermalOne (.ite hu.wr.parts hu.wr))))

theorem execAonFallback_steady (hu : s.Steady u) : Res.Steady s (execAonFallback u) := .next hu.wr.wr

/-! ### Machine/Channel -/

theorem execWriteFrameEnd_steady {h : Head} (hu : s.Steady u) : Res.Steady s (execWriteFrameEnd h u) :=
  .next (by
    split
    · exact hu
    · exact .on hu (.after (fun h1 => .after (fun h2 => .after (fun h3 => .oceServe (.ite h3.cause h3)) (.ite h2.wgEnd (.ite
          h2.wgFall h2))) (.ite h1 h1.wrapAdd.wrapAdd.waCount.setHse.latchOn.oceWritten)) hu.setChan.emit))

theorem execSyncMarkFound_steady {h : Head} {bitPos dist : Nat} (hu : s.Steady u) :
    Res.Steady s (execSyncMarkFound h bitPos dist u) :=
  .next (by
    split
    · exact hu
    · exact .on hu (.ite hu.setChan.latchOn hu.setChan))

theorem execSyncWindowClose_steady {h : Head} (hu : s.Steady u) : Res.Steady s (execSyncWindowClose h u) :=
  .next (by
    split
    · exact hu
    · exact .on hu (.ite hu.setChan.latchOn.readEnd.setChan hu.setChan))

theorem State.Steady.decodeFails {h code unsat : Nat} {f : RFrame} {rest : List RFrame} (hu : s.Steady u) :
    s.Steady (u.decodeFails h code unsat f rest) := hu.setChan.readEnd

theorem execDecodeDone_steady {h : Head} {d : Decode} (hu : s.Steady u) : Res.Steady s (execDecodeDone h d u) :=
  .next (by
    split
    · exact hu
    · exact .on hu (.ite hu.frameSnr.ithNote.setChan.readEnd (.ite hu.frameSnr.decodeFails (.ite hu.frameSnr.setChan
          hu.frameSnr.decodeFails))))

theorem execDecodeBudgetExpire_steady {h : Head} {unsat : Nat} {snr : W16} (hu : s.Steady u) :
    Res.Steady s (execDecodeBudgetExpire h unsat snr u) :=
  .next (by
    split
    · exact hu
    · exact .on hu hu.frameSnr.decodeFails)

theorem execChanRdecGo_steady {h : Head} {v : W32} (hu : s.Steady u) : Res.Steady s (execChanRdecGo h v u) :=
  .next (.on hu (.ite (.ite hu.wr.wr.wr.wr hu.wr.wr.wr.wr) hu.wr.wr.wr))

theorem State.Steady.redetect {h : Nat} (hu : s.Steady u) : s.Steady (u.redetect h) := .ite hu.parts.setChan hu

theorem execOfflineDecodeDone_steady {h : Head} {d : Decode} (hu : s.Steady u) :
    Res.Steady s (execOfflineDecodeDone h d u) :=
  .next (by
    split
    · exact hu
    · exact .on hu (.ite (.after (fun h2 => .ite h2 h2.frameFailed) hu.wr.redetect.ithNote.setResult)
          hu.wr.redetect.setResult))

theorem execChanEnable_steady {h : Head} (hu : s.Steady u) : Res.Steady s (execChanEnable h u) :=
  .next (.on hu (.ite hu.setChan hu.wr))

theorem execBaseMatrixCheckDone_steady {h : Head} (hu : s.Steady u) : Res.Steady s (execBaseMatrixCheckDone h u) :=
  .next (.on hu (.ite hu.setChan.wr.wr.wr hu.setChan.wr.wr.wr.raise))

theorem execClrstat_steady {h : Head} (hu : s.Steady u) : Res.Steady s (execClrstat h u) :=
  .next (.on hu (.foldl (fun _ _ hv => hv.wr) (.foldl (fun _ _ hv => hv.wr) hu.wr.wr.wr.wr.wr.wr)))

theorem State.Steady.rateLeave {h : Nat} (hu : s.Steady u) : s.Steady (u.rateLeave h) := hu.wgClose.rgClose.cause

theorem execZrateWrite_steady {h : Head} {v : W16} (hu : s.Steady u) : Res.Steady s (execZrateWrite h v u) :=
  .next (.on hu (.ite hu.wr (.ite hu.wr.setChan.rateLeave hu.wr.zrateSet)))

theorem State.Steady.tierLeave1 {h : Nat} (hu : s.Steady u) : s.Steady (u.tierLeave1 h) := hu.rateLeave.setChan

theorem execTierLeave_steady (hu : s.Steady u) : Res.Steady s (execTierLeave u) :=
  .next (.on hu (.foldl (fun _ _ hv => hv.tierLeave1) hu.setSpn))

theorem execTierReady_steady (hu : s.Steady u) : Res.Steady s (execTierReady u) :=
  .next (.on hu (.foldl (fun _ _ hv => hv.relock) hu.setSpn))

theorem execSynthRelockDone_steady {h : Head} (hu : s.Steady u) : Res.Steady s (execSynthRelockDone h u) :=
  .next (.on hu hu.wr.wr.setChan)

theorem execNolock_steady {h : Head} (hu : s.Steady u) : Res.Steady s (execNolock h u) := .next (.on hu hu.raise)

/-! ### Machine/FrcOps -/

theorem State.Steady.setLane {k : Nat} {v : Lane} (hu : s.Steady u) : s.Steady (u.setLane k v) := hu.parts

theorem State.Steady.setKey {ns : Nat} {v : List Byte} (hu : s.Steady u) : s.Steady (u.setKey ns v) := hu.parts

theorem State.Steady.loseKey {ns : Nat} (hu : s.Steady u) : s.Steady (u.loseKey ns) := hu.parts

theorem State.Steady.loadKey {n : Nsp} (hu : s.Steady u) : s.Steady (u.loadKey n) := by
  rw [State.loadKey]
  rcases keyUnwrap Config.wrapKey (NTab.get [] n.nsidx (u.area 0).keys) with _ | key
  · exact hu.loseKey
  · exact hu.setKey

theorem State.Steady.loadKeys (hu : s.Steady u) : s.Steady u.loadKeys := .foldl (fun _ _ hv => hv.loadKey) hu

theorem State.Steady.laneAsk {k : Nat} (hu : s.Steady u) : s.Steady (u.laneAsk k) := .ite hu.parts hu

theorem State.Steady.lanesAsk (hu : s.Steady u) : s.Steady u.lanesAsk := .foldl (fun _ _ hv => hv.laneAsk) hu

theorem State.Steady.laneTake {k : Nat} {bs : List Byte} {p : Bool} (hu : s.Steady u) : s.Steady (u.laneTake k bs p) :=
  .ite hu.setLane hu

/-! ### Machine/Dma -/

theorem State.Steady.setDch {c : Nat} {v : Dch} (hu : s.Steady u) : s.Steady (u.setDch c v) := hu.parts

theorem State.Steady.lineTrap {line : Nat} (hu : s.Steady u) : s.Steady (u.lineTrap line) := .ite hu.dmaTrap hu

theorem State.Steady.dmaHalt {c err : Nat} (hu : s.Steady u) : s.Steady (u.dmaHalt c err) := hu.wr.wr.wr.wr.setDch.lineTrap

theorem State.Steady.busHalt {c addr : Nat} {timeout : Bool} (hu : s.Steady u) : s.Steady (u.busHalt c addr timeout) :=
  hu.dmaHalt.raise

theorem State.Steady.busErr {c addr n kind : Nat} (hu : s.Steady u) : s.Steady (u.busErr c addr n kind) :=
  hu.spaceError.busHalt

theorem State.Steady.malformed {c addr tag : Nat} (hu : s.Steady u) : s.Steady (u.malformed c addr tag) :=
  hu.parts.raise.busHalt

theorem State.Steady.sourceFailed {a n tag : Nat} {ans : Answer} (hu : s.Steady u) : s.Steady (u.sourceFailed a n tag ans) :=
  .ite hu.parts.lineFailed hu

theorem State.Steady.requestFails {q : BufReq} (hu : s.Steady u) : s.Steady (u.requestFails q) := by
  unfold State.requestFails
  split
  · exact .ite hu.busHalt hu
  · exact hu

theorem execBufferAccess_steady {q : BufReq} (hu : s.Steady u) : Res.Steady s (execBufferAccess q u) :=
  .next (.ite hu.raise.requestFails (.ite hu.spaceError.requestFails (.ite hu (.ite (.busWrite (by
              split
              · exact hu.lineRead
              · exact hu)) hu.lineRead))))

theorem State.Steady.lineCount {line : Nat} (hu : s.Steady u) : s.Steady (u.lineCount line) := .ite hu.wr.raise hu.setLpend

theorem execDmaRequest_steady {line : Fin 128} (hu : s.Steady u) : Res.Steady s (execDmaRequest line u) :=
  .next (.ite (by
      split
      · exact hu
      · exact hu.setHse.lineCount.oceServe) (.ite (by
        split
        · exact hu
        · exact hu.setHse.lineCount) (.ite hu hu.parts.lineCount)))

theorem execDmaSwreq_steady {line : BitVec 7} (hu : s.Steady u) : Res.Steady s (execDmaSwreq line u) :=
  .next (.on hu hu.parts)

theorem execDmaChannelEnable_steady {c : Fin 128} (hu : s.Steady u) : Res.Steady s (execDmaChannelEnable c u) :=
  .next (.on hu (.ite hu.wr.wr.lineTrap.raise (.after (fun h3 => .ite h3.setDch.wr.dmaHalt.raise h3.setDch)
      hu.wr.wr.wr.wr.wr.wr.wr.wr)))

theorem State.Steady.chainEnd {c : Nat} {stop : Bool} {wb : WriteBack} (hu : s.Steady u) : s.Steady (u.chainEnd c stop wb) :=
  .after (fun h1 => .ite (.busHalt (.ite h1.parts.busWrite h1.parts)) (.setDch (.wr (.wrb (.wr (.wr (.wr (.ite h1.busWrite
      h1)))))))) (.ite hu.ownAccess hu)

theorem execDmaStop_steady {c : Fin 128} {wb : WriteBack} (hu : s.Steady u) : Res.Steady s (execDmaStop c u wb) :=
  .next (.on hu hu.chainEnd)

theorem execDmaCtlEnable_steady {en : Bool} (hu : s.Steady u) : Res.Steady s (execDmaCtlEnable en u) := .next (.on hu hu.wrb)

theorem State.Steady.guardNow {c : Nat} (hu : s.Steady u) : s.Steady (u.guardNow c) := .ite hu.wrb hu.wrb.setDch

theorem State.Steady.fetchTag {c : Nat} (hu : s.Steady u) : s.Steady (u.fetchTag c) := hu.parts.fabric

theorem execDescriptorFetchDone_steady {c : Fin 128} {ans : Answer} (hu : s.Steady u) :
    Res.Steady s (execDescriptorFetchDone c ans u) :=
  .next (.on hu (.ite hu.dmaHalt.raise (.after (fun h1 => .ite h1.busErr (by
            dsimp only
            split
            · exact h1.satAdd.setDch.dmaHalt.raise
            · exact h1.satAdd.setDch.wr.guardNow)) hu.wr.fetchTag.sourceFailed)))

theorem State.Steady.burstCount {c : Nat} {bytes : List Byte} {p : Bool} {wb : WriteBack} (hu : s.Steady u) :
    s.Steady (u.burstCount c bytes p wb) :=
  .after (fun h2 => .after (fun h3 => .after (fun h4 => .ite h4.setDch.guardNow (.ite h4.setDch.wr.guardNow (.ite
      h4.setDch.chainEnd h4.setDch))) (.ite h3.wr h3)) (.ite h2.wr h2)) (.ite hu.wr.wrapAdd.wr hu.wr.wrapAdd)

theorem State.Steady.stageFrame {h tag : Nat} {data : List Byte} {p : Bool} (hu : s.Steady u) :
    s.Steady (u.stageFrame h tag data p) := hu.setChan

theorem State.Steady.burstWrite {c h : Nat} {ans : Answer} {wb : WriteBack} (hu : s.Steady u) :
    s.Steady (u.burstWrite c h ans wb) := by
  unfold State.burstWrite
  dsimp only
  split
  · exact hu
  · exact .ite hu (.ite hu.malformed (.ite hu.busErr hu.sourceFailed.setHse.setLpend.stageFrame.fabric.burstCount.oceServe))

theorem State.Steady.burstRead {c h : Nat} {ans : Answer} {wb : WriteBack} (hu : s.Steady u) :
    s.Steady (u.burstRead c h ans wb) := by
  unfold State.burstRead
  dsimp only
  split
  · exact hu
  · exact .ite hu (.ite hu.malformed (.ite hu.busErr (.after (fun h2 => .burstCount (.ite h2.latchOn h2))
        hu.setHse.setLpend.fabric.busWrite)))

theorem State.Steady.burstLane {c line : Nat} {ans : Answer} {wb : WriteBack} (hu : s.Steady u) :
    s.Steady (u.burstLane c line ans wb) :=
  .ite hu (.ite hu.malformed (.ite hu.busErr (.after (fun h1 => .laneAsk (.burstCount (.fabric (.laneTake (.ite h1.setLpend
      h1))))) hu.sourceFailed)))

theorem State.Steady.burstCopy {c line : Nat} {ans : Answer} {wb : WriteBack} (hu : s.Steady u) :
    s.Steady (u.burstCopy c line ans wb) :=
  .ite hu (.ite hu.malformed (.ite hu.busErr (.ite hu.busErr (.after (fun h1 => .burstCount (.busWrite (.fabric (.ite
      h1.setLpend h1)))) hu.sourceFailed))))

theorem execDmaBurstDone_steady {c : Fin 128} {ans : Answer} {wb : WriteBack} (hu : s.Steady u) :
    Res.Steady s (execDmaBurstDone c ans u wb) :=
  .next (.on hu (.ite hu.burstWrite (.ite hu.burstRead (.ite hu.burstLane hu.burstCopy))))

theorem execDmaBusTimeout_steady {c : Fin 128} (hu : s.Steady u) : Res.Steady s (execDmaBusTimeout c u) :=
  .next (.on hu (.ite hu.wr.busHalt (.ite hu (.ite hu.busHalt (.ite hu.busHalt hu.parts.busHalt)))))

theorem execGuardWait1ms_steady {c : Fin 128} (hu : s.Steady u) : Res.Steady s (execGuardWait1ms c u) :=
  .next (.on hu hu.setDch.raise)

/-! ### Machine/PsOps -/

theorem State.Steady.psEnter0 {ps cause : Nat} (hu : s.Steady u) : s.Steady (u.psEnter0 ps cause) :=
  .after (fun h3 => .moveTier (.ite (.foldl (fun _ _ hv => .ite hv.armUnload hv) h3.parts.closeUnits.saveRecords) h3.parts))
      (.ite hu.parts.wr hu.parts.wr.raise)

theorem State.Steady.psEnter {ps cause : Nat} (hu : s.Steady u) : s.Steady (u.psEnter ps cause) :=
  .ite hu.psEnter0.wr.psEnter0 hu.psEnter0

theorem State.Steady.psRequest {ps cause : Nat} (hu : s.Steady u) : s.Steady (u.psRequest ps cause) :=
  .ite hu.wr.psEnter hu.wr.parts

theorem State.Steady.psWake (hu : s.Steady u) : s.Steady u.psWake := .ite hu.psRequest hu

/-! ### Machine/HifAdmit -/

theorem State.Steady.openZone {ns z : Nat} {st : ZoneSt} {t : State} (hu : s.Steady u) (e : u.openZone ns z st = .inl t) :
    s.Steady t := by
  unfold State.openZone at e
  dsimp only at e
  split at e
  · cases e; exact .ite hu.setZone hu
  · split at e
    · cases e
    · split at e
      · cases e; exact hu.setZone
      · split at e <;> cases e
        exact hu.setZone.closeUnit.setZone

theorem State.Steady.arbTake {f q : Nat} (hu : s.Steady u) : s.Steady (u.arbTake f q) := .ite hu.parts hu.parts.setCtrl

theorem State.Steady.creditOne {k : Nat} (hu : s.Steady u) : s.Steady (u.creditOne k) := by
  unfold State.creditOne
  dsimp only
  split
  · exact hu
  · exact .ite hu hu.takeCredit.updCmd.ctxState.guardCheck

theorem State.Steady.sqeTag {f : Nat} (hu : s.Steady u) : s.Steady (u.sqeTag f) := hu.parts.fabric

theorem State.Steady.takeEntry {f q : Nat} {e : Sqe} {ranges : List (Nat × Nat)} (hu : s.Steady u) :
    s.Steady (u.takeEntry f q e ranges).2 :=
  .fairCheck (.setMbs (.parts (by
      split
      · exact hu.parts.arbTake.sqeTag.setSq
      · exact hu.parts.arbTake.sqeTag)))

theorem State.Steady.zoneTake {n : Nsp} {tag : Nat} {r : Nat × Nat × Nat} {t : State} (hu : s.Steady u)
    (e : u.zoneTake n tag r = .inl t) : s.Steady t := by
  unfold State.zoneTake at e
  split at e <;> cases e
  exact (hu.openZone ‹_›).setZone.parts.updCmd

theorem State.Steady.enterLocks {tag : Nat} {l : Option Lock} {n0 n1 : Nat} (hu : s.Steady u) :
    s.Steady (u.enterLocks tag l n0 n1) := .ite hu.failNow hu.updCmd.ctxState.creditOne.guardCheck

theorem State.Steady.admitAdmin {tag : Nat} {e : Sqe} (hu : s.Steady u) : s.Steady (u.admitAdmin tag e) :=
  .enterLocks (.ite hu.psWake hu)

theorem State.Steady.admitIo {tag f : Nat} {e : Sqe} {ranges : List (Nat × Nat)} (hu : s.Steady u) :
    s.Steady (u.admitIo tag f e ranges) :=
  .after (fun h => .ite (.ite h.failNow h.enterLocks) (.ite h.failNow (by
    split
    · exact h.failNow
    · exact .ite h.failNow (.ite (by
        split
        · exact h.failNow
        · exact .ite h.failNow (by
            split
            · exact h.failNow
            · exact (h.zoneTake ‹_›).enterLocks)) h.enterLocks)))) hu.psWake

/-! ### Machine/Hif -/

theorem State.Steady.badDoorbell {f bell v : Nat} (hu : s.Steady u) : s.Steady (u.badDoorbell f bell v) := hu.raise

theorem execSqTailDoorbell_steady {f : Func} {q v : W16} (hu : s.Steady u) : Res.Steady s (execSqTailDoorbell f q v u) :=
  .next (.on hu (by
      split
      · exact .ite hu.setSq hu.badDoorbell
      · exact hu.badDoorbell))

theorem State.Steady.consumePosted {f q : Nat} {k : Cq} {head n : Nat} (hu : s.Steady u) :
    s.Steady (u.consumePosted f q k head n) := hu.setCq.setCmds.fairCheck

theorem execCqHeadDoorbell_steady {f : Func} {q v : W16} (hu : s.Steady u) : Res.Steady s (execCqHeadDoorbell f q v u) :=
  .next (.on hu (by
      split
      · exact .ite hu.consumePosted hu.badDoorbell
      · exact hu.badDoorbell))

theorem State.Steady.admitCommand {f q : Nat} {e : Sqe} {ranges : List (Nat × Nat)} (hu : s.Steady u) :
    s.Steady (u.admitCommand f q e ranges) := .ite (.ite hu.takeEntry.admitAdmin hu.takeEntry.failNow) hu.takeEntry.admitIo

theorem State.Steady.skipWide {f q ns : Nat} (hu : s.Steady u) : s.Steady (u.skipWide f q ns) :=
  .raise (by
    split
    · exact hu.setSq
    · exact hu)

theorem execCommandAdmit_steady {f : Func} {q : W16} {e : Sqe} {ranges : List (Nat × Nat)} (hu : s.Steady u) :
    Res.Steady s (execCommandAdmit f q e ranges u) :=
  .next (.on hu (.ite hu.raise (.on hu (by
          split
          · exact hu.skipWide
          · exact hu.admitCommand))))

theorem execCreditGrant_steady {read : Bool} (hu : s.Steady u) : Res.Steady s (execCreditGrant read u) :=
  .next (.on hu hu.creditOne)

theorem execHifNextRead_steady (hu : s.Steady u) : Res.Steady s (execHifNextRead u) :=
  .next (by
    split
    · exact hu.updCmd.ctxState.emit
    · exact hu.emit)

theorem execHifCplWrite_steady {v : W32} (hu : s.Steady u) : Res.Steady s (execHifCplWrite v u) :=
  .next (.on hu (by
      split
      · exact hu.finishCmd
      · exact hu.wr))

theorem execCompletionPost_steady {f : Func} {q : W16} (hu : s.Steady u) : Res.Steady s (execCompletionPost f q u) :=
  .next hu.postOne

theorem execLrelFwd_steady {tag : Tag} (hu : s.Steady u) : Res.Steady s (execLrelFwd tag u) :=
  .next (.on hu (by
      split
      · split
        · exact .ite hu.updCmd hu.wr
        · exact hu.wr
      · exact hu.wr))

theorem execLrelRel_steady {tag : Tag} (hu : s.Steady u) : Res.Steady s (execLrelRel tag u) :=
  .next (.on hu (by
      split
      · split
        · exact .ite hu.wr hu.updCmd
        · exact hu.wr
      · exact hu.wr))

theorem execHifXferWrite_steady {tag : Tag} (hu : s.Steady u) : Res.Steady s (execHifXferWrite tag u) :=
  .next (.on hu (by
      split
      · exact .ite hu.spaceError.updCmd hu.wr
      · exact hu.wr))

theorem State.Steady.storeBlocks {data : List Byte} {l : List Nat} (hu : s.Steady u) : s.Steady (u.storeBlocks data l) := by
  induction l generalizing u data with
  | nil => exact hu
  | cons a t ih => exact ih hu.busWrite

theorem State.Steady.returnPool1 {c : Cmd} (hu : s.Steady u) : s.Steady (u.returnPool1 c) := .ite hu hu.giveCredit.updCmd

theorem State.Steady.hostTags {c : Cmd} {read : Bool} (hu : s.Steady u) : s.Steady (u.hostTags c read) :=
  .foldl (fun _ _ hv => hv.fabric) hu

theorem State.Steady.transferDone {c : Cmd} {bad : Option Nat} (hu : s.Steady u) : s.Steady (u.transferDone c bad) :=
  .ite hu (.ite hu.dropCmd.fairCheck (by
      split
      · exact hu.updCmd.noteStatus
      · exact hu))

theorem execHostTransferEnd_steady {tag : Tag} {err : Bool} {data : List Byte} (hu : s.Steady u) :
    Res.Steady s (execHostTransferEnd tag err data u) :=
  .next (by
    split
    · exact .ite (.after (fun h1 => .after (fun h2 => .after (fun h4 => .transferDone (.ite h4.updCmd.returnPool1
          h4.updCmd)) (.ite h2.parts (.ite h2.parts.emit h2.parts.storeBlocks))) (.ite h1 h1.hostTags)) (.foldl (fun _ _ hv
          => hv.spaceError) hu)) hu
    · exact hu)

theorem execHifXdoneRead_steady (hu : s.Steady u) : Res.Steady s (execHifXdoneRead u) :=
  .next (by
    split
    · exact hu.parts.emit
    · exact hu.emit)

theorem execLockWait1s_steady {tag : Tag} (hu : s.Steady u) : Res.Steady s (execLockWait1s tag u) :=
  .next (by
    split
    · exact .ite (by
        split
        · exact hu.raise
        · exact hu) hu
    · exact hu)

theorem execOrderedWait1s_steady {tag : Tag} (hu : s.Steady u) : Res.Steady s (execOrderedWait1s tag u) :=
  .next (by
    split
    · exact .ite hu.raise hu
    · exact hu)

theorem execCqFull1s_steady {f : Func} {q : W16} (hu : s.Steady u) : Res.Steady s (execCqFull1s f q u) :=
  .next (by
    split
    · exact .ite hu hu.raise
    · exact hu)

theorem execInterruptCoalescingTimeout_steady {f : Func} {q : W16} (hu : s.Steady u) :
    Res.Steady s (execInterruptCoalescingTimeout f q u) :=
  .next (by
    split
    · exact .ite hu.setCq.emit hu
    · exact hu)

/-! ### Machine/HifAdmin -/

theorem execCreateIoCompletionQueue_steady {tag : Tag} (hu : s.Steady u) :
    Res.Steady s (execCreateIoCompletionQueue tag u) :=
  .onCmd (fun _ => .ite hu.finishCmd (.ite hu.finishCmd hu.setCq.finishCmd)) hu

theorem execCreateIoSubmissionQueue_steady {tag : Tag} (hu : s.Steady u) :
    Res.Steady s (execCreateIoSubmissionQueue tag u) :=
  .onCmd (fun _ => .ite hu.finishCmd (.ite hu.finishCmd (.ite hu.finishCmd hu.setSq.finishCmd))) hu

theorem execDeleteIoSubmissionQueue_steady {tag : Tag} (hu : s.Steady u) :
    Res.Steady s (execDeleteIoSubmissionQueue tag u) :=
  .onCmd (fun _ => by
    split
    · exact .ite hu.finishCmd hu.setSq.endCmds.deleteCheck
    · exact hu.finishCmd) hu

theorem execDeleteIoCompletionQueue_steady {tag : Tag} (hu : s.Steady u) :
    Res.Steady s (execDeleteIoCompletionQueue tag u) :=
  .onCmd (fun _ => by
    split
    · exact .ite hu.finishCmd (.ite hu.finishCmd hu.setCmds.setCq.fairCheck.finishCmd)
    · exact hu.finishCmd) hu

theorem State.Steady.answer {c : Cmd} {p : Page} {off n : Nat} (hu : s.Steady u) : s.Steady (u.answer c p off n) :=
  hu.parts.emit.finishCmd

theorem State.Steady.logRead {c : Cmd} {lid : Nat} (hu : s.Steady u) : s.Steady (u.logRead c lid) :=
  .ite hu (.ite hu.parts (.ite (by
        split
        · exact hu.parts
        · exact hu) hu))

theorem execGetLogPage_steady {tag : Tag} (hu : s.Steady u) : Res.Steady s (execGetLogPage tag u) :=
  .onCmd (fun _ => .ite hu.finishCmd (.ite hu.finishCmd (.ite hu.finishCmd (.ite hu.finishCmd (.ite hu.finishCmd
      hu.answer.logRead))))) hu

theorem State.Steady.identifyNs {c : Cmd} {n : Option Nsp} {p : Nsp → Page} (hu : s.Steady u) :
    s.Steady (u.identifyNs c n p) := .ite hu.finishCmd hu.answer

theorem execIdentify_steady {tag : Tag} (hu : s.Steady u) : Res.Steady s (execIdentify tag u) :=
  .onCmd (fun _ => .ite hu.answer (.ite (.ite hu.answer hu.finishCmd) (.ite hu.identifyNs (.ite hu.answer (.ite
      hu.identifyNs (.ite hu.identifyNs (.ite hu.identifyNs (.ite hu.answer (.ite hu.answer (.ite hu.answer (.ite
      hu.identifyNs (.ite hu.answer (.ite hu.answer hu.finishCmd))))))))))))) hu

theorem execAbort_steady {tag : Tag} (hu : s.Steady u) : Res.Steady s (execAbort tag u) :=
  .onCmd (fun _ => hu.raise.finishCmd) hu

theorem execAsynchronousEventRequest_steady {tag : Tag} (hu : s.Steady u) :
    Res.Steady s (execAsynchronousEventRequest tag u) :=
  .onCmd (fun _ => .ite hu (.ite hu.finishCmd (by
        split
        · exact hu.setCtrl.finishCmd
        · exact hu.setCtrl))) hu

theorem Res.Steady.setting {tag : Tag} {pick : Nat → Bool} {go : Cmd → State} (hgo : ∀ x : Cmd, s.Steady (go x)) (hu :
    s.Steady u) :
    Res.Steady s (u.setting tag pick go) := .onCmd (fun _ => .ite hu (.ite hu.finishCmd (.ite hu.finishCmd (hgo _)))) hu

theorem Res.Steady.pfSetting {tag : Tag} {fid : Nat} {go : Cmd → State} (hgo : ∀ x : Cmd, s.Steady (go x)) (hu : s.Steady u)
    :
    Res.Steady s (u.pfSetting tag fid go) := .setting (fun _ => .ite hu.finishCmd (hgo _)) hu

theorem execSetPowerManagement_steady {tag : Tag} (hu : s.Steady u) : Res.Steady s (execSetPowerManagement tag u) :=
  .pfSetting (fun _ => .ite hu.finishCmd hu.psRequest.finishCmd) hu

theorem execSetVolatileWriteCache_steady {tag : Tag} (hu : s.Steady u) : Res.Steady s (execSetVolatileWriteCache tag u) :=
  .pfSetting (fun _ => hu.setFeat.finishCmd) hu

theorem execSetSpindleGovernor_steady {tag : Tag} (hu : s.Steady u) : Res.Steady s (execSetSpindleGovernor tag u) :=
  .pfSetting (fun _ => .finishCmd (.ite hu.setFeat hu.setFeat.moveTier)) hu

theorem execSetErrorRecovery_steady {tag : Tag} (hu : s.Steady u) : Res.Steady s (execSetErrorRecovery tag u) :=
  .setting (fun _ => .ite hu.finishCmd hu.setFeat.finishCmd) hu

theorem execSetFeatures_steady {tag : Tag} {data : List Byte} (hu : s.Steady u) :
    Res.Steady s (execSetFeatures tag data u) :=
  .setting (fun _ => .ite hu.setFeat.finishCmd (.ite (.ite hu.setFeat.finishCmd hu.finishCmd) (.ite (.ite hu.finishCmd
      hu.finishCmd) (.ite hu.setFeat.finishCmd (.ite (.ite hu.finishCmd hu.setFeat.finishCmd) (.ite (.ite hu.finishCmd
      (.finishCmd (.setFeat (.foldl (fun _ _ hv => hv.setFeat) hu)))) (.ite hu.setFeat.setFeat.setFeat.finishCmd
      hu.finishCmd))))))) hu

theorem execGetFeatures_steady {tag : Tag} (hu : s.Steady u) : Res.Steady s (execGetFeatures tag u) :=
  .onCmd (fun _ => .ite hu.finishCmd (.ite hu.finishCmd (.ite hu.finishCmd (.ite (.ite hu.finishCmd hu.finishCmd) (.ite
      hu.finishCmd (.ite hu.finishCmd (.ite (.ite hu.finishCmd hu.finishCmd) (.ite hu.emit.finishCmd (.ite hu.emit.finishCmd
      (.ite hu.finishCmd hu.finishCmd)))))))))) hu

theorem execDirectiveSend_steady {tag : Tag} (hu : s.Steady u) : Res.Steady s (execDirectiveSend tag u) :=
  .onCmd (fun _ => hu.finishCmd) hu

theorem execDirectiveReceive_steady {tag : Tag} (hu : s.Steady u) : Res.Steady s (execDirectiveReceive tag u) :=
  .onCmd (fun _ => .ite hu.answer hu.finishCmd) hu

theorem State.Steady.assign {c : Cmd} {f rt nr : Nat} {later : Bool} (hu : s.Steady u) :
    s.Steady (u.assign c f rt nr later) := .ite hu.finishCmd hu.setCtrl.virtEvent.finishCmd

theorem execVirtualizationManagement_steady {tag : Tag} (hu : s.Steady u) :
    Res.Steady s (execVirtualizationManagement tag u) :=
  .onCmd (fun _ => .ite hu.finishCmd (.ite (.ite hu.finishCmd (.ite hu.finishCmd hu.assign)) (.ite hu.finishCmd (.ite (.ite
      hu.finishCmd (.ite hu.finishCmd hu.assign)) (.ite (.ite hu.finishCmd hu.setCtrl.virtEvent.finishCmd) (.finishCmd
      (.virtEvent (.setCtrl (.ite hu.resetCtrl hu))))))))) hu

/-! ### Machine/Hse -/

theorem State.Steady.consume {h c : Nat} (hu : s.Steady u) : s.Steady (u.consume h c) := by
  unfold State.consume
  split
  · exact .ite hu.setHse hu
  · exact hu

theorem State.Steady.timerGuess {h c : Nat} (hu : s.Steady u) : s.Steady (u.timerGuess h c) :=
  .ite (.ite hu.parts.wr hu.parts) hu

theorem State.Steady.jc {h n : Nat} (hu : s.Steady u) : s.Steady (u.jc h n).2 := hu.timerGuess.consume

theorem State.Steady.microEvent {h cause imm : Nat} (hu : s.Steady u) : s.Steady (u.microEvent h cause imm) := hu.raise

theorem State.Steady.actCqdone {h n : Nat} (hu : s.Steady u) : s.Steady (u.actCqdone h n) := hu.setHse

theorem State.Steady.actCqld {h : Nat} (hu : s.Steady u) : s.Steady (u.actCqld h) :=
  .ite hu.cause hu.setHse.setChan.wr.wr.wr.wr

theorem State.Steady.actDst {h n : Nat} {own : Bool} (hu : s.Steady u) : s.Steady (u.actDst h n own) := by
  unfold State.actDst
  dsimp only
  split
  · exact .ite hu.wr hu
  · exact .ite hu.wr hu
  · exact .ite hu.wr hu
  · exact hu.wr
  · exact hu.wr
  · exact hu.setHse
  · exact hu.microEvent
  · exact hu.cause
  · exact hu

theorem State.Steady.applyHeld {h : Nat} (hu : s.Steady u) : s.Steady (u.applyHeld h) :=
  .setHse (.foldl (fun _ _ hv => hv.mwr) hu)

theorem State.Steady.actSkip {h : Nat} (hu : s.Steady u) : s.Steady (u.actSkip h) := hu.applyHeld.setHse

theorem State.Steady.actDreq {h : Nat} (hu : s.Steady u) : s.Steady (u.actDreq h) :=
  .ite hu.cause (.ite hu (.ite hu.setHse hu.setHse))

theorem State.Steady.actLcld {h n : Nat} (hu : s.Steady u) : s.Steady (u.actLcld h n) := by
  unfold State.actLcld
  split
  · exact hu.wr
  · exact hu.wr
  · exact hu.wr
  · exact hu

theorem State.Steady.actGates {h n : Nat} (hu : s.Steady u) : s.Steady (u.actGates h n) := by
  unfold State.actGates
  extract_lets v w
  have hv : s.Steady v := .ite hu (by split <;> first | exact hu.wrBit | exact hu)
  have hw : s.Steady w := by
    unfold w
    split
    · exact hv.openR
    · exact hv.rgClose
    · exact hv
  split
  · exact hw.openW
  · exact hw.wgClose
  · exact hw

theorem State.Steady.actTsdrop {h : Nat} (hu : s.Steady u) : s.Steady (u.actTsdrop h) := by
  unfold State.actTsdrop
  split
  · exact hu.cause
  · exact hu.setHse.hseShow

theorem State.Steady.actions {h n : Nat} (hu : s.Steady u) : s.Steady (u.actions h n) :=
  .after (fun h1 => .after (fun h2 => .after (fun h3 => .after (fun h4 => .after (fun h5 => .after (fun h7 => .after (fun h8
      => .after (fun h9 => .after (fun h10 => .ite h10.actTsdrop h10) (.ite h9.actGates h9)) (.ite h8.farm h8)) (.ite
      h7.actDreq h7)) (.ite h5.actDst.actSkip h5.actDst)) (.actLcld (.ite h4.wr h4))) (.ite h3.wrapAdd h3)) (.ite h2.actCqld
      h2)) (.ite h1.actCqdone h1)) (.ite (.ite hu.wr hu.wr.setHse.microEvent) hu)

theorem State.Steady.arrive {h a : Nat} (hu : s.Steady u) : s.Steady (u.arrive h a) := .ite hu.wr.cause hu.wr

theorem State.Steady.arriveNext {h : Nat} (hu : s.Steady u) : s.Steady (u.arriveNext h) := hu.arrive

theorem State.Steady.latchNano {h n : Nat} (hu : s.Steady u) : s.Steady (u.latchNano h n) := hu.setHse

theorem State.Steady.boundary {h : Nat} (hu : s.Steady u) : s.Steady (u.boundary h) := .ite hu.hseHalt hu

theorem State.Steady.illop {h : Nat} (hu : s.Steady u) : s.Steady (u.illop h) := hu.setHse.arriveNext.cause.hseShow.boundary

theorem State.Steady.actThen {h n : Nat} {go : State → State} (hgo : ∀ v, s.Steady v → s.Steady (go v)) (hu : s.Steady u) :
    s.Steady (u.actThen h n go) :=
  .ite hu.illop (.ite hu.setHse.hseShow.boundary (.after (fun h2 => .ite (.boundary (.hseShow (hgo _ h2))) h2)
      hu.setHse.actions))

theorem State.Steady.microStep {h : Nat} {go : State → Nat → State} (hgo : ∀ v, s.Steady v → ∀ x : Nat, s.Steady (go v x))
    (hu : s.Steady u) : s.Steady (u.microStep h go) := by
  unfold State.microStep
  exact .actThen (fun v hv => hgo v hv _) hu.latchNano

theorem State.Steady.branch {h n : Nat} {go : State → State} (hgo : ∀ v, s.Steady v → s.Steady (go v)) (hu : s.Steady u) :
    s.Steady (u.branch h n go) := .ite hu.arriveNext.cause (.ite (hgo _ hu.jc) hu.jc.arriveNext)

theorem execNext_steady {h : Head} (hu : s.Steady u) : Res.Steady s (execNext h u) :=
  .next (.on hu (.microStep (fun _ hv _ => hv.arriveNext) hu))

theorem execJump_steady {h : Head} (hu : s.Steady u) : Res.Steady s (execJump h u) :=
  .next (.on hu (.microStep (fun _ hv _ => .branch (fun _ hv => hv.arrive) hv) hu))

theorem execCall_steady {h : Head} (hu : s.Steady u) : Res.Steady s (execCall h u) :=
  .next (.on hu (.microStep (fun _ hv _ => .branch (fun _ hv => .ite hv.arriveNext.cause hv.setHse.arrive) hv) hu))

theorem execRet_steady {h : Head} (hu : s.Steady u) : Res.Steady s (execRet h u) :=
  .next (.on hu (.microStep (fun _ hv _ => .branch (fun _ hv => by
          dsimp only
          split
          · exact hv.arriveNext.cause
          · exact hv.setHse.arrive) hv) hu))

theorem execLoop_steady {h : Head} (hu : s.Steady u) : Res.Steady s (execLoop h u) :=
  .next (.on hu (.microStep (fun _ hv _ => .ite hv.arriveNext (.arrive (hv.wr (by split <;> decide)))) hu))

theorem State.Steady.waitMet {h c : Nat} (hu : s.Steady u) : s.Steady (u.waitMet h c) :=
  .actThen (fun _ hv => hv.arriveNext) hu.consume

theorem execWait_steady {h : Head} (hu : s.Steady u) : Res.Steady s (execWait h u) :=
  .next (.on hu (.ite hu.latchNano.illop (.after (fun h3 => .ite h3.waitMet h3.consume.boundary)
      hu.latchNano.timerGuess.setHse.hseShow)))

theorem execWaitConditionMet_steady {h : Head} (hu : s.Steady u) : Res.Steady s (execWaitConditionMet h u) :=
  .next (.on hu (.after (fun h1 => .ite (.actThen (fun _ hv => hv.arriveNext) h1) (.ite h1.waitMet h1)) (.ite hu.wr hu)))

theorem execWaittmo_steady {h : Head} (hu : s.Steady u) : Res.Steady s (execWaittmo h u) :=
  .next (.on hu hu.setHse.hseShow.cause)

theorem State.Steady.tretPop {h : Nat} (hu : s.Steady u) : s.Steady (u.tretPop h) := by
  unfold State.tretPop
  dsimp only
  split
  · exact hu.arriveNext.cause
  · exact .after (fun h2 => .ite h2.wr.hseShow h2.wr.hseShow.cause) hu.setHse.wr.wr.wr

theorem execTret_steady {h : Head} (hu : s.Steady u) : Res.Steady s (execTret h u) :=
  .next (.on hu (.microStep (fun _ hv _ => hv.tretPop) hu))

theorem execHalt_steady {h : Head} (hu : s.Steady u) : Res.Steady s (execHalt h u) :=
  .next (.on hu (.microStep (fun _ hv _ => hv.hseHalt) hu))

theorem execIllegalSeq_steady {h : Head} (hu : s.Steady u) : Res.Steady s (execIllegalSeq h u) :=
  .next (.on hu hu.arriveNext.cause.hseShow.boundary)

theorem State.Steady.takeTrap {h : Nat} (hu : s.Steady u) : s.Steady (u.takeTrap h) := by
  unfold State.takeTrap
  split
  · exact hu
  · exact .ite hu.hseHalt hu.setHse.wrBit.arrive.hseShow

theorem execTrapEntry_steady {h : Head} {parity : Bool} (hu : s.Steady u) : Res.Steady s (execTrapEntry h parity u) :=
  .next (.on hu (.ite hu.hseHalt (.ite hu hu.takeTrap)))

theorem execAtomOverrun_steady {h : Head} (hu : s.Steady u) : Res.Steady s (execAtomOverrun h u) :=
  .next (.on hu (.after (fun h2 => .ite h2.hseHalt h2.takeTrap) hu.setHse.wr.microEvent))

theorem State.Steady.hseStart {h : Nat} (hu : s.Steady u) : s.Steady (u.hseStart h) :=
  .ite hu hu.wr.setHse.wr.wr.wr.wr.arrive.hseShow

theorem execHseRunStart_steady {h : Head} (hu : s.Steady u) : Res.Steady s (execHseRunStart h u) :=
  .next (.on hu (.ite hu.hseStart hu.wr))

theorem execHseRunStop_steady {h : Head} (hu : s.Steady u) : Res.Steady s (execHseRunStop h u) :=
  .next (.on hu (.ite hu.wr.setHse.boundary hu.wr))

theorem execDoorbellCmd_steady {h : Head} (hu : s.Steady u) : Res.Steady s (execDoorbellCmd h u) := .next (.on hu hu.cause)

theorem execDoorbellAbort_steady {h : Head} (hu : s.Steady u) : Res.Steady s (execDoorbellAbort h u) :=
  .next (.on hu hu.cause)

theorem execCqptrTailWrite_steady {h : Head} {v : BitVec 4} (hu : s.Steady u) : Res.Steady s (execCqptrTailWrite h v u) :=
  .next (.on hu (.ite hu.wr hu.wr))

theorem execHseDoneRead_steady {h : Head} (hu : s.Steady u) : Res.Steady s (execHseDoneRead h u) :=
  .next (.on hu (by
      split
      · exact hu.emit
      · exact hu.setHse.emit))

theorem execHseStoreWrite_steady {h : Head} {ofs : W16} {v : W32} (hu : s.Steady u) :
    Res.Steady s (execHseStoreWrite h ofs v u) := .next (.on hu (.ite hu.wr.microEvent hu.mwr))

theorem execDefectTableWrite_steady {h : Head} {w : Fin 1024} {v : W32} (hu : s.Steady u) :
    Res.Steady s (execDefectTableWrite h w v u) := .next (.on hu (.ite hu.setHse hu.mwr))

theorem execSkipCheckDone_steady {h : Head} (hu : s.Steady u) : Res.Steady s (execSkipCheckDone h u) :=
  .next (.on hu hu.setHse.applyHeld)

theorem execSlotBoundary_steady {h : Head} (hu : s.Steady u) : Res.Steady s (execSlotBoundary h u) :=
  .next (.on hu (.after (fun h2 => .oceServe (.ite (.ite h2.wgEnd (.ite h2.startWrite (.ite h2.starve h2))) h2)) (.ite
      (.after (fun h2 => .ite h2.rgEnd (.ite h2.startRead h2)) hu.latchOn.setChan.adaptEq) hu.latchOn)))

theorem execKeepOutStart_steady {h : Head} (hu : s.Steady u) : Res.Steady s (execKeepOutStart h u) :=
  .next (.on hu hu.setHse.wr.servoGate.wgFall)

theorem State.Steady.koResume {h : Nat} (hu : s.Steady u) : s.Steady (u.koResume h) :=
  .ite (.ite hu hu.wgRise) (.ite hu.startWrite (.ite hu.startRead hu))

theorem execKeepOutEnd_steady {h : Head} (hu : s.Steady u) : Res.Steady s (execKeepOutEnd h u) :=
  .next (.on hu hu.setHse.wr.servoGate.koResume)

theorem execWritePermitDrop_steady {h : Head} (hu : s.Steady u) : Res.Steady s (execWritePermitDrop h u) :=
  .next (.on hu hu.wgCut.cause)

theorem State.Steady.selfUnload {a : Nat} (hu : s.Steady u) : s.Steady (u.selfUnload a) := .ite hu.armUnload.sceFault hu

theorem State.Steady.markMissing {h : Nat} (hu : s.Steady u) : s.Steady (u.markMissing h) :=
  .after (fun h2 => .ite h2.cause.selfUnload h2) hu.setHse.wr.servoGate.wgFall

theorem execServoAddressMark_steady {h : Head} {widx : BitVec 9} {count : W16} (hu : s.Steady u) :
    Res.Steady s (execServoAddressMark h widx count u) :=
  .next (.on hu (.ite hu.markMissing (.after (fun h2 => .wgFall (.servoGate (.ite h2.setChan h2))) (.latchOn (.wr (.wr (.ite
      hu.setHse.wr hu.setHse)))))))

theorem execSamMissing_steady {h : Head} (hu : s.Steady u) : Res.Steady s (execSamMissing h u) :=
  .next (.on hu hu.markMissing)

/-! ### Machine/RegOps -/

theorem State.Steady.shutMark {k : RKey} (hu : s.Steady u) : s.Steady (u.shutMark k) := by
  unfold State.shutMark
  split <;> first | exact hu | exact hu.wr

theorem State.Kept.storeField {k : RKey} {v : Nat} (hu : s.Kept u) : s.Kept (u.storeField k v) :=
  .ite (hu.trans (State.Steady.refl u).shutMark.toKept) hu.wr

theorem State.Steady.storeField {k : RKey} {v : Nat} (hk : k.reg.info.acc ≠ .RWL) (hu : s.Steady u) :
    s.Steady (u.storeField k v) :=
  .ite hu.shutMark (hu.wr hk)

theorem State.Steady.loadWin {a n v : Nat} {m : WinMem} (hu : s.Steady u) : s.Steady (u.loadWin a n v m) := by
  unfold State.loadWin
  split
  · exact hu.mwr
  · exact .ite hu hu.mwr
  · exact hu
  · exact hu
  · exact hu.mwr

theorem State.Kept.loaderStore {a v : Nat} (hu : s.Kept u) : s.Kept (u.loaderStore a v) :=
  .ite (by
    split
    · exact hu.trans (State.Steady.refl u).loadWin.toKept
    · exact .foldl (fun _ _ hv => .ite hv.storeField hv) hu) (hu.trans (State.Steady.refl u).mwr.toKept)

theorem State.Kept.loaderUndo {a : Nat} (hu : s.Kept u) : s.Kept (u.loaderUndo a) :=
  .ite (by
    split
    · exact hu.trans (State.Steady.refl u).mwr.toKept
    · exact .foldl (fun _ _ hv => .ite hv.wr hv) hu) (hu.trans (State.Steady.refl u).mwr.toKept)

/-! ### Machine/Image -/

theorem State.Kept.placeRun {a : Nat} {bs : List Byte} (hu : s.Kept u) : s.Kept (u.placeRun a bs) :=
  .ite (.foldl (fun _ _ hv => hv.loaderStore) hu) (hu.trans (State.Steady.refl u).busWrite.toKept)

theorem State.Kept.unplaceRun {a n : Nat} (hu : s.Kept u) : s.Kept (u.unplaceRun a n) :=
  .ite (.foldl (fun _ _ hv => hv.loaderUndo) hu) (hu.trans (State.Steady.refl u).busWrite.toKept)

theorem State.Kept.place {l : List (Nat × List Byte)} (hu : s.Kept u) : s.Kept (u.place l) :=
  (State.Kept.foldl (fun _ _ hv => hv.placeRun) hu).trans (State.Steady.refl _).updWp.toKept

/-- The loader places an image before the hand-over only. -/
theorem State.Steady.place {l : List (Nat × List Byte)} (hs : ¬ s.rst.Closed) (hu : s.Steady u) : s.Steady (u.place l) :=
  .of_open hs hu.toKept.place

theorem State.Steady.unplace {l : List (Nat × List Byte)} (hs : ¬ s.rst.Closed) (hu : s.Steady u) : s.Steady (u.unplace l) :=
  .of_open hs ((State.Kept.foldl (fun _ _ hv => hv.unplaceRun) hu.toKept).trans (State.Steady.refl _).updWp.toKept)

/-! ### Machine/ResetOps -/

theorem State.Steady.norTear (hu : s.Steady u) : s.Steady u.norTear := by
  unfold State.norTear; split <;> exact hu.parts

theorem State.Steady.loseDirty (hu : s.Steady u) : s.Steady u.loseDirty :=
  .foldl (fun _ _ hv => .ite hv.parts (.ite hv.parts.mapConv hv.parts)) hu

theorem State.Steady.hifReset (hu : s.Steady u) : s.Steady u.hifReset := hu.endTest.loseDirty.parts.setZones.mediaStop

theorem State.Steady.holdSpeed (hu : s.Steady u) : s.Steady u.holdSpeed := hu.parts.wr.wr.wr.hold

theorem State.Steady.quietArms (hu : s.Steady u) : s.Steady u.quietArms := .foldl (fun _ _ hv => hv.stopLoops.emit) hu

theorem State.Steady.bridgeAtReset {lvl : Nat} (hu : s.Steady u) : s.Steady (u.bridgeAtReset lvl) :=
  .ite hu.holdSpeed (.ite hu hu.emit)

theorem State.Steady.gatesLow (hu : s.Steady u) : s.Steady u.gatesLow := .foldl (fun _ _ hv => .ite hv.emit hv) hu

/-- The outputs fall and the engines stop, before the domains in reach enter reset (R34, Table 2-4). -/
def State.quieted (s : State) (lvl : Nat) : State :=
  let s := (s.setPwr { s.pwr with link := false }).updWp
  let s := if s.pwr.turning then s.retract .reset else s.quietArms
  ((s.bridgeAtReset lvl).gatesLow).hifReset.norTear

/-- The domains in reach enter reset. -/
def State.swept (s : State) (lvl : Nat) : State :=
  let s := { s with
    regs := s.regs.filter (fun e => survives lvl e.1.reg.info.reach)
    mem := s.mem.filter (fun e => keepsMem e.1)
    poison := s.poison.filter (fun e => decide (bufLo ≤ 64 * e.1))
    staged := [], ev := {}, erec := {}, age := { volt := if lvl = 0 ∨ s.bit .AGE_STAT_BUSY then 0 else s.age.volt }, spn := {}, arms := []
    psw := { perst := s.psw.perst, swOpen := if s.rd .PSW_PASS_STATE = 0 then s.psw.swOpen else 0 }
    l2 := {}, hses := [], chans := [], hls := [], oce := {}, dma := {}, buf := {}, frc := {}
    med := { s.med with held := if lvl = 0 then [] else s.med.held, slackLow := 0, slackHigh := 0 } }
  let held := s.pwr.held.filter (fun e => e.1 != 247 && e.1 != 248)
  s.setPwr { s.pwr with plaus := [], fresh := [], held := held, ma := false, biasA := false, biasB := false }

theorem State.levelReset_eq (s : State) (lvl : Nat) : s.levelReset lvl =
    if ((s.quieted lvl).swept lvl).bit .SPN_HOLD_ACTIVE then ((s.quieted lvl).swept lvl).wr .SPN_STAT_STATE 7
    else (s.quieted lvl).swept lvl := by
  simp only [State.levelReset, State.swept, State.quieted]

theorem State.Kept.swept {lvl : Nat} (hu : s.Kept u) : s.Kept (u.swept lvl) :=
  ⟨hu.pending, fun c => (((hu.canon c).filterMem (fun e => keepsMem e.1)).filterRegs
    (fun e => survives lvl e.1.reg.info.reach)).of_eq rfl rfl, hu.onward⟩

theorem State.Steady.quieted {lvl : Nat} (hu : s.Steady u) : s.Steady (u.quieted lvl) := by
  have h : s.Steady (u.setPwr { u.pwr with link := false }).updWp := hu.setPwr.updWp
  unfold State.quieted
  exact .norTear (.hifReset (.gatesLow (.bridgeAtReset (.ite h.retract h.quietArms))))

theorem State.Kept.levelReset {lvl : Nat} (hu : s.Kept u) : s.Kept (u.levelReset lvl) := by
  rw [State.levelReset_eq]
  have h : s.Kept ((u.quieted lvl).swept lvl) := (hu.trans (State.Steady.refl u).quieted.toKept).swept
  exact .ite h.wr h

theorem State.Steady.bootCause {window : Bool} {halt : Nat} (hu : s.Steady u) : s.Steady (u.bootCause window halt) :=
  hu.wr.wr.wrb.wrb.wr

theorem State.Steady.writeStat {level : Nat} (hu : s.Steady u) : s.Steady (u.writeStat level) :=
  hu.wr.wrb.wrb.wrb.wr.wrb.wr.wr.wr.wrb.wr.wr.wr

theorem State.Steady.pulseStart {c : PulseCause} (hu : s.Steady u) : s.Steady (u.pulseStart c) := .ite hu hu.setRst

theorem State.Steady.countTry (hu : s.Steady u) : s.Steady u.countTry := hu.satAdd

theorem State.Steady.recoveryMode (hu : s.Steady u) : s.Steady u.recoveryMode := hu.setRst.raise

theorem State.Steady.loaderStart (hu : s.Steady u) : s.Steady u.loaderStart := .ite hu.setRst.recoveryMode hu.setRst

theorem State.Steady.loaderFail (hu : s.Steady u) : s.Steady u.loaderFail :=
  .after (fun h2 => .ite h2.raise.recoveryMode h2.raise.pulseStart) hu.bootCause.countTry.setRst

theorem State.Steady.copyFails {reason part : Nat} {placed : List (Nat × List Byte)} (hs : ¬ s.rst.Closed) (hu : s.Steady u) :
    s.Steady (u.copyFails reason part placed) :=
  .after (fun h => .ite h.setRst.loaderFail h.setRst.raise) ((hu.place hs).unplace hs)

theorem State.Steady.copyGood {g : Img} {l : Load} (hs : ¬ s.rst.Closed) (hu : s.Steady u) : s.Steady (u.copyGood g l) := by
  unfold State.copyGood
  refine (hu.place hs).setRst ?_
  dsimp only
  split <;> exact ⟨le_rfl, rfl, id, id⟩

/-- A soft reset returns no RWL field. -/
theorem State.Steady.dropFields {p : RKey → Bool} (hu : s.Steady u) (hp : ∀ k, p k = true → k.reg.info.acc ≠ .RWL) :
    s.Steady (u.dropFields p) :=
  ⟨⟨hu.pending, fun c => (hu.canon c).filterRegs _, hu.onward⟩, fun l r i j k => by
    have hk : (!p ⟨r, i, j⟩) = true := by
      rw [Bool.not_eq_true', ← Bool.not_eq_true]
      exact fun e => hp _ e k
    exact (Tab.get_filterKeys (p := fun k => !p k) hk u.regs).trans (hu.locked l r i j k)⟩

theorem State.Steady.dropMem {lo hi : Nat} (hu : s.Steady u) : s.Steady (u.dropMem lo hi) := hu.filterMem

theorem softField_open {b : Blk} {i : Nat} {k : RKey} (h : softField b i k = true) : k.reg.info.acc ≠ .RWL := by
  simp only [softField, Bool.and_eq_true, bne_iff_ne] at h
  exact h.2

theorem State.Steady.softReset {sel : Nat} (hu : s.Steady u) : s.Steady (u.softReset sel) := by
  have h {b i} : s.Steady (u.dropFields (softField b i)) := hu.dropFields (fun _ => softField_open)
  have hk {b} : s.Steady (u.dropFields (fun k => softField b k.i k)) := hu.dropFields (fun _ => softField_open)
  exact .ite h.setHse.dropMem (.ite h.setChan.dropMem (.ite h.setArm.setPwr.updWp (.ite h.setSpn (.ite hk.parts (.ite hk.parts
    (.ite (.foldl (fun _ _ hv => hv.setHse) hk.parts) hu))))))

/-! ### Machine/Nor -/

theorem State.Steady.norDo {op : NorOp} (hu : s.Steady u) : s.Steady (u.norDo op) := hu.parts

theorem State.Steady.norBad {op : NorOp} (hu : s.Steady u) : s.Steady (u.norBad op) := hu.parts

theorem State.Steady.jobEnd {j : NorJob} {st : Nat} (hu : s.Steady u) : s.Steady (u.jobEnd j st) := by
  unfold State.jobEnd
  split
  · exact hu.finishCmd
  · exact hu

theorem State.Steady.drainStart {tag : Nat} (hu : s.Steady u) : s.Steady (u.drainStart tag) := by
  unfold State.drainStart
  exact .closeUnits (.parts (.raise (.foldl (fun _ _ hv => hv.notify) hu)))

theorem State.Steady.drainEnd {tag result ms st : Nat} (hu : s.Steady u) : s.Steady (u.drainEnd tag result ms st) := by
  unfold State.drainEnd
  dsimp only
  split
  · exact hu.parts.raise.finishCmd
  · exact hu.parts.raise

theorem State.Steady.activateWord {a v : Nat} (hu : s.Steady u) : s.Steady (u.activateWord a v) := by
  unfold State.activateWord
  split
  · exact hu.mwr
  · exact hu.mwr
  · exact hu.cogStore
  · exact hu

theorem State.Steady.activateSce {recs : List (Nat × List Byte)} (hu : s.Steady u) : s.Steady (u.activateSce recs) :=
  .foldl (fun _ _ hv => .ite hv.castleTo hv) (.foldl (fun _ _ hv => hv.activateWord) hu)

theorem State.Kept.activate (hu : s.Kept u) : s.Kept u.activate := by
  unfold State.activate
  refine .foldl (fun x _ hx => ?_) (hu.trans (State.Steady.foldl (fun _ _ hv => .ite hv.wr.hseHalt hv) (State.Steady.refl u).setRst).toKept)
  split
  · exact hx.placeRun
  · split
    · exact hx.place
    · split
      · exact hx.trans (State.Steady.refl x).activateSce.toKept
      · exact hx

theorem execActivationDrainDone_kept {ms : W16} (hu : s.Kept u) : ∃ t, execActivationDrainDone ms u = .next t ∧ s.Kept t := by
  refine ⟨_, rfl, ?_⟩
  split
  · exact hu
  · exact .ite (hu.activate.trans (State.Steady.refl _).drainEnd.toKept) hu

theorem execActivationDrainTimeout_steady (hu : s.Steady u) : Res.Steady s (execActivationDrainTimeout u) :=
  .next (by
    split
    · exact hu
    · exact hu.drainEnd)

theorem State.Steady.jobDone {j : NorJob} (hu : s.Steady u) : s.Steady (u.jobDone j) := by
  unfold State.jobDone
  split
  · exact hu.jobEnd
  · exact hu.jobEnd
  · exact hu.jobEnd
  · exact hu
  · exact hu.jobEnd
  · exact hu.jobEnd
  · exact hu.drainStart
  · exact hu.jobEnd.wr.pulseStart

theorem State.Steady.stageAt {j : NorJob} (hu : s.Steady u) : s.Steady (u.stageAt j) := .ite hu.parts hu

theorem State.Steady.startJobs {l : List NorJob} (hu : s.Steady u) : s.Steady (State.startJobs l u) := by
  induction l generalizing u with
  | nil => exact hu.parts
  | cons j t ih =>
    unfold State.startJobs
    split
    · exact ih hu.jobEnd
    · split
      · exact ih hu.jobDone
      · exact hu.stageAt.parts

theorem State.Steady.addJob {j : NorJob} (hu : s.Steady u) : s.Steady (u.addJob j) := by
  unfold State.addJob
  split
  · exact hu.startJobs
  · exact hu.parts

theorem execNorWriteComplete_steady {ok : Bool} {bad : W32} (hu : s.Steady u) :
    Res.Steady s (execNorWriteComplete ok bad u) :=
  .next (by
    split
    · exact hu
    · split
      · exact hu.parts.jobDone.startJobs
      · exact .ite (.ite hu.norDo.parts.jobDone.startJobs hu.norDo.parts) (.after (fun h1 => .startJobs (.jobEnd (by
                split
                · exact h1.raise
                · exact h1.raise
                · exact h1))) hu.norBad.parts))

theorem execCalibrationSetWrite_steady {tag : Tag} {data : List Byte} (hu : s.Steady u) :
    Res.Steady s (execCalibrationSetWrite tag data u) := .onCmd (fun _ => .ite hu.addJob hu.finishCmd) hu

theorem execCalibrationSetRead_steady {tag : Tag} (hu : s.Steady u) : Res.Steady s (execCalibrationSetRead tag u) :=
  .onCmd (fun _ => hu.emit.finishCmd) hu

theorem execFirmwareImageDownload_steady {tag : Tag} {data : List Byte} (hu : s.Steady u) :
    Res.Steady s (execFirmwareImageDownload tag data u) :=
  .onCmd (fun _ => .ite hu.finishCmd (.ite hu.addJob hu.parts.finishCmd)) hu

theorem Res.Steady.commit {tag ca : Nat} {go : Cmd → State} (hgo : ∀ x : Cmd, s.Steady (go x)) (hu : s.Steady u) :
    Res.Steady s (u.commit tag ca go) := .onCmd (fun _ => .ite hu (.ite hu.finishCmd (.ite hu.addJob (hgo _)))) hu

theorem State.Steady.commitJob {c : Cmd} {k : NorKind} (hu : s.Steady u) : s.Steady (u.commitJob c k) := hu.addJob

theorem execFirmwareCommitCa000b_steady {tag : Tag} (hu : s.Steady u) : Res.Steady s (execFirmwareCommitCa000b tag u) :=
  .commit (fun _ => .ite hu.finishCmd hu.commitJob) hu

theorem execFirmwareCommitCa001b_steady {tag : Tag} (hu : s.Steady u) : Res.Steady s (execFirmwareCommitCa001b tag u) :=
  .commit (fun _ => hu.commitJob) hu

theorem execFirmwareCommitCa010b_steady {tag : Tag} (hu : s.Steady u) : Res.Steady s (execFirmwareCommitCa010b tag u) :=
  .commit (fun _ => .ite hu.finishCmd hu.commitJob) hu

theorem execFirmwareCommitCa011b_steady {tag : Tag} (hu : s.Steady u) : Res.Steady s (execFirmwareCommitCa011b tag u) :=
  .commit (fun _ => .ite hu.finishCmd hu.commitJob) hu

theorem execFirmwareCommitCaReserved_steady {tag : Tag} (hu : s.Steady u) :
    Res.Steady s (execFirmwareCommitCaReserved tag u) := .onCmd (fun _ => .ite hu hu.finishCmd) hu

/-! ### Machine/HifNs -/

theorem State.Steady.nsEvent {n : Nsp} {op f : Nat} (hu : s.Steady u) : s.Steady (u.nsEvent n op f) := hu.raise

theorem State.Steady.nsNotice {nsid f : Nat} (hu : s.Steady u) : s.Steady (u.nsNotice nsid f) := hu.parts.notify

theorem State.Steady.keepKey {nsidx : Nat} {key : List Byte} (hu : s.Steady u) : s.Steady (u.keepKey nsidx key) :=
  hu.setKey.setArea

theorem State.Steady.newKey {nsidx : Nat} (hu : s.Steady u) : s.Steady (u.newKey nsidx) := hu.parts.keepKey

theorem execNamespaceCreate_steady {tag : Tag} {data : List Byte} (hu : s.Steady u) :
    Res.Steady s (execNamespaceCreate tag data u) :=
  .onCmd (fun _ => .ite hu.finishCmd (by
      split
      · exact .ite (.after (fun h1 => .finishCmd (.nsEvent (.ite h1.placeZones h1))) (.setNs (.ite hu.parts.newKey
            hu.parts))) hu.parts.finishCmd
      · exact hu.finishCmd)) hu

theorem State.Steady.dropBlocks {ns : Nat} (hu : s.Steady u) : s.Steady (u.dropBlocks ns) := hu.parts

theorem State.Steady.removeNs {n : Nsp} {f : Nat} (hu : s.Steady u) : s.Steady (u.removeNs n f) :=
  .foldl (fun _ _ hv => hv.nsNotice) hu.dropBlocks.keepKey.freeNs.dropPlaces.retryWants.dropConv.setZones.setNs.nsEvent

theorem execNamespaceDelete_steady {tag : Tag} (hu : s.Steady u) : Res.Steady s (execNamespaceDelete tag u) :=
  .onCmd (fun _ => .ite hu.finishCmd (.ite hu (.finishCmd (.foldl (fun _ _ hv => hv.removeNs) hu)))) hu

theorem execNamespaceAttach_steady {tag : Tag} {ctrls : List Func} (hu : s.Steady u) :
    Res.Steady s (execNamespaceAttach tag ctrls u) :=
  .onCmd (fun _ => by
    split
    · exact hu.finishCmd
    · exact .ite hu.finishCmd (.finishCmd (.foldl (fun _ _ hv => hv.nsEvent.nsNotice) hu.setNs))) hu

theorem execNamespaceDetach_steady {tag : Tag} {ctrls : List Func} (hu : s.Steady u) :
    Res.Steady s (execNamespaceDetach tag ctrls u) :=
  .onCmd (fun _ => by
    split
    · exact hu.finishCmd
    · exact .ite hu.finishCmd (.ite hu (.finishCmd (.foldl (fun _ _ hv => hv.nsEvent.nsNotice) hu.setNs)))) hu

theorem State.Steady.wipeNs {n : Nsp} (hu : s.Steady u) : s.Steady (u.wipeNs n) :=
  hu.setZones.dropBlocks.setNs.nsBandsReset.dropConv

theorem State.Steady.eraseEvent {c : Cmd} {result : Nat} (hu : s.Steady u) : s.Steady (u.eraseEvent c result) := hu.raise

theorem State.Steady.eraseBegin {c : Cmd} {l : List Nsp} (hu : s.Steady u) : s.Steady (u.eraseBegin c l) :=
  .after (fun h1 => .ite h1.parts (.finishCmd (.eraseEvent (.foldl (fun _ _ hv => hv.wipeNs) h1)))) hu.eraseEvent.endTest

theorem State.Steady.erase {c : Cmd} {st : Nat} {l : List Nsp} (hu : s.Steady u) : s.Steady (u.erase c st l) :=
  .ite hu.finishCmd (.ite hu hu.eraseBegin)

theorem execFormatNvm_steady {tag : Tag} (hu : s.Steady u) : Res.Steady s (execFormatNvm tag u) :=
  .onCmd (fun _ => hu.erase) hu

theorem execSanitizeCryptoErase_steady {tag : Tag} (hu : s.Steady u) : Res.Steady s (execSanitizeCryptoErase tag u) :=
  .onCmd (fun _ => hu.erase) hu

theorem execCryptoEraseDone_steady {tag : Tag} (hu : s.Steady u) : Res.Steady s (execCryptoEraseDone tag u) :=
  .next (by
    split
    · exact .ite hu (.finishCmd (.eraseEvent (.parts (.foldl (fun _ _ hv => hv.wipeNs) (.foldl (fun _ _ hv => hv.newKey)
          hu)))))
    · exact hu)

theorem Res.Steady.selfTest {tag : Tag} {code heads : Nat} (hu : s.Steady u) : Res.Steady s (u.selfTest tag code heads) :=
  .onCmd (fun _ => by
    split
    · exact hu.finishCmd
    · exact hu.parts.raise.finishCmd) hu

theorem execSelfTestShort_steady {tag : Tag} (hu : s.Steady u) : Res.Steady s (execSelfTestShort tag u) := .selfTest hu

theorem execSelfTestExtended_steady {tag : Tag} (hu : s.Steady u) : Res.Steady s (execSelfTestExtended tag u) := .selfTest hu

theorem execSelfCalibration_steady {tag : Tag} (hu : s.Steady u) : Res.Steady s (execSelfCalibration tag u) := .selfTest hu

theorem execSelfTestAbort_steady {tag : Tag} (hu : s.Steady u) : Res.Steady s (execSelfTestAbort tag u) :=
  .onCmd (fun _ => hu.endTest.finishCmd) hu

theorem State.Steady.selfCalSet {heads : Nat} {body : List Byte} (hu : s.Steady u) : s.Steady (u.selfCalSet heads body).2 :=
  hu.parts

theorem execSelfTestEnd_steady {failed : Bool} {set : List Byte} (hu : s.Steady u) :
    Res.Steady s (execSelfTestEnd failed set u) :=
  .next (by
    split
    · exact hu
    · exact .ite (.addJob (.parts hu.endTest)) hu.endTest)

theorem execSelfTestPreempt_steady {h : Head} {ms : Byte} (hu : s.Steady u) : Res.Steady s (execSelfTestPreempt h ms u) :=
  .next (.on hu hu.raise)

/-! ### Machine/L2Ops -/

theorem State.Steady.setL2 {f : L2 → L2} (hu : s.Steady u) : s.Steady (u.setL2 f) := hu.parts

theorem State.Steady.touch {set way : Nat} (hu : s.Steady u) : s.Steady (u.touch set way) := hu.parts

theorem State.Steady.dropLine {l : Line} (hu : s.Steady u) : s.Steady (u.dropLine l) := hu.setL2

theorem State.Steady.putLine {l : Line} (hu : s.Steady u) : s.Steady (u.putLine l) := hu.dropLine.setL2

theorem State.Steady.setHart {c : Nat} {v : HartSt} (hu : s.Steady u) : s.Steady (u.setHart c v) := hu.setL2

theorem State.Steady.holdD {c k : Nat} (hu : s.Steady u) : s.Steady (u.holdD c k) := hu.parts.setHart

theorem State.Steady.holdI {c k : Nat} {bs : List Byte} (hu : s.Steady u) : s.Steady (u.holdI c k bs) := hu.parts.setHart

theorem State.Steady.dropD {k : Nat} {p : Nat → Bool} (hu : s.Steady u) : s.Steady (u.dropD k p) :=
  .foldl (fun _ _ hv => .ite hv.setHart hv) hu

theorem State.Steady.loseLine {l : Line} (hu : s.Steady u) : s.Steady (u.loseLine l) := hu.dropLine.dropD

theorem State.Steady.firmwareTag {poison : Bool} (hu : s.Steady u) : s.Steady (u.firmwareTag poison) := hu.parts.fabric

theorem State.Steady.writeBack {l : Line} {poison : Bool} (hu : s.Steady u) : s.Steady (u.writeBack l poison) :=
  hu.firmwareTag.busWrite

theorem State.Steady.evict {set way : Nat} (hu : s.Steady u) : s.Steady (u.evict set way) := by
  unfold State.evict
  split
  · exact .loseLine (.ite hu.writeBack hu)
  · exact hu

theorem State.Steady.fill {la : Nat} (hu : s.Steady u) : s.Steady (u.fill la) := hu.evict.firmwareTag.putLine.touch

theorem State.Steady.hit {l : Line} (hu : s.Steady u) : s.Steady (u.hit l) :=
  .ite hu.wrapAdd.touch hu.wrapAdd.dropLine.evict.putLine.touch

theorem State.Steady.hitStill {l : Line} (hu : s.Steady u) : s.Steady (u.hitStill l) := hu.wrapAdd.touch

theorem State.Steady.use {la : Nat} (hu : s.Steady u) : s.Steady (u.use la) := by
  unfold State.use
  split
  · exact .ite hu.hit hu.hitStill
  · exact .after (fun h1 => .ite h1.fill h1.firmwareTag) (.ite hu.wrapAdd hu)

theorem State.Steady.storeLine {a : Nat} {bs : List Byte} (hu : s.Steady u) : s.Steady (u.storeLine a bs) := by
  unfold State.storeLine
  dsimp only
  split
  · exact .ite hu.use.putLine hu.use.putLine.firmwareTag.busWrite
  · exact hu.use.busWrite

theorem State.Steady.cachedLoad {a n : Nat} (hu : s.Steady u) : s.Steady (u.cachedLoad a n).2 := .ite hu.use.use hu.use

theorem State.Steady.cachedStore {a : Nat} {bs : List Byte} (hu : s.Steady u) : s.Steady (u.cachedStore a bs) :=
  .ite hu.storeLine.storeLine hu.storeLine

theorem State.Steady.holdLines {c a n : Nat} (hu : s.Steady u) : s.Steady (u.holdLines c a n) :=
  .foldl (fun _ _ hv => .ite hv.holdD hv) hu

theorem State.Steady.ownLines {c a n : Nat} (hu : s.Steady u) : s.Steady (u.ownLines c a n) :=
  .foldl (fun _ _ hv => hv.dropD) hu

theorem State.Steady.fetch {c a n : Nat} (hu : s.Steady u) : s.Steady (u.fetch c a n).2 :=
  .foldl (fun _ _ hv => .ite hv.holdI hv) hu.cachedLoad

theorem State.Steady.memoryRead {a n : Nat} {ecc : Ecc} (hu : s.Steady u) : s.Steady (u.memoryRead a n ecc) := by
  unfold State.memoryRead
  split
  · exact .ite hu.parts.lineRead hu
  · exact hu

theorem State.Steady.loseDirtyLine {l : Line} {l1 : Bool} (hu : s.Steady u) : s.Steady (u.loseDirtyLine l l1) :=
  hu.writeBack.loseLine.wr.raise

theorem State.Steady.tagError {set way : Nat} (hu : s.Steady u) : s.Steady (u.tagError set way) := by
  unfold State.tagError
  dsimp only
  split
  · exact .after (fun h2 => .raise (.ite h2.wr h2)) hu.satAdd.wr.loseLine
  · exact hu.satAdd.wr.raise

theorem State.Steady.refill {la : Nat} {ecc : Ecc} (hu : s.Steady u) : s.Steady (u.refill la ecc) :=
  .ite hu.memoryRead.fill hu.memoryRead

theorem State.Steady.parityError {c a : Nat} {p : Parity} {ecc : Ecc} (hu : s.Steady u) :
    s.Steady (u.parityError c a p ecc) := by
  unfold State.parityError
  dsimp only
  split
  · exact hu
  · exact .ite hu hu.setHart.raise
  · split
    · exact hu
    · exact .ite hu (.ite hu.satAdd.wr.loseDirtyLine hu.satAdd.wr.loseLine.refill.raise)
  · exact .foldl (fun _ _ hv => hv.tagError) hu
  · exact .ite hu (by
      split
      · exact .ite hu.satAdd.wr.loseDirtyLine hu
      · exact hu)

theorem State.Steady.walkErrors {errs : List WalkError} (hu : s.Steady u) : s.Steady (u.walkErrors errs) :=
  .foldl (fun _ _ hv => .ite hv.parityError hv) (.foldl (fun _ _ hv => hv.parityError) hu)

theorem State.Steady.lineOp {op : LineOp} {l : Line} (hu : s.Steady u) : s.Steady (u.lineOp op l) := by
  unfold State.lineOp
  split
  · exact .ite hu.writeBack.putLine hu
  · exact .loseLine (.ite hu.writeBack hu)
  · exact hu.loseLine

theorem State.Steady.cbo {op : LineOp} {a : Nat} (hu : s.Steady u) : s.Steady (u.cbo op a) :=
  .ite hu (by
    split
    · exact hu.lineOp
    · exact hu)

theorem State.Steady.rangeLine {op : LineOp} {l : Line} (hu : s.Steady u) : s.Steady (u.rangeLine op l) :=
  .ite hu.satAdd (.lineOp (.ite hu.satAdd hu))

/-! ### Machine/HartCsr -/

theorem State.Steady.setCsr {c n v : Nat} (hu : s.Steady u) : s.Steady (u.setCsr c n v) := hu.setHart

theorem State.Steady.hartTrap {c cause tval mepc : Nat} (hu : s.Steady u) : s.Steady (u.hartTrap c cause tval mepc) :=
  hu.setCsr.setCsr.setCsr.setCsr.setHart.emit

theorem State.Steady.illegal {c : Nat} (hu : s.Steady u) : s.Steady (u.illegal c) := hu.parts.hartTrap

theorem State.Steady.mret {c : Nat} (hu : s.Steady u) : s.Steady (u.mret c) := .ite hu.illegal hu.setCsr.setHart

theorem State.Steady.readCsr {c n : Nat} (hu : s.Steady u) : s.Steady (u.readCsr c n).2 := by
  unfold State.readCsr
  split
  · exact hu
  · split
    · exact hu
    · split
      · exact hu
      · exact hu.draw

theorem State.Steady.writeCsr {c n v : Nat} (hu : s.Steady u) : s.Steady (u.writeCsr c n v) :=
  .ite hu (.ite hu.setCsr (.ite (.ite hu hu.setCsr) (.ite hu.setCsr (.ite hu.setCsr hu.setCsr))))

theorem State.Steady.hartOp {c : Nat} {o : HartOp} (hu : s.Steady u) : s.Steady (u.hartOp c o) := by
  unfold State.hartOp
  split
  · exact .ite hu.readCsr.emit hu.illegal
  · exact .ite hu.writeCsr hu.illegal
  · exact hu.setHart
  · exact hu.mret
  · exact hu.illegal

theorem State.Steady.hartOps {c : Nat} {l : List HartOp} (hu : s.Steady u) : s.Steady (u.hartOps c l) :=
  .foldl (fun _ _ hv => hv.hartOp) hu

theorem State.Steady.cboOne {c a : Nat} {op : LineOp} {p : Parity} (hu : s.Steady u) : s.Steady (u.cboOne c a op p) := by
  unfold State.cboOne
  split
  · exact hu.illegal
  · exact .ite (.cbo (.ite hu.parityError hu)) hu.parts.hartTrap

/-! ### Machine/Cores -/

theorem Res.Steady.cboRun {c : Hart} {op : LineOp} {a : Nat} {p : Parity} {pre : List HartOp} (hu : s.Steady u) :
    Res.Steady s (u.cboRun c op a p pre) := .next (.on hu hu.hartOps.cboOne)

theorem execCboClean_steady {c : Hart} {addr : Nat} {p : Parity} {pre : List HartOp} (hu : s.Steady u) :
    Res.Steady s (execCboClean c addr u p pre) := .cboRun hu

theorem execCboFlush_steady {c : Hart} {addr : Nat} {p : Parity} {pre : List HartOp} (hu : s.Steady u) :
    Res.Steady s (execCboFlush c addr u p pre) := .cboRun hu

theorem execCboInval_steady {c : Hart} {addr : Nat} {pre : List HartOp} {p : Parity} (hu : s.Steady u) :
    Res.Steady s (execCboInval c addr pre u p) := .cboRun hu

theorem State.Steady.rangeEnd {op us : Nat} (hu : s.Steady u) : s.Steady (u.rangeEnd op us) := hu.wr.wr.raise

theorem State.Steady.rangeWalk {op : Nat} {errs : List WalkError} (hu : s.Steady u) : s.Steady (u.rangeWalk op errs) :=
  .ite hu.wr.wr.rangeEnd (.wr (.setL2 (.foldl (fun _ _ hv => hv.rangeLine) hu.wr.wr.walkErrors)))

theorem State.Steady.rangeWrite {v : Nat} {errs : List WalkError} (hu : s.Steady u) : s.Steady (u.rangeWrite v errs) :=
  .ite hu.wr.wr (by
    split
    · exact hu.wr.wr.wr.raise
    · exact hu.wr.wr.rangeWalk)

theorem execRangeClean_steady {v : W32} {errs : List WalkError} (hu : s.Steady u) : Res.Steady s (execRangeClean v u errs) :=
  .next (.on hu hu.rangeWrite)

theorem execRangeCleanInvalidate_steady {v : W32} {errs : List WalkError} (hu : s.Steady u) :
    Res.Steady s (execRangeCleanInvalidate v u errs) := .next (.on hu hu.rangeWrite)

theorem execRangeInvalidate_steady {v : W32} {errs : List WalkError} (hu : s.Steady u) :
    Res.Steady s (execRangeInvalidate v u errs) := .next (.on hu hu.rangeWrite)

theorem execRangeOpRefused_steady {v : W32} (hu : s.Steady u) : Res.Steady s (execRangeOpRefused v u) :=
  .next (.on hu hu.rangeWrite)

theorem State.Steady.emptyL2 (hu : s.Steady u) : s.Steady u.emptyL2 := .foldl (fun _ _ hv => hv.setHart) hu.setL2

theorem State.Steady.disableL2 (hu : s.Steady u) : s.Steady u.disableL2 := .ite hu.setL2.wr hu.emptyL2.wr

theorem execRangeOpDone_steady {us : W32} (hu : s.Steady u) : Res.Steady s (execRangeOpDone us u) :=
  .next (by
    split
    · exact .after (fun h1 => .ite h1.disableL2 h1) hu.setL2.rangeEnd
    · exact hu)

theorem execL2Disable_steady (hu : s.Steady u) : Res.Steady s (execL2Disable u) :=
  .next (.on hu (.ite hu.wr.setL2 hu.wr.disableL2))

theorem execL2DrainDone_steady {us : W32} {errs : List WalkError} (hu : s.Steady u) :
    Res.Steady s (execL2DrainDone us u errs) :=
  .next (.on hu (.raise (.wr (.wr (.emptyL2 (.foldl (fun _ _ hv => hv.writeBack) hu.walkErrors.walkErrors))))))

theorem execL2Enable_steady (hu : s.Steady u) : Res.Steady s (execL2Enable u) :=
  .next (.on hu (.ite hu.wr (.ite hu.setL2.wr hu.emptyL2.wr.wr)))

theorem execL2LockWrite_steady {v : W32} (hu : s.Steady u) : Res.Steady s (execL2LockWrite v u) :=
  .next (.on hu (.ite hu.wr.raise hu.wr))

theorem execEvcClaimRead_steady {c : Hart} (hu : s.Steady u) : Res.Steady s (execEvcClaimRead c u) :=
  .next (.on hu (by
      split
      · exact hu.emit
      · exact hu.parts.emit))

theorem execEvcClaimComplete_steady {c : Hart} {v : W32} (hu : s.Steady u) : Res.Steady s (execEvcClaimComplete c v u) :=
  .next (.on hu hu.parts)

theorem execEvcMsipWrite_steady {c : Hart} {v : W32} (hu : s.Steady u) : Res.Steady s (execEvcMsipWrite c v u) :=
  .next (.on hu (.ite hu.wr.setL2.emit hu.wr))

theorem execTimerInterrupt_steady {c : Hart} (hu : s.Steady u) : Res.Steady s (execTimerInterrupt c u) :=
  .next (.on hu hu.wr)

/-! ### Machine/Frc -/

theorem execFrcLaneGo_steady {k : Fin 8} (hu : s.Steady u) : Res.Steady s (execFrcLaneGo k u) :=
  .next (.on hu (.ite hu.wr hu.wr.wr.wr.wr.wr.wr.setLane.laneAsk))

theorem State.Steady.laneFrames {k : Nat} {out : List OutSector} {bad unitBad : List Nat} (hu : s.Steady u) :
    s.Steady (u.laneFrames k out bad unitBad) := .foldl (fun _ _ hv => hv.busWrite) hu

theorem State.Steady.encodeEnd {k : Nat} (hu : s.Steady u) : s.Steady (u.encodeEnd k) :=
  .ite hu.spaceErrors.wr (.wr (.wr (.wr (.wr (.wrb (.wr (.laneFrames (.foldl (fun _ _ hv => hv.raise) hu.ownAccesses))))))))

theorem State.Steady.laneBlock {k i : Nat} {b : DecBlock} (hu : s.Steady u) : s.Steady (u.laneBlock k i b) := by
  unfold State.laneBlock
  dsimp only
  split
  · exact hu.busWrite
  · exact .ite hu.setPoison hu.setPoison.wr.raise

theorem State.Steady.decodeEnd {k : Nat} (hu : s.Steady u) : s.Steady (u.decodeEnd k) :=
  .ite hu.spaceErrors.wr (.wr (.foldl (fun _ _ hv => hv.ownAccess.laneBlock) hu))

theorem execFrcJobEnd_steady {k : Fin 8} (hu : s.Steady u) : Res.Steady s (execFrcJobEnd k u) :=
  .next (.on hu (.edge (.ite hu.decodeEnd hu.encodeEnd)))

theorem State.Steady.keyCommand {op ns : Nat} (hu : s.Steady u) : s.Steady (u.keyCommand op ns) := .on hu hu.parts.wr

theorem execKeyGenerate_steady {nsidx : Byte} (hu : s.Steady u) : Res.Steady s (execKeyGenerate nsidx u) :=
  .next hu.keyCommand

theorem execKeyLoad_steady {nsidx : Byte} (hu : s.Steady u) : Res.Steady s (execKeyLoad nsidx u) := .next hu.keyCommand

theorem execKeyDestroy_steady {nsidx : Byte} (hu : s.Steady u) : Res.Steady s (execKeyDestroy nsidx u) := .next hu.keyCommand

theorem State.Steady.keyWork {op ns : Nat} (hu : s.Steady u) : s.Steady (u.keyWork op ns).2 := by
  unfold State.keyWork
  dsimp only
  split
  · exact hu
  · split
    · exact hu.setKey
    · split
      · exact hu.spaceErrors.draw
      · split
        · exact hu.draw.setKey.ownAccess.busWrite
        · split
          · exact hu.ownAccess.setKey
          · exact hu.ownAccess.loseKey

theorem execKeyCommandEnd_steady (hu : s.Steady u) : Res.Steady s (execKeyCommandEnd u) :=
  .next (by
    split
    · exact hu
    · exact hu.keyWork.parts.wr.wr.edge)

/-! ### Machine/Oce -/

theorem State.Steady.oceAnswer {ctx op res : Nat} (hu : s.Steady u) : s.Steady (u.oceAnswer ctx op res) :=
  hu.wr.wr.wr.wr.edge

theorem State.Steady.oceRun {ctx op count : Nat} (hu : s.Steady u) : s.Steady (u.oceRun ctx op count) := hu.parts.wr

theorem State.Steady.oceCommand {ctx op : Nat} {go : State → State} (hgo : ∀ v, s.Steady v → s.Steady (go v)) (hu : s.Steady
    u) :
    s.Steady (u.oceCommand ctx op go) := .ite hu (.ite hu.wr (.ite hu.oceAnswer (hgo _ hu)))

theorem execOceOpen_steady {ctx : BitVec 9} {count : BitVec 7} (hu : s.Steady u) : Res.Steady s (execOceOpen ctx count u) :=
  .next (.oceCommand (fun _ hv => .ite hv.oceAnswer (.ite hv.oceAnswer hv.oceRun)) hu)

theorem execOcePark_steady {ctx : BitVec 9} (hu : s.Steady u) : Res.Steady s (execOcePark ctx u) :=
  .next (.oceCommand (fun _ hv => .ite hv.oceAnswer (.ite hv.oceAnswer hv.oceRun)) hu)

theorem execOceFill_steady {ctx : BitVec 9} (hu : s.Steady u) : Res.Steady s (execOceFill ctx u) :=
  .next (.oceCommand (fun _ hv => .ite hv.oceAnswer (.ite hv.oceAnswer hv.oceRun)) hu)

theorem execOceBadop_steady {v : W32} (hu : s.Steady u) : Res.Steady s (execOceBadop v u) :=
  .next (.on hu (.oceCommand (fun _ hv => hv.oceAnswer) hu))

theorem State.Steady.openEnd {g count : Nat} {noAnswer : Bool} (hu : s.Steady u) : s.Steady (u.openEnd g count noAnswer) :=
  .ite hu.spaceErrors.oceAnswer (.oceAnswer (.wr (.wr (.wr (.wr (.wr (.wr (.foldl (fun _ _ hv => hv.accumulate)
      hu.busWrite.ownAccesses))))))))

theorem State.Steady.parkEnd {g : Nat} (hu : s.Steady u) : s.Steady (u.parkEnd g) := .oceAnswer (.ite hu.wr.wr hu.wr)

theorem State.Steady.fillEnd {g : Nat} {noAnswer : Bool} (hu : s.Steady u) : s.Steady (u.fillEnd g noAnswer) :=
  .ite hu.wr.raise.oceAnswer (.ite hu.wr.spaceErrors.oceAnswer (.after (fun h2 => by
        dsimp only
        split
        · exact h2.raise.oceAnswer
        · exact .after (fun h3 => .oceAnswer (.ite h3.wr.wr h3.wr.wr.raise)) (.foldl (fun _ _ hv => hv.busWrite) h2))
              hu.wr.ownAccesses))

theorem execOceCommandEnd_steady {noAnswer : Bool} (hu : s.Steady u) : Res.Steady s (execOceCommandEnd noAnswer u) :=
  .next (by
    split
    · exact hu
    · exact .ite hu.parts.openEnd.oceServe (.ite hu.parts.parkEnd hu.parts.fillEnd))

theorem execSetrd_steady {g : Fin 384} (hu : s.Steady u) : Res.Steady s (execSetrd g u) := .next (.on hu (.ite hu.wr hu.wr))

/-! ### Machine/Switch -/

theorem State.Steady.busNumbers {p : SwPort} {pri sec sub : Nat} (hu : s.Steady u) : s.Steady (u.busNumbers p pri sec sub) :=
  .after (fun h2 => .ite h2.parts.raise h2) hu.setPsw.raise

theorem State.Steady.idpControl {linkDisable set : Bool} (hu : s.Steady u) : s.Steady (u.idpControl linkDisable set) :=
  .after (fun h1 => .ite h1.resetAll h1) (.ite hu.setPsw hu)

theorem State.Steady.edpControl {linkDisable set : Bool} (hu : s.Steady u) : s.Steady (u.edpControl linkDisable set) :=
  .ite (.ite hu.setPsw.edpDown hu.setPsw) (.ite hu.emit hu)

theorem State.Steady.cfgWrite {p : SwPort} {r : CfgReg} {v : Nat} (hu : s.Steady u) : s.Steady (u.cfgWrite p r v) := by
  unfold State.cfgWrite
  dsimp only
  split
  case h_11 => split <;> first | exact hu.setPsw | exact .ite hu.setPsw.idpControl hu.setPsw | exact .ite hu.setPsw.edpControl hu.setPsw
  case h_13 => split <;> first | exact hu.setPsw | exact .ite hu.setPsw hu.setPsw.idpControl | exact .ite hu.setPsw hu.setPsw.edpControl
  all_goals first | exact hu | exact hu.setPsw | exact hu.busNumbers

theorem State.Steady.portAnswer {p : SwPort} {t : Tlp} (hu : s.Steady u) : s.Steady (u.portAnswer p t) := by
  unfold State.portAnswer
  split
  · exact hu.emit
  · exact hu.cfgWrite.emit
  · exact hu

theorem State.Steady.refuse {t : Tlp} (hu : s.Steady u) : s.Steady (u.refuse t) :=
  .after (fun h1 => .ite h1 h1.raise) (.ite hu.emit hu)

theorem State.Steady.sendTlp {t : Tlp} {p : Port} (hu : s.Steady u) : s.Steady (u.sendTlp t p) := .ite hu.emit hu.refuse

theorem State.Steady.arbitrate (hu : s.Steady u) : s.Steady u.arbitrate := by
  unfold State.arbitrate
  dsimp only
  split
  · exact hu
  · exact hu.setPsw.sendTlp
  · exact hu.setPsw.sendTlp
  · exact .ite hu.setPsw.sendTlp hu.setPsw.sendTlp

theorem State.Steady.arbitrateAll {n : Nat} (hu : s.Steady u) : s.Steady (State.arbitrateAll n u) := by
  induction n generalizing u with
  | zero => exact hu
  | succ n ih => exact ih hu.arbitrate

theorem State.Steady.drainPort {l : Port} (hu : s.Steady u) : s.Steady (u.drainPort l) := by
  unfold State.drainPort
  split
  · exact hu.arbitrateAll
  · exact .foldl (fun _ _ hv => hv.sendTlp) hu.setPsw

theorem State.Steady.egress {t : Tlp} {p : Port} {credit : Bool} (hu : s.Steady u) : s.Steady (u.egress t p credit) :=
  .ite hu.refuse (.ite hu.setPsw.drainPort hu.setPsw)

/-! ### Machine/Pass -/

theorem State.Steady.joinStart (hu : s.Steady u) : s.Steady u.joinStart :=
  .after (fun h2 => .after (fun h4 => .ite h4.raise h4) (.ite h2.raise.raise h2.raise))
      hu.wr.wr.setPsw.setPassCount.setPassRec

theorem State.Steady.setTap {i : TapInstr} (hu : s.Steady u) : s.Steady (u.setTap i) := hu.setPsw

theorem execPassOpen_steady {v : W32} {tap : TapInstr} (hu : s.Steady u) : Res.Steady s (execPassOpen v u tap) :=
  .next (.on hu.setTap (.ite hu.setTap.raise (.ite hu.setTap.raise (by
          split
          · exact hu.setTap.wr.raise
          · exact .ite hu.setTap.joinStart hu.setTap.wr))))

theorem execPassClose_steady {v : W32} (hu : s.Steady u) : Res.Steady s (execPassClose v u) :=
  .next (.on hu (.ite hu.passClose hu.wr))

theorem execJoinProceed_steady {tap : TapInstr} (hu : s.Steady u) : Res.Steady s (execJoinProceed u tap) :=
  .next (.on hu.setTap hu.setTap.joinStart)

theorem execHoldoffExpire_steady (hu : s.Steady u) : Res.Steady s (execHoldoffExpire u) := .next hu.setPsw

theorem execJoinEnChange_steady {level : Bool} (hu : s.Steady u) : Res.Steady s (execJoinEnChange level u) :=
  .next (.on hu.wrb hu.wrb.passClose)

theorem State.Steady.switchesAt {opened : Nat} (hu : s.Steady u) : s.Steady (u.switchesAt opened) := hu.setPsw

theorem execPassPositionCheck_steady {wrong : W32} (hu : s.Steady u) : Res.Steady s (execPassPositionCheck wrong u) :=
  .next (.ite (.ite hu.switchesAt.wr hu.wr.raise.passClose) (.ite (.after (fun h1 => .ite h1 h1.wr.wr.raise)
      hu.switchesAt.wr) hu))

theorem State.Steady.sendDepth (hu : s.Steady u) : s.Steady u.sendDepth := .ite hu.emit hu

theorem State.Steady.setDepth {d : Nat} (hu : s.Steady u) : s.Steady (u.setDepth d) :=
  .after (fun h2 => .ite h2.passClose.wr.raise h2) (.ite hu.wr.wr hu.wr.wr.raise.sendDepth)

theorem execDepth_steady {hdr : W32} {vid : W16} (hu : s.Steady u) : Res.Steady s (execDepth hdr vid u) :=
  .next (.on hu hu.setDepth)

theorem execBelow_steady {hdr : W32} {vid : W16} (hu : s.Steady u) : Res.Steady s (execBelow hdr vid u) :=
  .next (.on hu hu.setBelow)

theorem execDepthTimeout_steady (hu : s.Steady u) : Res.Steady s (execDepthTimeout u) := .next (.on hu hu.setDepth)

theorem execChainMessagePeriod_steady (hu : s.Steady u) : Res.Steady s (execChainMessagePeriod u) :=
  .next hu.sendDepth.sendBelow

theorem State.Steady.lanesMarked {p : Port} {failed rate : Nat} (hu : s.Steady u) : s.Steady (u.lanesMarked p failed rate) :=
  .foldl (fun _ _ hv => .ite hv.raise hv) hu

theorem execLinkUp_steady {p : Port} {speed : BitVec 3} {width : BitVec 5} {failed : W16} {final : Bool} {rate : BitVec 3}
    (hu : s.Steady u) :
    Res.Steady s (execLinkUp p speed width failed u final rate) :=
  .next (by
    split
    · exact .on hu (.after (fun h2 => .ite h2.lanesMarked (.after (fun h4 => .raise (.parts (.emit (.ite h4.raise h4))))
          h2.lanesMarked.setPsw.raise)) (.ite hu.wr.wr.wr.wr.wr.sendBelow hu.wr.wr.wr))
    · exact .on hu (.after (fun h2 => .ite h2.lanesMarked (.after (fun h4 => .ite h4.raise h4) h2.lanesMarked.setPsw.raise))
          (.ite hu.wr.wr.wr.wr.setPsw.sendDepth.sendBelow hu.wr.wr.wr)))

theorem State.Steady.hotResetBelow (hu : s.Steady u) : s.Steady u.hotResetBelow := .ite hu.emit hu

theorem State.Steady.linksReset {cause : Nat} {propagate : Bool} (hu : s.Steady u) :
    s.Steady (u.linksReset cause propagate) := .linkReset (.edpDown (.uspDown (.ite hu.hotResetBelow hu)))

theorem execLinkDown_steady {p : Port} {cause : Byte} {inL0 : W32} (hu : s.Steady u) :
    Res.Steady s (execLinkDown p cause inL0 u) :=
  .next (by
    split
    · exact .on hu hu.linksReset
    · exact .on hu (.ite hu.edpDown.raise hu.edpDown))

theorem execPerstN_steady {level : Bool} (hu : s.Steady u) : Res.Steady s (execPerstN level u) :=
  .next (.on hu.setPsw (.after (fun h2 => .ite h2 h2.linksReset) hu.setPsw.raise))

theorem execHotReset_steady {dlDown : Bool} (hu : s.Steady u) : Res.Steady s (execHotReset dlDown u) :=
  .next (.on hu (.ite hu.linksReset hu.raise.linksReset))

theorem execIdpLinkControl_steady {linkDisable set : Bool} (hu : s.Steady u) :
    Res.Steady s (execIdpLinkControl linkDisable set u) := .next (.on hu hu.idpControl)

theorem execEdpSecondaryBusReset_steady {linkDisable set : Bool} (hu : s.Steady u) :
    Res.Steady s (execEdpSecondaryBusReset linkDisable set u) := .next (.on hu hu.edpControl)

theorem execIdpBusNumberWrite_steady {primary secondary subordinate : Byte} (hu : s.Steady u) :
    Res.Steady s (execIdpBusNumberWrite primary secondary subordinate u) := .next (.on hu hu.busNumbers)

theorem execTlpForward_steady {t : Tlp} {credit : Bool} (hu : s.Steady u) : Res.Steady s (execTlpForward t u credit) :=
  .next (.on hu (by
      split
      · exact .ite (.ite hu.emit hu) (.on hu hu.egress)
      · exact .on hu (.ite hu.refuse hu.emit)
      · exact .on hu hu.portAnswer
      · exact .on hu hu.refuse
      · exact .on hu hu.emit
      · exact .on hu hu.refuse))

theorem execForwardBufferFull_steady {towardUsp : Bool} {credit : Byte} (hu : s.Steady u) :
    Res.Steady s (execForwardBufferFull towardUsp credit u) := .next (.on hu hu.raise)

/-! ### Machine/PowerDie -/

theorem State.Steady.setBus {vmot : BitVec 12} (hu : s.Steady u) : s.Steady (u.setBus vmot) := hu.wr.setPwr

theorem execBusWatchEnter_steady {vmot : BitVec 12} (hu : s.Steady u) : Res.Steady s (execBusWatchEnter vmot u) :=
  .next (.on hu.setBus hu.setBus.wr.powerEvent)

theorem execBusWatchRelease_steady {vmot : BitVec 12} (hu : s.Steady u) : Res.Steady s (execBusWatchRelease vmot u) :=
  .next (.on hu.setBus hu.setBus.wr)

theorem execOv1Engage_steady {vmot : BitVec 12} (hu : s.Steady u) : Res.Steady s (execOv1Engage vmot u) :=
  .next (.on hu.setBus (.after (fun h1 => .ite h1.powerEvent h1) hu.setBus.wr.setSpn))

theorem execOv1Release_steady {vmot : BitVec 12} (hu : s.Steady u) : Res.Steady s (execOv1Release vmot u) :=
  .next (.on hu.setBus hu.setBus.wr)

theorem execChopperFault_steady {high : Bool} (hu : s.Steady u) : Res.Steady s (execChopperFault high u) :=
  .next (.on hu hu.wr.wr.powerEvent)

theorem execOv2Shutdown_steady {vmot : BitVec 12} (hu : s.Steady u) : Res.Steady s (execOv2Shutdown vmot u) :=
  .next (.on hu.setBus hu.setBus.wr.wr.powerEvent.spnCut.holdEnd.retract)

theorem execPowerLoss_steady (hu : s.Steady u) : Res.Steady s (execPowerLoss u) :=
  .next (.on hu hu.setPwr.powerEvent.spnCut.holdEnd.retract)

theorem execIsolationSwitchClose_steady (hu : s.Steady u) : Res.Steady s (execIsolationSwitchClose u) :=
  .next (.on hu hu.parts.wr.setPwr)

theorem execRetractPush_steady (hu : s.Steady u) : Res.Steady s (execRetractPush u) :=
  .next (.on hu (.foldl (fun _ _ hv => .ite hv hv.emit) hu.setPwr))

theorem execRetractDone_steady {t0 t1 t2 t3 : W16} (hu : s.Steady u) : Res.Steady s (execRetractDone t0 t1 t2 t3 u) :=
  .next (.on hu (.updWp (.powerEvent (.foldl (fun _ _ hv => hv.emit) hu.setPwr))))

theorem execLinkSilence_steady {us : W32} {xsys : Bool} (hu : s.Steady u) : Res.Steady s (execLinkSilence us u xsys) :=
  .next (.on hu (.after (fun h => .updWp (.retract (.ite h h.spnCut)))
    (.hold ⟨⟨hu.pending, fun c => (hu.canon c).of_eq rfl rfl, hu.onward.trans ⟨le_rfl, rfl, id, id⟩⟩, hu.locked⟩)))

theorem execBridgeOvercurrent_steady {b : Bridge} {value : W16} (hu : s.Steady u) :
    Res.Steady s (execBridgeOvercurrent b value u) :=
  .next (by
    split
    · exact hu.powerEvent.wr.spnCut
    · exact hu.parts.powerEvent.setPwr.emit.retract)

theorem execPowerDieOvertemp_steady {value : W16} (hu : s.Steady u) : Res.Steady s (execPowerDieOvertemp value u) :=
  .next hu.parts.wr.setPwr.powerEvent.wr.spnCut.retract

theorem State.Steady.maOff (hu : s.Steady u) : s.Steady u.maOff :=
  .foldl (fun _ _ hv => .foldl (fun _ _ hv => hv.stopMicro) hv) hu.setPwr

theorem execMaRailOutOfRange_steady (hu : s.Steady u) : Res.Steady s (execMaRailOutOfRange u) := .next hu.maOff

theorem execMaRailInRange_steady (hu : s.Steady u) : Res.Steady s (execMaRailInRange u) := .next (.on hu hu.setPwr)

theorem execControllerDieOvertemp_steady (hu : s.Steady u) : Res.Steady s (execControllerDieOvertemp u) :=
  .next hu.setPwr.updWp

theorem execControllerDieTempRestore_steady (hu : s.Steady u) : Res.Steady s (execControllerDieTempRestore u) :=
  .next hu.setPwr.updWp

theorem execShockExcursion_steady {_inputB : Bool} (hu : s.Steady u) : Res.Steady s (execShockExcursion _inputB u) :=
  .next hu.setPwr.updWp

theorem execShockHoldExpire_steady (hu : s.Steady u) : Res.Steady s (execShockHoldExpire u) := .next hu.setPwr.updWp

theorem execShockSensorUnsound_steady {inputB : Bool} (hu : s.Steady u) : Res.Steady s (execShockSensorUnsound inputB u) :=
  .next hu.setPwr.updWp

theorem execShockSensorSoundRestore_steady {inputB : Bool} {bias : Byte} (hu : s.Steady u) :
    Res.Steady s (execShockSensorSoundRestore inputB bias u) :=
  .next (.updWp (.ite (.on hu.setPwr hu.setPwr.wr) (.on hu.setPwr hu.setPwr.wr)))

theorem execReportFreshExpire_steady {a : Arm} (hu : s.Steady u) : Res.Steady s (execReportFreshExpire a u) :=
  .next hu.setPwr.updWp

theorem execSupplyWindowExit_steady {rail : Rail} (hu : s.Steady u) : Res.Steady s (execSupplyWindowExit rail u) :=
  .next (by
    split
    · exact hu.setPwr.passClose6.updWp
    · exact hu.setPwr.maOff.updWp
    · exact hu.setPwr.updWp)

theorem execSupplyGoodRestore_steady {rail : Rail} (hu : s.Steady u) : Res.Steady s (execSupplyGoodRestore rail u) :=
  .next (by
    split
    · exact hu.setPwr.recordClose6.updWp
    · exact hu.setPwr.updWp
    · exact hu.setPwr.updWp)

/-! ### Machine/ServoOps -/

theorem State.Steady.setMic {a p : Nat} {m : Micro} (hu : s.Steady u) : s.Steady (u.setMic a p m) := hu.setArm

theorem State.Steady.refUpdate {a : Nat} (hu : s.Steady u) : s.Steady (u.refUpdate a) := .ite hu hu.wr.sceFault

theorem State.Steady.judge {a p : Nat} {x : Sample} {res : Rat} (hu : s.Steady u) : s.Steady (u.judge a p x res) :=
  .ite hu.setMic.setPlaus (.ite hu.setMic.setPlaus hu.setMic)

theorem State.Steady.report {a : Nat} (hu : s.Steady u) : s.Steady (u.report a) := hu.linkHeard.setPwr.updWp

theorem State.Steady.profileStep {a : Nat} (hu : s.Steady u) : s.Steady (u.profileStep a).2.2.2 := hu.setArm

theorem State.Steady.seekStart {a : Nat} {ref : Rat} (hu : s.Steady u) : s.Steady (u.seekStart a ref) := by
  unfold State.seekStart
  exact .after (fun h => .after (fun g => .ite g.castleTo g) (.ite h.wr h)) (.foldl (fun _ _ hv => hv.stopMicro.setMic)
    hu.wr.wr.setSceState.setArm)

theorem State.Steady.seekAgain {a : Nat} (hu : s.Steady u) : s.Steady (u.seekAgain a) := hu.setArm

theorem State.Steady.setCtgt {a v : Nat} (hu : s.Steady u) : s.Steady (u.setCtgt a v) :=
  .after (fun h1 => .ite h1.wr.seekAgain (.ite h1.wr.seekStart h1.wr)) (.ite hu hu.wr)

theorem State.Steady.xffTake {a : Nat} (hu : s.Steady u) : s.Steady (u.xffTake a) := hu.setArm

theorem State.Steady.coarse {a : Nat} {rref aref pc : Rat} {late : Bool} (hu : s.Steady u) :
    s.Steady (u.coarse a rref aref pc late) :=
  .after (fun h1 => .ite h1.xffTake.wrb.setArm h1.xffTake.wrb.setArm.sceDrive) (.ite hu.wr.setArm hu)

theorem State.Steady.microLoop {a p : Nat} {pos : Rat} {late wait : Bool} (hu : s.Steady u) :
    s.Steady (u.microLoop a p pos late wait) :=
  .ite hu.setMic.stopMicro (.after (fun h2 => .ite h2.wrBit.setMic h2.wrBit.setMic.emit) hu.setMic.wrBit)

theorem State.Steady.pendingCheck {a : Nat} (hu : s.Steady u) : s.Steady (u.pendingCheck a) := hu.wrb

theorem State.Steady.readyHead {a p : Nat} {valid : Bool} (hu : s.Steady u) : s.Steady (u.readyHead a p valid) :=
  hu.setMic.wrBit.wrBit

theorem State.Steady.settled {a : Nat} (hu : s.Steady u) : s.Steady (u.settled a) := .ite hu.setSceState hu

theorem State.Steady.observe {a : Nat} {pc : Option Rat} (hu : s.Steady u) : s.Steady (u.observe a pc) := by
  unfold State.observe; dsimp only; split <;> exact hu.setArm

theorem State.Steady.setPos {a : Nat} {pc : Rat} (hu : s.Steady u) : s.Steady (u.setPos a pc) := hu.wr.setArm

theorem State.Steady.coarseSample {a : Nat} {pc : Rat} {late : Bool} (hu : s.Steady u) :
    s.Steady (u.coarseSample a pc late) :=
  .ite (.after (fun h1 => .ite (.ite h1.setSceState.castleTo h1.setSceState) h1) hu.profileStep.coarse) hu.coarse

theorem State.Steady.afterSample {a p : Nat} {x : Sample} (hu : s.Steady u) : s.Steady (u.afterSample a p x) :=
  .setMic (.pendingCheck (.armPlaus (.refUpdate (.ite hu.readyHead.settled hu))))

theorem State.Steady.track {a p : Nat} {x : Sample} {first : Bool} (hu : s.Steady u) : s.Steady (u.track a p x first) :=
  .ite (.after (fun h2 => .afterSample (.microLoop (.ite h2.setPos.coarseSample h2))) (.ite hu.judge hu.judge.observe))
      hu.judge.microLoop.afterSample

theorem State.Steady.loadSample {a p : Nat} {x : Sample} (hu : s.Steady u) : s.Steady (u.loadSample a p x) :=
  .ite hu.setArm (.ite hu.setPos.setArm hu.setPos.wr.setSceState.setArm.track)

theorem State.Steady.windowCut {a : Nat} (hu : s.Steady u) : s.Steady (u.windowCut a) :=
  .foldl (fun _ _ hv => .ite hv hv.cutFrame) hu

theorem State.Steady.serve {a : Nat} {x : Sample} (hu : s.Steady u) : s.Steady (u.serve a x) :=
  .after (fun h2 => .report (.windowCut (.ite (.ite h2.loadSample h2) (.ite h2.track (.ite h2.setPos h2))))) (.ite
      hu.refUpdate.wr hu.refUpdate)

/-! ### Machine/Spindle -/

theorem State.Steady.setSpeed {x : Rat} (hu : s.Steady u) : s.Steady (u.setSpeed x) :=
  .ite hu.wr.setSpn.setPwr.updWp hu.wr.setSpn

theorem State.Steady.holdDrive (hu : s.Steady u) : s.Steady u.holdDrive := .ite hu.parts.emit hu

theorem execZeroCrossing_steady {interval : Nat} {angle : Fin 6} (hu : s.Steady u) :
    Res.Steady s (execZeroCrossing interval angle u) :=
  .after (fun h2 => .after (fun h3 => .next (.on h3 (.ite h3.setSpeed.takeOver (.after (fun h5 => .ite
      h5.lockWatch.spnLeave.setSpn.brake h5.lockWatch) (.ite h3.setSpeed.spnSample h3.setSpeed))))) (.ite
      h2.commutate.holdDrive h2)) hu.turn.setSpn.planned

theorem execLockEntered_steady (hu : s.Steady u) : Res.Steady s (execLockEntered u) :=
  .next (.on hu hu.wr.wr.wr.wr.setSpn.raise)

theorem execLockLost_steady (hu : s.Steady u) : Res.Steady s (execLockLost u) := .next (.on hu hu.tierOut.raise)

theorem execSpnTgtWrite_steady {v : W16} (hu : s.Steady u) : Res.Steady s (execSpnTgtWrite v u) :=
  .next (.on hu hu.linkHeard.spnTarget)

theorem execCogenWrite_steady {en : Bool} (hu : s.Steady u) : Res.Steady s (execCogenWrite en u) :=
  .next (.on hu (.ite hu.wrb.cogCheck hu.wrb))

theorem execCogTableWrite_steady {w : Fin 48} {v : W32} (hu : s.Steady u) : Res.Steady s (execCogTableWrite w v u) :=
  .next (.on hu hu.cogStore)

theorem State.Steady.catchSpindle {q : Nat} (hu : s.Steady u) : s.Steady (u.catchSpindle q) := hu.setSpeed.wr.raise.setSpn

theorem execObserveEnd_steady {o : Observed} (hu : s.Steady u) : Res.Steady s (execObserveEnd o u) :=
  .next (.on hu (by
      split
      · exact .ite hu.turn.catchSpindle hu.turn.attempt
      · exact hu.turn.wr.raise.attempt
      · exact hu.attempt
      · exact .ite hu.attempt hu.setSpn))

theorem State.Steady.stopped {ms : Nat} (hu : s.Steady u) : s.Steady (u.stopped ms) := hu.turn.wr.raise.setPwr.updWp.setSpn

theorem State.Steady.stopEnd (hu : s.Steady u) : s.Steady u.stopEnd := .ite hu.spnStart hu.spnLeave.emit

theorem execBrakeConfirmed_steady {ms : W32} (hu : s.Steady u) : Res.Steady s (execBrakeConfirmed ms u) :=
  .next (.on hu (.ite hu.stopped.stopEnd hu.stopped.wr.setSpn.emit))

theorem execBrakeTimeout_steady (hu : s.Steady u) : Res.Steady s (execBrakeTimeout u) :=
  .next (.on hu hu.wr.raise.spnLeave.emit)

theorem execAlignVectorEnd_steady (hu : s.Steady u) : Res.Steady s (execAlignVectorEnd u) :=
  .next (.on hu (.ite hu.setSpn.emit hu.turn.wr.emit))

theorem execHandover_steady (hu : s.Steady u) : Res.Steady s (execHandover u) := .next (.on hu hu.setSpn.wr.raise)

theorem execStartAttemptFail_steady (hu : s.Steady u) : Res.Steady s (execStartAttemptFail u) :=
  .next (.on hu (.ite hu.raise.attempt hu.raise.wr.raise.spnLeave.emit))

theorem execWindingShortStop_steady {ms : W32} (hu : s.Steady u) : Res.Steady s (execWindingShortStop ms u) :=
  .next (.on hu hu.stopped.stopEnd)

theorem execTake_steady (hu : s.Steady u) : Res.Steady s (execTake u) := .next (.on hu hu.setSpn)

theorem execClrchop_steady (hu : s.Steady u) : Res.Steady s (execClrchop u) := .next (.on hu hu.wr)

theorem execClrov_steady (hu : s.Steady u) : Res.Steady s (execClrov u) := .next (.on hu hu.wr)

/-! ### Machine/RegWrite -/

theorem State.Steady.spillCount (hu : s.Steady u) : s.Steady u.spillCount := hu.parts

theorem State.Steady.fieldEffect {k : RKey} {old : Nat} (hu : s.Steady u) : s.Steady (u.fieldEffect k old) := by
  unfold State.fieldEffect
  split
  · exact hu.updWp
  · exact .ite hu.passClose hu
  · exact .pendingCheck (.foldl (fun _ _ hv => .ite hv.stopMicro hv) hu)
  · exact .on hu hu.servoGate
  · exact .on hu hu.fairCheck
  · exact hu.lanesAsk
  · exact hu.guardNow
  · exact hu.guardNow
  · exact hu.spillC.spillCount
  · exact hu.spillM
  · exact .ite hu hu.wr.setChan
  · exact hu

theorem State.Steady.writeField {k : RKey} {d n v : Nat} (hu : s.Steady u) : s.Steady (u.writeField k d n v) := by
  unfold State.writeField
  dsimp only
  split
  · next h => exact .ite hu (.fieldEffect (hu.storeField (by rw [h]; decide)))
  · next h =>
    by_cases hl : u.rst.locked = true
    · simp only [hl, Bool.true_or, if_true]
      exact hu
    · have hs : ¬ s.rst.Closed := hu.was_open (fun c => hl c.2)
      exact .ite hu (.fieldEffect (.of_open hs hu.toKept.storeField))
  · next h => exact .ite hu (.fieldEffect (hu.wr (by rw [h]; decide)))
  · exact hu
  · exact hu

theorem State.Steady.writeWin {a n v : Nat} {m : WinMem} (hu : s.Steady u) : s.Steady (u.writeWin a n v m) := by
  unfold State.writeWin
  split
  · exact hu
  · exact hu
  · exact hu
  · exact hu
  · exact hu
  · exact hu
  · exact .ite hu hu.mwr
  · exact hu.loadWin

theorem State.Steady.plainWrite {a n v : Nat} (hu : s.Steady u) : s.Steady (u.plainWrite a n v) :=
  .ite hu (by
    split
    · exact hu.writeWin
    · exact .foldl (fun _ _ hv => hv.writeField) hu)

theorem execRegisterWrite_steady {addr : Nat} {wide : Bool} {v : Word} (hu : s.Steady u) :
    Res.Steady s (execRegisterWrite addr wide v u) := .next (.on hu hu.plainWrite)

/-! ### Machine/Reset -/

theorem execPowerOnRelease_steady {xsys : Bool} (hu : s.Steady u) : Res.Steady s (execPowerOnRelease u xsys) :=
  .next (.on hu (hu.setRst ⟨le_rfl, rfl, fun _ => rfl, id⟩))

/-- The loader restarts before the hand-over only. -/
theorem State.Steady.loaderRestart {part : Nat} (hs : ¬ s.rst.Closed) (hu : s.Steady u) : s.Steady (u.loaderRestart part) := by
  unfold State.loaderRestart
  cases u.readingPart part with
  | none => exact hu.setRst.raise.writeStat
  | some l => exact .writeStat (.raise (.setRst (hu.place hs)))

theorem execSysrstNRelease_steady {xsys : Bool} (hu : s.Steady u) : Res.Steady s (execSysrstNRelease u xsys) :=
  .next (.on hu hu.setRst)

theorem execLoaderRestartStart_steady (hu : s.Steady u) : Res.Steady s (execLoaderRestartStart u) :=
  .next (.on hu hu.setRst.loaderStart)

/-- The release of a step that is not released yet. At step 7 the fields lock, and no RWL field is written. -/
theorem State.Steady.releaseStep {k : Nat} {blkOk : Bool} (hk : u.rst.step < k) (hl : k ≤ 10) (hu : s.Steady u) :
    s.Steady (u.releaseStep k blkOk) := by
  unfold State.releaseStep
  refine .iteOf (fun e => ?_) fun h1 => .iteOf (fun _ => ?_) fun h2 => .iteOf (fun e => ?_) fun h4 => .iteOf (fun e => ?_)
    fun h5 => .iteOf (fun e => ?_) fun h6 => .iteOf (fun e => ?_) fun h7 => .iteOf (fun e => ?_) fun h8 => .iteOf (fun e => ?_)
    fun h9 => ?_
  · exact hu.setRst (.release (e ▸ hk))
  · exact hu.setRst (.release hk)
  · exact hu.setRst (.release (e ▸ hk))
  · exact (hu.setRst (.release (e ▸ hk))).recorderStart.raiseHeld
  · exact (hu.setRst (.release (e ▸ hk))).loaderStart
  · subst e
    exact .after (fun h => .ite h h.countTry) (.wr (hu.setRst (.release hk rfl rfl (fun c => absurd c (by omega)))))
  · exact .after (fun h => .ite (.brake (.setSpn (.ite h.wr.raise h))) (.after (fun g => .ite g g.spnTarget) (.ite h.cogCheck h)))
      (.foldl (fun _ _ hv => .ite hv.setSceState hv) (hu.setRst (.release (e ▸ hk))))
  · exact .foldl (fun _ _ hv => .after (fun h => .ite h.setChan h) (.ite hv.hseStart hv)) (hu.setRst (.release (e ▸ hk)))
  · have e : k = 10 := by omega
    exact .after (fun h => .ite h.setPassRec.raise h) (.raise (.writeStat (.after (fun h => .ite h h.loadKeys)
      (hu.setRst (.release (e ▸ hk))).setPsw)))

theorem execReleaseStep_steady {blkOk : Bool} (hu : s.Steady u) : Res.Steady s (execReleaseStep u blkOk) :=
  .next (.onOf hu (fun h => hu.releaseStep (Nat.lt_succ_self _) (by simp at h; omega)))

theorem State.Steady.startBias (hu : s.Steady u) : s.Steady u.startBias :=
  .after (fun h1 => .setPwr (.on h1 h1.wr)) (.on hu.parts hu.parts.wr)

theorem State.Steady.startHarts (hu : s.Steady u) : s.Steady u.startHarts :=
  .after (fun h1 => .ite h1 h1.emit) (.foldl (fun _ _ hv => hv.emit) hu)

theorem State.Steady.stepComplete {eye : Nat} (hu : s.Steady u) : s.Steady (u.stepComplete eye) := by
  unfold State.stepComplete
  dsimp only
  split
  · exact hu.setRst.setPwr.recordClose6.startBias
  · exact hu.setRst.wr
  · exact .ite hu.setRst.wr.hold.filterMem hu.setRst.wr.hold
  · exact hu.setRst.wr.parts.startHarts
  · exact hu.setRst

theorem execReleaseStepComplete_steady {eye : Word} (hu : s.Steady u) : Res.Steady s (execReleaseStepComplete eye u) :=
  .next (.on hu hu.stepComplete)

theorem State.loading_open (h : u.loading = true) : ¬ u.rst.Closed := by
  have h6 : u.rst.step = 6 := by simp_all [State.loading]
  exact fun c => absurd c.1 (by omega)

theorem State.Steady.readTimeout {part : Nat} (hu : s.Steady u) : s.Steady (u.readTimeout part) := by
  unfold State.readTimeout
  split
  · next h =>
    have hl : u.loading = true := by
      by_contra hl
      simp [State.readingPart, hl] at h
    exact hu.copyFails (hu.was_open (State.loading_open hl))
  · exact hu

theorem execReleaseStepTimeout_steady {chan tstep : Byte} {part : BitVec 4} (hu : s.Steady u) :
    Res.Steady s (execReleaseStepTimeout chan tstep u part) :=
  .next (.on hu (.ite (.ite hu.setRst hu.setRst.bootCause) (.ite hu.setRst.bootCause.hold (.ite hu.setRst.bootCause (.ite
      hu.readTimeout hu)))))

theorem execLoadCopyDone_steady (hu : s.Steady u) : Res.Steady s (execLoadCopyDone u) := by
  refine .next ?_
  unfold State.on
  split
  · next h =>
    have hs := hu.was_open (State.loading_open h)
    exact .ite (hu.copyGood hs) (hu.copyFails hs)
  · exact hu

theorem execNorReadTimeout_steady {part : BitVec 4} (hu : s.Steady u) : Res.Steady s (execNorReadTimeout part u) :=
  .next hu.readTimeout

theorem execRstRunokWrite_steady {v : W32} (hu : s.Steady u) : Res.Steady s (execRstRunokWrite v u) :=
  .next (.on hu (.after (fun h1 => .ite h1.mwr.wr h1) hu.setRst.wr.wr))

theorem execBootWindowExpire_steady (hu : s.Steady u) : Res.Steady s (execBootWindowExpire u) :=
  .next (.on hu hu.setRst.bootCause.raise)

theorem execWindowRecordAckPulse_steady (hu : s.Steady u) : Res.Steady s (execWindowRecordAckPulse u) :=
  .next (.on hu hu.setRst.pulseStart)

theorem execRstOutPulse_steady {v : W32} (hu : s.Steady u) : Res.Steady s (execRstOutPulse v u) :=
  .next (.on hu hu.pulseStart)

theorem execRstoutPulseEnd_steady (hu : s.Steady u) : Res.Steady s (execRstoutPulseEnd u) :=
  .next (by
    split
    · exact hu
    · exact .ite hu.setRst (.after (fun h2 => .ite h2.recoveryMode h2) hu.setRst.wr.raise))

theorem execRstBlkGo_steady {v : W32} (hu : s.Steady u) : Res.Steady s (execRstBlkGo v u) :=
  .next (.on hu (.ite hu.wr (.ite hu.wr.wr.setRst.softReset hu.wr.wr.raise)))

theorem execSoftResetDone_steady (hu : s.Steady u) : Res.Steady s (execSoftResetDone u) := .next (.on hu hu.wr.setRst)

/-! ### Machine/Servo -/

theorem execSampleRecord_steady {h : Head} {w : Wedge} {same : Bool} (hu : s.Steady u) :
    Res.Steady s (execSampleRecord h w u same) := .next (.on hu hu.setMic.setArm)

theorem execSampleService_steady {a : Arm} (hu : s.Steady u) : Res.Steady s (execSampleService a u) :=
  .next (by
    split
    · exact hu
    · exact .on hu hu.setArm.serve)

theorem State.Steady.lateLoop {a loop : Nat} {first : Bool} (hu : s.Steady u) : s.Steady (u.lateLoop a loop first) :=
  .after (fun h1 => .ite h1.raise h1) (.wrapAdd (.ite hu.wr hu.wrBit))

theorem State.Steady.lateHead {a p : Nat} (hu : s.Steady u) : s.Steady (u.lateHead a p) := hu.setMic.losePlaus

theorem State.Steady.lateMicro {a p : Nat} (hu : s.Steady u) : s.Steady (u.lateMicro a p) :=
  .after (fun h1 => .ite h1.lateHead h1) hu.lateLoop.setMic

theorem State.Steady.lateCoarse {a : Nat} (hu : s.Steady u) : s.Steady (u.lateCoarse a) :=
  .after (fun h1 => .ite (.foldl (fun _ _ hv => hv.lateHead) h1) h1) hu.lateLoop.setArm

theorem State.Steady.lateSample {a : Nat} {x : Sample} {lv lm : Bool} (hu : s.Steady u) :
    s.Steady (u.lateSample a x lv lm) :=
  .after (fun h2 => .updWp (.armPlaus (.refUpdate (.ite h2.lateMicro h2)))) (.ite hu.setArm.lateCoarse hu.setArm)

theorem execSampleDeadlineMiss_steady {e : Sce} (hu : s.Steady u) : Res.Steady s (execSampleDeadlineMiss e u) :=
  .next (.ite (.on hu (.after (fun h1 => .ite h1.wrapAdd.raise h1.wrapAdd) hu.setSpn.wrBit)) (by
      split
      · exact hu.lateSample
      · exact hu))

theorem execBankselSwap_steady {e : Sce} (hu : s.Steady u) : Res.Steady s (execBankselSwap e u) := .next (.on hu hu.bankSwap)

theorem execBankWrite_steady {e : Sce} {bankB : Bool} {w : Fin 128} {v : W32} (hu : s.Steady u) :
    Res.Steady s (execBankWrite e bankB w v u) := .next (.on hu hu.bankStore)

theorem execSceRunWrite_steady {a : Arm} {run : Bool} (hu : s.Steady u) : Res.Steady s (execSceRunWrite a run u) :=
  .next (.on hu (.ite hu.wrb (.ite (.ite hu.wrb.setSceState hu.wrb) (.ite hu.wrb.setSceState.setArm (.ite hu.wrb
      hu.wrb.armUnload)))))

theorem execLoad_steady {a : Arm} (hu : s.Steady u) : Res.Steady s (execLoad a u) :=
  .next (.on hu (.ite hu.wr hu.setArm.setSceState.setPwr.sceDrive))

theorem execUnload_steady {a : Arm} (hu : s.Steady u) : Res.Steady s (execUnload a u) := .next (.on hu hu.armUnload)

theorem execUnloadPushEnd_steady {a : Arm} (hu : s.Steady u) : Res.Steady s (execUnloadPushEnd a u) :=
  .next (.on hu (.after (fun h1 => .ite h1.setSceState h1.setSceState.setArm) hu.sceDrive.emit))

theorem execLoadtmo_steady {a : Arm} (hu : s.Steady u) : Res.Steady s (execLoadtmo a u) :=
  .next (.on hu hu.armUnload.sceFault)

theorem execCtgtWrite_steady {a : Arm} {v : W32} (hu : s.Steady u) : Res.Steady s (execCtgtWrite a v u) :=
  .next (.on hu hu.setCtgt)

theorem execSeektmo_steady {a : Arm} (hu : s.Steady u) : Res.Steady s (execSeektmo a u) := .next (.on hu hu.wr.sceFault)

/-! ### Machine/HartOps -/

theorem State.Steady.state {r : Res} (hr : Res.Steady s r) : s.Steady (r.state u) := by
  obtain ⟨t, rfl, ht⟩ := hr
  exact ht

theorem State.Steady.fieldRow {k : RKey} {x v : Nat} (hu : s.Steady u) : s.Steady (u.fieldRow k x v) := by
  unfold State.fieldRow
  dsimp only
  split
  · exact .ite (.state (execRstOutPulse_steady hu)) hu
  · exact .ite (.state (execRstRunokWrite_steady hu)) hu
  · exact .ite (.state (execRstBlkGo_steady hu)) hu
  · exact .ite (.state (execEvcRaiseWrite_steady hu)) hu
  · exact .ite (.state (execEvcClaimComplete_steady hu)) hu
  · exact .ite (.state (execEvcMsipWrite_steady hu)) hu
  · exact .ite (.state (execHold_steady hu)) hu
  · exact .ite (.state (.pick (execL2Enable_steady hu) (execL2Disable_steady hu))) hu
  · exact .ite (.state (execL2LockWrite_steady hu)) hu
  · exact hu.rangeWrite
  · exact .ite (.state (execAgeVoutWrite_steady hu)) hu
  · exact .ite (.state (execAgeFstatClear_steady hu)) hu
  · exact .ite (.state (.pick (execHseRunStart_steady hu) (execHseRunStop_steady hu))) hu
  · exact .ite (.state (execDoorbellCmd_steady hu)) hu
  · exact .ite (.state (execDoorbellAbort_steady hu)) hu
  · exact .ite (.state (execCqptrTailWrite_steady hu)) hu
  · exact .ite (.state (execChanEnable_steady hu)) hu
  · exact .ite (.state (execClrstat_steady hu)) hu
  · exact .ite (.state (execZrateWrite_steady hu)) hu
  · exact .ite (.state (execChanRdecGo_steady hu)) hu
  · exact .ite (.state (execSceRunWrite_steady hu)) hu
  · exact .ite (.state (execLoad_steady hu)) hu
  · exact .ite (.state (execUnload_steady hu)) hu
  · exact .ite (.state (execBankselSwap_steady hu)) hu
  · exact .ite (.state (execCtgtWrite_steady hu)) hu
  · exact .ite (.state (execCogenWrite_steady hu)) hu
  · exact .ite (.state (execTake_steady hu)) hu
  · exact .ite (.state (execClrov_steady hu)) hu
  · exact .ite (.state (execClrchop_steady hu)) hu
  · exact .ite (.state (execSpnTgtWrite_steady hu)) hu
  · exact .ite (.ite (.state (execOceBadop_steady hu)) hu) (.ite (.ite (.state (execOceOpen_steady hu)) hu) (.ite (.ite
        (.state (execOcePark_steady hu)) hu) (.ite (.state (execOceFill_steady hu)) hu)))
  · exact .ite (.state (execSetrd_steady hu)) hu
  · exact .ite (.state (execDmaCtlEnable_steady hu)) hu
  · exact .ite (.state (execDmaSwreq_steady hu)) hu
  · exact .ite (.state (execDmaChannelEnable_steady hu)) hu
  · exact .ite (.state (execDmaStop_steady hu)) hu
  · exact .ite (.state (execPlock_steady hu)) hu
  · exact .ite (.state (execRetrain_steady hu)) hu
  · exact .ite (.state (execBufPretWrite_steady hu)) hu
  · exact .ite (.ite (.state (execKeyGenerate_steady hu)) hu) (.ite (.ite (.state (execKeyLoad_steady hu)) hu) (.ite (.state
        (execKeyDestroy_steady hu)) hu))
  · exact .ite (.state (execFrcLaneGo_steady hu)) hu
  · exact .ite (.state (execHifCplWrite_steady hu)) hu
  · exact .ite (.state (.pick (execLrelFwd_steady hu) (execLrelRel_steady hu))) hu
  · exact .ite (.state (execHifXferWrite_steady hu)) hu
  · exact .ite (.state (execPassOpen_steady hu)) hu
  · exact .ite (.state (execPassClose_steady hu)) hu
  · exact .ite (.state (execHlCmdWrite_steady hu)) hu
  · exact hu

theorem State.Steady.winRow {v : Nat} {m : WinMem} (hu : s.Steady u) : s.Steady (u.winRow v m) := by
  unfold State.winRow
  dsimp only
  split
  · exact .state (execHseStoreWrite_steady hu)
  · exact .state (execDefectTableWrite_steady hu)
  · exact .state (execBankWrite_steady hu)
  · exact .state (execCogTableWrite_steady hu)
  · exact hu

theorem State.Steady.hartRegStore {a n v : Nat} (hu : s.Steady u) : s.Steady (u.hartRegStore a n v) :=
  .ite hu (by
    dsimp only
    split
    · exact .after (fun h2 => .ite (by
          split
          · exact h2.winRow
          · exact h2) h2) hu.plainWrite.winRow
    · exact .foldl (fun _ _ hv => .ite hv.fieldRow hv) hu.plainWrite)

/-- What reading a register that a read changes answers. -/
theorem popRow_steady {k : RKey} {row : State → Res} (h : popRow k = some row) (hu : s.Steady u) : Res.Steady s (row u) := by
  unfold popRow at h
  split at h <;> cases h
  · exact execHseDoneRead_steady hu
  · exact execHifNextRead_steady hu
  · exact execHifXdoneRead_steady hu
  · exact execHlRespRead_steady hu
  · exact execEvcClaimRead_steady hu

theorem State.Steady.hartRegLoad {a n : Nat} (hu : s.Steady u) : s.Steady (u.hartRegLoad a n).2 := by
  unfold State.hartRegLoad
  split
  · exact hu
  · split
    · exact hu
    · split
      · next row h =>
        obtain ⟨_, _, hk⟩ := List.exists_of_findSome?_eq_some h
        exact .state (popRow_steady hk hu)
      · exact hu

/-! ### Machine/Harts -/

theorem State.Steady.hartDenied {c : Hart} {k : Access} {a n mepc : Nat} (hu : s.Steady u) :
    s.Steady (u.hartDenied c k a n mepc) := .hartTrap (.raise (.ite hu.raise hu))

theorem State.Steady.breakResv {c : Hart} {a n : Nat} (hu : s.Steady u) : s.Steady (u.breakResv c a n) := hu.setL2

theorem State.Steady.dropResv {c : Hart} (hu : s.Steady u) : s.Steady (u.dropResv c) := hu.setL2

theorem State.Steady.hartLoad {c : Hart} {a n : Nat} (hu : s.Steady u) : s.Steady (u.hartLoad c a n).2 :=
  hu.cachedLoad.holdLines

theorem State.Steady.hartStore {c : Hart} {a : Nat} {bs : List Byte} (hu : s.Steady u) : s.Steady (u.hartStore c a bs) :=
  hu.breakResv.ownLines.cachedStore.holdLines

theorem State.Steady.cachedAccess {c : Hart} {k : Access} {a n v mepc : Nat} (hu : s.Steady u) :
    s.Steady (u.cachedAccess c k a n v mepc) :=
  .ite hu.raise.hartTrap (by
    dsimp only
    split
    · exact hu.hartLoad.emit
    · exact hu.fetch.emit
    · exact hu.hartStore
    · exact hu.hartLoad.hartStore.emit
    · exact hu.hartLoad.setL2.emit
    · exact .ite hu.dropResv.hartStore.emit hu.dropResv.emit)

theorem State.Steady.directAccess {c : Hart} {k : Access} {a n v : Nat} (hu : s.Steady u) :
    s.Steady (u.directAccess c k a n v) := .ite hu.firmwareTag.emit hu.firmwareTag.mwr

theorem State.Steady.registerAccess {c : Hart} {k : Access} {a n v : Nat} (hu : s.Steady u) :
    s.Steady (u.registerAccess c k a n v) := .ite hu.firmwareTag.hartRegLoad.emit hu.firmwareTag.hartRegStore

theorem State.Steady.hartAccess {c : Hart} {k : Access} {a n v mepc : Nat} {p : Parity} {ecc : Ecc} (hu : s.Steady u) :
    s.Steady (u.hartAccess c k a n v mepc p ecc) :=
  .ite hu.hartDenied (.ite hu.raise.hartTrap (.ite hu.hartTrap (.ite hu.hartTrap (.ite hu.registerAccess (.ite
      hu.parityError.memoryRead.cachedAccess hu.directAccess)))))

theorem execHartMemoryAccess_steady {c : Hart} {k : Access} {addr len : Nat} {v mepc : Word} {p : Parity} {ecc : Ecc} {pre :
    List HartOp} (hu : s.Steady u) :
    Res.Steady s (execHartMemoryAccess c k addr len v mepc p u ecc pre) := .next (.on hu hu.hartOps.hartAccess)

/-! ### Machine/HifCtl -/

theorem State.Steady.pfReset {f : Nat} (hu : s.Steady u) : s.Steady (u.pfReset f) :=
  .ite hu (.parts (by
    split
    · exact .ite hu.endTest hu
    · exact hu))

theorem execControllerReset_steady {f : Func} (hu : s.Steady u) : Res.Steady s (execControllerReset f u) :=
  .next (.on hu hu.pfReset.resetCtrl)

theorem execControllerEnable_steady {f : Func} {wrr : Bool} (hu : s.Steady u) :
    Res.Steady s (execControllerEnable f u wrr) := .next (.on hu hu.parts.setSq.setCq.setCtrl.raise)

theorem execFunctionLevelReset_steady {f : Func} (hu : s.Steady u) : Res.Steady s (execFunctionLevelReset f u) :=
  .next (.on hu (.ite hu.resetAll hu.resetCtrl))

theorem execNssrWrite_steady {f : Func} {v : W32} (hu : s.Steady u) : Res.Steady s (execNssrWrite f v u) :=
  .next (.on hu hu.pulseStart)

theorem execValleyTimerExpire_steady (hu : s.Steady u) : Res.Steady s (execValleyTimerExpire u) :=
  .next (.on hu hu.psRequest)

theorem execDeepTimerExpire_steady (hu : s.Steady u) : Res.Steady s (execDeepTimerExpire u) := .next (.on hu hu.psRequest)

theorem execAutonomousPowerStateTransition_steady (hu : s.Steady u) : Res.Steady s (execAutonomousPowerStateTransition u) :=
  .next (.on hu hu.psRequest)

theorem execPowerStateEntry_steady (hu : s.Steady u) : Res.Steady s (execPowerStateEntry u) :=
  .next (by
    split
    · exact .ite hu.psEnter hu
    · exact hu)

theorem execGovernorStep_steady {up : Bool} {busy : Byte} (hu : s.Steady u) : Res.Steady s (execGovernorStep up busy u) :=
  .next (.on hu hu.moveTier.raise)

theorem execNvmeMiBasicCommand_steady (hu : s.Steady u) : Res.Steady s (execNvmeMiBasicCommand u) :=
  .next (.on hu hu.parts.emit)

/-! ### Machine/IoOps -/

theorem State.Steady.putBlock {cached : Bool} {key : Nat} {b : List Byte} (hu : s.Steady u) :
    s.Steady (u.putBlock cached key b) := hu.parts

theorem State.Steady.putBlocks {cached : Bool} {key : Nat} {l : List (List Byte)} (hu : s.Steady u) :
    s.Steady (u.putBlocks cached key l) := by
  induction l generalizing u key with
  | nil => exact hu
  | cons b t ih => exact ih hu.putBlock

theorem State.Steady.zeroBlocks {cached : Bool} {lo n : Nat} (hu : s.Steady u) : s.Steady (u.zeroBlocks cached lo n) :=
  .foldl (fun _ _ hv => hv.putBlock) hu

theorem State.Steady.flushNs {ns : Nat} (hu : s.Steady u) : s.Steady (u.flushNs ns) := hu.parts.setZones

theorem State.Steady.flushAll {ns : Nat} (hu : s.Steady u) : s.Steady (u.flushAll ns) := by
  unfold State.flushAll
  dsimp only
  split
  · exact .foldl (fun _ _ hv => hv.fullCheck) hu.flushNs
  · exact hu.flushNs

theorem State.Steady.durableZone {n : Nsp} {z wpEnd : Nat} (hu : s.Steady u) : s.Steady (u.durableZone n z wpEnd) :=
  hu.parts.setZone

theorem State.Steady.zoneStore {c : Cmd} {n : Nsp} {r : Nat × Nat × Nat} {bs : List (List Byte)} {t : State} (hu : s.Steady u)
    (e : u.zoneStore c n r bs = .inl t) : s.Steady t := by
  unfold State.zoneStore at e
  dsimp only at e
  split at e
  · cases e
    exact .ite hu.setZone.putBlocks.bandWritten hu.setZone.putBlocks.bandWritten.durableZone
  · split at e <;> cases e
    exact .ite hu.setZone.putBlocks.bandWritten hu.setZone.putBlocks.bandWritten.durableZone

theorem State.Steady.zoneWrite {c : Cmd} {n : Nsp} {r : Nat × Nat × Nat} {bs : List (List Byte)} {d0 d1 : Nat} (hu : s.Steady u) :
    s.Steady (u.zoneWrite c n r bs d0 d1) := by
  unfold State.zoneWrite
  split
  · exact hu.setZone.zoneChanged.finishCmd
  · exact (hu.zoneStore ‹_›).finishCmd.fullCheck

theorem State.Steady.tornBlocks {key : Nat} {l : List (List Byte)} (hu : s.Steady u) : s.Steady (u.tornBlocks key l) := by
  induction l generalizing u key with
  | nil => exact hu
  | cons b t ih => exact ih (.ite (.mapConv (.putBlock (.parts hu))) (.parts hu))

theorem State.Steady.writeBlocks {c : Cmd} {n : Nsp} {bs : List (List Byte)} {d0 d1 : Nat} (hu : s.Steady u) :
    s.Steady (u.writeBlocks c n bs d0 d1) :=
  .ite (.finishCmd (.ite hu hu.tornBlocks)) (by
    split
    · exact .ite hu hu.zoneWrite
    · exact .ite hu hu.putBlocks.mapConvs.finishCmd)

theorem State.Steady.withData {c : Cmd} {go : List (List Byte) → State} (hgo : ∀ x : List (List Byte), s.Steady (go x)) (hu
    : s.Steady u) :
    s.Steady (u.withData c go) := by
  unfold State.withData
  split
  · exact .ite hu.finishCmd (hgo _)
  · exact hu.finishCmd
  · exact .ite hu.finishCmd hu

theorem State.Steady.reading {c : Cmd} {n : Nsp} {fails : List Retry} {go : State → State} (hgo : ∀ v, s.Steady v → s.Steady
    (go v)) (hu : s.Steady u) :
    s.Steady (u.reading c n fails go) :=
  .after (fun h2 => .ite h2.finishCmd (by
      dsimp only
      split
      · exact h2.ladders.updCmd.finishCmd
      · exact hgo _ h2.ladders)) (.ite hu.flushAll hu)

/-! ### Machine/Io -/

theorem Res.Steady.onIo {tag : Tag} {op : Nat} {go : Cmd → Nsp → State} (hgo : ∀ x : Cmd, ∀ x1 : Nsp, s.Steady (go x x1))
    (hu : s.Steady u) :
    Res.Steady s (u.onIo tag op go) :=
  .onCmd (fun _ => by
    split
    · exact hgo _ _
    · exact hu.finishCmd) hu

theorem Res.Steady.onWrite {tag : Tag} {op : Nat} {d0 d1 : Cmd → Nsp → Nat} (hu : s.Steady u) :
    Res.Steady s (u.onWrite tag op d0 d1) :=
  .next (by
    split
    · split
      · exact .withData (fun _ => hu.writeBlocks) hu
      · exact hu.finishCmd
    · exact hu)

theorem execWrite_steady {tag : Tag} (hu : s.Steady u) : Res.Steady s (execWrite tag u) := .onWrite hu

theorem execZoneAppend_steady {tag : Tag} (hu : s.Steady u) : Res.Steady s (execZoneAppend tag u) := .onWrite hu

theorem execWriteZeroes_steady {tag : Tag} (hu : s.Steady u) : Res.Steady s (execWriteZeroes tag u) :=
  .onIo (fun _ _ => by
    split
    · exact .ite hu hu.zoneWrite
    · exact hu.zeroBlocks.unmapConv.finishCmd) hu

theorem execRead_steady {tag : Tag} {fails : List Retry} (hu : s.Steady u) : Res.Steady s (execRead tag fails u) :=
  .onIo (fun _ _ => by
    split
    · exact hu.finishCmd
    · exact hu
    · exact .reading (fun _ hv => .finishCmd (.ite hv.emit hv)) hu) hu

theorem execVerify_steady {tag : Tag} {fails : List Retry} (hu : s.Steady u) : Res.Steady s (execVerify tag fails u) :=
  .onIo (fun _ _ => .reading (fun _ hv => hv.finishCmd) hu) hu

theorem execCompare_steady {tag : Tag} {fails : List Retry} (hu : s.Steady u) : Res.Steady s (execCompare tag u fails) :=
  .onIo (fun _ _ => .withData (fun _ => .reading (fun _ hv => hv.finishCmd) hu) hu) hu

theorem execDatasetManagement_steady {tag : Tag} (hu : s.Steady u) : Res.Steady s (execDatasetManagement tag u) :=
  .onIo (fun _ _ => .ite hu.finishCmd (.ite hu.finishCmd (.finishCmd (.foldl (fun _ _ hv => hv.zeroBlocks.unmapConv) hu))))
      hu

theorem execFlush_steady {tag : Tag} (hu : s.Steady u) : Res.Steady s (execFlush tag u) :=
  .onCmd (fun _ => .finishCmd (.foldl (fun _ _ hv => hv.flushAll) hu)) hu

theorem State.Steady.moveZone {ns z : Nat} (hu : s.Steady u) : s.Steady (u.moveZone ns z) := by
  unfold State.moveZone
  dsimp only
  split
  · split
    · exact (hu.pickAny.of_snd ‹_›).setBand.setCopy
    · exact .foldl (fun _ _ hv => hv.finishCmd) (hu.pickAny.of_snd ‹_›)
  · exact .foldl (fun _ _ hv => hv.finishCmd) hu

theorem execDrainPoolStall_steady {heads : BitVec 24} (hu : s.Steady u) : Res.Steady s (execDrainPoolStall heads u) :=
  .next (.on hu (.foldl (fun _ _ hv => .ite hv (by
          split
          · exact hv.moveZone
          · exact hv)) hu.raise))

/-! ### Machine/Zones -/

theorem State.Steady.actAll {n : Nsp} {act : ZoneAct} {l : List Nat} {t : State}
    (hact : ∀ v w z, s.Steady v → act v n z = .inl w → s.Steady w) (hu : s.Steady u) (e : u.actAll n act l = .inl t) : s.Steady t := by
  induction l generalizing u with
  | nil => cases e; exact hu
  | cons z l ih =>
    unfold State.actAll at e
    split at e
    · exact ih (hact _ _ _ hu ‹_›) e
    · cases e

/-- An action on a zone that is no refusal is steady. -/
def ZoneAct.Steady (s : State) (act : ZoneAct) : Prop := ∀ v n z w, s.Steady v → act v n z = .inl w → s.Steady w

theorem actOpen_steady : ZoneAct.Steady s actOpen := by
  intro v n z w hv e
  unfold actOpen at e
  split at e
  · cases e; exact hv
  · exact hv.openZone e
  · exact hv.openZone e
  · exact hv.openZone e
  · cases e

theorem actClose_steady : ZoneAct.Steady s actClose := by
  intro v n z w hv e
  unfold actClose at e
  dsimp only at e
  split at e <;> cases e
  · exact hv
  · exact hv.setZone.closeUnit
  · exact hv.setZone.closeUnit

theorem actFinish_steady : ZoneAct.Steady s actFinish := by
  intro v n z w hv e
  unfold actFinish at e
  dsimp only at e
  split at e <;> cases e
  · exact hv
  · exact hv.setZone.bandWritten.durableZone

theorem actReset_steady : ZoneAct.Steady s actReset := by
  intro v n z w hv e
  unfold actReset at e
  dsimp only at e
  split at e <;> cases e
  exact hv.parts.setZone.bandReset

theorem actOffline_steady : ZoneAct.Steady s actOffline := by
  intro v n z w hv e
  unfold actOffline at e
  dsimp only at e
  split at e <;> cases e
  exact hv.setZone

theorem Res.Steady.zoneSend {tag : Tag} {zsa : Nat} {picks : ZoneSt → Bool} {act : ZoneAct} (hact : ZoneAct.Steady s act)
    (hu : s.Steady u) : Res.Steady s (u.zoneSend tag zsa picks act) :=
  .onCmd (fun _ => by
    dsimp only
    split
    · exact hu.finishCmd
    · refine .ite hu.finishCmd (.ite hu.finishCmd ?_)
      split
      · exact (hu.actAll (fun _ _ _ hv e => hact _ _ _ _ hv e) ‹_›).finishCmd
      · exact hu.finishCmd) hu

theorem execZoneOpen_steady {tag : Tag} (hu : s.Steady u) : Res.Steady s (execZoneOpen tag u) := .zoneSend actOpen_steady hu

theorem execZoneClose_steady {tag : Tag} (hu : s.Steady u) : Res.Steady s (execZoneClose tag u) := .zoneSend actClose_steady hu

theorem execZoneFinish_steady {tag : Tag} (hu : s.Steady u) : Res.Steady s (execZoneFinish tag u) := .zoneSend actFinish_steady hu

theorem execZoneReset_steady {tag : Tag} (hu : s.Steady u) : Res.Steady s (execZoneReset tag u) := .zoneSend actReset_steady hu

theorem execZoneOffline_steady {tag : Tag} (hu : s.Steady u) : Res.Steady s (execZoneOffline tag u) := .zoneSend actOffline_steady hu

theorem execZoneManagementReceive_steady {tag : Tag} (hu : s.Steady u) : Res.Steady s (execZoneManagementReceive tag u) :=
  .onIo (fun _ _ => .ite hu.finishCmd (.ite hu.finishCmd hu.answer)) hu

theorem execUnitCloseTimeout_steady {nsidx : Byte} {zone : Nat} (hu : s.Steady u) :
    Res.Steady s (execUnitCloseTimeout nsidx zone u) := .next hu.closeUnit

/-! ### Machine/Dispatch -/

/-- The two level resets, and the end of an activation's drain, which places a new image (R278). -/
def disturbs : Instr → Bool
  | .powerOnReset | .sysrstNAssert _ | .activationDrainDone _ => true
  | _ => false

/-- Every command but the two level resets and the end of an activation's drain is steady. -/
theorem exec_steady {c : Instr} (hc : disturbs c = false) (hu : s.Steady u) : Res.Steady s (exec c u) := by
  unfold exec
  split
  · cases hc
  · exact execPowerOnRelease_steady hu
  · cases hc
  · exact execSysrstNRelease_steady hu
  · exact execLoaderRestartStart_steady hu
  · exact execReleaseStep_steady hu
  · exact execReleaseStepComplete_steady hu
  · exact execReleaseStepTimeout_steady hu
  · exact execLoadCopyDone_steady hu
  · exact execNorReadTimeout_steady hu
  · exact execRstRunokWrite_steady hu
  · exact execBootWindowExpire_steady hu
  · exact execWindowRecordAckPulse_steady hu
  · exact execRstOutPulse_steady hu
  · exact execRstoutPulseEnd_steady hu
  · exact execRstBlkGo_steady hu
  · exact execSoftResetDone_steady hu
  · exact execCalibrationSetWrite_steady hu
  · exact execCalibrationSetRead_steady hu
  · exact execNorWriteComplete_steady hu
  · exact execFirmwareImageDownload_steady hu
  · exact execFirmwareCommitCa000b_steady hu
  · exact execFirmwareCommitCa001b_steady hu
  · exact execFirmwareCommitCa010b_steady hu
  · exact execFirmwareCommitCa011b_steady hu
  · exact execFirmwareCommitCaReserved_steady hu
  · cases hc
  · exact execActivationDrainTimeout_steady hu
  · exact execZeroCrossing_steady hu
  · exact execLockEntered_steady hu
  · exact execLockLost_steady hu
  · exact execSpnTgtWrite_steady hu
  · exact execCogenWrite_steady hu
  · exact execCogTableWrite_steady hu
  · exact execObserveEnd_steady hu
  · exact execBrakeConfirmed_steady hu
  · exact execBrakeTimeout_steady hu
  · exact execAlignVectorEnd_steady hu
  · exact execHandover_steady hu
  · exact execStartAttemptFail_steady hu
  · exact execWindingShortStop_steady hu
  · exact execBusWatchEnter_steady hu
  · exact execBusWatchRelease_steady hu
  · exact execOv1Engage_steady hu
  · exact execOv1Release_steady hu
  · exact execChopperFault_steady hu
  · exact execOv2Shutdown_steady hu
  · exact execPowerLoss_steady hu
  · exact execIsolationSwitchClose_steady hu
  · exact execClrchop_steady hu
  · exact execClrov_steady hu
  · exact execTake_steady hu
  · exact execRetractPush_steady hu
  · exact execRetractDone_steady hu
  · exact execLinkSilence_steady hu
  · exact execBridgeOvercurrent_steady hu
  · exact execMaRailOutOfRange_steady hu
  · exact execServoAddressMark_steady hu
  · exact execSamMissing_steady hu
  · exact execSampleRecord_steady hu
  · exact execSampleService_steady hu
  · exact execSampleDeadlineMiss_steady hu
  · exact execBankselSwap_steady hu
  · exact execBankWrite_steady hu
  · exact execSceRunWrite_steady hu
  · exact execLoad_steady hu
  · exact execUnload_steady hu
  · exact execUnloadPushEnd_steady hu
  · exact execLoadtmo_steady hu
  · exact execCtgtWrite_steady hu
  · exact execSeektmo_steady hu
  · exact execShockExcursion_steady hu
  · exact execShockHoldExpire_steady hu
  · exact execShockSensorUnsound_steady hu
  · exact execReportFreshExpire_steady hu
  · exact execSupplyWindowExit_steady hu
  · exact execSupplyGoodRestore_steady hu
  · exact execControllerDieOvertemp_steady hu
  · exact execPowerDieOvertemp_steady hu
  · exact execNext_steady hu
  · exact execJump_steady hu
  · exact execCall_steady hu
  · exact execRet_steady hu
  · exact execLoop_steady hu
  · exact execWait_steady hu
  · exact execWaitConditionMet_steady hu
  · exact execWaittmo_steady hu
  · exact execTret_steady hu
  · exact execHalt_steady hu
  · exact execIllegalSeq_steady hu
  · exact execSkipCheckDone_steady hu
  · exact execTrapEntry_steady hu
  · exact execAtomOverrun_steady hu
  · exact execHseRunStart_steady hu
  · exact execHseRunStop_steady hu
  · exact execDoorbellCmd_steady hu
  · exact execDoorbellAbort_steady hu
  · exact execCqptrTailWrite_steady hu
  · exact execHseDoneRead_steady hu
  · exact execHseStoreWrite_steady hu
  · exact execDefectTableWrite_steady hu
  · exact execSlotBoundary_steady hu
  · exact execKeepOutStart_steady hu
  · exact execKeepOutEnd_steady hu
  · exact execWriteFrameEnd_steady hu
  · exact execWritePermitDrop_steady hu
  · exact execPreampFault_steady hu
  · exact execSyncMarkFound_steady hu
  · exact execSyncWindowClose_steady hu
  · exact execDecodeDone_steady hu
  · exact execDecodeBudgetExpire_steady hu
  · exact execChanRdecGo_steady hu
  · exact execOfflineDecodeDone_steady hu
  · exact execChanEnable_steady hu
  · exact execBaseMatrixCheckDone_steady hu
  · exact execClrstat_steady hu
  · exact execZrateWrite_steady hu
  · exact execTierLeave_steady hu
  · exact execTierReady_steady hu
  · exact execSynthRelockDone_steady hu
  · exact execNolock_steady hu
  · exact execHlCmdWrite_steady hu
  · exact execHlinkTransactionStart_steady hu
  · exact execHlinkTransactionDone_steady hu
  · exact execHlRespRead_steady hu
  · exact execOceOpen_steady hu
  · exact execOcePark_steady hu
  · exact execOceFill_steady hu
  · exact execOceBadop_steady hu
  · exact execOceCommandEnd_steady hu
  · exact execSetrd_steady hu
  · exact execBufferAccess_steady hu
  · exact execPatrolScrubRead_steady hu
  · exact execMr4Poll_steady hu
  · exact execRetrain_steady hu
  · exact execPlock_steady hu
  · exact execBufPretWrite_steady hu
  · exact execShapeSegmentStart_steady hu
  · exact execDrainPoolStall_steady hu
  · exact execDmaChannelEnable_steady hu
  · exact execDmaStop_steady hu
  · exact execDmaCtlEnable_steady hu
  · exact execDmaSwreq_steady hu
  · exact execDmaRequest_steady hu
  · exact execDescriptorFetchDone_steady hu
  · exact execDmaBurstDone_steady hu
  · exact execDmaBusTimeout_steady hu
  · exact execGuardWait1ms_steady hu
  · exact execSqTailDoorbell_steady hu
  · exact execCqHeadDoorbell_steady hu
  · exact execCommandAdmit_steady hu
  · exact execCreditGrant_steady hu
  · exact execHifNextRead_steady hu
  · exact execHifCplWrite_steady hu
  · exact execCompletionPost_steady hu
  · exact execLrelFwd_steady hu
  · exact execLrelRel_steady hu
  · exact execHifXferWrite_steady hu
  · exact execHostTransferEnd_steady hu
  · exact execHifXdoneRead_steady hu
  · exact execLockWait1s_steady hu
  · exact execOrderedWait1s_steady hu
  · exact execCqFull1s_steady hu
  · exact execCreateIoSubmissionQueue_steady hu
  · exact execDeleteIoSubmissionQueue_steady hu
  · exact execCreateIoCompletionQueue_steady hu
  · exact execDeleteIoCompletionQueue_steady hu
  · exact execGetLogPage_steady hu
  · exact execIdentify_steady hu
  · exact execAbort_steady hu
  · exact execSetFeatures_steady hu
  · exact execSetPowerManagement_steady hu
  · exact execSetVolatileWriteCache_steady hu
  · exact execSetSpindleGovernor_steady hu
  · exact execSetErrorRecovery_steady hu
  · exact execGetFeatures_steady hu
  · exact execAsynchronousEventRequest_steady hu
  · exact execNamespaceCreate_steady hu
  · exact execNamespaceDelete_steady hu
  · exact execNamespaceAttach_steady hu
  · exact execNamespaceDetach_steady hu
  · exact execDirectiveSend_steady hu
  · exact execDirectiveReceive_steady hu
  · exact execVirtualizationManagement_steady hu
  · exact execSelfTestShort_steady hu
  · exact execSelfTestExtended_steady hu
  · exact execSelfCalibration_steady hu
  · exact execSelfTestAbort_steady hu
  · exact execSelfTestEnd_steady hu
  · exact execSelfTestPreempt_steady hu
  · exact execFormatNvm_steady hu
  · exact execSanitizeCryptoErase_steady hu
  · exact execCryptoEraseDone_steady hu
  · exact execFlush_steady hu
  · exact execWrite_steady hu
  · exact execRead_steady hu
  · exact execCompare_steady hu
  · exact execWriteZeroes_steady hu
  · exact execDatasetManagement_steady hu
  · exact execVerify_steady hu
  · exact execZoneAppend_steady hu
  · exact execZoneOpen_steady hu
  · exact execZoneClose_steady hu
  · exact execZoneFinish_steady hu
  · exact execZoneReset_steady hu
  · exact execZoneOffline_steady hu
  · exact execZoneManagementReceive_steady hu
  · exact execUnitCloseTimeout_steady hu
  · exact execFrcLaneGo_steady hu
  · exact execFrcJobEnd_steady hu
  · exact execKeyGenerate_steady hu
  · exact execKeyLoad_steady hu
  · exact execKeyDestroy_steady hu
  · exact execKeyCommandEnd_steady hu
  · exact execControllerReset_steady hu
  · exact execControllerEnable_steady hu
  · exact execFunctionLevelReset_steady hu
  · exact execNssrWrite_steady hu
  · exact execPerstN_steady hu
  · exact execHotReset_steady hu
  · exact execIdpLinkControl_steady hu
  · exact execEdpSecondaryBusReset_steady hu
  · exact execIdpBusNumberWrite_steady hu
  · exact execValleyTimerExpire_steady hu
  · exact execDeepTimerExpire_steady hu
  · exact execPowerStateEntry_steady hu
  · exact execGovernorStep_steady hu
  · exact execNvmeMiBasicCommand_steady hu
  · exact execPassOpen_steady hu
  · exact execPassClose_steady hu
  · exact execJoinProceed_steady hu
  · exact execHoldoffExpire_steady hu
  · exact execJoinEnChange_steady hu
  · exact execPassPositionCheck_steady hu
  · exact execLinkUp_steady hu
  · exact execLinkDown_steady hu
  · exact execDepth_steady hu
  · exact execBelow_steady hu
  · exact execDepthTimeout_steady hu
  · exact execChainMessagePeriod_steady hu
  · exact execTlpForward_steady hu
  · exact execForwardBufferFull_steady hu
  · exact execHartMemoryAccess_steady hu
  · exact execCboClean_steady hu
  · exact execCboFlush_steady hu
  · exact execCboInval_steady hu
  · exact execRangeClean_steady hu
  · exact execRangeCleanInvalidate_steady hu
  · exact execRangeInvalidate_steady hu
  · exact execRangeOpRefused_steady hu
  · exact execRangeOpDone_steady hu
  · exact execL2Disable_steady hu
  · exact execL2DrainDone_steady hu
  · exact execL2Enable_steady hu
  · exact execL2LockWrite_steady hu
  · exact execEvcClaimRead_steady hu
  · exact execEvcClaimComplete_steady hu
  · exact execEvcMsipWrite_steady hu
  · exact execTimerInterrupt_steady hu
  · exact execEventRaise_steady hu
  · exact execEvcRaiseWrite_steady hu
  · exact execRecordWrite_steady hu
  · exact execLostEventsRecord_steady hu
  · exact execHold_steady hu
  · exact execHoldExpire_steady hu
  · exact execOptimeSave_steady hu
  · exact execFaultSubwindow_steady hu
  · exact execFaultClassLasting_steady hu
  · exact execAgeFstatClear_steady hu
  · exact execGuardVoltageStep_steady hu
  · exact execAgeVoutWrite_steady hu
  · exact execPmbusCommandDone_steady hu
  · exact execThermalLevelCross_steady hu
  · exact execAonFallback_steady hu
  · exact execRegisterWrite_steady hu
  · exact execShockSensorSoundRestore_steady hu
  · exact execHlFltNRelease_steady hu
  · exact execMaRailInRange_steady hu
  · exact execControllerDieTempRestore_steady hu
  · exact execDqRetrainDone_steady hu
  · exact execAutonomousPowerStateTransition_steady hu
  · exact execInterruptCoalescingTimeout_steady hu

/-! ### Machine/Idle -/

theorem State.Steady.forward (hu : s.Steady u) : s.Steady u.forward := .ite hu.drainPort.drainPort hu

theorem State.Steady.biasStep {r : Reg} (hu : s.Steady u) (hr : r.info.acc ≠ .RWL := by decide) :
    s.Steady (u.biasStep r) := hu.parts.wr hr

theorem State.Steady.restBias (hu : s.Steady u) : s.Steady u.restBias :=
  .ite hu.parts.setPwr (.after (fun h1 => .ite h1.biasStep h1) (.ite hu.biasStep hu))

theorem State.Steady.tick (hu : s.Steady u) : s.Steady u.tick :=
  .ite (.after (fun h1 => .ite h1.parts h1.wrapAdd.parts.background.voltPlan.restBias) hu.forward.wrapAdd) hu

theorem idle_steady (hu : s.Steady u) : Res.Steady s (idle u) := .next hu.tick

end Sys2Proof.Machine
end

section

/- The proofs are elaborated one after the other: a thread for each of them, all waiting for the kernel, takes more memory than
the check allows. -/
set_option Elab.async false

namespace Sys2Proof.Machine

variable {s u : State}

/-! ### The level resets, and the obligations -/

theorem State.Canonical.setRst {r : Rstc} (h : u.Canonical) : (u.setRst r).Canonical := h.of_eq rfl rfl

theorem State.Canonical.levelReset {lvl : Nat} (h : u.Canonical) : (u.levelReset lvl).Canonical :=
  (State.Kept.levelReset (State.Steady.refl u).toKept).canon h

theorem execPowerOnReset_canonical (h : u.Canonical) : ∃ t, execPowerOnReset u = .next t ∧ t.Canonical := by
  refine ⟨_, rfl, ?_⟩
  unfold State.on
  split
  · exact .setRst (.levelReset (h.of_eq rfl rfl))
  · exact h

theorem State.pinReset_canonical (h : u.Canonical) : u.pinReset.Canonical := by
  unfold State.pinReset
  exact .setRst (.levelReset h)

/-- SYSRST_N outside a reset: the loader restarts while it is at work, and otherwise the module resets. -/
theorem State.loaderRestart_canonical {part : Nat} (h6 : u.rst.step = 6) (h : u.Canonical) : (u.loaderRestart part).Canonical :=
  ((State.Steady.refl u).loaderRestart (fun c => absurd c.1 (by omega))).canon h

theorem execSysrstNAssert_canonical {p : BitVec 4} (h : u.Canonical) : ∃ t, execSysrstNAssert u p = .next t ∧ t.Canonical := by
  refine ⟨_, rfl, ?_⟩
  unfold State.on
  split
  · dsimp only
    split
    · exact h.of_eq rfl rfl
    · split
      · next h6 => exact u.loaderRestart_canonical h6.1 h
      · exact u.pinReset_canonical h
  · exact h

/-- Every command keeps the stores in canonical form. -/
theorem exec_canonical (c : Instr) (h : u.Canonical) : ∃ t, exec c u = .next t ∧ t.Canonical := by
  by_cases hc : disturbs c = false
  · obtain ⟨t, ht, hs⟩ := exec_steady hc (.refl u)
    exact ⟨t, ht, hs.canon h⟩
  · unfold disturbs at hc
    split at hc
    · exact execPowerOnReset_canonical h
    · exact execSysrstNAssert_canonical h
    · obtain ⟨t, ht, hk⟩ := execActivationDrainDone_kept (State.Steady.refl u).toKept
      exact ⟨t, ht, hk.canon h⟩
    · exact absurd rfl hc

theorem powerOnReset_unlocks {t : State} (h : exec .powerOnReset u = .next t) : t = u ∨ t.rst.locked = false := by
  replace h := Host.Outcome.next.inj h
  rw [State.on] at h
  split at h
  · exact .inr (by rw [← h]; rfl)
  · exact .inl h.symm

theorem sysrstNAssert_unlocks {p : BitVec 4} {t : State} (h6 : u.rst.step ≠ 6) (h : exec (.sysrstNAssert p) u = .next t) :
    t.regs = u.regs ∨ t.rst.locked = false := by
  replace h := Host.Outcome.next.inj h
  rw [State.on] at h
  split at h
  · dsimp only at h
    rw [if_neg (fun c : u.rst.step = 6 ∧ _ => h6 c.1)] at h
    split at h
    · exact .inl (by rw [← h]; rfl)
    · exact .inr (by rw [← h]; rfl)
  · exact .inl (by rw [← h])

/-- Once handed over with the RWL fields locked, only a reset or an activation lets them change. -/
theorem exec_locked {c : Instr} {t : State} (hu : u.rst.Closed) (ha : ∀ ms, c ≠ .activationDrainDone ms) (h : exec c u = .next t)
    (ht : t.rst.locked = true) {r : Reg} (hr : r.info.acc = .RWL) (i j : Nat) : t.rdW r i j = u.rdW r i j := by
  by_cases hc : disturbs c = false
  · obtain ⟨w, hw, hs⟩ := exec_steady hc (.refl u)
    cases hw.symm.trans h
    exact hs.locked hu r i j hr
  · unfold disturbs at hc
    split at hc
    · rcases powerOnReset_unlocks h with rfl | hl
      · rfl
      · simp [hl] at ht
    · rcases sysrstNAssert_unlocks (fun h6 => absurd hu.1 (by omega)) h with hl | hl
      · exact State.rdW_congr hl r i j
      · simp [hl] at ht
    · exact absurd rfl (ha _)
    · exact absurd rfl hc

end Sys2Proof.Machine

open Sys2Proof Sys2Proof.Machine

/-- Settles O3. -/
theorem resetStateIsCanonical : Obligations.ResetStateIsCanonical := State.reset_canonical

/-- Settles O4: each command is steady, or is a level reset, which filters the stores, or places an image by field writes. -/
theorem everyStepKeepsTheCanonicalForm : Obligations.EveryStepKeepsTheCanonicalForm := by
  intro s t hs h
  unfold step at h
  split at h
  · obtain ⟨w, hw, hk⟩ := idle_steady (State.Steady.refl s)
    cases hw.symm.trans h
    exact hk.canon hs
  · next c rest _ =>
    obtain ⟨w, hw, hk⟩ := exec_canonical (u := { s with pending := rest }) c (hs.of_eq rfl rfl)
    cases hw.symm.trans h
    exact hk

/-- Settles O60: past the hand-over every command but a reset and an activation is steady, and a reset unlocks the fields. -/
theorem lockedFieldsKeepTheirValues : Obligations.LockedFieldsKeepTheirValues := by
  intro c s t h7 hl ha h ht r i j hr
  have h : 7 ≤ s.rst.step := by
    simp only [State.up, Bool.and_eq_true, decide_eq_true_eq] at h7
    exact h7.1
  exact exec_locked ⟨h, hl⟩ ha ‹_› ht hr i j
end

section
/-! PROOFS. What an operation leaves alone: the frame `State.only` as a relation that grows along an operation as it is written.
R holds the fields that may change, P the parts. -/

set_option Elab.async false

namespace Sys2Proof.Machine

namespace State.only

variable {s u t : State} {R : List Reg} {P : List Part}

theorem refl (s : State) (R : List Reg) (P : List Part) : s.only s R P :=
  ⟨fun _ _ _ _ => rfl, fun _ => rfl, rfl, fun p _ => by cases p <;> rfl⟩

theorem same_trans {p : Part} (h : p.same s u) (g : p.same u t) : p.same s t := by
  cases p <;> exact Eq.trans g h

theorem trans (h : s.only u R P) (g : u.only t R P) : s.only t R P := by
  obtain ⟨hr, hm, hp, hk⟩ := h
  obtain ⟨gr, gm, gp, gk⟩ := g
  exact ⟨fun r i j n => (gr r i j n).trans (hr r i j n), fun a => (gm a).trans (hm a), gp.trans hp,
    fun p n => same_trans (hk p n) (gk p n)⟩

theorem mono {R' : List Reg} {P' : List Part} (h : s.only t R P) (hR : R ⊆ R' := by decide) (hP : P ⊆ P' := by decide) :
    s.only t R' P' := by
  obtain ⟨hr, hm, hp, hk⟩ := h
  exact ⟨fun r i j n => hr r i j (fun m => n (hR m)), hm, hp, fun p n => hk p (fun m => n (hP m))⟩

/-- An operation that follows, with a frame of its own inside this one. -/
theorem andThen {R' : List Reg} {P' : List Part} (h : s.only u R P) (g : u.only t R' P') (hR : R' ⊆ R := by decide)
    (hP : P' ⊆ P := by decide) : s.only t R P :=
  h.trans (g.mono hR hP)

/-! ### Its parts -/

theorem rst (h : s.only t R P) (hp : .rst ∉ P := by decide) : t.rst = s.rst := h.2.2.2 .rst hp
theorem same (h : s.only t R P) (p : Part) (hp : p ∉ P := by decide) : p.same s t := h.2.2.2 p hp
theorem field (h : s.only t R P) (r : Reg) (i j : Nat) (hr : r ∉ R := by decide) : t.rdW r i j = s.rdW r i j := h.1 r i j hr
theorem rd (h : s.only t R P) (r : Reg) (i : Nat := 0) (j : Nat := 0) (hr : r ∉ R := by decide) : t.rd r i j = s.rd r i j :=
  congrArg BitVec.toNat (h.1 r i j hr)
theorem bit (h : s.only t R P) (r : Reg) (i : Nat := 0) (j : Nat := 0) (hr : r ∉ R := by decide) : t.bit r i j = s.bit r i j :=
  congrArg (· != 0) (h.rd r i j hr)
theorem mb (h : s.only t R P) (a : Nat) : t.mb a = s.mb a := h.2.1 a

/-! ### Single writes -/

theorem wr {r : Reg} {v i j : Nat} (h : s.only u R P) (hr : r ∈ R := by decide) : s.only (u.wr r v i j) R P :=
  h.trans ⟨fun _ a b n => State.rdW_wr_ne u v (fun e => n (e ▸ hr)), fun _ => rfl, rfl, fun p _ => by cases p <;> rfl⟩

theorem wrb {r : Reg} {b : Bool} {i j : Nat} (h : s.only u R P) (hr : r ∈ R := by decide) : s.only (u.wrb r b i j) R P := h.wr hr
theorem wrBit {r : Reg} {b i j : Nat} {v : Bool} (h : s.only u R P) (hr : r ∈ R := by decide) : s.only (u.wrBit r b v i j) R P :=
  h.wr hr

/-- Of the state's parts only q changes. -/
theorem part (q : Part) (h : s.only u R P) (hq : q ∈ P) (hr : t.regs = u.regs := by rfl) (hm : t.mem = u.mem := by rfl)
    (he : t.pending = u.pending := by rfl)
    (hk : ∀ p, p ≠ q → p.same u t := by intro p n; cases p <;> first | exact rfl | exact absurd rfl n) : s.only t R P :=
  h.trans ⟨fun r i j _ => State.rdW_congr hr r i j, fun a => State.mb_congr hm a, he, fun p n => hk p (fun e => n (e ▸ hq))⟩

theorem setRst {x : Rstc} (h : s.only u R P) (hp : .rst ∈ P := by decide) : s.only (u.setRst x) R P :=
  h.part .rst hp
theorem setEv {x : Ev} (h : s.only u R P) (hp : .ev ∈ P := by decide) : s.only { u with ev := x } R P :=
  h.part .ev hp
theorem setPwr {x : Pwr} (h : s.only u R P) (hp : .pwr ∈ P := by decide) : s.only (u.setPwr x) R P :=
  h.part .pwr hp
theorem setSpn {x : Spn} (h : s.only u R P) (hp : .spn ∈ P := by decide) : s.only (u.setSpn x) R P :=
  h.part .spn hp
theorem setHif {x : Hif} (h : s.only u R P) (hp : .hif ∈ P := by decide) : s.only { u with hif := x } R P :=
  h.part .hif hp
theorem setPsw {x : Psw} (h : s.only u R P) (hp : .psw ∈ P := by decide) : s.only (u.setPsw x) R P :=
  h.part .psw hp
theorem setMed {x : Media} (h : s.only u R P) (hp : .med ∈ P := by decide) : s.only (u.setMed x) R P :=
  h.part .med hp
theorem setArms {x : NTab ArmS} (h : s.only u R P) (hp : .arms ∈ P := by decide) : s.only { u with arms := x } R P :=
  h.part .arms hp
theorem setHses {x : NTab Hse} (h : s.only u R P) (hp : .hses ∈ P := by decide) : s.only { u with hses := x } R P :=
  h.part .hses hp
theorem setChans {x : NTab Chan} (h : s.only u R P) (hp : .chans ∈ P := by decide) : s.only { u with chans := x } R P :=
  h.part .chans hp
theorem setErec {x : Erec} (h : s.only u R P) (hp : .erec ∈ P := by decide) : s.only { u with erec := x } R P :=
  h.part .erec hp
theorem setDma {x : Dma} (h : s.only u R P) (hp : .dma ∈ P := by decide) : s.only { u with dma := x } R P :=
  h.part .dma hp
theorem setNor {x : List Host.Cell} (h : s.only u R P) (hp : .nor ∈ P := by decide) : s.only { u with nor := x } R P :=
  h.part .nor hp
theorem setNorq {x : List NorJob} (h : s.only u R P) (hp : .norq ∈ P := by decide) : s.only { u with norq := x } R P :=
  h.part .norq hp
theorem setStaged {x : NTab (Option Byte)} (h : s.only u R P) (hp : .staged ∈ P := by decide) : s.only { u with staged := x } R P :=
  h.part .staged hp
theorem setFree {n : Nat} (h : s.only u R P) (hp : .free ∈ P := by decide) : s.only { u with free := n } R P :=
  h.part .free hp
theorem emit {o : Out} (h : s.only u R P) (hp : .out ∈ P := by decide) : s.only (u.emit o) R P :=
  h.part .out hp

/-! ### The ways operations are put together -/

theorem ite {c : Prop} {i : Decidable c} {a b : State} (ha : s.only a R P) (hb : s.only b R P) :
    s.only (if c then a else b) R P := by
  split <;> assumption

theorem on {c : Bool} {f : State → State} (h : s.only u R P) (hf : s.only (f u) R P) : s.only (u.on c f) R P := .ite hf h

theorem after {v w : State} (hw : s.only v R P → s.only w R P) (h : s.only v R P) : s.only w R P := hw h

theorem foldl {α : Type} {f : State → α → State} {l : List α} (hf : ∀ v a, s.only v R P → s.only (f v a) R P)
    (h : s.only u R P) : s.only (l.foldl f u) R P := by
  induction l generalizing u with
  | nil => exact h
  | cons a l ih => exact ih (hf u a h)

/-! ### Events -/

theorem event {src : Nat} {fw : Bool} {d : List Byte × Bool} (h : s.only u R P) (hp : .ev ∈ P := by decide) :
    s.only (u.event src fw d) R P := h.setEv hp

theorem lostRun (h : s.only u R P) (hp : .ev ∈ P := by decide) : s.only u.lostRun R P := by
  unfold State.lostRun
  split
  · exact h
  · exact .ite (.event (h.setEv hp) hp) h

theorem raise {src : Nat} {items : List (Nat × Nat)} (h : s.only u R P) (hp : .ev ∈ P := by decide) :
    s.only (u.raise src items) R P := .ite ((h.lostRun hp).event hp) h

theorem hold {src : Nat} {items : List (Nat × Nat)} (h : s.only u R P) (hp : .pwr ∈ P := by decide) :
    s.only (u.hold src items) R P := h.setPwr hp

end State.only

end Sys2Proof.Machine
end

section
/-! PROOFS. The two reset sources (R32 to R37, R49): what a level reset writes before the domains enter reset, what it sweeps,
and the obligations on POWER_ON_RESET and SYSRST_N. -/

set_option Elab.async false

namespace Sys2Proof.Machine

variable {s u : State} {R : List Reg} {P : List Part}

/-! ### The write permit -/

/-- What a change of the write permit may write. -/
def permitRegs : List Reg := [.SPN_WP_WP, .SPN_WP_CAUSE]

theorem State.only.cutFrame {h : Nat} (hu : s.only u R P) (hp : .chans ∈ P := by decide) : s.only (u.cutFrame h) R P := by
  unfold State.cutFrame
  dsimp only
  split
  · exact hu.setChans hp
  · exact hu

theorem State.wpArm_only (s : State) (a : Nat) : s.only (s.wpArm a) permitRegs [.ev, .chans] :=
  have h := State.only.refl s permitRegs [.ev, .chans]
  .ite (.raise (.foldl (fun _ _ hv => hv.cutFrame) h.wrBit.wr)) (.ite h.wrBit h)

theorem State.updWp_only (s : State) : s.only s.updWp permitRegs [.ev, .chans] :=
  (((s.wpArm_only 0).trans (State.wpArm_only _ 1)).trans (State.wpArm_only _ 2)).trans (State.wpArm_only _ 3)

/-! ### What goes quiet before a level reset -/

/-- The fields that a level reset writes before the domains enter reset: of reach L2 but for the speed hold and the permit's
causes. -/
def quietRegs : List Reg :=
  [.SPN_WP_WP, .SPN_WP_CAUSE, .SPN_HOLD_SPD, .SPN_HOLD_ICMD, .SPN_HOLD_ACTIVE, .SCE_STAT_STATE, .SCE_STAT_LOADED, .SCE_STAT_SATM,
   .SCE_STAT_OUTWIN, .SCE_STAT_SATV, .SCE_HSTAT_PLAUS, .SCE_HSTAT_ARMPL, .SCE_HSTAT_RDY_RD, .SCE_HSTAT_RDY_WR,
   .SCE_BANKSEL_ACTIVE, .SCE_BANKSEL_PENDING, .HSE_STAT_GATES]

def quietParts : List Part := [.nor, .norq, .ev, .pwr, .spn, .arms, .hif, .hses, .chans, .med, .free, .out]

/-- What goes quiet may write only these. -/
def State.Quiet (s t : State) : Prop := s.only t quietRegs quietParts

namespace State.Quiet

open State.only

/-- The parts in the frame may change together. -/
theorem parts {nor : List Host.Cell} {norq : List NorJob} {ev : Ev} {pwr : Pwr} {spn : Spn} {arms : NTab ArmS} {hif : Hif}
    {hses : NTab Hse} {chans : NTab Chan} {med : Media} {free : Nat} {out : List Out} (hu : s.Quiet u) :
    s.Quiet ⟨u.pending, u.regs, u.mem, u.poison, nor, u.staged, norq, u.rst, ev, u.erec, u.age, pwr, spn, arms, hif, u.psw, u.l2,
      hses, chans, u.hls, u.oce, u.dma, u.buf, u.frc, med, u.frac, free, out⟩ :=
  hu.trans ⟨fun _ _ _ _ => rfl, fun _ => rfl, rfl, fun p n => by cases p <;> first | exact rfl | exact absurd (by decide) n⟩

theorem setArm {a : Nat} {v : ArmS} (hu : s.Quiet u) : s.Quiet (u.setArm a v) := hu.setArms

theorem updWp (hu : s.Quiet u) : s.Quiet u.updWp := hu.andThen u.updWp_only

theorem powerEvent {src : Nat} {items : List (Nat × Nat)} (hu : s.Quiet u) : s.Quiet (u.powerEvent src items) :=
  .ite hu.raise hu.hold

theorem setPlaus {a p : Nat} {b : Bool} {cause : Nat} {res : Int} (hu : s.Quiet u) : s.Quiet (u.setPlaus a p b cause res) :=
  .ite hu (.raise (.wrBit (.ite hu hu.cutFrame)))

theorem armPlaus {a : Nat} (hu : s.Quiet u) : s.Quiet (u.armPlaus a) := .ite hu.wrb hu.wrb.setPwr

theorem losePlaus {a p cause : Nat} (hu : s.Quiet u) : s.Quiet (u.losePlaus a p cause) := setPlaus hu

theorem allImplausible {a : Nat} (hu : s.Quiet u) : s.Quiet (u.allImplausible a) :=
  armPlaus (.foldl (fun _ _ hv => losePlaus hv) hu)

theorem stopMicro {a p : Nat} (hu : s.Quiet u) : s.Quiet (u.stopMicro a p) :=
  .wrBit (.wrBit (.ite (setArm hu) (setArm hu).emit))

theorem stopLoops {a : Nat} (hu : s.Quiet u) : s.Quiet (u.stopLoops a) :=
  .after (fun h => .wr (.wr (.wr (.wr (setArm (.ite h.wr h)))))) (.foldl (fun _ _ hv => stopMicro hv) hu)

theorem loseTiming {a : Nat} (hu : s.Quiet u) : s.Quiet (u.loseTiming a) :=
  .foldl (fun _ _ hv => .ite (.wrBit (parts hv)) (parts hv)) hu

theorem setSceState {a st : Nat} (hu : s.Quiet u) : s.Quiet (u.setSceState a st) :=
  .ite (loseTiming hu.wr.wrb) hu.wr.wrb

theorem drive {a : Nat} {o : Out} (hu : s.Quiet u) : s.Quiet (u.drive a o) := .ite hu hu.emit

theorem armRetract {a : Nat} (hu : s.Quiet u) : s.Quiet (u.armRetract a) :=
  drive (setSceState (allImplausible (stopLoops hu)))

theorem retract {c : RetractCause} (hu : s.Quiet u) : s.Quiet (u.retract c) := by
  unfold State.retract
  have h : s.Quiet ((List.range 4).foldl (fun s a => s.armRetract a) (u.setPwr { u.pwr with retract := 1 })) :=
    .foldl (fun _ _ hv => armRetract hv) hu.setPwr
  refine .ite hu ?_
  cases c
  case fault => exact updWp (powerEvent h.setFree)
  all_goals exact updWp (powerEvent h)

theorem quietArms (hu : s.Quiet u) : s.Quiet u.quietArms := .foldl (fun _ _ hv => (stopLoops hv).emit) hu

theorem bridgeAtReset {lvl : Nat} (hu : s.Quiet u) : s.Quiet (u.bridgeAtReset lvl) :=
  .ite hu.setFree.wr.wr.wr.hold (.ite hu hu.emit)

theorem gatesLow (hu : s.Quiet u) : s.Quiet u.gatesLow := .foldl (fun _ _ hv => .ite hv.emit hv) hu

theorem endTest {result : Nat} (hu : s.Quiet u) : s.Quiet (u.endTest result) := by
  unfold State.endTest
  split
  · exact hu
  · exact hu.setHif.raise

theorem mapConv {key : Nat} (hu : s.Quiet u) : s.Quiet (u.mapConv key) := parts hu

theorem loseDirty (hu : s.Quiet u) : s.Quiet u.loseDirty :=
  .foldl (fun _ _ hv => .ite hv.setFree (.ite (mapConv (parts (parts hv))) (parts (parts hv)))) hu

theorem setZones {t : NTab Zone} (hu : s.Quiet u) : s.Quiet (u.setZones t) :=
  .foldl (fun _ _ hv => hv.setMed) hu.setHif

theorem chargeNear {a b n : Nat} (hu : s.Quiet u) : s.Quiet (u.chargeNear a b n) :=
  .ite hu (.foldl (fun _ _ hv => hv.setMed) hu)

theorem mediaStop (hu : s.Quiet u) : s.Quiet u.mediaStop :=
  .foldl (fun _ _ hv => by
    split
    · exact chargeNear hv
    · exact hv) hu.setMed

theorem hifReset (hu : s.Quiet u) : s.Quiet u.hifReset := mediaStop (setZones (loseDirty (endTest hu)).setHif)

theorem norTear (hu : s.Quiet u) : s.Quiet u.norTear := by
  unfold State.norTear
  split
  · exact parts hu
  · exact hu.setNorq

end State.Quiet

theorem State.quieted_quiet (s : State) (lvl : Nat) : s.Quiet (s.quieted lvl) := by
  have h : s.Quiet (s.setPwr { s.pwr with link := false }).updWp := .updWp (State.only.refl s _ _).setPwr
  unfold State.quieted
  exact .norTear (.hifReset (.gatesLow (.bridgeAtReset (.ite h.retract h.quietArms))))

/-! ### A level reset -/

theorem Tab.get_filterKeys_out {K α : Type} [DecidableEq K] {d : α} {k : K} {p : K → Bool} (h : p k = false) (t : List (K × α)) :
    Tab.get d k (t.filter (fun e => p e.1)) = d := by
  induction t with
  | nil => rfl
  | cons e t ih =>
    by_cases he : e.1 = k
    · simp [List.filter, he, h, ih]
    · by_cases hp : p e.1 = true <;> simp [List.filter, Tab.get, he, hp, ih]

theorem State.swept_rdW (s : State) (lvl : Nat) (r : Reg) (i j : Nat) :
    (s.swept lvl).rdW r i j = if survives lvl r.info.reach then s.rdW r i j else RKey.dflt ⟨r, i, j⟩ := by
  cases h : survives lvl r.info.reach
  · exact Tab.get_filterKeys_out (p := fun k : RKey => survives lvl k.reg.info.reach) h s.regs
  · exact Tab.get_filterKeys (p := fun k : RKey => survives lvl k.reg.info.reach) h s.regs

theorem State.swept_mb (s : State) (lvl : Nat) {a : Nat} (h : keepsMem a = true) : (s.swept lvl).mb a = s.mb a := by
  unfold State.mb
  split
  · rfl
  · exact Tab.get_filter h s.mem

/-- Every engine is in its reset state, its part of the state empty. -/
structure State.Idle (t : State) : Prop where
  hses : t.hses = []
  chans : t.chans = []
  arms : t.arms = []
  ev : t.ev = {}
  l2 : t.l2 = {}
  oce : t.oce = {}
  dma : t.dma = {}
  frc : t.frc = {}
  spn : t.spn = {}

theorem State.swept_idle (s : State) (lvl : Nat) : (s.swept lvl).Idle := ⟨rfl, rfl, rfl, rfl, rfl, rfl, rfl, rfl, rfl⟩

theorem State.Idle.wr {r : Reg} {v i j : Nat} (h : s.Idle) : (s.wr r v i j).Idle :=
  ⟨h.hses, h.chans, h.arms, h.ev, h.l2, h.oce, h.dma, h.frc, h.spn⟩

/-- What a level reset sweeps and what it leaves: the fields by their reach, MRAM whole, every engine in its reset state, and of
the reset controller nothing (R32, R34, Table 2-4). -/
structure State.Swept (s t : State) (lvl : Nat) : Prop where
  reset : ∀ r i j, survives lvl r.info.reach = false → r ≠ .SPN_STAT_STATE → t.rdW r i j = RKey.dflt ⟨r, i, j⟩
  cold : lvl = 0 → ∀ r i j, survives lvl r.info.reach = false → t.rdW r i j = RKey.dflt ⟨r, i, j⟩
  kept : ∀ r i j, survives lvl r.info.reach = true → r ∉ [.SPN_HOLD_SPD, .SPN_HOLD_ICMD, .SPN_HOLD_ACTIVE, .SPN_WP_CAUSE] →
    t.rdW r i j = s.rdW r i j
  mram : ∀ a, 0x01000000 ≤ a → a < 0x01010000 → t.mb a = s.mb a
  idle : t.Idle

theorem quietRegs_reach {r : Reg} (h : r ∈ quietRegs) :
    r.info.reach = .L2 ∨ r ∈ [.SPN_HOLD_SPD, .SPN_HOLD_ICMD, .SPN_HOLD_ACTIVE, .SPN_WP_CAUSE] := by
  revert r; decide

theorem keepsMem_mram {a : Nat} (h : 0x01000000 ≤ a) (g : a < 0x01010000) : keepsMem a = true := by
  simp [keepsMem, within, mramLo, h, g]

theorem State.Quiet.swept {lvl : Nat} (q : s.Quiet u) : s.Swept (u.swept lvl) lvl where
  reset r i j h _ := by rw [State.swept_rdW, h]; rfl
  cold _ r i j h := by rw [State.swept_rdW, h]; rfl
  kept r i j h n := by
    have nq : r ∉ quietRegs := fun m => (quietRegs_reach m).elim (fun e => by rw [e] at h; cases h) n
    rw [State.swept_rdW, if_pos h, q.1 r i j nq]
  mram a h g := (u.swept_mb lvl (keepsMem_mram h g)).trans (q.2.1 a)
  idle := u.swept_idle lvl

theorem State.swept_cold_hold (s : State) : (s.swept 0).bit .SPN_HOLD_ACTIVE = false := by
  rw [State.bit, State.rd, State.swept_rdW]
  rfl

/-- A held speed shows in the spindle's state; none is held through a cold reset. -/
theorem State.Swept.marked {lvl v : Nat} {b : Bool} (h : s.Swept u lvl) (hb : lvl = 0 → b = false) :
    s.Swept (if b then u.wr .SPN_STAT_STATE v else u) lvl := by
  split
  · next hw =>
    refine ⟨fun r i j g n => ?_, fun h0 => absurd hw (by simp [hb h0]), fun r i j g n => ?_, h.mram, h.idle.wr⟩
    · rw [State.rdW_wr_ne _ _ n, h.reset r i j g n]
    · rw [State.rdW_wr_ne _ _ (fun m => by rw [m] at g; cases g), h.kept r i j g n]
  · exact h

theorem State.levelReset_swept (s : State) (lvl : Nat) : s.Swept (s.levelReset lvl) lvl := by
  rw [State.levelReset_eq]
  exact (s.quieted_quiet lvl).swept.marked (fun h => by rw [h]; exact State.swept_cold_hold _)

theorem State.Swept.setRst {t : State} {lvl : Nat} (h : s.Swept t lvl) (x : Rstc) : s.Swept (t.setRst x) lvl :=
  ⟨h.reset, h.cold, h.kept, h.mram, ⟨h.idle.hses, h.idle.chans, h.idle.arms, h.idle.ev, h.idle.l2, h.idle.oce, h.idle.dma, h.idle.frc, h.idle.spn⟩⟩

theorem State.Swept.setPwr {t : State} {lvl : Nat} {p : Pwr} (h : (s.setPwr p).Swept t lvl) : s.Swept t lvl :=
  ⟨h.reset, h.cold, h.kept, h.mram, h.idle⟩

end Sys2Proof.Machine
end

section
/-! PROOFS. The obligations on POWER_ON_RESET and SYSRST_N (R32 to R37, R49, R53, R409). -/

set_option Elab.async false

namespace Sys2Proof.Machine

variable {s u t : State}

theorem State.on_true {c : Bool} {f : State → State} (h : c = true) : s.on c f = f s := if_pos h

theorem State.on_false {c : Bool} {f : State → State} (h : c = false) : s.on c f = s := by simp [State.on, h]

/-! ### Power-on -/

theorem exec_powerOnReset (h : s.rst.por = false) : ∃ (r : Rstc) (u : State), exec .powerOnReset s = .next (u.setRst r) ∧ s.Swept u 0 ∧
    r.por = true ∧ r.tookPor = true ∧ r.level = 0 ∧ r.step = 0 ∧ r.pulse = none := by
  refine ⟨_, _, congrArg Host.Outcome.next (State.on_true (by rw [h]; rfl)), (State.levelReset_swept _ 0).setPwr, rfl, rfl, rfl,
    rfl, rfl⟩

theorem survives_cold {r : Reach} : survives 0 r = decide (r = .kept) := by cases r <;> rfl

theorem reach_of_exempt {r : Reg} (h : r ∈ [Reg.SPN_HOLD_SPD, .SPN_HOLD_ICMD, .SPN_HOLD_ACTIVE, .SPN_WP_CAUSE]) :
    r.info.reach ≠ .kept := by
  revert r; decide

/-- Settles O6, by what a level reset sweeps and keeps. -/
theorem powerOnResetIsColdAndKeepsOnlyKeptFields : Obligations.PowerOnResetIsColdAndKeepsOnlyKeptFields := by
  refine ⟨fun s h => ?_, fun x s h => ?_, fun b s h => ?_, fun s => ⟨fun h => ?_, fun x h => ?_⟩⟩
  · obtain ⟨r, u, he, w, hpor, htook, hlevel, hstep, hpulse⟩ := exec_powerOnReset h
    refine ⟨_, he, hpor, htook, hlevel, hstep, hpulse, fun r i j n => ?_, fun r i j n => ?_, w.mram, w.idle.hses, w.idle.chans,
      w.idle.arms, w.idle.ev, w.idle.l2, w.idle.oce, w.idle.dma, w.idle.frc, w.idle.spn⟩
    · exact w.cold rfl r i j (by rw [survives_cold]; exact decide_eq_false n)
    · refine w.kept r i j (by rw [survives_cold]; exact decide_eq_true n) (fun m => ?_)
      exact absurd n (reach_of_exempt m)
  · exact ⟨_, congrArg Host.Outcome.next (State.on_true h), rfl, (State.only.refl s _ _).setRst⟩
  · exact congrArg Host.Outcome.next (State.on_false (by simp [State.sequence, h]))
  · exact congrArg Host.Outcome.next (State.on_false (by rw [h]; rfl))
  · exact congrArg Host.Outcome.next (State.on_false h)

/-! ### SYSRST_N -/

theorem toLevel_val {n : Nat} (h : n ≤ 2) : (toLevel n).val = n := by
  interval_cases n <;> rfl

theorem State.pinLevel_le (s : State) : s.pinLevel ≤ 2 := min_le_left _ _

/-- The level of a reset from SYSRST_N: the fused one, or the deeper of it and that of a start under way (R36). -/
def State.pinResetLevel (s : State) : Nat := if s.starting then min s.rst.level.val s.pinLevel else s.pinLevel

theorem State.pinResetLevel_le (s : State) : s.pinResetLevel ≤ 2 := by
  unfold State.pinResetLevel
  split
  · exact (min_le_right _ _).trans s.pinLevel_le
  · exact s.pinLevel_le

theorem State.pinResetLevel_eq (s : State) :
    s.pinResetLevel = if s.rst.step < 10 ∧ s.rst.failed = false then min s.rst.level.val s.pinLevel else s.pinLevel := by
  simp [State.pinResetLevel, State.starting]

theorem State.pinReset_eq (s : State) : ∃ r : Rstc, s.pinReset = (s.levelReset s.pinResetLevel).setRst r ∧ r.pin = true ∧
    r.tookPin = true ∧ r.step = 0 ∧ r.level = toLevel s.pinResetLevel ∧ r.pulse = s.rst.pulse := by
  unfold State.pinReset State.pinResetLevel
  exact ⟨_, rfl, rfl, rfl, rfl, rfl, rfl⟩

theorem exec_sysrstNAssert {p : BitVec 4} (h : s.rst.pin = false) : exec (.sysrstNAssert p) s = .next
    (if s.rst.por then s.setRst { s.rst with pin := true, tookPin := true, tookOut := s.rst.tookOut || s.rst.pulse.isSome,
                                             pulseSeen := s.rst.pulseSeen || s.rst.pulse.isSome }
     else if s.rst.step = 6 ∧ !s.rst.failed ∧ s.rst.xsys then s.loaderRestart p.toNat else s.pinReset) :=
  congrArg Host.Outcome.next (State.on_true (by rw [h]; rfl))

/-! ### The loader's restart -/

theorem State.foldl_rst {α : Type} {f : State → α → State} (hf : ∀ v a, (f v a).rst = v.rst) (l : List α) (s : State) :
    (l.foldl f s).rst = s.rst := by
  induction l generalizing s with
  | nil => rfl
  | cons a l ih => exact (ih (f s a)).trans (hf s a)

theorem State.storeField_rst (s : State) (k : RKey) (v : Nat) : (s.storeField k v).rst = s.rst := by
  unfold State.storeField State.shutMark
  split
  · split <;> rfl
  · rfl

theorem State.loadWin_rst (s : State) (a n v : Nat) (m : WinMem) : (s.loadWin a n v m).rst = s.rst := by
  unfold State.loadWin
  split
  · exact s.setMbs_rst ..
  · split
    · rfl
    · exact s.setMbs_rst ..
  · rfl
  · rfl
  · exact s.setMbs_rst ..

theorem State.loaderStore_rst (s : State) (a v : Nat) : (s.loaderStore a v).rst = s.rst := by
  unfold State.loaderStore
  split
  · split
    · exact s.loadWin_rst ..
    · exact State.foldl_rst (fun v f => by split <;> [exact v.storeField_rst _ _; rfl]) _ s
  · exact s.setMbs_rst ..

theorem State.placeRun_rst (s : State) (a : Nat) (bs : List Byte) : (s.placeRun a bs).rst = s.rst := by
  unfold State.placeRun
  split
  · exact State.foldl_rst (fun v k => v.loaderStore_rst _ _) _ s
  · exact s.setMbs_rst a bs

theorem State.place_rst (s : State) (l : List (Nat × List Byte)) : (s.place l).rst = s.rst :=
  (State.updWp_only _).rst.trans (State.foldl_rst (fun v r => v.placeRun_rst _ _) l s)

/-- What a restart of the loader leaves placed: the records before the partition it was reading. -/
def State.restartPlaced (s : State) (part : Nat) : State :=
  match s.readingPart part with
  | some l => s.place l.placed
  | none => s

theorem State.restartPlaced_rst (s : State) (part : Nat) : (s.restartPlaced part).rst = s.rst := by
  unfold State.restartPlaced
  split
  · exact s.place_rst _
  · rfl

/-- The partition that event 296 names. -/
def State.restartPart (s : State) (part : Nat) : Nat := if (s.readingPart part).isSome then part else 0

/-- What a loader restart leaves of the reset controller's part (R49, R409). -/
def Rstc.restart (r : Rstc) : Rstc :=
  { r with xspi := false, fwver := [], pin := true, tookPin := true, tookOut := r.tookOut || r.pulse.isSome, restarted := true,
           restartGap := false, done := false, copyB := false, recovery := false, copy := 3, reasonA := 15, reasonB := 15,
           part := 0, calEmpty := false, entry := 0, secver := 0, pulseSeen := r.pulseSeen || r.pulse.isSome }

theorem State.loaderRestart_eq (s : State) (part : Nat) : s.loaderRestart part =
    (((s.restartPlaced part).setRst (s.restartPlaced part).rst.restart).raise 296
      [(1, b2n s.rst.copyB), (1, s.restartPart part)]).writeStat 3 := by
  unfold State.loaderRestart State.restartPlaced State.restartPart Rstc.restart
  cases s.readingPart part <;> rfl

/-- The fields that a write of the reset status writes. -/
def statusRegs : List Reg :=
  [.RST_STAT_LEVEL, .RST_STAT_SRC_POR, .RST_STAT_SRC_PIN, .RST_STAT_SRC_OUT, .RST_STAT_COPY, .RST_STAT_RECOVERY,
   .LDR_STAT_REASONA, .LDR_STAT_REASONB, .LDR_STAT_PART, .LDR_STAT_CALEMPTY, .LDR_ENTRY_ENTRY, .LDR_SECVER_SECVER,
   .LDR_SECMIN_SECMIN]

theorem State.writeStat_only (s : State) (n : Nat) : s.only (s.writeStat n) statusRegs [] :=
  (State.only.refl s _ _).wr.wrb.wrb.wrb.wr.wrb.wr.wr.wr.wrb.wr.wr.wr

theorem State.writeStat_level (s : State) (n : Nat) : (s.writeStat n).rd .RST_STAT_LEVEL = n % 4 :=
  have h : (s.wr .RST_STAT_LEVEL n).only (s.writeStat n) (statusRegs.erase .RST_STAT_LEVEL) [] :=
    (State.only.refl _ _ _).wrb.wrb.wrb.wr.wrb.wr.wr.wr.wrb.wr.wr.wr
  (h.rd _).trans (s.rd_wr_same .RST_STAT_LEVEL n 0 0)

theorem State.loaderRestart_only (s : State) (part : Nat) : (s.restartPlaced part).only (s.loaderRestart part) statusRegs [.rst, .ev] := by
  rw [State.loaderRestart_eq]
  exact (State.only.refl _ _ _).setRst.raise.andThen (State.writeStat_only _ _)

theorem State.loaderRestart_rst (s : State) (part : Nat) : (s.loaderRestart part).rst = s.rst.restart := by
  rw [State.loaderRestart_eq, (State.writeStat_only _ _).rst, State.raise_rst, State.setRst_rst, State.restartPlaced_rst]

theorem State.loaderRestart_recorded (s : State) (part : Nat) : (s.restartPlaced part).recorded (s.loaderRestart part) 296
    [(1, b2n s.rst.copyB), (1, s.restartPart part)] := by
  rw [State.loaderRestart_eq]
  exact State.recorded_raise (u := (s.restartPlaced part).setRst (s.restartPlaced part).rst.restart) (by decide) rfl rfl rfl rfl rfl
    ((State.writeStat_only _ _).same .ev)

/-- The loader begins at copy A where it does not enter recovery mode. -/
theorem State.loaderStart_eq (h : ¬(s.rd .RST_FUSE_BOOT_LIMIT ≤ s.rd .BOOT_TRIES_TRIES ∨ s.rst.buffail = true)) :
    ∃ r : Rstc, s.loaderStart = s.setRst r ∧ r.restartGap = s.rst.restartGap ∧ r.copyB = false ∧ r.done = false ∧
      r.recovery = false :=
  ⟨_, if_neg h, rfl, rfl, rfl, rfl⟩

/-- Settles O7, by what a level reset sweeps and keeps, and what a restart of the loader leaves placed. -/
theorem pinResetTakesTheFusedLevel : Obligations.PinResetTakesTheFusedLevel := by
  refine ⟨fun p s hpor hpin hw => ?_, fun x s hpin hpulse => ?_, fun p s hpin hpor => ?_, fun p s hpin => ?_,
    fun p s hpor hpin hstep hfailed hxsys => ?_, fun s hxsys hgap hpor hpin htries hbuf => ?_⟩
  · obtain ⟨r, he, pin, took, step, level, pulse⟩ := s.pinReset_eq
    have w : s.Swept s.pinReset s.pinResetLevel := by rw [he]; exact (s.levelReset_swept _).setRst r
    have hl : s.pinReset.rst.level = toLevel s.pinResetLevel := by rw [he]; exact level
    have hv : s.pinReset.rst.level.val = s.pinResetLevel := by rw [hl, toLevel_val s.pinResetLevel_le]
    refine ⟨s.pinReset, ?_, by rw [he]; exact pin, by rw [he]; exact took, by rw [he]; exact step, ?_, by rw [he]; exact pulse,
      ?_, ?_, w.mram⟩
    · rw [exec_sysrstNAssert hpin, if_neg (by simp [hpor]), if_neg (by simpa using hw)]
    · rw [hl, State.pinResetLevel_eq]
    · rw [hv]; exact w.reset
    · rw [hv]; exact w.kept
  · refine ⟨_, congrArg Host.Outcome.next (State.on_true ?_), rfl, rfl, (State.only.refl s _ _).setRst, fun h g f => ?_⟩
    · rcases hpulse with h | h <;> simp [hpin, h]
    · simp [h, g, f]
  · refine ⟨_, exec_sysrstNAssert hpin, ?_⟩
    rw [if_pos hpor]
    exact ⟨rfl, rfl, hpor, rfl, (State.only.refl s _ _).setRst⟩
  · exact congrArg Host.Outcome.next (State.on_false (by rw [hpin]; rfl))
  · refine ⟨s.loaderRestart p.toNat, ?_, ?_, ?_, ?_, ?_, ?_, ?_, s.loaderRestart_recorded _, s.loaderRestart_only _⟩
    · rw [exec_sysrstNAssert hpin, if_neg (by simp [hpor]), if_pos (by simp [hstep, hfailed, hxsys])]
    · rw [State.loaderRestart_rst]; exact hstep
    · rw [State.loaderRestart_rst]; rfl
    · rw [State.loaderRestart_rst]; rfl
    · rw [State.loaderRestart_rst]; rfl
    · rw [State.loaderRestart_rst]; rfl
    · rw [State.loaderRestart_eq, State.writeStat_level]
  · have hn : ¬(s.rd .RST_FUSE_BOOT_LIMIT ≤ s.rd .BOOT_TRIES_TRIES ∨ s.rst.buffail = true) := by simp [htries, hbuf]
    obtain ⟨r, he, gap, copyB, done, recovery⟩ := State.loaderStart_eq (s := s.setRst { s.rst with restartGap := false }) hn
    refine ⟨s.setRst r, ?_, gap, copyB, done, recovery, (State.only.refl s _ _).setRst⟩
    exact congrArg Host.Outcome.next ((State.on_true (by simp [hxsys, hgap, hpor, hpin])).trans he)

end Sys2Proof.Machine
end

section
/-! PROOFS. The obligation on controller resets (R272, Table 2-7) fails: a reset that closes a zone's open unit writes both copies of
a system area from the first one, so that what the second copy held beside the zone records is lost (R210, R304). -/

set_option Elab.async false

namespace Sys2Proof.Machine

/-- A module past the hand-off: controller 1 shares a namespace of which zone 0 has an open unit, and the two copies of arm 0's
system area differ in their interference counts. -/
def tornArea : State :=
  { rst := { step := 10, xsys := true }
    hif := { nss := [(0, some { nsid := 1, nsidx := 0, zoned := true, cls := 1, enc := false, nsze := 0, funcs := [1] })]
             zones := [(0, { unit := 1 })] }
    med := { areas := [(1, { ati := [(0, 1)] })] } }

/-- The function-level reset of controller 1 overwrites the second copy's interference counts. -/
theorem tornArea_reset : ∃ t, exec (.functionLevelReset 1) tornArea = .next t ∧ (NTab.get {} 1 t.med.areas).ati = [] :=
  ⟨_, rfl, by decide⟩

/-- Refutes O49: a function-level reset may change more of the medium than the copies of the zone records. -/
theorem not_controllersComeUpAndAreReset : ¬ Obligations.ControllersComeUpAndAreReset := by
  unfold Obligations.ControllersComeUpAndAreReset
  rintro ⟨-, -, -, -, -, -, -, -, -, h, -⟩
  obtain ⟨t, he, ha⟩ := tornArea_reset
  obtain ⟨-, -, ⟨-, hz⟩, -⟩ := h 1 false false false false 0 0 tornArea t _ (by simp) he
  have he : [] = (NTab.get {} 1 tornArea.med.areas).ati := ha.symm.trans (by rw [hz 1])
  exact absurd he (by decide)

end Sys2Proof.Machine
end

section
/-! PROOFS. What ending commands, zones' open units and controllers leaves alone (R272, Table 2-7): the pass and the ports, memory
below the command contexts, and every event but those of the commands themselves. -/

set_option Elab.async false

namespace Sys2Proof.Machine

variable {s t u : State} {l : List Nat}

/-! ### Events raised on the way -/

/-- No event is taken back, and none but those listed is raised. -/
structure State.Raising (l : List Nat) (s t : State) : Prop where
  edge : ∀ n, NSet.has n s.ev.edge = true → NSet.has n t.ev.edge = true
  seq : ∀ n, n ∉ l → NTab.get 0 n t.ev.seq = NTab.get 0 n s.ev.seq

theorem State.Raising.of_eq (h : t.ev = s.ev := by rfl) : s.Raising l t := by
  refine ⟨fun n e => ?_, fun n _ => ?_⟩ <;> rw [h]
  exact e

theorem State.Raising.refl (s : State) (l : List Nat) : s.Raising l s := .of_eq

theorem State.Raising.trans (h : s.Raising l u) (g : u.Raising l t) : s.Raising l t :=
  ⟨fun n e => g.edge n (h.edge n e), fun n m => (g.seq n m).trans (h.seq n m)⟩

theorem State.Raising.mono {l' : List Nat} (h : s.Raising l t) (hl : l ⊆ l' := by decide) : s.Raising l' t :=
  ⟨h.edge, fun n m => h.seq n (fun k => m (hl k))⟩

theorem State.event_edge_mono (s : State) (n : Nat) (fw : Bool) (d : List Byte × Bool) {m : Nat}
    (h : NSet.has m s.ev.edge = true) : NSet.has m (s.event n fw d).ev.edge = true := by
  rw [State.event_edge_eq]
  by_cases e : m = n
  · subst e; exact Tab.get_put_same natLt false m true _
  · exact (Tab.get_put_other natLt false false e _ _).trans h

theorem State.event_raising {n : Nat} {fw : Bool} {d : List Byte × Bool} (h : n ∈ l) : s.Raising l (s.event n fw d) :=
  ⟨fun _ => s.event_edge_mono n fw d, fun m hm => State.event_seq_other (fun e : m = n => hm (e ▸ h)) fw d⟩

theorem State.lostRun_raising (h : 314 ∈ l) : s.Raising l s.lostRun := by
  unfold State.lostRun
  split
  · exact .of_eq rfl
  · split
    · exact State.Raising.trans (u := { s with ev := { s.ev with run := none } }) ⟨fun _ e => e, fun _ _ => rfl⟩
        (State.event_raising h)
    · exact .of_eq rfl

theorem State.raise_raising {n : Nat} {items : List (Nat × Nat)} (h : n ∈ l) (h' : 314 ∈ l) : s.Raising l (s.raise n items) := by
  unfold State.raise State.raiseRaw
  split
  · exact (State.lostRun_raising h').trans (State.event_raising h)
  · exact .of_eq rfl

theorem State.Raising.raise {n : Nat} {items : List (Nat × Nat)} (g : s.Raising l u) (h : n ∈ l := by decide)
    (h' : 314 ∈ l := by decide) : s.Raising l (u.raise n items) :=
  g.trans (State.raise_raising h h')

theorem State.Raising.keep (g : s.Raising l u) (h : t.ev = u.ev := by rfl) : s.Raising l t := g.trans (.of_eq h)

theorem State.Raising.emit {o : Out} (g : s.Raising l u) : s.Raising l (u.emit o) := g.keep

theorem State.Raising.ite {c : Prop} {i : Decidable c} {a b : State} (ha : s.Raising l a) (hb : s.Raising l b) :
    s.Raising l (if c then a else b) := by
  split <;> assumption

/-- An event raised stays raised once. -/
theorem State.raised.after {n : Nat} (h : s.raised u n) (g : u.Raising l t) (hn : n ∉ l := by decide) : s.raised t n :=
  fun h5 => ⟨g.edge n (h h5).1, (g.seq n hn).trans (h h5).2⟩

/-- An event is raised after others. -/
theorem State.Raising.raised {n : Nat} {items : List (Nat × Nat)} (g : s.Raising l u) (hr : u.rst = s.rst := by rfl)
    (hn : n ∉ 314 :: l := by decide) : s.raised (u.raise n items) n := by
  intro h5
  have h5' : u.up 5 = true := by unfold State.up at *; rw [hr]; exact h5
  obtain ⟨h314, hl⟩ := not_or.1 (fun h => hn (List.mem_cons.2 h))
  simp only [State.raise, State.raiseRaw, if_pos h5']
  exact ⟨State.event_edge .., by rw [State.event_seq, State.lostRun_seq h314, g.seq n hl]⟩

/-! ### Commands, zones and controllers that end -/

/-- The fields that ending commands and controllers writes. -/
def endingRegs : List Reg := [.BUF_FREE_FREE, .BUF_STAT_POVF, .BUF_STAT_GUARD, .HIF_PWR_PSREQ]

/-- The events that ending commands and controllers raises. -/
def endingEvents : List Nat := [221, 223, 224, 237, 241, 242, 243, 251, 252, 314, 318]

/-- Commands, zones' open units and controllers may end between s and t. -/
structure State.Ending (s t : State) : Prop where
  regs : s.regsBut t endingRegs
  low : ∀ x, x < ctxLo → t.mb x = s.mb x
  psw : t.psw = s.psw
  rst : t.rst = s.rst
  events : s.Raising endingEvents t
  off : ∀ f, (s.ctrl f).en = false → (t.ctrl f).en = false

theorem State.ctrl_setCtrl_same (s : State) (f : Nat) (k : Ctrl) : (s.setCtrl f k).ctrl f = k :=
  Tab.get_put_same natLt ({} : Ctrl) f k s.hif.ctrls

theorem State.ctrl_setCtrl_other (s : State) {f g : Nat} (h : g ≠ f) (k : Ctrl) : (s.setCtrl f k).ctrl g = s.ctrl g :=
  Tab.get_put_other natLt ({} : Ctrl) {} h k s.hif.ctrls

namespace State.Ending

theorem refl (s : State) : s.Ending s := ⟨fun _ _ _ _ => rfl, fun _ _ => rfl, rfl, rfl, .of_eq rfl, fun _ => id⟩

theorem trans (h : s.Ending u) (g : u.Ending t) : s.Ending t :=
  ⟨fun r i j n => (g.regs r i j n).trans (h.regs r i j n), fun x n => (g.low x n).trans (h.low x n), g.psw.trans h.psw,
    g.rst.trans h.rst, h.events.trans g.events, fun f e => g.off f (h.off f e)⟩

theorem wr {r : Reg} {v i j : Nat} (h : s.Ending u) (hr : r ∈ endingRegs := by decide) : s.Ending (u.wr r v i j) :=
  h.trans ⟨fun _ _ _ n => State.rdW_wr_ne u v (fun e => n (e ▸ hr)), fun _ _ => rfl, rfl, rfl, .of_eq rfl, fun _ => id⟩

/-- The host interface may change where every controller keeps its settings, and the other parts but events and the pass. -/
theorem parts {poison : NSet} {nor : List Host.Cell} {staged : NTab (Option Byte)} {norq : List NorJob} {erec : Erec}
    {age : Age} {pwr : Pwr} {spn : Spn} {arms : NTab ArmS} {hif : Hif} {l2 : L2} {hses : NTab Hse} {chans : NTab Chan}
    {hls : NTab Hlink} {oce : Oce} {dma : Dma} {buf : Buf} {frc : Frc} {med : Media} {frac free : Nat} {out : List Out}
    (h : s.Ending u) (hc : hif.ctrls = u.hif.ctrls := by rfl) :
    s.Ending ⟨u.pending, u.regs, u.mem, poison, nor, staged, norq, u.rst, u.ev, erec, age, pwr, spn, arms, hif, u.psw, l2, hses, chans,
      hls, oce, dma, buf, frc, med, frac, free, out⟩ :=
  h.trans ⟨fun _ _ _ _ => rfl, fun _ _ => rfl, rfl, rfl, .of_eq rfl, fun f e => by unfold State.ctrl at *; rw [hc]; exact e⟩

/-- A controller that is off stays off. -/
theorem setCtrl {f : Nat} {k : Ctrl} (h : s.Ending u) (hk : (u.ctrl f).en = false → k.en = false := by exact id) :
    s.Ending (u.setCtrl f k) :=
  h.trans ⟨fun _ _ _ _ => rfl, fun _ _ => rfl, rfl, rfl, .of_eq rfl, fun g e => by
    by_cases n : g = f
    · subst n; rw [State.ctrl_setCtrl_same]; exact hk e
    · rw [State.ctrl_setCtrl_other u n]; exact e⟩

theorem raise {n : Nat} {items : List (Nat × Nat)} (h : s.Ending u) (hn : n ∈ endingEvents := by decide) :
    s.Ending (u.raise n items) :=
  h.trans ⟨fun r i j _ => State.rdW_congr (State.raise_regs ..) r i j, fun x _ => State.mb_congr (State.raise_mem ..) x,
    State.raise_psw .., State.raise_rst .., State.raise_raising hn (by decide), fun f e => by
      unfold State.ctrl; rw [State.raise_hif]; exact e⟩

theorem ite {c : Prop} {i : Decidable c} {a b : State} (ha : s.Ending a) (hb : s.Ending b) : s.Ending (if c then a else b) := by
  split <;> assumption

theorem after {v w : State} (hw : s.Ending v → s.Ending w) (h : s.Ending v) : s.Ending w := hw h

theorem foldl {α : Type} {f : State → α → State} {l : List α} (hf : ∀ v a, s.Ending v → s.Ending (f v a)) (h : s.Ending u) :
    s.Ending (l.foldl f u) := by
  induction l generalizing u with
  | nil => exact h
  | cons a l ih => exact ih (hf u a h)

/-! ### Along the operations -/

theorem setCmds {l : List Cmd} (hu : s.Ending u) : s.Ending (u.setCmds l) := hu.parts

theorem setZones {t : NTab Zone} (hu : s.Ending u) : s.Ending (u.setZones t) := .foldl (fun _ _ hv => hv.parts) hu.parts

theorem ctxState {tag : Nat} (hu : s.Ending u) : s.Ending (u.ctxState tag) := by
  unfold State.ctxState
  split
  · exact hu.trans ⟨fun _ _ _ _ => rfl, fun x hx => State.mb_setMbs_other (.inl (by unfold ctxAddr; omega)), rfl, rfl, .of_eq rfl,
      fun _ => id⟩
  · exact hu

theorem fairCheck (hu : s.Ending u) : s.Ending u.fairCheck := .ite hu (.ite hu.parts.raise hu.parts.raise)

theorem giveCredit {k n : Nat} (hu : s.Ending u) : s.Ending (u.giveCredit k n) := .ite hu.wr.wr.raise hu.wr

theorem noteStatus {c : Cmd} {st : Nat} (hu : s.Ending u) : s.Ending (u.noteStatus c st) :=
  .ite hu (.raise (.parts (.ite hu.raise hu)))

theorem creditsBack {c : Cmd} (hu : s.Ending u) : s.Ending (u.creditsBack c) :=
  .after (fun h => .ite h h.giveCredit) (.ite hu.giveCredit hu)

theorem complete0 {tag st d0 d1 : Nat} (hu : s.Ending u) : s.Ending (u.complete0 tag st d0 d1) := by
  unfold State.complete0
  split
  · exact hu
  · exact .ite hu (.noteStatus (.ite hu.creditsBack.setCmds (.ctxState (.parts (setCmds hu.creditsBack)))))

theorem notify {f b dw0 : Nat} (hu : s.Ending u) : s.Ending (u.notify f b dw0) :=
  .ite hu (by
    dsimp only
    split
    · exact hu.setCtrl.complete0
    · exact .ite hu hu.setCtrl)

theorem zoneChanged {n : Nsp} {z cause : Nat} (hu : s.Ending u) : s.Ending (u.zoneChanged n z cause) :=
  .raise (.foldl (fun _ _ hv => .notify (.parts hv)) hu)

theorem fullCheck {n : Nsp} {z : Nat} (hu : s.Ending u) : s.Ending (u.fullCheck n z) := .ite hu.setZones.zoneChanged hu

theorem closeUnit {ns z : Nat} (hu : s.Ending u) : s.Ending (u.closeUnit ns z) :=
  .ite hu (by
    split
    · exact hu.setZones.fullCheck
    · exact hu.setZones)

theorem closeUnits {p : Nat → Bool} (hu : s.Ending u) : s.Ending (u.closeUnits p) :=
  .foldl (fun _ _ hv => .ite hv.closeUnit hv) hu

theorem guardCheck (hu : s.Ending u) : s.Ending u.guardCheck := .ite hu (.ite hu.wr.raise.closeUnits hu.wr)

theorem complete1 {tag st d0 d1 : Nat} (hu : s.Ending u) : s.Ending (u.complete1 tag st d0 d1) := hu.complete0.guardCheck

theorem failLater {c : Cmd} (hu : s.Ending u) : s.Ending (u.failLater c) := by
  unfold State.failLater
  split
  · exact .foldl (fun _ _ hv => hv.complete1) hu
  · exact hu

theorem endCmds {pick : Cmd → Bool} {quiet : Bool} (hu : s.Ending u) : s.Ending (u.endCmds pick quiet) :=
  .after (fun h => .ite h.setCmds h) (.foldl (fun _ _ hv => hv.failLater) (.foldl (fun _ _ hv => hv.complete1) hu.setCmds))

theorem virtEvent {f : Nat} (hu : s.Ending u) : s.Ending (u.virtEvent f) := hu.raise

theorem resetCtrl {f cause : Nat} (hu : s.Ending u) : s.Ending (u.resetCtrl f cause) := by
  have h : s.Ending (u.endCmds (fun c => c.func == f) true) := hu.endCmds
  unfold State.resetCtrl
  exact .after (fun h3 => .after (fun h5 => .raise (.fairCheck (.closeUnits (.ite (.parts (.wr h5)) h5))))
    (.ite (.virtEvent (.setCtrl h3 (fun _ => rfl))) (.setCtrl h3 (fun _ => rfl)))) (.parts (.setCmds h))

theorem endTest {result : Nat} (hu : s.Ending u) : s.Ending (u.endTest result) := by
  unfold State.endTest
  split
  · exact hu
  · exact hu.parts.raise

theorem resetAll {cause : Nat} (hu : s.Ending u) : s.Ending (u.resetAll cause) :=
  .parts (.foldl (fun _ _ hv => hv.resetCtrl) (by
    split
    · exact .ite hu.endTest hu
    · exact hu))

end State.Ending

end Sys2Proof.Machine
end

section
/-! PROOFS. The pass (R325 to R335): its records in MRAM, what its closing does, and the obligation on its instructions. -/

set_option Elab.async false

namespace Sys2Proof.Machine

variable {s t u : State}

/-! ### Numbers in memory -/

theorem leNat_leBytes (n v : Nat) : leNat (leBytes n v) = v % 256 ^ n := by
  induction n generalizing v with
  | zero => simp [leBytes, leNat, Nat.mod_one]
  | succ n ih =>
    have h : v % 256 ^ (n + 1) = v % 256 + 256 * (v / 256 % 256 ^ n) := by rw [Nat.pow_succ', Nat.mod_mul]
    rw [leBytes, leNat, ih, BitVec.toNat_ofNat, h]

theorem State.mbs_mwr (n v : Nat) {a : Nat} (ha : 0x20000 ≤ a) : (s.mwr n a v).mbs a n = leBytes n v := by
  refine List.ext_getElem (by simp [State.mbs, leBytes_length]) (fun k h _ => ?_)
  have hk : k < (leBytes n v).length := by simpa [State.mbs, leBytes_length] using h
  simp only [State.mbs, List.getElem_map, List.getElem_range, State.mwr, State.mb_setMbs_same hk ha]
  simp [List.getD, hk]

theorem State.mrd_mwr_same (n v : Nat) {a : Nat} (ha : 0x20000 ≤ a) : (s.mwr n a v).mrd n a = v % 256 ^ n := by
  rw [State.mrd, State.mbs_mwr n v ha, leNat_leBytes]

theorem State.mrd_congr {n a : Nat} (h : ∀ x, a ≤ x → x < a + n → t.mb x = s.mb x) : t.mrd n a = s.mrd n a := by
  have : t.mbs a n = s.mbs a n := List.map_congr_left (fun k hk => h (a + k) (by omega) (by have := List.mem_range.1 hk; omega))
  rw [State.mrd, State.mrd, this]

theorem State.mwr_mb_other {n a v x : Nat} (h : x < a ∨ a + n ≤ x) : (s.mwr n a v).mb x = s.mb x :=
  State.mb_setMbs_other (by rwa [leBytes_length])

/-! ### The records of the pass (R328) -/

/-- The records read the same. -/
structure State.SamePassRecords (s t : State) : Prop where
  flag : t.passFlag = s.passFlag
  cause : t.passCause = s.passCause
  count : t.passCount = s.passCount

theorem State.samePassRecords (h : ∀ x, x < ctxLo → t.mb x = s.mb x) : s.SamePassRecords t := by
  have hr : t.mrd 4 passRecAt = s.mrd 4 passRecAt := State.mrd_congr (fun x _ h2 => h x (by unfold ctxLo passRecAt at *; omega))
  have hc : t.mrd 4 passCntAt = s.mrd 4 passCntAt := State.mrd_congr (fun x _ h2 => h x (by unfold ctxLo passCntAt at *; omega))
  exact ⟨by rw [State.passFlag, hr]; rfl, by rw [State.passCause, hr]; rfl, hc⟩

theorem State.setPassRec_record (s : State) (b : Bool) (c : Nat) : (s.setPassRec b c).mrd 4 passRecAt = b2n b + 16 * (c % 16) := by
  have : b2n b ≤ 1 := by cases b <;> decide
  rw [State.setPassRec, State.mrd_mwr_same _ _ (by decide), Nat.mod_eq_of_lt (by omega)]

theorem State.setPassRec_flag (s : State) (b : Bool) (c : Nat) : (s.setPassRec b c).passFlag = b := by
  rw [State.passFlag, State.setPassRec_record, Nat.testBit_zero]
  cases b
  · simp [b2n]; omega
  · simp [b2n]; omega

theorem State.setPassRec_cause (s : State) (b : Bool) (c : Nat) : (s.setPassRec b c).passCause = c % 16 := by
  rw [State.passCause, State.setPassRec_record, bitsN]
  cases b
  · simp [b2n]
  · simp [b2n]; omega

theorem State.setPassRec_count (s : State) (b : Bool) (c : Nat) : (s.setPassRec b c).passCount = s.passCount :=
  State.mrd_congr (fun x _ h => State.mwr_mb_other (.inl (by unfold passCntAt passRecAt at *; omega)))

theorem State.setPassCount_count (s : State) {n : Nat} (h : n < 2 ^ 32) : (s.setPassCount n).passCount = n :=
  (State.mrd_mwr_same _ _ (by decide)).trans (Nat.mod_eq_of_lt h)

/-! ### A link that goes down -/

theorem State.uspDown_only (s : State) (c : Nat) :
    s.only (s.uspDown c) [.PSW_STAT_USUP, .PSW_STAT_DEPTHOK, .PSW_USLNK_SPEED, .PSW_USLNK_WIDTH] [.psw, .ev] :=
  have h := State.only.refl s _ _
  .ite h.wr.wr.wr.wr.setPsw.raise h

/-- The events of a link that goes down. -/
def linkEvents : List Nat := [189, 191, 200, 314]

theorem State.uspDown_raising (s : State) (c : Nat) : s.Raising linkEvents (s.uspDown c) :=
  .ite (.raise .of_eq) (.refl _ _)

theorem State.uspDown_usup (s : State) (c : Nat) : (s.uspDown c).bit .PSW_STAT_USUP = false := by
  unfold State.uspDown
  split
  · refine Eq.trans (State.only.bit (s := s.wr .PSW_STAT_USUP 0) (P := [.psw, .ev])
      (R := [.PSW_STAT_DEPTHOK, .PSW_USLNK_SPEED, .PSW_USLNK_WIDTH]) ?_ .PSW_STAT_USUP) (State.bit_wr_same ..)
    exact .raise (.setPsw (.wr (.wr (.wr (.refl _ _ _)))))
  · next h => simpa using h

theorem State.uspDown_psw (s : State) (c : Nat) :
    (s.uspDown c).psw = { s.psw with usFinal := s.psw.usFinal && !s.bit .PSW_STAT_USUP } := by
  unfold State.uspDown
  split
  · next h => rw [State.raise_psw, h]; simp
  · next h => simp [h]

theorem State.setBelow_only (s : State) (b : Nat) : s.only (s.setBelow b) [.PSW_CHAIN_BELOW] [.ev, .out] :=
  have h := State.only.refl s _ _
  .ite h (.ite h.wr.raise.emit h.wr.raise)

theorem State.setBelow_raising (s : State) (b : Nat) : s.Raising linkEvents (s.setBelow b) :=
  .ite (.refl _ _) (.ite (.emit (.raise .of_eq)) (.raise .of_eq))

theorem State.edpDown_only (s : State) (c : Nat) :
    s.only (s.edpDown c) [.PSW_STAT_DSUP, .PSW_DSLNK_SPEED, .PSW_DSLNK_WIDTH, .PSW_CHAIN_BELOW] [.psw, .ev, .out] :=
  have h := State.only.refl s _ _
  .ite (h.wr.wr.wr.setPsw.raise.andThen (State.setBelow_only _ 0)) h

theorem State.edpDown_raising (s : State) (c : Nat) : s.Raising linkEvents (s.edpDown c) :=
  .ite (.trans (.raise .of_eq) (State.setBelow_raising _ 0)) (.refl _ _)

theorem State.edpDown_dsup (s : State) (c : Nat) : (s.edpDown c).bit .PSW_STAT_DSUP = false := by
  unfold State.edpDown
  split
  · refine Eq.trans (State.only.bit (s := s.wr .PSW_STAT_DSUP 0) (P := [.psw, .ev, .out])
      (R := [.PSW_DSLNK_SPEED, .PSW_DSLNK_WIDTH, .PSW_CHAIN_BELOW]) ?_ .PSW_STAT_DSUP) (State.bit_wr_same ..)
    exact .andThen (.raise (.setPsw (.wr (.wr (.refl _ _ _))))) (State.setBelow_only _ 0)
  · next h => simpa using h

theorem State.edpDown_psw (s : State) (c : Nat) :
    (s.edpDown c).psw = { s.psw with dsFinal := s.psw.dsFinal && !s.bit .PSW_STAT_DSUP, edp := (s.edpDown c).psw.edp } := by
  unfold State.edpDown
  split
  · next h => rw [(State.setBelow_only _ 0).same .psw, State.raise_psw, h]; simp
  · next h => simp [h]

/-! ### The reset of a link (R336) -/

theorem State.linkReset_ending (s : State) :
    (s.setPsw { s.psw with idpDisabled := false, edpDisabled := false, usp := {}, idp := {}, edp := {} }).Ending s.linkReset :=
  .resetAll (.refl _)

/-- What follows once a controller's settings are gone: its resources, its power request, its zones' open units, the events. -/
def State.controllerGone (s : State) (f cause n : Nat) (virt : Bool) : State :=
  let s := if virt then s.virtEvent f else s
  let s : State := if f = 0 ∧ s.rd .HIF_PWR_PSREQ ≠ 0 then
      let h := { s.hif with entry := some 0 }
      let s : State := s.wr .HIF_PWR_PSREQ 0
      { s with hif := h }
    else s
  let s := s.closeUnits (fun ns => match s.ns? ns with | some x => NSet.has f x.funcs | none => false)
  s.fairCheck.raise 221 [(2, f), (1, cause), (4, n)]

theorem State.Ending.controllerGone {f cause n : Nat} {virt : Bool} (h : s.Ending u) : s.Ending (u.controllerGone f cause n virt) :=
  .after (fun h => .raise (.fairCheck (.closeUnits (.ite (.parts (.wr h)) h)))) (.ite h.virtEvent h)

theorem State.resetCtrl_eq (s : State) (f cause : Nat) : ∃ (w : State) (k : Ctrl) (virt : Bool) (n : Nat),
    s.resetCtrl f cause = (w.setCtrl f k).controllerGone f cause n virt ∧ k.en = false := by
  refine ⟨_, _, _, _, rfl, ?_⟩
  rfl

theorem State.resetCtrl_off (s : State) (f c : Nat) : ((s.resetCtrl f c).ctrl f).en = false := by
  obtain ⟨w, k, virt, n, he, hk⟩ := s.resetCtrl_eq f c
  rw [he]
  exact (State.Ending.refl _).controllerGone.off f ((congrArg Ctrl.en (w.ctrl_setCtrl_same f k)).trans hk)

theorem State.foldl_resetCtrl_off {c f : Nat} {l : List Nat} (h : f ∈ l ∨ (s.ctrl f).en = false) :
    ((l.foldl (fun s f => s.resetCtrl f c) s).ctrl f).en = false := by
  induction l generalizing s with
  | nil => simpa using h
  | cons g l ih =>
    refine ih ?_
    by_cases hg : f = g
    · exact .inr (hg ▸ s.resetCtrl_off g c)
    · exact h.imp (fun m => (List.mem_cons.1 m).resolve_left hg) (fun e => (State.Ending.refl s).resetCtrl.off f e)

/-- A controller that no table lists is off. -/
theorem State.liveFuncs_off {f : Nat} (h : f ∉ s.liveFuncs) : (s.ctrl f).en = false := by
  rcases Tab.get_mem ({} : Ctrl) f s.hif.ctrls with hd | hm
  · exact congrArg Ctrl.en hd
  · refine absurd ?_ h
    rw [State.liveFuncs, List.mem_eraseDups, List.mem_append]
    exact .inl (List.mem_map.2 ⟨_, hm, rfl⟩)

theorem State.resetAll_eq (s : State) (c : Nat) :
    ∃ v : State, s.resetAll c = { v.liveFuncs.foldl (fun s f => s.resetCtrl f c) v with staged := [] } := ⟨_, rfl⟩

theorem State.resetAll_off (s : State) (c f : Nat) : ((s.resetAll c).ctrl f).en = false := by
  obtain ⟨v, he⟩ := s.resetAll_eq c
  rw [he]
  exact State.foldl_resetCtrl_off (s := v) ((em (f ∈ v.liveFuncs)).imp id State.liveFuncs_off)

/-! ### The pass closes (R329) -/

/-- The fields that a closing of the pass writes beside PENDING. -/
def leaveRegs : List Reg :=
  [.PSW_PASS_STATE, .PSW_STAT_USUP, .PSW_STAT_DEPTHOK, .PSW_USLNK_SPEED, .PSW_USLNK_WIDTH, .PSW_STAT_DSUP, .PSW_DSLNK_SPEED,
   .PSW_DSLNK_WIDTH, .PSW_CHAIN_BELOW, .BUF_FREE_FREE, .BUF_STAT_POVF, .BUF_STAT_GUARD, .HIF_PWR_PSREQ]

/-- The events of a pass that is left. -/
def leaveEvents : List Nat := [189, 191, 200, 221, 223, 224, 237, 241, 242, 243, 251, 252, 314, 318]

/-- The port's part once the pass is left: HOLDOFF runs, the switches leave, both links are down and the ports are reset. -/
def State.leftPsw (s : State) : Psw :=
  { s.psw with holdoff := true, swMoving := true, swOpen := 0, usFinal := s.psw.usFinal && !s.bit .PSW_STAT_USUP,
               dsFinal := s.psw.dsFinal && !s.bit .PSW_STAT_DSUP, idpDisabled := false, edpDisabled := false,
               usp := {}, idp := {}, edp := {} }

/-- The pass has been left: closing, both links down, every port and controller reset. -/
structure State.Left (s t : State) : Prop where
  state : t.rd .PSW_PASS_STATE = 3
  regs : s.regsBut t leaveRegs
  low : ∀ x, x < ctxLo → t.mb x = s.mb x
  events : s.Raising leaveEvents t
  usp : t.bit .PSW_STAT_USUP = false
  dsp : t.bit .PSW_STAT_DSUP = false
  off : ∀ f, (t.ctrl f).en = false
  psw : t.psw = s.leftPsw
  rst : t.rst = s.rst

/-- The fields that links going down write. -/
def linkRegs : List Reg :=
  [.PSW_STAT_USUP, .PSW_STAT_DEPTHOK, .PSW_USLNK_SPEED, .PSW_USLNK_WIDTH, .PSW_STAT_DSUP, .PSW_DSLNK_SPEED, .PSW_DSLNK_WIDTH,
   .PSW_CHAIN_BELOW]

theorem State.linksDown_only (s : State) : s.only s.linksDown linkRegs [.psw, .ev, .out] :=
  ((s.uspDown_only 0).mono).andThen (State.edpDown_only _ 0)

theorem State.linksDown_usp (s : State) : s.linksDown.bit .PSW_STAT_USUP = false :=
  ((State.edpDown_only _ 0).bit _).trans (s.uspDown_usup 0)

theorem State.linksDown_psw (s : State) : s.linksDown.psw =
    { s.psw with usFinal := s.psw.usFinal && !s.bit .PSW_STAT_USUP, dsFinal := s.psw.dsFinal && !s.bit .PSW_STAT_DSUP,
                 edp := s.linksDown.psw.edp } := by
  refine (State.edpDown_psw _ 0).trans ?_
  rw [s.uspDown_psw, (s.uspDown_only 0).bit .PSW_STAT_DSUP]
  rfl

theorem State.linksDown_raising (s : State) : s.Raising linkEvents s.linksDown :=
  (s.uspDown_raising 0).trans (State.edpDown_raising _ 0)

theorem State.linkReset_regs (s : State) : s.regsBut s.linkReset endingRegs := s.linkReset_ending.regs

theorem State.linkReset_low (s : State) : ∀ x, x < ctxLo → s.linkReset.mb x = s.mb x := s.linkReset_ending.low

theorem State.linkReset_rst (s : State) : s.linkReset.rst = s.rst := s.linkReset_ending.rst

theorem State.linkReset_raising (s : State) : s.Raising endingEvents s.linkReset :=
  State.Raising.trans (u := s.setPsw _) .of_eq s.linkReset_ending.events

theorem State.linkReset_psw (s : State) :
    s.linkReset.psw = { s.psw with idpDisabled := false, edpDisabled := false, usp := {}, idp := {}, edp := {} } :=
  s.linkReset_ending.psw

/-- The pass as it begins to be left: closing, HOLDOFF running, the switches under way. -/
def State.startLeave (s : State) : State :=
  (s.wr .PSW_PASS_STATE 3).setPsw { s.psw with holdoff := true, swMoving := true, swOpen := 0 }

theorem State.startLeave_only (s : State) : s.only s.startLeave leaveRegs [.psw, .ev, .out] := (State.only.refl s _ _).wr.setPsw

theorem State.startLeave_psw (s : State) : s.startLeave.psw = { s.psw with holdoff := true, swMoving := true, swOpen := 0 } := rfl

theorem State.startLeave_link (s : State) {r : Reg} (h : r ≠ .PSW_PASS_STATE) : s.startLeave.bit r = s.bit r := by
  rw [State.startLeave, State.bit_setPsw, State.bit_wr_ne s 3 h]

theorem linkRegs_leaveRegs : linkRegs ⊆ leaveRegs := by decide

theorem endingRegs_leaveRegs : endingRegs ⊆ leaveRegs := by decide

theorem State.leave_eq (s : State) : s.leave = s.startLeave.linksDown.linkReset := rfl

theorem State.leave_left (s : State) : s.Left s.leave := by
  have hs : s.startLeave.rd .PSW_PASS_STATE = 3 := s.rd_wr_same .PSW_PASS_STATE 3 0 0
  have ho := s.startLeave_only
  have hd := s.startLeave.linksDown_only
  have hr := s.startLeave.linksDown.linkReset_regs
  have hrd : ∀ {r : Reg}, r ∉ endingRegs → s.startLeave.linksDown.linkReset.rd r = s.startLeave.linksDown.rd r :=
    fun n => congrArg BitVec.toNat (hr _ _ _ n)
  rw [State.leave_eq]
  refine { state := ?_, regs := fun r i j n => ?_, low := fun x n => ?_, events := ?_, usp := ?_, dsp := ?_, off := fun f => ?_,
           psw := ?_, rst := ?_ }
  · rw [hrd (by decide), hd.rd .PSW_PASS_STATE, hs]
  · rw [hr r i j (fun m => n (endingRegs_leaveRegs m)), hd.1 r i j (fun m => n (linkRegs_leaveRegs m)), ho.1 r i j n]
  · rw [State.linkReset_low _ x n, hd.mb, ho.mb]
  · have h1 : s.Raising leaveEvents s.startLeave := .of_eq
    exact (h1.trans s.startLeave.linksDown_raising.mono).trans (State.linkReset_raising _).mono
  · rw [State.bit, hrd (by decide)]; exact s.startLeave.linksDown_usp
  · rw [State.bit, hrd (by decide)]; exact State.edpDown_dsup _ 0
  · exact State.resetAll_off _ 2 f
  · rw [State.linkReset_psw, State.linksDown_psw, s.startLeave_psw, s.startLeave_link (by decide), s.startLeave_link (by decide)]
    rfl
  · rw [State.linkReset_rst, hd.rst, ho.rst]

/-- What a closing of an open pass does: it records its cause, tells of it, and leaves. -/
structure State.Closed (s t : State) (cause : Nat) : Prop where
  state : t.rd .PSW_PASS_STATE = 3
  pending : t.rd .PSW_PASS_PENDING = if cause = 2 then 1 else 0
  regs : s.regsBut t (.PSW_PASS_PENDING :: leaveRegs)
  flag : t.passFlag = false
  cause : t.passCause = cause % 16
  count : t.passCount = s.passCount
  event : s.raised t 196
  events : s.Raising (196 :: leaveEvents) t
  usp : t.bit .PSW_STAT_USUP = false
  dsp : t.bit .PSW_STAT_DSUP = false
  off : ∀ f, (t.ctrl f).en = false
  psw : t.psw = s.leftPsw
  rst : t.rst = s.rst

/-- The pass as its closing begins: the cause recorded, event 196 raised. -/
def State.startClose (s : State) (cause : Nat) : State :=
  ((s.wr .PSW_PASS_PENDING (if cause = 2 then 1 else 0)).setPassRec false cause).raise 196 [(1, cause)]

theorem State.startClose_rdW (s : State) (c : Nat) {r : Reg} (h : r ≠ .PSW_PASS_PENDING) (i j : Nat) :
    (s.startClose c).rdW r i j = s.rdW r i j :=
  (State.rdW_congr (State.raise_regs ..) r i j).trans (s.rdW_wr_ne _ h)

theorem State.startClose_pending (s : State) (c : Nat) :
    (s.startClose c).rd .PSW_PASS_PENDING = if c = 2 then 1 else 0 := by
  have h : (s.startClose c).rd .PSW_PASS_PENDING = (s.wr .PSW_PASS_PENDING (if c = 2 then 1 else 0)).rd .PSW_PASS_PENDING :=
    congrArg BitVec.toNat (State.rdW_congr (State.raise_regs ..) _ 0 0)
  rw [h, s.rd_wr_same .PSW_PASS_PENDING]
  split <;> rfl

theorem State.startClose_psw (s : State) (c : Nat) : (s.startClose c).psw = s.psw := State.raise_psw ..

theorem State.startClose_rst (s : State) (c : Nat) : (s.startClose c).rst = s.rst := State.raise_rst ..

theorem State.startClose_records (s : State) (c : Nat) : (s.startClose c).passFlag = false ∧ (s.startClose c).passCause = c % 16 ∧
    (s.startClose c).passCount = s.passCount := by
  have h : ∀ x, (s.startClose c).mb x = ((s.wr .PSW_PASS_PENDING (if c = 2 then 1 else 0)).setPassRec false c).mb x :=
    fun x => State.mb_congr (State.raise_mem ..) x
  obtain ⟨hf, hc, hn⟩ := State.samePassRecords (fun x _ => h x)
  rw [hf, hc, hn, State.setPassRec_flag, State.setPassRec_cause, State.setPassRec_count]
  exact ⟨rfl, rfl, rfl⟩

theorem State.startClose_raised (s : State) (c : Nat) : s.raised (s.startClose c) 196 := (State.Raising.of_eq (l := [])).raised

theorem State.startClose_raising (s : State) (c : Nat) : s.Raising (196 :: leaveEvents) (s.startClose c) := .raise .of_eq

theorem State.leftPsw_congr (hp : t.psw = s.psw) (hu : t.bit .PSW_STAT_USUP = s.bit .PSW_STAT_USUP)
    (hd : t.bit .PSW_STAT_DSUP = s.bit .PSW_STAT_DSUP) : t.leftPsw = s.leftPsw := by
  rw [State.leftPsw, hp, hu, hd]; rfl

theorem State.passClose_closed {cause : Nat} (h : s.rd .PSW_PASS_STATE = 1 ∨ s.rd .PSW_PASS_STATE = 2) :
    s.Closed (s.passClose cause) cause := by
  have he : s.passClose cause = (s.startClose cause).leave := if_pos h
  obtain ⟨state, regs, low, events, usp, dsp, off, psw, rst⟩ := (s.startClose cause).leave_left
  obtain ⟨hf, hc, hn⟩ := s.startClose_records cause
  obtain ⟨flag, cause', count⟩ := State.samePassRecords low
  rw [he]
  refine { state, usp, dsp, off, pending := ?_, regs := fun r i j n => ?_, flag := flag.trans hf, cause := cause'.trans hc,
           count := count.trans hn, event := (s.startClose_raised cause).after events, events := ?_, psw := psw.trans ?_,
           rst := rst.trans (s.startClose_rst cause) }
  · exact (congrArg BitVec.toNat (regs .PSW_PASS_PENDING 0 0 (by decide))).trans (s.startClose_pending cause)
  · rw [regs r i j (fun m => n (List.mem_cons_of_mem _ m)), s.startClose_rdW cause (fun e => n (e ▸ List.mem_cons_self))]
  · exact (s.startClose_raising cause).trans events.mono
  · exact State.leftPsw_congr (s.startClose_psw cause)
      (congrArg (fun w : Word => w.toNat != 0) (s.startClose_rdW cause (by decide) 0 0))
      (congrArg (fun w : Word => w.toNat != 0) (s.startClose_rdW cause (by decide) 0 0))

end Sys2Proof.Machine
end

section
/-! PROOFS. The obligation on the pass: its instructions, JOIN_EN, HOLDOFF and the position check. -/

set_option Elab.async false

namespace Sys2Proof.Machine

variable {s t u : State}

/-! ### What holds the pass (R327, R330, R334) -/

theorem State.joinHeld_none_iff (s : State) : s.joinHeld = none ↔
    (s.psw.holdoff = false ∧ (s.bit .PSW_CFG_POLICY = true → s.bit .PSW_STAT_JOINEN = true) ∧ s.pwr.good = true) := by
  unfold State.joinHeld
  cases s.psw.holdoff <;> cases s.bit .PSW_CFG_POLICY <;> cases s.bit .PSW_STAT_JOINEN <;> cases s.pwr.good <;> simp

theorem tapTests_iff {i : TapInstr} : tapTests i = true ↔ i = .boundary ∨ i = .acScan := by cases i <;> decide

theorem tapTests_tapActs (i : TapInstr) : tapTests (tapActs i) = tapTests i := by cases i <;> rfl

theorem State.headsParked_iff (s : State) : s.headsParked = false ↔
    (s.pwr.retract ≠ 0 ∨ s.pwr.tripped ≠ [] ∨ ∃ a < 4, s.armLoaded a = true) := by
  rw [← Bool.not_eq_true, State.headsParked]
  simp only [Bool.and_eq_true, beq_iff_eq, List.isEmpty_iff, List.all_eq_true, List.mem_range, Bool.not_eq_true', not_and_or, not_forall,
    Bool.not_eq_false, or_assoc, exists_prop]

theorem State.mayOpen_iff (s : State) : s.mayOpen = false ↔ (s.psw.tap = .boundary ∨ s.psw.tap = .acScan ∨
    (s.rst.recovery = true ∧ (s.pwr.turning = true ∨ s.pwr.retract ≠ 0 ∨ s.pwr.tripped ≠ [] ∨ ∃ a < 4, s.armLoaded a = true))) := by
  rw [← State.headsParked_iff, ← or_assoc, ← tapTests_iff, State.mayOpen]
  cases s.rst.recovery <;> cases s.pwr.turning <;> cases s.headsParked <;> cases tapTests s.psw.tap <;> simp

/-! ### The test access port -/

theorem State.setTap_psw (s : State) (i : TapInstr) :
    (s.setTap i).psw = { s.psw with tap := if i = .debug then .bypass else i } := by cases i <;> rfl

theorem State.setTap_only (s : State) (i : TapInstr) : s.only (s.setTap i) [] [.psw] := (State.only.refl s _ _).setPsw

theorem State.setTap_joinHeld (s : State) (i : TapInstr) : (s.setTap i).joinHeld = s.joinHeld := rfl

/-! ### The pass opens (R328) -/

/-- What the start of an opening does. -/
structure State.Joined (s t : State) : Prop where
  state : t.rd .PSW_PASS_STATE = 1
  pending : t.rd .PSW_PASS_PENDING = 0
  flag : t.passFlag = true
  cause : t.passCause = s.passCause
  count : t.passCount = min (2 ^ 32 - 1) (s.passCount + 1)
  event : s.raised t 195
  warn : min (2 ^ 32 - 1) (s.passCount + 1) = 80000000 → s.raised t 202
  worn : min (2 ^ 32 - 1) (s.passCount + 1) = 100000000 → s.raised t 203
  lanes : ∀ k, t.lanePath k = .nothing
  frame : s.opening t

/-- The pass as its opening begins: the switches leave their rest, the count and the record are kept in MRAM. -/
def State.startJoin (s : State) (n : Nat) : State :=
  let s := ((s.wr .PSW_PASS_STATE 1).wr .PSW_PASS_PENDING 0).setPsw { s.psw with swMoving := true, swOpen := 0 }
  (s.setPassCount n).setPassRec true s.passCause

/-- The events of an opening: 195, and 202 and 203 at the marks of the count. -/
def State.tellJoin (s : State) (n : Nat) : State :=
  let s := s.raise 195 [(4, n)]
  let s := if n = 80000000 then s.raise 202 [(4, n)] else s
  if n = 100000000 then s.raise 203 [(4, n)] else s

theorem State.joinStart_eq (s : State) :
    s.joinStart = (s.startJoin (min (2 ^ 32 - 1) (s.passCount + 1))).tellJoin (min (2 ^ 32 - 1) (s.passCount + 1)) := rfl

theorem State.tellJoin_only (s : State) (n : Nat) : s.only (s.tellJoin n) [] [.ev] := by
  have h : s.only (s.raise 195 [(4, n)]) [] [.ev] := (State.only.refl s _ _).raise
  exact .after (fun h => .ite h.raise h) (.ite h.raise h)

theorem State.tellJoin_raised (s : State) (n : Nat) : s.raised (s.tellJoin n) 195 ∧ (n = 80000000 → s.raised (s.tellJoin n) 202) ∧
    (n = 100000000 → s.raised (s.tellJoin n) 203) := by
  have h1 : s.raised (s.raise 195 [(4, n)]) 195 := (State.Raising.refl s []).raised
  have g1 : s.Raising [195, 314] (s.raise 195 [(4, n)]) := .raise (.refl s _)
  unfold State.tellJoin
  by_cases h2 : n = 80000000
  · subst h2
    exact ⟨h1.after (.raise (l := [202, 314]) (.refl _ _)), fun _ => g1.raised (State.raise_rst ..), fun e => absurd e (by decide)⟩
  · by_cases h3 : n = 100000000
    · subst h3
      exact ⟨h1.after (.raise (l := [203, 314]) (.refl _ _)), fun e => absurd e h2, fun _ => g1.raised (State.raise_rst ..)⟩
    · simp only [if_neg h2, if_neg h3]
      exact ⟨h1, fun e => absurd e h2, fun e => absurd e h3⟩

theorem State.startJoin_mem (s : State) (n : Nat) {x : Nat} (hc : x < passCntAt ∨ passCntAt + 4 ≤ x)
    (hr : x < passRecAt ∨ passRecAt + 4 ≤ x) : (s.startJoin n).mb x = s.mb x :=
  (State.mwr_mb_other hr).trans (State.mwr_mb_other hc)

theorem State.startJoin_opening (s : State) (n : Nat) : s.opening (s.startJoin n) := by
  have h : s.only (((s.wr .PSW_PASS_STATE 1).wr .PSW_PASS_PENDING 0).setPsw { s.psw with swMoving := true, swOpen := 0 })
      [.PSW_PASS_STATE, .PSW_PASS_PENDING] [.ev, .psw] := (State.only.refl s _ _).wr.wr.setPsw
  exact ⟨h.1, ⟨h.2.2.1, fun p n => by have := h.2.2.2 p n; cases p <;> exact this⟩, fun x => s.startJoin_mem n⟩

theorem State.opening.andThen (h : s.opening u) (g : u.only t [] [.ev]) : s.opening t := by
  obtain ⟨hr, ⟨hp, hk⟩, hm⟩ := h
  refine ⟨fun r i j n => (g.1 r i j List.not_mem_nil).trans (hr r i j n), ⟨g.2.2.1.trans hp, fun p n => ?_⟩,
    fun x a b => (g.mb x).trans (hm x a b)⟩
  exact State.only.same_trans (hk p n) (g.same p (fun m => n (List.mem_cons.2 (.inl (List.mem_singleton.1 m)))))

theorem State.startJoin_count (s : State) {n : Nat} (h : n < 2 ^ 32) : (s.startJoin n).passCount = n :=
  (State.setPassRec_count ..).trans (State.setPassCount_count _ h)

theorem State.passCause_lt (s : State) : s.passCause < 16 := Nat.mod_lt _ (by decide)

theorem State.startJoin_cause (s : State) (n : Nat) : (s.startJoin n).passCause = s.passCause :=
  (State.setPassRec_cause ..).trans (Nat.mod_eq_of_lt s.passCause_lt)

theorem State.startJoin_state (s : State) (n : Nat) : (s.startJoin n).rd .PSW_PASS_STATE = 1 := by
  have h : (s.startJoin n).rd .PSW_PASS_STATE = ((s.wr .PSW_PASS_STATE 1).wr .PSW_PASS_PENDING 0).rd .PSW_PASS_STATE := rfl
  rw [h, State.rd_wr_ne _ _ (by decide), State.rd_wr_same]
  rfl

theorem State.startJoin_pending (s : State) (n : Nat) : (s.startJoin n).rd .PSW_PASS_PENDING = 0 := by
  have h : (s.startJoin n).rd .PSW_PASS_PENDING = ((s.wr .PSW_PASS_STATE 1).wr .PSW_PASS_PENDING 0).rd .PSW_PASS_PENDING := rfl
  rw [h, State.rd_wr_same]
  rfl

theorem State.raised.before {n : Nat} (h : u.raised t n) (hr : u.rst = s.rst) (he : u.ev = s.ev) : s.raised t n := by
  intro h5
  rw [← he]
  exact h (by unfold State.up at *; rw [hr]; exact h5)

theorem State.joinStart_joined (s : State) : s.Joined s.joinStart := by
  rw [State.joinStart_eq]
  generalize hn : min (2 ^ 32 - 1) (s.passCount + 1) = n
  have g := (s.startJoin n).tellJoin_only n
  obtain ⟨h195, h202, h203⟩ := (s.startJoin n).tellJoin_raised n
  obtain ⟨hf, hc, hk⟩ := State.samePassRecords (fun x _ => g.mb x)
  exact {
    state := (g.rd .PSW_PASS_STATE).trans (s.startJoin_state n)
    pending := (g.rd .PSW_PASS_PENDING).trans (s.startJoin_pending n)
    flag := hf.trans (State.setPassRec_flag ..)
    cause := hc.trans (s.startJoin_cause n)
    count := hk.trans ((s.startJoin_count (by omega)).trans hn.symm)
    event := h195.before rfl rfl
    warn := fun e => (h202 (hn ▸ e)).before rfl rfl
    worn := fun e => (h203 (hn ▸ e)).before rfl rfl
    lanes := fun k => by rw [State.lanePath, g.same .psw]; rfl
    frame := (s.startJoin_opening n).andThen g }

/-! ### The commands -/

/-- PASS opens: the key, OPEN without CLOSE, a pass that is not open, and nothing that keeps it closed (R325, R327). -/
def State.opens (s : State) (v : W32) (tap : TapInstr) : Bool :=
  s.up 10 && passKey v && v.toNat.testBit 8 && !v.toNat.testBit 9 &&
    !(s.rd .PSW_PASS_STATE == 1 || s.rd .PSW_PASS_STATE == 2) && (s.setTap tap).mayOpen

/-- What OPEN does on a pass that is not open (R327). -/
def State.openPass (s : State) : State :=
  if s.bit .PSW_PASS_FAULT then s.raise 198 [(1, 0)]
  else if s.bit .PSW_STAT_TOODEEP then s.raise 198 [(1, 1)]
  else match s.joinHeld with
    | some r => (s.wr .PSW_PASS_PENDING 1).raise 197 [(1, r)]
    | none => if s.rd .PSW_PASS_STATE = 0 then s.joinStart else s.wr .PSW_PASS_PENDING 1

theorem exec_passOpen (v : W32) (tap : TapInstr) (s : State) :
    exec (.passOpen v tap) s = .next (if s.opens v tap then (s.setTap tap).openPass else s.setTap tap) := rfl

theorem State.opens_iff {v : W32} {tap : TapInstr} : s.opens v tap = true ↔
    s.up 10 = true ∧ bitsN v.toNat 0 8 = 0xC3 ∧ v.toNat.testBit 8 = true ∧ v.toNat.testBit 9 = false ∧
      s.rd .PSW_PASS_STATE ≠ 1 ∧ s.rd .PSW_PASS_STATE ≠ 2 ∧ (s.setTap tap).mayOpen = true := by
  simp [State.opens, passKey, and_assoc]

theorem State.recorded_raise_self {n : Nat} {items : List (Nat × Nat)} (h : n ≠ 314) : s.recorded (s.raise n items) n items :=
  State.recorded_raise h rfl rfl rfl rfl rfl rfl

theorem State.recorded_raise_wr {n v i j : Nat} {r : Reg} {items : List (Nat × Nat)} (h : n ≠ 314)
    (hr : r ∉ [.EVC_REC_EN, .EREC_OPTIME_OPTIME, .EREC_PCYC_PCYC] := by decide) :
    s.recorded ((s.wr r v i j).raise n items) n items :=
  have ne : ∀ {q : Reg}, q ∈ [Reg.EVC_REC_EN, .EREC_OPTIME_OPTIME, .EREC_PCYC_PCYC] → q ≠ r := fun m e => hr (e ▸ m)
  State.recorded_raise (u := s.wr r v i j) h rfl rfl (State.bit_wr_ne _ _ (ne (by decide))) (State.rd_wr_ne _ _ (ne (by decide)))
    (State.rd_wr_ne _ _ (ne (by decide))) rfl

theorem State.openPass_fault (h : s.bit .PSW_PASS_FAULT = true) : s.openPass = s.raise 198 [(1, 0)] := if_pos h

theorem State.openPass_deep (h : s.bit .PSW_PASS_FAULT = false) (h' : s.bit .PSW_STAT_TOODEEP = true) :
    s.openPass = s.raise 198 [(1, 1)] := by simp [State.openPass, h, h']

theorem State.openPass_held (h : s.bit .PSW_PASS_FAULT = false) (h' : s.bit .PSW_STAT_TOODEEP = false) {r : Nat}
    (hr : s.joinHeld = some r) : s.openPass = (s.wr .PSW_PASS_PENDING 1).raise 197 [(1, r)] := by simp [State.openPass, h, h', hr]

theorem State.openPass_free (h : s.bit .PSW_PASS_FAULT = false) (h' : s.bit .PSW_STAT_TOODEEP = false) (hr : s.joinHeld = none) :
    s.openPass = if s.rd .PSW_PASS_STATE = 0 then s.joinStart else s.wr .PSW_PASS_PENDING 1 := by simp [State.openPass, h, h', hr]

theorem exec_passClose (v : W32) (s : State) : exec (.passClose v) s = .next
    (if s.up 10 && passKey v && v.toNat.testBit 9 then
      if s.rd .PSW_PASS_STATE = 1 ∨ s.rd .PSW_PASS_STATE = 2 then s.passClose 1 else s.wr .PSW_PASS_PENDING 0
     else s) := rfl

theorem passKey_iff {v : W32} : passKey v = true ↔ bitsN v.toNat 0 8 = 0xC3 := beq_iff_eq

theorem passClose_idle {v : W32} (h : s.up 10 = false ∨ bitsN v.toNat 0 8 ≠ 0xC3 ∨ v.toNat.testBit 9 = false) :
    exec (.passClose v) s = .next s := by
  rw [exec_passClose, if_neg]
  simp only [Bool.and_eq_true, passKey_iff]
  rintro ⟨⟨h1, h2⟩, h3⟩
  simp [h1, h2, h3] at h

theorem passOpen_idle {v : W32} {tap : TapInstr} (h : s.opens v tap = false) :
    exec (.passOpen v tap) s = .next (s.setTap tap) := by
  rw [exec_passOpen, h]; rfl

/-- A pending opening proceeds (R330). -/
def State.proceeds (s : State) (tap : TapInstr) : Bool :=
  s.up 10 && s.bit .PSW_PASS_PENDING && s.rd .PSW_PASS_STATE == 0 && s.joinHeld.isNone &&
    !s.bit .PSW_PASS_FAULT && !s.bit .PSW_STAT_TOODEEP && !tapTests (tapActs tap)

theorem exec_joinProceed (tap : TapInstr) (s : State) :
    exec (.joinProceed tap) s = .next (if s.proceeds tap then (s.setTap tap).joinStart else s.setTap tap) := rfl

theorem State.proceeds_iff {tap : TapInstr} : s.proceeds tap = true ↔ s.up 10 = true ∧ s.bit .PSW_PASS_PENDING = true ∧
    s.rd .PSW_PASS_STATE = 0 ∧ s.joinHeld = none ∧ s.bit .PSW_PASS_FAULT = false ∧ s.bit .PSW_STAT_TOODEEP = false ∧
    tap ≠ .boundary ∧ tap ≠ .acScan := by
  have h : tapTests tap = false ↔ tap ≠ .boundary ∧ tap ≠ .acScan := by cases tap <;> decide
  simp [State.proceeds, tapTests_tapActs, h, and_assoc]

theorem exec_joinEnChange (level : Bool) (s : State) : exec (.joinEnChange level) s = .next
    (if !level && s.bit .PSW_CFG_POLICY then (s.wrb .PSW_STAT_JOINEN level).passClose 2
     else s.wrb .PSW_STAT_JOINEN level) := rfl

theorem exec_passPositionCheck (w : W32) (s : State) : exec (.passPositionCheck w) s = .next
    (if s.rd .PSW_PASS_STATE = 1 then
      if w = 0 then (s.switchesAt (2 ^ 32 - 1)).wr .PSW_PASS_STATE 2
      else ((s.wr .PSW_PASS_FAULT 1).raise 213 [(4, w.toNat), (1, 1)]).passClose 4
     else if s.rd .PSW_PASS_STATE = 3 then
      if w = 0 then (s.switchesAt w.toNat).wr .PSW_PASS_STATE 0
      else ((((s.switchesAt w.toNat).wr .PSW_PASS_STATE 0).wr .PSW_PASS_PENDING 0).wr .PSW_PASS_FAULT 1).raise 213
        [(4, w.toNat), (1, 0)]
     else s) := rfl

theorem State.wrb_joinEn (s : State) (level : Bool) : (s.wrb .PSW_STAT_JOINEN level).bit .PSW_STAT_JOINEN = level :=
  (State.bit_wr_same ..).trans (by cases level <;> rfl)

theorem State.switchesAt_only (s : State) (n : Nat) : s.only (s.switchesAt n) [] [.psw] := (State.only.refl s _ _).setPsw

theorem State.lanePath_switchesAt (s : State) (n k : Nat) :
    (s.switchesAt n).lanePath k = if n.testBit k then .own else .through := rfl

/-- The position check that ends an opening (R328). -/
theorem passPositionCheck_opening (w : W32) (h : s.rd .PSW_PASS_STATE = 1) : ∃ t, exec (.passPositionCheck w) s = .next t ∧
    (w = 0 → t.rd .PSW_PASS_STATE = 2 ∧ (∀ k, k < 32 → t.lanePath k = .own) ∧ s.only t [.PSW_PASS_STATE] [.psw]) ∧
    (w ≠ 0 → t.rd .PSW_PASS_STATE = 3 ∧ t.rd .PSW_PASS_FAULT = 1 ∧ t.passCause = 4 ∧ t.passFlag = false ∧ s.raised t 213) := by
  rw [exec_passPositionCheck, if_pos h]
  by_cases hw : w = 0
  · rw [if_pos hw]
    refine ⟨_, rfl, fun _ => ⟨State.rd_wr_same .., fun k hk => ?_, ((s.switchesAt_only _).mono).wr⟩, fun n => absurd hw n⟩
    refine (s.lanePath_switchesAt (2 ^ 32 - 1) k).trans (if_pos ?_)
    rw [Nat.testBit_two_pow_sub_one]
    exact decide_eq_true hk
  · rw [if_neg hw]
    have g : s.Raising (213 :: [314]) ((s.wr .PSW_PASS_FAULT 1).raise 213 [(4, w.toNat), (1, 1)]) := .raise .of_eq
    have hr : s.raised ((s.wr .PSW_PASS_FAULT 1).raise 213 [(4, w.toNat), (1, 1)]) 213 := (State.Raising.of_eq (l := [])).raised
    have hs : ((s.wr .PSW_PASS_FAULT 1).raise 213 [(4, w.toNat), (1, 1)]).rd .PSW_PASS_STATE = 1 := by
      rw [State.rd_raise, State.rd_wr_ne _ _ (by decide), h]
    have hf : ((s.wr .PSW_PASS_FAULT 1).raise 213 [(4, w.toNat), (1, 1)]).rd .PSW_PASS_FAULT = 1 := by
      rw [State.rd_raise, State.rd_wr_same]; rfl
    have c := State.passClose_closed (cause := 4) (.inl hs)
    exact ⟨_, rfl, fun e => absurd e hw, fun _ => ⟨c.state, (congrArg BitVec.toNat (c.regs _ 0 0 (by decide))).trans hf, c.cause,
      c.flag, hr.after c.events⟩⟩

/-- The position check that ends a closing (R329). -/
theorem passPositionCheck_closing (w : W32) (h : s.rd .PSW_PASS_STATE = 3) : ∃ t, exec (.passPositionCheck w) s = .next t ∧
    (w = 0 → t.rd .PSW_PASS_STATE = 0 ∧ (∀ k, t.lanePath k = .through) ∧ s.only t [.PSW_PASS_STATE] [.psw]) ∧
    (w ≠ 0 → t.rd .PSW_PASS_STATE = 0 ∧ t.rd .PSW_PASS_PENDING = 0 ∧ t.rd .PSW_PASS_FAULT = 1 ∧
      s.recorded t 213 [(4, w.toNat), (1, 0)]) := by
  rw [exec_passPositionCheck, if_neg (by rw [h]; decide), if_pos h]
  by_cases hw : w = 0
  · subst hw
    rw [if_pos rfl]
    refine ⟨_, rfl, fun _ => ⟨State.rd_wr_same .., fun k => ?_, ((s.switchesAt_only _).mono).wr⟩, fun n => absurd rfl n⟩
    exact (s.lanePath_switchesAt 0 k).trans (if_neg (by simp))
  · rw [if_neg hw]
    refine ⟨_, rfl, fun e => absurd e hw, fun _ => ⟨?_, ?_, ?_, ?_⟩⟩
    · rw [State.rd_raise, State.rd_wr_ne _ _ (by decide), State.rd_wr_ne _ _ (by decide), State.rd_wr_same]; rfl
    · rw [State.rd_raise, State.rd_wr_ne _ _ (by decide), State.rd_wr_same]; rfl
    · rw [State.rd_raise, State.rd_wr_same]; rfl
    · have f : s.only ((((s.switchesAt w.toNat).wr .PSW_PASS_STATE 0).wr .PSW_PASS_PENDING 0).wr .PSW_PASS_FAULT 1)
          [.PSW_PASS_STATE, .PSW_PASS_PENDING, .PSW_PASS_FAULT] [.psw] := ((s.switchesAt_only _).mono).wr.wr.wr
      exact State.recorded_raise (u := (((s.switchesAt w.toNat).wr .PSW_PASS_STATE 0).wr .PSW_PASS_PENDING 0).wr .PSW_PASS_FAULT 1)
        (by decide) rfl rfl (f.bit .EVC_REC_EN 213) (f.rd .EREC_OPTIME_OPTIME) (f.rd .EREC_PCYC_PCYC) rfl

/-- Settles O51, a clause for each command of the pass, by what an opening and a closing do. -/
theorem thePassOpensAndClosesByItsRules : Obligations.ThePassOpensAndClosesByItsRules := by
  refine ⟨fun tap s => ⟨s.setTap_psw tap, s.setTap_only tap⟩, fun v tap s => ?_, State.joinHeld_none_iff, fun v tap s => ?_,
    State.mayOpen_iff, fun v s => ?_, fun level s => ?_, fun tap s => ?_, fun s => ?_, fun w s => ?_⟩
  · intro u hup hkey ho hc h1 h2 hmay
    refine ⟨u.openPass, ?_, fun hf => ?_, fun hf hd => ?_, fun hf hd => ⟨fun r hr => ?_, fun hj h0 => ?_, fun hj h3 => ?_⟩⟩
    · rw [exec_passOpen, if_pos (State.opens_iff.2 ⟨hup, hkey, ho, hc, h1, h2, hmay⟩)]
    · rw [State.openPass_fault (s := u) hf]
      exact ⟨State.recorded_raise_self (by decide), (State.only.refl u _ _).raise⟩
    · rw [State.openPass_deep (s := u) hf hd]
      exact ⟨State.recorded_raise_self (by decide), (State.only.refl u _ _).raise⟩
    · rw [State.openPass_held (s := u) hf hd hr]
      refine ⟨?_, State.recorded_raise_wr (by decide), (State.only.refl u _ _).wr.raise⟩
      rw [State.rd_raise, State.rd_wr_same]
      rfl
    · rw [State.openPass_free (s := u) hf hd hj, if_pos (show u.rd .PSW_PASS_STATE = 0 from h0)]
      have w := u.joinStart_joined
      exact ⟨w.state, w.pending, w.flag, w.cause, w.count, w.count, by simp [State.view, w.flag, b2n], w.event, w.warn, w.worn,
        w.lanes, w.frame⟩
    · rw [State.openPass_free (s := u) hf hd hj, if_neg (by rw [show u.rd .PSW_PASS_STATE = 3 from h3]; decide)]
      refine ⟨?_, (State.only.refl u _ _).wr⟩
      rw [State.rd_wr_same]
      rfl
  · refine ⟨fun h => ⟨passOpen_idle ?_, passClose_idle (h.imp id .inl)⟩, fun h => passOpen_idle ?_, fun h => passClose_idle (.inr (.inr h))⟩
    · rw [← Bool.not_eq_true, State.opens_iff]
      rintro ⟨hup, hkey, -⟩
      simp [hup, hkey] at h
    · rw [← Bool.not_eq_true, State.opens_iff]
      rintro ⟨-, -, ho, hc, h1, h2, hm⟩
      simp [ho, hc, h1, h2, hm] at h
  · intro hup hkey hc
    by_cases h : s.rd .PSW_PASS_STATE = 1 ∨ s.rd .PSW_PASS_STATE = 2
    · have w := s.passClose_closed (cause := 1) h
      refine ⟨s.passClose 1, ?_, w.pending, fun _ => ⟨w.state, w.flag, w.cause, w.count, w.event, w.usp, w.dsp, fun f => w.off f,
        fun k => by rw [State.lanePath, w.psw]; rfl, w.psw⟩, fun n1 n2 => absurd h (by simp [n1, n2])⟩
      rw [exec_passClose, if_pos (by simp [hup, passKey_iff.2 hkey, hc]), if_pos h]
    · refine ⟨s.wr .PSW_PASS_PENDING 0, ?_, ?_, fun h' => absurd h' h, fun _ _ => (State.only.refl s _ _).wr⟩
      · rw [exec_passClose, if_pos (by simp [hup, passKey_iff.2 hkey, hc]), if_neg h]
      · rw [State.rd_wr_same]; rfl
  · rw [exec_joinEnChange]
    have hs : (s.wrb .PSW_STAT_JOINEN level).rd .PSW_PASS_STATE = s.rd .PSW_PASS_STATE := State.rd_wr_ne _ _ (by decide)
    have frame : s.only (s.wrb .PSW_STAT_JOINEN level) [.PSW_STAT_JOINEN] [] := (State.only.refl s _ _).wrb
    by_cases h : level = true ∨ s.bit .PSW_CFG_POLICY = false ∨ (s.rd .PSW_PASS_STATE ≠ 1 ∧ s.rd .PSW_PASS_STATE ≠ 2)
    · refine ⟨s.wrb .PSW_STAT_JOINEN level, ?_, s.wrb_joinEn level, fun _ => frame, fun hl hp ho => ?_⟩
      · split
        · next hc =>
          obtain ⟨hl, hp⟩ := Bool.and_eq_true_iff.1 hc
          obtain ⟨h1, h2⟩ := (h.resolve_left (by simpa using hl)).resolve_left (by simp [hp])
          rw [State.passClose, hs, if_neg (by simp [h1, h2])]
        · rfl
      · simp [hl, hp] at h
        exact absurd ho (by simp [h])
    · obtain ⟨hl, hp, ho⟩ : level = false ∧ s.bit .PSW_CFG_POLICY = true ∧ (s.rd .PSW_PASS_STATE = 1 ∨ s.rd .PSW_PASS_STATE = 2) := by
        simpa [not_or, not_and_or, imp_iff_not_or] using h
      have w := (s.wrb .PSW_STAT_JOINEN level).passClose_closed (cause := 2) (by rwa [hs])
      refine ⟨(s.wrb .PSW_STAT_JOINEN level).passClose 2, by rw [if_pos (by simp [hl, hp])], ?_, fun h' => absurd h' h, fun _ _ _ => ?_⟩
      · exact (congrArg (fun x : Word => x.toNat != 0) (w.regs _ 0 0 (by decide))).trans (s.wrb_joinEn level)
      · exact ⟨w.state, w.flag, w.cause, w.pending, w.event⟩
  · refine ⟨fun h => ?_, fun h => ⟨(s.setTap tap).joinStart, ?_, ?_⟩⟩
    · rw [exec_joinProceed, if_neg (fun e => h (State.proceeds_iff.1 e))]
    · rw [exec_joinProceed, if_pos (State.proceeds_iff.2 h)]
    · have w := (s.setTap tap).joinStart_joined
      exact ⟨w.state, w.pending, w.flag, w.count, w.event, w.frame⟩
  · exact ⟨_, rfl, rfl, (State.only.refl s _ _).setPsw⟩
  · by_cases h1 : s.rd .PSW_PASS_STATE = 1
    · obtain ⟨t, he, hok, hbad⟩ := passPositionCheck_opening w h1
      exact ⟨t, he, fun _ => hok, fun _ => hbad, fun h => by simp [h1] at h, fun h => by simp [h1] at h, fun h => by simp [h1] at h⟩
    · by_cases h3 : s.rd .PSW_PASS_STATE = 3
      · obtain ⟨t, he, hok, hbad⟩ := passPositionCheck_closing w h3
        exact ⟨t, he, fun h => absurd h h1, fun h => absurd h h1, fun _ => hok, fun _ => hbad, fun h => by simp [h3] at h⟩
      · exact ⟨s, by rw [exec_passPositionCheck, if_neg h1, if_neg h3], fun h => absurd h h1, fun h => absurd h h1,
          fun h => absurd h h3, fun h => absurd h h3, fun _ => rfl⟩

end Sys2Proof.Machine
end

section
/-! PROOFS. Register writes (R6, R421 to R424): what a field under a write keeps and takes, what follows from its value, and what
the write leaves alone. -/

set_option Elab.async false

namespace Sys2Proof.Machine

variable {s t u : State} {k : RKey} {d n v : Nat}

/-! ### Bits of a written field -/

theorem bitsN_mod {x m lo w : Nat} (h : lo + w ≤ m) : bitsN (x % 2 ^ m) lo w = bitsN x lo w := by
  refine Nat.eq_of_testBit_eq (fun i => ?_)
  simp only [bitsN, Nat.testBit_mod_two_pow, Nat.testBit_div_two_pow]
  by_cases hi : i < w
  · simp [hi, show i + lo < m by omega]
  · simp [hi]

theorem bitsN_lt (x lo w : Nat) : bitsN x lo w < 2 ^ w := Nat.mod_lt _ (Nat.two_pow_pos w)

/-- A write that covers a field from its register's first byte on carries the field's bits. -/
theorem State.fieldOf_whole (s : State) (h : k.reg.info.lo + k.reg.info.w ≤ 8 * n) :
    s.fieldOf k 0 n v = bitsN v k.reg.info.lo k.reg.info.w := by
  unfold State.fieldOf
  dsimp only
  generalize s.rd k.reg k.i k.j * 2 ^ k.reg.info.lo = old
  have hk : old - bitsN old (8 * 0) (8 * n) * 2 ^ (8 * 0) = 2 ^ (8 * n) * (old / 2 ^ (8 * n)) := by
    have := Nat.div_add_mod old (2 ^ (8 * n))
    simp only [bitsN, Nat.mul_zero, Nat.pow_zero, Nat.div_one, Nat.mul_one]
    omega
  have hm : (2 ^ (8 * n) * (old / 2 ^ (8 * n)) + v % 2 ^ (8 * n)) % 2 ^ (8 * n) = v % 2 ^ (8 * n) := by
    rw [Nat.mul_add_mod, Nat.mod_mod]
  rw [hk, Nat.mul_zero, Nat.pow_zero, Nat.mul_one, ← bitsN_mod h, hm, bitsN_mod h]

theorem fieldOnes_whole (h : k.reg.info.lo + k.reg.info.w ≤ 8 * n) :
    fieldOnes k 0 n v = bitsN v k.reg.info.lo k.reg.info.w := by
  rw [fieldOnes, Nat.mul_zero, Nat.pow_zero, Nat.mul_one, bitsN_mod h]

theorem State.fieldOf_congr (h : u.rd k.reg k.i k.j = s.rd k.reg k.i k.j) : u.fieldOf k d n v = s.fieldOf k d n v := by
  rw [State.fieldOf, State.fieldOf, h]

/-! ### What follows from a field's new value -/

/-- The fields that what a chapter ties to another field's value may change. -/
def sideRegs : List Reg :=
  [.SPN_WP_WP, .SPN_WP_CAUSE, .SCE_STAT_SATM, .SCE_STAT_OUTWIN, .SCE_BANKSEL_PENDING, .HSE_STAT_GATES, .DMA_CHSTAT_GUARDW,
   .CHAN_STAT_ENA, .OCE_STAT_CTXWR]

/-- The parts that a register write may change. -/
def sideParts : List Part := [.ev, .erec, .arms, .hif, .chans, .dma, .med, .out]

/-- What the module has sent outside stays sent. -/
def State.Sends (s t : State) : Prop := ∃ l, t.out = s.out ++ l

theorem State.Sends.refl (s : State) : s.Sends s := ⟨[], (List.append_nil _).symm⟩

theorem State.Sends.of_eq (h : t.out = s.out) : s.Sends t := ⟨[], by rw [h, List.append_nil]⟩

theorem State.Sends.trans (h : s.Sends u) (g : u.Sends t) : s.Sends t := by
  obtain ⟨l, hl⟩ := h
  obtain ⟨m, hm⟩ := g
  exact ⟨l ++ m, by rw [hm, hl, List.append_assoc]⟩

theorem State.Sends.take (h : s.Sends t) : t.out.take s.out.length = s.out := by
  obtain ⟨l, hl⟩ := h
  rw [hl, List.take_left']
  rfl

/-- What a register write may change beside its own field. -/
structure State.Side (s t : State) : Prop where
  only : s.only t sideRegs sideParts
  sends : s.Sends t

namespace State.Side

theorem refl (s : State) : s.Side s := ⟨.refl _ _ _, .refl s⟩

theorem trans (h : s.Side u) (g : u.Side t) : s.Side t := ⟨h.only.trans g.only, h.sends.trans g.sends⟩

theorem silent {R : List Reg} {P : List Part} (h : s.only t R P) (hR : R ⊆ sideRegs := by decide) (hP : P ⊆ sideParts := by decide)
    (ho : .out ∉ P := by decide) : s.Side t :=
  ⟨h.mono hR hP, .of_eq (h.same .out ho)⟩

theorem ite {c : Prop} {i : Decidable c} {a b : State} (ha : s.Side a) (hb : s.Side b) : s.Side (if c then a else b) := by
  split <;> assumption

theorem foldl {α : Type} {f : State → α → State} {l : List α} (hf : ∀ (v : State) (a : α), v.Side (f v a)) : u.Side (l.foldl f u) := by
  induction l generalizing u with
  | nil => exact .refl u
  | cons a l ih => exact (hf u a).trans ih

end State.Side

theorem State.stopMicro_side (s : State) (a p : Nat) : s.Side (s.stopMicro a p) := by
  refine ⟨?_, ?_⟩
  · exact .wrBit (.wrBit (.ite (State.only.refl s _ _).setArms (State.only.refl s _ _).setArms.emit))
  · unfold State.stopMicro State.Sends
    dsimp only [State.wrBit, State.wr_out]
    split
    · exact ⟨[], (List.append_nil _).symm⟩
    · exact ⟨_, rfl⟩

theorem State.fairCheck_only (s : State) : s.only s.fairCheck [] [.hif, .ev] :=
  have h := State.only.refl s _ _
  .ite h (.ite h.setHif.raise h.setHif.raise)

theorem State.lanesAsk_only (s : State) : s.only s.lanesAsk [] [.dma] :=
  .foldl (fun _ _ h => .ite h.setDma h) (.refl _ _ _)

theorem State.guardNow_only (s : State) (c : Nat) : s.only (s.guardNow c) [.DMA_CHSTAT_GUARDW] [.dma] :=
  have h := State.only.refl s _ _
  .ite h.wrb h.wrb.setDma

theorem State.spill_only (s : State) (l : List (List Byte)) : s.only (s.spill l) [] [.med] :=
  have h : s.only (s.setMed { s.med with held := [] }) [] [.med] := (State.only.refl s _ _).setMed
  .ite (.foldl (fun _ _ h => h.setMed) h) (State.only.refl s _ _).setMed

/-- What the chapters tie to a field's new value stays beside the field, but where the pass closes. -/
theorem State.fieldEffect_side (s : State) (k : RKey) (old : Nat) (h : k.reg ≠ .PSW_CFG_POLICY) : s.Side (s.fieldEffect k old) := by
  have hs := State.only.refl s
  unfold State.fieldEffect
  split
  · exact .silent s.updWp_only
  · next e => exact absurd e h
  · exact State.Side.trans (.foldl (fun v p => .ite (v.stopMicro_side _ _) (.refl v)))
      (.silent (R := [.SCE_BANKSEL_PENDING]) (P := []) (State.only.refl _ _ _).wrb)
  · exact .ite (.ite (.silent (R := [.HSE_STAT_GATES]) (P := []) (hs _ _).wrBit) (.refl s)) (.refl s)
  · exact .ite (.silent s.fairCheck_only) (.refl s)
  · exact .silent s.lanesAsk_only
  · exact .silent (s.guardNow_only _)
  · exact .silent (s.guardNow_only _)
  · exact .silent ((s.spill_only _).mono (R' := []) (P' := [.med, .erec])).setErec
  · exact .ite (.refl s) (.silent (s.spill_only _))
  · exact .ite (.refl s) (.silent (R := [.CHAN_STAT_ENA]) (P := [.chans]) (hs _ _).wr.setChans)
  · exact .refl s

/-! ### One field under a write -/

/-- The fields that tell whether another field is shut: no write of firmware changes them. -/
def shutRegs : List Reg := [.BUF_CTL_PLOCK, .DMA_CHSTAT_STATE, .GCTX_MODE, .OCE_RES_BUSY]

/-- Between s and t only the fields of K have been written, and what the chapters tie to them has changed. -/
structure State.Writes (K : RKey → Prop) (s t : State) : Prop where
  regs : ∀ r i j, ¬ K ⟨r, i, j⟩ → r ∉ sideRegs → t.rdW r i j = s.rdW r i j
  shut : ∀ r i j, r ∈ shutRegs → t.rdW r i j = s.rdW r i j
  mem : s.memSame t
  keeps : s.keeps t sideParts
  sends : s.Sends t

namespace State.Writes

variable {K L : RKey → Prop}

theorem of_side (h : s.Side t) : s.Writes K t :=
  ⟨fun r i j _ n => h.only.1 r i j n, fun r i j m => h.only.1 r i j (by revert r; decide), h.only.2.1, h.only.2.2, h.sends⟩

theorem refl (s : State) : s.Writes K s := .of_side (.refl s)

theorem trans (h : s.Writes K u) (g : u.Writes K t) : s.Writes K t :=
  ⟨fun r i j n m => (g.regs r i j n m).trans (h.regs r i j n m), fun r i j m => (g.shut r i j m).trans (h.shut r i j m),
    fun a => (g.mem a).trans (h.mem a),
    ⟨g.keeps.1.trans h.keeps.1, fun p n => State.only.same_trans (h.keeps.2 p n) (g.keeps.2 p n)⟩, h.sends.trans g.sends⟩

theorem mono (h : s.Writes K t) (hK : ∀ q, K q → L q) : s.Writes L t :=
  ⟨fun r i j n m => h.regs r i j (fun e => n (hK _ e)) m, h.shut, h.mem, h.keeps, h.sends⟩

theorem rst (h : s.Writes K t) : t.rst = s.rst := h.keeps.2 .rst (by decide)

theorem wr {x : Nat} (hr : k.reg ∉ shutRegs) : s.Writes (· = k) (s.wr k.reg x k.i k.j) :=
  ⟨fun _ _ _ n _ => State.rdW_wr_key s x n, fun _ _ _ m => State.rdW_wr_ne s x (fun e => hr (e ▸ m)), fun _ => rfl,
    ⟨rfl, fun p _ => by cases p <;> rfl⟩, .refl s⟩

theorem foldl {α : Type} {f : State → α → State} {l : List α} (hf : ∀ a ∈ l, ∀ v : State, v.Writes K (f v a)) :
    u.Writes K (l.foldl f u) := by
  induction l generalizing u with
  | nil => exact .refl u
  | cons a l ih => exact (hf a List.mem_cons_self u).trans (ih (fun b m => hf b (List.mem_cons_of_mem _ m)))

end State.Writes

theorem State.shutMark_side (s : State) (k : RKey) : s.Side (s.shutMark k) := by
  unfold State.shutMark
  split <;> first | exact .refl s | exact .silent (R := [.OCE_STAT_CTXWR]) (P := []) (State.only.refl _ _ _).wr

theorem State.storeField_writes (s : State) (x : Nat) (hr : k.reg ∉ shutRegs) : s.Writes (· = k) (s.storeField k x) := by
  unfold State.storeField
  split
  · exact .of_side (s.shutMark_side k)
  · exact .wr hr

/-- The access code lets firmware write the field now: RW, or RWL before the lock (R6). -/
def State.opensField (s : State) (k : RKey) : Prop := k.reg.info.acc = .RW ∨ (k.reg.info.acc = .RWL ∧ s.rst.locked = false)

theorem State.writeField_ro (h : k.reg.info.acc = .RO ∨ k.reg.info.acc = .WO) : s.writeField k d n v = s := by
  unfold State.writeField
  rcases h with h | h <;> simp only [h]

theorem State.writeField_locked (h : k.reg.info.acc = .RWL) (hl : s.rst.locked = true) : s.writeField k d n v = s := by
  simp only [State.writeField, h, hl, Bool.true_or, if_true]

theorem State.writeField_row (h : hasRow k.reg (s.fieldOf k d n v) = true) : s.writeField k d n v = s := by
  unfold State.writeField
  split <;> simp [h]

theorem State.writeField_open (h : s.opensField k) (hr : hasRow k.reg (s.fieldOf k d n v) = false) :
    s.writeField k d n v = (s.storeField k (s.fieldOf k d n v)).fieldEffect k (s.rd k.reg k.i k.j) := by
  rcases h with h | ⟨h, hl⟩
  · simp only [State.writeField, h, hr, Bool.false_eq_true, if_false]
  · simp only [State.writeField, h, hl, hr, Bool.or_self, Bool.false_eq_true, if_false]

theorem State.writeField_w1c (h : k.reg.info.acc = .W1C) (hr : hasRow k.reg (s.fieldOf k d n v) = false) :
    s.writeField k d n v = (s.wr k.reg (Nat.xor (s.rd k.reg k.i k.j) (Nat.land (s.rd k.reg k.i k.j)
      (clears k.reg (fieldOnes k d n v)))) k.i k.j).fieldEffect k (s.rd k.reg k.i k.j) := by
  simp only [State.writeField, h, hr, Bool.false_eq_true, if_false]

/-- The five ways of a field under a write. -/
theorem State.writeField_cases (s : State) (k : RKey) (d n v : Nat) : s.writeField k d n v = s ∨
    (s.opensField k ∧ hasRow k.reg (s.fieldOf k d n v) = false) ∨
    (k.reg.info.acc = .W1C ∧ hasRow k.reg (s.fieldOf k d n v) = false) := by
  by_cases hr : hasRow k.reg (s.fieldOf k d n v) = true
  · exact .inl (State.writeField_row hr)
  · rw [Bool.not_eq_true] at hr
    cases h : k.reg.info.acc
    case RW => exact .inr (.inl ⟨.inl h, hr⟩)
    case RWL =>
      by_cases hl : s.rst.locked = true
      · exact .inl (State.writeField_locked h hl)
      · exact .inr (.inl ⟨.inr ⟨h, by simpa using hl⟩, hr⟩)
    case W1C => exact .inr (.inr ⟨rfl, hr⟩)
    case RO => exact .inl (State.writeField_ro (.inl h))
    case WO => exact .inl (State.writeField_ro (.inr h))

theorem shutRegs_row {r : Reg} (h : r ∈ shutRegs) : (r.info.acc = .RO ∨ ∀ x, hasRow r x = true) := by
  simp only [shutRegs, List.mem_cons, List.not_mem_nil, or_false] at h
  rcases h with rfl | rfl | rfl | rfl
  · exact .inr (fun _ => rfl)
  · exact .inl rfl
  · exact .inl rfl
  · exact .inl rfl

theorem State.writeField_shutRegs (h : k.reg ∈ shutRegs) : s.writeField k d n v = s :=
  (shutRegs_row h).elim (fun e => State.writeField_ro (.inl e)) (fun e => State.writeField_row (e _))

/-- The one field whose value can close the pass is written nowhere here. -/
theorem State.writeField_writes (s : State) (h : k.reg ≠ .PSW_CFG_POLICY) : s.Writes (· = k) (s.writeField k d n v) := by
  by_cases hs : k.reg ∈ shutRegs
  · rw [State.writeField_shutRegs hs]; exact .refl s
  · rcases s.writeField_cases k d n v with e | ⟨ho, hr⟩ | ⟨ha, hr⟩
    · rw [e]; exact .refl s
    · rw [State.writeField_open ho hr]
      exact (s.storeField_writes _ hs).trans (.of_side (State.fieldEffect_side _ k _ h))
    · rw [State.writeField_w1c ha hr]
      exact (State.Writes.wr hs).trans (.of_side (State.fieldEffect_side _ k _ h))

/-! ### The value a field takes -/

/-- What the write leaves in the field, by its access code (Table 0-3). -/
structure State.Written (s t : State) (k : RKey) (d n v : Nat) : Prop where
  ro : k.reg.info.acc = .RO ∨ k.reg.info.acc = .WO → t.rd k.reg k.i k.j = s.rd k.reg k.i k.j
  locked : k.reg.info.acc = .RWL → s.rst.locked = true → t.rd k.reg k.i k.j = s.rd k.reg k.i k.j
  left : s.opensField k → hasRow k.reg (s.fieldOf k d n v) = true ∨ s.shut k = true → t.rd k.reg k.i k.j = s.rd k.reg k.i k.j
  taken : s.opensField k → hasRow k.reg (s.fieldOf k d n v) = false → s.shut k = false →
    t.rd k.reg k.i k.j = fieldKeeps k.reg (s.fieldOf k d n v % 2 ^ k.reg.info.w) % 2 ^ k.reg.info.w
  cleared : k.reg.info.acc = .W1C → hasRow k.reg (s.fieldOf k d n v) = false → ∀ b, b < k.reg.info.w →
    (t.rd k.reg k.i k.j).testBit b =
      ((s.rd k.reg k.i k.j).testBit b && !(clears k.reg (fieldOnes k d n v)).testBit b)

theorem State.Side.rd (h : s.Side t) (hk : k.reg ∉ sideRegs) : t.rd k.reg k.i k.j = s.rd k.reg k.i k.j :=
  h.only.rd _ _ _ hk

theorem testBit_cleared (old c w b : Nat) (h : b < w) :
    (Nat.xor old (Nat.land old c) % 2 ^ w).testBit b = (old.testBit b && !c.testBit b) := by
  have : Nat.xor old (Nat.land old c) = old ^^^ (old &&& c) := rfl
  rw [this, Nat.testBit_mod_two_pow, Nat.testBit_xor, Nat.testBit_and]
  cases old.testBit b <;> cases c.testBit b <;> simp [h]

theorem State.writeField_written (s : State) (hs : k.reg ∉ sideRegs) (h : k.reg ≠ .PSW_CFG_POLICY) :
    s.Written (s.writeField k d n v) k d n v where
  ro ha := by rw [State.writeField_ro ha]
  locked ha hl := by rw [State.writeField_locked ha hl]
  left ho hl := by
    by_cases hr : hasRow k.reg (s.fieldOf k d n v) = true
    · rw [State.writeField_row hr]
    · rw [State.writeField_open ho (by simpa using hr), (State.fieldEffect_side _ k _ h).rd hs, State.storeField,
        if_pos (hl.resolve_left hr)]
      exact (s.shutMark_side k).rd hs
  taken ho hr hl := by
    rw [State.writeField_open ho hr, (State.fieldEffect_side _ k _ h).rd hs, State.storeField, if_neg (by simp [hl]), State.rd_wr_same]
  cleared ha hr b hb := by
    rw [State.writeField_w1c ha hr, (State.fieldEffect_side _ k _ h).rd hs, State.rd_wr_same, testBit_cleared _ _ _ _ hb]

theorem State.shut_congr (h : ∀ r i j, r ∈ shutRegs → u.rdW r i j = s.rdW r i j) (k : RKey) : u.shut k = s.shut k := by
  have hrd : ∀ {r i j}, r ∈ shutRegs → u.rd r i j = s.rd r i j := fun m => congrArg BitVec.toNat (h _ _ _ m)
  have h1 : u.bit .BUF_CTL_PLOCK = s.bit .BUF_CTL_PLOCK := congrArg (· != 0) (hrd (by decide))
  have h2 : u.bit .OCE_RES_BUSY = s.bit .OCE_RES_BUSY := congrArg (· != 0) (hrd (by decide))
  have h3 : u.rd .DMA_CHSTAT_STATE k.i = s.rd .DMA_CHSTAT_STATE k.i := hrd (by decide)
  have h4 : u.rd .GCTX_MODE k.i = s.rd .GCTX_MODE k.i := hrd (by decide)
  unfold State.shut
  rw [h1, h2, h3, h4]

theorem State.Written.congr {u' : State} (h : u.Written u' k d n v) (hk : u.rd k.reg k.i k.j = s.rd k.reg k.i k.j)
    (hr : u.rst = s.rst) (hs : u.shut k = s.shut k) (ht : t.rd k.reg k.i k.j = u'.rd k.reg k.i k.j) : s.Written t k d n v := by
  obtain ⟨ro, locked, left, taken, cleared⟩ := h
  have hf : u.fieldOf k d n v = s.fieldOf k d n v := State.fieldOf_congr hk
  have ho : s.opensField k → u.opensField k := fun o => by rwa [State.opensField, hr]
  exact ⟨fun e => ht.trans ((ro e).trans hk), fun e l => ht.trans ((locked e (hr ▸ l)).trans hk),
    fun o l => ht.trans ((left (ho o) (by rwa [hf, hs])).trans hk),
    fun o r l => ht.trans ((taken (ho o) (by rwa [hf]) (by rwa [hs])).trans (by rw [hf])),
    fun a r b hb => by rw [ht, cleared a (by rwa [hf]) b hb, hk]⟩

/-! ### A register under a write -/

theorem State.writeFields_writes {l : List (RKey × Nat)} (hp : ∀ f ∈ l, f.1.reg ≠ .PSW_CFG_POLICY) :
    s.Writes (fun q => ∃ d, (q, d) ∈ l) (l.foldl (fun s f => s.writeField f.1 f.2 n v) s) :=
  .foldl (fun f m v => (v.writeField_writes (hp f m)).mono (fun _ e => ⟨f.2, e ▸ m⟩))

theorem State.writeFields_written {l : List (RKey × Nat)} (hn : (l.map Prod.fst).Nodup)
    (hp : ∀ f ∈ l, f.1.reg ≠ .PSW_CFG_POLICY) (hm : (k, d) ∈ l) (hs : k.reg ∉ sideRegs) :
    s.Written (l.foldl (fun s f => s.writeField f.1 f.2 n v) s) k d n v := by
  obtain ⟨l1, l2, rfl⟩ := List.append_of_mem hm
  simp only [List.map_append, List.map_cons] at hn
  have hk1 : ∀ d, (k, d) ∉ l1 := fun d m =>
    (List.nodup_append.1 hn).2.2 k (List.mem_map.2 ⟨_, m, rfl⟩) k List.mem_cons_self rfl
  have hk2 : ∀ d, (k, d) ∉ l2 := fun d m => (List.nodup_cons.1 (List.nodup_append.1 hn).2.1).1 (List.mem_map.2 ⟨_, m, rfl⟩)
  rw [List.foldl_append, List.foldl_cons]
  have w1 : s.Writes (fun q => ∃ d, (q, d) ∈ l1) (l1.foldl (fun s f => s.writeField f.1 f.2 n v) s) :=
    State.writeFields_writes (fun f m => hp f (List.mem_append_left _ m))
  generalize l1.foldl (fun s f => s.writeField f.1 f.2 n v) s = u at *
  have w2 : (u.writeField k d n v).Writes (fun q => ∃ d, (q, d) ∈ l2) _ :=
    State.writeFields_writes (n := n) (v := v) (fun f m => hp f (List.mem_append_right _ (List.mem_cons_of_mem _ m)))
  exact (u.writeField_written hs (hp _ hm)).congr (congrArg BitVec.toNat (w1.regs _ _ _ (fun ⟨d, m⟩ => hk1 d m) hs)) w1.rst
    (State.shut_congr w1.shut k) (congrArg BitVec.toNat (w2.regs _ _ _ (fun ⟨d, m⟩ => hk2 d m) hs))

/-! ### The fields at an address -/

theorem regAt_reg {r : Reg} {a : Nat} {f : RKey × Nat} (h : regAt r a = some f) : f.1.reg = r := by
  simp only [regAt, Option.ite_none_left_eq_some, Option.ite_none_right_eq_some, Option.some.injEq] at h
  obtain ⟨-, -, rfl⟩ := h
  rfl

theorem Blk.regs_nodup (b : Blk) : b.regs.Nodup := by cases b <;> decide

theorem keys_nodup {l : List Reg} {a : Nat} (h : l.Nodup) : ((l.filterMap (fun r => regAt r a)).map Prod.fst).Nodup := by
  induction l with
  | nil => exact List.nodup_nil
  | cons r l ih =>
    obtain ⟨hr, hl⟩ := List.nodup_cons.1 h
    rw [List.filterMap_cons]
    cases e : regAt r a with
    | none => exact ih hl
    | some f =>
      refine List.nodup_cons.2 ⟨fun m => ?_, ih hl⟩
      obtain ⟨g, hg, hk⟩ := List.mem_map.1 m
      obtain ⟨q, hq, hqa⟩ := List.mem_filterMap.1 hg
      exact hr (by rwa [← regAt_reg e, ← hk, regAt_reg hqa])

theorem fieldsAt_nodup (a : Nat) : ((fieldsAt a).map Prod.fst).Nodup := by
  unfold fieldsAt
  split
  · exact List.nodup_nil
  · exact keys_nodup (Blk.regs_nodup _)

/-- POLICY lies at the first word of the pass's window. -/
theorem policy_at {a : Nat} {f : RKey × Nat} (h : f ∈ fieldsAt a) (hf : f.1.reg = .PSW_CFG_POLICY) (ha : a % 4 = 0) :
    a = 0x11000000 := by
  unfold fieldsAt at h
  split at h
  · cases h
  · obtain ⟨r, -, hr⟩ := List.mem_filterMap.1 h
    obtain rfl : r = .PSW_CFG_POLICY := (regAt_reg hr).symm.trans hf
    simp only [regAt, Option.ite_none_left_eq_some, Option.ite_none_right_eq_some] at hr
    obtain ⟨ho, ⟨-, -, hd⟩, -⟩ := hr
    have hlow : ¬ a < 0x11000000 := ho
    have hhigh : a - 0x11000000 - 0 * 0 - 0 * 0 < 4 := hd
    omega

end Sys2Proof.Machine
end

section
/-! PROOFS. Register addresses (R418 to R421): which register's fields an address names. -/

set_option Elab.async false

namespace Sys2Proof

theorem Blk.mem_all (b : Blk) : b ∈ Blk.all := by cases b <;> decide

theorem Blk.apart : ∀ b ∈ Blk.all, ∀ c ∈ Blk.all, b ≠ c → b.base + b.span ≤ c.base ∨ c.base + c.span ≤ b.base := by decide

def RegInfo.start (f : RegInfo) : Nat := f.blk.base + f.off

def RegInfo.bytes (f : RegInfo) : Nat := if f.wide then 8 else 4

/-- Just past the last register of the field's array. -/
def RegInfo.stop (f : RegInfo) : Nat := f.start + f.s1 * (f.n1 - 1) + f.s2 * (f.n2 - 1) + f.bytes

end Sys2Proof

namespace Sys2Proof.Machine

variable {s t u : State}

/-! ### Blocks -/

theorem blkAt_eq {b : Blk} {a : Nat} (h : b.base ≤ a) (h' : a < b.base + b.span) : blkAt a = some b := by
  have hs : (blkAt a).isSome = true := List.find?_isSome.2 ⟨b, b.mem_all, by simp [h, h']⟩
  obtain ⟨c, hc⟩ := Option.isSome_iff_exists.1 hs
  have hp := List.find?_some hc
  simp only [Bool.and_eq_true, decide_eq_true_eq] at hp
  by_cases e : b = c
  · rw [hc, e]
  · have := Blk.apart b b.mem_all c c.mem_all e
    omega

/-- A block that no soft reset of Table 2-6 selects, without a window memory at the address. -/
theorem State.softBusy_false (s : State) {b : Blk} {a : Nat} (h : blkAt a = some b) (hb : b ∉ [.HSE, .CHAN, .SCE, .OCE, .FRC, .DMA]) :
    s.softBusy a = false := by
  unfold State.softBusy
  rw [h]
  cases s.rst.soft with
  | none => rfl
  | some sel => cases b <;> first | exact absurd (by decide) hb | rfl

theorem State.softBusy_none {a : Nat} (h : s.rst.soft = none) : s.softBusy a = false := by
  unfold State.softBusy
  rw [h]

theorem winMem_none {b : Blk} {a : Nat} (h : blkAt a = some b) (hb : b ∉ [.HSE, .CHAN, .SCE, .HIF, .PSW]) : winMem a = none := by
  unfold winMem
  rw [h]
  cases b <;> first | exact absurd (by decide) hb | rfl

/-! ### Registers -/

/-- An address that names a field lies in the field's array. -/
theorem regAt_spec {r : Reg} {a : Nat} {f : RKey × Nat} (h : regAt r a = some f) :
    a = r.info.start + r.info.s1 * f.1.i + r.info.s2 * f.1.j + f.2 ∧ f.1.i < r.info.n1 ∧ f.1.j < r.info.n2 ∧ f.2 < r.info.bytes := by
  simp only [regAt, Option.ite_none_left_eq_some, Option.ite_none_right_eq_some, Option.some.injEq] at h
  obtain ⟨ho, ⟨hi, hj, hd⟩, rfl⟩ := h
  refine ⟨?_, hi, hj, hd⟩
  unfold RegInfo.start
  dsimp only
  generalize r.info.blk.base + r.info.off = o at *
  generalize r.info.s1 = s1 at *
  generalize r.info.s2 = s2 at *
  have h1 : s1 * (if s1 = 0 then 0 else (a - o) / s1) ≤ a - o := by
    split
    · simp
    · exact Nat.mul_div_le _ _
  generalize s1 * (if s1 = 0 then 0 else (a - o) / s1) = x at *
  have h2 : s2 * (if s2 = 0 then 0 else (a - o - x) / s2) ≤ a - o - x := by
    split
    · simp
    · exact Nat.mul_div_le _ _
  omega

theorem regAt_none {r : Reg} {a : Nat} (h : a < r.info.start ∨ r.info.stop ≤ a) : regAt r a = none := by
  by_contra hn
  obtain ⟨f, hf⟩ := Option.ne_none_iff_exists'.1 hn
  obtain ⟨ha, hi, hj, hd⟩ := regAt_spec hf
  have h1 : r.info.s1 * f.1.i ≤ r.info.s1 * (r.info.n1 - 1) := Nat.mul_le_mul_left _ (by omega)
  have h2 : r.info.s2 * f.1.j ≤ r.info.s2 * (r.info.n2 - 1) := Nat.mul_le_mul_left _ (by omega)
  rw [RegInfo.stop] at h
  omega

/-- The address of a register of the array names its field. -/
theorem regAt_some {r : Reg} {i j : Nat} (hi : i < r.info.n1) (hj : j < r.info.n2) (h1 : r.info.s1 = 0 → i = 0)
    (h2 : r.info.s2 = 0 → j = 0) (h3 : r.info.s1 ≠ 0 → r.info.s2 * j < r.info.s1) :
    regAt r (r.info.start + r.info.s1 * i + r.info.s2 * j) = some (⟨r, i, j⟩, 0) := by
  have ha : r.info.start + r.info.s1 * i + r.info.s2 * j - r.info.start = r.info.s1 * i + r.info.s2 * j := by omega
  have hn : ¬ r.info.start + r.info.s1 * i + r.info.s2 * j < r.info.start := by omega
  have hd : 0 < if r.info.wide then 8 else 4 := by split <;> decide
  have ei : (if r.info.s1 = 0 then 0 else (r.info.s1 * i + r.info.s2 * j) / r.info.s1) = i := by
    split
    · next e => exact (h1 e).symm
    · next e => rw [Nat.mul_add_div (Nat.pos_of_ne_zero e), Nat.div_eq_of_lt (h3 e), Nat.add_zero]
  have ej : (if r.info.s2 = 0 then 0 else r.info.s2 * j / r.info.s2) = j := by
    split
    · next e => exact (h2 e).symm
    · next e => exact Nat.mul_div_cancel_left j (Nat.pos_of_ne_zero e)
  unfold RegInfo.start at *
  simp only [regAt, ha, ei, ej, Nat.add_sub_cancel_left, Nat.sub_self, if_neg hn, if_pos (And.intro hi (And.intro hj hd))]

theorem filterMap_single {l : List Reg} {a : Nat} {r : Reg} {f : RKey × Nat} (hn : l.Nodup) (hr : r ∈ l) (hf : regAt r a = some f)
    (ho : ∀ q ∈ l, q ≠ r → regAt q a = none) : l.filterMap (fun q => regAt q a) = [f] := by
  obtain ⟨l1, l2, rfl⟩ := List.append_of_mem hr
  have n1 : r ∉ l1 := fun m => (List.nodup_append.1 hn).2.2 r m r List.mem_cons_self rfl
  have n2 : r ∉ l2 := (List.nodup_cons.1 (List.nodup_append.1 hn).2.1).1
  have e1 : l1.filterMap (fun q => regAt q a) = [] :=
    List.filterMap_eq_nil_iff.2 (fun q m => ho q (by simp [m]) (fun e => n1 (e ▸ m)))
  have e2 : l2.filterMap (fun q => regAt q a) = [] :=
    List.filterMap_eq_nil_iff.2 (fun q m => ho q (by simp [m]) (fun e => n2 (e ▸ m)))
  rw [List.filterMap_append, List.filterMap_cons, hf, e1, e2]
  rfl

theorem fieldsAt_single {b : Blk} {a : Nat} {r : Reg} {f : RKey × Nat} (hb : blkAt a = some b) (hr : r ∈ b.regs)
    (hf : regAt r a = some f) (ho : ∀ q ∈ b.regs, q ≠ r → regAt q a = none) : fieldsAt a = [f] := by
  rw [fieldsAt, hb]
  exact filterMap_single (Blk.regs_nodup b) hr hf ho

/-! ### The event controller's registers -/

theorem evc_at {a : Nat} (h : 0x10020000 ≤ a) (h' : a < 0x10030000) : blkAt a = some .EVC := blkAt_eq (b := .EVC) h h'

/-- The fields of the event controller but r lie outside the addresses from lo to hi. -/
def evcApart (r : Reg) (lo hi : Nat) : Prop := ∀ q ∈ Blk.regs .EVC, q ≠ r → hi ≤ q.info.start ∨ q.info.stop ≤ lo

theorem fieldsAt_evc {r : Reg} {lo hi a i j : Nat} (h : evcApart r lo hi) (hlo : lo ≤ a) (hhi : a < hi) (h0 : 0x10020000 ≤ a)
    (h1 : a < 0x10030000) (hr : r ∈ Blk.regs .EVC) (ha : regAt r a = some (⟨r, i, j⟩, 0)) : fieldsAt a = [(⟨r, i, j⟩, 0)] :=
  fieldsAt_single (evc_at h0 h1) hr ha (fun q hq n => regAt_none ((h q hq n).imp (fun e => by omega) (fun e => by omega)))

theorem fieldsAt_prio {k : Nat} (hk : k < 512) : fieldsAt (0x10022000 + 4 * k) = [(⟨.EVC_PRIO_PRIO, k, 0⟩, 0)] :=
  fieldsAt_evc (lo := 0x10022000) (hi := 0x10022800) (by unfold evcApart; decide) (by omega) (by omega) (by omega) (by omega) (by decide)
    (regAt_some (r := .EVC_PRIO_PRIO) (i := k) (j := 0) hk Nat.one_pos nofun (fun _ => rfl) (fun _ => by decide))

theorem fieldsAt_ie {c w : Nat} (hc : c < 8) (hw : w < 16) :
    fieldsAt (0x10024000 + 0x40 * c + 4 * w) = [(⟨.EVC_IE_IE, c, w⟩, 0)] :=
  fieldsAt_evc (lo := 0x10024000) (hi := 0x10024200) (by unfold evcApart; decide) (by omega) (by omega) (by omega) (by omega) (by decide)
    (regAt_some (r := .EVC_IE_IE) (i := c) (j := w) hc hw nofun nofun (fun _ => show 4 * w < 0x40 by omega))

theorem fieldsAt_mtimecmp {c : Nat} (hc : c < 8) : fieldsAt (0x10021040 + 8 * c) = [(⟨.EVC_MTIMECMP_CMP, c, 0⟩, 0)] :=
  fieldsAt_evc (lo := 0x10021040) (hi := 0x10021080) (by unfold evcApart; decide) (by omega) (by omega) (by omega) (by omega) (by decide)
    (regAt_some (r := .EVC_MTIMECMP_CMP) (i := c) (j := 0) hc Nat.one_pos nofun (fun _ => rfl) (fun _ => by decide))

/-- A hart's threshold stands before its claim register in one array of 16-byte entries. -/
theorem claim_apart {r : Reg} {c : Nat} (hr : r.info.start = 0x10025004) (h1 : r.info.s1 = 0x10) (h2 : r.info.s2 = 0)
    (hb : r.info.bytes = 4) : regAt r (0x10025000 + 0x10 * c) = none := by
  by_contra hn
  obtain ⟨f, hf⟩ := Option.ne_none_iff_exists'.1 hn
  obtain ⟨ha, -, -, hd⟩ := regAt_spec hf
  rw [hr, h1, h2] at ha
  omega

theorem thr_apart : ∀ q ∈ Blk.regs .EVC, q ≠ .EVC_THR_THR → (0x10025080 ≤ q.info.start ∨ q.info.stop ≤ 0x10025000) ∨
    (q.info.start = 0x10025004 ∧ q.info.s1 = 0x10 ∧ q.info.s2 = 0 ∧ q.info.bytes = 4) := by decide

theorem fieldsAt_thr {c : Nat} (hc : c < 8) : fieldsAt (0x10025000 + 0x10 * c) = [(⟨.EVC_THR_THR, c, 0⟩, 0)] := by
  refine fieldsAt_single (r := .EVC_THR_THR) (evc_at (by omega) (by omega)) (by decide)
    (regAt_some (r := .EVC_THR_THR) (i := c) (j := 0) hc Nat.one_pos nofun (fun _ => rfl) (fun _ => by decide)) (fun q hq n => ?_)
  rcases thr_apart q hq n with h | ⟨h0, h1, h2, h3⟩
  · exact regAt_none (h.imp (fun e => by omega) (fun e => by omega))
  · exact claim_apart h0 h1 h2 h3

theorem fieldsAt_pend {w : Nat} (hw : w < 16) : fieldsAt (0x10023000 + 4 * w) = [(⟨.EVC_PEND_PEND, w, 0⟩, 0)] :=
  fieldsAt_evc (lo := 0x10023000) (hi := 0x10023040) (by unfold evcApart; decide) (by omega) (by omega) (by omega) (by omega) (by decide)
    (regAt_some (r := .EVC_PEND_PEND) (i := w) (j := 0) hw Nat.one_pos nofun (fun _ => rfl) (fun _ => by decide))

end Sys2Proof.Machine
end

section
/-! PROOFS. The obligation on register writes. -/

set_option Elab.async false

namespace Sys2Proof.Machine

variable {s t u : State} {a n v : Nat} {k : RKey} {d : Nat}

/-- The bytes of an access. -/
def accBytes (wide : Bool) : Nat := if wide then 8 else 4

theorem exec_registerWrite (a : Nat) (wide : Bool) (v : Word) (s : State) : exec (.registerWrite a wide v) s = .next
    (if s.up 5 && (blkAt a).isSome && a % accBytes wide == 0 && widthOk a (accBytes wide) then s.plainWrite a (accBytes wide) v.toNat
     else s) := rfl

theorem exec_registerWrite_runs {wide : Bool} {v : Word} (hup : s.up 5 = true) (hb : (blkAt a).isSome = true)
    (ha : a % accBytes wide = 0) (hw : widthOk a (accBytes wide) = true) :
    exec (.registerWrite a wide v) s = .next (s.plainWrite a (accBytes wide) v.toNat) := by
  rw [exec_registerWrite, if_pos (by simp [hup, hb, ha, hw])]

theorem State.plainWrite_fields (hs : s.softBusy a = false) (hm : winMem a = none) :
    s.plainWrite a n v = (fieldsAt a).foldl (fun s f => s.writeField f.1 f.2 n v) s := by
  simp only [State.plainWrite, hs, hm, Bool.false_eq_true, if_false]

theorem State.plainWrite_win {m : WinMem} (hs : s.softBusy a = false) (hm : winMem a = some m) :
    s.plainWrite a n v = s.writeWin a n v m := by
  simp only [State.plainWrite, hs, hm, Bool.false_eq_true, if_false]

theorem State.plainWrite_busy (hs : s.softBusy a = true) : s.plainWrite a n v = s := if_pos hs

theorem aligned4 {wide : Bool} (h : a % accBytes wide = 0) : a % 4 = 0 := by
  cases wide
  · exact h
  · have : a % 8 = 0 := h
    omega

/-! ### Any register -/

theorem sideRegs_acc {r : Reg} (h : r ∈ sideRegs) : r.info.acc = .RO ∨ r.info.acc = .W1C := by revert r; decide

theorem notOpen_side (h : k.reg ∈ sideRegs) : ¬ s.opensField k := by
  rintro (e | ⟨e, -⟩) <;> rcases sideRegs_acc h with g | g <;> rw [e] at g <;> cases g

theorem fields_noPolicy (ha : a % 4 = 0) (hp : a ≠ 0x11000000) : ∀ f ∈ fieldsAt a, f.1.reg ≠ .PSW_CFG_POLICY :=
  fun _ m e => hp (policy_at m e ha)

/-- A register write outside PSW_CFG. -/
theorem State.fields_writes (ha : a % 4 = 0) (hp : a ≠ 0x11000000) :
    s.Writes (fun q => ∃ d, (q, d) ∈ fieldsAt a) ((fieldsAt a).foldl (fun s f => s.writeField f.1 f.2 n v) s) :=
  State.writeFields_writes (fields_noPolicy ha hp)

theorem State.fields_written (ha : a % 4 = 0) (hp : a ≠ 0x11000000) (hm : (k, d) ∈ fieldsAt a) (hs : k.reg ∉ sideRegs) :
    s.Written ((fieldsAt a).foldl (fun s f => s.writeField f.1 f.2 n v) s) k d n v :=
  State.writeFields_written (fieldsAt_nodup a) (fields_noPolicy ha hp) hm hs

/-! ### A register of one RW field -/

/-- A field whose writes the chapters tie to nothing and keep as they are. -/
structure PlainField (k : RKey) : Prop where
  acc : k.reg.info.acc = .RW
  row : ∀ x, hasRow k.reg x = false
  shut : ∀ s : State, s.shut k = false
  keeps : ∀ x, fieldKeeps k.reg x = x
  effect : ∀ (s : State) (old : Nat), s.fieldEffect k old = s

theorem State.writeField_plain (h : PlainField k) :
    s.writeField k d n v = s.wr k.reg (s.fieldOf k d n v % 2 ^ k.reg.info.w) k.i k.j := by
  rw [State.writeField_open (.inl h.acc) (h.row _), h.effect, State.storeField, if_neg (by simp [h.shut]), h.keeps]

/-- An aligned write of the register's width to a block that no soft reset selects. -/
theorem exec_registerWrite_block {wide : Bool} {v : Word} {b : Blk} (hup : s.up 5 = true) (hb : blkAt a = some b)
    (hn : b ∉ [.HSE, .CHAN, .SCE, .OCE, .FRC, .DMA]) (hm : winMem a = none) (ha : a % accBytes wide = 0)
    (hw : widthOk a (accBytes wide) = true) :
    exec (.registerWrite a wide v) s = .next ((fieldsAt a).foldl (fun s f => s.writeField f.1 f.2 (accBytes wide) v.toNat) s) := by
  rw [exec_registerWrite_runs hup (by rw [hb]; rfl) ha hw, State.plainWrite_fields (s.softBusy_false hb hn) hm]

theorem widthOk_head {wide : Bool} {f : RKey × Nat} {l : List (RKey × Nat)} (hf : fieldsAt a = f :: l) (hm : winMem a = none)
    (hb : f.1.reg.info.blk ≠ .OCE) (hw : f.1.reg.info.wide = wide) : widthOk a (accBytes wide) = true := by
  simp [widthOk, hf, hm, hb, hw, accBytes]

theorem plainBlocks : ∀ b ∈ [Blk.EVC, .L2C],
    b ∉ [Blk.HSE, .CHAN, .SCE, .OCE, .FRC, .DMA] ∧ b ∉ [Blk.HSE, .CHAN, .SCE, .HIF, .PSW] := by decide

/-- A write to a register of one plain field, in a block that no soft reset selects and without memories in its window. -/
theorem exec_plain {wide : Bool} {v : Word} {b : Blk} (hup : s.up 5 = true) (he : blkAt a = some b) (h : b ∈ [.EVC, .L2C])
    (hf : fieldsAt a = [(k, 0)]) (hb : k.reg.info.blk ≠ .OCE) (hw : k.reg.info.wide = wide) (ha : a % accBytes wide = 0)
    (hk : PlainField k) (hl : k.reg.info.lo + k.reg.info.w ≤ 8 * accBytes wide) :
    exec (.registerWrite a wide v) s = .next (s.wr k.reg (bitsN v.toNat k.reg.info.lo k.reg.info.w) k.i k.j) := by
  have hs := plainBlocks b h
  have hm : winMem a = none := winMem_none he hs.2
  rw [exec_registerWrite_block hup he hs.1 hm ha (widthOk_head hf hm hb hw), hf, List.foldl_cons, List.foldl_nil,
    State.writeField_plain hk, State.fieldOf_whole s hl, Nat.mod_eq_of_lt (bitsN_lt _ _ _)]

/-- What a write of one field leaves alone. -/
theorem State.wr_keysBut {r : Reg} {x i j : Nat} {K : RKey → Prop} (s : State) (h : K ⟨r, i, j⟩) : s.keysBut (s.wr r x i j) K :=
  fun _ _ _ n => State.rdW_wr_key s x (fun e => n (e ▸ h))

theorem State.wr_keeps (s : State) (r : Reg) (x i j : Nat) : s.keeps (s.wr r x i j) [] :=
  ⟨rfl, fun p _ => by cases p <;> rfl⟩

/-- A field of the event controller that takes the bits written. -/
theorem evc_write {r : Reg} {i j : Nat} {wide : Bool} {v : Word} {K : RKey → Prop} (hup : s.up 5 = true) (h0 : 0x10020000 ≤ a)
    (h1 : a < 0x10030000) (hf : fieldsAt a = [(⟨r, i, j⟩, 0)]) (hb : r.info.blk ≠ .OCE) (hw : r.info.wide = wide)
    (ha : a % accBytes wide = 0) (hk : PlainField ⟨r, i, j⟩) (hl : r.info.lo + r.info.w ≤ 8 * accBytes wide) (hK : K ⟨r, i, j⟩) :
    ∃ t, exec (.registerWrite a wide v) s = .next t ∧ t.rd r i j = bitsN v.toNat r.info.lo r.info.w ∧ s.keysBut t K ∧
      s.memSame t ∧ s.keeps t [] :=
  ⟨_, exec_plain hup (evc_at h0 h1) (by decide) hf hb hw ha hk hl, (State.rd_wr_same ..).trans (Nat.mod_eq_of_lt (bitsN_lt _ _ _)),
    s.wr_keysBut hK, fun _ => rfl, s.wr_keeps ..⟩

theorem bitsN_zero (x w : Nat) : bitsN x 0 w = x % 2 ^ w := by rw [bitsN, Nat.pow_zero, Nat.div_one]

theorem write_prio {v : Word} {k : Nat} (hup : s.up 5 = true) (hk : k < 512) : ∃ t,
    exec (.registerWrite (0x10022000 + 4 * k) false v) s = .next t ∧ t.rd .EVC_PRIO_PRIO k = v.toNat % 8 ∧
      s.keysBut t (fun x => x.reg = .EVC_PRIO_PRIO ∧ x.i = k) ∧ s.memSame t ∧ s.keeps t [] := by
  obtain ⟨t, he, hv, hrest⟩ := evc_write (v := v) (wide := false) (K := fun x => x.reg = .EVC_PRIO_PRIO ∧ x.i = k) hup (by omega) (by omega) (fieldsAt_prio hk)
    (by decide) rfl (by show (0x10022000 + 4 * k) % 4 = 0; omega)
    ⟨rfl, fun _ => rfl, fun _ => rfl, fun _ => rfl, fun _ _ => rfl⟩ (by decide) ⟨rfl, rfl⟩
  exact ⟨t, he, hv.trans (bitsN_zero _ _), hrest⟩

theorem write_ie {v : Word} {c w : Nat} (hup : s.up 5 = true) (hc : c < 8) (hw : w < 16) : ∃ t,
    exec (.registerWrite (0x10024000 + 0x40 * c + 4 * w) false v) s = .next t ∧ t.rd .EVC_IE_IE c w = v.toNat % 2 ^ 32 ∧
      s.keysBut t (fun x => x = ⟨.EVC_IE_IE, c, w⟩) ∧ s.memSame t ∧ s.keeps t [] := by
  obtain ⟨t, he, hv, hrest⟩ := evc_write (v := v) (wide := false) (K := fun x => x = ⟨.EVC_IE_IE, c, w⟩) hup (by omega) (by omega) (fieldsAt_ie hc hw)
    (by decide) rfl (by show (0x10024000 + 0x40 * c + 4 * w) % 4 = 0; omega)
    ⟨rfl, fun _ => rfl, fun _ => rfl, fun _ => rfl, fun _ _ => rfl⟩ (by decide) rfl
  exact ⟨t, he, hv.trans (bitsN_zero _ _), hrest⟩

theorem write_thr {v : Word} {c : Nat} (hup : s.up 5 = true) (hc : c < 8) : ∃ t,
    exec (.registerWrite (0x10025000 + 0x10 * c) false v) s = .next t ∧ t.rd .EVC_THR_THR c = v.toNat % 8 ∧
      s.keysBut t (fun x => x.reg = .EVC_THR_THR ∧ x.i = c) ∧ s.memSame t ∧ s.keeps t [] := by
  obtain ⟨t, he, hv, hrest⟩ := evc_write (v := v) (wide := false) (K := fun x => x.reg = .EVC_THR_THR ∧ x.i = c) hup (by omega) (by omega) (fieldsAt_thr hc)
    (by decide) rfl (by show (0x10025000 + 0x10 * c) % 4 = 0; omega)
    ⟨rfl, fun _ => rfl, fun _ => rfl, fun _ => rfl, fun _ _ => rfl⟩ (by decide) ⟨rfl, rfl⟩
  exact ⟨t, he, hv.trans (bitsN_zero _ _), hrest⟩

theorem write_mtimecmp {v : Word} {c : Nat} (hup : s.up 5 = true) (hc : c < 8) : ∃ t,
    exec (.registerWrite (0x10021040 + 8 * c) true v) s = .next t ∧ t.rd .EVC_MTIMECMP_CMP c = v.toNat ∧
      s.keysBut t (fun x => x.reg = .EVC_MTIMECMP_CMP ∧ x.i = c) ∧ s.memSame t ∧ s.keeps t [] := by
  obtain ⟨t, he, hv, hrest⟩ := evc_write (v := v) (wide := true) (K := fun x => x.reg = .EVC_MTIMECMP_CMP ∧ x.i = c) hup (by omega) (by omega)
    (fieldsAt_mtimecmp hc) (by decide) rfl (by show (0x10021040 + 8 * c) % 8 = 0; omega)
    ⟨rfl, fun _ => rfl, fun _ => rfl, fun _ => rfl, fun _ _ => rfl⟩ (by decide) ⟨rfl, rfl⟩
  exact ⟨t, he, hv.trans ((bitsN_zero _ _).trans (Nat.mod_eq_of_lt v.isLt)), hrest⟩

theorem write_pend {v : Word} {w : Nat} (hw : w < 16) : exec (.registerWrite (0x10023000 + 4 * w) false v) s = .next s := by
  rw [exec_registerWrite]
  split
  · have he := evc_at (a := 0x10023000 + 4 * w) (by omega) (by omega)
    rw [State.plainWrite_fields (s.softBusy_false he (by decide)) (winMem_none he (by decide)), fieldsAt_pend hw, List.foldl_cons,
      List.foldl_nil, State.writeField_ro (.inl rfl)]
  · rfl

/-! ### The cache's registers -/

theorem l2c_at {a : Nat} (h : 0x10040000 ≤ a) (h' : a < 0x10050000) : blkAt a = some .L2C := blkAt_eq (b := .L2C) h h'

theorem write_invbase {v : Word} (hup : s.up 5 = true) : ∃ t, exec (.registerWrite 0x10040018 true v) s = .next t ∧
    t.rd .L2_INVBASE_BASE = v.toNat ∧ s.only t [.L2_INVBASE_BASE] [] := by
  have hf : fieldsAt 0x10040018 = [(⟨.L2_INVBASE_BASE, 0, 0⟩, 0)] := by decide
  refine ⟨_, exec_plain (wide := true) hup (l2c_at (by decide) (by decide)) (by decide) hf (by decide) rfl rfl
    ⟨rfl, fun _ => rfl, fun _ => rfl, fun _ => rfl, fun _ _ => rfl⟩ (by decide), ?_, (State.only.refl s _ _).wr⟩
  rw [State.rd_wr_same]
  exact (Nat.mod_eq_of_lt (bitsN_lt _ _ _)).trans ((bitsN_zero _ _).trans (Nat.mod_eq_of_lt v.isLt))

theorem write_invlen {v : Word} (hup : s.up 5 = true) : ∃ t, exec (.registerWrite 0x10040020 false v) s = .next t ∧
    t.rd .L2_INVLEN_LEN = v.toNat % 2 ^ 32 ∧ s.only t [.L2_INVLEN_LEN] [] := by
  have hf : fieldsAt 0x10040020 = [(⟨.L2_INVLEN_LEN, 0, 0⟩, 0)] := by decide
  refine ⟨_, exec_plain (wide := false) hup (l2c_at (by decide) (by decide)) (by decide) hf (by decide) rfl rfl
    ⟨rfl, fun _ => rfl, fun _ => rfl, fun _ => rfl, fun _ _ => rfl⟩ (by decide), ?_, (State.only.refl s _ _).wr⟩
  rw [State.rd_wr_same]
  exact (Nat.mod_eq_of_lt (bitsN_lt _ _ _)).trans (bitsN_zero _ _)

/-- L2_STAT's flags, with their bits. -/
def l2Flags : List (Reg × Nat) := [(.L2_STAT_ENREF, 3), (.L2_STAT_LOCKREF, 4), (.L2_STAT_INVREF, 5), (.L2_STAT_LOST, 6)]

theorem fieldsAt_l2stat : fieldsAt 0x10040004 = [(⟨.L2_STAT_ENABLED, 0, 0⟩, 0), (⟨.L2_STAT_DRAINING, 0, 0⟩, 0),
    (⟨.L2_STAT_INITBUSY, 0, 0⟩, 0), (⟨.L2_STAT_ENREF, 0, 0⟩, 0), (⟨.L2_STAT_LOCKREF, 0, 0⟩, 0), (⟨.L2_STAT_INVREF, 0, 0⟩, 0),
    (⟨.L2_STAT_LOST, 0, 0⟩, 0)] := by decide

/-- A W1C field of the cache ties nothing to its value. -/
theorem State.only.w1c {R : List Reg} {P : List Part} (h : s.only u R P) (hk : k.reg ∈ l2Flags.map Prod.fst)
    (hr : k.reg ∈ R := by decide) : s.only (u.writeField k d n v) R P := by
  have he : ∀ (w : State) (old : Nat), w.fieldEffect k old = w ∧ k.reg.info.acc = .W1C ∧ hasRow k.reg (u.fieldOf k d n v) = false := by
    intro w old
    obtain ⟨r, i, j⟩ := k
    simp only [l2Flags, List.map_cons, List.map_nil, List.mem_cons, List.not_mem_nil, or_false] at hk
    rcases hk with rfl | rfl | rfl | rfl <;> exact ⟨rfl, rfl, rfl⟩
  rw [State.writeField_w1c (he u 0).2.1 (he u 0).2.2, (he _ _).1]
  exact h.wr hr

/-- What a write to L2_STAT leaves. -/
def State.l2StatWritten (s : State) (v : Nat) : State :=
  (fieldsAt 0x10040004).foldl (fun s f => s.writeField f.1 f.2 4 v) s

theorem State.l2StatWritten_only (s : State) (v : Nat) :
    s.only (s.l2StatWritten v) [.L2_STAT_ENREF, .L2_STAT_LOCKREF, .L2_STAT_INVREF, .L2_STAT_LOST] [] := by
  simp only [State.l2StatWritten, fieldsAt_l2stat, List.foldl_cons, List.foldl_nil]
  rw [State.writeField_ro (k := ⟨.L2_STAT_ENABLED, 0, 0⟩) (.inl rfl), State.writeField_ro (k := ⟨.L2_STAT_DRAINING, 0, 0⟩) (.inl rfl),
    State.writeField_ro (k := ⟨.L2_STAT_INITBUSY, 0, 0⟩) (.inl rfl)]
  exact ((((State.only.refl s _ _).w1c (by decide)).w1c (by decide)).w1c (by decide)).w1c (by decide)

theorem exec_l2stat {v : Word} (hup : s.up 5 = true) :
    exec (.registerWrite 0x10040004 false v) s = .next (s.l2StatWritten v.toNat) := by
  have hb := l2c_at (a := 0x10040004) (by decide) (by decide)
  have hm := winMem_none hb (by decide)
  exact exec_registerWrite_block hup hb (by decide) hm rfl (widthOk_head fieldsAt_l2stat hm (by decide) rfl)

theorem eq_of_bit0 {x y : Nat} (hx : x < 2) (hy : y < 2) (h : x.testBit 0 = y.testBit 0) : x = y := by
  interval_cases x <;> interval_cases y <;> simp_all

/-- A flag of the cache clears where its bit is written as a one. -/
theorem State.l2StatWritten_flag {v : Word} (hup : s.up 5 = true) (hc : s.Canonical) {x : Reg × Nat} (hx : x ∈ l2Flags) :
    (s.l2StatWritten v.toNat).rd x.1 = if v.toNat.testBit x.2 then 0 else s.rd x.1 := by
  have ht : (s.l2StatWritten v.toNat).Canonical := by
    obtain ⟨t, he, ht⟩ := exec_canonical (.registerWrite 0x10040004 false v) hc
    rw [exec_l2stat hup] at he
    cases he
    exact ht
  obtain ⟨hm, hr, hl, hw, hrow, hclr, hacc, hd, hlt⟩ : (⟨x.1, 0, 0⟩, 0) ∈ fieldsAt 0x10040004 ∧ x.1 ∉ sideRegs ∧ x.1.info.lo = x.2 ∧
      x.1.info.w = 1 ∧ (∀ y, hasRow x.1 y = false) ∧ (∀ y, clears x.1 y = y) ∧ x.1.info.acc = .W1C ∧ x.1 ≠ .DMA_CHCTL_LINE ∧ x.2 < 32 := by
    simp only [l2Flags, List.mem_cons, List.not_mem_nil, or_false] at hx
    rcases hx with rfl | rfl | rfl | rfl <;>
      exact ⟨by rw [fieldsAt_l2stat]; decide, by decide, rfl, rfl, fun _ => rfl, fun _ => rfl, rfl, by decide, by decide⟩
  have w := (State.fields_written (s := s) (n := 4) (v := v.toNat) (a := 0x10040004) (by decide) (by decide) hm hr).cleared hacc
    (hrow _) 0 (by rw [hw]; decide)
  have ho : fieldOnes ⟨x.1, 0, 0⟩ 0 4 v.toNat = bitsN v.toNat x.2 1 := by
    rw [fieldOnes_whole (by rw [hl, hw]; omega), hl, hw]
  have h1 := hc.rd_lt hd 0 0
  have h2 := ht.rd_lt hd 0 0
  rw [hw] at h1 h2
  refine eq_of_bit0 h2 (by split <;> [decide; exact h1]) (w.trans ?_)
  rw [hclr, ho, bitsN, Nat.testBit_mod_two_pow, Nat.testBit_div_two_pow]
  cases hb : v.toNat.testBit x.2 <;> simp [hb]

/-! ### PSW_CFG (R329) -/

theorem psw_at : blkAt 0x11000000 = some .PSW := blkAt_eq (b := .PSW) (by decide) (by decide)

theorem winMem_pswCfg : winMem 0x11000000 = none := by decide

theorem fieldsAt_pswCfg : fieldsAt 0x11000000 =
    [(⟨.PSW_CFG_POLICY, 0, 0⟩, 0), (⟨.PSW_CFG_HOLDOFF, 0, 0⟩, 0), (⟨.PSW_CFG_ARBAUTO, 0, 0⟩, 0)] := by decide

/-- A write of POLICY before the lock, and the closing that follows from it. -/
def State.policySet (s : State) (v : Nat) : State :=
  if (s.wr .PSW_CFG_POLICY (v % 2)).bit .PSW_CFG_POLICY && !(s.wr .PSW_CFG_POLICY (v % 2)).bit .PSW_STAT_JOINEN then
    (s.wr .PSW_CFG_POLICY (v % 2)).passClose 2 else s.wr .PSW_CFG_POLICY (v % 2)

/-- What a write to PSW_CFG leaves. -/
def State.pswCfgWritten (s : State) (v : Nat) : State :=
  (if s.rst.locked then s else (s.policySet v).wr .PSW_CFG_HOLDOFF (max 1 (bitsN v 8 8))).wr .PSW_CFG_ARBAUTO (bitsN v 16 1)

theorem State.writePolicy_eq (hl : s.rst.locked = false) : s.writeField ⟨.PSW_CFG_POLICY, 0, 0⟩ 0 4 v = s.policySet v := by
  have hx : bitsN v 0 1 % 2 = v % 2 := by rw [bitsN_zero]; exact Nat.mod_mod _ _
  have hs : s.storeField ⟨.PSW_CFG_POLICY, 0, 0⟩ (bitsN v 0 1) = s.wr .PSW_CFG_POLICY (v % 2) := by
    rw [State.storeField, if_neg (by exact Bool.false_ne_true), ← hx]
    rfl
  rw [State.writeField_open (.inr ⟨rfl, hl⟩) rfl, State.fieldOf_whole s (by decide)]
  exact (congrArg (fun w : State => w.fieldEffect ⟨.PSW_CFG_POLICY, 0, 0⟩ _) hs).trans rfl

theorem State.writeHoldoff_eq (hl : s.rst.locked = false) :
    s.writeField ⟨.PSW_CFG_HOLDOFF, 0, 0⟩ 0 4 v = s.wr .PSW_CFG_HOLDOFF (max 1 (bitsN v 8 8)) := by
  have hx : bitsN v 8 8 % 2 ^ 8 = bitsN v 8 8 := Nat.mod_eq_of_lt (bitsN_lt _ _ _)
  rw [State.writeField_open (.inr ⟨rfl, hl⟩) rfl, State.fieldOf_whole s (by decide), State.storeField,
    if_neg (by exact Bool.false_ne_true)]
  exact congrArg (fun x => s.wr .PSW_CFG_HOLDOFF (max 1 x)) hx

theorem State.writeArbauto_eq (s : State) (v : Nat) :
    s.writeField ⟨.PSW_CFG_ARBAUTO, 0, 0⟩ 0 4 v = s.wr .PSW_CFG_ARBAUTO (bitsN v 16 1) := by
  rw [State.writeField_plain ⟨rfl, fun _ => rfl, fun _ => rfl, fun _ => rfl, fun _ _ => rfl⟩, State.fieldOf_whole s (by decide),
    Nat.mod_eq_of_lt (bitsN_lt _ _ _)]
  rfl

/-- A POLICY of 1 closes an open pass while JOIN_EN is low. -/
def State.policyCloses (s : State) (v : Nat) : Prop :=
  s.rst.locked = false ∧ v.testBit 0 = true ∧ s.bit .PSW_STAT_JOINEN = false ∧ (s.rd .PSW_PASS_STATE = 1 ∨ s.rd .PSW_PASS_STATE = 2)

theorem State.bit_policy (s : State) (v : Nat) : (s.wr .PSW_CFG_POLICY (v % 2)).bit .PSW_CFG_POLICY = v.testBit 0 := by
  rw [State.bit_wr_same, Nat.testBit_zero]
  show (v % 2 % 2 != 0) = decide (v % 2 = 1)
  rcases Nat.mod_two_eq_zero_or_one v with h | h <;> rw [h] <;> rfl

theorem State.policySet_closes (h : s.policyCloses v) : (s.wr .PSW_CFG_POLICY (v % 2)).Closed (s.policySet v) 2 := by
  obtain ⟨-, hv, hj, ho⟩ := h
  have hst : (s.wr .PSW_CFG_POLICY (v % 2)).rd .PSW_PASS_STATE = s.rd .PSW_PASS_STATE := State.rd_wr_ne _ _ (by decide)
  have hjn : (s.wr .PSW_CFG_POLICY (v % 2)).bit .PSW_STAT_JOINEN = false := (State.bit_wr_ne _ _ (by decide)).trans hj
  rw [State.policySet, if_pos (by rw [State.bit_policy, hv, hjn]; rfl)]
  exact State.passClose_closed (by rwa [hst])

theorem State.policySet_idle (hl : s.rst.locked = false) (h : ¬ s.policyCloses v) : s.policySet v = s.wr .PSW_CFG_POLICY (v % 2) := by
  have hst : (s.wr .PSW_CFG_POLICY (v % 2)).rd .PSW_PASS_STATE = s.rd .PSW_PASS_STATE := State.rd_wr_ne _ _ (by decide)
  have hjn : (s.wr .PSW_CFG_POLICY (v % 2)).bit .PSW_STAT_JOINEN = s.bit .PSW_STAT_JOINEN := State.bit_wr_ne _ _ (by decide)
  rw [State.policySet, State.bit_policy, hjn]
  split
  · next hc =>
    obtain ⟨hv, hj⟩ := Bool.and_eq_true_iff.1 hc
    rw [State.passClose, hst, if_neg (fun ho => h ⟨hl, hv, by simpa using hj, ho⟩)]
  · rfl

theorem State.policySet_rst (hl : s.rst.locked = false) : (s.policySet v).rst = s.rst := by
  by_cases h : s.policyCloses v
  · exact (State.policySet_closes h).rst
  · rw [State.policySet_idle hl h]; rfl

theorem State.policySet_policy (hl : s.rst.locked = false) : (s.policySet v).rd .PSW_CFG_POLICY = v % 2 := by
  have h0 : (s.wr .PSW_CFG_POLICY (v % 2)).rd .PSW_CFG_POLICY = v % 2 := (State.rd_wr_same ..).trans (Nat.mod_mod _ _)
  by_cases h : s.policyCloses v
  · exact (congrArg BitVec.toNat ((State.policySet_closes h).regs _ 0 0 (by decide))).trans h0
  · rw [State.policySet_idle hl h, h0]

theorem exec_pswCfg {v : Word} (hup : s.up 5 = true) :
    exec (.registerWrite 0x11000000 false v) s = .next (s.pswCfgWritten v.toNat) := by
  have he := exec_registerWrite_block (s := s) (v := v) (wide := false) hup psw_at (by decide) winMem_pswCfg rfl
    (widthOk_head fieldsAt_pswCfg winMem_pswCfg (by decide) rfl)
  rw [he, fieldsAt_pswCfg]
  refine congrArg Host.Outcome.next ?_
  show ((s.writeField ⟨.PSW_CFG_POLICY, 0, 0⟩ 0 4 v.toNat).writeField ⟨.PSW_CFG_HOLDOFF, 0, 0⟩ 0 4 v.toNat).writeField
    ⟨.PSW_CFG_ARBAUTO, 0, 0⟩ 0 4 v.toNat = _
  rw [State.writeArbauto_eq, State.pswCfgWritten]
  by_cases hl : s.rst.locked = true
  · rw [State.writeField_locked (k := ⟨.PSW_CFG_POLICY, 0, 0⟩) rfl hl, State.writeField_locked (k := ⟨.PSW_CFG_HOLDOFF, 0, 0⟩) rfl hl,
      if_pos hl]
  · have hl' : s.rst.locked = false := by simpa using hl
    rw [State.writePolicy_eq hl', State.writeHoldoff_eq (by rw [State.policySet_rst hl', hl']), if_neg hl]

theorem write_pswCfg {v : Word} (hup : s.up 5 = true) : ∃ t, exec (.registerWrite 0x11000000 false v) s = .next t ∧
    t.rd .PSW_CFG_ARBAUTO = bitsN v.toNat 16 1 ∧
    (¬ s.policyCloses v.toNat → s.only t [.PSW_CFG_POLICY, .PSW_CFG_HOLDOFF, .PSW_CFG_ARBAUTO] []) ∧
    (s.policyCloses v.toNat → t.rd .PSW_PASS_STATE = 3 ∧ t.passFlag = false ∧ t.passCause = 2 ∧ s.raised t 196) ∧
    (s.rst.locked = true → s.regsBut t [.PSW_CFG_ARBAUTO]) ∧
    (s.rst.locked = false → t.rd .PSW_CFG_POLICY = v.toNat % 2 ∧ t.rd .PSW_CFG_HOLDOFF = max 1 (bitsN v.toNat 8 8)) := by
  refine ⟨_, exec_pswCfg hup, ?_, fun h => ?_, fun h => ?_, fun hl => ?_, fun hl => ?_⟩
  · exact (State.rd_wr_same ..).trans (Nat.mod_eq_of_lt (bitsN_lt _ _ _))
  · rw [State.pswCfgWritten]
    split
    · exact (State.only.refl s _ _).wr
    · next hl => rw [State.policySet_idle (by simpa using hl) h]; exact (State.only.refl s _ _).wr.wr.wr
  · have c := State.policySet_closes h
    rw [State.pswCfgWritten, if_neg (by simp [h.1])]
    refine ⟨?_, c.flag, c.cause, c.event⟩
    rw [State.rd_wr_ne _ _ (by decide), State.rd_wr_ne _ _ (by decide), c.state]
  · rw [State.pswCfgWritten, if_pos hl]
    exact (State.only.refl s _ []).wr.1
  · have hb := bitsN_lt v.toNat 8 8
    rw [State.pswCfgWritten, if_neg (by simp [hl])]
    refine ⟨?_, ?_⟩
    · rw [State.rd_wr_ne _ _ (by decide), State.rd_wr_ne _ _ (by decide), State.policySet_policy hl]
    · rw [State.rd_wr_ne _ _ (by decide), State.rd_wr_same]
      exact Nat.mod_eq_of_lt (by show max 1 (bitsN v.toNat 8 8) < 2 ^ 8; omega)

/-! ### Window memories -/

theorem State.loadWin_cases (s : State) (a n v : Nat) (m : WinMem) : s.loadWin a n v m = s ∨ ∃ x, s.loadWin a n v m = s.mwr n a x := by
  unfold State.loadWin
  split
  · exact .inr ⟨_, rfl⟩
  · split
    · exact .inl rfl
    · exact .inr ⟨_, rfl⟩
  · exact .inl rfl
  · exact .inl rfl
  · exact .inr ⟨_, rfl⟩

theorem State.writeWin_cases (s : State) (a n v : Nat) (m : WinMem) :
    s.writeWin a n v m = s ∨ ∃ x, s.writeWin a n v m = s.mwr n a x := by
  unfold State.writeWin
  split
  · exact .inl rfl
  · exact .inl rfl
  · exact .inl rfl
  · exact .inl rfl
  · exact .inl rfl
  · exact .inl rfl
  · split
    · exact .inl rfl
    · exact .inr ⟨_, rfl⟩
  · exact s.loadWin_cases a n v m

/-- A head's command queue takes the word written. -/
theorem write_commandQueue {h : Head} {k : Nat} {v : Word} (hup : s.up 5 = true) (hk : k < 128) (hs : s.rst.soft = none) :
    exec (.registerWrite (0x10100400 + 0x10000 * h + 4 * k) false v) s =
      .next (s.mwr 4 (0x10100400 + 0x10000 * h + 4 * k) v.toNat) := by
  have hh := h.isLt
  have hb : blkAt (0x10100400 + 0x10000 * h + 4 * k) = some .HSE :=
    blkAt_eq (b := .HSE) (by show 0x10100000 ≤ _; omega) (by show _ < 0x10100000 + 0x180000; omega)
  have ho : (0x10100400 + 0x10000 * h.val + 4 * k - 0x10100000) % 0x10000 = 0x400 + 4 * k := by omega
  have hw : winMem (0x10100400 + 0x10000 * h + 4 * k) =
      some (.commandQueue ((0x10100400 + 0x10000 * h.val + 4 * k - 0x10100000) / 0x10000) (0x400 + 4 * k)) := by
    have h1 : within 0x200 0x300 (0x400 + 4 * k) = false := by simp [within]; omega
    have h2 : within 0x400 0x600 (0x400 + 4 * k) = true := by simp [within]; omega
    simp only [winMem, hb, ho, h1, h2, Bool.false_eq_true, if_false, if_true]
  have hwid : widthOk (0x10100400 + 0x10000 * h + 4 * k) 4 = true := by
    unfold widthOk
    split
    · rfl
    · rw [hw]; rfl
  rw [exec_registerWrite_runs (wide := false) hup (by rw [hb]; rfl) (by show _ % 4 = 0; omega) hwid,
    State.plainWrite_win (State.softBusy_none hs) hw]
  rfl

/-! ### What every register write leaves alone -/

/-- The locked fields keep their values, and outside PSW_CFG the write reaches no memory but its own bytes. -/
structure State.WriteFrame (s t : State) (a : Nat) : Prop where
  locked : ∀ r i j, r.info.acc = .RWL → s.rst.locked = true → t.rdW r i j = s.rdW r i j
  rest : a ≠ 0x11000000 → s.memBut t a 8 ∧ t.rst = s.rst ∧ s.Sends t

theorem State.WriteFrame.refl (s : State) (a : Nat) : s.WriteFrame s a :=
  ⟨fun _ _ _ _ _ => rfl, fun _ => ⟨fun _ _ => rfl, rfl, .refl s⟩⟩

theorem accBytes_le (wide : Bool) : accBytes wide ≤ 8 := by cases wide <;> decide

theorem State.writeWin_frame {m : WinMem} (hn : n ≤ 8) : s.WriteFrame (s.writeWin a n v m) a := by
  rcases s.writeWin_cases a n v m with e | ⟨x, e⟩
  · rw [e]; exact .refl s a
  · rw [e]
    exact ⟨fun _ _ _ _ _ => rfl, fun _ => ⟨fun x h => State.mwr_mb_other (h.imp id (fun g => by omega)), rfl, .of_eq rfl⟩⟩

theorem State.fields_frame (ha : a % 4 = 0) (hp : a ≠ 0x11000000) :
    s.WriteFrame ((fieldsAt a).foldl (fun s f => s.writeField f.1 f.2 n v) s) a := by
  have w := State.fields_writes (s := s) (n := n) (v := v) ha hp
  refine ⟨fun r i j hr hl => ?_, fun _ => ⟨fun x _ => w.mem x, w.rst, w.sends⟩⟩
  have hs : r ∉ sideRegs := fun m => by rcases sideRegs_acc m with e | e <;> rw [hr] at e <;> cases e
  by_cases h : ∃ d, (⟨r, i, j⟩, d) ∈ fieldsAt a
  · obtain ⟨d, hd⟩ := h
    exact BitVec.eq_of_toNat_eq ((State.fields_written ha hp hd hs).locked hr hl)
  · exact w.regs r i j h hs

theorem State.pswCfg_locked {wide : Bool} {v : Word} (he : exec (.registerWrite 0x11000000 wide v) s = .next t)
    (hl : s.rst.locked = true) {r : Reg} (hr : r.info.acc = .RWL) (i j : Nat) : t.rdW r i j = s.rdW r i j := by
  by_cases hw : s.up 5 = true ∧ wide = false
  · obtain ⟨hup, rfl⟩ := hw
    rw [exec_pswCfg hup, State.pswCfgWritten, if_pos hl] at he
    cases he
    exact State.rdW_wr_ne _ _ (fun e => by rw [e] at hr; cases hr)
  · have hn : exec (.registerWrite 0x11000000 wide v) s = .next s := by
      rw [exec_registerWrite, if_neg]
      cases wide
      · simp_all
      · simp [show widthOk 0x11000000 (accBytes true) = false by decide]
    rw [hn] at he
    cases he
    rfl

theorem registerWrite_frame {wide : Bool} {v : Word} (he : exec (.registerWrite a wide v) s = .next t) : s.WriteFrame t a := by
  by_cases hp : a = 0x11000000
  · subst hp
    exact ⟨fun r i j hr hl => State.pswCfg_locked he hl hr i j, fun h => absurd rfl h⟩
  · rw [exec_registerWrite] at he
    split at he
    · next hc =>
      have ha : a % 4 = 0 := aligned4 (wide := wide) (by simp only [Bool.and_eq_true, beq_iff_eq] at hc; exact hc.1.2)
      cases he
      by_cases hb : s.softBusy a = true
      · rw [State.plainWrite_busy hb]; exact .refl s a
      · rw [Bool.not_eq_true] at hb
        cases hm : winMem a with
        | some m => rw [State.plainWrite_win hb hm]; exact State.writeWin_frame (accBytes_le wide)
        | none => rw [State.plainWrite_fields hb hm]; exact State.fields_frame ha hp
    · cases he
      exact .refl s a

theorem registerWrite_ignored {wide : Bool} {v : Word} (h : s.up 5 = false ∨ blkAt a = none ∨ a % accBytes wide ≠ 0 ∨
    widthOk a (accBytes wide) = false ∨ s.softBusy a = true ∨ (fieldsAt a = [] ∧ winMem a = none)) :
    exec (.registerWrite a wide v) s = .next s := by
  rw [exec_registerWrite]
  split
  · next hc =>
    simp only [Bool.and_eq_true, beq_iff_eq] at hc
    obtain ⟨⟨⟨hup, hb⟩, ha⟩, hw⟩ := hc
    have hs : s.softBusy a = true ∨ (fieldsAt a = [] ∧ winMem a = none) := by simpa [hup, Option.isSome_iff_ne_none.1 hb, ha, hw] using h
    rw [State.plainWrite]
    split
    · rfl
    · next hn =>
      obtain ⟨hf, hm⟩ := hs.resolve_left hn
      rw [hm, hf]
      rfl
  · rfl

/-- Settles O59, register by register: a write is a fold over the fields of its register, each of which keeps to its access code. -/
theorem registerWritesFollowTheirAccessCode : Obligations.RegisterWritesFollowTheirAccessCode := by
  refine ⟨fun v s hup => ⟨fun k hk => write_prio hup hk, fun c w hc hw => write_ie hup hc hw, fun c hc => write_thr hup hc,
    fun c hc => write_mtimecmp hup hc, write_invbase hup, write_invlen hup,
    ⟨_, exec_l2stat hup, s.l2StatWritten_only _, fun hc x hx => State.l2StatWritten_flag hup hc hx⟩, write_pswCfg hup⟩,
    fun a wide v s => ?_, fun v w s hw => write_pend hw, fun a wide v s h => registerWrite_ignored h, fun a wide v s t he => ?_,
    fun h k v s hup hk hs => ⟨_, write_commandQueue hup hk hs, State.mrd_mwr_same 4 _ (by omega), fun x hx => State.mwr_mb_other hx,
      fun _ _ _ _ => rfl, rfl, fun p _ => by cases p <;> rfl⟩⟩
  · intro n side hup hb ha hw hm hs hp
    have ha4 : a % 4 = 0 := aligned4 (wide := wide) ha
    refine ⟨_, (exec_registerWrite_runs hup hb ha hw).trans (congrArg Host.Outcome.next (State.plainWrite_fields hs hm)), ?_⟩
    have w := State.fields_writes (s := s) (n := accBytes wide) (v := v.toNat) ha4 hp
    refine ⟨w.mem, fun r i j h => w.regs r i j (fun g => h (.inl g)) (fun g => h (.inr g)), w.keeps, fun k d hk => ?_⟩
    by_cases hside : k.reg ∈ sideRegs
    · exact ⟨fun _ h => absurd hside h, fun h => absurd (sideRegs_acc hside) (by simp [h]), fun h => absurd h (notOpen_side hside),
        fun h => absurd h (notOpen_side hside), fun _ h => absurd hside h⟩
    · have g := State.fields_written (s := s) (n := accBytes wide) (v := v.toNat) ha4 hp hk hside
      exact ⟨fun h _ => g.ro h, g.locked, g.left, g.taken, fun h _ => g.cleared h⟩
  · have g := registerWrite_frame he
    exact ⟨g.locked, fun hp => ⟨(g.rest hp).1, (g.rest hp).2.1, (g.rest hp).2.2.take⟩⟩

end Sys2Proof.Machine
end

section
/-! PROOFS. The write permit (R126, R127, Table 5-5): a permit brought up to date is active only with all its conditions, and what
writes neither the permit nor its conditions leaves it so. -/

set_option Elab.async false

namespace Sys2Proof.Machine

variable {s u : State}

/-! ### Bits of a number -/

/-- A number with one bit set, put together from the bits above it and below it. -/
theorem setBitN_eq (v i : Nat) (b : Bool) : setBitN v i b = 2 ^ i * (2 * (v / 2 ^ i / 2) + b2n b) + v % 2 ^ i := by
  have hv := Nat.div_add_mod v (2 ^ i)
  have hd := Nat.div_add_mod (v / 2 ^ i) 2
  have hb : v / 2 ^ i % 2 = b2n (v.testBit i) := by
    rw [Nat.testBit_eq_decide_div_mod_eq]
    rcases Nat.mod_two_eq_zero_or_one (v / 2 ^ i) with h | h <;> simp [h, b2n]
  rw [hb] at hd
  have hs : v = 2 ^ i * (2 * (v / 2 ^ i / 2)) + 2 ^ i * b2n (v.testBit i) + v % 2 ^ i := by
    rw [← Nat.mul_add, hd, hv]
  unfold setBitN
  rw [Nat.mul_add]
  cases b <;> cases hc : v.testBit i <;> simp [hc, b2n] at hs ⊢ <;> omega

theorem testBit_setBitN (v i : Nat) (b : Bool) (j : Nat) : (setBitN v i b).testBit j = if j = i then b else v.testBit j := by
  have hr : v % 2 ^ i < 2 ^ i := Nat.mod_lt _ (Nat.two_pow_pos i)
  have hv : v.testBit j = (2 ^ i * (v / 2 ^ i) + v % 2 ^ i).testBit j := by rw [Nat.div_add_mod]
  rw [setBitN_eq, hv, Nat.testBit_two_pow_mul_add _ hr, Nat.testBit_two_pow_mul_add _ hr]
  by_cases h : j < i
  · simp [h, Nat.ne_of_lt h]
  · obtain ⟨k, rfl⟩ := Nat.exists_eq_add_of_le (Nat.le_of_not_lt h)
    cases k with
    | zero => cases b <;> simp [b2n]
    | succ k =>
      have hq : (2 * (v / 2 ^ i / 2) + b2n b) / 2 = v / 2 ^ i / 2 := by
        cases b
        · simp [b2n]
        · simp [b2n]; omega
      simp [show i + (k + 1) - i = k + 1 by omega, Nat.testBit_succ, hq]

/-! ### Permits with their conditions -/

/-- Every active permit has all its conditions behind it (Table 5-5). -/
structure State.Backed (s : State) : Prop where
  conds : ∀ a, a < 4 → s.rdBit .SPN_WP_WP a = true → failBits (s.wpConds a) = 0

/-- A command answers a next state whose permits are backed. -/
def Res.Backed (r : Res) : Prop := ∃ t, r = .next t ∧ t.Backed

theorem failBits_eq_zero {l : List Bool} : failBits l = 0 ↔ ∀ c ∈ l, c = true := by
  induction l with
  | nil => simp [failBits]
  | cons c l ih => cases c <;> simp [failBits, b2n, ih]

/-- No condition of arm a's permit is lost. -/
def State.WpHeld (s t : State) (a : Nat) : Prop := failBits (s.wpConds a) = 0 → failBits (t.wpConds a) = 0

theorem State.wpConds_congr {t : State} (hp : t.pwr = u.pwr) (hs : t.rst.step = u.rst.step)
    (he : t.rd .SPN_WP_EN = u.rd .SPN_WP_EN) (a : Nat) : t.wpConds a = u.wpConds a := by
  simp only [State.wpConds, State.rdBit, hp, hs, he]

/-! ### The permit follows its conditions -/

theorem State.only.wpConds {t : State} {R : List Reg} {P : List Part} (h : s.only t R P) (a : Nat) (he : .SPN_WP_EN ∉ R := by decide)
    (hp : .pwr ∉ P := by decide) (hr : .rst ∉ P := by decide) : t.wpConds a = s.wpConds a :=
  State.wpConds_congr (h.same .pwr hp) (congrArg Rstc.step (h.rst hr)) (h.rd .SPN_WP_EN 0 0 he) a

theorem State.wpArm_conds (s : State) (a b : Nat) : (s.wpArm a).wpConds b = s.wpConds b := (s.wpArm_only a).wpConds b

theorem State.rd_wr_wp (s : State) (v : Nat) : (s.wr .SPN_WP_WP v).rd .SPN_WP_WP = v % 16 := State.rd_wr_same s .SPN_WP_WP v 0 0

theorem State.rdBit_wrBit_wp (s : State) {a b : Nat} (ha : a < 4) (v : Bool) :
    (s.wrBit .SPN_WP_WP b v).rdBit .SPN_WP_WP a = if a = b then v else s.rdBit .SPN_WP_WP a := by
  rw [State.rdBit, State.wrBit, State.rd_wr_wp, show 16 = 2 ^ 4 from rfl, Nat.testBit_mod_two_pow, decide_eq_true ha, Bool.true_and]
  exact testBit_setBitN ..

/-- What the permit of an arm is after it has been brought up to date. -/
theorem State.wpArm_rdBit (s : State) {a b : Nat} (ha : a < 4) :
    (s.wpArm b).rdBit .SPN_WP_WP a = if a = b then failBits (s.wpConds b) == 0 else s.rdBit .SPN_WP_WP a := by
  have hcut (u : State) : ((List.range 6).foldl (fun s p => s.cutFrame (6 * b + p)) u).rd .SPN_WP_WP = u.rd .SPN_WP_WP :=
    (State.only.foldl (R := []) (P := [.chans]) (fun _ _ hv => hv.cutFrame) (.refl u _ _)).rd .SPN_WP_WP
  generalize hr : (if a = b then failBits (s.wpConds b) == 0 else s.rdBit .SPN_WP_WP a) = r
  unfold State.wpArm
  dsimp only
  split
  · next h =>
    simp only [Bool.and_eq_true, bne_iff_ne] at h
    rw [State.rdBit, State.rd_raise, hcut, State.rd_wr_ne _ _ (by decide), ← State.rdBit, State.rdBit_wrBit_wp s ha, ← hr,
      beq_false_of_ne h.2]
  · next h1 =>
    split
    · next h =>
      simp only [Bool.and_eq_true, beq_iff_eq] at h
      rw [State.rdBit_wrBit_wp s ha, ← hr, h.2, beq_self_eq_true]
    · next h2 =>
      by_cases e : a = b
      · subst e
        cases hb : s.rdBit .SPN_WP_WP a <;> simp_all
      · rw [← hr, if_neg e]

theorem State.wpArm_backedAt (s : State) {a b : Nat} (ha : a < 4)
    (h : a = b ∨ (s.rdBit .SPN_WP_WP a = true → failBits (s.wpConds a) = 0)) :
    (s.wpArm b).rdBit .SPN_WP_WP a = true → failBits ((s.wpArm b).wpConds a) = 0 := by
  rw [State.wpArm_rdBit s ha, State.wpArm_conds]
  split
  · next e => subst e; exact fun g => by simpa using g
  · next e => exact h.resolve_left e

/-- Once brought up to date, every active permit is backed, whatever went before. -/
theorem State.updWp_backed (s : State) : s.updWp.Backed := by
  refine ⟨fun a ha => ?_⟩
  rw [State.updWp]
  by_cases h3 : a = 3
  · exact State.wpArm_backedAt _ ha (.inl h3)
  · refine State.wpArm_backedAt _ ha (.inr ?_)
    by_cases h2 : a = 2
    · exact State.wpArm_backedAt _ ha (.inl h2)
    · refine State.wpArm_backedAt _ ha (.inr ?_)
      by_cases h1 : a = 1
      · exact State.wpArm_backedAt _ ha (.inl h1)
      · exact State.wpArm_backedAt _ ha (.inr (State.wpArm_backedAt _ ha (.inl (by omega))))

namespace State.Backed

/-- The permit and its enable stand as they did, and no condition that held is lost. -/
theorem mono {t : State} (h : u.Backed) (hw : t.rd .SPN_WP_WP = u.rd .SPN_WP_WP) (hc : ∀ a, u.WpHeld t a) : t.Backed :=
  ⟨fun a ha hb => hc a (h.conds a ha (by rwa [State.rdBit, ← hw]))⟩

theorem wr {r : Reg} {v i j : Nat} (h : u.Backed) (hr : r ≠ .SPN_WP_WP ∧ r ≠ .SPN_WP_EN := by decide) : (u.wr r v i j).Backed :=
  h.mono (State.rd_wr_ne u v (Ne.symm hr.1)) (fun a => by
    rw [State.WpHeld, State.wpConds_congr (t := u.wr r v i j) (u := u) rfl rfl (State.rd_wr_ne u v (Ne.symm hr.2))]; exact id)

theorem parts {pending : List Instr} {mem : List Host.Cell} {poison : NSet} {nor : List Host.Cell} {staged : NTab (Option Byte)} {norq : List NorJob} {ev : Ev} {erec : Erec}
    {age : Age} {spn : Spn} {arms : NTab ArmS} {hif : Hif} {psw : Psw} {l2 : L2} {hses : NTab Hse} {chans : NTab Chan}
    {hls : NTab Hlink} {oce : Oce} {dma : Dma} {buf : Buf} {frc : Frc} {med : Media} {frac free : Nat} {out : List Out}
    (h : u.Backed) :
    State.Backed ⟨pending, u.regs, mem, poison, nor, staged, norq, u.rst, ev, erec, age, u.pwr, spn, arms, hif, psw, l2, hses, chans,
      hls, oce, dma, buf, frc, med, frac, free, out⟩ := h.mono rfl (fun _ => id)

/-- The power die's part may change where no condition is lost. -/
theorem withPwr {p : Pwr} (h : u.Backed) (hp : ∀ a, u.WpHeld { u with pwr := p } a := by exact fun _ => id) :
    State.Backed { u with pwr := p } := h.mono rfl hp

theorem setPwr {p : Pwr} (h : u.Backed) (hp : ∀ a, u.WpHeld (u.setPwr p) a := by exact fun _ => id) : (u.setPwr p).Backed :=
  h.withPwr hp

theorem withRst {q : Rstc} (h : u.Backed) (hq : u.rst.step ≤ q.step := by exact le_rfl) : State.Backed { u with rst := q } :=
  h.mono rfl (fun a => by
    simp only [State.WpHeld, failBits_eq_zero, State.wpConds, List.forall_mem_cons, Bool.and_eq_true, decide_eq_true_eq]
    rintro ⟨h1, h2, h3, h4, h5, h6, h7, ⟨⟨h8, hs⟩, h9⟩, h10⟩
    exact ⟨h1, h2, h3, h4, h5, h6, h7, ⟨⟨h8, hs.trans hq⟩, h9⟩, h10⟩)

theorem setRst {q : Rstc} (h : u.Backed) (hq : u.rst.step ≤ q.step := by exact le_rfl) : (u.setRst q).Backed := h.withRst hq

/-- Where no permit is active there is nothing to back. -/
theorem of_off (h : u.rd .SPN_WP_WP = 0) : u.Backed :=
  ⟨fun a _ hb => by rw [State.rdBit, h, Nat.zero_testBit] at hb; cases hb⟩

theorem wrb {r : Reg} {b : Bool} {i j : Nat} (h : u.Backed) (hr : r ≠ .SPN_WP_WP ∧ r ≠ .SPN_WP_EN := by decide) : (u.wrb r b i j).Backed :=
  h.wr hr
theorem satAdd {r : Reg} {n i j : Nat} (h : u.Backed) (hr : r ≠ .SPN_WP_WP ∧ r ≠ .SPN_WP_EN := by decide) : (u.satAdd r n i j).Backed :=
  h.wr hr
theorem wrapAdd {r : Reg} {n i j : Nat} (h : u.Backed) (hr : r ≠ .SPN_WP_WP ∧ r ≠ .SPN_WP_EN := by decide) : (u.wrapAdd r n i j).Backed :=
  h.wr hr
theorem wrBit {r : Reg} {b i j : Nat} {v : Bool} (h : u.Backed) (hr : r ≠ .SPN_WP_WP ∧ r ≠ .SPN_WP_EN := by decide) :
    (u.wrBit r b v i j).Backed :=
  h.wr hr
theorem setMb {a : Nat} {b : Byte} (h : u.Backed) : (u.setMb a b).Backed := h.parts
theorem setMbs {a : Nat} {bs : List Byte} (h : u.Backed) : (u.setMbs a bs).Backed := h.parts
theorem filterMem {p : Host.Cell → Bool} {q : NSet} (h : u.Backed) :
    State.Backed { u with mem := u.mem.filter p, poison := q } := h.parts

theorem ite {c : Prop} {i : Decidable c} {a b : State} (ha : a.Backed) (hb : b.Backed) : (if c then a else b).Backed := by
  split <;> assumption

theorem iteOf {c : Prop} {i : Decidable c} {a b : State} (ha : c → a.Backed) (hb : ¬ c → b.Backed) :
    (if c then a else b).Backed := by
  split
  · exact ha ‹_›
  · exact hb ‹_›

theorem of_snd {α : Type} {p : α × State} {x : α} {v : State} (h : p.2.Backed) (e : p = (x, v)) : v.Backed := by
  subst e; exact h
theorem after {v w : State} (hw : v.Backed → w.Backed) (h : v.Backed) : w.Backed := hw h
theorem on {c : Bool} {f : State → State} (h : u.Backed) (hf : (f u).Backed) : (u.on c f).Backed :=
  .ite hf h
theorem onOf {c : Bool} {f : State → State} (h : u.Backed) (hf : c = true → (f u).Backed) : (u.on c f).Backed :=
  .iteOf hf (fun _ => h)
theorem foldl {α : Type} {f : State → α → State} {l : List α} (hf : ∀ v a, v.Backed → (f v a).Backed) (h : u.Backed) :
    (l.foldl f u).Backed := by
  induction l generalizing u with
  | nil => exact h
  | cons a l ih => exact ih (hf u a h)

end State.Backed

namespace Res.Backed

variable {t : State} {r q : Res}
theorem next (h : t.Backed) : Res.Backed (.next t) := ⟨t, rfl, h⟩
theorem ite {c : Prop} {i : Decidable c} (hr : Res.Backed r) (hq : Res.Backed q) : Res.Backed (if c then r else q) := by
  split <;> assumption
theorem pick {c : Prop} {i : Decidable c} {f g : State → Res} {u : State} (hf : Res.Backed (f u)) (hg : Res.Backed (g u)) :
    Res.Backed ((if c then f else g) u) := by
  split <;> assumption
theorem after {v : State} (hr : v.Backed → Res.Backed r) (h : v.Backed) : Res.Backed r := hr h

end Res.Backed

end Sys2Proof.Machine
end

section
/-! PROOFS. One lemma per operation of the model: it keeps permits backed. An operation that may lose a condition ends by bringing
the permits up to date, which backs them whatever went before; every other goes through what it calls. -/

set_option Elab.async false

namespace Sys2Proof.Machine

variable {s u : State}

/-! ### Machine/Ops -/

theorem State.Backed.mwr {n a v : Nat} (hu : u.Backed) : (u.mwr n a v).Backed := hu.setMbs

theorem State.Backed.setPoison {a n : Nat} {p : Bool} (hu : u.Backed) : (u.setPoison a n p).Backed := hu.parts

theorem State.Backed.setWseq {n : Nat} (hu : u.Backed) : (u.setWseq n).Backed := hu.mwr

theorem State.Backed.setPassCount {n : Nat} (hu : u.Backed) : (u.setPassCount n).Backed := hu.mwr

theorem State.Backed.setPassRec {flag : Bool} {cause : Nat} (hu : u.Backed) : (u.setPassRec flag cause).Backed := hu.mwr

theorem State.Backed.draw {w : Nat} (hu : u.Backed) : (u.draw w).2.Backed := hu.parts

theorem State.Backed.emit {o : Out} (hu : u.Backed) : (u.emit o).Backed := hu.parts

theorem State.Backed.fabric {tag : Nat} (hu : u.Backed) : (u.fabric tag).Backed := hu.emit

theorem State.Backed.ownAccess {kind : Option Nat} {head : Nat} (hu : u.Backed) : (u.ownAccess kind head).Backed :=
  hu.parts.fabric

theorem State.Backed.ownAccesses {kind : Option Nat} {head n : Nat} (hu : u.Backed) : (u.ownAccesses kind head n).Backed := by
  induction n generalizing u with
  | zero => exact hu
  | succ n ih => exact ih hu.ownAccess

theorem State.Backed.event {src : Nat} {fw : Bool} {d : List Byte × Bool} (hu : u.Backed) : (u.event src fw d).Backed :=
  hu.parts

theorem State.Backed.lostRun (hu : u.Backed) : u.lostRun.Backed := by
  unfold State.lostRun
  split
  · exact hu
  · exact .ite hu.parts.event hu

theorem State.Backed.raiseRaw {src : Nat} {fw : Bool} {d : List Byte × Bool} (hu : u.Backed) :
    (u.raiseRaw src fw d).Backed := .ite hu.lostRun.event hu

theorem State.Backed.raise {src : Nat} {items : List (Nat × Nat)} (hu : u.Backed) : (u.raise src items).Backed :=
  hu.raiseRaw

theorem State.Backed.edge {src : Nat} (hu : u.Backed) : (u.edge src).Backed := hu.parts

theorem State.Backed.hold {src : Nat} {items : List (Nat × Nat)} (hu : u.Backed) : (u.hold src items).Backed := hu.withPwr

theorem State.Backed.raiseHeld (hu : u.Backed) : u.raiseHeld.Backed := .foldl (fun _ _ hv => hv.raise) hu.withPwr

/-! ### Machine/HifOps -/

theorem State.Backed.setSq {f q : Nat} {v : Option Sq} (hu : u.Backed) : (u.setSq f q v).Backed := hu.parts

theorem State.Backed.setCq {f q : Nat} {v : Option Cq} (hu : u.Backed) : (u.setCq f q v).Backed := hu.parts

theorem State.Backed.setCtrl {f : Nat} {c : Ctrl} (hu : u.Backed) : (u.setCtrl f c).Backed := hu.parts

theorem State.Backed.setCmds {l : List Cmd} (hu : u.Backed) : (u.setCmds l).Backed := hu.parts

theorem State.Backed.updCmd {tag : Nat} {f : Cmd → Cmd} (hu : u.Backed) : (u.updCmd tag f).Backed := hu.setCmds

theorem State.Backed.setArea {a : Nat} {v : SysArea} (hu : u.Backed) : (u.setArea a v).Backed := hu.parts

theorem State.Backed.setZones {t : NTab Zone} (hu : u.Backed) : (u.setZones t).Backed :=
  .foldl (fun _ _ hv => hv.setArea) hu.parts

theorem State.Backed.setZone {ns z : Nat} {v : Zone} (hu : u.Backed) : (u.setZone ns z v).Backed := hu.setZones

theorem State.Backed.setNs {nsidx : Nat} {v : Option Nsp} (hu : u.Backed) : (u.setNs nsidx v).Backed := hu.parts

theorem State.Backed.setFeat {f fid sub v : Nat} (hu : u.Backed) : (u.setFeat f fid sub v).Backed := hu.parts

theorem State.Backed.ctxState {tag : Nat} (hu : u.Backed) : (u.ctxState tag).Backed := by
  unfold State.ctxState
  split
  · exact hu.mwr
  · exact hu

theorem State.Backed.fairCheck (hu : u.Backed) : u.fairCheck.Backed := .ite hu (.ite hu.parts.raise hu.parts.raise)

theorem State.Backed.giveCredit {k n : Nat} (hu : u.Backed) : (u.giveCredit k n).Backed := .ite hu.wr.wr.raise hu.wr

theorem State.Backed.takeCredit {k n : Nat} (hu : u.Backed) : (u.takeCredit k n).Backed := hu.wr

theorem State.Backed.noteStatus {c : Cmd} {st : Nat} (hu : u.Backed) : (u.noteStatus c st).Backed :=
  .ite hu (.raise (.parts (.ite hu.raise hu)))

theorem State.Backed.creditsBack {c : Cmd} (hu : u.Backed) : (u.creditsBack c).Backed :=
  .after (fun h1 => .ite h1 h1.giveCredit) (.ite hu.giveCredit hu)

theorem State.Backed.dropCmd {tag : Nat} (hu : u.Backed) : (u.dropCmd tag).Backed := hu.setCmds

theorem State.Backed.complete0 {tag st d0 d1 : Nat} (hu : u.Backed) : (u.complete0 tag st d0 d1).Backed := by
  unfold State.complete0
  split
  · exact hu
  · exact .ite hu (.noteStatus (.ite hu.creditsBack.dropCmd hu.creditsBack.updCmd.parts.ctxState))

theorem State.Backed.notify {f b dw0 : Nat} (hu : u.Backed) : (u.notify f b dw0).Backed :=
  .ite hu (by
    dsimp only
    split
    · exact hu.setCtrl.complete0
    · exact .ite hu hu.setCtrl)

theorem State.Backed.notifyWarn {bit : Nat} (hu : u.Backed) : (u.notifyWarn bit).Backed :=
  .foldl (fun _ _ hv => hv.notify) hu

theorem State.Backed.zoneChanged {n : Nsp} {z cause : Nat} (hu : u.Backed) : (u.zoneChanged n z cause).Backed :=
  .raise (.foldl (fun _ _ hv => hv.parts.notify) hu)

theorem State.Backed.fullCheck {n : Nsp} {z : Nat} (hu : u.Backed) : (u.fullCheck n z).Backed :=
  .ite hu.setZone.zoneChanged hu

theorem State.Backed.closeUnit {ns z : Nat} (hu : u.Backed) : (u.closeUnit ns z).Backed :=
  .ite hu (by
    split
    · exact hu.setZone.fullCheck
    · exact hu.setZone)

theorem State.Backed.closeUnits {p : Nat → Bool} (hu : u.Backed) : (u.closeUnits p).Backed :=
  .foldl (fun _ _ hv => .ite hv.closeUnit hv) hu

theorem State.Backed.guardCheck (hu : u.Backed) : u.guardCheck.Backed := .ite hu (.ite hu.wr.raise.closeUnits hu.wr)

theorem State.Backed.complete1 {tag st d0 d1 : Nat} (hu : u.Backed) : (u.complete1 tag st d0 d1).Backed :=
  hu.complete0.guardCheck

theorem State.Backed.failLater {c : Cmd} (hu : u.Backed) : (u.failLater c).Backed := by
  unfold State.failLater
  split
  · exact .foldl (fun _ _ hv => hv.complete1) hu
  · exact hu

theorem State.Backed.complete {tag st d0 d1 : Nat} (hu : u.Backed) : (u.complete tag st d0 d1).Backed := by
  unfold State.complete
  split
  · exact hu
  · exact .ite hu.complete1.failLater (.complete1 (by
        split
        · exact hu.setZone
        · exact hu))

theorem State.Backed.finish {tag st d0 d1 : Nat} (hu : u.Backed) : (u.finish tag st d0 d1).Backed := by
  unfold State.finish
  split
  · exact hu
  · exact .ite hu.complete hu

theorem State.Backed.finishCmd {c : Cmd} {st d0 d1 : Nat} (hu : u.Backed) : (u.finishCmd c st d0 d1).Backed := hu.finish

theorem State.Backed.signal {f q : Nat} {k : Cq} (hu : u.Backed) : (u.signal f q k).Backed :=
  .ite hu (.ite hu.setCq.emit hu.setCq)

theorem State.Backed.deleteCheck {f q : Nat} (hu : u.Backed) : (u.deleteCheck f q).Backed := by
  unfold State.deleteCheck
  split
  · exact .ite hu (.ite hu hu.setSq.complete.raise)
  · exact hu

theorem State.Backed.entryTag {tag func nsidx : Nat} {ord : Bool} (hu : u.Backed) :
    (u.entryTag tag func nsidx ord).Backed := hu.parts.fabric

theorem State.Backed.postOne {f q : Nat} (hu : u.Backed) : (u.postOne f q).Backed := by
  unfold State.postOne
  split
  · exact .ite hu.updCmd.ctxState.entryTag.setCq.emit.signal.deleteCheck hu
  · exact hu

theorem State.Backed.failNow {tag st : Nat} (hu : u.Backed) : (u.failNow tag st).Backed := by
  unfold State.failNow
  split
  · exact hu
  · exact hu.complete1.postOne

theorem State.Backed.endCmds {pick : Cmd → Bool} {quiet : Bool} (hu : u.Backed) : (u.endCmds pick quiet).Backed :=
  .after (fun h2 => .ite h2.setCmds h2) (.foldl (fun _ _ hv => hv.failLater) (.foldl (fun _ _ hv => hv.complete1)
      hu.setCmds))

theorem State.Backed.virtEvent {f : Nat} (hu : u.Backed) : (u.virtEvent f).Backed := hu.raise

theorem State.Backed.resetCtrl {f cause : Nat} (hu : u.Backed) : (u.resetCtrl f cause).Backed :=
  .after (fun h3 => .after (fun h5 => .raise (.fairCheck (.closeUnits (.ite h5.wr.parts h5)))) (.ite h3.setCtrl.virtEvent
      h3.setCtrl)) hu.endCmds.setCmds.parts

theorem State.Backed.endTest {result : Nat} (hu : u.Backed) : (u.endTest result).Backed := by
  unfold State.endTest
  split
  · exact hu
  · exact hu.parts.raise

theorem State.Backed.resetAll {cause : Nat} (hu : u.Backed) : (u.resetAll cause).Backed :=
  .parts (.foldl (fun _ _ hv => hv.resetCtrl) (by
    split
    · exact .ite hu.endTest hu
    · exact hu))

/-! ### Machine/PowerOps -/

theorem State.Backed.setSpn {p : Spn} (hu : u.Backed) : (u.setSpn p).Backed := hu.parts

theorem State.Backed.setPsw {p : Psw} (hu : u.Backed) : (u.setPsw p).Backed := hu.parts

theorem State.Backed.setArm {a : Nat} {v : ArmS} (hu : u.Backed) : (u.setArm a v).Backed := hu.parts

theorem State.Backed.planned {cycles : Nat} (hu : u.Backed) : (u.planned cycles).Backed := by
  unfold State.planned; dsimp only; split <;> exact hu.setSpn

theorem State.Backed.powerEvent {src : Nat} {items : List (Nat × Nat)} (hu : u.Backed) :
    (u.powerEvent src items).Backed := .ite hu.raise hu.hold

theorem State.Backed.linkHeard (hu : u.Backed) : u.linkHeard.Backed :=
  .ite hu (.raiseHeld (hu.setPwr (fun a => by
    simp only [State.WpHeld, failBits_eq_zero, State.wpConds, State.setPwr, List.forall_mem_cons, Bool.and_eq_true]
    rintro ⟨h1, h2, h3, h4, h5, h6, h7, ⟨⟨-, h8⟩, h9⟩, h10⟩
    exact ⟨h1, h2, h3, h4, h5, h6, h7, ⟨⟨trivial, h8⟩, h9⟩, h10⟩)))

theorem State.Backed.stopMicro {a p : Nat} (hu : u.Backed) : (u.stopMicro a p).Backed :=
  .wrBit (.wrBit (.ite hu.setArm hu.setArm.emit))

theorem State.Backed.loseTiming {a : Nat} (hu : u.Backed) : (u.loseTiming a).Backed :=
  .foldl (fun _ _ hv => .ite hv.parts.wrBit hv.parts) hu

theorem State.Backed.setSceState {a st : Nat} (hu : u.Backed) : (u.setSceState a st).Backed :=
  .ite hu.wr.wrb.loseTiming hu.wr.wrb

theorem State.Backed.sceFault {a cause : Nat} (hu : u.Backed) : (u.sceFault a cause).Backed := hu.raise

theorem State.Backed.drive {a : Nat} {o : Out} (hu : u.Backed) : (u.drive a o).Backed := .ite hu hu.emit

theorem State.Backed.sceDrive {a : Nat} {o : Out} (hu : u.Backed) : (u.sceDrive a o).Backed := .ite hu hu.drive

theorem State.Backed.armUnload {a : Nat} : (u.armUnload a).Backed := (State.updWp_backed _).sceDrive

theorem State.Backed.retract {c : RetractCause} (hu : u.Backed) : (u.retract c).Backed :=
  .ite hu (State.updWp_backed _)

theorem State.Backed.sendBelow (hu : u.Backed) : u.sendBelow.Backed := .ite hu.emit hu

theorem State.Backed.setBelow {b : Nat} (hu : u.Backed) : (u.setBelow b).Backed := .ite hu hu.wr.raise.sendBelow

theorem State.Backed.uspDown {cause : Nat} (hu : u.Backed) : (u.uspDown cause).Backed :=
  .ite hu.wr.wr.wr.wr.setPsw.raise hu

theorem State.Backed.edpDown {cause : Nat} (hu : u.Backed) : (u.edpDown cause).Backed :=
  .ite hu.wr.wr.wr.setPsw.raise.setBelow hu

theorem State.Backed.linkReset (hu : u.Backed) : u.linkReset.Backed := hu.setPsw.resetAll

theorem State.Backed.linksDown (hu : u.Backed) : u.linksDown.Backed := hu.uspDown.edpDown

theorem State.Backed.leave (hu : u.Backed) : u.leave.Backed := hu.wr.setPsw.linksDown.linkReset

theorem State.Backed.passClose {cause : Nat} (hu : u.Backed) : (u.passClose cause).Backed :=
  .ite hu.wr.setPassRec.raise.leave hu

theorem State.Backed.recordClose6 (hu : u.Backed) : u.recordClose6.Backed :=
  .ite (.after (fun h1 => .ite h1.raise h1.hold) hu.setPassRec.setPwr) hu

/-! ### Machine/LoopOps -/

theorem State.Backed.bankFault {e cause : Nat} (hu : u.Backed) : (u.bankFault e cause).Backed :=
  .ite hu.sceFault hu.raise

theorem State.Backed.castleTo {e b : Nat} (hu : u.Backed) : (u.castleTo e b).Backed :=
  .ite hu.wr.wr (.after (fun h1 => .ite h1.wr h1) (.ite hu.setArm hu.setSpn))

theorem State.Backed.bankSwap {e : Nat} (hu : u.Backed) : (u.bankSwap e).Backed := .ite hu.wr.bankFault hu.castleTo

theorem State.Backed.bankStore {e : Nat} {bankB : Bool} {w v : Nat} (hu : u.Backed) : (u.bankStore e bankB w v).Backed :=
  .ite hu (.ite hu.wr.bankFault hu.mwr)

/-! ### Machine/AdminOps -/

theorem State.Backed.exitDone (hu : u.Backed) : u.exitDone.Backed := .ite hu.parts hu

theorem Res.Backed.onCmd {c : Option Cmd} {f : Cmd → State} (hf : ∀ x : Cmd, (f x).Backed) (hu : u.Backed) :
    Res.Backed (u.onCmd c f) :=
  .next (by
    split
    · exact .ite hu.finishCmd (hf _)
    · exact hu)

/-! ### Machine/Buffer -/

theorem State.Backed.busWrite {a : Nat} {bs : List Byte} {p : Bool} (hu : u.Backed) : (u.busWrite a bs p).Backed :=
  hu.setMbs.parts

theorem State.Backed.spaceError {a n kind : Nat} (hu : u.Backed) : (u.spaceError a n kind).Backed := .ite hu.raise hu

theorem State.Backed.spaceErrors {l : List (Nat × Nat)} (hu : u.Backed) : (u.spaceErrors l).Backed := by
  unfold State.spaceErrors
  split
  · exact hu.parts.spaceError
  · exact hu

theorem State.Backed.lineCorrected {line : Nat} (hu : u.Backed) : (u.lineCorrected line).Backed :=
  .ite hu.satAdd.wr.raise.parts hu.satAdd.wr.parts

theorem State.Backed.lineFailed {line kind func : Nat} (hu : u.Backed) : (u.lineFailed line kind func).Backed :=
  .ite hu hu.parts.satAdd.wr.raise

theorem State.Backed.lineRead {line kind func : Nat} {l : Ecc} (hu : u.Backed) : (u.lineRead line kind func l).Backed :=
    by
  unfold State.lineRead
  split
  · exact hu
  · exact .ite hu hu.lineCorrected
  · exact hu.lineFailed

theorem execPatrolScrubRead_backed {ecc : Ecc} (hu : u.Backed) : Res.Backed (execPatrolScrubRead ecc u) :=
  .next (.on hu (.parts (.ite hu hu.lineRead)))

theorem execMr4Poll_backed {stack : Fin 2} {code : BitVec 3} {hot moved : Bool} (hu : u.Backed) :
    Res.Backed (execMr4Poll stack code hot moved u) :=
  .after (fun h1 => .after (fun h4 => .next (.ite h4.wr h4)) (.ite h1.parts.wrb.raise h1.parts.wrb)) (.ite hu.wr hu.wr)

theorem execRetrain_backed (hu : u.Backed) : Res.Backed (execRetrain u) := .next (.on hu hu.wr)

theorem execDqRetrainDone_backed {eye : Word} (hu : u.Backed) : Res.Backed (execDqRetrainDone eye u) :=
  .next (.on hu hu.wr.raise)

theorem execPlock_backed (hu : u.Backed) : Res.Backed (execPlock u) :=
  .next (.on hu (by
      split
      · exact hu.wr.raise
      · exact .foldl (fun _ _ hv => hv.wr) hu.wr))

theorem execBufPretWrite_backed {k : Fin 4} {v : BitVec 25} (hu : u.Backed) : Res.Backed (execBufPretWrite k v u) :=
  .next (.on hu (.ite hu.giveCredit (.ite hu.wr hu.takeCredit)))

theorem execShapeSegmentStart_backed {f : Func} {len : Nat} (hu : u.Backed) :
    Res.Backed (execShapeSegmentStart f len u) :=
  .next (by
    split
    · exact .on hu hu.parts.wr.updCmd
    · exact hu)

/-! ### Machine/Recorder -/

theorem State.Backed.writeBlock (hu : u.Backed) : u.writeBlock.Backed := hu.setMbs.parts

theorem State.Backed.fullFlag (hu : u.Backed) : u.fullFlag.Backed := hu.wrb

theorem State.Backed.gseq {n : Nat} (hu : u.Backed) : (u.gseq n).Backed := hu.wrapAdd

theorem State.Backed.evenGseq (hu : u.Backed) : u.evenGseq.Backed := .ite hu.gseq hu

theorem State.Backed.saveBlock (hu : u.Backed) : u.saveBlock.Backed := hu.gseq.writeBlock.gseq

theorem State.Backed.warnSet {bit : Nat} {v : Bool} (hu : u.Backed) : (u.warnSet bit v).Backed :=
  .ite hu (.ite hu.parts.raise.notifyWarn hu.parts.raise)

theorem State.Backed.mramFail {cause offset src seq ahead : Nat} (hu : u.Backed) :
    (u.mramFail cause offset src seq ahead).Backed := by
  unfold State.mramFail
  exact .warnSet (.parts (.parts hu.evenGseq.wr.wr.wr.wr.wr))

theorem State.Backed.mramFailIdle {cause offset : Nat} (hu : u.Backed) : (u.mramFailIdle cause offset).Backed :=
  hu.parts.mramFail

theorem State.Backed.blockFails (hu : u.Backed) : u.blockFails.Backed := hu.parts.mwr.mwr

theorem State.Backed.updateBlock {ok : Bool} (hu : u.Backed) : (u.updateBlock ok).Backed :=
  .ite hu.saveBlock hu.gseq.blockFails.mramFailIdle

theorem State.Backed.storedOpen (hu : u.Backed) : u.storedOpen.Backed := hu.wr.wr.wr.wr.wr.wr.wr.wr.parts

theorem State.Backed.recorderStart {powerOn blkOk : Bool} (hu : u.Backed) : (u.recorderStart powerOn blkOk).Backed :=
  .ite hu.parts.storedOpen.parts.mramFailIdle (.after (fun h7 => .ite h7.parts.mramFailIdle h7)
      hu.parts.wr.wr.wr.wr.wr.wr.wr.wr.fullFlag.updateBlock)

theorem State.Backed.logAppend {l : List (List Byte)} (hu : u.Backed) : (u.logAppend l).Backed :=
  .foldl (fun _ _ hv => hv.parts) hu

theorem State.Backed.spill {l : List (List Byte)} (hu : u.Backed) : (u.spill l).Backed :=
  .ite hu.parts.logAppend hu.parts

theorem State.Backed.spillC {old : Nat} (hu : u.Backed) : (u.spillC old).Backed := hu.spill

theorem State.Backed.spillM {old : Nat} (hu : u.Backed) : (u.spillM old).Backed := .ite hu hu.spill

theorem State.Backed.popQueue (hu : u.Backed) : u.popQueue.Backed := hu.parts

theorem State.Backed.endRecord {e : Ent} {seqOk blkOk : Bool} (hu : u.Backed) : (u.endRecord e seqOk blkOk).Backed :=
  .ite hu.parts.mwr.mramFail (.ite hu.mwr.blockFails.mramFail hu.mwr.writeBlock.gseq.popQueue)

theorem State.Backed.retire {inF : Bool} {slot : Nat} {e : Ent} (hu : u.Backed) : (u.retire inF slot e).Backed :=
  .after (fun h3 => .ite h3.mramFail h3) hu.mwr.parts.wr.wr.fullFlag.raise.writeBlock.gseq

theorem State.Backed.passSlot {slot : Nat} (hu : u.Backed) : (u.passSlot slot).Backed := hu.wr.parts

theorem State.Backed.takeSlot {slot src : Nat} (hu : u.Backed) : (u.takeSlot slot src).Backed :=
  .after (fun h2 => .ite h2.satAdd.wr h2) hu.parts.passSlot

theorem State.Backed.ringStore {a : Nat} {b : List Byte} (hu : u.Backed) : (u.ringStore a b).Backed :=
  .ite hu.ownAccess.busWrite hu.spaceErrors

theorem State.Backed.ringRecord {e : Ent} (hu : u.Backed) : (u.ringRecord e).Backed :=
  .ite hu hu.ringStore.parts.wr.gseq.popQueue

theorem State.Backed.mergeRecord {k : Nat} {e : Ent} {slotOk seqOk blkOk : Bool} (hu : u.Backed) :
    (u.mergeRecord k e slotOk seqOk blkOk).Backed := .ite hu.setMbs.endRecord hu.parts.retire

theorem State.Backed.redoRecord {e : Ent} {slotOk seqOk blkOk : Bool} (hu : u.Backed) :
    (u.redoRecord e slotOk seqOk blkOk).Backed := .ite hu.setMbs.takeSlot.parts.endRecord hu.passSlot.retire

theorem State.Backed.newRecord {e : Ent} {broken slotOk seqOk blkOk : Bool} (hu : u.Backed) :
    (u.newRecord e broken slotOk seqOk blkOk).Backed :=
  .ite (.retire (.ite hu hu.passSlot)) (.after (fun h2 => .endRecord (.ite h2.parts.wr.fullFlag.spill h2.takeSlot))
      hu.setMbs.parts)

theorem State.Backed.recordWrite {slotOk seqOk blkOk : Bool} (hu : u.Backed) :
    (u.recordWrite slotOk seqOk blkOk).Backed := by
  unfold State.recordWrite
  split
  · exact hu
  · exact .ite hu (.ite hu.ringRecord (.ite hu.gseq.redoRecord (by
          split
          · exact hu.gseq.mergeRecord
          · exact hu.gseq.newRecord
          · exact hu.gseq.newRecord)))

theorem State.Backed.portError {src : Nat} {data : List (Nat × Nat)} (hu : u.Backed) : (u.portError src data).Backed :=
  .ite hu (.ite hu.setPsw (.ite hu.setPsw.edpDown hu))

theorem execEventRaise_backed {src : Source} {data : List (Nat × Nat)} (hu : u.Backed) :
    Res.Backed (execEventRaise src data u) := .next (.on hu hu.portError.raise)

theorem execEvcRaiseWrite_backed {c : Hart} {v : W32} (hu : u.Backed) : Res.Backed (execEvcRaiseWrite c v u) :=
  .next (.on hu hu.raiseRaw)

theorem execRecordWrite_backed {slotOk seqOk blkOk : Bool} (hu : u.Backed) :
    Res.Backed (execRecordWrite slotOk seqOk blkOk u) := .next (.on hu hu.recordWrite)

theorem execLostEventsRecord_backed (hu : u.Backed) : Res.Backed (execLostEventsRecord u) := .next (.on hu hu.lostRun)

theorem execHold_backed (hu : u.Backed) : Res.Backed (execHold u) := .next hu.wr

theorem execHoldExpire_backed (hu : u.Backed) : Res.Backed (execHoldExpire u) := .next (.on hu hu.wr.wr)

theorem execOptimeSave_backed {blkOk : Bool} (hu : u.Backed) : Res.Backed (execOptimeSave u blkOk) :=
  .next (.on hu hu.updateBlock)

/-! ### Machine/Media -/

theorem State.Backed.setMed {m : Media} (hu : u.Backed) : (u.setMed m).Backed := hu.parts

theorem State.Backed.setBand {a b : Nat} {v : Band} (hu : u.Backed) : (u.setBand a b v).Backed := hu.setMed

theorem State.Backed.setCopy {a : Nat} {c : Option (Nat × Nat)} (hu : u.Backed) : (u.setCopy a c).Backed := hu.setMed

theorem State.Backed.pickBand {a first n : Nat} (hu : u.Backed) : (u.pickBand a first n).2.Backed := hu.parts

theorem State.Backed.pickAny {a : Nat} (hu : u.Backed) : (u.pickAny a).2.Backed := hu.pickBand

theorem State.Backed.putZone {ns z b : Nat} (hu : u.Backed) : (u.putZone ns z b).Backed := hu.setBand.setMed

theorem State.Backed.clearBand {a b : Nat} (hu : u.Backed) : (u.clearBand a b).Backed := hu.setBand

theorem State.Backed.seqFrom {ns z b : Nat} (hu : u.Backed) : (u.seqFrom ns z b).Backed := hu.setZone

theorem State.Backed.placeZones {ns count : Nat} (hu : u.Backed) : (u.placeZones ns count).Backed :=
  .foldl (fun _ _ hv => by
    split
    · exact (hv.pickAny.of_snd ‹_›).putZone.seqFrom
    · exact hv.pickAny.of_snd ‹_›) hu

theorem State.Backed.dropPlaces {ns : Nat} (hu : u.Backed) : (u.dropPlaces ns).Backed :=
  .setMed (.foldl (fun _ _ hv => hv.clearBand) hu)

theorem State.Backed.saveArm {a : Nat} (hu : u.Backed) : (u.saveArm a).Backed := hu.setArea

theorem State.Backed.saveCounts (hu : u.Backed) : u.saveCounts.Backed := .setMed (.foldl (fun _ _ hv => hv.saveArm) hu)

theorem State.Backed.charge {a b n : Nat} (hu : u.Backed) : (u.charge a b n).Backed := hu.setBand

theorem State.Backed.chargeNear {a b n : Nat} (hu : u.Backed) : (u.chargeNear a b n).Backed :=
  .ite hu (.foldl (fun _ _ hv => hv.charge) hu)

theorem State.Backed.bandWritten {ns z lo hi : Nat} (hu : u.Backed) : (u.bandWritten ns z lo hi).Backed := by
  unfold State.bandWritten
  have h : (if lo < hi then u.setMed { u.med with moved := NSet.add (zoneKey ns z) u.med.moved } else u).Backed := .ite hu.setMed hu
  dsimp only
  split
  · exact .chargeNear (.ite h.setBand h)
  · exact h

theorem State.Backed.saveRecords (hu : u.Backed) : u.saveRecords.Backed := hu.saveCounts

theorem State.Backed.countMedia {k i : Nat} (hu : u.Backed) : (u.countMedia k i).Backed := hu.setMed

theorem State.Backed.zoneFault {ns z a b : Nat} (hu : u.Backed) : (u.zoneFault ns z a b).Backed :=
  .ite hu.countMedia.setBand hu.countMedia

theorem State.Backed.growSlot {x : Nat × Nat × Nat} (hu : u.Backed) : (u.growSlot x).Backed := .ite hu hu.setArea

theorem State.Backed.growDefect {ns z a b d : Nat} (hu : u.Backed) : (u.growDefect ns z a b d).Backed :=
  .ite hu hu.growSlot.setBand.zoneFault

theorem State.Backed.slotFault {x : Nat × Nat × Nat} (hu : u.Backed) : (u.slotFault x).1.Backed := hu.countMedia

theorem State.Backed.relocate {n : Nsp} {lba : Nat} (hu : u.Backed) : (u.relocate n lba).Backed := by
  unfold State.relocate
  refine .ite hu.parts.setArea ?_
  split
  · exact hu.setBand.setMed
  · exact .ite hu hu.setZone.zoneChanged

theorem State.Backed.relocateAll {n : Nsp} {z d : Nat} (hu : u.Backed) : (u.relocateAll n z d).Backed :=
  .foldl (fun _ _ hv => .ite hv hv.relocate) hu

theorem State.Backed.retryWants (hu : u.Backed) : u.retryWants.Backed :=
  .foldl (fun _ _ hv => by
    split
    · exact hv.relocate
    · exact hv) hu.setMed

theorem State.Backed.convLadder {key step : Nat} (hu : u.Backed) : (u.convLadder key step).Backed := by
  unfold State.convLadder
  split
  · exact hu
  · exact .ite hu (.ite hu.growSlot (.ite hu.slotFault.growSlot hu.slotFault))

theorem State.Backed.zoneLadder {n : Nsp} {lba d step : Nat} (hu : u.Backed) : (u.zoneLadder n lba d step).Backed := by
  unfold State.zoneLadder
  dsimp only
  split
  · exact hu
  · exact .ite hu (.ite hu.zoneFault.growDefect (.ite hu.slotFault.growDefect.relocateAll hu.slotFault))

theorem State.Backed.ladderEnd {n : Nsp} {lba d step : Nat} (hu : u.Backed) : (u.ladderEnd n lba d step).Backed :=
  .after (fun h1 => .ite h1.zoneLadder h1.convLadder) (.ite hu.parts hu)

theorem State.Backed.blockPos {n : Nsp} {lba : Nat} (hu : u.Backed) : (u.blockPos n lba).2.Backed := by
  unfold State.blockPos
  dsimp only
  split
  · exact hu
  · split
    · exact hu
    · exact hu
    · exact hu.parts

theorem State.Backed.ladders {n : Nsp} {lo : Nat} {limited : Bool} {tler : Nat} {holds : State → Nat → Bool} {l : List
    Retry} (hu : u.Backed) :
    (u.ladders n lo limited tler holds l).Backed := .foldl (fun _ _ hv => .ite hv.blockPos.ladderEnd hv) hu

theorem State.Backed.freeEntries {ns z : Nat} (hu : u.Backed) : (u.freeEntries ns z).Backed := hu.setMed.setArea

theorem State.Backed.exchange {a f t : Nat} (hu : u.Backed) : (u.exchange a f t).Backed := by
  unfold State.exchange
  dsimp only
  split
  · exact hu.setCopy
  · exact hu.setCopy.clearBand.putZone.setBand.seqFrom.freeEntries.chargeNear.retryWants

theorem State.Backed.refreshStep {a b : Nat} (hu : u.Backed) : (u.refreshStep a b).Backed := by
  unfold State.refreshStep
  split
  · exact hu.exchange
  · split
    · exact (hu.pickAny.of_snd ‹_›).setCopy
    · exact hu.pickAny.of_snd ‹_›

theorem State.Backed.bandReset {ns z : Nat} (hu : u.Backed) : (u.bandReset ns z).Backed := by
  unfold State.bandReset
  split
  · exact hu
  · rename_i a b _
    have h : ((u.freeEntries ns z).clearBand a b).retryWants.Backed := hu.freeEntries.clearBand.retryWants
    dsimp only
    split <;> rename_i e <;> split at e
    · exact (h.pickBand.of_snd e).putZone.seqFrom
    · exact absurd e (by simp)
    · exact (h.pickBand.of_snd e).putZone
    · exact (h.of_snd (p := (none, _)) e).putZone

theorem State.Backed.freeNs {ns : Nat} (hu : u.Backed) : (u.freeNs ns).Backed :=
  .foldl (fun _ _ hv => hv.setArea) hu.setMed

theorem State.Backed.nsBandsReset {ns : Nat} (hu : u.Backed) : (u.nsBandsReset ns).Backed :=
  .foldl (fun _ _ hv => hv.bandReset) hu.freeNs

theorem State.Backed.mismatch {ns z groups : Nat} (hu : u.Backed) : (u.mismatch ns z groups).Backed := by
  unfold State.mismatch
  dsimp only
  split
  · exact hu.parts.raise
  · exact hu.parts

theorem State.Backed.scrubStep {a b : Nat} (hu : u.Backed) : (u.scrubStep a b).Backed :=
  .setBand (.ite hu.parts.mismatch hu.parts)

theorem State.Backed.ladderStep {a b : Nat} (hu : u.Backed) : (u.ladderStep a b).Backed := by
  unfold State.ladderStep
  dsimp only
  split
  · exact hu.setBand
  · split
    · exact hu.setBand
    · exact .ladderEnd (.blockPos (.draw (.draw hu.setBand)))

theorem State.Backed.lateBands (hu : u.Backed) : u.lateBands.Backed := .foldl (fun _ _ hv => .ite hv.setBand.raise hv) hu

theorem State.Backed.waCount {h p : Nat} (hu : u.Backed) : (u.waCount h p).Backed := hu.setMed

theorem State.Backed.waCheck {h : Nat} (hu : u.Backed) : (u.waCheck h).Backed := .ite hu.setMed.raise hu.setMed

theorem State.Backed.usedCheck (hu : u.Backed) : u.usedCheck.Backed := .ite hu.setMed hu.setMed.raise

theorem State.Backed.mapConv {key : Nat} (hu : u.Backed) : (u.mapConv key).Backed := hu.parts

theorem State.Backed.mapConvs {key n : Nat} (hu : u.Backed) : (u.mapConvs key n).Backed :=
  .foldl (fun _ _ hv => hv.mapConv) hu

theorem State.Backed.dropConv {ns : Nat} (hu : u.Backed) : (u.dropConv ns).Backed := hu.setMed

theorem State.Backed.unmapConv {lo n : Nat} (hu : u.Backed) : (u.unmapConv lo n).Backed := hu.setMed

/-! ### Machine/HseOps -/

theorem State.Backed.setHse {h : Nat} {v : Hse} (hu : u.Backed) : (u.setHse h v).Backed := hu.parts

theorem State.Backed.setChan {h : Nat} {v : Chan} (hu : u.Backed) : (u.setChan h v).Backed := hu.parts

theorem State.Backed.setHlk {a : Nat} {v : Hlink} (hu : u.Backed) : (u.setHlk a v).Backed := hu.parts

theorem State.Backed.latchOn {h b : Nat} (hu : u.Backed) : (u.latchOn h b).Backed := hu.setHse

theorem State.Backed.hseShow {h : Nat} (hu : u.Backed) : (u.hseShow h).Backed := .wr (.wr (.ite hu.wr hu))

theorem State.Backed.servoGate {h : Nat} (hu : u.Backed) : (u.servoGate h).Backed := .ite hu.wrBit hu

theorem State.Backed.relock {h : Nat} (hu : u.Backed) : (u.relock h).Backed :=
  .after (fun h2 => .ite h2.wr.raise h2.wr) hu.wr.wr.setChan

theorem State.Backed.zrateSet {h : Nat} (hu : u.Backed) : (u.zrateSet h).Backed := hu.wr.setHse.relock

theorem State.Backed.zrateNow {h : Nat} (hu : u.Backed) : (u.zrateNow h).Backed := .ite hu.setChan.zrateSet hu

theorem State.Backed.wgFall {h : Nat} (hu : u.Backed) : (u.wgFall h).Backed := .ite hu.setChan.emit hu

theorem State.Backed.wgRise {h : Nat} (hu : u.Backed) : (u.wgRise h).Backed := hu.setChan.emit.emit

theorem State.Backed.runLead {h : Nat} (hu : u.Backed) : (u.runLead h).Backed := .ite hu hu.wgFall.setChan.emit.wgRise

theorem State.Backed.wgEnd {h : Nat} (hu : u.Backed) : (u.wgEnd h).Backed := hu.wrBit.wgFall.setChan.zrateNow

theorem State.Backed.wgClose {h : Nat} (hu : u.Backed) : (u.wgClose h).Backed := .ite (.ite hu.setChan hu.wgEnd) hu

theorem State.Backed.wgCut {h : Nat} (hu : u.Backed) : (u.wgCut h).Backed := hu.setChan.wgClose

theorem State.Backed.rgEnd {h : Nat} (hu : u.Backed) : (u.rgEnd h).Backed := hu.wrBit.setChan.wrb.zrateNow

theorem State.Backed.rgClose {h : Nat} (hu : u.Backed) : (u.rgClose h).Backed := .ite (.ite hu.setChan hu.rgEnd) hu

theorem State.Backed.hseHalt {h haltc : Nat} (hu : u.Backed) : (u.hseHalt h haltc).Backed :=
  .after (fun h2 => .ite h2.hseShow h2.hseShow.raise) (.servoGate (.wr (.wr (.wr (.setHse (.wgCut (.ite hu.setChan.rgEnd
      hu.setChan)))))))

theorem State.Backed.cause {h v : Nat} (hu : u.Backed) : (u.cause h v).Backed := .ite hu.hseHalt hu.wrBit

theorem State.Backed.dmaTrap {h c : Nat} (hu : u.Backed) : (u.dmaTrap h c).Backed := hu.setHse.cause

theorem State.Backed.windowEvent {h gate at' : Nat} (hu : u.Backed) : (u.windowEvent h gate at').Backed := hu.raise

theorem State.Backed.accCheck {g : Nat} (hu : u.Backed) : (u.accCheck g).Backed := .ite hu.wr.wr.raise hu

theorem State.Backed.accumulate {g i : Nat} {payload : List Byte} (hu : u.Backed) : (u.accumulate g i payload).Backed :=
  .foldl (fun _ _ hv => hv.setMbs) hu.accCheck

theorem State.Backed.setLpend {line n : Nat} (hu : u.Backed) : (u.setLpend line n).Backed := hu.wr

theorem State.Backed.oceServe {h : Nat} (hu : u.Backed) : (u.oceServe h).Backed := by
  unfold State.oceServe
  split
  · exact .ite (by
      dsimp only
      split
      · exact hu
      · exact hu.accCheck.setChan.setHse.fabric.setLpend) hu
  · exact hu

theorem State.Backed.oceWritten {f : WFrame} (hu : u.Backed) : (u.oceWritten f).Backed := by
  unfold State.oceWritten
  split
  · exact hu
  · exact .ite hu (by
      split
      · exact hu.accumulate.wrapAdd
      · exact .ite hu (.ite hu.wr.wr.wr.wr hu.wr))

theorem State.Backed.frameBegin {h : Nat} {f : SFrame} {rest : List SFrame} (hu : u.Backed) :
    (u.frameBegin h f rest).Backed := hu.setWseq.runLead.setChan

theorem State.Backed.refusePoison {h : Nat} {f : SFrame} {rest : List SFrame} (hu : u.Backed) :
    (u.refusePoison h f rest).Backed := hu.setChan.wgEnd.wr.raise.dmaTrap

theorem State.Backed.startWrite {h : Nat} (hu : u.Backed) : (u.startWrite h).Backed := by
  unfold State.startWrite
  split
  · exact hu
  · exact .ite hu.setChan (.ite hu.windowEvent.wgEnd.cause (.ite hu.wgEnd.cause (.ite hu.wgEnd.cause (.ite hu.refusePoison
        hu.frameBegin))))

theorem State.Backed.starve {h : Nat} (hu : u.Backed) : (u.starve h).Backed := hu.wgEnd.dmaTrap

theorem State.Backed.openW {h : Nat} (hu : u.Backed) : (u.openW h).Backed :=
  .ite hu.cause (.ite hu (.ite hu.cause (.ite hu.windowEvent.cause (.ite hu.cause (.ite hu.cause (.after (fun h1 => .ite h1
      (.ite (.ite h1 h1.starve) h1.startWrite)) hu.wrBit.setChan))))))

theorem State.Backed.startRead {h : Nat} (hu : u.Backed) : (u.startRead h).Backed :=
  .ite hu.setChan (.ite hu.windowEvent.rgEnd.cause hu.parts.setChan)

theorem State.Backed.adaptEq {h : Nat} (hu : u.Backed) : (u.adaptEq h).Backed :=
  .ite (.foldl (fun _ _ hv => hv.parts.wr) hu) hu

theorem State.Backed.openR {h : Nat} (hu : u.Backed) : (u.openR h).Backed :=
  .ite hu.cause (.ite hu (.ite hu.cause (.ite hu.windowEvent.cause (.after (fun h1 => .ite h1.wr.wr.startRead h1.wr.wr)
      hu.wrBit.setChan))))

theorem State.Backed.farm {h : Nat} (hu : u.Backed) : (u.farm h).Backed := .ite hu.setChan.startRead hu.setChan

theorem State.Backed.snrNote {h snr : Nat} (hu : u.Backed) : (u.snrNote h snr).Backed := hu.setChan.wr.wr

theorem State.Backed.frameSnr {h : Nat} {f : RFrame} {snr : Nat} (hu : u.Backed) : (u.frameSnr h f snr).2.Backed := by
  unfold State.frameSnr
  split
  · exact hu
  · exact hu.setChan.snrNote

theorem State.Backed.setResult {h code cand iter unsat : Nat} {data : List Byte} (hu : u.Backed) :
    (u.setResult h code cand iter unsat data).Backed := hu.wr.wr.wr.wr.setChan.setHse.latchOn

theorem State.Backed.frameFailed {h code cand iter unsat : Nat} {f : RFrame} (hu : u.Backed) :
    (u.frameFailed h code cand iter unsat f).Backed := hu.raise

theorem State.Backed.readEnd {h code cand iter unsat : Nat} {data : List Byte} {f : RFrame} (hu : u.Backed) :
    (u.readEnd h code cand iter unsat data f).Backed :=
  .after (fun h2 => .after (fun h3 => .ite h3 h3.frameFailed.cause) (.ite h2.wrapAdd (.ite h2.wrapAdd (.ite h2.wrapAdd (.ite
      h2.wrapAdd h2))))) hu.setResult.wrapAdd

theorem State.Backed.ithNote {h iters : Nat} (hu : u.Backed) : (u.ithNote h iters).Backed := .ite hu.wrapAdd hu

/-! ### Machine/Preamp -/

theorem State.Backed.faultHead {a p : Nat} (hu : u.Backed) : (u.faultHead a p).Backed :=
  .ite (.oceServe (.cause (.wgEnd (.ite hu.setChan.wr.setHlk hu.setChan)))) hu

theorem execPreampFault_backed {a : Arm} (hu : u.Backed) : Res.Backed (execPreampFault a u) :=
  .next (.on hu (.foldl (fun _ _ hv => hv.faultHead) (.ite hu.wr.setHlk hu.wr)))

theorem execHlFltNRelease_backed {a : Arm} (hu : u.Backed) : Res.Backed (execHlFltNRelease a u) := .next hu.wr

theorem execHlCmdWrite_backed {a : Arm} {v : W32} (hu : u.Backed) : Res.Backed (execHlCmdWrite a v u) :=
  .next (.on hu (.ite hu.wr (.ite hu.wr hu.setHlk)))

theorem execHlinkTransactionStart_backed {a : Arm} (hu : u.Backed) : Res.Backed (execHlinkTransactionStart a u) :=
  .next (.on hu (.ite hu.setHlk.wr.emit (by
        split
        · exact hu.setHlk.wr.emit
        · split
          · exact hu.setHlk.wr.emit
          · exact hu)))

theorem State.Backed.faultNamed {a p fault : Nat} (hu : u.Backed) : (u.faultNamed a p fault).Backed :=
  .ite hu.raise.cause hu

theorem execHlinkTransactionDone_backed {a : Arm} {status : Byte} {data : W16} {parityOk : Bool} (hu : u.Backed) :
    Res.Backed (execHlinkTransactionDone a status data parityOk u) :=
  .next (by
    split
    · exact hu
    · dsimp only
      split
      · exact .ite hu.setHlk.wr.setHlk (.setHlk (.foldl (fun _ _ hv => hv.faultNamed) hu.setHlk.wr.wr))
      · exact .after (fun h2 => .ite h2.raise.cause h2.latchOn) hu.setHlk.wr.setHse
      · exact hu.setHlk.wr.setHlk)

theorem execHlRespRead_backed {a : Arm} (hu : u.Backed) : Res.Backed (execHlRespRead a u) :=
  .next (.on hu (by
      split
      · exact hu.emit
      · exact hu.setHlk.emit))

/-! ### Machine/Planner -/

theorem State.Backed.planArm {a : Nat} (hu : u.Backed) : (u.planArm a).Backed :=
  .setMed (.foldl (fun _ _ hv => .ite hv.raise hv) hu)

theorem State.Backed.recalServo {a : Nat} (hu : u.Backed) : (u.recalServo a).Backed :=
  .castleTo (.setMed (.foldl (fun _ _ hv => hv.mwr) (.foldl (fun _ _ hv => hv.mwr) hu.parts)))

theorem State.Backed.preampWrite {h : Nat} {l : List (Nat × Nat)} (hu : u.Backed) : (u.preampWrite h l).Backed :=
  hu.setHlk

theorem State.Backed.heaterPlan {h : Nat} (hu : u.Backed) : (u.heaterPlan h).Backed := hu.parts.setMed.raise.preampWrite

theorem State.Backed.settingsPlan {h : Nat} (hu : u.Backed) : (u.settingsPlan h).Backed := hu.setMed.preampWrite

theorem State.Backed.recalStep (hu : u.Backed) : u.recalStep.Backed := by
  unfold State.recalStep
  split
  · exact hu.recalServo
  · split
    · exact hu.heaterPlan
    · split
      · exact hu.settingsPlan
      · exact hu

theorem State.Backed.bgWork (hu : u.Backed) : u.bgWork.Backed := by
  unfold State.bgWork
  split
  · exact hu.refreshStep
  · exact .ite hu (by
      split
      · exact hu.ladderStep
      · split
        · exact hu.scrubStep
        · split
          · exact hu.refreshStep
          · exact hu.recalStep)

theorem State.Backed.background (hu : u.Backed) : u.background.Backed :=
  .ite hu (.after (fun h2 => .after (fun h3 => .after (fun h4 => .ite h4.bgWork h4) (.lateBands (.ite h3 h3.usedCheck)))
      (.foldl (fun _ _ hv => hv.waCheck) (.spill (.ite (.foldl (fun _ _ hv => hv.planArm) h2.setMed) h2)))) (.ite
      hu.exitDone.saveCounts hu.exitDone))

/-! ### Machine/SpinOps -/

theorem State.Backed.turn {b : Bool} (hu : u.Backed) : (u.turn b).Backed := hu.setPwr

theorem State.Backed.tierOut (hu : u.Backed) : u.tierOut.Backed := .setSpn (.ite hu.wr.wr.wr hu.wr.wr)

theorem State.Backed.spnLeave {st : Nat} (hu : u.Backed) : (u.spnLeave st).Backed :=
  .setSpn (.wr (.wr (.ite hu.wr.wr hu)))

theorem State.Backed.spnCut {fail : Nat} (hu : u.Backed) : (u.spnCut fail).Backed :=
  .ite hu (.emit (.spnLeave (.ite hu.wr hu)))

theorem State.Backed.holdEnd {cause : Nat} (hu : u.Backed) : (u.holdEnd cause).Backed := .ite hu.wr.powerEvent hu

theorem State.Backed.brake (hu : u.Backed) : u.brake.Backed := hu.wr.emit

theorem State.Backed.attempt (hu : u.Backed) : u.attempt.Backed := hu.wrapAdd.brake

theorem State.Backed.spnStart (hu : u.Backed) : u.spnStart.Backed :=
  .after (fun h2 => .ite h2.emit h2.spnCut) hu.wr.wr.raise.wr.setSpn

theorem State.Backed.retarget {e : Nat} (hu : u.Backed) : (u.retarget e).Backed :=
  .ite hu.spnStart (.ite hu.setSpn (.ite hu.setSpn.brake hu))

theorem State.Backed.setTarget {e : Nat} (hu : u.Backed) : (u.setTarget e).Backed :=
  .retarget (.ite hu.setSpn.tierOut hu.setSpn)

theorem State.Backed.spnTarget {v : Nat} (hu : u.Backed) : (u.spnTarget v).Backed :=
  .ite hu.wr (.after (fun h2 => .ite h2 h2.setTarget) (.ite hu.wr hu.wr.wr.raise))

theorem State.Backed.cogCheck {ks : List Nat} (hu : u.Backed) : (u.cogCheck ks).Backed := by
  unfold State.cogCheck
  split
  · exact hu.wr.raise
  · exact hu

theorem State.Backed.cogStore {w v : Nat} (hu : u.Backed) : (u.cogStore w v).Backed := .ite hu.mwr.cogCheck hu.mwr

theorem State.Backed.commutate {interval angle : Nat} (hu : u.Backed) : (u.commutate interval angle).Backed :=
  .ite hu hu.setSpn.emit

theorem State.Backed.satWatch (hu : u.Backed) : u.satWatch.Backed := .ite hu.setSpn.raise hu.setSpn

theorem State.Backed.cogCommands {b : Nat} {base : Rat} {interval angle : Nat} (hu : u.Backed) :
    (u.cogCommands b base interval angle).Backed := .foldl (fun _ _ hv => hv.emit) hu.setSpn

theorem State.Backed.spnSend {b : Nat} {base : Rat} {interval angle : Nat} (hu : u.Backed) :
    (u.spnSend b base interval angle).Backed := .ite hu.setSpn (.ite hu.setSpn.emit hu.setSpn.emit.cogCommands)

theorem State.Backed.spnSample {interval angle : Nat} (hu : u.Backed) : (u.spnSample interval angle).Backed :=
  .after (fun h1 => .spnSend (.satWatch (.setSpn (.ite h1.wrb.wr.wr h1.wrb)))) (.ite hu.raise hu)

theorem State.Backed.lockWatch (hu : u.Backed) : u.lockWatch.Backed := hu.setSpn

theorem State.Backed.takeOver (hu : u.Backed) : u.takeOver.Backed := hu.wr.wr.raise.setSpn.emit

/-! ### Machine/Ageing -/

theorem State.Backed.setCounts {l : List AgeCount} (hu : u.Backed) : (u.setCounts l).Backed := hu.parts

theorem State.Backed.moveTier {t : Nat} (hu : u.Backed) : (u.moveTier t).Backed := .ite hu hu.spnTarget

theorem State.Backed.limitTier (hu : u.Backed) : u.limitTier.Backed := .ite hu hu.parts.moveTier.raise

theorem execFaultSubwindow_backed {k : Fin 8} (hu : u.Backed) : Res.Backed (execFaultSubwindow k u) :=
  .next hu.wr.setCounts

theorem State.Backed.degrade {h : Nat} (hu : u.Backed) : (u.degrade h).Backed := .ite hu.setMed.warnSet hu.setMed

theorem State.Backed.lastingAction {k i : Nat} (hu : u.Backed) : (u.lastingAction k i).Backed :=
  .ite (.ite hu.degrade hu) (.ite (.ite hu.setMed hu) (.ite hu.warnSet (.ite hu.parts.limitTier hu)))

theorem execFaultClassLasting_backed {k : Fin 8} {i : Fin 32} (hu : u.Backed) :
    Res.Backed (execFaultClassLasting k i u) := .next (.on hu hu.wrBit.raise.lastingAction)

theorem State.Backed.clearLasting {k i : Nat} (hu : u.Backed) : (u.clearLasting k i).Backed := hu.wrBit.setCounts.raise

theorem execAgeFstatClear_backed {k : Fin 8} {v : W32} (hu : u.Backed) : Res.Backed (execAgeFstatClear k v u) :=
  .next (.foldl (fun _ _ hv => .ite hv.clearLasting hv) hu)

theorem State.Backed.vout {mv : Nat} (hu : u.Backed) : (u.vout mv).Backed :=
  .emit (.wr (.wr (.ite hu hu.parts.wr.parts)))

theorem State.Backed.noteSlack {slack : Nat} (hu : u.Backed) : (u.noteSlack slack).Backed := hu.setMed

theorem State.Backed.voltNow (hu : u.Backed) : u.voltNow.2.Backed := by
  unfold State.voltNow
  split
  · exact hu.parts
  · exact hu

theorem State.Backed.voltPlan (hu : u.Backed) : u.voltPlan.Backed :=
  .ite hu (.ite (.ite hu.setMed.voltNow hu.setMed.voltNow.vout.raise) hu.setMed)

theorem execGuardVoltageStep_backed {mon : Fin 64} {slack : Byte} (hu : u.Backed) :
    Res.Backed (execGuardVoltageStep mon slack u) :=
  .next (.on hu.wr.wr.wr.wr.noteSlack (.ite hu.wr.wr.wr.wr.noteSlack.voltNow.wr hu.wr.wr.wr.wr.noteSlack.voltNow.vout.raise))

theorem execAgeVoutWrite_backed {v : W32} (hu : u.Backed) : Res.Backed (execAgeVoutWrite v u) := .next (.on hu hu.vout)

theorem execPmbusCommandDone_backed {ack : Bool} (hu : u.Backed) : Res.Backed (execPmbusCommandDone ack u) :=
  .next (.on hu (.ite hu.wr.parts hu.wr.wr.raise))

theorem State.Backed.thermalOne {sensor temp n : Nat} (hu : u.Backed) : (u.thermalOne sensor temp n).Backed :=
  .ite (.raise (.ite hu.parts.warnSet hu.parts.limitTier)) (.ite (.raise (.ite hu.parts.warnSet hu.parts.limitTier)) hu)

theorem execThermalLevelCross_backed {sensor : Fin 4} {temp : BitVec 12} (hu : u.Backed) :
    Res.Backed (execThermalLevelCross sensor temp u) :=
  .next (.thermalOne (.thermalOne (.thermalOne (.ite hu.wr.withPwr hu.wr))))

theorem execAonFallback_backed (hu : u.Backed) : Res.Backed (execAonFallback u) := .next hu.wr.wr

/-! ### Machine/Channel -/

theorem execWriteFrameEnd_backed {h : Head} (hu : u.Backed) : Res.Backed (execWriteFrameEnd h u) :=
  .next (by
    split
    · exact hu
    · exact .on hu (.after (fun h1 => .after (fun h2 => .after (fun h3 => .oceServe (.ite h3.cause h3)) (.ite h2.wgEnd (.ite
          h2.wgFall h2))) (.ite h1 h1.wrapAdd.wrapAdd.waCount.setHse.latchOn.oceWritten)) hu.setChan.emit))

theorem execSyncMarkFound_backed {h : Head} {bitPos dist : Nat} (hu : u.Backed) :
    Res.Backed (execSyncMarkFound h bitPos dist u) :=
  .next (by
    split
    · exact hu
    · exact .on hu (.ite hu.setChan.latchOn hu.setChan))

theorem execSyncWindowClose_backed {h : Head} (hu : u.Backed) : Res.Backed (execSyncWindowClose h u) :=
  .next (by
    split
    · exact hu
    · exact .on hu (.ite hu.setChan.latchOn.readEnd.setChan hu.setChan))

theorem State.Backed.decodeFails {h code unsat : Nat} {f : RFrame} {rest : List RFrame} (hu : u.Backed) :
    (u.decodeFails h code unsat f rest).Backed := hu.setChan.readEnd

theorem execDecodeDone_backed {h : Head} {d : Decode} (hu : u.Backed) : Res.Backed (execDecodeDone h d u) :=
  .next (by
    split
    · exact hu
    · exact .on hu (.ite hu.frameSnr.ithNote.setChan.readEnd (.ite hu.frameSnr.decodeFails (.ite hu.frameSnr.setChan
          hu.frameSnr.decodeFails))))

theorem execDecodeBudgetExpire_backed {h : Head} {unsat : Nat} {snr : W16} (hu : u.Backed) :
    Res.Backed (execDecodeBudgetExpire h unsat snr u) :=
  .next (by
    split
    · exact hu
    · exact .on hu hu.frameSnr.decodeFails)

theorem execChanRdecGo_backed {h : Head} {v : W32} (hu : u.Backed) : Res.Backed (execChanRdecGo h v u) :=
  .next (.on hu (.ite (.ite hu.wr.wr.wr.wr hu.wr.wr.wr.wr) hu.wr.wr.wr))

theorem State.Backed.redetect {h : Nat} (hu : u.Backed) : (u.redetect h).Backed := .ite hu.parts.setChan hu

theorem execOfflineDecodeDone_backed {h : Head} {d : Decode} (hu : u.Backed) :
    Res.Backed (execOfflineDecodeDone h d u) :=
  .next (by
    split
    · exact hu
    · exact .on hu (.ite (.after (fun h2 => .ite h2 h2.frameFailed) hu.wr.redetect.ithNote.setResult)
          hu.wr.redetect.setResult))

theorem execChanEnable_backed {h : Head} (hu : u.Backed) : Res.Backed (execChanEnable h u) :=
  .next (.on hu (.ite hu.setChan hu.wr))

theorem execBaseMatrixCheckDone_backed {h : Head} (hu : u.Backed) : Res.Backed (execBaseMatrixCheckDone h u) :=
  .next (.on hu (.ite hu.setChan.wr.wr.wr hu.setChan.wr.wr.wr.raise))

theorem execClrstat_backed {h : Head} (hu : u.Backed) : Res.Backed (execClrstat h u) :=
  .next (.on hu (.foldl (fun _ _ hv => hv.wr) (.foldl (fun _ _ hv => hv.wr) hu.wr.wr.wr.wr.wr.wr)))

theorem State.Backed.rateLeave {h : Nat} (hu : u.Backed) : (u.rateLeave h).Backed := hu.wgClose.rgClose.cause

theorem execZrateWrite_backed {h : Head} {v : W16} (hu : u.Backed) : Res.Backed (execZrateWrite h v u) :=
  .next (.on hu (.ite hu.wr (.ite hu.wr.setChan.rateLeave hu.wr.zrateSet)))

theorem State.Backed.tierLeave1 {h : Nat} (hu : u.Backed) : (u.tierLeave1 h).Backed := hu.rateLeave.setChan

theorem execTierLeave_backed (hu : u.Backed) : Res.Backed (execTierLeave u) :=
  .next (.on hu (.foldl (fun _ _ hv => hv.tierLeave1) hu.setSpn))

theorem execTierReady_backed (hu : u.Backed) : Res.Backed (execTierReady u) :=
  .next (.on hu (.foldl (fun _ _ hv => hv.relock) hu.setSpn))

theorem execSynthRelockDone_backed {h : Head} (hu : u.Backed) : Res.Backed (execSynthRelockDone h u) :=
  .next (.on hu hu.wr.wr.setChan)

theorem execNolock_backed {h : Head} (hu : u.Backed) : Res.Backed (execNolock h u) := .next (.on hu hu.raise)

/-! ### Machine/FrcOps -/

theorem State.Backed.setLane {k : Nat} {v : Lane} (hu : u.Backed) : (u.setLane k v).Backed := hu.parts

theorem State.Backed.setKey {ns : Nat} {v : List Byte} (hu : u.Backed) : (u.setKey ns v).Backed := hu.parts

theorem State.Backed.loseKey {ns : Nat} (hu : u.Backed) : (u.loseKey ns).Backed := hu.parts

theorem State.Backed.loadKey {n : Nsp} (hu : u.Backed) : (u.loadKey n).Backed := by
  rw [State.loadKey]
  rcases keyUnwrap Config.wrapKey (NTab.get [] n.nsidx (u.area 0).keys) with _ | key
  · exact hu.loseKey
  · exact hu.setKey

theorem State.Backed.loadKeys (hu : u.Backed) : u.loadKeys.Backed := .foldl (fun _ _ hv => hv.loadKey) hu

theorem State.Backed.laneAsk {k : Nat} (hu : u.Backed) : (u.laneAsk k).Backed := .ite hu.parts hu

theorem State.Backed.lanesAsk (hu : u.Backed) : u.lanesAsk.Backed := .foldl (fun _ _ hv => hv.laneAsk) hu

theorem State.Backed.laneTake {k : Nat} {bs : List Byte} {p : Bool} (hu : u.Backed) : (u.laneTake k bs p).Backed :=
  .ite hu.setLane hu

/-! ### Machine/Dma -/

theorem State.Backed.setDch {c : Nat} {v : Dch} (hu : u.Backed) : (u.setDch c v).Backed := hu.parts

theorem State.Backed.lineTrap {line : Nat} (hu : u.Backed) : (u.lineTrap line).Backed := .ite hu.dmaTrap hu

theorem State.Backed.dmaHalt {c err : Nat} (hu : u.Backed) : (u.dmaHalt c err).Backed := hu.wr.wr.wr.wr.setDch.lineTrap

theorem State.Backed.busHalt {c addr : Nat} {timeout : Bool} (hu : u.Backed) : (u.busHalt c addr timeout).Backed :=
  hu.dmaHalt.raise

theorem State.Backed.busErr {c addr n kind : Nat} (hu : u.Backed) : (u.busErr c addr n kind).Backed :=
  hu.spaceError.busHalt

theorem State.Backed.malformed {c addr tag : Nat} (hu : u.Backed) : (u.malformed c addr tag).Backed :=
  hu.parts.raise.busHalt

theorem State.Backed.sourceFailed {a n tag : Nat} {ans : Answer} (hu : u.Backed) : (u.sourceFailed a n tag ans).Backed :=
  .ite hu.parts.lineFailed hu

theorem State.Backed.requestFails {q : BufReq} (hu : u.Backed) : (u.requestFails q).Backed := by
  unfold State.requestFails
  split
  · exact .ite hu.busHalt hu
  · exact hu

theorem execBufferAccess_backed {q : BufReq} (hu : u.Backed) : Res.Backed (execBufferAccess q u) :=
  .next (.ite hu.raise.requestFails (.ite hu.spaceError.requestFails (.ite hu (.ite (.busWrite (by
              split
              · exact hu.lineRead
              · exact hu)) hu.lineRead))))

theorem State.Backed.lineCount {line : Nat} (hu : u.Backed) : (u.lineCount line).Backed := .ite hu.wr.raise hu.setLpend

theorem execDmaRequest_backed {line : Fin 128} (hu : u.Backed) : Res.Backed (execDmaRequest line u) :=
  .next (.ite (by
      split
      · exact hu
      · exact hu.setHse.lineCount.oceServe) (.ite (by
        split
        · exact hu
        · exact hu.setHse.lineCount) (.ite hu hu.parts.lineCount)))

theorem execDmaSwreq_backed {line : BitVec 7} (hu : u.Backed) : Res.Backed (execDmaSwreq line u) :=
  .next (.on hu hu.parts)

theorem execDmaChannelEnable_backed {c : Fin 128} (hu : u.Backed) : Res.Backed (execDmaChannelEnable c u) :=
  .next (.on hu (.ite hu.wr.wr.lineTrap.raise (.after (fun h3 => .ite h3.setDch.wr.dmaHalt.raise h3.setDch)
      hu.wr.wr.wr.wr.wr.wr.wr.wr)))

theorem State.Backed.chainEnd {c : Nat} {stop : Bool} {wb : WriteBack} (hu : u.Backed) : (u.chainEnd c stop wb).Backed :=
  .after (fun h1 => .ite (.busHalt (.ite h1.parts.busWrite h1.parts)) (.setDch (.wr (.wrb (.wr (.wr (.wr (.ite h1.busWrite
      h1)))))))) (.ite hu.ownAccess hu)

theorem execDmaStop_backed {c : Fin 128} {wb : WriteBack} (hu : u.Backed) : Res.Backed (execDmaStop c u wb) :=
  .next (.on hu hu.chainEnd)

theorem execDmaCtlEnable_backed {en : Bool} (hu : u.Backed) : Res.Backed (execDmaCtlEnable en u) := .next (.on hu hu.wrb)

theorem State.Backed.guardNow {c : Nat} (hu : u.Backed) : (u.guardNow c).Backed := .ite hu.wrb hu.wrb.setDch

theorem State.Backed.fetchTag {c : Nat} (hu : u.Backed) : (u.fetchTag c).Backed := hu.parts.fabric

theorem execDescriptorFetchDone_backed {c : Fin 128} {ans : Answer} (hu : u.Backed) :
    Res.Backed (execDescriptorFetchDone c ans u) :=
  .next (.on hu (.ite hu.dmaHalt.raise (.after (fun h1 => .ite h1.busErr (by
            dsimp only
            split
            · exact h1.satAdd.setDch.dmaHalt.raise
            · exact h1.satAdd.setDch.wr.guardNow)) hu.wr.fetchTag.sourceFailed)))

theorem State.Backed.burstCount {c : Nat} {bytes : List Byte} {p : Bool} {wb : WriteBack} (hu : u.Backed) :
    (u.burstCount c bytes p wb).Backed :=
  .after (fun h2 => .after (fun h3 => .after (fun h4 => .ite h4.setDch.guardNow (.ite h4.setDch.wr.guardNow (.ite
      h4.setDch.chainEnd h4.setDch))) (.ite h3.wr h3)) (.ite h2.wr h2)) (.ite hu.wr.wrapAdd.wr hu.wr.wrapAdd)

theorem State.Backed.stageFrame {h tag : Nat} {data : List Byte} {p : Bool} (hu : u.Backed) :
    (u.stageFrame h tag data p).Backed := hu.setChan

theorem State.Backed.burstWrite {c h : Nat} {ans : Answer} {wb : WriteBack} (hu : u.Backed) :
    (u.burstWrite c h ans wb).Backed := by
  unfold State.burstWrite
  dsimp only
  split
  · exact hu
  · exact .ite hu (.ite hu.malformed (.ite hu.busErr hu.sourceFailed.setHse.setLpend.stageFrame.fabric.burstCount.oceServe))

theorem State.Backed.burstRead {c h : Nat} {ans : Answer} {wb : WriteBack} (hu : u.Backed) :
    (u.burstRead c h ans wb).Backed := by
  unfold State.burstRead
  dsimp only
  split
  · exact hu
  · exact .ite hu (.ite hu.malformed (.ite hu.busErr (.after (fun h2 => .burstCount (.ite h2.latchOn h2))
        hu.setHse.setLpend.fabric.busWrite)))

theorem State.Backed.burstLane {c line : Nat} {ans : Answer} {wb : WriteBack} (hu : u.Backed) :
    (u.burstLane c line ans wb).Backed :=
  .ite hu (.ite hu.malformed (.ite hu.busErr (.after (fun h1 => .laneAsk (.burstCount (.fabric (.laneTake (.ite h1.setLpend
      h1))))) hu.sourceFailed)))

theorem State.Backed.burstCopy {c line : Nat} {ans : Answer} {wb : WriteBack} (hu : u.Backed) :
    (u.burstCopy c line ans wb).Backed :=
  .ite hu (.ite hu.malformed (.ite hu.busErr (.ite hu.busErr (.after (fun h1 => .burstCount (.busWrite (.fabric (.ite
      h1.setLpend h1)))) hu.sourceFailed))))

theorem execDmaBurstDone_backed {c : Fin 128} {ans : Answer} {wb : WriteBack} (hu : u.Backed) :
    Res.Backed (execDmaBurstDone c ans u wb) :=
  .next (.on hu (.ite hu.burstWrite (.ite hu.burstRead (.ite hu.burstLane hu.burstCopy))))

theorem execDmaBusTimeout_backed {c : Fin 128} (hu : u.Backed) : Res.Backed (execDmaBusTimeout c u) :=
  .next (.on hu (.ite hu.wr.busHalt (.ite hu (.ite hu.busHalt (.ite hu.busHalt hu.parts.busHalt)))))

theorem execGuardWait1ms_backed {c : Fin 128} (hu : u.Backed) : Res.Backed (execGuardWait1ms c u) :=
  .next (.on hu hu.setDch.raise)

/-! ### Machine/PsOps -/

theorem State.Backed.psEnter0 {ps cause : Nat} (hu : u.Backed) : (u.psEnter0 ps cause).Backed :=
  .after (fun h3 => .moveTier (.ite (.foldl (fun _ _ hv => .ite .armUnload hv) h3.parts.closeUnits.saveRecords) h3.parts))
      (.ite hu.parts.wr hu.parts.wr.raise)

theorem State.Backed.psEnter {ps cause : Nat} (hu : u.Backed) : (u.psEnter ps cause).Backed :=
  .ite hu.psEnter0.wr.psEnter0 hu.psEnter0

theorem State.Backed.psRequest {ps cause : Nat} (hu : u.Backed) : (u.psRequest ps cause).Backed :=
  .ite hu.wr.psEnter hu.wr.parts

theorem State.Backed.psWake (hu : u.Backed) : u.psWake.Backed := .ite hu.psRequest hu

/-! ### Machine/HifAdmit -/

theorem State.Backed.openZone {ns z : Nat} {st : ZoneSt} {t : State} (hu : u.Backed) (e : u.openZone ns z st = .inl t) :
    t.Backed := by
  unfold State.openZone at e
  dsimp only at e
  split at e
  · cases e; exact .ite hu.setZone hu
  · split at e
    · cases e
    · split at e
      · cases e; exact hu.setZone
      · split at e <;> cases e
        exact hu.setZone.closeUnit.setZone

theorem State.Backed.arbTake {f q : Nat} (hu : u.Backed) : (u.arbTake f q).Backed := .ite hu.parts hu.parts.setCtrl

theorem State.Backed.creditOne {k : Nat} (hu : u.Backed) : (u.creditOne k).Backed := by
  unfold State.creditOne
  dsimp only
  split
  · exact hu
  · exact .ite hu hu.takeCredit.updCmd.ctxState.guardCheck

theorem State.Backed.sqeTag {f : Nat} (hu : u.Backed) : (u.sqeTag f).Backed := hu.parts.fabric

theorem State.Backed.takeEntry {f q : Nat} {e : Sqe} {ranges : List (Nat × Nat)} (hu : u.Backed) :
    (u.takeEntry f q e ranges).2.Backed :=
  .fairCheck (.setMbs (.parts (by
      split
      · exact hu.parts.arbTake.sqeTag.setSq
      · exact hu.parts.arbTake.sqeTag)))

theorem State.Backed.zoneTake {n : Nsp} {tag : Nat} {r : Nat × Nat × Nat} {t : State} (hu : u.Backed)
    (e : u.zoneTake n tag r = .inl t) : t.Backed := by
  unfold State.zoneTake at e
  split at e <;> cases e
  exact (hu.openZone ‹_›).setZone.parts.updCmd

theorem State.Backed.enterLocks {tag : Nat} {l : Option Lock} {n0 n1 : Nat} (hu : u.Backed) :
    (u.enterLocks tag l n0 n1).Backed := .ite hu.failNow hu.updCmd.ctxState.creditOne.guardCheck

theorem State.Backed.admitAdmin {tag : Nat} {e : Sqe} (hu : u.Backed) : (u.admitAdmin tag e).Backed :=
  .enterLocks (.ite hu.psWake hu)

theorem State.Backed.admitIo {tag f : Nat} {e : Sqe} {ranges : List (Nat × Nat)} (hu : u.Backed) :
    (u.admitIo tag f e ranges).Backed :=
  .after (fun h => .ite (.ite h.failNow h.enterLocks) (.ite h.failNow (by
    split
    · exact h.failNow
    · exact .ite h.failNow (.ite (by
        split
        · exact h.failNow
        · exact .ite h.failNow (by
            split
            · exact h.failNow
            · exact (h.zoneTake ‹_›).enterLocks)) h.enterLocks)))) hu.psWake

/-! ### Machine/Hif -/

theorem State.Backed.badDoorbell {f bell v : Nat} (hu : u.Backed) : (u.badDoorbell f bell v).Backed := hu.raise

theorem execSqTailDoorbell_backed {f : Func} {q v : W16} (hu : u.Backed) : Res.Backed (execSqTailDoorbell f q v u) :=
  .next (.on hu (by
      split
      · exact .ite hu.setSq hu.badDoorbell
      · exact hu.badDoorbell))

theorem State.Backed.consumePosted {f q : Nat} {k : Cq} {head n : Nat} (hu : u.Backed) :
    (u.consumePosted f q k head n).Backed := hu.setCq.setCmds.fairCheck

theorem execCqHeadDoorbell_backed {f : Func} {q v : W16} (hu : u.Backed) : Res.Backed (execCqHeadDoorbell f q v u) :=
  .next (.on hu (by
      split
      · exact .ite hu.consumePosted hu.badDoorbell
      · exact hu.badDoorbell))

theorem State.Backed.admitCommand {f q : Nat} {e : Sqe} {ranges : List (Nat × Nat)} (hu : u.Backed) :
    (u.admitCommand f q e ranges).Backed := .ite (.ite hu.takeEntry.admitAdmin hu.takeEntry.failNow) hu.takeEntry.admitIo

theorem State.Backed.skipWide {f q ns : Nat} (hu : u.Backed) : (u.skipWide f q ns).Backed :=
  .raise (by
    split
    · exact hu.setSq
    · exact hu)

theorem execCommandAdmit_backed {f : Func} {q : W16} {e : Sqe} {ranges : List (Nat × Nat)} (hu : u.Backed) :
    Res.Backed (execCommandAdmit f q e ranges u) :=
  .next (.on hu (.ite hu.raise (.on hu (by
          split
          · exact hu.skipWide
          · exact hu.admitCommand))))

theorem execCreditGrant_backed {read : Bool} (hu : u.Backed) : Res.Backed (execCreditGrant read u) :=
  .next (.on hu hu.creditOne)

theorem execHifNextRead_backed (hu : u.Backed) : Res.Backed (execHifNextRead u) :=
  .next (by
    split
    · exact hu.updCmd.ctxState.emit
    · exact hu.emit)

theorem execHifCplWrite_backed {v : W32} (hu : u.Backed) : Res.Backed (execHifCplWrite v u) :=
  .next (.on hu (by
      split
      · exact hu.finishCmd
      · exact hu.wr))

theorem execCompletionPost_backed {f : Func} {q : W16} (hu : u.Backed) : Res.Backed (execCompletionPost f q u) :=
  .next hu.postOne

theorem execLrelFwd_backed {tag : Tag} (hu : u.Backed) : Res.Backed (execLrelFwd tag u) :=
  .next (.on hu (by
      split
      · split
        · exact .ite hu.updCmd hu.wr
        · exact hu.wr
      · exact hu.wr))

theorem execLrelRel_backed {tag : Tag} (hu : u.Backed) : Res.Backed (execLrelRel tag u) :=
  .next (.on hu (by
      split
      · split
        · exact .ite hu.wr hu.updCmd
        · exact hu.wr
      · exact hu.wr))

theorem execHifXferWrite_backed {tag : Tag} (hu : u.Backed) : Res.Backed (execHifXferWrite tag u) :=
  .next (.on hu (by
      split
      · exact .ite hu.spaceError.updCmd hu.wr
      · exact hu.wr))

theorem State.Backed.storeBlocks {data : List Byte} {l : List Nat} (hu : u.Backed) : (u.storeBlocks data l).Backed := by
  induction l generalizing u data with
  | nil => exact hu
  | cons a t ih => exact ih hu.busWrite

theorem State.Backed.returnPool1 {c : Cmd} (hu : u.Backed) : (u.returnPool1 c).Backed := .ite hu hu.giveCredit.updCmd

theorem State.Backed.hostTags {c : Cmd} {read : Bool} (hu : u.Backed) : (u.hostTags c read).Backed :=
  .foldl (fun _ _ hv => hv.fabric) hu

theorem State.Backed.transferDone {c : Cmd} {bad : Option Nat} (hu : u.Backed) : (u.transferDone c bad).Backed :=
  .ite hu (.ite hu.dropCmd.fairCheck (by
      split
      · exact hu.updCmd.noteStatus
      · exact hu))

theorem execHostTransferEnd_backed {tag : Tag} {err : Bool} {data : List Byte} (hu : u.Backed) :
    Res.Backed (execHostTransferEnd tag err data u) :=
  .next (by
    split
    · exact .ite (.after (fun h1 => .after (fun h2 => .after (fun h4 => .transferDone (.ite h4.updCmd.returnPool1
          h4.updCmd)) (.ite h2.parts (.ite h2.parts.emit h2.parts.storeBlocks))) (.ite h1 h1.hostTags)) (.foldl (fun _ _ hv
          => hv.spaceError) hu)) hu
    · exact hu)

theorem execHifXdoneRead_backed (hu : u.Backed) : Res.Backed (execHifXdoneRead u) :=
  .next (by
    split
    · exact hu.parts.emit
    · exact hu.emit)

theorem execLockWait1s_backed {tag : Tag} (hu : u.Backed) : Res.Backed (execLockWait1s tag u) :=
  .next (by
    split
    · exact .ite (by
        split
        · exact hu.raise
        · exact hu) hu
    · exact hu)

theorem execOrderedWait1s_backed {tag : Tag} (hu : u.Backed) : Res.Backed (execOrderedWait1s tag u) :=
  .next (by
    split
    · exact .ite hu.raise hu
    · exact hu)

theorem execCqFull1s_backed {f : Func} {q : W16} (hu : u.Backed) : Res.Backed (execCqFull1s f q u) :=
  .next (by
    split
    · exact .ite hu hu.raise
    · exact hu)

theorem execInterruptCoalescingTimeout_backed {f : Func} {q : W16} (hu : u.Backed) :
    Res.Backed (execInterruptCoalescingTimeout f q u) :=
  .next (by
    split
    · exact .ite hu.setCq.emit hu
    · exact hu)

/-! ### Machine/HifAdmin -/

theorem execCreateIoCompletionQueue_backed {tag : Tag} (hu : u.Backed) :
    Res.Backed (execCreateIoCompletionQueue tag u) :=
  .onCmd (fun _ => .ite hu.finishCmd (.ite hu.finishCmd hu.setCq.finishCmd)) hu

theorem execCreateIoSubmissionQueue_backed {tag : Tag} (hu : u.Backed) :
    Res.Backed (execCreateIoSubmissionQueue tag u) :=
  .onCmd (fun _ => .ite hu.finishCmd (.ite hu.finishCmd (.ite hu.finishCmd hu.setSq.finishCmd))) hu

theorem execDeleteIoSubmissionQueue_backed {tag : Tag} (hu : u.Backed) :
    Res.Backed (execDeleteIoSubmissionQueue tag u) :=
  .onCmd (fun _ => by
    split
    · exact .ite hu.finishCmd hu.setSq.endCmds.deleteCheck
    · exact hu.finishCmd) hu

theorem execDeleteIoCompletionQueue_backed {tag : Tag} (hu : u.Backed) :
    Res.Backed (execDeleteIoCompletionQueue tag u) :=
  .onCmd (fun _ => by
    split
    · exact .ite hu.finishCmd (.ite hu.finishCmd hu.setCmds.setCq.fairCheck.finishCmd)
    · exact hu.finishCmd) hu

theorem State.Backed.answer {c : Cmd} {p : Page} {off n : Nat} (hu : u.Backed) : (u.answer c p off n).Backed :=
  hu.parts.emit.finishCmd

theorem State.Backed.logRead {c : Cmd} {lid : Nat} (hu : u.Backed) : (u.logRead c lid).Backed :=
  .ite hu (.ite hu.parts (.ite (by
        split
        · exact hu.parts
        · exact hu) hu))

theorem execGetLogPage_backed {tag : Tag} (hu : u.Backed) : Res.Backed (execGetLogPage tag u) :=
  .onCmd (fun _ => .ite hu.finishCmd (.ite hu.finishCmd (.ite hu.finishCmd (.ite hu.finishCmd (.ite hu.finishCmd
      hu.answer.logRead))))) hu

theorem State.Backed.identifyNs {c : Cmd} {n : Option Nsp} {p : Nsp → Page} (hu : u.Backed) :
    (u.identifyNs c n p).Backed := .ite hu.finishCmd hu.answer

theorem execIdentify_backed {tag : Tag} (hu : u.Backed) : Res.Backed (execIdentify tag u) :=
  .onCmd (fun _ => .ite hu.answer (.ite (.ite hu.answer hu.finishCmd) (.ite hu.identifyNs (.ite hu.answer (.ite
      hu.identifyNs (.ite hu.identifyNs (.ite hu.identifyNs (.ite hu.answer (.ite hu.answer (.ite hu.answer (.ite
      hu.identifyNs (.ite hu.answer (.ite hu.answer hu.finishCmd))))))))))))) hu

theorem execAbort_backed {tag : Tag} (hu : u.Backed) : Res.Backed (execAbort tag u) :=
  .onCmd (fun _ => hu.raise.finishCmd) hu

theorem execAsynchronousEventRequest_backed {tag : Tag} (hu : u.Backed) :
    Res.Backed (execAsynchronousEventRequest tag u) :=
  .onCmd (fun _ => .ite hu (.ite hu.finishCmd (by
        split
        · exact hu.setCtrl.finishCmd
        · exact hu.setCtrl))) hu

theorem Res.Backed.setting {tag : Tag} {pick : Nat → Bool} {go : Cmd → State} (hgo : ∀ x : Cmd, (go x).Backed) (hu :
    u.Backed) :
    Res.Backed (u.setting tag pick go) := .onCmd (fun _ => .ite hu (.ite hu.finishCmd (.ite hu.finishCmd (hgo _)))) hu

theorem Res.Backed.pfSetting {tag : Tag} {fid : Nat} {go : Cmd → State} (hgo : ∀ x : Cmd, (go x).Backed) (hu : u.Backed)
    :
    Res.Backed (u.pfSetting tag fid go) := .setting (fun _ => .ite hu.finishCmd (hgo _)) hu

theorem execSetPowerManagement_backed {tag : Tag} (hu : u.Backed) : Res.Backed (execSetPowerManagement tag u) :=
  .pfSetting (fun _ => .ite hu.finishCmd hu.psRequest.finishCmd) hu

theorem execSetVolatileWriteCache_backed {tag : Tag} (hu : u.Backed) : Res.Backed (execSetVolatileWriteCache tag u) :=
  .pfSetting (fun _ => hu.setFeat.finishCmd) hu

theorem execSetSpindleGovernor_backed {tag : Tag} (hu : u.Backed) : Res.Backed (execSetSpindleGovernor tag u) :=
  .pfSetting (fun _ => .finishCmd (.ite hu.setFeat hu.setFeat.moveTier)) hu

theorem execSetErrorRecovery_backed {tag : Tag} (hu : u.Backed) : Res.Backed (execSetErrorRecovery tag u) :=
  .setting (fun _ => .ite hu.finishCmd hu.setFeat.finishCmd) hu

theorem execSetFeatures_backed {tag : Tag} {data : List Byte} (hu : u.Backed) :
    Res.Backed (execSetFeatures tag data u) :=
  .setting (fun _ => .ite hu.setFeat.finishCmd (.ite (.ite hu.setFeat.finishCmd hu.finishCmd) (.ite (.ite hu.finishCmd
      hu.finishCmd) (.ite hu.setFeat.finishCmd (.ite (.ite hu.finishCmd hu.setFeat.finishCmd) (.ite (.ite hu.finishCmd
      (.finishCmd (.setFeat (.foldl (fun _ _ hv => hv.setFeat) hu)))) (.ite hu.setFeat.setFeat.setFeat.finishCmd
      hu.finishCmd))))))) hu

theorem execGetFeatures_backed {tag : Tag} (hu : u.Backed) : Res.Backed (execGetFeatures tag u) :=
  .onCmd (fun _ => .ite hu.finishCmd (.ite hu.finishCmd (.ite hu.finishCmd (.ite (.ite hu.finishCmd hu.finishCmd) (.ite
      hu.finishCmd (.ite hu.finishCmd (.ite (.ite hu.finishCmd hu.finishCmd) (.ite hu.emit.finishCmd (.ite hu.emit.finishCmd
      (.ite hu.finishCmd hu.finishCmd)))))))))) hu

theorem execDirectiveSend_backed {tag : Tag} (hu : u.Backed) : Res.Backed (execDirectiveSend tag u) :=
  .onCmd (fun _ => hu.finishCmd) hu

theorem execDirectiveReceive_backed {tag : Tag} (hu : u.Backed) : Res.Backed (execDirectiveReceive tag u) :=
  .onCmd (fun _ => .ite hu.answer hu.finishCmd) hu

theorem State.Backed.assign {c : Cmd} {f rt nr : Nat} {later : Bool} (hu : u.Backed) :
    (u.assign c f rt nr later).Backed := .ite hu.finishCmd hu.setCtrl.virtEvent.finishCmd

theorem execVirtualizationManagement_backed {tag : Tag} (hu : u.Backed) :
    Res.Backed (execVirtualizationManagement tag u) :=
  .onCmd (fun _ => .ite hu.finishCmd (.ite (.ite hu.finishCmd (.ite hu.finishCmd hu.assign)) (.ite hu.finishCmd (.ite (.ite
      hu.finishCmd (.ite hu.finishCmd hu.assign)) (.ite (.ite hu.finishCmd hu.setCtrl.virtEvent.finishCmd) (.finishCmd
      (.virtEvent (.setCtrl (.ite hu.resetCtrl hu))))))))) hu

/-! ### Machine/Hse -/

theorem State.Backed.consume {h c : Nat} (hu : u.Backed) : (u.consume h c).Backed := by
  unfold State.consume
  split
  · exact .ite hu.setHse hu
  · exact hu

theorem State.Backed.timerGuess {h c : Nat} (hu : u.Backed) : (u.timerGuess h c).Backed :=
  .ite (.ite hu.parts.wr hu.parts) hu

theorem State.Backed.jc {h n : Nat} (hu : u.Backed) : (u.jc h n).2.Backed := hu.timerGuess.consume

theorem State.Backed.microEvent {h cause imm : Nat} (hu : u.Backed) : (u.microEvent h cause imm).Backed := hu.raise

theorem State.Backed.actCqdone {h n : Nat} (hu : u.Backed) : (u.actCqdone h n).Backed := hu.setHse

theorem State.Backed.actCqld {h : Nat} (hu : u.Backed) : (u.actCqld h).Backed :=
  .ite hu.cause hu.setHse.setChan.wr.wr.wr.wr

theorem State.Backed.actDst {h n : Nat} {own : Bool} (hu : u.Backed) : (u.actDst h n own).Backed := by
  unfold State.actDst
  dsimp only
  split
  · exact .ite hu.wr hu
  · exact .ite hu.wr hu
  · exact .ite hu.wr hu
  · exact hu.wr
  · exact hu.wr
  · exact hu.setHse
  · exact hu.microEvent
  · exact hu.cause
  · exact hu

theorem State.Backed.applyHeld {h : Nat} (hu : u.Backed) : (u.applyHeld h).Backed :=
  .setHse (.foldl (fun _ _ hv => hv.mwr) hu)

theorem State.Backed.actSkip {h : Nat} (hu : u.Backed) : (u.actSkip h).Backed := hu.applyHeld.setHse

theorem State.Backed.actDreq {h : Nat} (hu : u.Backed) : (u.actDreq h).Backed :=
  .ite hu.cause (.ite hu (.ite hu.setHse hu.setHse))

theorem State.Backed.actLcld {h n : Nat} (hu : u.Backed) : (u.actLcld h n).Backed := by
  unfold State.actLcld
  split
  · exact hu.wr
  · exact hu.wr
  · exact hu.wr
  · exact hu

theorem State.Backed.actGates {h n : Nat} (hu : u.Backed) : (u.actGates h n).Backed := by
  unfold State.actGates
  extract_lets v w
  have hv : v.Backed := .ite hu (by split <;> first | exact hu.wrBit | exact hu)
  have hw : w.Backed := by
    unfold w
    split
    · exact hv.openR
    · exact hv.rgClose
    · exact hv
  split
  · exact hw.openW
  · exact hw.wgClose
  · exact hw

theorem State.Backed.actTsdrop {h : Nat} (hu : u.Backed) : (u.actTsdrop h).Backed := by
  unfold State.actTsdrop
  split
  · exact hu.cause
  · exact hu.setHse.hseShow

theorem State.Backed.actions {h n : Nat} (hu : u.Backed) : (u.actions h n).Backed :=
  .after (fun h1 => .after (fun h2 => .after (fun h3 => .after (fun h4 => .after (fun h5 => .after (fun h7 => .after (fun h8
      => .after (fun h9 => .after (fun h10 => .ite h10.actTsdrop h10) (.ite h9.actGates h9)) (.ite h8.farm h8)) (.ite
      h7.actDreq h7)) (.ite h5.actDst.actSkip h5.actDst)) (.actLcld (.ite h4.wr h4))) (.ite h3.wrapAdd h3)) (.ite h2.actCqld
      h2)) (.ite h1.actCqdone h1)) (.ite (.ite hu.wr hu.wr.setHse.microEvent) hu)

theorem State.Backed.arrive {h a : Nat} (hu : u.Backed) : (u.arrive h a).Backed := .ite hu.wr.cause hu.wr

theorem State.Backed.arriveNext {h : Nat} (hu : u.Backed) : (u.arriveNext h).Backed := hu.arrive

theorem State.Backed.latchNano {h n : Nat} (hu : u.Backed) : (u.latchNano h n).Backed := hu.setHse

theorem State.Backed.boundary {h : Nat} (hu : u.Backed) : (u.boundary h).Backed := .ite hu.hseHalt hu

theorem State.Backed.illop {h : Nat} (hu : u.Backed) : (u.illop h).Backed := hu.setHse.arriveNext.cause.hseShow.boundary

theorem State.Backed.actThen {h n : Nat} {go : State → State} (hgo : ∀ v, v.Backed → (go v).Backed) (hu : u.Backed) :
    (u.actThen h n go).Backed :=
  .ite hu.illop (.ite hu.setHse.hseShow.boundary (.after (fun h2 => .ite (.boundary (.hseShow (hgo _ h2))) h2)
      hu.setHse.actions))

theorem State.Backed.microStep {h : Nat} {go : State → Nat → State} (hgo : ∀ v, v.Backed → ∀ x : Nat, (go v x).Backed)
    (hu : u.Backed) : (u.microStep h go).Backed := by
  unfold State.microStep
  exact .actThen (fun v hv => hgo v hv _) hu.latchNano

theorem State.Backed.branch {h n : Nat} {go : State → State} (hgo : ∀ v, v.Backed → (go v).Backed) (hu : u.Backed) :
    (u.branch h n go).Backed := .ite hu.arriveNext.cause (.ite (hgo _ hu.jc) hu.jc.arriveNext)

theorem execNext_backed {h : Head} (hu : u.Backed) : Res.Backed (execNext h u) :=
  .next (.on hu (.microStep (fun _ hv _ => hv.arriveNext) hu))

theorem execJump_backed {h : Head} (hu : u.Backed) : Res.Backed (execJump h u) :=
  .next (.on hu (.microStep (fun _ hv _ => .branch (fun _ hv => hv.arrive) hv) hu))

theorem execCall_backed {h : Head} (hu : u.Backed) : Res.Backed (execCall h u) :=
  .next (.on hu (.microStep (fun _ hv _ => .branch (fun _ hv => .ite hv.arriveNext.cause hv.setHse.arrive) hv) hu))

theorem execRet_backed {h : Head} (hu : u.Backed) : Res.Backed (execRet h u) :=
  .next (.on hu (.microStep (fun _ hv _ => .branch (fun _ hv => by
          dsimp only
          split
          · exact hv.arriveNext.cause
          · exact hv.setHse.arrive) hv) hu))

theorem execLoop_backed {h : Head} (hu : u.Backed) : Res.Backed (execLoop h u) :=
  .next (.on hu (.microStep (fun _ hv _ => .ite hv.arriveNext (.arrive (hv.wr (by split <;> decide)))) hu))

theorem State.Backed.waitMet {h c : Nat} (hu : u.Backed) : (u.waitMet h c).Backed :=
  .actThen (fun _ hv => hv.arriveNext) hu.consume

theorem execWait_backed {h : Head} (hu : u.Backed) : Res.Backed (execWait h u) :=
  .next (.on hu (.ite hu.latchNano.illop (.after (fun h3 => .ite h3.waitMet h3.consume.boundary)
      hu.latchNano.timerGuess.setHse.hseShow)))

theorem execWaitConditionMet_backed {h : Head} (hu : u.Backed) : Res.Backed (execWaitConditionMet h u) :=
  .next (.on hu (.after (fun h1 => .ite (.actThen (fun _ hv => hv.arriveNext) h1) (.ite h1.waitMet h1)) (.ite hu.wr hu)))

theorem execWaittmo_backed {h : Head} (hu : u.Backed) : Res.Backed (execWaittmo h u) :=
  .next (.on hu hu.setHse.hseShow.cause)

theorem State.Backed.tretPop {h : Nat} (hu : u.Backed) : (u.tretPop h).Backed := by
  unfold State.tretPop
  dsimp only
  split
  · exact hu.arriveNext.cause
  · exact .after (fun h2 => .ite h2.wr.hseShow h2.wr.hseShow.cause) hu.setHse.wr.wr.wr

theorem execTret_backed {h : Head} (hu : u.Backed) : Res.Backed (execTret h u) :=
  .next (.on hu (.microStep (fun _ hv _ => hv.tretPop) hu))

theorem execHalt_backed {h : Head} (hu : u.Backed) : Res.Backed (execHalt h u) :=
  .next (.on hu (.microStep (fun _ hv _ => hv.hseHalt) hu))

theorem execIllegalSeq_backed {h : Head} (hu : u.Backed) : Res.Backed (execIllegalSeq h u) :=
  .next (.on hu hu.arriveNext.cause.hseShow.boundary)

theorem State.Backed.takeTrap {h : Nat} (hu : u.Backed) : (u.takeTrap h).Backed := by
  unfold State.takeTrap
  split
  · exact hu
  · exact .ite hu.hseHalt hu.setHse.wrBit.arrive.hseShow

theorem execTrapEntry_backed {h : Head} {parity : Bool} (hu : u.Backed) : Res.Backed (execTrapEntry h parity u) :=
  .next (.on hu (.ite hu.hseHalt (.ite hu hu.takeTrap)))

theorem execAtomOverrun_backed {h : Head} (hu : u.Backed) : Res.Backed (execAtomOverrun h u) :=
  .next (.on hu (.after (fun h2 => .ite h2.hseHalt h2.takeTrap) hu.setHse.wr.microEvent))

theorem State.Backed.hseStart {h : Nat} (hu : u.Backed) : (u.hseStart h).Backed :=
  .ite hu hu.wr.setHse.wr.wr.wr.wr.arrive.hseShow

theorem execHseRunStart_backed {h : Head} (hu : u.Backed) : Res.Backed (execHseRunStart h u) :=
  .next (.on hu (.ite hu.hseStart hu.wr))

theorem execHseRunStop_backed {h : Head} (hu : u.Backed) : Res.Backed (execHseRunStop h u) :=
  .next (.on hu (.ite hu.wr.setHse.boundary hu.wr))

theorem execDoorbellCmd_backed {h : Head} (hu : u.Backed) : Res.Backed (execDoorbellCmd h u) := .next (.on hu hu.cause)

theorem execDoorbellAbort_backed {h : Head} (hu : u.Backed) : Res.Backed (execDoorbellAbort h u) :=
  .next (.on hu hu.cause)

theorem execCqptrTailWrite_backed {h : Head} {v : BitVec 4} (hu : u.Backed) : Res.Backed (execCqptrTailWrite h v u) :=
  .next (.on hu (.ite hu.wr hu.wr))

theorem execHseDoneRead_backed {h : Head} (hu : u.Backed) : Res.Backed (execHseDoneRead h u) :=
  .next (.on hu (by
      split
      · exact hu.emit
      · exact hu.setHse.emit))

theorem execHseStoreWrite_backed {h : Head} {ofs : W16} {v : W32} (hu : u.Backed) :
    Res.Backed (execHseStoreWrite h ofs v u) := .next (.on hu (.ite hu.wr.microEvent hu.mwr))

theorem execDefectTableWrite_backed {h : Head} {w : Fin 1024} {v : W32} (hu : u.Backed) :
    Res.Backed (execDefectTableWrite h w v u) := .next (.on hu (.ite hu.setHse hu.mwr))

theorem execSkipCheckDone_backed {h : Head} (hu : u.Backed) : Res.Backed (execSkipCheckDone h u) :=
  .next (.on hu hu.setHse.applyHeld)

theorem execSlotBoundary_backed {h : Head} (hu : u.Backed) : Res.Backed (execSlotBoundary h u) :=
  .next (.on hu (.after (fun h2 => .oceServe (.ite (.ite h2.wgEnd (.ite h2.startWrite (.ite h2.starve h2))) h2)) (.ite
      (.after (fun h2 => .ite h2.rgEnd (.ite h2.startRead h2)) hu.latchOn.setChan.adaptEq) hu.latchOn)))

theorem execKeepOutStart_backed {h : Head} (hu : u.Backed) : Res.Backed (execKeepOutStart h u) :=
  .next (.on hu hu.setHse.wr.servoGate.wgFall)

theorem State.Backed.koResume {h : Nat} (hu : u.Backed) : (u.koResume h).Backed :=
  .ite (.ite hu hu.wgRise) (.ite hu.startWrite (.ite hu.startRead hu))

theorem execKeepOutEnd_backed {h : Head} (hu : u.Backed) : Res.Backed (execKeepOutEnd h u) :=
  .next (.on hu hu.setHse.wr.servoGate.koResume)

theorem execWritePermitDrop_backed {h : Head} (hu : u.Backed) : Res.Backed (execWritePermitDrop h u) :=
  .next (.on hu hu.wgCut.cause)

theorem State.Backed.selfUnload {a : Nat} (hu : u.Backed) : (u.selfUnload a).Backed := .ite (.sceFault .armUnload) hu

theorem State.Backed.markMissing {h : Nat} (hu : u.Backed) : (u.markMissing h).Backed :=
  .after (fun h2 => .ite h2.cause.selfUnload h2) hu.setHse.wr.servoGate.wgFall

theorem execServoAddressMark_backed {h : Head} {widx : BitVec 9} {count : W16} (hu : u.Backed) :
    Res.Backed (execServoAddressMark h widx count u) :=
  .next (.on hu (.ite hu.markMissing (.after (fun h2 => .wgFall (.servoGate (.ite h2.setChan h2))) (.latchOn (.wr (.wr (.ite
      hu.setHse.wr hu.setHse)))))))

theorem execSamMissing_backed {h : Head} (hu : u.Backed) : Res.Backed (execSamMissing h u) :=
  .next (.on hu hu.markMissing)

/-! ### Machine/RegOps -/

theorem State.Backed.shutMark {k : RKey} (hu : u.Backed) : (u.shutMark k).Backed := by
  unfold State.shutMark
  split <;> first | exact hu | exact hu.wr

theorem State.Backed.storeField {k : RKey} {v : Nat} (hk : k.reg ≠ .SPN_WP_WP ∧ k.reg ≠ .SPN_WP_EN) (hu : u.Backed) :
    (u.storeField k v).Backed :=
  .ite hu.shutMark (hu.wr hk)

theorem State.Backed.loadWin {a n v : Nat} {m : WinMem} (hu : u.Backed) : (u.loadWin a n v m).Backed := by
  unfold State.loadWin
  split
  · exact hu.mwr
  · exact .ite hu hu.mwr
  · exact hu
  · exact hu
  · exact hu.mwr

/-! ### Machine/Image -/

theorem State.Backed.placeRun {a : Nat} {bs : List Byte} (h : within 0x10000000 0x12000000 a = false) (hu : u.Backed) :
    (u.placeRun a bs).Backed := by
  rw [State.placeRun, if_neg (by simp [h])]
  exact hu.busWrite

/-! ### Machine/ResetOps -/

theorem State.Backed.bootCause {window : Bool} {halt : Nat} (hu : u.Backed) : (u.bootCause window halt).Backed :=
  hu.wr.wr.wrb.wrb.wr

theorem State.Backed.writeStat {level : Nat} (hu : u.Backed) : (u.writeStat level).Backed :=
  hu.wr.wrb.wrb.wrb.wr.wrb.wr.wr.wr.wrb.wr.wr.wr

theorem State.Backed.pulseStart {c : PulseCause} (hu : u.Backed) : (u.pulseStart c).Backed := .ite hu hu.setRst

theorem State.Backed.countTry (hu : u.Backed) : u.countTry.Backed := hu.satAdd

theorem State.Backed.recoveryMode (hu : u.Backed) : u.recoveryMode.Backed := hu.setRst.raise

theorem State.Backed.loaderStart (hu : u.Backed) : u.loaderStart.Backed := .ite hu.setRst.recoveryMode hu.setRst

theorem State.Backed.loaderFail (hu : u.Backed) : u.loaderFail.Backed :=
  .after (fun h2 => .ite h2.raise.recoveryMode h2.raise.pulseStart) hu.bootCause.countTry.setRst

theorem State.Backed.copyFails {reason part : Nat} {placed : List (Nat × List Byte)} : (u.copyFails reason part placed).Backed :=
  .after (fun h => .ite h.setRst.loaderFail h.setRst.raise) (State.updWp_backed _)

theorem State.Backed.copyGood {g : Img} {l : Load} : (u.copyGood g l).Backed := by
  unfold State.copyGood
  refine State.Backed.setRst (State.updWp_backed _) ?_
  dsimp only
  split <;> exact le_rfl

theorem State.Backed.dropFields {p : RKey → Bool} (hu : u.Backed)
    (hp : ∀ k, p k = true → k.reg ≠ .SPN_WP_WP ∧ k.reg ≠ .SPN_WP_EN) : (u.dropFields p).Backed := by
  have h (r i j) (hr : p ⟨r, i, j⟩ = false) : (u.dropFields p).rd r i j = u.rd r i j :=
    congrArg BitVec.toNat (Tab.get_filterKeys (p := fun k => !p k) (by rw [hr]; rfl) u.regs)
  refine hu.mono (h .SPN_WP_WP 0 0 ?_) (fun a => ?_)
  · exact Bool.not_eq_true _ ▸ fun e => (hp _ e).1 rfl
  · rw [State.WpHeld, State.wpConds_congr (t := u.dropFields p) (u := u) rfl rfl (h .SPN_WP_EN 0 0 (Bool.not_eq_true _ ▸ fun e => (hp _ e).2 rfl))]
    exact id

/-- A soft reset of a block does not reach the permit, which is the spindle's. -/
theorem softField_permit {b : Blk} {i : Nat} {k : RKey} (hb : b ≠ .SPN) (h : softField b i k = true) :
    k.reg ≠ .SPN_WP_WP ∧ k.reg ≠ .SPN_WP_EN := by
  simp only [softField, Bool.and_eq_true, beq_iff_eq] at h
  obtain ⟨⟨⟨hk, -⟩, -⟩, -⟩ := h
  constructor <;> intro e <;> rw [e] at hk <;> exact hb hk.symm

theorem State.Backed.dropMem {lo hi : Nat} (hu : u.Backed) : (u.dropMem lo hi).Backed := hu.filterMem

theorem State.Backed.softReset {sel : Nat} (hu : u.Backed) : (u.softReset sel).Backed := by
  have h {b i} (hb : b ≠ Blk.SPN) : (u.dropFields (softField b i)).Backed := hu.dropFields (fun _ => softField_permit hb)
  have hk {b} (hb : b ≠ Blk.SPN) : (u.dropFields (fun k => softField b k.i k)).Backed :=
    hu.dropFields (fun _ => softField_permit hb)
  exact .ite (h (by decide)).setHse.dropMem (.ite (h (by decide)).setChan.dropMem (.ite (State.updWp_backed _) (.ite (h (by decide)).setSpn
    (.ite (hk (by decide)).parts (.ite (hk (by decide)).parts (.ite (.foldl (fun _ _ hv => hv.setHse) (hk (by decide)).parts) hu))))))

/-! ### Machine/Nor -/

theorem State.Backed.norDo {op : NorOp} (hu : u.Backed) : (u.norDo op).Backed := hu.parts

theorem State.Backed.norBad {op : NorOp} (hu : u.Backed) : (u.norBad op).Backed := hu.parts

theorem State.Backed.jobEnd {j : NorJob} {st : Nat} (hu : u.Backed) : (u.jobEnd j st).Backed := by
  unfold State.jobEnd
  split
  · exact hu.finishCmd
  · exact hu

theorem State.Backed.drainStart {tag : Nat} (hu : u.Backed) : (u.drainStart tag).Backed := by
  unfold State.drainStart
  exact .closeUnits (.parts (.raise (.foldl (fun _ _ hv => hv.notify) hu)))

theorem State.Backed.drainEnd {tag result ms st : Nat} (hu : u.Backed) : (u.drainEnd tag result ms st).Backed := by
  unfold State.drainEnd
  dsimp only
  split
  · exact hu.parts.raise.finishCmd
  · exact hu.parts.raise

theorem State.Backed.activateWord {a v : Nat} (hu : u.Backed) : (u.activateWord a v).Backed := by
  unfold State.activateWord
  split
  · exact hu.mwr
  · exact hu.mwr
  · exact hu.cogStore
  · exact hu

theorem State.Backed.activateSce {recs : List (Nat × List Byte)} (hu : u.Backed) : (u.activateSce recs).Backed :=
  .foldl (fun _ _ hv => .ite hv.castleTo hv) (.foldl (fun _ _ hv => hv.activateWord) hu)

theorem State.Backed.activate (hu : u.Backed) : u.activate.Backed := by
  unfold State.activate
  refine .foldl (fun x _ hx => ?_) (.foldl (fun _ _ hv => .ite hv.wr.hseHalt hv) hu.setRst)
  split
  · exact hx.placeRun (by decide)
  · exact .ite (State.updWp_backed _) (.ite hx.activateSce hx)

theorem execActivationDrainDone_backed {ms : W16} (hu : u.Backed) : Res.Backed (execActivationDrainDone ms u) :=
  .next (by
    split
    · exact hu
    · exact .on hu hu.activate.drainEnd)

theorem execActivationDrainTimeout_backed (hu : u.Backed) : Res.Backed (execActivationDrainTimeout u) :=
  .next (by
    split
    · exact hu
    · exact hu.drainEnd)

theorem State.Backed.jobDone {j : NorJob} (hu : u.Backed) : (u.jobDone j).Backed := by
  unfold State.jobDone
  split
  · exact hu.jobEnd
  · exact hu.jobEnd
  · exact hu.jobEnd
  · exact hu
  · exact hu.jobEnd
  · exact hu.jobEnd
  · exact hu.drainStart
  · exact hu.jobEnd.wr.pulseStart

theorem State.Backed.stageAt {j : NorJob} (hu : u.Backed) : (u.stageAt j).Backed := .ite hu.parts hu

theorem State.Backed.startJobs {l : List NorJob} (hu : u.Backed) : (State.startJobs l u).Backed := by
  induction l generalizing u with
  | nil => exact hu.parts
  | cons j t ih =>
    unfold State.startJobs
    split
    · exact ih hu.jobEnd
    · split
      · exact ih hu.jobDone
      · exact hu.stageAt.parts

theorem State.Backed.addJob {j : NorJob} (hu : u.Backed) : (u.addJob j).Backed := by
  unfold State.addJob
  split
  · exact hu.startJobs
  · exact hu.parts

theorem execNorWriteComplete_backed {ok : Bool} {bad : W32} (hu : u.Backed) :
    Res.Backed (execNorWriteComplete ok bad u) :=
  .next (by
    split
    · exact hu
    · split
      · exact hu.parts.jobDone.startJobs
      · exact .ite (.ite hu.norDo.parts.jobDone.startJobs hu.norDo.parts) (.after (fun h1 => .startJobs (.jobEnd (by
                split
                · exact h1.raise
                · exact h1.raise
                · exact h1))) hu.norBad.parts))

theorem execCalibrationSetWrite_backed {tag : Tag} {data : List Byte} (hu : u.Backed) :
    Res.Backed (execCalibrationSetWrite tag data u) := .onCmd (fun _ => .ite hu.addJob hu.finishCmd) hu

theorem execCalibrationSetRead_backed {tag : Tag} (hu : u.Backed) : Res.Backed (execCalibrationSetRead tag u) :=
  .onCmd (fun _ => hu.emit.finishCmd) hu

theorem execFirmwareImageDownload_backed {tag : Tag} {data : List Byte} (hu : u.Backed) :
    Res.Backed (execFirmwareImageDownload tag data u) :=
  .onCmd (fun _ => .ite hu.finishCmd (.ite hu.addJob hu.parts.finishCmd)) hu

theorem Res.Backed.commit {tag ca : Nat} {go : Cmd → State} (hgo : ∀ x : Cmd, (go x).Backed) (hu : u.Backed) :
    Res.Backed (u.commit tag ca go) := .onCmd (fun _ => .ite hu (.ite hu.finishCmd (.ite hu.addJob (hgo _)))) hu

theorem State.Backed.commitJob {c : Cmd} {k : NorKind} (hu : u.Backed) : (u.commitJob c k).Backed := hu.addJob

theorem execFirmwareCommitCa000b_backed {tag : Tag} (hu : u.Backed) : Res.Backed (execFirmwareCommitCa000b tag u) :=
  .commit (fun _ => .ite hu.finishCmd hu.commitJob) hu

theorem execFirmwareCommitCa001b_backed {tag : Tag} (hu : u.Backed) : Res.Backed (execFirmwareCommitCa001b tag u) :=
  .commit (fun _ => hu.commitJob) hu

theorem execFirmwareCommitCa010b_backed {tag : Tag} (hu : u.Backed) : Res.Backed (execFirmwareCommitCa010b tag u) :=
  .commit (fun _ => .ite hu.finishCmd hu.commitJob) hu

theorem execFirmwareCommitCa011b_backed {tag : Tag} (hu : u.Backed) : Res.Backed (execFirmwareCommitCa011b tag u) :=
  .commit (fun _ => .ite hu.finishCmd hu.commitJob) hu

theorem execFirmwareCommitCaReserved_backed {tag : Tag} (hu : u.Backed) :
    Res.Backed (execFirmwareCommitCaReserved tag u) := .onCmd (fun _ => .ite hu hu.finishCmd) hu

/-! ### Machine/HifNs -/

theorem State.Backed.nsEvent {n : Nsp} {op f : Nat} (hu : u.Backed) : (u.nsEvent n op f).Backed := hu.raise

theorem State.Backed.nsNotice {nsid f : Nat} (hu : u.Backed) : (u.nsNotice nsid f).Backed := hu.parts.notify

theorem State.Backed.keepKey {nsidx : Nat} {key : List Byte} (hu : u.Backed) : (u.keepKey nsidx key).Backed :=
  hu.setKey.setArea

theorem State.Backed.newKey {nsidx : Nat} (hu : u.Backed) : (u.newKey nsidx).Backed := hu.parts.keepKey

theorem execNamespaceCreate_backed {tag : Tag} {data : List Byte} (hu : u.Backed) :
    Res.Backed (execNamespaceCreate tag data u) :=
  .onCmd (fun _ => .ite hu.finishCmd (by
      split
      · exact .ite (.after (fun h1 => .finishCmd (.nsEvent (.ite h1.placeZones h1))) (.setNs (.ite hu.parts.newKey
            hu.parts))) hu.parts.finishCmd
      · exact hu.finishCmd)) hu

theorem State.Backed.dropBlocks {ns : Nat} (hu : u.Backed) : (u.dropBlocks ns).Backed := hu.parts

theorem State.Backed.removeNs {n : Nsp} {f : Nat} (hu : u.Backed) : (u.removeNs n f).Backed :=
  .foldl (fun _ _ hv => hv.nsNotice) hu.dropBlocks.keepKey.freeNs.dropPlaces.retryWants.dropConv.setZones.setNs.nsEvent

theorem execNamespaceDelete_backed {tag : Tag} (hu : u.Backed) : Res.Backed (execNamespaceDelete tag u) :=
  .onCmd (fun _ => .ite hu.finishCmd (.ite hu (.finishCmd (.foldl (fun _ _ hv => hv.removeNs) hu)))) hu

theorem execNamespaceAttach_backed {tag : Tag} {ctrls : List Func} (hu : u.Backed) :
    Res.Backed (execNamespaceAttach tag ctrls u) :=
  .onCmd (fun _ => by
    split
    · exact hu.finishCmd
    · exact .ite hu.finishCmd (.finishCmd (.foldl (fun _ _ hv => hv.nsEvent.nsNotice) hu.setNs))) hu

theorem execNamespaceDetach_backed {tag : Tag} {ctrls : List Func} (hu : u.Backed) :
    Res.Backed (execNamespaceDetach tag ctrls u) :=
  .onCmd (fun _ => by
    split
    · exact hu.finishCmd
    · exact .ite hu.finishCmd (.ite hu (.finishCmd (.foldl (fun _ _ hv => hv.nsEvent.nsNotice) hu.setNs)))) hu

theorem State.Backed.wipeNs {n : Nsp} (hu : u.Backed) : (u.wipeNs n).Backed :=
  hu.setZones.dropBlocks.setNs.nsBandsReset.dropConv

theorem State.Backed.eraseEvent {c : Cmd} {result : Nat} (hu : u.Backed) : (u.eraseEvent c result).Backed := hu.raise

theorem State.Backed.eraseBegin {c : Cmd} {l : List Nsp} (hu : u.Backed) : (u.eraseBegin c l).Backed :=
  .after (fun h1 => .ite h1.parts (.finishCmd (.eraseEvent (.foldl (fun _ _ hv => hv.wipeNs) h1)))) hu.eraseEvent.endTest

theorem State.Backed.erase {c : Cmd} {st : Nat} {l : List Nsp} (hu : u.Backed) : (u.erase c st l).Backed :=
  .ite hu.finishCmd (.ite hu hu.eraseBegin)

theorem execFormatNvm_backed {tag : Tag} (hu : u.Backed) : Res.Backed (execFormatNvm tag u) :=
  .onCmd (fun _ => hu.erase) hu

theorem execSanitizeCryptoErase_backed {tag : Tag} (hu : u.Backed) : Res.Backed (execSanitizeCryptoErase tag u) :=
  .onCmd (fun _ => hu.erase) hu

theorem execCryptoEraseDone_backed {tag : Tag} (hu : u.Backed) : Res.Backed (execCryptoEraseDone tag u) :=
  .next (by
    split
    · exact .ite hu (.finishCmd (.eraseEvent (.parts (.foldl (fun _ _ hv => hv.wipeNs) (.foldl (fun _ _ hv => hv.newKey)
          hu)))))
    · exact hu)

theorem Res.Backed.selfTest {tag : Tag} {code heads : Nat} (hu : u.Backed) : Res.Backed (u.selfTest tag code heads) :=
  .onCmd (fun _ => by
    split
    · exact hu.finishCmd
    · exact hu.parts.raise.finishCmd) hu

theorem execSelfTestShort_backed {tag : Tag} (hu : u.Backed) : Res.Backed (execSelfTestShort tag u) := .selfTest hu

theorem execSelfTestExtended_backed {tag : Tag} (hu : u.Backed) : Res.Backed (execSelfTestExtended tag u) := .selfTest hu

theorem execSelfCalibration_backed {tag : Tag} (hu : u.Backed) : Res.Backed (execSelfCalibration tag u) := .selfTest hu

theorem execSelfTestAbort_backed {tag : Tag} (hu : u.Backed) : Res.Backed (execSelfTestAbort tag u) :=
  .onCmd (fun _ => hu.endTest.finishCmd) hu

theorem execSelfTestEnd_backed {failed : Bool} {set : List Byte} (hu : u.Backed) :
    Res.Backed (execSelfTestEnd failed set u) :=
  .next (by
    split
    · exact hu
    · exact .ite (.addJob (.parts hu.endTest)) hu.endTest)

theorem execSelfTestPreempt_backed {h : Head} {ms : Byte} (hu : u.Backed) : Res.Backed (execSelfTestPreempt h ms u) :=
  .next (.on hu hu.raise)

/-! ### Machine/L2Ops -/

theorem State.Backed.setL2 {f : L2 → L2} (hu : u.Backed) : (u.setL2 f).Backed := hu.parts

theorem State.Backed.touch {set way : Nat} (hu : u.Backed) : (u.touch set way).Backed := hu.parts

theorem State.Backed.dropLine {l : Line} (hu : u.Backed) : (u.dropLine l).Backed := hu.setL2

theorem State.Backed.putLine {l : Line} (hu : u.Backed) : (u.putLine l).Backed := hu.dropLine.setL2

theorem State.Backed.setHart {c : Nat} {v : HartSt} (hu : u.Backed) : (u.setHart c v).Backed := hu.setL2

theorem State.Backed.holdD {c k : Nat} (hu : u.Backed) : (u.holdD c k).Backed := hu.parts.setHart

theorem State.Backed.holdI {c k : Nat} {bs : List Byte} (hu : u.Backed) : (u.holdI c k bs).Backed := hu.parts.setHart

theorem State.Backed.dropD {k : Nat} {p : Nat → Bool} (hu : u.Backed) : (u.dropD k p).Backed :=
  .foldl (fun _ _ hv => .ite hv.setHart hv) hu

theorem State.Backed.loseLine {l : Line} (hu : u.Backed) : (u.loseLine l).Backed := hu.dropLine.dropD

theorem State.Backed.firmwareTag {poison : Bool} (hu : u.Backed) : (u.firmwareTag poison).Backed := hu.parts.fabric

theorem State.Backed.writeBack {l : Line} {poison : Bool} (hu : u.Backed) : (u.writeBack l poison).Backed :=
  hu.firmwareTag.busWrite

theorem State.Backed.evict {set way : Nat} (hu : u.Backed) : (u.evict set way).Backed := by
  unfold State.evict
  split
  · exact .loseLine (.ite hu.writeBack hu)
  · exact hu

theorem State.Backed.fill {la : Nat} (hu : u.Backed) : (u.fill la).Backed := hu.evict.firmwareTag.putLine.touch

theorem State.Backed.hit {l : Line} (hu : u.Backed) : (u.hit l).Backed :=
  .ite hu.wrapAdd.touch hu.wrapAdd.dropLine.evict.putLine.touch

theorem State.Backed.hitStill {l : Line} (hu : u.Backed) : (u.hitStill l).Backed := hu.wrapAdd.touch

theorem State.Backed.use {la : Nat} (hu : u.Backed) : (u.use la).Backed := by
  unfold State.use
  split
  · exact .ite hu.hit hu.hitStill
  · exact .after (fun h1 => .ite h1.fill h1.firmwareTag) (.ite hu.wrapAdd hu)

theorem State.Backed.storeLine {a : Nat} {bs : List Byte} (hu : u.Backed) : (u.storeLine a bs).Backed := by
  unfold State.storeLine
  dsimp only
  split
  · exact .ite hu.use.putLine hu.use.putLine.firmwareTag.busWrite
  · exact hu.use.busWrite

theorem State.Backed.cachedLoad {a n : Nat} (hu : u.Backed) : (u.cachedLoad a n).2.Backed := .ite hu.use.use hu.use

theorem State.Backed.cachedStore {a : Nat} {bs : List Byte} (hu : u.Backed) : (u.cachedStore a bs).Backed :=
  .ite hu.storeLine.storeLine hu.storeLine

theorem State.Backed.holdLines {c a n : Nat} (hu : u.Backed) : (u.holdLines c a n).Backed :=
  .foldl (fun _ _ hv => .ite hv.holdD hv) hu

theorem State.Backed.ownLines {c a n : Nat} (hu : u.Backed) : (u.ownLines c a n).Backed :=
  .foldl (fun _ _ hv => hv.dropD) hu

theorem State.Backed.fetch {c a n : Nat} (hu : u.Backed) : (u.fetch c a n).2.Backed :=
  .foldl (fun _ _ hv => .ite hv.holdI hv) hu.cachedLoad

theorem State.Backed.memoryRead {a n : Nat} {ecc : Ecc} (hu : u.Backed) : (u.memoryRead a n ecc).Backed := by
  unfold State.memoryRead
  split
  · exact .ite hu.parts.lineRead hu
  · exact hu

theorem State.Backed.loseDirtyLine {l : Line} {l1 : Bool} (hu : u.Backed) : (u.loseDirtyLine l l1).Backed :=
  hu.writeBack.loseLine.wr.raise

theorem State.Backed.tagError {set way : Nat} (hu : u.Backed) : (u.tagError set way).Backed := by
  unfold State.tagError
  dsimp only
  split
  · exact .after (fun h2 => .raise (.ite h2.wr h2)) hu.satAdd.wr.loseLine
  · exact hu.satAdd.wr.raise

theorem State.Backed.refill {la : Nat} {ecc : Ecc} (hu : u.Backed) : (u.refill la ecc).Backed :=
  .ite hu.memoryRead.fill hu.memoryRead

theorem State.Backed.parityError {c a : Nat} {p : Parity} {ecc : Ecc} (hu : u.Backed) :
    (u.parityError c a p ecc).Backed := by
  unfold State.parityError
  dsimp only
  split
  · exact hu
  · exact .ite hu hu.setHart.raise
  · split
    · exact hu
    · exact .ite hu (.ite hu.satAdd.wr.loseDirtyLine hu.satAdd.wr.loseLine.refill.raise)
  · exact .foldl (fun _ _ hv => hv.tagError) hu
  · exact .ite hu (by
      split
      · exact .ite hu.satAdd.wr.loseDirtyLine hu
      · exact hu)

theorem State.Backed.walkErrors {errs : List WalkError} (hu : u.Backed) : (u.walkErrors errs).Backed :=
  .foldl (fun _ _ hv => .ite hv.parityError hv) (.foldl (fun _ _ hv => hv.parityError) hu)

theorem State.Backed.lineOp {op : LineOp} {l : Line} (hu : u.Backed) : (u.lineOp op l).Backed := by
  unfold State.lineOp
  split
  · exact .ite hu.writeBack.putLine hu
  · exact .loseLine (.ite hu.writeBack hu)
  · exact hu.loseLine

theorem State.Backed.cbo {op : LineOp} {a : Nat} (hu : u.Backed) : (u.cbo op a).Backed :=
  .ite hu (by
    split
    · exact hu.lineOp
    · exact hu)

theorem State.Backed.rangeLine {op : LineOp} {l : Line} (hu : u.Backed) : (u.rangeLine op l).Backed :=
  .ite hu.satAdd (.lineOp (.ite hu.satAdd hu))

/-! ### Machine/HartCsr -/

theorem State.Backed.setCsr {c n v : Nat} (hu : u.Backed) : (u.setCsr c n v).Backed := hu.setHart

theorem State.Backed.hartTrap {c cause tval mepc : Nat} (hu : u.Backed) : (u.hartTrap c cause tval mepc).Backed :=
  hu.setCsr.setCsr.setCsr.setCsr.setHart.emit

theorem State.Backed.illegal {c : Nat} (hu : u.Backed) : (u.illegal c).Backed := hu.parts.hartTrap

theorem State.Backed.mret {c : Nat} (hu : u.Backed) : (u.mret c).Backed := .ite hu.illegal hu.setCsr.setHart

theorem State.Backed.readCsr {c n : Nat} (hu : u.Backed) : (u.readCsr c n).2.Backed := by
  unfold State.readCsr
  split
  · exact hu
  · split
    · exact hu
    · split
      · exact hu
      · exact hu.draw

theorem State.Backed.writeCsr {c n v : Nat} (hu : u.Backed) : (u.writeCsr c n v).Backed :=
  .ite hu (.ite hu.setCsr (.ite (.ite hu hu.setCsr) (.ite hu.setCsr (.ite hu.setCsr hu.setCsr))))

theorem State.Backed.hartOp {c : Nat} {o : HartOp} (hu : u.Backed) : (u.hartOp c o).Backed := by
  unfold State.hartOp
  split
  · exact .ite hu.readCsr.emit hu.illegal
  · exact .ite hu.writeCsr hu.illegal
  · exact hu.setHart
  · exact hu.mret
  · exact hu.illegal

theorem State.Backed.hartOps {c : Nat} {l : List HartOp} (hu : u.Backed) : (u.hartOps c l).Backed :=
  .foldl (fun _ _ hv => hv.hartOp) hu

theorem State.Backed.cboOne {c a : Nat} {op : LineOp} {p : Parity} (hu : u.Backed) : (u.cboOne c a op p).Backed := by
  unfold State.cboOne
  split
  · exact hu.illegal
  · exact .ite (.cbo (.ite hu.parityError hu)) hu.parts.hartTrap

/-! ### Machine/Cores -/

theorem Res.Backed.cboRun {c : Hart} {op : LineOp} {a : Nat} {p : Parity} {pre : List HartOp} (hu : u.Backed) :
    Res.Backed (u.cboRun c op a p pre) := .next (.on hu hu.hartOps.cboOne)

theorem execCboClean_backed {c : Hart} {addr : Nat} {p : Parity} {pre : List HartOp} (hu : u.Backed) :
    Res.Backed (execCboClean c addr u p pre) := .cboRun hu

theorem execCboFlush_backed {c : Hart} {addr : Nat} {p : Parity} {pre : List HartOp} (hu : u.Backed) :
    Res.Backed (execCboFlush c addr u p pre) := .cboRun hu

theorem execCboInval_backed {c : Hart} {addr : Nat} {pre : List HartOp} {p : Parity} (hu : u.Backed) :
    Res.Backed (execCboInval c addr pre u p) := .cboRun hu

theorem State.Backed.rangeEnd {op us : Nat} (hu : u.Backed) : (u.rangeEnd op us).Backed := hu.wr.wr.raise

theorem State.Backed.rangeWalk {op : Nat} {errs : List WalkError} (hu : u.Backed) : (u.rangeWalk op errs).Backed :=
  .ite hu.wr.wr.rangeEnd (.wr (.setL2 (.foldl (fun _ _ hv => hv.rangeLine) hu.wr.wr.walkErrors)))

theorem State.Backed.rangeWrite {v : Nat} {errs : List WalkError} (hu : u.Backed) : (u.rangeWrite v errs).Backed :=
  .ite hu.wr.wr (by
    split
    · exact hu.wr.wr.wr.raise
    · exact hu.wr.wr.rangeWalk)

theorem execRangeClean_backed {v : W32} {errs : List WalkError} (hu : u.Backed) : Res.Backed (execRangeClean v u errs) :=
  .next (.on hu hu.rangeWrite)

theorem execRangeCleanInvalidate_backed {v : W32} {errs : List WalkError} (hu : u.Backed) :
    Res.Backed (execRangeCleanInvalidate v u errs) := .next (.on hu hu.rangeWrite)

theorem execRangeInvalidate_backed {v : W32} {errs : List WalkError} (hu : u.Backed) :
    Res.Backed (execRangeInvalidate v u errs) := .next (.on hu hu.rangeWrite)

theorem execRangeOpRefused_backed {v : W32} (hu : u.Backed) : Res.Backed (execRangeOpRefused v u) :=
  .next (.on hu hu.rangeWrite)

theorem State.Backed.emptyL2 (hu : u.Backed) : u.emptyL2.Backed := .foldl (fun _ _ hv => hv.setHart) hu.setL2

theorem State.Backed.disableL2 (hu : u.Backed) : u.disableL2.Backed := .ite hu.setL2.wr hu.emptyL2.wr

theorem execRangeOpDone_backed {us : W32} (hu : u.Backed) : Res.Backed (execRangeOpDone us u) :=
  .next (by
    split
    · exact .after (fun h1 => .ite h1.disableL2 h1) hu.setL2.rangeEnd
    · exact hu)

theorem execL2Disable_backed (hu : u.Backed) : Res.Backed (execL2Disable u) :=
  .next (.on hu (.ite hu.wr.setL2 hu.wr.disableL2))

theorem execL2DrainDone_backed {us : W32} {errs : List WalkError} (hu : u.Backed) :
    Res.Backed (execL2DrainDone us u errs) :=
  .next (.on hu (.raise (.wr (.wr (.emptyL2 (.foldl (fun _ _ hv => hv.writeBack) hu.walkErrors.walkErrors))))))

theorem execL2Enable_backed (hu : u.Backed) : Res.Backed (execL2Enable u) :=
  .next (.on hu (.ite hu.wr (.ite hu.setL2.wr hu.emptyL2.wr.wr)))

theorem execL2LockWrite_backed {v : W32} (hu : u.Backed) : Res.Backed (execL2LockWrite v u) :=
  .next (.on hu (.ite hu.wr.raise hu.wr))

theorem execEvcClaimRead_backed {c : Hart} (hu : u.Backed) : Res.Backed (execEvcClaimRead c u) :=
  .next (.on hu (by
      split
      · exact hu.emit
      · exact hu.parts.emit))

theorem execEvcClaimComplete_backed {c : Hart} {v : W32} (hu : u.Backed) : Res.Backed (execEvcClaimComplete c v u) :=
  .next (.on hu hu.parts)

theorem execEvcMsipWrite_backed {c : Hart} {v : W32} (hu : u.Backed) : Res.Backed (execEvcMsipWrite c v u) :=
  .next (.on hu (.ite hu.wr.setL2.emit hu.wr))

theorem execTimerInterrupt_backed {c : Hart} (hu : u.Backed) : Res.Backed (execTimerInterrupt c u) :=
  .next (.on hu hu.wr)

/-! ### Machine/Frc -/

theorem execFrcLaneGo_backed {k : Fin 8} (hu : u.Backed) : Res.Backed (execFrcLaneGo k u) :=
  .next (.on hu (.ite hu.wr hu.wr.wr.wr.wr.wr.wr.setLane.laneAsk))

theorem State.Backed.laneFrames {k : Nat} {out : List OutSector} {bad unitBad : List Nat} (hu : u.Backed) :
    (u.laneFrames k out bad unitBad).Backed := .foldl (fun _ _ hv => hv.busWrite) hu

theorem State.Backed.encodeEnd {k : Nat} (hu : u.Backed) : (u.encodeEnd k).Backed :=
  .ite hu.spaceErrors.wr (.wr (.wr (.wr (.wr (.wrb (.wr (.laneFrames (.foldl (fun _ _ hv => hv.raise) hu.ownAccesses))))))))

theorem State.Backed.laneBlock {k i : Nat} {b : DecBlock} (hu : u.Backed) : (u.laneBlock k i b).Backed := by
  unfold State.laneBlock
  dsimp only
  split
  · exact hu.busWrite
  · exact .ite hu.setPoison hu.setPoison.wr.raise

theorem State.Backed.decodeEnd {k : Nat} (hu : u.Backed) : (u.decodeEnd k).Backed :=
  .ite hu.spaceErrors.wr (.wr (.foldl (fun _ _ hv => hv.ownAccess.laneBlock) hu))

theorem execFrcJobEnd_backed {k : Fin 8} (hu : u.Backed) : Res.Backed (execFrcJobEnd k u) :=
  .next (.on hu (.edge (.ite hu.decodeEnd hu.encodeEnd)))

theorem State.Backed.keyCommand {op ns : Nat} (hu : u.Backed) : (u.keyCommand op ns).Backed := .on hu hu.parts.wr

theorem execKeyGenerate_backed {nsidx : Byte} (hu : u.Backed) : Res.Backed (execKeyGenerate nsidx u) :=
  .next hu.keyCommand

theorem execKeyLoad_backed {nsidx : Byte} (hu : u.Backed) : Res.Backed (execKeyLoad nsidx u) := .next hu.keyCommand

theorem execKeyDestroy_backed {nsidx : Byte} (hu : u.Backed) : Res.Backed (execKeyDestroy nsidx u) := .next hu.keyCommand

theorem State.Backed.keyWork {op ns : Nat} (hu : u.Backed) : (u.keyWork op ns).2.Backed := by
  unfold State.keyWork
  dsimp only
  split
  · exact hu
  · split
    · exact hu.setKey
    · split
      · exact hu.spaceErrors.draw
      · split
        · exact hu.draw.setKey.ownAccess.busWrite
        · split
          · exact hu.ownAccess.setKey
          · exact hu.ownAccess.loseKey

theorem execKeyCommandEnd_backed (hu : u.Backed) : Res.Backed (execKeyCommandEnd u) :=
  .next (by
    split
    · exact hu
    · exact hu.keyWork.parts.wr.wr.edge)

/-! ### Machine/Oce -/

theorem State.Backed.oceAnswer {ctx op res : Nat} (hu : u.Backed) : (u.oceAnswer ctx op res).Backed :=
  hu.wr.wr.wr.wr.edge

theorem State.Backed.oceRun {ctx op count : Nat} (hu : u.Backed) : (u.oceRun ctx op count).Backed := hu.parts.wr

theorem State.Backed.oceCommand {ctx op : Nat} {go : State → State} (hgo : ∀ v, v.Backed → (go v).Backed) (hu : State.Backed
    u) :
    (u.oceCommand ctx op go).Backed := .ite hu (.ite hu.wr (.ite hu.oceAnswer (hgo _ hu)))

theorem execOceOpen_backed {ctx : BitVec 9} {count : BitVec 7} (hu : u.Backed) : Res.Backed (execOceOpen ctx count u) :=
  .next (.oceCommand (fun _ hv => .ite hv.oceAnswer (.ite hv.oceAnswer hv.oceRun)) hu)

theorem execOcePark_backed {ctx : BitVec 9} (hu : u.Backed) : Res.Backed (execOcePark ctx u) :=
  .next (.oceCommand (fun _ hv => .ite hv.oceAnswer (.ite hv.oceAnswer hv.oceRun)) hu)

theorem execOceFill_backed {ctx : BitVec 9} (hu : u.Backed) : Res.Backed (execOceFill ctx u) :=
  .next (.oceCommand (fun _ hv => .ite hv.oceAnswer (.ite hv.oceAnswer hv.oceRun)) hu)

theorem execOceBadop_backed {v : W32} (hu : u.Backed) : Res.Backed (execOceBadop v u) :=
  .next (.on hu (.oceCommand (fun _ hv => hv.oceAnswer) hu))

theorem State.Backed.openEnd {g count : Nat} {noAnswer : Bool} (hu : u.Backed) : (u.openEnd g count noAnswer).Backed :=
  .ite hu.spaceErrors.oceAnswer (.oceAnswer (.wr (.wr (.wr (.wr (.wr (.wr (.foldl (fun _ _ hv => hv.accumulate)
      hu.busWrite.ownAccesses))))))))

theorem State.Backed.parkEnd {g : Nat} (hu : u.Backed) : (u.parkEnd g).Backed := .oceAnswer (.ite hu.wr.wr hu.wr)

theorem State.Backed.fillEnd {g : Nat} {noAnswer : Bool} (hu : u.Backed) : (u.fillEnd g noAnswer).Backed :=
  .ite hu.wr.raise.oceAnswer (.ite hu.wr.spaceErrors.oceAnswer (.after (fun h2 => by
        dsimp only
        split
        · exact h2.raise.oceAnswer
        · exact .after (fun h3 => .oceAnswer (.ite h3.wr.wr h3.wr.wr.raise)) (.foldl (fun _ _ hv => hv.busWrite) h2))
              hu.wr.ownAccesses))

theorem execOceCommandEnd_backed {noAnswer : Bool} (hu : u.Backed) : Res.Backed (execOceCommandEnd noAnswer u) :=
  .next (by
    split
    · exact hu
    · exact .ite hu.parts.openEnd.oceServe (.ite hu.parts.parkEnd hu.parts.fillEnd))

theorem execSetrd_backed {g : Fin 384} (hu : u.Backed) : Res.Backed (execSetrd g u) := .next (.on hu (.ite hu.wr hu.wr))

/-! ### Machine/Switch -/

theorem State.Backed.busNumbers {p : SwPort} {pri sec sub : Nat} (hu : u.Backed) : (u.busNumbers p pri sec sub).Backed :=
  .after (fun h2 => .ite h2.parts.raise h2) hu.setPsw.raise

theorem State.Backed.idpControl {linkDisable set : Bool} (hu : u.Backed) : (u.idpControl linkDisable set).Backed :=
  .after (fun h1 => .ite h1.resetAll h1) (.ite hu.setPsw hu)

theorem State.Backed.edpControl {linkDisable set : Bool} (hu : u.Backed) : (u.edpControl linkDisable set).Backed :=
  .ite (.ite hu.setPsw.edpDown hu.setPsw) (.ite hu.emit hu)

theorem State.Backed.cfgWrite {p : SwPort} {r : CfgReg} {v : Nat} (hu : u.Backed) : (u.cfgWrite p r v).Backed := by
  unfold State.cfgWrite
  dsimp only
  split
  case h_11 => split <;> first | exact hu.setPsw | exact .ite hu.setPsw.idpControl hu.setPsw | exact .ite hu.setPsw.edpControl hu.setPsw
  case h_13 => split <;> first | exact hu.setPsw | exact .ite hu.setPsw hu.setPsw.idpControl | exact .ite hu.setPsw hu.setPsw.edpControl
  all_goals first | exact hu | exact hu.setPsw | exact hu.busNumbers

theorem State.Backed.portAnswer {p : SwPort} {t : Tlp} (hu : u.Backed) : (u.portAnswer p t).Backed := by
  unfold State.portAnswer
  split
  · exact hu.emit
  · exact hu.cfgWrite.emit
  · exact hu

theorem State.Backed.refuse {t : Tlp} (hu : u.Backed) : (u.refuse t).Backed :=
  .after (fun h1 => .ite h1 h1.raise) (.ite hu.emit hu)

theorem State.Backed.sendTlp {t : Tlp} {p : Port} (hu : u.Backed) : (u.sendTlp t p).Backed := .ite hu.emit hu.refuse

theorem State.Backed.arbitrate (hu : u.Backed) : u.arbitrate.Backed := by
  unfold State.arbitrate
  dsimp only
  split
  · exact hu
  · exact hu.setPsw.sendTlp
  · exact hu.setPsw.sendTlp
  · exact .ite hu.setPsw.sendTlp hu.setPsw.sendTlp

theorem State.Backed.arbitrateAll {n : Nat} (hu : u.Backed) : (State.arbitrateAll n u).Backed := by
  induction n generalizing u with
  | zero => exact hu
  | succ n ih => exact ih hu.arbitrate

theorem State.Backed.drainPort {l : Port} (hu : u.Backed) : (u.drainPort l).Backed := by
  unfold State.drainPort
  split
  · exact hu.arbitrateAll
  · exact .foldl (fun _ _ hv => hv.sendTlp) hu.setPsw

theorem State.Backed.egress {t : Tlp} {p : Port} {credit : Bool} (hu : u.Backed) : (u.egress t p credit).Backed :=
  .ite hu.refuse (.ite hu.setPsw.drainPort hu.setPsw)

/-! ### Machine/Pass -/

theorem State.Backed.joinStart (hu : u.Backed) : u.joinStart.Backed :=
  .after (fun h2 => .after (fun h4 => .ite h4.raise h4) (.ite h2.raise.raise h2.raise))
      hu.wr.wr.setPsw.setPassCount.setPassRec

theorem State.Backed.setTap {i : TapInstr} (hu : u.Backed) : (u.setTap i).Backed := hu.setPsw

theorem execPassOpen_backed {v : W32} {tap : TapInstr} (hu : u.Backed) : Res.Backed (execPassOpen v u tap) :=
  .next (.on hu.setTap (.ite hu.setTap.raise (.ite hu.setTap.raise (by
          split
          · exact hu.setTap.wr.raise
          · exact .ite hu.setTap.joinStart hu.setTap.wr))))

theorem execPassClose_backed {v : W32} (hu : u.Backed) : Res.Backed (execPassClose v u) :=
  .next (.on hu (.ite hu.passClose hu.wr))

theorem execJoinProceed_backed {tap : TapInstr} (hu : u.Backed) : Res.Backed (execJoinProceed u tap) :=
  .next (.on hu.setTap hu.setTap.joinStart)

theorem execHoldoffExpire_backed (hu : u.Backed) : Res.Backed (execHoldoffExpire u) := .next hu.setPsw

theorem execJoinEnChange_backed {level : Bool} (hu : u.Backed) : Res.Backed (execJoinEnChange level u) :=
  .next (.on hu.wrb hu.wrb.passClose)

theorem State.Backed.switchesAt {opened : Nat} (hu : u.Backed) : (u.switchesAt opened).Backed := hu.setPsw

theorem execPassPositionCheck_backed {wrong : W32} (hu : u.Backed) : Res.Backed (execPassPositionCheck wrong u) :=
  .next (.ite (.ite hu.switchesAt.wr hu.wr.raise.passClose) (.ite (.after (fun h1 => .ite h1 h1.wr.wr.raise)
      hu.switchesAt.wr) hu))

theorem State.Backed.sendDepth (hu : u.Backed) : u.sendDepth.Backed := .ite hu.emit hu

theorem State.Backed.setDepth {d : Nat} (hu : u.Backed) : (u.setDepth d).Backed :=
  .after (fun h2 => .ite h2.passClose.wr.raise h2) (.ite hu.wr.wr hu.wr.wr.raise.sendDepth)

theorem execDepth_backed {hdr : W32} {vid : W16} (hu : u.Backed) : Res.Backed (execDepth hdr vid u) :=
  .next (.on hu hu.setDepth)

theorem execBelow_backed {hdr : W32} {vid : W16} (hu : u.Backed) : Res.Backed (execBelow hdr vid u) :=
  .next (.on hu hu.setBelow)

theorem execDepthTimeout_backed (hu : u.Backed) : Res.Backed (execDepthTimeout u) := .next (.on hu hu.setDepth)

theorem execChainMessagePeriod_backed (hu : u.Backed) : Res.Backed (execChainMessagePeriod u) :=
  .next hu.sendDepth.sendBelow

theorem State.Backed.lanesMarked {p : Port} {failed rate : Nat} (hu : u.Backed) : (u.lanesMarked p failed rate).Backed :=
  .foldl (fun _ _ hv => .ite hv.raise hv) hu

theorem execLinkUp_backed {p : Port} {speed : BitVec 3} {width : BitVec 5} {failed : W16} {final : Bool} {rate : BitVec 3}
    (hu : u.Backed) :
    Res.Backed (execLinkUp p speed width failed u final rate) :=
  .next (by
    split
    · exact .on hu (.after (fun h2 => .ite h2.lanesMarked (.after (fun h4 => .raise (.parts (.emit (.ite h4.raise h4))))
          h2.lanesMarked.setPsw.raise)) (.ite hu.wr.wr.wr.wr.wr.sendBelow hu.wr.wr.wr))
    · exact .on hu (.after (fun h2 => .ite h2.lanesMarked (.after (fun h4 => .ite h4.raise h4) h2.lanesMarked.setPsw.raise))
          (.ite hu.wr.wr.wr.wr.setPsw.sendDepth.sendBelow hu.wr.wr.wr)))

theorem State.Backed.hotResetBelow (hu : u.Backed) : u.hotResetBelow.Backed := .ite hu.emit hu

theorem State.Backed.linksReset {cause : Nat} {propagate : Bool} (hu : u.Backed) :
    (u.linksReset cause propagate).Backed := .linkReset (.edpDown (.uspDown (.ite hu.hotResetBelow hu)))

theorem execLinkDown_backed {p : Port} {cause : Byte} {inL0 : W32} (hu : u.Backed) :
    Res.Backed (execLinkDown p cause inL0 u) :=
  .next (by
    split
    · exact .on hu hu.linksReset
    · exact .on hu (.ite hu.edpDown.raise hu.edpDown))

theorem execPerstN_backed {level : Bool} (hu : u.Backed) : Res.Backed (execPerstN level u) :=
  .next (.on hu.setPsw (.after (fun h2 => .ite h2 h2.linksReset) hu.setPsw.raise))

theorem execHotReset_backed {dlDown : Bool} (hu : u.Backed) : Res.Backed (execHotReset dlDown u) :=
  .next (.on hu (.ite hu.linksReset hu.raise.linksReset))

theorem execIdpLinkControl_backed {linkDisable set : Bool} (hu : u.Backed) :
    Res.Backed (execIdpLinkControl linkDisable set u) := .next (.on hu hu.idpControl)

theorem execEdpSecondaryBusReset_backed {linkDisable set : Bool} (hu : u.Backed) :
    Res.Backed (execEdpSecondaryBusReset linkDisable set u) := .next (.on hu hu.edpControl)

theorem execIdpBusNumberWrite_backed {primary secondary subordinate : Byte} (hu : u.Backed) :
    Res.Backed (execIdpBusNumberWrite primary secondary subordinate u) := .next (.on hu hu.busNumbers)

theorem execTlpForward_backed {t : Tlp} {credit : Bool} (hu : u.Backed) : Res.Backed (execTlpForward t u credit) :=
  .next (.on hu (by
      split
      · exact .ite (.ite hu.emit hu) (.on hu hu.egress)
      · exact .on hu (.ite hu.refuse hu.emit)
      · exact .on hu hu.portAnswer
      · exact .on hu hu.refuse
      · exact .on hu hu.emit
      · exact .on hu hu.refuse))

theorem execForwardBufferFull_backed {towardUsp : Bool} {credit : Byte} (hu : u.Backed) :
    Res.Backed (execForwardBufferFull towardUsp credit u) := .next (.on hu hu.raise)

/-! ### Machine/PowerDie -/

theorem State.Backed.setBus {vmot : BitVec 12} (hu : u.Backed) : (u.setBus vmot).Backed := hu.wr.setPwr

theorem execBusWatchEnter_backed {vmot : BitVec 12} (hu : u.Backed) : Res.Backed (execBusWatchEnter vmot u) :=
  .next (.on hu.setBus hu.setBus.wr.powerEvent)

theorem execBusWatchRelease_backed {vmot : BitVec 12} (hu : u.Backed) : Res.Backed (execBusWatchRelease vmot u) :=
  .next (.on hu.setBus hu.setBus.wr)

theorem execOv1Engage_backed {vmot : BitVec 12} (hu : u.Backed) : Res.Backed (execOv1Engage vmot u) :=
  .next (.on hu.setBus (.after (fun h1 => .ite h1.powerEvent h1) hu.setBus.wr.setSpn))

theorem execOv1Release_backed {vmot : BitVec 12} (hu : u.Backed) : Res.Backed (execOv1Release vmot u) :=
  .next (.on hu.setBus hu.setBus.wr)

theorem execChopperFault_backed {high : Bool} (hu : u.Backed) : Res.Backed (execChopperFault high u) :=
  .next (.on hu hu.wr.wr.powerEvent)

theorem execOv2Shutdown_backed {vmot : BitVec 12} (hu : u.Backed) : Res.Backed (execOv2Shutdown vmot u) :=
  .next (.on hu.setBus hu.setBus.wr.wr.powerEvent.spnCut.holdEnd.retract)

theorem execPowerLoss_backed (hu : u.Backed) : Res.Backed (execPowerLoss u) :=
  .next (.on hu hu.setPwr.powerEvent.spnCut.holdEnd.retract)

theorem execIsolationSwitchClose_backed (hu : u.Backed) : Res.Backed (execIsolationSwitchClose u) :=
  .next (.on hu hu.parts.wr.setPwr)

theorem execRetractPush_backed (hu : u.Backed) : Res.Backed (execRetractPush u) :=
  .next (.onOf hu (fun h => .foldl (fun _ _ hv => .ite hv hv.emit) (hu.setPwr (fun a => by
    simp only [beq_iff_eq] at h
    simp only [State.WpHeld, failBits_eq_zero, State.wpConds, List.forall_mem_cons, Bool.and_eq_true, beq_iff_eq]
    rintro ⟨-, -, -, -, -, -, -, ⟨-, h0⟩, -⟩
    omega))))

theorem execRetractDone_backed {t0 t1 t2 t3 : W16} (hu : u.Backed) : Res.Backed (execRetractDone t0 t1 t2 t3 u) :=
  .next (.on hu (State.updWp_backed _))

theorem execLinkSilence_backed {us : W32} {xsys : Bool} (hu : u.Backed) : Res.Backed (execLinkSilence us u xsys) :=
  .next (.on hu (State.updWp_backed _))

theorem execBridgeOvercurrent_backed {b : Bridge} {value : W16} (hu : u.Backed) :
    Res.Backed (execBridgeOvercurrent b value u) :=
  .next (by
    split
    · exact hu.powerEvent.wr.spnCut
    · exact hu.parts.powerEvent.setPwr.emit.retract)

theorem execPowerDieOvertemp_backed {value : W16} (hu : u.Backed) : Res.Backed (execPowerDieOvertemp value u) :=
  .next hu.parts.wr.setPwr.powerEvent.wr.spnCut.retract

theorem State.Backed.maOff (hu : u.Backed) : u.maOff.Backed :=
  .foldl (fun _ _ hv => .foldl (fun _ _ hv => hv.stopMicro) hv) hu.setPwr

theorem execMaRailOutOfRange_backed (hu : u.Backed) : Res.Backed (execMaRailOutOfRange u) := .next hu.maOff

theorem execMaRailInRange_backed (hu : u.Backed) : Res.Backed (execMaRailInRange u) := .next (.on hu hu.setPwr)

theorem execControllerDieOvertemp_backed : Res.Backed (execControllerDieOvertemp u) := .next (State.updWp_backed _)

theorem execControllerDieTempRestore_backed : Res.Backed (execControllerDieTempRestore u) := .next (State.updWp_backed _)

theorem execShockExcursion_backed {b : Bool} : Res.Backed (execShockExcursion b u) := .next (State.updWp_backed _)

theorem execShockHoldExpire_backed : Res.Backed (execShockHoldExpire u) := .next (State.updWp_backed _)

theorem execShockSensorUnsound_backed {b : Bool} : Res.Backed (execShockSensorUnsound b u) := .next (State.updWp_backed _)

theorem execShockSensorSoundRestore_backed {b : Bool} {bias : Byte} : Res.Backed (execShockSensorSoundRestore b bias u) :=
  .next (State.updWp_backed _)

theorem execReportFreshExpire_backed {a : Arm} : Res.Backed (execReportFreshExpire a u) := .next (State.updWp_backed _)

theorem execSupplyWindowExit_backed {rail : Rail} : Res.Backed (execSupplyWindowExit rail u) := by
  cases rail <;> exact .next (State.updWp_backed _)

theorem execSupplyGoodRestore_backed {rail : Rail} : Res.Backed (execSupplyGoodRestore rail u) := by
  cases rail <;> exact .next (State.updWp_backed _)

/-! ### Machine/ServoOps -/

theorem State.Backed.setMic {a p : Nat} {m : Micro} (hu : u.Backed) : (u.setMic a p m).Backed := hu.setArm

theorem State.Backed.seekStart {a : Nat} {ref : Rat} (hu : u.Backed) : (u.seekStart a ref).Backed := by
  unfold State.seekStart
  exact .after (fun h => .after (fun g => .ite g.castleTo g) (.ite h.wr h)) (.foldl (fun _ _ hv => hv.stopMicro.setMic)
    hu.wr.wr.setSceState.setArm)

theorem State.Backed.seekAgain {a : Nat} (hu : u.Backed) : (u.seekAgain a).Backed := hu.setArm

theorem State.Backed.setCtgt {a v : Nat} (hu : u.Backed) : (u.setCtgt a v).Backed :=
  .after (fun h1 => .ite h1.wr.seekAgain (.ite h1.wr.seekStart h1.wr)) (.ite hu hu.wr)

theorem State.Backed.pendingCheck {a : Nat} (hu : u.Backed) : (u.pendingCheck a).Backed := hu.wrb

theorem State.Backed.serve {a : Nat} {x : Sample} : (u.serve a x).Backed := State.updWp_backed _

/-! ### Machine/Spindle -/

theorem State.Backed.setSpeed {x : Rat} (hu : u.Backed) : (u.setSpeed x).Backed :=
  .ite (State.updWp_backed _) hu.wr.setSpn

theorem State.Backed.holdDrive (hu : u.Backed) : u.holdDrive.Backed := .ite hu.parts.emit hu

theorem execZeroCrossing_backed {interval : Nat} {angle : Fin 6} (hu : u.Backed) :
    Res.Backed (execZeroCrossing interval angle u) :=
  .after (fun h2 => .after (fun h3 => .next (.on h3 (.ite h3.setSpeed.takeOver (.after (fun h5 => .ite
      h5.lockWatch.spnLeave.setSpn.brake h5.lockWatch) (.ite h3.setSpeed.spnSample h3.setSpeed))))) (.ite
      h2.commutate.holdDrive h2)) hu.turn.setSpn.planned

theorem execLockEntered_backed (hu : u.Backed) : Res.Backed (execLockEntered u) :=
  .next (.on hu hu.wr.wr.wr.wr.setSpn.raise)

theorem execLockLost_backed (hu : u.Backed) : Res.Backed (execLockLost u) := .next (.on hu hu.tierOut.raise)

theorem execSpnTgtWrite_backed {v : W16} (hu : u.Backed) : Res.Backed (execSpnTgtWrite v u) :=
  .next (.on hu hu.linkHeard.spnTarget)

theorem execCogenWrite_backed {en : Bool} (hu : u.Backed) : Res.Backed (execCogenWrite en u) :=
  .next (.on hu (.ite hu.wrb.cogCheck hu.wrb))

theorem execCogTableWrite_backed {w : Fin 48} {v : W32} (hu : u.Backed) : Res.Backed (execCogTableWrite w v u) :=
  .next (.on hu hu.cogStore)

theorem State.Backed.catchSpindle {q : Nat} (hu : u.Backed) : (u.catchSpindle q).Backed := hu.setSpeed.wr.raise.setSpn

theorem execObserveEnd_backed {o : Observed} (hu : u.Backed) : Res.Backed (execObserveEnd o u) :=
  .next (.on hu (by
      split
      · exact .ite hu.turn.catchSpindle hu.turn.attempt
      · exact hu.turn.wr.raise.attempt
      · exact hu.attempt
      · exact .ite hu.attempt hu.setSpn))

theorem State.Backed.stopped {ms : Nat} : (u.stopped ms).Backed := (State.updWp_backed _).setSpn

theorem State.Backed.stopEnd (hu : u.Backed) : u.stopEnd.Backed := .ite hu.spnStart hu.spnLeave.emit

theorem execBrakeConfirmed_backed {ms : W32} (hu : u.Backed) : Res.Backed (execBrakeConfirmed ms u) :=
  .next (.on hu (.ite (.stopEnd .stopped) (.emit (.setSpn (.wr .stopped)))))

theorem execBrakeTimeout_backed (hu : u.Backed) : Res.Backed (execBrakeTimeout u) :=
  .next (.on hu hu.wr.raise.spnLeave.emit)

theorem execAlignVectorEnd_backed (hu : u.Backed) : Res.Backed (execAlignVectorEnd u) :=
  .next (.on hu (.ite hu.setSpn.emit hu.turn.wr.emit))

theorem execHandover_backed (hu : u.Backed) : Res.Backed (execHandover u) := .next (.on hu hu.setSpn.wr.raise)

theorem execStartAttemptFail_backed (hu : u.Backed) : Res.Backed (execStartAttemptFail u) :=
  .next (.on hu (.ite hu.raise.attempt hu.raise.wr.raise.spnLeave.emit))

theorem execWindingShortStop_backed {ms : W32} (hu : u.Backed) : Res.Backed (execWindingShortStop ms u) :=
  .next (.on hu (.stopEnd .stopped))

theorem execTake_backed (hu : u.Backed) : Res.Backed (execTake u) := .next (.on hu hu.setSpn)

theorem execClrchop_backed (hu : u.Backed) : Res.Backed (execClrchop u) := .next (.on hu hu.wr)

theorem execClrov_backed (hu : u.Backed) : Res.Backed (execClrov u) := .next (.on hu hu.wr)

/-! ### Machine/RegWrite -/

theorem State.Backed.spillCount (hu : u.Backed) : u.spillCount.Backed := hu.parts

theorem State.Backed.fieldEffect {k : RKey} {old : Nat} (hu : u.Backed) : (u.fieldEffect k old).Backed := by
  unfold State.fieldEffect
  split
  · exact State.updWp_backed _
  · exact .ite hu.passClose hu
  · exact .pendingCheck (.foldl (fun _ _ hv => .ite hv.stopMicro hv) hu)
  · exact .on hu hu.servoGate
  · exact .on hu hu.fairCheck
  · exact hu.lanesAsk
  · exact hu.guardNow
  · exact hu.guardNow
  · exact hu.spillC.spillCount
  · exact hu.spillM
  · exact .ite hu hu.wr.setChan
  · exact hu

theorem State.Backed.writeField {k : RKey} {d n v : Nat} (hu : u.Backed) : (u.writeField k d n v).Backed := by
  have hs {x old : Nat} (ha : k.reg.info.acc = .RW ∨ k.reg.info.acc = .RWL) : ((u.storeField k x).fieldEffect k old).Backed := by
    by_cases he : k.reg = .SPN_WP_EN
    · rw [State.fieldEffect, he]
      exact State.updWp_backed _
    · exact .fieldEffect (hu.storeField ⟨fun e => by rw [e] at ha; exact absurd ha (by decide), he⟩)
  unfold State.writeField
  dsimp only
  split
  · next h => exact .ite hu (hs (.inl h))
  · next h => exact .ite hu (hs (.inr h))
  · next h => exact .ite hu (.fieldEffect (hu.wr (by
    constructor <;> intro e <;> rw [e] at h <;> cases h)))
  · exact hu
  · exact hu

theorem State.Backed.writeWin {a n v : Nat} {m : WinMem} (hu : u.Backed) : (u.writeWin a n v m).Backed := by
  unfold State.writeWin
  split
  · exact hu
  · exact hu
  · exact hu
  · exact hu
  · exact hu
  · exact hu
  · exact .ite hu hu.mwr
  · exact hu.loadWin

theorem State.Backed.plainWrite {a n v : Nat} (hu : u.Backed) : (u.plainWrite a n v).Backed :=
  .ite hu (by
    split
    · exact hu.writeWin
    · exact .foldl (fun _ _ hv => hv.writeField) hu)

theorem execRegisterWrite_backed {addr : Nat} {wide : Bool} {v : Word} (hu : u.Backed) :
    Res.Backed (execRegisterWrite addr wide v u) := .next (.on hu hu.plainWrite)

/-! ### Machine/Reset -/

theorem execPowerOnRelease_backed {xsys : Bool} (hu : u.Backed) : Res.Backed (execPowerOnRelease u xsys) :=
  .next (.on hu hu.setRst)

theorem State.levelReset_backed (s : State) (lvl : Nat) (q : Rstc) : ((s.levelReset lvl).setRst q).Backed :=
  .of_off (by rw [State.rd_setRst, State.rd, (s.levelReset_swept lvl).reset .SPN_WP_WP 0 0 rfl (by decide)]; rfl)

theorem execPowerOnReset_backed (hu : u.Backed) : Res.Backed (execPowerOnReset u) :=
  .next (.on hu (State.levelReset_backed _ _ _))

theorem State.Backed.loaderRestart {part : Nat} (hu : u.Backed) : (u.loaderRestart part).Backed := by
  unfold State.loaderRestart
  cases u.readingPart part with
  | none => exact hu.setRst.raise.writeStat
  | some l => exact .writeStat (.raise (.setRst (State.updWp_backed _)))

theorem execSysrstNAssert_backed {part : BitVec 4} (hu : u.Backed) : Res.Backed (execSysrstNAssert u part) :=
  .next (.on hu (.ite hu.setRst (.ite hu.loaderRestart (State.levelReset_backed _ _ _))))

theorem execSysrstNRelease_backed {xsys : Bool} (hu : u.Backed) : Res.Backed (execSysrstNRelease u xsys) :=
  .next (.on hu hu.setRst)

theorem execLoaderRestartStart_backed (hu : u.Backed) : Res.Backed (execLoaderRestartStart u) :=
  .next (.on hu hu.setRst.loaderStart)

/-- The release of a step that is not released yet. -/
theorem State.Backed.releaseStep {k : Nat} {blkOk : Bool} (hk : u.rst.step < k) (hl : k ≤ 10) (hu : u.Backed) :
    (u.releaseStep k blkOk).Backed := by
  unfold State.releaseStep
  refine .iteOf (fun e => ?_) fun h1 => .iteOf (fun _ => ?_) fun h2 => .iteOf (fun e => ?_) fun h4 => .iteOf (fun e => ?_)
    fun h5 => .iteOf (fun e => ?_) fun h6 => .iteOf (fun e => ?_) fun h7 => .iteOf (fun e => ?_) fun h8 => .iteOf (fun e => ?_)
    fun h9 => ?_
  · exact hu.setRst (e ▸ hk.le)
  · exact hu.setRst hk.le
  · exact hu.setRst (e ▸ hk.le)
  · exact (hu.setRst (e ▸ hk.le)).recorderStart.raiseHeld
  · exact (hu.setRst (e ▸ hk.le)).loaderStart
  · subst e
    exact .after (fun h => .ite h h.countTry) (.wr (hu.setRst hk.le))
  · exact .after (fun h => .ite (.brake (.setSpn (.ite h.wr.raise h))) (.after (fun g => .ite g g.spnTarget) (.ite h.cogCheck h)))
      (.foldl (fun _ _ hv => .ite hv.setSceState hv) (hu.setRst (e ▸ hk.le)))
  · exact .foldl (fun _ _ hv => .after (fun h => .ite h.setChan h) (.ite hv.hseStart hv)) (hu.setRst (e ▸ hk.le))
  · have e : k = 10 := by omega
    exact .after (fun h => .ite h.setPassRec.raise h) (.raise (.writeStat (.after (fun h => .ite h h.loadKeys)
      (hu.setRst (e ▸ hk.le)).setPsw)))

theorem execReleaseStep_backed {blkOk : Bool} (hu : u.Backed) : Res.Backed (execReleaseStep u blkOk) :=
  .next (.onOf hu (fun h => hu.releaseStep (Nat.lt_succ_self _) (by simp at h; omega)))

theorem State.Backed.startBias (hu : u.Backed) : u.startBias.Backed :=
  .after (fun h1 => .setPwr (.on h1 h1.wr) (fun a => by
    simp only [State.WpHeld, State.wpConds, State.setPwr, State.on, apply_ite State.pwr, apply_ite State.rst, State.wr_pwr, State.wr_rst, ite_self]
    exact id)) (.on hu.parts hu.parts.wr)

theorem State.Backed.startHarts (hu : u.Backed) : u.startHarts.Backed :=
  .after (fun h1 => .ite h1 h1.emit) (.foldl (fun _ _ hv => hv.emit) hu)

theorem State.Backed.stepComplete {eye : Nat} (hu : u.Backed) : (u.stepComplete eye).Backed := by
  unfold State.stepComplete
  dsimp only
  split
  · refine .startBias (.recordClose6 (hu.setRst.setPwr (fun a => ?_)))
    simp only [State.WpHeld, failBits_eq_zero, State.wpConds, State.setPwr, List.forall_mem_cons, Bool.and_eq_true]
    rintro ⟨h1, h2, h3, h4, ⟨-, h5⟩, h6, h7, ⟨⟨-, h8⟩, h9⟩, h10⟩
    exact ⟨h1, h2, h3, h4, ⟨trivial, h5⟩, h6, h7, ⟨⟨trivial, h8⟩, h9⟩, h10⟩
  · exact hu.setRst.wr
  · exact .ite hu.setRst.wr.hold.filterMem hu.setRst.wr.hold
  · exact hu.setRst.wr.parts.startHarts
  · exact hu.setRst

theorem execReleaseStepComplete_backed {eye : Word} (hu : u.Backed) : Res.Backed (execReleaseStepComplete eye u) :=
  .next (.on hu hu.stepComplete)

theorem State.Backed.readTimeout {part : Nat} (hu : u.Backed) : (u.readTimeout part).Backed := by
  unfold State.readTimeout
  split
  · exact .copyFails
  · exact hu

theorem execReleaseStepTimeout_backed {chan tstep : Byte} {part : BitVec 4} (hu : u.Backed) :
    Res.Backed (execReleaseStepTimeout chan tstep u part) :=
  .next (.on hu (.ite (.ite hu.setRst hu.setRst.bootCause) (.ite hu.setRst.bootCause.hold (.ite hu.setRst.bootCause (.ite
      hu.readTimeout hu)))))

theorem execLoadCopyDone_backed (hu : u.Backed) : Res.Backed (execLoadCopyDone u) :=
  .next (.on hu (.ite .copyGood .copyFails))

theorem execNorReadTimeout_backed {part : BitVec 4} (hu : u.Backed) : Res.Backed (execNorReadTimeout part u) :=
  .next hu.readTimeout

theorem execRstRunokWrite_backed {v : W32} (hu : u.Backed) : Res.Backed (execRstRunokWrite v u) :=
  .next (.on hu (.after (fun h1 => .ite h1.mwr.wr h1) hu.setRst.wr.wr))

theorem execBootWindowExpire_backed (hu : u.Backed) : Res.Backed (execBootWindowExpire u) :=
  .next (.on hu hu.setRst.bootCause.raise)

theorem execWindowRecordAckPulse_backed (hu : u.Backed) : Res.Backed (execWindowRecordAckPulse u) :=
  .next (.on hu hu.setRst.pulseStart)

theorem execRstOutPulse_backed {v : W32} (hu : u.Backed) : Res.Backed (execRstOutPulse v u) :=
  .next (.on hu hu.pulseStart)

theorem execRstoutPulseEnd_backed (hu : u.Backed) : Res.Backed (execRstoutPulseEnd u) :=
  .next (by
    split
    · exact hu
    · exact .ite hu.setRst (.after (fun h2 => .ite h2.recoveryMode h2) hu.setRst.wr.raise))

theorem execRstBlkGo_backed {v : W32} (hu : u.Backed) : Res.Backed (execRstBlkGo v u) :=
  .next (.on hu (.ite hu.wr (.ite hu.wr.wr.setRst.softReset hu.wr.wr.raise)))

theorem execSoftResetDone_backed (hu : u.Backed) : Res.Backed (execSoftResetDone u) := .next (.on hu hu.wr.setRst)

/-! ### Machine/Servo -/

theorem execSampleRecord_backed {h : Head} {w : Wedge} {same : Bool} (hu : u.Backed) :
    Res.Backed (execSampleRecord h w u same) := .next (.on hu hu.setMic.setArm)

theorem execSampleService_backed {a : Arm} (hu : u.Backed) : Res.Backed (execSampleService a u) :=
  .next (by
    split
    · exact hu
    · exact .on hu .serve)

theorem State.Backed.lateSample {a : Nat} {x : Sample} {lv lm : Bool} :
    (u.lateSample a x lv lm).Backed :=
  State.updWp_backed _

theorem execSampleDeadlineMiss_backed {e : Sce} (hu : u.Backed) : Res.Backed (execSampleDeadlineMiss e u) :=
  .next (.ite (.on hu (.after (fun h1 => .ite h1.wrapAdd.raise h1.wrapAdd) hu.setSpn.wrBit)) (by
      split
      · exact .lateSample
      · exact hu))

theorem execBankselSwap_backed {e : Sce} (hu : u.Backed) : Res.Backed (execBankselSwap e u) := .next (.on hu hu.bankSwap)

theorem execBankWrite_backed {e : Sce} {bankB : Bool} {w : Fin 128} {v : W32} (hu : u.Backed) :
    Res.Backed (execBankWrite e bankB w v u) := .next (.on hu hu.bankStore)

theorem execSceRunWrite_backed {a : Arm} {run : Bool} (hu : u.Backed) : Res.Backed (execSceRunWrite a run u) :=
  .next (.on hu (.ite hu.wrb (.ite (.ite hu.wrb.setSceState hu.wrb) (.ite hu.wrb.setSceState.setArm (.ite hu.wrb
      .armUnload)))))

theorem execLoad_backed {a : Arm} (hu : u.Backed) : Res.Backed (execLoad a u) :=
  .next (.on hu (.ite hu.wr hu.setArm.setSceState.setPwr.sceDrive))

theorem execUnload_backed {a : Arm} (hu : u.Backed) : Res.Backed (execUnload a u) := .next (.on hu .armUnload)

theorem execUnloadPushEnd_backed {a : Arm} (hu : u.Backed) : Res.Backed (execUnloadPushEnd a u) :=
  .next (.on hu (.after (fun h1 => .ite h1.setSceState h1.setSceState.setArm) hu.sceDrive.emit))

theorem execLoadtmo_backed {a : Arm} (hu : u.Backed) : Res.Backed (execLoadtmo a u) :=
  .next (.on hu (.sceFault .armUnload))

theorem execCtgtWrite_backed {a : Arm} {v : W32} (hu : u.Backed) : Res.Backed (execCtgtWrite a v u) :=
  .next (.on hu hu.setCtgt)

theorem execSeektmo_backed {a : Arm} (hu : u.Backed) : Res.Backed (execSeektmo a u) := .next (.on hu hu.wr.sceFault)

/-! ### Machine/HartOps -/

theorem State.Backed.state {r : Res} (hr : Res.Backed r) : (r.state u).Backed := by
  obtain ⟨t, rfl, ht⟩ := hr
  exact ht

theorem State.Backed.fieldRow {k : RKey} {x v : Nat} (hu : u.Backed) : (u.fieldRow k x v).Backed := by
  unfold State.fieldRow
  dsimp only
  split
  · exact .ite (.state (execRstOutPulse_backed hu)) hu
  · exact .ite (.state (execRstRunokWrite_backed hu)) hu
  · exact .ite (.state (execRstBlkGo_backed hu)) hu
  · exact .ite (.state (execEvcRaiseWrite_backed hu)) hu
  · exact .ite (.state (execEvcClaimComplete_backed hu)) hu
  · exact .ite (.state (execEvcMsipWrite_backed hu)) hu
  · exact .ite (.state (execHold_backed hu)) hu
  · exact .ite (.state (.pick (execL2Enable_backed hu) (execL2Disable_backed hu))) hu
  · exact .ite (.state (execL2LockWrite_backed hu)) hu
  · exact hu.rangeWrite
  · exact .ite (.state (execAgeVoutWrite_backed hu)) hu
  · exact .ite (.state (execAgeFstatClear_backed hu)) hu
  · exact .ite (.state (.pick (execHseRunStart_backed hu) (execHseRunStop_backed hu))) hu
  · exact .ite (.state (execDoorbellCmd_backed hu)) hu
  · exact .ite (.state (execDoorbellAbort_backed hu)) hu
  · exact .ite (.state (execCqptrTailWrite_backed hu)) hu
  · exact .ite (.state (execChanEnable_backed hu)) hu
  · exact .ite (.state (execClrstat_backed hu)) hu
  · exact .ite (.state (execZrateWrite_backed hu)) hu
  · exact .ite (.state (execChanRdecGo_backed hu)) hu
  · exact .ite (.state (execSceRunWrite_backed hu)) hu
  · exact .ite (.state (execLoad_backed hu)) hu
  · exact .ite (.state (execUnload_backed hu)) hu
  · exact .ite (.state (execBankselSwap_backed hu)) hu
  · exact .ite (.state (execCtgtWrite_backed hu)) hu
  · exact .ite (.state (execCogenWrite_backed hu)) hu
  · exact .ite (.state (execTake_backed hu)) hu
  · exact .ite (.state (execClrov_backed hu)) hu
  · exact .ite (.state (execClrchop_backed hu)) hu
  · exact .ite (.state (execSpnTgtWrite_backed hu)) hu
  · exact .ite (.ite (.state (execOceBadop_backed hu)) hu) (.ite (.ite (.state (execOceOpen_backed hu)) hu) (.ite (.ite
        (.state (execOcePark_backed hu)) hu) (.ite (.state (execOceFill_backed hu)) hu)))
  · exact .ite (.state (execSetrd_backed hu)) hu
  · exact .ite (.state (execDmaCtlEnable_backed hu)) hu
  · exact .ite (.state (execDmaSwreq_backed hu)) hu
  · exact .ite (.state (execDmaChannelEnable_backed hu)) hu
  · exact .ite (.state (execDmaStop_backed hu)) hu
  · exact .ite (.state (execPlock_backed hu)) hu
  · exact .ite (.state (execRetrain_backed hu)) hu
  · exact .ite (.state (execBufPretWrite_backed hu)) hu
  · exact .ite (.ite (.state (execKeyGenerate_backed hu)) hu) (.ite (.ite (.state (execKeyLoad_backed hu)) hu) (.ite (.state
        (execKeyDestroy_backed hu)) hu))
  · exact .ite (.state (execFrcLaneGo_backed hu)) hu
  · exact .ite (.state (execHifCplWrite_backed hu)) hu
  · exact .ite (.state (.pick (execLrelFwd_backed hu) (execLrelRel_backed hu))) hu
  · exact .ite (.state (execHifXferWrite_backed hu)) hu
  · exact .ite (.state (execPassOpen_backed hu)) hu
  · exact .ite (.state (execPassClose_backed hu)) hu
  · exact .ite (.state (execHlCmdWrite_backed hu)) hu
  · exact hu

theorem State.Backed.winRow {v : Nat} {m : WinMem} (hu : u.Backed) : (u.winRow v m).Backed := by
  unfold State.winRow
  dsimp only
  split
  · exact .state (execHseStoreWrite_backed hu)
  · exact .state (execDefectTableWrite_backed hu)
  · exact .state (execBankWrite_backed hu)
  · exact .state (execCogTableWrite_backed hu)
  · exact hu

theorem State.Backed.hartRegStore {a n v : Nat} (hu : u.Backed) : (u.hartRegStore a n v).Backed :=
  .ite hu (by
    dsimp only
    split
    · exact .after (fun h2 => .ite (by
          split
          · exact h2.winRow
          · exact h2) h2) hu.plainWrite.winRow
    · exact .foldl (fun _ _ hv => .ite hv.fieldRow hv) hu.plainWrite)

/-- What reading a register that a read changes answers. -/
theorem popRow_backed {k : RKey} {row : State → Res} (h : popRow k = some row) (hu : u.Backed) : Res.Backed (row u) := by
  unfold popRow at h
  split at h <;> cases h
  · exact execHseDoneRead_backed hu
  · exact execHifNextRead_backed hu
  · exact execHifXdoneRead_backed hu
  · exact execHlRespRead_backed hu
  · exact execEvcClaimRead_backed hu

theorem State.Backed.hartRegLoad {a n : Nat} (hu : u.Backed) : (u.hartRegLoad a n).2.Backed := by
  unfold State.hartRegLoad
  split
  · exact hu
  · split
    · exact hu
    · split
      · next row h =>
        obtain ⟨_, _, hk⟩ := List.exists_of_findSome?_eq_some h
        exact .state (popRow_backed hk hu)
      · exact hu

/-! ### Machine/Harts -/

theorem State.Backed.hartDenied {c : Hart} {k : Access} {a n mepc : Nat} (hu : u.Backed) :
    (u.hartDenied c k a n mepc).Backed := .hartTrap (.raise (.ite hu.raise hu))

theorem State.Backed.breakResv {c : Hart} {a n : Nat} (hu : u.Backed) : (u.breakResv c a n).Backed := hu.setL2

theorem State.Backed.dropResv {c : Hart} (hu : u.Backed) : (u.dropResv c).Backed := hu.setL2

theorem State.Backed.hartLoad {c : Hart} {a n : Nat} (hu : u.Backed) : (u.hartLoad c a n).2.Backed :=
  hu.cachedLoad.holdLines

theorem State.Backed.hartStore {c : Hart} {a : Nat} {bs : List Byte} (hu : u.Backed) : (u.hartStore c a bs).Backed :=
  hu.breakResv.ownLines.cachedStore.holdLines

theorem State.Backed.cachedAccess {c : Hart} {k : Access} {a n v mepc : Nat} (hu : u.Backed) :
    (u.cachedAccess c k a n v mepc).Backed :=
  .ite hu.raise.hartTrap (by
    dsimp only
    split
    · exact hu.hartLoad.emit
    · exact hu.fetch.emit
    · exact hu.hartStore
    · exact hu.hartLoad.hartStore.emit
    · exact hu.hartLoad.setL2.emit
    · exact .ite hu.dropResv.hartStore.emit hu.dropResv.emit)

theorem State.Backed.directAccess {c : Hart} {k : Access} {a n v : Nat} (hu : u.Backed) :
    (u.directAccess c k a n v).Backed := .ite hu.firmwareTag.emit hu.firmwareTag.mwr

theorem State.Backed.registerAccess {c : Hart} {k : Access} {a n v : Nat} (hu : u.Backed) :
    (u.registerAccess c k a n v).Backed := .ite hu.firmwareTag.hartRegLoad.emit hu.firmwareTag.hartRegStore

theorem State.Backed.hartAccess {c : Hart} {k : Access} {a n v mepc : Nat} {p : Parity} {ecc : Ecc} (hu : u.Backed) :
    (u.hartAccess c k a n v mepc p ecc).Backed :=
  .ite hu.hartDenied (.ite hu.raise.hartTrap (.ite hu.hartTrap (.ite hu.hartTrap (.ite hu.registerAccess (.ite
      hu.parityError.memoryRead.cachedAccess hu.directAccess)))))

theorem execHartMemoryAccess_backed {c : Hart} {k : Access} {addr len : Nat} {v mepc : Word} {p : Parity} {ecc : Ecc} {pre :
    List HartOp} (hu : u.Backed) :
    Res.Backed (execHartMemoryAccess c k addr len v mepc p u ecc pre) := .next (.on hu hu.hartOps.hartAccess)

/-! ### Machine/HifCtl -/

theorem State.Backed.pfReset {f : Nat} (hu : u.Backed) : (u.pfReset f).Backed :=
  .ite hu (.parts (by
    split
    · exact .ite hu.endTest hu
    · exact hu))

theorem execControllerReset_backed {f : Func} (hu : u.Backed) : Res.Backed (execControllerReset f u) :=
  .next (.on hu hu.pfReset.resetCtrl)

theorem execControllerEnable_backed {f : Func} {wrr : Bool} (hu : u.Backed) :
    Res.Backed (execControllerEnable f u wrr) := .next (.on hu hu.parts.setSq.setCq.setCtrl.raise)

theorem execFunctionLevelReset_backed {f : Func} (hu : u.Backed) : Res.Backed (execFunctionLevelReset f u) :=
  .next (.on hu (.ite hu.resetAll hu.resetCtrl))

theorem execNssrWrite_backed {f : Func} {v : W32} (hu : u.Backed) : Res.Backed (execNssrWrite f v u) :=
  .next (.on hu hu.pulseStart)

theorem execValleyTimerExpire_backed (hu : u.Backed) : Res.Backed (execValleyTimerExpire u) :=
  .next (.on hu hu.psRequest)

theorem execDeepTimerExpire_backed (hu : u.Backed) : Res.Backed (execDeepTimerExpire u) := .next (.on hu hu.psRequest)

theorem execAutonomousPowerStateTransition_backed (hu : u.Backed) : Res.Backed (execAutonomousPowerStateTransition u) :=
  .next (.on hu hu.psRequest)

theorem execPowerStateEntry_backed (hu : u.Backed) : Res.Backed (execPowerStateEntry u) :=
  .next (by
    split
    · exact .ite hu.psEnter hu
    · exact hu)

theorem execGovernorStep_backed {up : Bool} {busy : Byte} (hu : u.Backed) : Res.Backed (execGovernorStep up busy u) :=
  .next (.on hu hu.moveTier.raise)

theorem execNvmeMiBasicCommand_backed (hu : u.Backed) : Res.Backed (execNvmeMiBasicCommand u) :=
  .next (.on hu hu.parts.emit)

/-! ### Machine/IoOps -/

theorem State.Backed.putBlock {cached : Bool} {key : Nat} {b : List Byte} (hu : u.Backed) :
    (u.putBlock cached key b).Backed := hu.parts

theorem State.Backed.putBlocks {cached : Bool} {key : Nat} {l : List (List Byte)} (hu : u.Backed) :
    (u.putBlocks cached key l).Backed := by
  induction l generalizing u key with
  | nil => exact hu
  | cons b t ih => exact ih hu.putBlock

theorem State.Backed.zeroBlocks {cached : Bool} {lo n : Nat} (hu : u.Backed) : (u.zeroBlocks cached lo n).Backed :=
  .foldl (fun _ _ hv => hv.putBlock) hu

theorem State.Backed.flushNs {ns : Nat} (hu : u.Backed) : (u.flushNs ns).Backed := hu.parts.setZones

theorem State.Backed.flushAll {ns : Nat} (hu : u.Backed) : (u.flushAll ns).Backed := by
  unfold State.flushAll
  dsimp only
  split
  · exact .foldl (fun _ _ hv => hv.fullCheck) hu.flushNs
  · exact hu.flushNs

theorem State.Backed.durableZone {n : Nsp} {z wpEnd : Nat} (hu : u.Backed) : (u.durableZone n z wpEnd).Backed :=
  hu.parts.setZone

theorem State.Backed.zoneStore {c : Cmd} {n : Nsp} {r : Nat × Nat × Nat} {bs : List (List Byte)} {t : State} (hu : u.Backed)
    (e : u.zoneStore c n r bs = .inl t) : t.Backed := by
  unfold State.zoneStore at e
  dsimp only at e
  split at e
  · cases e
    exact .ite hu.setZone.putBlocks.bandWritten hu.setZone.putBlocks.bandWritten.durableZone
  · split at e <;> cases e
    exact .ite hu.setZone.putBlocks.bandWritten hu.setZone.putBlocks.bandWritten.durableZone

theorem State.Backed.zoneWrite {c : Cmd} {n : Nsp} {r : Nat × Nat × Nat} {bs : List (List Byte)} {d0 d1 : Nat} (hu : u.Backed) :
    (u.zoneWrite c n r bs d0 d1).Backed := by
  unfold State.zoneWrite
  split
  · exact hu.setZone.zoneChanged.finishCmd
  · exact (hu.zoneStore ‹_›).finishCmd.fullCheck

theorem State.Backed.tornBlocks {key : Nat} {l : List (List Byte)} (hu : u.Backed) : (u.tornBlocks key l).Backed := by
  induction l generalizing u key with
  | nil => exact hu
  | cons b t ih => exact ih (.ite (.mapConv (.putBlock (.parts hu))) (.parts hu))

theorem State.Backed.writeBlocks {c : Cmd} {n : Nsp} {bs : List (List Byte)} {d0 d1 : Nat} (hu : u.Backed) :
    (u.writeBlocks c n bs d0 d1).Backed :=
  .ite (.finishCmd (.ite hu hu.tornBlocks)) (by
    split
    · exact .ite hu hu.zoneWrite
    · exact .ite hu hu.putBlocks.mapConvs.finishCmd)

theorem State.Backed.withData {c : Cmd} {go : List (List Byte) → State} (hgo : ∀ x : List (List Byte), (go x).Backed) (hu
    : u.Backed) :
    (u.withData c go).Backed := by
  unfold State.withData
  split
  · exact .ite hu.finishCmd (hgo _)
  · exact hu.finishCmd
  · exact .ite hu.finishCmd hu

theorem State.Backed.reading {c : Cmd} {n : Nsp} {fails : List Retry} {go : State → State} (hgo : ∀ v, v.Backed → State.Backed
    (go v)) (hu : u.Backed) :
    (u.reading c n fails go).Backed :=
  .after (fun h2 => .ite h2.finishCmd (by
      dsimp only
      split
      · exact h2.ladders.updCmd.finishCmd
      · exact hgo _ h2.ladders)) (.ite hu.flushAll hu)

/-! ### Machine/Io -/

theorem Res.Backed.onIo {tag : Tag} {op : Nat} {go : Cmd → Nsp → State} (hgo : ∀ x : Cmd, ∀ x1 : Nsp, (go x x1).Backed)
    (hu : u.Backed) :
    Res.Backed (u.onIo tag op go) :=
  .onCmd (fun _ => by
    split
    · exact hgo _ _
    · exact hu.finishCmd) hu

theorem Res.Backed.onWrite {tag : Tag} {op : Nat} {d0 d1 : Cmd → Nsp → Nat} (hu : u.Backed) :
    Res.Backed (u.onWrite tag op d0 d1) :=
  .next (by
    split
    · split
      · exact .withData (fun _ => hu.writeBlocks) hu
      · exact hu.finishCmd
    · exact hu)

theorem execWrite_backed {tag : Tag} (hu : u.Backed) : Res.Backed (execWrite tag u) := .onWrite hu

theorem execZoneAppend_backed {tag : Tag} (hu : u.Backed) : Res.Backed (execZoneAppend tag u) := .onWrite hu

theorem execWriteZeroes_backed {tag : Tag} (hu : u.Backed) : Res.Backed (execWriteZeroes tag u) :=
  .onIo (fun _ _ => by
    split
    · exact .ite hu hu.zoneWrite
    · exact hu.zeroBlocks.unmapConv.finishCmd) hu

theorem execRead_backed {tag : Tag} {fails : List Retry} (hu : u.Backed) : Res.Backed (execRead tag fails u) :=
  .onIo (fun _ _ => by
    split
    · exact hu.finishCmd
    · exact hu
    · exact .reading (fun _ hv => .finishCmd (.ite hv.emit hv)) hu) hu

theorem execVerify_backed {tag : Tag} {fails : List Retry} (hu : u.Backed) : Res.Backed (execVerify tag fails u) :=
  .onIo (fun _ _ => .reading (fun _ hv => hv.finishCmd) hu) hu

theorem execCompare_backed {tag : Tag} {fails : List Retry} (hu : u.Backed) : Res.Backed (execCompare tag u fails) :=
  .onIo (fun _ _ => .withData (fun _ => .reading (fun _ hv => hv.finishCmd) hu) hu) hu

theorem execDatasetManagement_backed {tag : Tag} (hu : u.Backed) : Res.Backed (execDatasetManagement tag u) :=
  .onIo (fun _ _ => .ite hu.finishCmd (.ite hu.finishCmd (.finishCmd (.foldl (fun _ _ hv => hv.zeroBlocks.unmapConv) hu))))
      hu

theorem execFlush_backed {tag : Tag} (hu : u.Backed) : Res.Backed (execFlush tag u) :=
  .onCmd (fun _ => .finishCmd (.foldl (fun _ _ hv => hv.flushAll) hu)) hu

theorem State.Backed.moveZone {ns z : Nat} (hu : u.Backed) : (u.moveZone ns z).Backed := by
  unfold State.moveZone
  dsimp only
  split
  · split
    · exact (hu.pickAny.of_snd ‹_›).setBand.setCopy
    · exact .foldl (fun _ _ hv => hv.finishCmd) (hu.pickAny.of_snd ‹_›)
  · exact .foldl (fun _ _ hv => hv.finishCmd) hu

theorem execDrainPoolStall_backed {heads : BitVec 24} (hu : u.Backed) : Res.Backed (execDrainPoolStall heads u) :=
  .next (.on hu (.foldl (fun _ _ hv => .ite hv (by
          split
          · exact hv.moveZone
          · exact hv)) hu.raise))

/-! ### Machine/Zones -/

theorem State.Backed.actAll {n : Nsp} {act : ZoneAct} {l : List Nat} {t : State}
    (hact : ∀ v w z, v.Backed → act v n z = .inl w → w.Backed) (hu : u.Backed) (e : u.actAll n act l = .inl t) : t.Backed := by
  induction l generalizing u with
  | nil => cases e; exact hu
  | cons z l ih =>
    unfold State.actAll at e
    split at e
    · exact ih (hact _ _ _ hu ‹_›) e
    · cases e

/-- An action on a zone that is no refusal keeps permits backed. -/
def ZoneAct.Backed (act : ZoneAct) : Prop := ∀ v n z w, v.Backed → act v n z = .inl w → w.Backed

theorem actOpen_backed : ZoneAct.Backed actOpen := by
  intro v n z w hv e
  unfold actOpen at e
  split at e
  · cases e; exact hv
  · exact hv.openZone e
  · exact hv.openZone e
  · exact hv.openZone e
  · cases e

theorem actClose_backed : ZoneAct.Backed actClose := by
  intro v n z w hv e
  unfold actClose at e
  dsimp only at e
  split at e <;> cases e
  · exact hv
  · exact hv.setZone.closeUnit
  · exact hv.setZone.closeUnit

theorem actFinish_backed : ZoneAct.Backed actFinish := by
  intro v n z w hv e
  unfold actFinish at e
  dsimp only at e
  split at e <;> cases e
  · exact hv
  · exact hv.setZone.bandWritten.durableZone

theorem actReset_backed : ZoneAct.Backed actReset := by
  intro v n z w hv e
  unfold actReset at e
  dsimp only at e
  split at e <;> cases e
  exact hv.parts.setZone.bandReset

theorem actOffline_backed : ZoneAct.Backed actOffline := by
  intro v n z w hv e
  unfold actOffline at e
  dsimp only at e
  split at e <;> cases e
  exact hv.setZone

theorem Res.Backed.zoneSend {tag : Tag} {zsa : Nat} {picks : ZoneSt → Bool} {act : ZoneAct} (hact : ZoneAct.Backed act)
    (hu : u.Backed) : Res.Backed (u.zoneSend tag zsa picks act) :=
  .onCmd (fun _ => by
    dsimp only
    split
    · exact hu.finishCmd
    · refine .ite hu.finishCmd (.ite hu.finishCmd ?_)
      split
      · exact (hu.actAll (fun _ _ _ hv e => hact _ _ _ _ hv e) ‹_›).finishCmd
      · exact hu.finishCmd) hu

theorem execZoneOpen_backed {tag : Tag} (hu : u.Backed) : Res.Backed (execZoneOpen tag u) := .zoneSend actOpen_backed hu

theorem execZoneClose_backed {tag : Tag} (hu : u.Backed) : Res.Backed (execZoneClose tag u) := .zoneSend actClose_backed hu

theorem execZoneFinish_backed {tag : Tag} (hu : u.Backed) : Res.Backed (execZoneFinish tag u) := .zoneSend actFinish_backed hu

theorem execZoneReset_backed {tag : Tag} (hu : u.Backed) : Res.Backed (execZoneReset tag u) := .zoneSend actReset_backed hu

theorem execZoneOffline_backed {tag : Tag} (hu : u.Backed) : Res.Backed (execZoneOffline tag u) := .zoneSend actOffline_backed hu

theorem execZoneManagementReceive_backed {tag : Tag} (hu : u.Backed) : Res.Backed (execZoneManagementReceive tag u) :=
  .onIo (fun _ _ => .ite hu.finishCmd (.ite hu.finishCmd hu.answer)) hu

theorem execUnitCloseTimeout_backed {nsidx : Byte} {zone : Nat} (hu : u.Backed) :
    Res.Backed (execUnitCloseTimeout nsidx zone u) := .next hu.closeUnit

/-! ### Machine/Dispatch -/

/-- Every command keeps permits backed. -/
theorem exec_backed {c : Instr} (hu : u.Backed) : Res.Backed (exec c u) := by
  unfold exec
  split
  · exact execPowerOnReset_backed hu
  · exact execPowerOnRelease_backed hu
  · exact execSysrstNAssert_backed hu
  · exact execSysrstNRelease_backed hu
  · exact execLoaderRestartStart_backed hu
  · exact execReleaseStep_backed hu
  · exact execReleaseStepComplete_backed hu
  · exact execReleaseStepTimeout_backed hu
  · exact execLoadCopyDone_backed hu
  · exact execNorReadTimeout_backed hu
  · exact execRstRunokWrite_backed hu
  · exact execBootWindowExpire_backed hu
  · exact execWindowRecordAckPulse_backed hu
  · exact execRstOutPulse_backed hu
  · exact execRstoutPulseEnd_backed hu
  · exact execRstBlkGo_backed hu
  · exact execSoftResetDone_backed hu
  · exact execCalibrationSetWrite_backed hu
  · exact execCalibrationSetRead_backed hu
  · exact execNorWriteComplete_backed hu
  · exact execFirmwareImageDownload_backed hu
  · exact execFirmwareCommitCa000b_backed hu
  · exact execFirmwareCommitCa001b_backed hu
  · exact execFirmwareCommitCa010b_backed hu
  · exact execFirmwareCommitCa011b_backed hu
  · exact execFirmwareCommitCaReserved_backed hu
  · exact execActivationDrainDone_backed hu
  · exact execActivationDrainTimeout_backed hu
  · exact execZeroCrossing_backed hu
  · exact execLockEntered_backed hu
  · exact execLockLost_backed hu
  · exact execSpnTgtWrite_backed hu
  · exact execCogenWrite_backed hu
  · exact execCogTableWrite_backed hu
  · exact execObserveEnd_backed hu
  · exact execBrakeConfirmed_backed hu
  · exact execBrakeTimeout_backed hu
  · exact execAlignVectorEnd_backed hu
  · exact execHandover_backed hu
  · exact execStartAttemptFail_backed hu
  · exact execWindingShortStop_backed hu
  · exact execBusWatchEnter_backed hu
  · exact execBusWatchRelease_backed hu
  · exact execOv1Engage_backed hu
  · exact execOv1Release_backed hu
  · exact execChopperFault_backed hu
  · exact execOv2Shutdown_backed hu
  · exact execPowerLoss_backed hu
  · exact execIsolationSwitchClose_backed hu
  · exact execClrchop_backed hu
  · exact execClrov_backed hu
  · exact execTake_backed hu
  · exact execRetractPush_backed hu
  · exact execRetractDone_backed hu
  · exact execLinkSilence_backed hu
  · exact execBridgeOvercurrent_backed hu
  · exact execMaRailOutOfRange_backed hu
  · exact execServoAddressMark_backed hu
  · exact execSamMissing_backed hu
  · exact execSampleRecord_backed hu
  · exact execSampleService_backed hu
  · exact execSampleDeadlineMiss_backed hu
  · exact execBankselSwap_backed hu
  · exact execBankWrite_backed hu
  · exact execSceRunWrite_backed hu
  · exact execLoad_backed hu
  · exact execUnload_backed hu
  · exact execUnloadPushEnd_backed hu
  · exact execLoadtmo_backed hu
  · exact execCtgtWrite_backed hu
  · exact execSeektmo_backed hu
  · exact execShockExcursion_backed
  · exact execShockHoldExpire_backed
  · exact execShockSensorUnsound_backed
  · exact execReportFreshExpire_backed
  · exact execSupplyWindowExit_backed
  · exact execSupplyGoodRestore_backed
  · exact execControllerDieOvertemp_backed
  · exact execPowerDieOvertemp_backed hu
  · exact execNext_backed hu
  · exact execJump_backed hu
  · exact execCall_backed hu
  · exact execRet_backed hu
  · exact execLoop_backed hu
  · exact execWait_backed hu
  · exact execWaitConditionMet_backed hu
  · exact execWaittmo_backed hu
  · exact execTret_backed hu
  · exact execHalt_backed hu
  · exact execIllegalSeq_backed hu
  · exact execSkipCheckDone_backed hu
  · exact execTrapEntry_backed hu
  · exact execAtomOverrun_backed hu
  · exact execHseRunStart_backed hu
  · exact execHseRunStop_backed hu
  · exact execDoorbellCmd_backed hu
  · exact execDoorbellAbort_backed hu
  · exact execCqptrTailWrite_backed hu
  · exact execHseDoneRead_backed hu
  · exact execHseStoreWrite_backed hu
  · exact execDefectTableWrite_backed hu
  · exact execSlotBoundary_backed hu
  · exact execKeepOutStart_backed hu
  · exact execKeepOutEnd_backed hu
  · exact execWriteFrameEnd_backed hu
  · exact execWritePermitDrop_backed hu
  · exact execPreampFault_backed hu
  · exact execSyncMarkFound_backed hu
  · exact execSyncWindowClose_backed hu
  · exact execDecodeDone_backed hu
  · exact execDecodeBudgetExpire_backed hu
  · exact execChanRdecGo_backed hu
  · exact execOfflineDecodeDone_backed hu
  · exact execChanEnable_backed hu
  · exact execBaseMatrixCheckDone_backed hu
  · exact execClrstat_backed hu
  · exact execZrateWrite_backed hu
  · exact execTierLeave_backed hu
  · exact execTierReady_backed hu
  · exact execSynthRelockDone_backed hu
  · exact execNolock_backed hu
  · exact execHlCmdWrite_backed hu
  · exact execHlinkTransactionStart_backed hu
  · exact execHlinkTransactionDone_backed hu
  · exact execHlRespRead_backed hu
  · exact execOceOpen_backed hu
  · exact execOcePark_backed hu
  · exact execOceFill_backed hu
  · exact execOceBadop_backed hu
  · exact execOceCommandEnd_backed hu
  · exact execSetrd_backed hu
  · exact execBufferAccess_backed hu
  · exact execPatrolScrubRead_backed hu
  · exact execMr4Poll_backed hu
  · exact execRetrain_backed hu
  · exact execPlock_backed hu
  · exact execBufPretWrite_backed hu
  · exact execShapeSegmentStart_backed hu
  · exact execDrainPoolStall_backed hu
  · exact execDmaChannelEnable_backed hu
  · exact execDmaStop_backed hu
  · exact execDmaCtlEnable_backed hu
  · exact execDmaSwreq_backed hu
  · exact execDmaRequest_backed hu
  · exact execDescriptorFetchDone_backed hu
  · exact execDmaBurstDone_backed hu
  · exact execDmaBusTimeout_backed hu
  · exact execGuardWait1ms_backed hu
  · exact execSqTailDoorbell_backed hu
  · exact execCqHeadDoorbell_backed hu
  · exact execCommandAdmit_backed hu
  · exact execCreditGrant_backed hu
  · exact execHifNextRead_backed hu
  · exact execHifCplWrite_backed hu
  · exact execCompletionPost_backed hu
  · exact execLrelFwd_backed hu
  · exact execLrelRel_backed hu
  · exact execHifXferWrite_backed hu
  · exact execHostTransferEnd_backed hu
  · exact execHifXdoneRead_backed hu
  · exact execLockWait1s_backed hu
  · exact execOrderedWait1s_backed hu
  · exact execCqFull1s_backed hu
  · exact execCreateIoSubmissionQueue_backed hu
  · exact execDeleteIoSubmissionQueue_backed hu
  · exact execCreateIoCompletionQueue_backed hu
  · exact execDeleteIoCompletionQueue_backed hu
  · exact execGetLogPage_backed hu
  · exact execIdentify_backed hu
  · exact execAbort_backed hu
  · exact execSetFeatures_backed hu
  · exact execSetPowerManagement_backed hu
  · exact execSetVolatileWriteCache_backed hu
  · exact execSetSpindleGovernor_backed hu
  · exact execSetErrorRecovery_backed hu
  · exact execGetFeatures_backed hu
  · exact execAsynchronousEventRequest_backed hu
  · exact execNamespaceCreate_backed hu
  · exact execNamespaceDelete_backed hu
  · exact execNamespaceAttach_backed hu
  · exact execNamespaceDetach_backed hu
  · exact execDirectiveSend_backed hu
  · exact execDirectiveReceive_backed hu
  · exact execVirtualizationManagement_backed hu
  · exact execSelfTestShort_backed hu
  · exact execSelfTestExtended_backed hu
  · exact execSelfCalibration_backed hu
  · exact execSelfTestAbort_backed hu
  · exact execSelfTestEnd_backed hu
  · exact execSelfTestPreempt_backed hu
  · exact execFormatNvm_backed hu
  · exact execSanitizeCryptoErase_backed hu
  · exact execCryptoEraseDone_backed hu
  · exact execFlush_backed hu
  · exact execWrite_backed hu
  · exact execRead_backed hu
  · exact execCompare_backed hu
  · exact execWriteZeroes_backed hu
  · exact execDatasetManagement_backed hu
  · exact execVerify_backed hu
  · exact execZoneAppend_backed hu
  · exact execZoneOpen_backed hu
  · exact execZoneClose_backed hu
  · exact execZoneFinish_backed hu
  · exact execZoneReset_backed hu
  · exact execZoneOffline_backed hu
  · exact execZoneManagementReceive_backed hu
  · exact execUnitCloseTimeout_backed hu
  · exact execFrcLaneGo_backed hu
  · exact execFrcJobEnd_backed hu
  · exact execKeyGenerate_backed hu
  · exact execKeyLoad_backed hu
  · exact execKeyDestroy_backed hu
  · exact execKeyCommandEnd_backed hu
  · exact execControllerReset_backed hu
  · exact execControllerEnable_backed hu
  · exact execFunctionLevelReset_backed hu
  · exact execNssrWrite_backed hu
  · exact execPerstN_backed hu
  · exact execHotReset_backed hu
  · exact execIdpLinkControl_backed hu
  · exact execEdpSecondaryBusReset_backed hu
  · exact execIdpBusNumberWrite_backed hu
  · exact execValleyTimerExpire_backed hu
  · exact execDeepTimerExpire_backed hu
  · exact execPowerStateEntry_backed hu
  · exact execGovernorStep_backed hu
  · exact execNvmeMiBasicCommand_backed hu
  · exact execPassOpen_backed hu
  · exact execPassClose_backed hu
  · exact execJoinProceed_backed hu
  · exact execHoldoffExpire_backed hu
  · exact execJoinEnChange_backed hu
  · exact execPassPositionCheck_backed hu
  · exact execLinkUp_backed hu
  · exact execLinkDown_backed hu
  · exact execDepth_backed hu
  · exact execBelow_backed hu
  · exact execDepthTimeout_backed hu
  · exact execChainMessagePeriod_backed hu
  · exact execTlpForward_backed hu
  · exact execForwardBufferFull_backed hu
  · exact execHartMemoryAccess_backed hu
  · exact execCboClean_backed hu
  · exact execCboFlush_backed hu
  · exact execCboInval_backed hu
  · exact execRangeClean_backed hu
  · exact execRangeCleanInvalidate_backed hu
  · exact execRangeInvalidate_backed hu
  · exact execRangeOpRefused_backed hu
  · exact execRangeOpDone_backed hu
  · exact execL2Disable_backed hu
  · exact execL2DrainDone_backed hu
  · exact execL2Enable_backed hu
  · exact execL2LockWrite_backed hu
  · exact execEvcClaimRead_backed hu
  · exact execEvcClaimComplete_backed hu
  · exact execEvcMsipWrite_backed hu
  · exact execTimerInterrupt_backed hu
  · exact execEventRaise_backed hu
  · exact execEvcRaiseWrite_backed hu
  · exact execRecordWrite_backed hu
  · exact execLostEventsRecord_backed hu
  · exact execHold_backed hu
  · exact execHoldExpire_backed hu
  · exact execOptimeSave_backed hu
  · exact execFaultSubwindow_backed hu
  · exact execFaultClassLasting_backed hu
  · exact execAgeFstatClear_backed hu
  · exact execGuardVoltageStep_backed hu
  · exact execAgeVoutWrite_backed hu
  · exact execPmbusCommandDone_backed hu
  · exact execThermalLevelCross_backed hu
  · exact execAonFallback_backed hu
  · exact execRegisterWrite_backed hu
  · exact execShockSensorSoundRestore_backed
  · exact execHlFltNRelease_backed hu
  · exact execMaRailInRange_backed hu
  · exact execControllerDieTempRestore_backed
  · exact execDqRetrainDone_backed hu
  · exact execAutonomousPowerStateTransition_backed hu
  · exact execInterruptCoalescingTimeout_backed hu

/-! ### Machine/Idle -/

theorem State.Backed.forward (hu : u.Backed) : u.forward.Backed := .ite hu.drainPort.drainPort hu

theorem State.Backed.biasStep {r : Reg} (hu : u.Backed) (hr : r ≠ .SPN_WP_WP ∧ r ≠ .SPN_WP_EN := by decide) :
    (u.biasStep r).Backed := hu.parts.wr hr

theorem State.Backed.restBias (hu : u.Backed) : u.restBias.Backed :=
  .ite hu.parts.setPwr (.after (fun h1 => .ite h1.biasStep h1) (.ite hu.biasStep hu))

theorem State.Backed.tick (hu : u.Backed) : u.tick.Backed :=
  .ite (.after (fun h1 => .ite h1.parts h1.wrapAdd.parts.background.voltPlan.restBias) hu.forward.wrapAdd) hu

theorem idle_backed (hu : u.Backed) : Res.Backed (idle u) := .next hu.tick

end Sys2Proof.Machine

open Sys2Proof Sys2Proof.Machine

/-- Settles O25: each command, and the idle cycle, keeps permits backed. -/
theorem permitNeverOutlivesItsConditions : Obligations.PermitNeverOutlivesItsConditions := by
  intro s t hs h
  unfold step at h
  split at h
  · obtain ⟨w, hw, hb⟩ := idle_backed (u := s) ⟨hs⟩
    cases hw.symm.trans h
    exact hb.conds
  · next c rest _ =>
    obtain ⟨w, hw, hb⟩ := exec_backed (c := c) (u := { s with pending := rest }) ⟨hs⟩
    cases hw.symm.trans h
    exact hb.conds
end

section
/-! PROOFS. The tables of engines and channels, and single bits of a field: what a read returns after a write. -/

set_option Elab.async false

namespace Sys2Proof.Machine

variable {s t u : State}

/-! ### The tables of engines and channels -/

theorem State.hse_congr {s t : State} (e : t.hses = s.hses) (g : Nat) : t.hse g = s.hse g := by simp only [State.hse, e]
theorem State.chan_congr {s t : State} (e : t.chans = s.chans) (g : Nat) : t.chan g = s.chan g := by simp only [State.chan, e]

section
variable (s : State)

@[simp] theorem State.hse_setHse_same (h : Nat) (x : Hse) : (s.setHse h x).hse h = x := Tab.get_put_same _ _ _ _ _
theorem State.hse_setHse_ne {h g : Nat} (n : g ≠ h) (x : Hse) : (s.setHse h x).hse g = s.hse g := Tab.get_put_other _ _ _ n _ _
@[simp] theorem State.chan_setChan_same (h : Nat) (x : Chan) : (s.setChan h x).chan h = x := Tab.get_put_same _ _ _ _ _
theorem State.chan_setChan_ne {h g : Nat} (n : g ≠ h) (x : Chan) : (s.setChan h x).chan g = s.chan g :=
  Tab.get_put_other _ _ _ n _ _
@[simp] theorem State.chan_setHse (h g : Nat) (x : Hse) : (s.setHse h x).chan g = s.chan g := rfl
@[simp] theorem State.hse_setChan (h g : Nat) (x : Chan) : (s.setChan h x).hse g = s.hse g := rfl
@[simp] theorem State.hse_wr (r : Reg) (v i j g : Nat) : (s.wr r v i j).hse g = s.hse g := rfl
@[simp] theorem State.chan_wr (r : Reg) (v i j g : Nat) : (s.wr r v i j).chan g = s.chan g := rfl
@[simp] theorem State.hse_wrb (r : Reg) (b : Bool) (i j g : Nat) : (s.wrb r b i j).hse g = s.hse g := rfl
@[simp] theorem State.chan_wrb (r : Reg) (b : Bool) (i j g : Nat) : (s.wrb r b i j).chan g = s.chan g := rfl
@[simp] theorem State.hse_wrBit (r : Reg) (b : Nat) (v : Bool) (i j g : Nat) : (s.wrBit r b v i j).hse g = s.hse g := rfl
@[simp] theorem State.chan_wrBit (r : Reg) (b : Nat) (v : Bool) (i j g : Nat) : (s.wrBit r b v i j).chan g = s.chan g := rfl
@[simp] theorem State.hse_emit (o : Out) (g : Nat) : (s.emit o).hse g = s.hse g := rfl
@[simp] theorem State.chan_emit (o : Out) (g : Nat) : (s.emit o).chan g = s.chan g := rfl
@[simp] theorem State.hse_raise (n : Nat) (l : List (Nat × Nat)) (g : Nat) : (s.raise n l).hse g = s.hse g :=
  State.hse_congr (s.raise_hses n l) g
@[simp] theorem State.chan_raise (n : Nat) (l : List (Nat × Nat)) (g : Nat) : (s.raise n l).chan g = s.chan g :=
  State.chan_congr (s.raise_chans n l) g

/-! ### Single bits of a field -/

theorem State.rdBit_congr {s t : State} {r : Reg} {i j : Nat} (e : t.rd r i j = s.rd r i j) (b : Nat) : t.rdBit r b i j = s.rdBit r b i j := by
  simp only [State.rdBit, e]

/-- A bit of a field after one of its bits is set. -/
theorem State.rdBit_wrBit {r : Reg} {b : Nat} (c : Nat) (v : Bool) (i j : Nat) (hb : b < r.info.w) :
    (s.wrBit r c v i j).rdBit r b i j = if b = c then v else s.rdBit r b i j := by
  rw [State.rdBit, State.wrBit, State.rd_wr_same, Nat.testBit_mod_two_pow, testBit_setBitN]
  simp [hb, State.rdBit]

end

end Sys2Proof.Machine
end

section
/-! PROOFS. The write gate opens only within its conditions (R24, R25, R140, R185): from a closed gate on, whatever a microword does,
a gate that is open stands with its conditions and with the read gate closed. -/

set_option Elab.async false

namespace Sys2Proof.Machine

variable {s u t : State} {h : Nat} {C : Prop}

/-- What an open write gate asks for (R24, R25, R140, R185). -/
def State.MayWrite (u : State) (h : Nat) : Prop :=
  u.rateOk h = true ∧ u.windowOk h = true ∧ u.plausOk h = true ∧ u.rdBit .SPN_WP_WP (h / 6) = true ∧ u.bit .HL_STAT_FLT (h / 6) = false

/-- The write gate is open only where C holds, and then with its conditions, beside a closed read gate. -/
structure State.Gated (u : State) (h : Nat) (C : Prop) : Prop where
  conds : u.wgOpen h = true → C ∧ u.rgOpen h = false ∧ u.MayWrite h

/-- The fields that the conditions are read from. -/
def gateRegs : List Reg :=
  [.CHAN_STAT_ENA, .SPN_RATIO_READY, .CHAN_STAT_LOCKED, .CHAN_STAT_RLIM, .HSE_TRK_TRK, .SCE_HCAL0_HOFS, .SCE_POS_POS,
   .SCE_HSTAT_PLAUS, .SPN_WP_WP, .HL_STAT_FLT]

theorem State.mayWrite_congr (hr : ∀ r ∈ gateRegs, ∀ i j, t.rdW r i j = u.rdW r i j)
    (ht : (t.chan h).timed = (u.chan h).timed) (hf : (t.chan h).fabric = (u.chan h).fabric) : t.MayWrite h ↔ u.MayWrite h := by
  have rd : ∀ r ∈ gateRegs, ∀ i j, t.rd r i j = u.rd r i j := fun r m i j => congrArg BitVec.toNat (hr r m i j)
  simp only [State.MayWrite, State.rateOk, State.windowOk, State.hofsN, State.sposN, State.plausOk, State.rdBit, State.bit,
    rd .CHAN_STAT_ENA (by decide), rd .SPN_RATIO_READY (by decide), rd .CHAN_STAT_LOCKED (by decide),
    rd .CHAN_STAT_RLIM (by decide), rd .HSE_TRK_TRK (by decide), rd .SCE_HCAL0_HOFS (by decide), rd .SCE_POS_POS (by decide),
    rd .SCE_HSTAT_PLAUS (by decide), rd .SPN_WP_WP (by decide), rd .HL_STAT_FLT (by decide), ht, hf]
  rfl

/-! ### The gates' bits -/

theorem State.wgOpen_congr (e : t.rd .HSE_STAT_GATES h = u.rd .HSE_STAT_GATES h) : t.wgOpen h = u.wgOpen h := State.rdBit_congr e 2
theorem State.rgOpen_congr (e : t.rd .HSE_STAT_GATES h = u.rd .HSE_STAT_GATES h) : t.rgOpen h = u.rgOpen h := State.rdBit_congr e 1

theorem State.wgOpen_wr {r : Reg} (hr : r ≠ .HSE_STAT_GATES) (v i j : Nat) : (u.wr r v i j).wgOpen h = u.wgOpen h :=
  State.wgOpen_congr (State.rd_wr_ne u v hr.symm)

theorem State.wgOpen_wrb {r : Reg} (hr : r ≠ .HSE_STAT_GATES) (b : Bool) (i j : Nat) : (u.wrb r b i j).wgOpen h = u.wgOpen h :=
  State.wgOpen_wr hr _ i j

@[simp] theorem State.wgOpen_setChan (g : Nat) (x : Chan) : (u.setChan g x).wgOpen h = u.wgOpen h := rfl
@[simp] theorem State.wgOpen_setHse (g : Nat) (x : Hse) : (u.setHse g x).wgOpen h = u.wgOpen h := rfl
@[simp] theorem State.wgOpen_emit (o : Out) : (u.emit o).wgOpen h = u.wgOpen h := rfl
@[simp] theorem State.wgOpen_raise (n : Nat) (l : List (Nat × Nat)) : (u.raise n l).wgOpen h = u.wgOpen h :=
  State.wgOpen_congr (by simp)

/-- The write gate's bit after a gate's bit is set. -/
theorem State.wgOpen_wrBit (c : Nat) (v : Bool) : (u.wrBit .HSE_STAT_GATES c v h).wgOpen h = if 2 = c then v else u.wgOpen h :=
  State.rdBit_wrBit u c v h 0 (by decide)

theorem State.rgOpen_wrBit (c : Nat) (v : Bool) : (u.wrBit .HSE_STAT_GATES c v h).rgOpen h = if 1 = c then v else u.rgOpen h :=
  State.rdBit_wrBit u c v h 0 (by decide)

@[simp] theorem State.wgOpen_wgFall : (u.wgFall h).wgOpen h = u.wgOpen h := by
  unfold State.wgFall
  split <;> rfl

@[simp] theorem State.wgOpen_relock : (u.relock h).wgOpen h = u.wgOpen h := by
  unfold State.relock
  dsimp only
  split <;> simp [State.wgOpen_wr]

@[simp] theorem State.wgOpen_zrateSet : (u.zrateSet h).wgOpen h = u.wgOpen h := by
  simp [State.zrateSet, State.wgOpen_wr]

@[simp] theorem State.wgOpen_zrateNow : (u.zrateNow h).wgOpen h = u.wgOpen h := by
  unfold State.zrateNow
  split <;> simp

theorem State.wgOpen_wgEnd : (u.wgEnd h).wgOpen h = false := by
  simp [State.wgEnd, State.wgOpen_wrBit]

theorem State.wgOpen_rgEnd : (u.rgEnd h).wgOpen h = u.wgOpen h := by
  simp [State.rgEnd, State.wgOpen_wrBit, State.wgOpen_wrb]

theorem State.wgOpen_rgClose : (u.rgClose h).wgOpen h = u.wgOpen h := by
  unfold State.rgClose
  split
  · split
    · rfl
    · exact State.wgOpen_rgEnd
  · rfl

namespace State.Gated

/-! ### Updates that keep it -/

theorem closed (e : u.wgOpen h = false) : u.Gated h C := ⟨fun o => absurd (e.symm.trans o) Bool.false_ne_true⟩

theorem shut (g : u.Gated h False) : u.wgOpen h = false := by
  cases e : u.wgOpen h
  · rfl
  · exact (g.conds e).1.elim

theorem of_eq (g : u.Gated h C) (hw : t.wgOpen h = u.wgOpen h) (hg : t.rgOpen h = u.rgOpen h)
    (hr : ∀ r ∈ gateRegs, ∀ i j, t.rdW r i j = u.rdW r i j) (ht : (t.chan h).timed = (u.chan h).timed)
    (hf : (t.chan h).fabric = (u.chan h).fabric) : t.Gated h C := by
  refine ⟨fun o => ?_⟩
  obtain ⟨c, rg, m⟩ := g.conds (hw ▸ o)
  exact ⟨c, hg.trans rg, (State.mayWrite_congr hr ht hf).2 m⟩

/-- The registers stand, and of the channel what the conditions read. -/
theorem of_regs (g : u.Gated h C) (e : t.regs = u.regs) (ht : (t.chan h).timed = (u.chan h).timed)
    (hf : (t.chan h).fabric = (u.chan h).fabric) : t.Gated h C :=
  g.of_eq (State.wgOpen_congr (State.rd_congr e _ _ _)) (State.rgOpen_congr (State.rd_congr e _ _ _))
    (fun r _ i j => State.rdW_congr e r i j) ht hf

theorem wr {r : Reg} {v i j : Nat} (g : u.Gated h C) (hr : r ∉ Reg.HSE_STAT_GATES :: gateRegs := by decide) :
    (u.wr r v i j).Gated h C := by
  have ne : ∀ q ∈ Reg.HSE_STAT_GATES :: gateRegs, q ≠ r := fun q m e => hr (e ▸ m)
  have hg : (u.wr r v i j).rd .HSE_STAT_GATES h = u.rd .HSE_STAT_GATES h := State.rd_wr_ne u v (ne _ (.head _))
  exact g.of_eq (State.wgOpen_congr hg) (State.rgOpen_congr hg)
    (fun q m _ _ => State.rdW_wr_ne u v (ne q (.tail _ m))) rfl rfl

theorem wrBit {r : Reg} {b i j : Nat} {v : Bool} (g : u.Gated h C) (hr : r ∉ Reg.HSE_STAT_GATES :: gateRegs := by decide) :
    (u.wrBit r b v i j).Gated h C := g.wr hr

theorem setHse {x : Hse} {k : Nat} (g : u.Gated h C) : (u.setHse k x).Gated h C := g.of_regs rfl rfl rfl
theorem emit {o : Out} (g : u.Gated h C) : (u.emit o).Gated h C := g.of_regs rfl rfl rfl
theorem setFree {n : Nat} (g : u.Gated h C) : State.Gated { u with free := n } h C := g.of_regs rfl rfl rfl
theorem mwr {n a v : Nat} (g : u.Gated h C) : (u.mwr n a v).Gated h C := g.of_regs rfl rfl rfl

theorem raise {n : Nat} {l : List (Nat × Nat)} (g : u.Gated h C) : (u.raise n l).Gated h C := g.of_regs (by simp) (by simp) (by simp)

theorem setChan {x : Chan} (g : u.Gated h C) (ht : x.timed = (u.chan h).timed := by rfl)
    (hf : x.fabric = (u.chan h).fabric := by rfl) : (u.setChan h x).Gated h C :=
  g.of_regs rfl (by simpa using ht) (by simpa using hf)

/-- The servo gate's bit may change. -/
theorem gate0 {v : Bool} (g : u.Gated h C) : (u.wrBit .HSE_STAT_GATES 0 v h).Gated h C :=
  g.of_eq (State.wgOpen_wrBit 0 v) (State.rgOpen_wrBit 0 v)
    (fun r m _ _ => State.rdW_wr_ne u _ (fun e => absurd (e ▸ m) (by decide))) rfl rfl

theorem ite {c : Prop} {i : Decidable c} {a b : State} (ha : a.Gated h C) (hb : b.Gated h C) : State.Gated (if c then a else b) h C := by
  split <;> assumption

theorem foldl {α : Type} {f : State → α → State} {l : List α} (hf : ∀ v a, State.Gated v h C → State.Gated (f v a) h C)
    (g : u.Gated h C) : State.Gated (l.foldl f u) h C := by
  induction l generalizing u with
  | nil => exact g
  | cons a l ih => exact ih (hf u a g)

/-! ### Halting, causes and frames -/

theorem servoGate (g : u.Gated h C) : (u.servoGate h).Gated h C := .ite g.gate0 g

theorem hseShow (g : u.Gated h C) : (u.hseShow h).Gated h C := (State.Gated.ite g.wr g).wr.wr

theorem wgClose (g : u.Gated h C) : (u.wgClose h).Gated h C := .ite (.ite g.setChan (closed State.wgOpen_wgEnd)) g

theorem wgCut (g : u.Gated h C) : (u.wgCut h).Gated h C := g.setChan.wgClose

theorem dropRead (c : Chan) : c.dropRead.timed = c.timed ∧ c.dropRead.fabric = c.fabric := by
  unfold Chan.dropRead
  split
  · exact ⟨rfl, rfl⟩
  · split <;> exact ⟨rfl, rfl⟩

/-- The read gate is closed where it is open: beside it the write gate is closed. -/
theorem rgEndOn (g : u.Gated h C) : State.Gated (if u.rgOpen h then u.rgEnd h else u) h C := by
  split
  next e =>
    refine closed ?_
    rw [State.wgOpen_rgEnd]
    cases o : u.wgOpen h
    · rfl
    · exact absurd e (by simp [(g.conds o).2.1])
  next => exact g

theorem hseHalt {n : Nat} (g : u.Gated h C) : (u.hseHalt h n).Gated h C := by
  have g1 : (u.setChan h { (u.chan h).dropRead with staged := [] }).Gated h C :=
    g.setChan (dropRead _).1 (dropRead _).2
  unfold State.hseHalt
  extract_lets v upc vec c s1 s2 s3 v' s4 s5 s6
  have h3 : s3.Gated h C := g1.rgEndOn.wgCut
  have h4 : s4.Gated h C := h3.setHse
  have h6 : s6.Gated h C := h4.wr.wr.wr.servoGate.hseShow
  exact .ite h6 h6.raise

theorem cause {v : Nat} (g : u.Gated h C) : (u.cause h v).Gated h C := .ite g.hseHalt g.wrBit

theorem dmaTrap {c : Nat} (g : u.Gated h C) : (u.dmaTrap h c).Gated h C := g.setHse.cause

theorem wgFall (g : u.Gated h C) : (u.wgFall h).Gated h C := .ite g.setChan.emit g

theorem runLead (g : u.Gated h C) : (u.runLead h).Gated h C :=
  .ite g (g.wgFall.setChan (x := { (u.wgFall h).chan h with wa := (u.chan h).preset })).emit.setChan.emit.emit

theorem frameBegin {f : SFrame} {l : List SFrame} (g : u.Gated h C) : (u.frameBegin h f l).Gated h C :=
  (g.mwr (n := 8) (a := wseqAt) (v := (u.wseq + 1) % 2 ^ 64)).runLead.setChan

theorem refusePoison {f : SFrame} {l : List SFrame} : (u.refusePoison h f l).Gated h C :=
  (closed State.wgOpen_wgEnd : State.Gated (State.wgEnd _ h) h C).wr.raise.dmaTrap

theorem startWrite (g : u.Gated h C) : (u.startWrite h).Gated h C := by
  have e (v : State) : (v.wgEnd h).Gated h C := closed State.wgOpen_wgEnd
  unfold State.startWrite
  split
  · exact g
  · exact .ite g.setChan (.ite (e _).cause (.ite (e _).cause (.ite (e _).cause (.ite refusePoison g.frameBegin))))

theorem starve : (u.starve h).Gated h C := (closed State.wgOpen_wgEnd : State.Gated (State.wgEnd _ h) h C).dmaTrap

end State.Gated

/-- A closed write gate that opens does so with every condition. -/
theorem State.openW_gated (o : u.wgOpen h = false) : (u.openW h).Gated h True := by
  have g : u.Gated h True := .closed o
  unfold State.openW
  split
  · exact g.cause
  next rg =>
  split
  · exact g
  split
  · exact g.cause
  next rate =>
  split
  · exact g.raise.cause
  next window =>
  split
  · exact g.cause
  next permit =>
  split
  · exact g.cause
  next flt =>
  simp only [Bool.not_eq_true, Bool.not_eq_true', Bool.not_eq_false] at rg rate window permit flt
  obtain ⟨plaus, wp⟩ := Bool.and_eq_true_iff.1 permit
  have e : (u.wrBit .HSE_STAT_GATES 2 true h).rgOpen h = false := by
    rw [State.rgOpen_wrBit, if_neg (by decide), rg]
  have m : (u.wrBit .HSE_STAT_GATES 2 true h).Gated h True :=
    ⟨fun _ => ⟨trivial, e, (State.mayWrite_congr (fun r hr _ _ => State.rdW_wr_ne u _ (fun e => absurd (e ▸ hr) (by decide)))
      rfl rfl).2 ⟨rate, window, plaus, wp, flt⟩⟩⟩
  extract_lets c v
  have hv : v.Gated h True := m.setChan
  exact .ite hv (.ite (.ite hv .starve) hv.startWrite)

/-! ### What a microword does while the gate is closed -/

namespace State.Gated

theorem rgEnd (g : u.Gated h False) : (u.rgEnd h).Gated h False := closed (State.wgOpen_rgEnd.trans g.shut)

theorem startRead (g : u.Gated h False) : (u.startRead h).Gated h False := by
  unfold State.startRead
  split
  · exact g.setChan
  split
  · exact g.raise.rgEnd.cause
  · exact g.setFree.setFree.setFree.setChan

theorem farm (g : u.Gated h False) : (u.farm h).Gated h False :=
  have e : (u.setChan h { u.chan h with armed := true }).Gated h False := g.setChan
  .ite e.startRead e

theorem openR (g : u.Gated h False) : (u.openR h).Gated h False := by
  have e : State.Gated ((((u.wrBit .HSE_STAT_GATES 1 true h).setChan h { u.chan h with
      rclose := false, kept := none, run := (u.chan h).run + 1, frames := 0, pars := 0 }).wr .CHAN_STAT_SBVALID 0 h).wr
      .CHAN_STAT_RDBUSY 0 h) h False :=
    (State.Gated.setChan (closed ((State.wgOpen_wrBit 1 true).trans g.shut))).wr.wr
  exact .ite g.cause (.ite g (.ite g.cause (.ite g.raise.cause (.ite e.startRead e))))

theorem rgClose (g : u.Gated h False) : (u.rgClose h).Gated h False := closed (State.wgOpen_rgClose.trans g.shut)

theorem actCqld (g : u.Gated h False) : (u.actCqld h).Gated h False := by
  unfold State.actCqld
  dsimp only
  split
  · exact g.cause
  · refine closed ?_
    simp [State.wgOpen_wr, g.shut]

theorem actLcld {n : Nat} (g : u.Gated h C) : (u.actLcld h n).Gated h C := by
  unfold State.actLcld
  split
  · exact g.wr
  · exact g.wr
  · exact g.wr
  · exact g

theorem actDst {n : Nat} {own : Bool} (g : u.Gated h C) : (u.actDst h n own).Gated h C := by
  unfold State.actDst
  dsimp only
  split
  · exact .ite g.wr g
  · exact .ite g.wr g
  · exact .ite g.wr g
  · exact g.wr
  · exact g.wr
  · exact g.setHse
  · exact g.raise
  · exact g.cause
  · exact g

theorem actSkip (g : u.Gated h C) : (u.actSkip h).Gated h C :=
  (State.Gated.foldl (fun _ _ gv => gv.mwr) g).setHse.setHse

theorem actDreq (g : u.Gated h C) : (u.actDreq h).Gated h C := .ite g.cause (.ite g (.ite g.setHse g.setHse))

theorem actGates {n : Nat} (g : u.Gated h False) : (u.actGates h n).Gated h True := by
  unfold State.actGates
  extract_lets v w
  have hv : State.Gated v h False := .ite g (by split; exacts [g.gate0, g.gate0, g])
  have hw : State.Gated w h False := by
    show State.Gated (match nwRg n with | 1 => v.openR h | 2 => v.rgClose h | _ => v) h False
    split
    exacts [hv.openR, hv.rgClose, hv]
  split
  · exact State.openW_gated hw.shut
  · exact .wgClose (closed hw.shut)
  · exact closed hw.shut

/-! ### Its sequencing -/

theorem actTsdrop (g : u.Gated h C) : (u.actTsdrop h).Gated h C := by
  unfold State.actTsdrop
  split
  · exact g.cause
  · exact g.setHse.hseShow

theorem actions {n : Nat} (g : u.Gated h False) : (u.actions h n).Gated h True := by
  have l {c : Prop} {i : Decidable c} {a b : State} (hb : b.Gated h False) (ha : b.Gated h False → a.Gated h False) :
      State.Gated (if c then a else b) h False := .ite (ha hb) hb
  unfold State.actions
  extract_lets own w x s1 s2 s3 s4 s5 s6 s7 s8 s9 s10 s11
  have hw : w.Gated h False := g.wr
  have h1 : s1.Gated h False := l g (fun _ => .ite hw hw.setHse.raise)
  have h2 : s2.Gated h False := l h1 (fun g => g.setHse)
  have h3 : s3.Gated h False := l h2 (fun g => g.actCqld)
  have h4 : s4.Gated h False := l h3 (fun g => g.wr)
  have h5 : s5.Gated h False := l h4 (fun g => g.wr)
  have h6 : s6.Gated h False := h5.actLcld
  have h7 : s7.Gated h False := h6.actDst
  have h8 : s8.Gated h False := l h7 (fun g => g.actSkip)
  have h9 : s9.Gated h False := l h8 (fun g => g.actDreq)
  have h10 : s10.Gated h False := l h9 (fun g => g.farm)
  have h11 : s11.Gated h True := .ite h10.actGates (closed h10.shut)
  exact .ite h11.actTsdrop h11

theorem arrive {a : Nat} (g : u.Gated h C) : (u.arrive h a).Gated h C :=
  have e : (u.wr .HSE_UPC_UPC (a % 4096) h).Gated h C := g.wr
  .ite e.cause e

theorem arriveNext (g : u.Gated h C) : (u.arriveNext h).Gated h C := g.arrive

theorem boundary (g : u.Gated h C) : (u.boundary h).Gated h C := .ite g.hseHalt g

theorem illop (g : u.Gated h C) : (u.illop h).Gated h C := g.setHse.arriveNext.cause.hseShow.boundary

theorem latchNano {n : Nat} (g : u.Gated h C) : (u.latchNano h n).Gated h C := g.setHse

theorem consume {c : Nat} (g : u.Gated h C) : (u.consume h c).Gated h C := by
  unfold State.consume
  split
  · exact .ite g.setHse g
  · exact g

theorem timerGuess {c : Nat} (g : u.Gated h C) : (u.timerGuess h c).Gated h C := .ite (.ite g.setFree.wr g.setFree) g

theorem branch {n : Nat} {go : State → State} (hgo : ∀ v : State, v.Gated h C → (go v).Gated h C) (g : u.Gated h C) :
    (u.branch h n go).Gated h C :=
  have e : (u.jc h n).2.Gated h C := g.timerGuess.consume
  .ite g.arriveNext.cause (.ite (hgo _ e) e.arriveNext)

/-- A microword that finds the gate closed, and what it does after its actions. -/
theorem actThen {n : Nat} {go : State → State} (hgo : ∀ v : State, v.Gated h True → (go v).Gated h True) (g : u.Gated h False) :
    (u.actThen h n go).Gated h True := by
  have e : u.Gated h True := closed g.shut
  unfold State.actThen
  split
  · exact e.illop
  split
  · exact e.setHse.hseShow.boundary
  extract_lets _ v
  have hv : v.Gated h True := g.setHse.actions
  exact .ite (hgo v hv).hseShow.boundary hv

theorem microStep {go : State → Nat → State} (hgo : ∀ (v : State) (n : Nat), v.Gated h True → (go v n).Gated h True)
    (g : u.Gated h False) : (u.microStep h go).Gated h True := by
  unfold State.microStep
  exact g.latchNano.actThen (fun v => hgo v _)

theorem waitMet {c : Nat} (g : u.Gated h False) : (u.waitMet h c).Gated h True :=
  g.consume.actThen (fun _ gv => gv.arriveNext)

theorem tretPop (g : u.Gated h C) : (u.tretPop h).Gated h C := by
  unfold State.tretPop
  dsimp only
  split
  · exact g.arriveNext.cause
  · exact .ite g.setHse.wr.wr.wr.wr.hseShow g.setHse.wr.wr.wr.wr.hseShow.cause

theorem wait {n c : Nat} {b : Bool} (g : u.Gated h False) :
    State.Gated (let v := u.latchNano h n
      if 48 ≤ c then v.illop h
      else
        let v := v.timerGuess h c
        let v := (v.setHse h { v.hse h with waiting := true, stalled := false, wedges := 0 }).hseShow h
        if v.condNow h c != b then v.waitMet h c else (v.consume h c).boundary h) h True := by
  extract_lets v w _ x
  have hv : v.Gated h False := g.latchNano
  have hw : w.Gated h False := hv.timerGuess
  have hx : x.Gated h False := hw.setHse.hseShow
  exact .ite (.illop (closed hv.shut)) (.ite hx.waitMet (.boundary (.consume (closed hx.shut))))

theorem waitConditionMet {n c : Nat} {b d : Bool} (g : u.Gated h False) :
    State.Gated (let v := if (c = 3 ∨ c = 4) ∧ !d then u.wr .HSE_WT_WT n h else u
      if (v.hse h).stalled then v.actThen h (v.hse h).nano (fun v => v.arriveNext h)
      else if v.condNow h c != b then v.waitMet h c else v) h True := by
  extract_lets v
  have hv : v.Gated h False := .ite g.wr g
  exact .ite (hv.actThen (fun _ g => g.arriveNext)) (.ite hv.waitMet (closed hv.shut))

theorem call {a : Nat} (g : u.Gated h C) : State.Gated (if 8 ≤ (u.hse h).cstk.length then (u.arriveNext h).cause h 3
    else (u.setHse h { u.hse h with cstk := ((u.rd .HSE_UPC_UPC h + 1) % 4096) :: (u.hse h).cstk }).arrive h a) h C :=
  .ite g.arriveNext.cause g.setHse.arrive

theorem ret (g : u.Gated h C) : State.Gated (match (u.hse h).cstk with
    | [] => (u.arriveNext h).cause h 3
    | a :: l => (u.setHse h { u.hse h with cstk := l }).arrive h a) h C := by
  split
  · exact g.arriveNext.cause
  · exact g.setHse.arrive

/-- A command that answers what f makes of a state whose gate is closed. -/
theorem on {c : Bool} {f : State → State} (o : s.wgOpen h = false) (e : Host.Outcome.next (s.on c f) = (.next t : Res))
    (hf : s.Gated h False → (f s).Gated h True) : t.Gated h True := by
  injection e with e
  exact e ▸ .ite (hf (closed o)) (closed o)

end State.Gated

/-- Each row that runs a head's microcode leaves a gate that it found closed open only with its conditions. -/
theorem exec_gated (h : Head) (o : s.wgOpen h = false) (c : Instr)
    (hc : c ∈ ([.next h, .jump h, .call h, .ret h, .loop h, .wait h, .waitConditionMet h, .tret h, .halt h] : List Instr))
    (e : exec c s = .next t) : t.Gated h True := by
  simp only [List.mem_cons, List.not_mem_nil, or_false] at hc
  rcases hc with rfl | rfl | rfl | rfl | rfl | rfl | rfl | rfl | rfl
  · exact .on o e (.microStep (fun _ _ g => g.arriveNext))
  · exact .on o e (.microStep (fun _ _ => .branch (fun _ g => g.arrive)))
  · exact .on o e (.microStep (fun _ _ => .branch (fun _ g => g.call)))
  · exact .on o e (.microStep (fun _ _ => .branch (fun _ g => g.ret)))
  · refine .on o e (.microStep (fun v n g => .ite g.arriveNext (.arrive (.wr g ?_))))
    split <;> decide
  · exact .on o e (fun g => g.wait)
  · exact .on o e (fun g => g.waitConditionMet)
  · exact .on o e (.microStep (fun _ _ g => g.tretPop))
  · exact .on o e (.microStep (fun _ _ g => g.hseHalt))

end Sys2Proof.Machine

open Sys2Proof Sys2Proof.Machine

/-- Settles O34: from a closed gate on, every operation of a microword keeps `State.Gated`; only WG open sets the gate's bit, after
its checks, and what follows in the microword touches nothing the checks read without closing the gate. -/
theorem writeGateOpensOnlyWithinItsConditions : Obligations.WriteGateOpensOnlyWithinItsConditions := by
  unfold Obligations.WriteGateOpensOnlyWithinItsConditions
  intro h s t c hc e closed opened
  exact ((exec_gated h closed c hc e).conds opened).2.2
end

section
/-! PROOFS. What an operation of a head leaves alone: the frame `State.headBut`, with the bytes of memory that may change, as a
relation that grows along an operation as it is written (R21). F holds the head's fields that may change, P the parts, M the bytes. -/

set_option Elab.async false

namespace Sys2Proof.Machine

/-- What a new rate may write. -/
def zrateRegs : List Reg := [.HSE_WPER_WPER, .CHAN_STAT_LOCKED, .CHAN_BITRATE_RATE, .CHAN_STAT_RLIM]

/-- Only the fields F of head h, its engine, its channel, the parts P and the bytes M may differ, and no skip-table write is newly
held. -/
structure State.Within (s t : State) (h : Nat) (F : List Reg) (P : List Part) (M : Nat → Prop) : Prop where
  frame : s.headBut t h F P
  mem : ∀ x, ¬ M x → t.mb x = s.mb x
  held : (t.hse h).held ⊆ (s.hse h).held

theorem State.headBut.trans {s u t : State} {h : Nat} {F : List Reg} {P : List Part} (w : s.headBut u h F P) (g : u.headBut t h F P) :
    s.headBut t h F P := by
  obtain ⟨wr, ⟨wp, wk⟩, wo⟩ := w
  obtain ⟨gr, ⟨gp, gk⟩, go⟩ := g
  exact ⟨fun r i j n => (gr r i j n).trans (wr r i j n), ⟨gp.trans wp, fun p n => State.only.same_trans (wk p n) (gk p n)⟩,
    fun g n => ⟨(go g n).1.trans (wo g n).1, (go g n).2.trans (wo g n).2⟩⟩

theorem State.setHse_headBut (s : State) (h : Nat) (x : Hse) (F : List Reg) (P : List Part) : s.headBut (s.setHse h x) h F P :=
  ⟨fun _ _ _ _ => rfl, ⟨rfl, fun p n => by cases p <;> first | rfl | exact absurd (.head _) n⟩, fun _ n => ⟨s.hse_setHse_ne n x, rfl⟩⟩

namespace State.Within

variable {s u t : State} {h : Nat} {F : List Reg} {P : List Part} {M : Nat → Prop}

theorem refl (s : State) (h : Nat) (F : List Reg) (P : List Part) (M : Nat → Prop) : s.Within s h F P M :=
  ⟨⟨fun _ _ _ _ => rfl, ⟨rfl, fun p _ => by cases p <;> rfl⟩, fun _ _ => ⟨rfl, rfl⟩⟩, fun _ _ => rfl, fun _ m => m⟩

theorem trans (w : s.Within u h F P M) (g : u.Within t h F P M) : s.Within t h F P M := by
  exact ⟨w.frame.trans g.frame, fun x n => (g.mem x n).trans (w.mem x n), fun _ m => w.held (g.held m)⟩

theorem mono {F' : List Reg} {P' : List Part} {M' : Nat → Prop} (w : s.Within t h F P M) (hF : F ⊆ F' := by decide)
    (hP : P ⊆ P' := by decide) (hM : ∀ x, M x → M' x := by exact fun _ m => m) : s.Within t h F' P' M' := by
  obtain ⟨⟨wr, ⟨wp, wk⟩, wo⟩, wm, wh⟩ := w
  refine ⟨⟨fun r i j n => wr r i j (fun m => n ⟨hF m.1, m.2⟩), ⟨wp, fun p n => wk p (fun m => n ?_)⟩, wo⟩,
    fun x n => wm x (fun m => n (hM x m)), wh⟩
  exact (List.mem_append.1 m).elim (List.mem_append_left _) (fun m => List.mem_append_right _ (hP m))

/-- An operation that follows, with a frame of its own inside this one. -/
theorem andThen {F' : List Reg} {P' : List Part} (w : s.Within u h F P M) (g : u.Within t h F' P' M) (hF : F' ⊆ F := by decide)
    (hP : P' ⊆ P := by decide) : s.Within t h F P M := w.trans (g.mono hF hP)

/-- Where no byte may change, memory is untouched. -/
theorem headOnly (w : s.Within t h F P (fun _ => False)) : s.headOnly t h F P := ⟨w.frame, fun x => w.mem x id⟩

/-! ### Its parts -/

theorem same (w : s.Within t h F P M) (p : Part) (hp : p ∉ [.hses, .chans] ++ P := by decide) : p.same s t := w.frame.2.1.2 p hp

theorem rdW (w : s.Within t h F P M) (r : Reg) (i : Nat := 0) (j : Nat := 0) (hr : r ∉ F := by decide) : t.rdW r i j = s.rdW r i j :=
  w.frame.1 r i j (fun m => hr m.1)

theorem rd (w : s.Within t h F P M) (r : Reg) (i : Nat := 0) (j : Nat := 0) (hr : r ∉ F := by decide) : t.rd r i j = s.rd r i j :=
  congrArg BitVec.toNat (w.rdW r i j hr)

theorem bit (w : s.Within t h F P M) (r : Reg) (i : Nat := 0) (j : Nat := 0) (hr : r ∉ F := by decide) : t.bit r i j = s.bit r i j :=
  congrArg (· != 0) (w.rd r i j hr)

/-! ### Single updates -/

theorem wr {r : Reg} {v j : Nat} (w : s.Within u h F P M) (hr : r ∈ F := by decide) : s.Within (u.wr r v h j) h F P M := by
  refine w.trans ⟨⟨fun q a b n => State.rdW_wr_key u v (fun e => n ?_), ⟨rfl, fun p _ => by cases p <;> rfl⟩, fun _ _ => ⟨rfl, rfl⟩⟩,
    fun _ _ => rfl, fun _ m => m⟩
  obtain ⟨rfl, rfl, rfl⟩ := RKey.mk.inj e
  exact ⟨hr, rfl⟩

theorem wrb {r : Reg} {b : Bool} {j : Nat} (w : s.Within u h F P M) (hr : r ∈ F := by decide) : s.Within (u.wrb r b h j) h F P M :=
  w.wr hr
theorem wrBit {r : Reg} {b j : Nat} {v : Bool} (w : s.Within u h F P M) (hr : r ∈ F := by decide) :
    s.Within (u.wrBit r b v h j) h F P M := w.wr hr
theorem wrapAdd {r : Reg} {n j : Nat} (w : s.Within u h F P M) (hr : r ∈ F := by decide) : s.Within (u.wrapAdd r n h j) h F P M :=
  w.wr hr

theorem setHse {x : Hse} (w : s.Within u h F P M) (hx : x.held ⊆ (u.hse h).held := by exact fun _ m => m) :
    s.Within (u.setHse h x) h F P M :=
  w.trans ⟨u.setHse_headBut h x F P, fun _ _ => rfl, by rwa [State.hse_setHse_same]⟩

theorem setChan {x : Chan} (w : s.Within u h F P M) : s.Within (u.setChan h x) h F P M :=
  w.trans ⟨⟨fun _ _ _ _ => rfl, ⟨rfl, fun p n => by cases p <;> first | rfl | exact absurd (.tail _ (.head _)) n⟩,
    fun _ n => ⟨rfl, u.chan_setChan_ne n x⟩⟩, fun _ _ => rfl, fun _ m => m⟩

/-- Of the state's parts only q changes. -/
theorem part (q : Part) (w : s.Within u h F P M) (hq : q ∈ P) (hr : t.regs = u.regs) (hm : t.mem = u.mem) (he : t.pending = u.pending)
    (hh : t.hses = u.hses) (hc : t.chans = u.chans) (hk : ∀ p, p ≠ q → p.same u t) : s.Within t h F P M :=
  w.trans ⟨⟨fun r i j _ => State.rdW_congr hr r i j, ⟨he, fun p n => hk p (fun e => n (List.mem_append_right _ (e ▸ hq)))⟩,
    fun g _ => ⟨State.hse_congr hh g, State.chan_congr hc g⟩⟩, fun x _ => State.mb_congr hm x, by rw [State.hse_congr hh]; exact fun _ m => m⟩

theorem emit {o : Out} (w : s.Within u h F P M) (hp : .out ∈ P := by decide) : s.Within (u.emit o) h F P M :=
  w.part .out hp rfl rfl rfl rfl rfl (fun p n => by cases p <;> first | rfl | exact absurd rfl n)

theorem setFree {n : Nat} (w : s.Within u h F P M) (hp : .free ∈ P := by decide) : s.Within { u with free := n } h F P M :=
  w.part .free hp rfl rfl rfl rfl rfl (fun p n => by cases p <;> first | rfl | exact absurd rfl n)

theorem raise {n : Nat} {l : List (Nat × Nat)} (w : s.Within u h F P M) (hp : .ev ∈ P := by decide) : s.Within (u.raise n l) h F P M := by
  rw [State.raise_eq]
  exact w.part .ev hp rfl rfl rfl rfl rfl (fun p n => by cases p <;> first | rfl | exact absurd rfl n)

/-- Bytes written where they may change. -/
theorem setMbs {a : Nat} {bs : List Byte} (w : s.Within u h F P M) (hm : ∀ x, a ≤ x → x < a + bs.length → M x) :
    s.Within (u.setMbs a bs) h F P M :=
  w.trans ⟨⟨fun _ _ _ _ => rfl, ⟨rfl, fun p _ => by cases p <;> rfl⟩, fun _ _ => ⟨rfl, rfl⟩⟩,
    fun x n => State.mb_setMbs_other (by
      by_contra c
      exact n (hm x (by omega) (by omega))), fun _ m => m⟩

theorem mwr {k a v : Nat} (w : s.Within u h F P M) (hm : ∀ x, a ≤ x → x < a + k → M x) : s.Within (u.mwr k a v) h F P M :=
  w.setMbs (by rwa [leBytes_length])

/-! ### The ways operations are put together -/

theorem ite {c : Prop} {i : Decidable c} {a b : State} (ha : s.Within a h F P M) (hb : s.Within b h F P M) :
    s.Within (if c then a else b) h F P M := by
  split <;> assumption

theorem foldl {α : Type} {f : State → α → State} {l : List α} (hf : ∀ v a, s.Within v h F P M → s.Within (f v a) h F P M)
    (w : s.Within u h F P M) : s.Within (l.foldl f u) h F P M := by
  induction l generalizing u with
  | nil => exact w
  | cons a l ih => exact ih (hf u a w)

/-- A command that answers what f makes of a state, or changes nothing. -/
theorem on {c : Bool} {f : State → State} (e : Host.Outcome.next (s.on c f) = (.next t : Res))
    (hf : s.Within (f s) h F P M) : s.Within t h F P M := by
  injection e with e
  exact e ▸ .ite hf (.refl s h F P M)

/-! ### Operations of a head and its channel -/

theorem latchOn {b : Nat} (w : s.Within u h F P M) : s.Within (u.latchOn h b) h F P M := w.setHse

theorem servoGate (w : s.Within u h F P M) (hr : .HSE_STAT_GATES ∈ F := by decide) : s.Within (u.servoGate h) h F P M :=
  .ite (w.wrBit hr) w

theorem wgFall (w : s.Within u h F P M) (hp : .out ∈ P := by decide) : s.Within (u.wgFall h) h F P M := .ite (w.setChan.emit hp) w

theorem wgRise (w : s.Within u h F P M) (hp : .out ∈ P := by decide) : s.Within (u.wgRise h) h F P M := (w.setChan.emit hp).emit hp

theorem runLead (w : s.Within u h F P M) (hp : .out ∈ P := by decide) : s.Within (u.runLead h) h F P M :=
  .ite w (((w.wgFall hp).setChan.emit hp).wgRise hp)

theorem windowEvent {g n : Nat} (w : s.Within u h F P M) (hp : .ev ∈ P := by decide) : s.Within (u.windowEvent h g n) h F P M :=
  w.raise hp

theorem relock (w : s.Within u h F P M) (hF : zrateRegs ⊆ F := by decide) (hp : .ev ∈ P := by decide) :
    s.Within (u.relock h) h F P M := by
  have e : s.Within (((u.wr .CHAN_STAT_LOCKED 0 h).wr .CHAN_BITRATE_RATE 0 h).setChan h
      { (u.chan h) with timed := false, fabric := true }) h F P M := ((w.wr (hF (by decide))).wr (hF (by decide))).setChan
  exact .ite ((e.wr (hF (by decide))).raise hp) (e.wr (hF (by decide)))

theorem zrateNow (w : s.Within u h F P M) (hF : zrateRegs ⊆ F := by decide) (hp : .ev ∈ P := by decide) :
    s.Within (u.zrateNow h) h F P M := by
  have e : s.Within ((u.setChan h { u.chan h with zrate := false }).wr .HSE_WPER_WPER 0 h) h F P M := w.setChan.wr (hF (by decide))
  exact .ite (e.setHse.relock hF hp) w

theorem wgEnd (w : s.Within u h F P M) (hF : Reg.HSE_STAT_GATES :: zrateRegs ⊆ F := by decide) (hP : [.ev, .out] ⊆ P := by decide) :
    s.Within (u.wgEnd h) h F P M :=
  ((w.wrBit (hF (by decide))).wgFall (hP (by decide))).setChan.zrateNow (fun _ m => hF (.tail _ m)) (hP (by decide))

theorem wgClose (w : s.Within u h F P M) (hF : Reg.HSE_STAT_GATES :: zrateRegs ⊆ F := by decide)
    (hP : [.ev, .out] ⊆ P := by decide) : s.Within (u.wgClose h) h F P M := .ite (.ite w.setChan (w.wgEnd hF hP)) w

theorem wgCut (w : s.Within u h F P M) (hF : Reg.HSE_STAT_GATES :: zrateRegs ⊆ F := by decide)
    (hP : [.ev, .out] ⊆ P := by decide) : s.Within (u.wgCut h) h F P M := w.setChan.wgClose hF hP

/-- A cause other than those that may be nested only pends. -/
theorem pends {v : Nat} (w : s.Within u h F P M) (hv : ¬ (v = 2 ∨ v = 3 ∨ v = 4) := by decide) (hr : .HSE_TPEND_PEND ∈ F := by decide) :
    s.Within (u.cause h v) h F P M := by
  rw [State.cause, if_neg (fun c => hv c.1)]
  exact w.wrBit hr

end State.Within

end Sys2Proof.Machine
end

section
/-! PROOFS. A sequencer changes its own engine and channel only (R19, R21, R22, R129, R146): every operation of a microword within
the fields, parts and bytes that belong to its head. -/

set_option Elab.async false

namespace Sys2Proof.Machine

variable {s u t : State} {h : Nat}

/-- The fields of its head that a sequencer may write. -/
def microRegs : List Reg :=
  [.HSE_CTL_RUN, .HSE_CTL_SGAUTO, .HSE_STAT_STATE, .HSE_STAT_HALTC, .HSE_STAT_OWNVIOL, .HSE_STAT_ATOMOVR, .HSE_STAT_GATES,
   .HSE_UPC_UPC, .HSE_UPC_DEPTH, .HSE_UPC_CSD, .HSE_TPEND_PEND, .HSE_FLAGS_F, .HSE_LC_LC0, .HSE_LC_LC1, .HSE_WT_WT, .HSE_WPER_WPER,
   .HSE_TRK_TRK, .HSE_SLOTCNT_SLOT, .HSE_SLOTCNT_CNT, .HSE_CMP_CMP0, .HSE_CMP_CMP1, .HSE_WCMP_WCMP, .HSE_CQPTR_HEAD,
   .CHAN_STAT_SBVALID, .CHAN_STAT_RDBUSY, .CHAN_STAT_LOCKED, .CHAN_STAT_RLIM, .CHAN_STAT_POISON, .CHAN_BITRATE_RATE,
   .CHAN_RATE_ZRATE]

/-- The bytes that it may write: WSEQ and its defect skip table. -/
def microMem (h x : Nat) : Prop :=
  (hseBase h + 0x2000 ≤ x ∧ x < hseBase h + 0x3000) ∨ (wseqAt ≤ x ∧ x < wseqAt + 8)

/-- Only what a sequencer may write differs; from its held writes the skip table is all that it reaches. -/
structure State.Micro (s t : State) (h : Nat) : Prop where
  within : (∀ e ∈ (s.hse h).held, e.1 < 1024) → s.Within t h microRegs [.ev, .out, .free] (microMem h)

namespace State.Micro

theorem refl (s : State) (h : Nat) : s.Micro s h := ⟨fun _ => .refl ..⟩

/-- An operation that stays within it, whatever is held. -/
theorem grow (m : s.Micro u h)
    (g : ∀ {s : State}, s.Within u h microRegs [.ev, .out, .free] (microMem h) → s.Within t h microRegs [.ev, .out, .free] (microMem h)) :
    s.Micro t h := ⟨fun f => g (m.within f)⟩

/-! ### Single updates and the ways operations are put together -/

theorem wr {r : Reg} {v j : Nat} (m : s.Micro u h) (hr : r ∈ microRegs := by decide) : s.Micro (u.wr r v h j) h := m.grow (·.wr hr)
theorem wrb {r : Reg} {b : Bool} {j : Nat} (m : s.Micro u h) (hr : r ∈ microRegs := by decide) : s.Micro (u.wrb r b h j) h := m.wr hr
theorem wrBit {r : Reg} {b j : Nat} {v : Bool} (m : s.Micro u h) (hr : r ∈ microRegs := by decide) : s.Micro (u.wrBit r b v h j) h :=
  m.wr hr
theorem setHse {x : Hse} (m : s.Micro u h) (hx : x.held ⊆ (u.hse h).held := by exact fun _ m => m) : s.Micro (u.setHse h x) h :=
  m.grow (·.setHse hx)
theorem setChan {x : Chan} (m : s.Micro u h) : s.Micro (u.setChan h x) h := m.grow (·.setChan)
theorem emit {o : Out} (m : s.Micro u h) : s.Micro (u.emit o) h := m.grow (·.emit)
theorem raise {n : Nat} {l : List (Nat × Nat)} (m : s.Micro u h) : s.Micro (u.raise n l) h := m.grow (·.raise)
theorem setFree {n : Nat} (m : s.Micro u h) : s.Micro { u with free := n } h := m.grow (·.setFree)

theorem ite {c : Prop} {i : Decidable c} {a b : State} (ha : s.Micro a h) (hb : s.Micro b h) : s.Micro (if c then a else b) h := by
  split <;> assumption

/-- A command that answers what f makes of a state, or changes nothing. -/
theorem on {c : Bool} {f : State → State} (e : Host.Outcome.next (s.on c f) = (.next t : Res)) (m : s.Micro (f s) h) : s.Micro t h := by
  injection e with e
  exact e ▸ .ite m (refl s h)

/-! ### Gates, halting and causes -/

theorem rgEnd (m : s.Micro u h) : s.Micro (u.rgEnd h) h := m.grow (fun w => w.wrBit.setChan.wrb.zrateNow)

theorem rgClose (m : s.Micro u h) : s.Micro (u.rgClose h) h := .ite (.ite m.setChan m.rgEnd) m

theorem wgEnd (m : s.Micro u h) : s.Micro (u.wgEnd h) h := m.grow (·.wgEnd)
theorem wgClose (m : s.Micro u h) : s.Micro (u.wgClose h) h := m.grow (·.wgClose)
theorem wgCut (m : s.Micro u h) : s.Micro (u.wgCut h) h := m.grow (·.wgCut)
theorem servoGate (m : s.Micro u h) : s.Micro (u.servoGate h) h := m.grow (·.servoGate)

theorem hseShow (m : s.Micro u h) : s.Micro (u.hseShow h) h := (State.Micro.ite m.wr m).wr.wr

theorem hseHalt {n : Nat} (m : s.Micro u h) : s.Micro (u.hseHalt h n) h := by
  unfold State.hseHalt
  extract_lets v upc vec c s1 s2 s3 v' s4 s5 s6
  have h1 : s.Micro s1 h := m.setChan
  have h3 : s.Micro s3 h := (State.Micro.ite h1.rgEnd h1).wgCut
  have h4 : s.Micro s4 h := h3.setHse
  have h6 : s.Micro s6 h := h4.wr.wr.wr.servoGate.hseShow
  exact .ite h6 h6.raise

theorem cause {v : Nat} (m : s.Micro u h) : s.Micro (u.cause h v) h := .ite m.hseHalt m.wrBit

theorem dmaTrap {c : Nat} (m : s.Micro u h) : s.Micro (u.dmaTrap h c) h := m.setHse.cause

/-! ### Frames -/

theorem setWseq {n : Nat} (m : s.Micro u h) : s.Micro (u.setWseq n) h := m.grow (·.mwr (fun _ a b => .inr ⟨a, b⟩))

theorem frameBegin {f : SFrame} {l : List SFrame} (m : s.Micro u h) : s.Micro (u.frameBegin h f l) h :=
  m.setWseq.grow (·.runLead) |>.setChan

theorem refusePoison {f : SFrame} {l : List SFrame} (m : s.Micro u h) : s.Micro (u.refusePoison h f l) h :=
  m.setChan.wgEnd.wr.raise.dmaTrap

theorem startWrite (m : s.Micro u h) : s.Micro (u.startWrite h) h := by
  unfold State.startWrite
  split
  · exact m
  · exact .ite m.setChan (.ite m.raise.wgEnd.cause (.ite m.wgEnd.cause (.ite m.wgEnd.cause (.ite m.refusePoison m.frameBegin))))

theorem starve (m : s.Micro u h) : s.Micro (u.starve h) h := m.wgEnd.dmaTrap

theorem openW (m : s.Micro u h) : s.Micro (u.openW h) h := by
  unfold State.openW
  extract_lets c v
  have hv : s.Micro v h := m.wrBit.setChan
  exact .ite m.cause (.ite m (.ite m.cause (.ite m.raise.cause (.ite m.cause (.ite m.cause
    (.ite hv (.ite (.ite hv hv.starve) hv.startWrite)))))))

theorem startRead (m : s.Micro u h) : s.Micro (u.startRead h) h := by
  unfold State.startRead
  split
  · exact m.setChan
  split
  · exact m.raise.rgEnd.cause
  · exact m.setFree.setFree.setFree.setChan

theorem openR (m : s.Micro u h) : s.Micro (u.openR h) h := by
  unfold State.openR
  extract_lets c v w
  have hw : s.Micro w h := m.wrBit.setChan.wr.wr
  exact .ite m.cause (.ite m (.ite m.cause (.ite m.raise.cause (.ite hw.startRead hw))))

theorem farm (m : s.Micro u h) : s.Micro (u.farm h) h := .ite m.setChan.startRead m.setChan

/-! ### The actions of a nanoword -/

theorem microEvent {c n : Nat} (m : s.Micro u h) : s.Micro (u.microEvent h c n) h := m.raise

theorem actCqdone {n : Nat} (m : s.Micro u h) : s.Micro (u.actCqdone h n) h := m.setHse

theorem actCqld (m : s.Micro u h) : s.Micro (u.actCqld h) h := .ite m.cause m.setHse.setChan.wr.wr.wr.wr

theorem actLcld {n : Nat} (m : s.Micro u h) : s.Micro (u.actLcld h n) h := by
  unfold State.actLcld
  split
  · exact m.wr
  · exact m.wr
  · exact m.wr
  · exact m

theorem actDst {n : Nat} {own : Bool} (m : s.Micro u h) : s.Micro (u.actDst h n own) h := by
  unfold State.actDst
  dsimp only
  split
  · exact .ite m.wr m
  · exact .ite m.wr m
  · exact .ite m.wr m
  · exact m.wr
  · exact m.wr
  · exact m.setHse
  · exact m.microEvent
  · exact m.cause
  · exact m

/-- The held writes go to the skip table. -/
theorem applyHeld (m : s.Micro u h) : s.Micro (u.applyHeld h) h := by
  refine ⟨fun f => ?_⟩
  have w := m.within f
  have table (l : List (Nat × Nat)) (hl : ∀ e ∈ l, e.1 < 1024) (v : State) (hv : s.Within v h microRegs [.ev, .out, .free] (microMem h)) :
      s.Within (l.foldl (fun v e => v.mwr 4 (hseBase h + 0x2000 + 4 * e.1) e.2) v) h microRegs [.ev, .out, .free] (microMem h) := by
    induction l generalizing v with
    | nil => exact hv
    | cons e l ih =>
      have he := hl e (.head _)
      exact ih (fun e' m => hl e' (.tail _ m)) _ (hv.mwr (fun x _ _ => .inl ⟨by omega, by omega⟩))
  exact (table _ (fun e me => f e (w.held me)) u w).setHse (by simp)

theorem actSkip (m : s.Micro u h) : s.Micro (u.actSkip h) h := m.applyHeld.setHse

theorem actDreq (m : s.Micro u h) : s.Micro (u.actDreq h) h := .ite m.cause (.ite m (.ite m.setHse m.setHse))

theorem actGates {n : Nat} (m : s.Micro u h) : s.Micro (u.actGates h n) h := by
  unfold State.actGates
  extract_lets v w
  have hv : s.Micro v h := .ite m (by split; exacts [m.wrBit, m.wrBit, m])
  have hw : s.Micro w h := by
    show s.Micro (match nwRg n with | 1 => v.openR h | 2 => v.rgClose h | _ => v) h
    split
    exacts [hv.openR, hv.rgClose, hv]
  split
  exacts [hw.openW, hw.wgClose, hw]

theorem actTsdrop (m : s.Micro u h) : s.Micro (u.actTsdrop h) h := by
  unfold State.actTsdrop
  split
  · exact m.cause
  · exact m.setHse.hseShow

theorem actions {n : Nat} (m : s.Micro u h) : s.Micro (u.actions h n) h := by
  have l {c : Prop} {i : Decidable c} {a b : State} (hb : s.Micro b h) (ha : s.Micro b h → s.Micro a h) :
      s.Micro (if c then a else b) h := .ite (ha hb) hb
  unfold State.actions
  extract_lets own w x s1 s2 s3 s4 s5 s6 s7 s8 s9 s10 s11
  have hw : s.Micro w h := m.wr
  have h1 : s.Micro s1 h := l m (fun _ => .ite hw hw.setHse.microEvent)
  have h2 : s.Micro s2 h := l h1 (fun m => m.actCqdone)
  have h3 : s.Micro s3 h := l h2 (fun m => m.actCqld)
  have h4 : s.Micro s4 h := l h3 (fun m => m.wr)
  have h5 : s.Micro s5 h := l h4 (fun m => m.wr)
  have h6 : s.Micro s6 h := h5.actLcld
  have h7 : s.Micro s7 h := h6.actDst
  have h8 : s.Micro s8 h := l h7 (fun m => m.actSkip)
  have h9 : s.Micro s9 h := l h8 (fun m => m.actDreq)
  have h10 : s.Micro s10 h := l h9 (fun m => m.farm)
  have h11 : s.Micro s11 h := l h10 (fun m => m.actGates)
  exact l h11 (fun m => m.actTsdrop)

/-! ### Sequencing -/

theorem arrive {a : Nat} (m : s.Micro u h) : s.Micro (u.arrive h a) h := .ite m.wr.cause m.wr

theorem arriveNext (m : s.Micro u h) : s.Micro (u.arriveNext h) h := m.arrive

theorem boundary (m : s.Micro u h) : s.Micro (u.boundary h) h := .ite m.hseHalt m

theorem latchNano {n : Nat} (m : s.Micro u h) : s.Micro (u.latchNano h n) h := m.setHse

theorem illop (m : s.Micro u h) : s.Micro (u.illop h) h := m.setHse.arriveNext.cause.hseShow.boundary

theorem consume {c : Nat} (m : s.Micro u h) : s.Micro (u.consume h c) h := by
  unfold State.consume
  split
  · exact .ite m.setHse m
  · exact m

theorem timerGuess {c : Nat} (m : s.Micro u h) : s.Micro (u.timerGuess h c) h := .ite (.ite m.setFree.wr m.setFree) m

theorem branch {n : Nat} {go : State → State} (hgo : ∀ v : State, s.Micro v h → s.Micro (go v) h) (m : s.Micro u h) :
    s.Micro (u.branch h n go) h :=
  have e : s.Micro (u.jc h n).2 h := m.timerGuess.consume
  .ite m.arriveNext.cause (.ite (hgo _ e) e.arriveNext)

theorem actThen {n : Nat} {go : State → State} (hgo : ∀ v : State, s.Micro v h → s.Micro (go v) h) (m : s.Micro u h) :
    s.Micro (u.actThen h n go) h := by
  unfold State.actThen
  extract_lets _ v
  have hv : s.Micro v h := m.setHse.actions
  exact .ite m.illop (.ite m.setHse.hseShow.boundary (.ite (hgo v hv).hseShow.boundary hv))

theorem microStep {go : State → Nat → State} (hgo : ∀ (v : State) (n : Nat), s.Micro v h → s.Micro (go v n) h) (m : s.Micro u h) :
    s.Micro (u.microStep h go) h := by
  unfold State.microStep
  exact m.latchNano.actThen (fun v => hgo v _)

theorem waitMet {c : Nat} (m : s.Micro u h) : s.Micro (u.waitMet h c) h := m.consume.actThen (fun _ m => m.arriveNext)

theorem wait {n c : Nat} {b : Bool} (m : s.Micro u h) :
    s.Micro (let v := u.latchNano h n
      if 48 ≤ c then v.illop h
      else
        let v := v.timerGuess h c
        let v := (v.setHse h { v.hse h with waiting := true, stalled := false, wedges := 0 }).hseShow h
        if v.condNow h c != b then v.waitMet h c else (v.consume h c).boundary h) h := by
  extract_lets v w _ x
  have hx : s.Micro x h := m.latchNano.timerGuess.setHse.hseShow
  exact .ite m.latchNano.illop (.ite hx.waitMet hx.consume.boundary)

theorem waitConditionMet {n c : Nat} {b d : Bool} (m : s.Micro u h) :
    s.Micro (let v := if (c = 3 ∨ c = 4) ∧ !d then u.wr .HSE_WT_WT n h else u
      if (v.hse h).stalled then v.actThen h (v.hse h).nano (fun v => v.arriveNext h)
      else if v.condNow h c != b then v.waitMet h c else v) h := by
  extract_lets v
  have hv : s.Micro v h := .ite m.wr m
  exact .ite (hv.actThen (fun _ m => m.arriveNext)) (.ite hv.waitMet hv)

theorem call {a : Nat} (m : s.Micro u h) : s.Micro (if 8 ≤ (u.hse h).cstk.length then (u.arriveNext h).cause h 3
    else (u.setHse h { u.hse h with cstk := ((u.rd .HSE_UPC_UPC h + 1) % 4096) :: (u.hse h).cstk }).arrive h a) h :=
  .ite m.arriveNext.cause m.setHse.arrive

/-! ### Traps, starting and halting -/

theorem tretPop (m : s.Micro u h) : s.Micro (u.tretPop h) h := by
  unfold State.tretPop
  dsimp only
  split
  · exact m.arriveNext.cause
  · exact .ite m.setHse.wr.wr.wr.wr.hseShow m.setHse.wr.wr.wr.wr.hseShow.cause

theorem takeTrap (m : s.Micro u h) : s.Micro (u.takeTrap h) h := by
  unfold State.takeTrap
  split
  · exact m
  · exact .ite m.hseHalt m.setHse.wrBit.arrive.hseShow

theorem atomOverrun (m : s.Micro u h) : s.Micro (
    let v := (u.setHse h { u.hse h with atomOver := true }).wr .HSE_STAT_ATOMOVR 1 h
    let v := v.microEvent h 2 0
    if (v.hse h).stopping then v.hseHalt h 2 else v.takeTrap h) h := by
  extract_lets _ _ v
  have hv : s.Micro v h := m.setHse.wr.microEvent
  exact .ite hv.hseHalt hv.takeTrap

theorem hseStart (m : s.Micro u h) : s.Micro (u.hseStart h) h := .ite m m.wr.setHse.wr.wr.wr.wr.arrive.hseShow

theorem hseStop (m : s.Micro u h) : s.Micro (
    let v := u.wr .HSE_CTL_RUN 0 h
    if v.running h then (v.setHse h { v.hse h with stopping := true }).boundary h else v) h :=
  .ite m.wr.setHse.boundary m.wr

end State.Micro

/-- Each row that runs, traps, starts or stops a head's engine stays within what a sequencer may write. -/
theorem exec_micro (h : Head) (p : Bool) (c : Instr)
    (hc : c ∈ ([.next h, .jump h, .call h, .ret h, .loop h, .wait h, .waitConditionMet h, .waittmo h, .tret h, .halt h, .illegalSeq h,
      .trapEntry h p, .atomOverrun h, .hseRunStart h, .hseRunStop h] : List Instr)) (e : exec c s = .next t) : s.Micro t h := by
  have m := State.Micro.refl s h
  simp only [List.mem_cons, List.not_mem_nil, or_false] at hc
  rcases hc with rfl | rfl | rfl | rfl | rfl | rfl | rfl | rfl | rfl | rfl | rfl | rfl | rfl | rfl | rfl
  · exact .on e (m.microStep (fun _ _ m => m.arriveNext))
  · exact .on e (m.microStep (fun _ _ => .branch (fun _ m => m.arrive)))
  · exact .on e (m.microStep (fun _ _ => .branch (fun _ m => m.call)))
  · refine .on e (m.microStep (fun _ _ => .branch (fun v m => ?_)))
    dsimp only
    split
    · exact m.arriveNext.cause
    · exact m.setHse.arrive
  · refine .on e (m.microStep (fun v n m => .ite m.arriveNext (.arrive (.wr m ?_))))
    split <;> decide
  · exact .on e m.wait
  · exact .on e m.waitConditionMet
  · exact .on e m.setHse.hseShow.cause
  · exact .on e (m.microStep (fun _ _ m => m.tretPop))
  · exact .on e (m.microStep (fun _ _ m => m.hseHalt))
  · exact .on e m.arriveNext.cause.hseShow.boundary
  · exact .on e (.ite m.hseHalt (.ite m m.takeTrap))
  · exact .on e m.atomOverrun
  · exact .on e (.ite m.hseStart m.wr)
  · exact .on e m.hseStop

end Sys2Proof.Machine

open Sys2Proof Sys2Proof.Machine

/-- Settles O33: every operation that the rows are made of stays within the head's own fields, engine, channel and bytes. -/
theorem microcodeTouchesItsOwnHeadOnly : Obligations.MicrocodeTouchesItsOwnHeadOnly := by
  unfold Obligations.MicrocodeTouchesItsOwnHeadOnly
  intro h p s t c hc e held
  have w := (exec_micro h p c hc e).within held
  refine ⟨fun x table wseq => w.mem x ?_, w.frame⟩
  rintro (⟨lo, hi⟩ | ⟨lo, hi⟩)
  · omega
  · simp only [wseqAt] at lo hi
    omega
end

section
/-! PROOFS. The command queue, the stores and the skip table of a head (R144 to R147, R156): what each row answers. -/

set_option Elab.async false

namespace Sys2Proof.Machine

variable {s u t : State} {h : Nat}

/-- A command whose occasion the state gives answers what its operation makes of it. -/
theorem next_on {c : Bool} {f : State → State} (hc : c = true) :
    (Host.Outcome.next (s.on c f) : Res) = .next (f s) := congrArg _ (State.on_true hc)

/-- A command off its occasion changes nothing. -/
theorem next_off {c : Bool} {f : State → State} (hc : c = false) : (Host.Outcome.next (s.on c f) : Res) = .next s :=
  congrArg _ (State.on_false hc)

theorem headOnly_refl (s : State) (h : Nat) (F : List Reg) (P : List Part) : s.headOnly s h F P :=
  (State.Within.refl s h F P (fun _ => False)).headOnly

/-! ### Causes -/

/-- A cause other than those that may be nested only pends. -/
theorem State.cause_pends (s : State) (h : Nat) {v : Nat} (hv : ¬ (v = 2 ∨ v = 3 ∨ v = 4)) :
    s.cause h v = s.wrBit .HSE_TPEND_PEND v true h := if_neg (fun c => hv c.1)

theorem State.cause_pending (s : State) (h : Nat) {v : Nat} (hv : ¬ (v = 2 ∨ v = 3 ∨ v = 4)) (lt : v < 16) :
    (s.cause h v).rdBit .HSE_TPEND_PEND v h = true := by
  rw [s.cause_pends h hv, State.rdBit_wrBit s v true h 0 lt, if_pos rfl]

theorem exec_doorbellCmd (h : Head) (h9 : s.up 9 = true) (hh : s.hears (selHse h) = true) :
    ∃ t, exec (.doorbellCmd h) s = .next t ∧ t.rdBit .HSE_TPEND_PEND 10 h = true ∧ s.headOnly t h [.HSE_TPEND_PEND] [] ∧
      t.hse h = s.hse h := by
  refine ⟨s.cause h 10, next_on (by rw [h9, hh]; rfl), s.cause_pending h (by decide) (by decide),
    (State.Within.refl s h _ _ _).pends.headOnly, ?_⟩
  rw [s.cause_pends h (by decide)]
  rfl

theorem exec_doorbellAbort (h : Head) (h9 : s.up 9 = true) (hh : s.hears (selHse h) = true) :
    ∃ t, exec (.doorbellAbort h) s = .next t ∧ t.rdBit .HSE_TPEND_PEND 11 h = true ∧ s.headOnly t h [.HSE_TPEND_PEND] [] ∧
      t.hse h = s.hse h := by
  refine ⟨s.cause h 11, next_on (by rw [h9, hh]; rfl), s.cause_pending h (by decide) (by decide),
    (State.Within.refl s h _ _ _).pends.headOnly, ?_⟩
  rw [s.cause_pends h (by decide)]
  rfl

/-! ### Queues -/

theorem exec_cqptrTailWrite (h : Head) (v : BitVec 4) (h5 : s.up 5 = true) (hh : s.hears (selHse h) = true) :
    ∃ t, exec (.cqptrTailWrite h v) s = .next t ∧ s.headOnly t h [.HSE_CQPTR_TAIL, .HSE_STAT_CQERR] [] ∧
      (v.toNat = (s.rd .HSE_CQPTR_TAIL h + 1) % 16 → v.toNat ≠ s.rd .HSE_CQPTR_HEAD h → t.rd .HSE_CQPTR_TAIL h = v.toNat) ∧
      ((v.toNat ≠ (s.rd .HSE_CQPTR_TAIL h + 1) % 16 ∨ v.toNat = s.rd .HSE_CQPTR_HEAD h) →
        t.rd .HSE_STAT_CQERR h = 1 ∧ t.rd .HSE_CQPTR_TAIL h = s.rd .HSE_CQPTR_TAIL h) := by
  have w := State.Within.refl s h [.HSE_CQPTR_TAIL, .HSE_STAT_CQERR] [] (fun _ => False)
  refine ⟨_, next_on (by rw [h5, hh]; rfl), (State.Within.ite w.wr w.wr).headOnly, fun a b => ?_, fun c => ?_⟩
  · rw [if_pos ⟨a, b⟩, State.rd_wr_same]
    exact Nat.mod_eq_of_lt v.isLt
  · rw [if_neg (fun d => c.elim (fun e => e d.1) d.2)]
    exact ⟨State.rd_wr_same .., State.rd_wr_ne s _ (by decide)⟩

theorem exec_hseDoneRead (h : Head) (h9 : s.up 9 = true) :
    ∃ t, exec (.hseDoneRead h) s = .next t ∧ s.headOnly t h [] [.out] ∧
      ((s.hse h).done = [] ∨ s.hears (selHse h) = false → s.sent t [.popped .HSE_DONE_CMDTAG h 0]) ∧
      ∀ e l, s.hears (selHse h) = true → (s.hse h).done = e :: l → (t.hse h).done = l ∧
        s.sent t [.popped .HSE_DONE_CMDTAG h (e.tag + e.status * 2 ^ 17 + e.frames * 2 ^ 21 + e.qidx * 2 ^ 34 + 2 ^ 63)] := by
  have w := State.Within.refl s h [] [.out] (fun _ => False)
  refine ⟨_, next_on h9, ?_⟩
  split
  next none =>
    refine ⟨w.emit.headOnly, fun _ => rfl, fun e l hh hd => ?_⟩
    rw [if_pos hh, hd] at none
    cases none
  next e l hd =>
    have hh : s.hears (selHse h) = true := by
      by_contra c
      rw [if_neg c] at hd
      cases hd
    rw [if_pos hh] at hd
    refine ⟨w.setHse.emit.headOnly, fun c => ?_, fun e' l' _ hd' => ?_⟩
    · rcases c with c | c
      · rw [hd] at c; cases c
      · rw [hh] at c; cases c
    · rw [hd] at hd'
      injection hd' with he hl
      subst he hl
      exact ⟨by simp, rfl⟩

/-! ### Stores and the skip table -/

theorem storeKeep_lt (ofs : Nat) {v : Nat} (hv : v < 2 ^ 32) : storeKeep ofs v < 2 ^ 32 := by
  unfold storeKeep
  split
  · omega
  split
  · omega
  split <;> omega

theorem exec_hseStoreWrite (h : Head) (ofs : W16) (v : W32) (h5 : s.up 5 = true) (hh : s.hears (selHse h) = true)
    (ho : hseStore ofs.toNat = true) :
    ∃ t, exec (.hseStoreWrite h ofs v) s = .next t ∧
      (s.running h = false → t.mrd 4 (hseBase h + ofs.toNat) = storeKeep ofs.toNat v.toNat ∧ s.memBut t (hseBase h + ofs.toNat) 4 ∧
        s.headBut t h [] []) ∧
      (s.running h = true → t.rd .HSE_STAT_STWR h = 1 ∧ s.raised t (6 * h + 2) ∧ s.headOnly t h [.HSE_STAT_STWR] [.ev]) := by
  refine ⟨_, next_on (by rw [h5, hh, ho]; rfl), fun hr => ?_, fun hr => ?_⟩
  · rw [if_neg (by simp [hr])]
    refine ⟨?_, fun x hx => State.mwr_mb_other hx, ((State.Within.refl s h [] [] (fun _ => True)).mwr (fun _ _ _ => trivial)).frame⟩
    rw [State.mrd_mwr_same 4 _ (by unfold hseBase; omega)]
    exact Nat.mod_eq_of_lt (storeKeep_lt _ v.isLt)
  · rw [if_pos hr]
    refine ⟨?_, (State.Raising.of_eq (l := [])).raised rfl (by simp; omega), (State.Within.refl s h [.HSE_STAT_STWR] [.ev] (fun _ => False)).wr.raise.headOnly⟩
    rw [State.microEvent, State.rd_raise, State.rd_wr_same]
    rfl

theorem exec_defectTableWrite (h : Head) (w : Fin 1024) (v : W32) (h5 : s.up 5 = true) (hh : s.hears (selHse h) = true) :
    ∃ t, exec (.defectTableWrite h w v) s = .next t ∧ s.headBut t h [] [] ∧
      ((s.hse h).scan = false → t.mrd 4 (hseBase h + 0x2000 + 4 * w) = v.toNat ∧ s.memBut t (hseBase h + 0x2000 + 4 * w) 4) ∧
      ((s.hse h).scan = true → s.memSame t ∧ (t.hse h).held = (s.hse h).held ++ [(w.val, v.toNat)]) := by
  refine ⟨_, next_on (by rw [h5, hh]; rfl), ?_, fun hr => ?_, fun hr => ?_⟩
  · split
    · exact s.setHse_headBut h _ [] []
    · exact ((State.Within.refl s h [] [] (fun _ => True)).mwr (fun _ _ _ => trivial)).frame
  · rw [if_neg (by simp [hr])]
    refine ⟨?_, fun x hx => State.mwr_mb_other hx⟩
    rw [State.mrd_mwr_same 4 _ (by unfold hseBase; omega)]
    exact Nat.mod_eq_of_lt v.isLt
  · rw [if_pos hr]
    exact ⟨fun _ => rfl, by simp⟩

/-- The held writes change memory only, and are held no more. -/
theorem State.applyHeld_frame (s : State) (h : Nat) : s.headBut (s.applyHeld h) h [] [] :=
  ((State.Within.foldl (fun _ _ w => w.mwr (fun _ _ _ => trivial)) (State.Within.refl s h [] [] (fun _ => True))).setHse
    (by simp)).frame

/-- A run of stores leaves the engines alone. -/
theorem State.hses_foldl_mwr {α : Type} (n : Nat) (a : α → Nat) (v : α → Nat) (l : List α) (s : State) :
    (l.foldl (fun s e => s.mwr n (a e) (v e)) s).hses = s.hses := by
  induction l generalizing s with
  | nil => rfl
  | cons e l ih => exact ih _

theorem State.hse_applyHeld (s : State) (h : Nat) : (s.applyHeld h).hse h = { s.hse h with held := [] } := by
  unfold State.applyHeld
  dsimp only
  rw [State.hse_setHse_same, State.hse_congr (State.hses_foldl_mwr ..)]

theorem exec_skipCheckDone (h : Head) (hs : (s.hse h).scan = true) :
    ∃ t, exec (.skipCheckDone h) s = .next t ∧ (t.hse h).scan = false ∧ (t.hse h).skipRdy = true ∧
      (t.hse h).held = [] ∧ s.headBut t h [] [] ∧
      ((t.hse h).defect = true ↔ ∃ i, i < min 512 (s.rd .HSE_DSKN_DSKN h) ∧
        entryHits (s.mrd 8 (hseBase h + 0x2000 + 8 * i)) (s.hse h).scanTrk (s.hse h).scanSlot = true) := by
  refine ⟨_, next_on hs, ?_, ?_, ?_, ?_, ?_⟩
  · rw [State.hse_applyHeld, State.hse_setHse_same]
  · rw [State.hse_applyHeld, State.hse_setHse_same]
  · rw [State.hse_applyHeld]
  · exact (s.setHse_headBut h _ [] []).trans (State.applyHeld_frame _ h)
  · rw [State.hse_applyHeld, State.hse_setHse_same]
    simp

end Sys2Proof.Machine
end

section
/-! PROOFS. Rates, frames and gates of a head: what its operations leave of the engine and the channel (R139 to R143, R181, R182,
R186, R202). -/

set_option Elab.async false

namespace Sys2Proof.Machine

variable {s u t : State} {h : Nat}

/-! ### Rates and gates -/

theorem State.hse_relock (s : State) (h : Nat) : (s.relock h).hse h = s.hse h := by
  unfold State.relock
  dsimp only
  split <;> simp

theorem State.chan_relock (s : State) (h : Nat) : (s.relock h).chan h = { s.chan h with timed := false, fabric := true } := by
  unfold State.relock
  dsimp only
  split <;> simp

/-- A rate that waited changes of the engine only whether the next mark measures. -/
theorem State.hse_zrateNow (s : State) (h : Nat) : ∃ d, (s.zrateNow h).hse h = { s.hse h with direct := d } := by
  unfold State.zrateNow State.zrateSet
  split
  · exact ⟨false, by rw [State.hse_relock, State.hse_setHse_same]; rfl⟩
  · exact ⟨(s.hse h).direct, rfl⟩

theorem State.chan_zrateNow (s : State) (h : Nat) :
    ∃ z a b, (s.zrateNow h).chan h = { s.chan h with zrate := z, timed := a, fabric := b } := by
  unfold State.zrateNow State.zrateSet
  split
  · exact ⟨false, false, true, by rw [State.chan_relock]; simp⟩
  · exact ⟨_, _, _, rfl⟩

theorem State.hse_wgFall (s : State) (h g : Nat) : (s.wgFall h).hse g = s.hse g := by
  unfold State.wgFall
  split <;> rfl

/-- HL_WG is low behind a fall. -/
theorem State.chan_wgFall (s : State) (h : Nat) : (s.wgFall h).chan h = { s.chan h with wg := false } := by
  unfold State.wgFall
  split
  · simp
  next e => rw [Bool.not_eq_true] at e; rw [← e]

theorem State.chan_wgRise (s : State) (h : Nat) : (s.wgRise h).chan h = { s.chan h with wg := true } := by
  simp [State.wgRise]

theorem State.hse_wgEnd (s : State) (h : Nat) : ∃ d, (s.wgEnd h).hse h = { s.hse h with direct := d } := by
  unfold State.wgEnd
  obtain ⟨d, e⟩ := State.hse_zrateNow (((s.wrBit .HSE_STAT_GATES 2 false h).wgFall h).setChan h
    { ((s.wrBit .HSE_STAT_GATES 2 false h).wgFall h).chan h with wclose := false, startW := false }) h
  exact ⟨d, e.trans (by rw [State.hse_setChan, State.hse_wgFall]; rfl)⟩

theorem State.chan_wgEnd (s : State) (h : Nat) : ∃ z a b, (s.wgEnd h).chan h =
    { s.chan h with wg := false, wclose := false, startW := false, zrate := z, timed := a, fabric := b } := by
  unfold State.wgEnd
  obtain ⟨z, a, b, e⟩ := State.chan_zrateNow (((s.wrBit .HSE_STAT_GATES 2 false h).wgFall h).setChan h
    { ((s.wrBit .HSE_STAT_GATES 2 false h).wgFall h).chan h with wclose := false, startW := false }) h
  exact ⟨z, a, b, e.trans (by rw [State.chan_setChan_same, State.chan_wgFall]; rfl)⟩

/-! ### What a slot keeps -/

/-- The latched conditions, the keep-out window and the slot retained stand. -/
structure State.Slot (s t : State) (h : Nat) : Prop where
  latch : (t.hse h).latch = (s.hse h).latch
  ko : (t.hse h).ko = (s.hse h).ko
  kept : (t.chan h).kept = (s.chan h).kept

namespace State.Slot

theorem refl (s : State) (h : Nat) : s.Slot s h := ⟨rfl, rfl, rfl⟩
theorem trans (a : s.Slot u h) (b : u.Slot t h) : s.Slot t h := ⟨b.latch.trans a.latch, b.ko.trans a.ko, b.kept.trans a.kept⟩

/-- Neither table changes. -/
theorem of_tables (k : s.Slot u h) (e : t.hses = u.hses) (f : t.chans = u.chans) : s.Slot t h :=
  k.trans ⟨by rw [State.hse_congr e], by rw [State.hse_congr e], by rw [State.chan_congr f]⟩

theorem wr {r : Reg} {v i j : Nat} (k : s.Slot u h) : s.Slot (u.wr r v i j) h := k.of_tables rfl rfl
theorem wrb {r : Reg} {b : Bool} {i j : Nat} (k : s.Slot u h) : s.Slot (u.wrb r b i j) h := k.wr
theorem wrBit {r : Reg} {b i j : Nat} {v : Bool} (k : s.Slot u h) : s.Slot (u.wrBit r b v i j) h := k.wr
theorem emit {o : Out} (k : s.Slot u h) : s.Slot (u.emit o) h := k.of_tables rfl rfl
theorem raise {n : Nat} {l : List (Nat × Nat)} (k : s.Slot u h) : s.Slot (u.raise n l) h := k.of_tables (by simp) (by simp)
theorem setFree {n : Nat} (k : s.Slot u h) : s.Slot { u with free := n } h := k.of_tables rfl rfl
theorem mwr {n a v : Nat} (k : s.Slot u h) : s.Slot (u.mwr n a v) h := k.of_tables rfl rfl

theorem setHse {x : Hse} (k : s.Slot u h) (hl : x.latch = (u.hse h).latch := by rfl) (hk : x.ko = (u.hse h).ko := by rfl) :
    s.Slot (u.setHse h x) h := k.trans ⟨by rw [State.hse_setHse_same, hl], by rw [State.hse_setHse_same, hk], rfl⟩

theorem setChan {x : Chan} (k : s.Slot u h) (hk : x.kept = (u.chan h).kept := by rfl) : s.Slot (u.setChan h x) h :=
  k.trans ⟨rfl, rfl, by rw [State.chan_setChan_same, hk]⟩

theorem ite {c : Prop} {i : Decidable c} {a b : State} (ha : s.Slot a h) (hb : s.Slot b h) : s.Slot (if c then a else b) h := by
  split <;> assumption

theorem zrateNow (k : s.Slot u h) : s.Slot (u.zrateNow h) h := by
  obtain ⟨d, e⟩ := State.hse_zrateNow u h
  obtain ⟨z, a, b, f⟩ := State.chan_zrateNow u h
  exact k.trans ⟨by rw [e], by rw [e], by rw [f]⟩

theorem wgEnd (k : s.Slot u h) : s.Slot (u.wgEnd h) h := by
  obtain ⟨d, e⟩ := State.hse_wgEnd u h
  obtain ⟨z, a, b, f⟩ := State.chan_wgEnd u h
  exact k.trans ⟨by rw [e], by rw [e], by rw [f]⟩

theorem rgEnd (k : s.Slot u h) : s.Slot (u.rgEnd h) h := k.wrBit.setChan.wrb.zrateNow

theorem pends {v : Nat} (k : s.Slot u h) (hv : ¬ (v = 2 ∨ v = 3 ∨ v = 4) := by decide) : s.Slot (u.cause h v) h := by
  rw [State.cause_pends u h hv]
  exact k.wrBit

theorem dmaTrap {c : Nat} (k : s.Slot u h) : s.Slot (u.dmaTrap h c) h := k.setHse.pends

theorem wgFall (k : s.Slot u h) : s.Slot (u.wgFall h) h := .ite k.setChan.emit k
theorem wgRise (k : s.Slot u h) : s.Slot (u.wgRise h) h := k.setChan.emit.emit
theorem runLead (k : s.Slot u h) : s.Slot (u.runLead h) h := .ite k k.wgFall.setChan.emit.wgRise

theorem frameBegin {f : SFrame} {l : List SFrame} (k : s.Slot u h) : s.Slot (u.frameBegin h f l) h :=
  have e : s.Slot (u.setWseq ((u.wseq + 1) % 2 ^ 64)) h := k.mwr
  e.runLead.setChan

theorem refusePoison {f : SFrame} {l : List SFrame} (k : s.Slot u h) : s.Slot (u.refusePoison h f l) h :=
  k.setChan.wgEnd.wr.raise.dmaTrap

theorem startWrite (k : s.Slot u h) : s.Slot (u.startWrite h) h := by
  unfold State.startWrite
  split
  · exact k
  · exact .ite k.setChan (.ite k.raise.wgEnd.pends (.ite k.wgEnd.pends (.ite k.wgEnd.pends (.ite k.refusePoison k.frameBegin))))

theorem starve (k : s.Slot u h) : s.Slot (u.starve h) h := k.wgEnd.dmaTrap

theorem startRead (k : s.Slot u h) : s.Slot (u.startRead h) h := by
  unfold State.startRead
  split
  · exact k.setChan
  split
  · exact k.raise.rgEnd.pends
  · exact k.setFree.setFree.setFree.setChan

theorem adaptEq (k : s.Slot u h) : s.Slot (u.adaptEq h) h := by
  have e (l : List Nat) (v : State) (k : s.Slot v h) :
      s.Slot (l.foldl (fun v i => (v.draw 16).2.wr .CHAN_EQ_TAP (v.draw 16).1 h i) v) h := by
    induction l generalizing v with
    | nil => exact k
    | cons i l ih => exact ih _ k.setFree.wr
  exact .ite (e _ u k) k

end State.Slot

/-! ### Frames within the head -/

/-- What frames that start, and gates that close, write of their head. -/
def frameRegs : List Reg := [.HSE_STAT_GATES, .HSE_TPEND_PEND, .CHAN_STAT_POISON, .CHAN_STAT_SBVALID] ++ zrateRegs

/-- The bytes of WSEQ. -/
def wseqMem (x : Nat) : Prop := wseqAt ≤ x ∧ x < wseqAt + 8

/-- Only what frames that start, and gates that close, write of head h differs. -/
abbrev State.Framed (s t : State) (h : Nat) : Prop := s.Within t h frameRegs [.ev, .out, .free] wseqMem

namespace State.Within

theorem dmaTrap {c : Nat} (w : s.Framed u h) : s.Framed (u.dmaTrap h c) h := w.setHse.pends

theorem rgEnd (w : s.Framed u h) : s.Framed (u.rgEnd h) h := w.wrBit.setChan.wrb.zrateNow

theorem frameBegin {f : SFrame} {l : List SFrame} (w : s.Framed u h) : s.Framed (u.frameBegin h f l) h :=
  have e : s.Framed (u.setWseq ((u.wseq + 1) % 2 ^ 64)) h := w.mwr (fun _ a b => ⟨a, b⟩)
  e.runLead.setChan

theorem refusePoison {f : SFrame} {l : List SFrame} (w : s.Framed u h) : s.Framed (u.refusePoison h f l) h :=
  have e : s.Framed (u.setChan h { u.chan h with staged := l, timer := true }) h := w.setChan
  (e.wgEnd.wr.raise).dmaTrap

theorem startWrite (w : s.Framed u h) : s.Framed (u.startWrite h) h := by
  unfold State.startWrite
  split
  · exact w
  · exact .ite w.setChan (.ite w.raise.wgEnd.pends (.ite w.wgEnd.pends (.ite w.wgEnd.pends (.ite w.refusePoison w.frameBegin))))

theorem startRead (w : s.Framed u h) : s.Framed (u.startRead h) h := by
  unfold State.startRead
  split
  · exact w.setChan
  split
  · exact w.windowEvent.rgEnd.pends
  · exact w.setFree.setFree.setFree.setChan

end State.Within

/-! ### A frame starts -/

/-- A staged frame starts where every condition holds. -/
theorem State.startWrite_begins {f : SFrame} {l : List SFrame} (hs : (s.chan h).staged = f :: l) (hd : s.dataTime h = true)
    (hw : s.windowOk h = true) (hp : s.permitOk h = true) (hf : s.bit .HL_STAT_FLT (h / 6) = false) (hg : f.poison = false) :
    s.startWrite h = s.frameBegin h f l := by
  simp [State.startWrite, hs, hd, hw, hp, hf, hg]

theorem State.frameBegin_wf (s : State) (h : Nat) (f : SFrame) (l : List SFrame) : ((s.frameBegin h f l).chan h).wf.isSome = true := by
  simp [State.frameBegin]

theorem State.mem_wgFall (s : State) (h : Nat) : (s.wgFall h).mem = s.mem := by
  unfold State.wgFall
  split <;> rfl

theorem State.mem_runLead (s : State) (h : Nat) : (s.runLead h).mem = s.mem := by
  unfold State.runLead
  dsimp only
  split
  · rfl
  · simp [State.wgRise, State.mem_wgFall]

theorem State.wseq_congr {s t : State} (e : ∀ x, t.mb x = s.mb x) : t.wseq = s.wseq := State.mrd_congr (fun x _ _ => e x)

/-- A frame that starts takes a WSEQ. -/
theorem State.frameBegin_wseq (s : State) (h : Nat) (f : SFrame) (l : List SFrame) :
    (s.frameBegin h f l).wseq = (s.wseq + 1) % 2 ^ 64 := by
  have e : (s.frameBegin h f l).wseq = (s.setWseq ((s.wseq + 1) % 2 ^ 64)).wseq :=
    State.wseq_congr (fun x => State.mb_congr (s := s.setWseq ((s.wseq + 1) % 2 ^ 64)) (State.mem_runLead _ h) x)
  rw [e, State.wseq, State.setWseq, State.mrd_mwr_same 8 _ (by decide)]
  omega

theorem State.frameBegin_wgOpen (s : State) (h : Nat) (f : SFrame) (l : List SFrame) : (s.frameBegin h f l).wgOpen h = s.wgOpen h := by
  have w : s.Within (s.frameBegin h f l) h [] [.out] wseqMem :=
    have e : s.Within (s.setWseq ((s.wseq + 1) % 2 ^ 64)) h [] [.out] wseqMem :=
      (State.Within.refl ..).mwr (fun _ a b => ⟨a, b⟩)
    e.runLead.setChan
  exact State.wgOpen_congr (w.rd .HSE_STAT_GATES h)

/-- A frame is read from where the window holds. -/
theorem State.startRead_reads (hd : s.dataTime h = true) (hw : s.windowOk h = true) : ((s.startRead h).chan h).reading = true := by
  unfold State.startRead
  rw [if_neg (by simp [hd]), if_neg (by simp [hw])]
  dsimp only [State.draw, State.drawMany]
  rw [State.chan_setChan_same]

/-! ### The outer code's answer to a write-line request -/

theorem State.accCheck_only (s : State) (g : Nat) : s.only (s.accCheck g) [.GCTX_ERR, .OCE_STAT_ACCERR] [.ev] :=
  have e := State.only.refl s [.GCTX_ERR, .OCE_STAT_ACCERR] [.ev]
  .ite e.wr.wr.raise e

theorem State.out_accCheck (s : State) (g : Nat) : (s.accCheck g).out = s.out := by
  unfold State.accCheck
  split <;> simp

/-- The outer code may have answered a write-line request of head h with a parity frame. -/
structure State.Served (s t : State) (h : Nat) : Prop where
  only : s.only t [.GCTX_ERR, .OCE_STAT_ACCERR, .DMA_LPEND_COUNT] [.ev, .hses, .chans, .out]
  hse : t.hse h = { s.hse h with wreq := (t.hse h).wreq }
  chan : t.chan h = { s.chan h with staged := (t.chan h).staged }
  sent : ∃ l, t.out = s.out ++ l

theorem State.Served.refl (s : State) (h : Nat) : s.Served s h :=
  ⟨State.only.refl .., rfl, rfl, ⟨[], (List.append_nil _).symm⟩⟩

theorem State.oceServe_served (s : State) (h : Nat) : s.Served (s.oceServe h) h := by
  unfold State.oceServe
  split
  next g t rest ha hr =>
    dsimp only
    split
    · split
      · exact .refl s h
      next k ks e =>
        have o := s.accCheck_only g
        have hh : (s.accCheck g).hse h = s.hse h := State.hse_congr (o.same .hses) h
        refine ⟨(o.mono.setChans.setHses.emit).wr, ?_, ?_, ⟨_, congrArg (· ++ _) (State.out_accCheck s g)⟩⟩
        · simp only [State.setLpend, State.fabric, State.hse_wr, State.hse_emit, State.hse_setHse_same, State.hse_setChan, hh]
        · simp only [State.setLpend, State.fabric, State.chan_wr, State.chan_emit, State.chan_setHse, State.chan_setChan_same]
    · exact .refl s h
  · exact .refl s h

/-- Without an active context the outer code does nothing. -/
theorem State.oceServe_idle (e : s.oceActive h = none) : s.oceServe h = s := by
  unfold State.oceServe
  split
  next g t rest ha hr => rw [e] at ha; cases ha
  · rfl

theorem State.Served.slot (v : u.Served t h) (k : s.Slot u h) : s.Slot t h := by
  exact k.trans ⟨by rw [v.hse], by rw [v.hse], by rw [v.chan]⟩

end Sys2Proof.Machine
end

section
/-! PROOFS. The slot timer, the keep-out window and the address marks of a head (R25, R27, R139, R141 to R143, R180): what each row
answers. -/

set_option Elab.async false

namespace Sys2Proof.Machine

variable {s t u : State} {h : Nat}

/-! ### Slot boundaries -/

/-- What a slot boundary does of a read. -/
def State.slotRead (s : State) (h : Nat) : State :=
  let c := s.chan h
  if c.reading then
    let s := (s.setChan h { c with reading := false, kept := c.lost.or c.rf.getLast?, lost := none }).adaptEq h
    if c.rclose then s.rgEnd h else if c.armed then s.startRead h else s
  else s

/-- What a slot boundary does of a write. -/
def State.slotWrite (s : State) (h : Nat) : State :=
  let c := s.chan h
  if s.wgOpen h && c.wf.isNone then
    if c.wclose then s.wgEnd h
    else if !c.staged.isEmpty then s.startWrite h
    else if (s.hse h).wrote < (s.hse h).cnt0 then s.starve h else s
  else s

theorem exec_slotBoundary_eq (h : Head) (ht : (s.chan h).timer = true) (hd : s.dataTime h = true) :
    exec (.slotBoundary h) s = .next ((((s.latchOn h latSlotb).slotRead h).slotWrite h).oceServe h) :=
  next_on (by rw [ht, hd]; rfl)

theorem State.slotRead_idle (e : (s.chan h).reading = false) : s.slotRead h = s := by
  unfold State.slotRead
  dsimp only
  rw [if_neg (by simp [e])]

/-- A slot just read is kept, and the latched conditions stand. -/
theorem State.slotRead_keeps (e : (s.chan h).reading = true) :
    ((s.slotRead h).chan h).kept = (s.chan h).lost.or (s.chan h).rf.getLast? ∧ ((s.slotRead h).hse h).latch = (s.hse h).latch := by
  unfold State.slotRead
  dsimp only
  rw [if_pos e]
  generalize hv : s.setChan h _ = v
  have k : v.Slot (if (s.chan h).rclose = true then (v.adaptEq h).rgEnd h else
      if (s.chan h).armed = true then (v.adaptEq h).startRead h else v.adaptEq h) h :=
    have k := (State.Slot.refl v h).adaptEq
    .ite k.rgEnd (.ite k.startRead k)
  rw [k.kept, k.latch, ← hv, State.chan_setChan_same]
  exact ⟨rfl, rfl⟩

theorem State.Slot.slotWrite (k : s.Slot u h) : s.Slot (u.slotWrite h) h :=
  .ite (.ite k.wgEnd (.ite k.startWrite (.ite k.starve k))) k

theorem State.latchOn_latch (s : State) (h b : Nat) : ((s.latchOn h b).hse h).latch.testBit b = true := by
  rw [State.latchOn, State.hse_setHse_same, testBit_setBitN, if_pos rfl]

theorem State.dataTime_congr {s t : State} (hr : t.rd .HSE_WPER_WPER h = s.rd .HSE_WPER_WPER h) (hk : (t.hse h).ko = (s.hse h).ko) :
    t.dataTime h = s.dataTime h := by
  simp only [State.dataTime, hr, hk]

theorem State.dataTime_latchOn (s : State) (h b : Nat) : (s.latchOn h b).dataTime h = s.dataTime h :=
  State.dataTime_congr rfl (by rw [State.latchOn, State.hse_setHse_same])

/-- A starving gate closes, and vector DMA pends. -/
theorem State.starve_closes (s : State) (h : Nat) :
    (s.starve h).wgOpen h = false ∧ (s.starve h).rdBit .HSE_TPEND_PEND 9 h = true ∧ (s.starve h).wseq = s.wseq := by
  refine ⟨?_, State.cause_pending _ h (by decide) (by decide), State.wseq_congr ?_⟩
  · rw [State.starve, State.dmaTrap, State.cause_pends _ h (by decide)]
    exact (State.wgOpen_wr (by decide) _ _ _).trans State.wgOpen_wgEnd
  · have w : s.Within (s.wgEnd h) h frameRegs [.ev, .out, .free] (fun _ => False) := (State.Within.refl ..).wgEnd
    have e : s.Within (s.starve h) h frameRegs [.ev, .out, .free] (fun _ => False) := by
      unfold State.starve State.dmaTrap
      exact w.setHse.pends
    exact fun x => e.mem x id

theorem State.wseq_only {F : List Reg} {P : List Part} (o : s.only t F P) : t.wseq = s.wseq := State.wseq_congr o.2.1

theorem exec_slotBoundary (h : Head) (ht : (s.chan h).timer = true) (hd : s.dataTime h = true) :
    ∃ t, exec (.slotBoundary h) s = .next t ∧ (t.hse h).latch.testBit latSlotb = true ∧
      ((s.chan h).reading = true → (t.chan h).kept = (s.chan h).lost.or (s.chan h).rf.getLast?) ∧
      ((s.chan h).reading = false → s.wgOpen h = true → (s.chan h).wf = none → (s.chan h).wclose = false →
        ((s.chan h).staged = [] → (s.hse h).wrote < (s.hse h).cnt0 → t.wgOpen h = false ∧ t.rdBit .HSE_TPEND_PEND 9 h = true ∧
          t.wseq = s.wseq) ∧
        (∀ f l, (s.chan h).staged = f :: l → f.poison = false → s.windowOk h = true → s.permitOk h = true →
          s.bit .HL_STAT_FLT (h / 6) = false → t.wgOpen h = true ∧ t.wseq = (s.wseq + 1) % 2 ^ 64 ∧ (t.chan h).wf.isSome = true)) := by
  refine ⟨_, exec_slotBoundary_eq h ht hd, ?_, fun hr => ?_, fun hr ho hw hc => ?_⟩
  · have k := (State.oceServe_served _ h).slot ((State.Slot.refl ((s.latchOn h latSlotb).slotRead h) h).slotWrite)
    rw [k.latch]
    cases hr : (s.chan h).reading
    · rw [State.slotRead_idle (s := s.latchOn h latSlotb) hr]
      exact s.latchOn_latch h latSlotb
    · rw [(State.slotRead_keeps (s := s.latchOn h latSlotb) hr).2]
      exact s.latchOn_latch h latSlotb
  · have k := (State.oceServe_served _ h).slot ((State.Slot.refl ((s.latchOn h latSlotb).slotRead h) h).slotWrite)
    rw [k.kept]
    exact (State.slotRead_keeps (s := s.latchOn h latSlotb) hr).1
  · have e : (s.latchOn h latSlotb).slotRead h = s.latchOn h latSlotb := State.slotRead_idle hr
    generalize hv : s.latchOn h latSlotb = v at e
    have hcv : v.chan h = s.chan h := by rw [← hv]; rfl
    have hov : v.wgOpen h = true := by rw [← hv]; exact ho
    have served := State.oceServe_served (v.slotWrite h) h
    have wg : ((v.slotWrite h).oceServe h).wgOpen h = (v.slotWrite h).wgOpen h := State.wgOpen_congr (served.only.rd .HSE_STAT_GATES h)
    have ws := State.wseq_only served.only
    have sw : v.slotWrite h = if !(s.chan h).staged.isEmpty then v.startWrite h
        else if (v.hse h).wrote < (v.hse h).cnt0 then v.starve h else v := by
      unfold State.slotWrite
      dsimp only
      rw [hcv, hov, hw, hc]
      rfl
    rw [e, wg, ws]
    refine ⟨fun hs hn => ?_, fun f l hs hg hwin hp hf => ?_⟩
    · have hn' : (v.hse h).wrote < (v.hse h).cnt0 := by rw [← hv, State.latchOn, State.hse_setHse_same]; exact hn
      rw [hs, if_neg (by simp), if_pos hn'] at sw
      obtain ⟨closed, pends, wseq⟩ := v.starve_closes h
      have hp : ((v.slotWrite h).oceServe h).rdBit .HSE_TPEND_PEND 9 h = (v.slotWrite h).rdBit .HSE_TPEND_PEND 9 h :=
        State.rdBit_congr (served.only.rd .HSE_TPEND_PEND h) 9
      rw [hp, sw]
      exact ⟨closed, pends, wseq.trans (by rw [← hv]; rfl)⟩
    · have hb : v.startWrite h = v.frameBegin h f l := by
        refine State.startWrite_begins (hcv ▸ hs) ?_ ?_ ?_ ?_ hg
        · rw [← hv, State.dataTime_latchOn, hd]
        all_goals rw [← hv]; assumption
      rw [hs, if_pos (by simp), hb] at sw
      rw [served.chan, sw]
      exact ⟨(v.frameBegin_wgOpen h f l).trans hov, (v.frameBegin_wseq h f l).trans (by rw [← hv]; rfl), v.frameBegin_wf h f l⟩

/-! ### The keep-out window -/

@[simp] theorem State.hse_servoGate (s : State) (h g : Nat) : (s.servoGate h).hse g = s.hse g := by
  unfold State.servoGate
  split <;> rfl

@[simp] theorem State.chan_servoGate (s : State) (h g : Nat) : (s.servoGate h).chan g = s.chan g := by
  unfold State.servoGate
  split <;> rfl

/-- Under SGAUTO the servo gate is open in the keep-out window. -/
theorem State.servoGate_opens (hs : s.bit .HSE_CTL_SGAUTO h = true) (hk : (s.hse h).ko = true) :
    (s.servoGate h).rdBit .HSE_STAT_GATES 0 h = true := by
  rw [State.servoGate, if_pos hs, hk, State.rdBit_wrBit s 0 _ h 0 (by decide), if_pos rfl]
  rfl

theorem exec_keepOutStart (h : Head) (hp : s.rd .HSE_WPER_WPER h ≠ 0) :
    ∃ t, exec (.keepOutStart h) s = .next t ∧ (t.hse h).ko = true ∧ (t.chan h).wg = false ∧
      t.rd .HSE_WT_WT h = max (s.rd .HSE_WT_WT h) (s.rd .HSE_WPER_WPER h - s.rd .HSE_KO_KO_PRE h) % 65536 ∧
      (s.bit .HSE_CTL_SGAUTO h = true → t.rdBit .HSE_STAT_GATES 0 h = true) ∧ s.headOnly t h [.HSE_WT_WT, .HSE_STAT_GATES] [.out] := by
  refine ⟨_, next_on (by simpa using hp), ?_⟩
  dsimp only
  generalize hv : (s.setHse h { s.hse h with ko := true }).wr .HSE_WT_WT _ h = v
  have w : s.Within v h [.HSE_WT_WT, .HSE_STAT_GATES] [.out] (fun _ => False) := by
    rw [← hv]
    exact (State.Within.refl ..).setHse.wr
  have hk : (v.hse h).ko = true := by rw [← hv]; simp
  have g := (State.Within.refl v h [.HSE_STAT_GATES] [.out] (fun _ => False)).servoGate.wgFall
  refine ⟨?_, ?_, ?_, fun hs => ?_, w.servoGate.wgFall.headOnly⟩
  · rw [State.hse_wgFall, State.hse_servoGate, hk]
  · rw [State.chan_wgFall]
  · rw [g.rd .HSE_WT_WT h, ← hv, State.rd_wr_same]
    rfl
  · have f := (State.Within.refl (v.servoGate h) h [] [.out] (fun _ => False)).wgFall
    rw [State.rdBit_congr (f.rd .HSE_STAT_GATES h) 0]
    exact State.servoGate_opens ((w.bit .HSE_CTL_SGAUTO h).trans hs) hk

theorem State.Slot.koResume (k : s.Slot u h) : s.Slot (u.koResume h) h :=
  .ite (.ite k k.wgRise) (.ite k.startWrite (.ite k.startRead k))

theorem State.Within.koResume (w : s.Framed u h) : s.Framed (u.koResume h) h :=
  .ite (.ite w w.wgRise) (.ite w.startWrite (.ite w.startRead w))

theorem exec_keepOutEnd (h : Head) (hp : s.rd .HSE_WPER_WPER h ≠ 0) (hk : (s.hse h).ko = true) :
    ∃ t, exec (.keepOutEnd h) s = .next t ∧ (t.hse h).ko = false ∧
      t.rd .HSE_WT_WT h = (s.rd .HSE_KO_KO_POST h + 1) % 65536 ∧
      ((s.chan h).wf.isSome = true → (t.chan h).wg = true ∧ (t.chan h).wf = (s.chan h).wf ∧ s.headOnly t h [.HSE_WT_WT, .HSE_STAT_GATES] [.out]) ∧
      (∀ f l, (s.chan h).wf = none → (s.chan h).startW = true → (s.chan h).staged = f :: l → f.poison = false → s.windowOk h = true →
        s.permitOk h = true → s.bit .HL_STAT_FLT (h / 6) = false → t.wseq = (s.wseq + 1) % 2 ^ 64 ∧ (t.chan h).wf.isSome = true) ∧
      ((s.chan h).wf = none → (s.chan h).startW = false → (s.chan h).startR = true → s.windowOk h = true → (t.chan h).reading = true) ∧
      ((s.chan h).wf = none → (s.chan h).startW = false → (s.chan h).startR = false → t.chan h = s.chan h ∧
        s.headOnly t h [.HSE_WT_WT, .HSE_STAT_GATES] []) := by
  refine ⟨_, next_on (by simpa [hk] using hp), ?_⟩
  dsimp only
  generalize hv : State.servoGate _ h = v
  have wh (P : List Part) : s.Within v h [.HSE_WT_WT, .HSE_STAT_GATES] P (fun _ => False) := by
    rw [← hv]
    exact (State.Within.refl ..).setHse.wr.servoGate
  have w := wh []
  have hc : v.chan h = s.chan h := by rw [← hv]; simp
  have hk' : (v.hse h).ko = false := by rw [← hv]; simp
  have hwt : v.rd .HSE_WT_WT h = (s.rd .HSE_KO_KO_POST h + 1) % 65536 := by
    rw [← hv, ((State.Within.refl _ h [.HSE_STAT_GATES] [] (fun _ => False)).servoGate).rd .HSE_WT_WT h, State.rd_wr_same]
    rfl
  have hd : v.dataTime h = true := by
    rw [State.dataTime, w.rd .HSE_WPER_WPER h, hk']
    simpa using hp
  have hwin : v.windowOk h = s.windowOk h := by
    simp only [State.windowOk, State.hofsN, State.sposN, w.rd .HSE_TRK_TRK h, w.rd .SCE_HCAL0_HOFS (h / 6) (h % 6), w.rd .SCE_POS_POS (h / 6)]
    rfl
  have hperm : v.permitOk h = s.permitOk h := by
    simp only [State.permitOk, State.plausOk, State.rdBit, w.rd .SCE_HSTAT_PLAUS (h / 6), w.rd .SPN_WP_WP]
  have kr := (State.Slot.refl v h).koResume
  have wr := (State.Within.refl v h frameRegs [.ev, .out, .free] wseqMem).koResume
  refine ⟨kr.ko.trans hk', (wr.rd .HSE_WT_WT h).trans hwt, fun hf => ?_, fun f l hf hw hs hg hwi hpe hfl => ?_, fun hf hw hr hwi => ?_,
    fun hf hw hr => ?_⟩
  · rw [State.koResume, hc, if_pos hf]
    refine ⟨?_, ?_, (State.Within.ite (wh [.out]) (wh [.out]).wgRise).headOnly⟩
    · split
      · next e => rw [hc, e]
      · rw [State.chan_wgRise]
    · split
      · rw [hc]
      · rw [State.chan_wgRise, hc]
  · have hb : v.startWrite h = v.frameBegin h f l := State.startWrite_begins (hc ▸ hs) hd (hwin.trans hwi) (hperm.trans hpe)
      ((w.bit .HL_STAT_FLT _).trans hfl) hg
    rw [State.koResume, hc, if_neg (by simp [hf]), if_pos hw, hb]
    exact ⟨(v.frameBegin_wseq h f l).trans (by rw [State.wseq_congr (fun x => w.mem x id)]), v.frameBegin_wf h f l⟩
  · rw [State.koResume, hc, if_neg (by simp [hf]), if_neg (by simp [hw]), if_pos hr]
    exact State.startRead_reads hd (hwin.trans hwi)
  · rw [State.koResume, hc, if_neg (by simp [hf]), if_neg (by simp [hw]), if_neg (by simp [hr])]
    exact ⟨hc, w.headOnly⟩

/-! ### A lost condition -/

theorem exec_writePermitDrop (h : Head) (ho : s.wgOpen h = true) (hn : ∀ f, (s.chan h).wf = some f → f.told = false)
    (hx : s.permitOk h = false ∨ s.windowOk h = false ∨ ∃ f, (s.chan h).wf = some f ∧ f.cut = true) :
    ∃ t, exec (.writePermitDrop h) s = .next t ∧ t.rdBit .HSE_TPEND_PEND 6 h = true ∧ ((s.chan h).wf = none → t.wgOpen h = false) ∧
      ∀ f, (s.chan h).wf = some f → t.wgOpen h = true ∧ (t.chan h).wclose = true ∧ (t.chan h).wf = some { f with cut := true, told := true } := by
  have hdue : s.permitDue h = true := by
    unfold State.permitDue
    cases hwf : (s.chan h).wf with
    | none =>
      rcases hx with e | e | ⟨f, e, _⟩
      · simp [e]
      · simp [e]
      · rw [hwf] at e; cases e
    | some f =>
      rcases hx with e | e | ⟨g, e, c⟩
      · simp [e, hn f hwf]
      · simp [e, hn f hwf]
      · rw [hwf] at e
        injection e with e
        subst e
        simp [c, hn f hwf]
  refine ⟨_, next_on (by rw [ho, hdue]; rfl), State.cause_pending _ h (by decide) (by decide), fun hf => ?_, fun f hf => ?_⟩
  · rw [State.cause_pends _ h (by decide)]
    refine (State.wgOpen_wr (by decide) _ _ _).trans ?_
    rw [State.wgCut, hf, State.wgClose, if_pos (by simpa using ho), State.chan_setChan_same, if_neg (by simp)]
    exact State.wgOpen_wgEnd
  · have e : s.wgCut h = (s.setChan h { s.chan h with wf := some { f with cut := true, told := true } }).setChan h
        { s.chan h with wf := some { f with cut := true, told := true }, wclose := true } := by
      rw [State.wgCut, hf, State.wgClose, if_pos (by simpa using ho), State.chan_setChan_same, if_pos (by simp)]
      rfl
    rw [State.cause_pends _ h (by decide), e]
    refine ⟨(State.wgOpen_wr (by decide) _ _ _).trans ho, ?_, ?_⟩ <;> simp

theorem exec_writePermitDrop_told (h : Head) {f : WFrame} (hf : (s.chan h).wf = some f) (ht : f.told = true) :
    exec (.writePermitDrop h) s = .next s :=
  next_off (by simp [State.permitDue, hf, ht])

/-! ### Address marks -/

/-- A mark found sets the engine and the timer. -/
def State.markTimed (s : State) (h widx count : Nat) : State :=
  let v := s.hse h
  let s := s.setHse h { v with servo := true, miss := 0, direct := true, ko := true, wedges := v.wedges + 1 }
  let s := if v.direct then s.wr .HSE_WPER_WPER count h else s
  ((s.wr .HSE_WT_WT 0 h).wr .HSE_WT_WIDX widx h).latchOn h latSam

/-- A mark found sets the channel and the gates. -/
def State.markGates (s : State) (h : Nat) : State :=
  let s := if s.bit .CHAN_STAT_LOCKED h then s.setChan h { s.chan h with timed := true } else s
  (s.servoGate h).wgFall h

theorem exec_servoAddressMark_eq (h : Head) (widx : BitVec 9) (n : W16) (h9 : s.up 9 = true) (hl : s.armLoaded (h / 6) = true)
    (hg : s.gateShut h = false) :
    exec (.servoAddressMark h widx n) s = .next ((s.markTimed h widx.toNat n.toNat).markGates h) := by
  refine (next_on (by rw [h9, hl]; rfl)).trans (congrArg _ (if_neg ?_))
  simp [hg]

theorem State.hse_markTimed (s : State) (h widx count : Nat) : (s.markTimed h widx count).hse h =
    { s.hse h with servo := true, miss := 0, direct := true, ko := true, wedges := (s.hse h).wedges + 1,
                   latch := setBitN (s.hse h).latch latSam true } := by
  unfold State.markTimed
  dsimp only
  split <;> simp [State.latchOn]

theorem State.hse_markGates (s : State) (h : Nat) : (s.markGates h).hse h = s.hse h := by
  unfold State.markGates
  dsimp only
  rw [State.hse_wgFall, State.hse_servoGate]
  split <;> simp

theorem State.Within.markGates {F : List Reg} {P : List Part} {M : Nat → Prop} (w : s.Within u h F P M)
    (hr : .HSE_STAT_GATES ∈ F := by decide) (hp : .out ∈ P := by decide) : s.Within (u.markGates h) h F P M :=
  have e : s.Within (if u.bit .CHAN_STAT_LOCKED h then u.setChan h { u.chan h with timed := true } else u) h F P M := .ite w.setChan w
  (e.servoGate hr).wgFall hp

theorem exec_servoAddressMark (h : Head) (widx : BitVec 9) (n : W16) (h9 : s.up 9 = true) (hl : s.armLoaded (h / 6) = true)
    (hg : s.gateShut h = false) :
    ∃ t, exec (.servoAddressMark h widx n) s = .next t ∧ t.rd .HSE_WT_WT h = 0 ∧ t.rd .HSE_WT_WIDX h = widx.toNat ∧
      (t.hse h).latch.testBit latSam = true ∧ (t.hse h).servo = true ∧ (t.hse h).miss = 0 ∧ (t.hse h).direct = true ∧
      (t.hse h).ko = true ∧ (t.hse h).wedges = (s.hse h).wedges + 1 ∧
      t.rd .HSE_WPER_WPER h = (if (s.hse h).direct then n.toNat else s.rd .HSE_WPER_WPER h) ∧
      s.headOnly t h [.HSE_WT_WT, .HSE_WT_WIDX, .HSE_WPER_WPER, .HSE_STAT_GATES] [.out] := by
  refine ⟨_, exec_servoAddressMark_eq h widx n h9 hl hg, ?_⟩
  have w := State.Within.refl s h [.HSE_WT_WT, .HSE_WT_WIDX, .HSE_WPER_WPER, .HSE_STAT_GATES] [.out] (fun _ => False)
  have wt : s.Within (s.markTimed h widx.toNat n.toNat) h [.HSE_WT_WT, .HSE_WT_WIDX, .HSE_WPER_WPER, .HSE_STAT_GATES] [.out]
      (fun _ => False) :=
    (State.Within.ite w.setHse.wr w.setHse).wr.wr.latchOn
  have g := (State.Within.refl (s.markTimed h widx.toNat n.toNat) h [.HSE_STAT_GATES] [.out] (fun _ => False)).markGates
  have wt0 : (s.markTimed h widx.toNat n.toNat).rd .HSE_WT_WT h = 0 := by
    simp only [State.markTimed, State.latchOn, State.rd_setHse, State.rd_wr_same,
      State.rd_wr_ne _ _ (show Reg.HSE_WT_WT ≠ Reg.HSE_WT_WIDX by decide), Nat.zero_mod]
  have widx0 : (s.markTimed h widx.toNat n.toNat).rd .HSE_WT_WIDX h = widx.toNat := by
    simp only [State.markTimed, State.latchOn, State.rd_setHse, State.rd_wr_same]
    exact Nat.mod_eq_of_lt widx.isLt
  have wper : (s.markTimed h widx.toNat n.toNat).rd .HSE_WPER_WPER h =
      if (s.hse h).direct then n.toNat else s.rd .HSE_WPER_WPER h := by
    simp only [State.markTimed, State.latchOn, State.rd_setHse,
      State.rd_wr_ne _ _ (show Reg.HSE_WPER_WPER ≠ Reg.HSE_WT_WIDX by decide),
      State.rd_wr_ne _ _ (show Reg.HSE_WPER_WPER ≠ Reg.HSE_WT_WT by decide)]
    split
    · rw [State.rd_wr_same]
      exact Nat.mod_eq_of_lt n.isLt
    · rfl
  rw [State.hse_markGates, State.hse_markTimed]
  exact ⟨(g.rd .HSE_WT_WT h).trans wt0, (g.rd .HSE_WT_WIDX h).trans widx0, by simp [testBit_setBitN], rfl, rfl, rfl, rfl, rfl,
    (g.rd .HSE_WPER_WPER h).trans wper, wt.markGates.headOnly⟩

theorem exec_servoAddressMark_shut (h : Head) (widx : BitVec 9) (n : W16) (hg : s.gateShut h = true) :
    exec (.servoAddressMark h widx n) s = exec (.samMissing h) s :=
  congrArg Host.Outcome.next (ite_congr rfl (fun _ => if_pos hg) (fun _ => rfl))

/-! ### A surface that loses its timing -/

/-- What an arm's unload writes, of the fields that go quiet before a reset, and no engine. -/
def State.Unloads (s t : State) : Prop := s.only t quietRegs [.ev, .pwr, .arms, .chans, .out]

namespace State.Unloads

open State.only

theorem setArm {a : Nat} {v : ArmS} (o : s.Unloads u) : s.Unloads (u.setArm a v) := o.setArms

theorem stopMicro {a p : Nat} (o : s.Unloads u) : s.Unloads (u.stopMicro a p) := .wrBit (.wrBit (.ite (setArm o) (setArm o).emit))

theorem stopLoops {a : Nat} (o : s.Unloads u) : s.Unloads (u.stopLoops a) :=
  .after (fun h => .wr (.wr (.wr (.wr (setArm (.ite h.wr h)))))) (.foldl (fun _ _ hv => stopMicro hv) o)

theorem losePlaus {a p cause : Nat} (o : s.Unloads u) : s.Unloads (u.losePlaus a p cause) :=
  .ite o (.raise (.wrBit (.ite o o.cutFrame)))

theorem allImplausible {a : Nat} (o : s.Unloads u) : s.Unloads (u.allImplausible a) :=
  .after (fun h => .ite h.wrb h.wrb.setPwr) (.foldl (fun _ _ hv => losePlaus hv) o)

end State.Unloads

/-- An arm that unloads stays loaded for its engines: no engine's part of the state changes, and the state is 6. -/
theorem State.selfUnload_unloads (s : State) (a : Nat) : s.Unloads (s.selfUnload a) ∧
    (s.armTracks a = true → (∀ p, p < 6 → (s.hse (6 * a + p)).servo = false) → (s.selfUnload a).rd .SCE_STAT_STATE a = 6) := by
  have r : s.Unloads s := State.only.refl s _ _
  generalize hv : (s.stopLoops a).allImplausible a = v
  have o : s.Unloads v := hv ▸ r.stopLoops.allImplausible
  have e : v.setSceState a 6 = (v.wr .SCE_STAT_STATE 6 a).wrb .SCE_STAT_LOADED true a := by
    unfold State.setSceState
    exact if_neg (by simp [loadedState])
  have o6 : s.Unloads ((v.setSceState a 6).updWp) := by
    rw [e]
    exact (State.only.wrb (State.only.wr o)).andThen (State.updWp_only _)
  have hs : ((v.setSceState a 6).updWp).rd .SCE_STAT_STATE a = 6 := by
    rw [(State.updWp_only _).rd .SCE_STAT_STATE a, e, State.wrb, State.rd_wr_ne _ _ (by decide), State.rd_wr_same]
    rfl
  have d := State.only.refl ((v.setSceState a 6).updWp) [] [.ev, .out]
  refine ⟨?_, fun ht hl => ?_⟩
  · unfold State.selfUnload State.armUnload
    rw [hv]
    exact .ite (State.only.raise (.ite o6 (.ite o6 o6.emit))) r
  · have hc : (s.armTracks a && (List.range 6).all (fun p => !(s.hse (6 * a + p)).servo)) = true := by
      rw [ht, Bool.true_and, List.all_eq_true]
      intro p hp
      simp [hl p (List.mem_range.1 hp)]
    unfold State.selfUnload State.armUnload
    rw [if_pos hc, hv]
    exact ((State.only.raise (.ite d (.ite d d.emit)) : State.only _ _ [] [.ev, .out]).rd .SCE_STAT_STATE a).trans hs

/-- A mark missed: the engine, and the timer at 0 in the keep-out window. -/
def State.markMissed (s : State) (h : Nat) (lost : Bool) : State :=
  let v := s.hse h
  let s := s.setHse h { v with miss := v.miss + 1, direct := false, servo := v.servo && !lost, ko := true }
  ((s.wr .HSE_WT_WT 0 h).servoGate h).wgFall h

theorem State.markMissing_eq (s : State) (h : Nat) : s.markMissing h =
    let lost := (s.hse h).servo && decide (4 ≤ (s.hse h).miss + 1)
    if lost then ((s.markMissed h lost).cause h 8).selfUnload (h / 6) else s.markMissed h lost := rfl

theorem State.hse_markMissed (s : State) (h : Nat) (lost : Bool) : (s.markMissed h lost).hse h =
    { s.hse h with miss := (s.hse h).miss + 1, direct := false, servo := (s.hse h).servo && !lost, ko := true } := by
  simp [State.markMissed, State.hse_wgFall]

theorem State.markMissed_within (s : State) (h : Nat) (lost : Bool) :
    s.Within (s.markMissed h lost) h [.HSE_WT_WT, .HSE_STAT_GATES] [.out] (fun _ => False) :=
  (State.Within.refl ..).setHse.wr.servoGate.wgFall

theorem State.markMissed_timer (s : State) (h : Nat) (lost : Bool) : (s.markMissed h lost).rd .HSE_WT_WT h = 0 := by
  unfold State.markMissed
  dsimp only
  rw [((State.Within.refl _ h [.HSE_STAT_GATES] [.out] (fun _ => False)).servoGate.wgFall).rd .HSE_WT_WT h, State.rd_wr_same,
    Nat.zero_mod]

theorem exec_samMissing (h : Head) (h9 : s.up 9 = true) (hl : s.armLoaded (h / 6) = true) :
    ∃ t, exec (.samMissing h) s = .next t ∧ (t.hse h).direct = false ∧
      t.rd .HSE_WPER_WPER h = s.rd .HSE_WPER_WPER h ∧ t.rd .HSE_WT_WT h = 0 ∧
      ((s.hse h).servo = false ∨ (s.hse h).miss + 1 < 4 → (t.hse h).miss = (s.hse h).miss + 1 ∧ (t.hse h).servo = (s.hse h).servo ∧
        (t.hse h).ko = true ∧ s.headOnly t h [.HSE_WT_WT, .HSE_STAT_GATES] [.out]) ∧
      ((s.hse h).servo = true → 4 ≤ (s.hse h).miss + 1 → (t.hse h).servo = false ∧ t.rdBit .HSE_TPEND_PEND 8 h = true ∧
        (s.armTracks (h / 6) = true → (∀ p, p < 6 → p ≠ h % 6 → (s.hse (6 * (h / 6) + p)).servo = false) →
          t.rd .SCE_STAT_STATE (h / 6) = 6)) := by
  refine ⟨_, (next_on (by rw [h9, hl]; rfl)).trans (congrArg _ (s.markMissing_eq h)), ?_⟩
  dsimp only
  cases hlost : (s.hse h).servo && decide (4 ≤ (s.hse h).miss + 1)
  case false =>
    rw [if_neg (by decide), State.hse_markMissed]
    have w := s.markMissed_within h false
    refine ⟨rfl, w.rd .HSE_WPER_WPER h, s.markMissed_timer h _, fun _ => ⟨rfl, by simp, rfl, w.headOnly⟩, fun a b => ?_⟩
    simp [a, b] at hlost
  case true =>
    rw [if_pos rfl]
    obtain ⟨hservo, hmiss⟩ := Bool.and_eq_true_iff.1 hlost
    rw [decide_eq_true_eq] at hmiss
    generalize hv : s.markMissed h true = v
    have w : s.Within v h [.HSE_WT_WT, .HSE_STAT_GATES] [.out] (fun _ => False) := hv ▸ s.markMissed_within h true
    have hh : v.hse h = { s.hse h with miss := (s.hse h).miss + 1, direct := false, servo := false, ko := true } := by
      rw [← hv, State.hse_markMissed, hservo]
      rfl
    have hpend := v.cause_pending h (v := 8) (by decide) (by decide)
    rw [State.cause_pends v h (by decide)] at hpend ⊢
    obtain ⟨o, st⟩ := State.selfUnload_unloads (v.wrBit .HSE_TPEND_PEND 8 true h) (h / 6)
    have he (g : Nat) : ((v.wrBit .HSE_TPEND_PEND 8 true h).selfUnload (h / 6)).hse g = v.hse g := State.hse_congr (o.same .hses) g
    rw [he, hh]
    refine ⟨rfl, ?_, ?_, fun c => ?_, fun _ _ => ⟨rfl, ?_, fun ht ho => st ?_ (fun p hp => ?_)⟩⟩
    · rw [o.rd .HSE_WPER_WPER h, State.wrBit, State.rd_wr_ne _ _ (by decide), w.rd .HSE_WPER_WPER h]
    · rw [o.rd .HSE_WT_WT h, State.wrBit, State.rd_wr_ne _ _ (by decide), ← hv, State.markMissed_timer]
    · rcases c with c | c
      · rw [hservo] at c; cases c
      · omega
    · rw [State.rdBit_congr (o.rd .HSE_TPEND_PEND h) 8, hpend]
    · simp only [State.armTracks, State.wrBit, State.rd_wr_ne _ _ (show Reg.SCE_STAT_STATE ≠ Reg.HSE_TPEND_PEND by decide),
        w.rd .SCE_STAT_STATE _]
      exact ht
    · rw [State.hse_wrBit]
      by_cases c : p = h % 6
      · rw [c, Nat.div_add_mod, hh]
      · rw [(w.frame.2.2 _ (by omega)).1]
        exact ho ⟨p, by omega⟩ hp (fun e => c (congrArg Fin.val e))

end Sys2Proof.Machine

open Sys2Proof Sys2Proof.Machine

/-- Settles O35: row by row, each an equation of the row's operation read off with the head's frame. -/
theorem commandQueueStoresAndTimersOfAHead : Obligations.CommandQueueStoresAndTimersOfAHead := by
  unfold Obligations.CommandQueueStoresAndTimersOfAHead
  intro h s
  exact ⟨exec_doorbellCmd h, exec_doorbellAbort h, exec_cqptrTailWrite h, exec_hseDoneRead h, exec_hseStoreWrite h,
    exec_defectTableWrite h, exec_skipCheckDone h, exec_slotBoundary h, exec_keepOutStart h, exec_keepOutEnd h,
    exec_writePermitDrop h, fun _ => exec_writePermitDrop_told h, exec_servoAddressMark h, exec_servoAddressMark_shut h,
    exec_samMissing h⟩
end

section
/-! PROOFS. The end of a write frame (R25, R141, R181, R183, R184, R201): the frame on the medium, its counts, the gate and the outer
code's answer. -/

set_option Elab.async false

namespace Sys2Proof.Machine

variable {s t u : State} {h : Nat}

/-! ### What the outer code takes of a frame written -/

/-- The fields F and the parts P may differ, and memory. -/
structure State.Alters (s t : State) (F : List Reg) (P : List Part) : Prop where
  regs : s.regsBut t F
  keeps : s.keeps t P

namespace State.Alters

variable {F : List Reg} {P : List Part}

theorem of_only (o : s.only t F P) : s.Alters t F P := ⟨o.1, o.2.2⟩
theorem refl (s : State) (F : List Reg) (P : List Part) : s.Alters s F P := .of_only (.refl s F P)

theorem trans (a : s.Alters u F P) (b : u.Alters t F P) : s.Alters t F P :=
  ⟨fun r i j n => (b.regs r i j n).trans (a.regs r i j n), b.keeps.1.trans a.keeps.1,
    fun p n => State.only.same_trans (a.keeps.2 p n) (b.keeps.2 p n)⟩

theorem mono {F' : List Reg} (a : s.Alters t F P) (hF : F ⊆ F' := by decide) : s.Alters t F' P :=
  ⟨fun r i j n => a.regs r i j (fun m => n (hF m)), a.keeps⟩

theorem wr {r : Reg} {v i j : Nat} (a : s.Alters u F P) (hr : r ∈ F := by decide) : s.Alters (u.wr r v i j) F P :=
  a.trans (.of_only ((State.only.refl u F P).wr hr))

theorem setMbs {n : Nat} {bs : List Byte} (a : s.Alters u F P) : s.Alters (u.setMbs n bs) F P :=
  a.trans ⟨fun _ _ _ _ => rfl, rfl, fun p _ => by cases p <;> rfl⟩

theorem foldl {α : Type} {f : State → α → State} {l : List α} (hf : ∀ v a, s.Alters v F P → s.Alters (f v a) F P)
    (a : s.Alters u F P) : s.Alters (l.foldl f u) F P := by
  induction l generalizing u with
  | nil => exact a
  | cons b l ih => exact ih (hf u b a)

theorem same (a : s.Alters t F P) (p : Part) (hp : p ∉ P := by decide) : p.same s t := a.keeps.2 p hp

theorem rd (a : s.Alters t F P) (r : Reg) (i : Nat := 0) (j : Nat := 0) (hr : r ∉ F := by decide) : t.rd r i j = s.rd r i j :=
  congrArg BitVec.toNat (a.regs r i j hr)

end State.Alters

/-- What the outer code writes of its contexts at a frame written. -/
def groupRegs : List Reg :=
  [.GCTX_ERR, .OCE_STAT_ACCERR, .GCTX_NDATA, .GCTX_NPAR, .GCTX_MODE, .OCE_HACT_VALID, .OCE_HACT_CTX]

theorem State.accumulate_alters (s : State) (g i : Nat) (b : List Byte) : s.Alters (s.accumulate g i b) [.GCTX_ERR, .OCE_STAT_ACCERR] [.ev] :=
  .foldl (fun _ _ a => a.setMbs) (.of_only (s.accCheck_only g))

theorem State.oceWritten_alters (s : State) (f : WFrame) : s.Alters (s.oceWritten f) groupRegs [.ev] := by
  have r := State.Alters.refl s groupRegs [.ev]
  unfold State.oceWritten
  split
  · exact r
  split
  · exact r
  split
  · exact (s.accumulate_alters _ _ _).mono.wr
  split
  · exact r
  split
  · exact r.wr.wr.wr.wr
  · exact r.wr

theorem State.oceActive_none : s.oceActive h = none ↔ (s.bit .OCE_CTL_EN && s.bit .OCE_HACT_VALID h) = false := by
  unfold State.oceActive
  split
  next e => simp [e]
  next e => simpa using e

theorem State.oceActive_congr (e : s.oceActive h = none) (hc : t.rd .OCE_CTL_EN = s.rd .OCE_CTL_EN)
    (hv : t.rd .OCE_HACT_VALID h = s.rd .OCE_HACT_VALID h) : t.oceActive h = none := by
  rw [State.oceActive_none] at e ⊢
  simp only [State.bit, hc, hv]
  exact e

/-- A head's context taken away leaves no other active. -/
theorem State.oceActive_release (e : s.oceActive h = none) (g : Nat) : (s.wr .OCE_HACT_VALID 0 g).oceActive h = none := by
  by_cases c : h = g
  · subst c
    rw [State.oceActive_none]
    simp [State.bit_wr_same]
  · exact State.oceActive_congr e (State.rd_wr_ne _ _ (by decide))
      (congrArg BitVec.toNat (State.rdW_wr_key _ _ (fun k => c (congrArg RKey.i k))))

/-- A group that ends takes its head's active context away, and none comes. -/
theorem State.oceActive_oceWritten (f : WFrame) (e : s.oceActive h = none) : (s.oceWritten f).oceActive h = none := by
  have wr {v : State} (e : v.oceActive h = none) (r : Reg) (n i : Nat) (hc : Reg.OCE_CTL_EN ≠ r := by decide)
      (hv : Reg.OCE_HACT_VALID ≠ r := by decide) : (v.wr r n i).oceActive h = none :=
    State.oceActive_congr e (State.rd_wr_ne _ _ hc) (State.rd_wr_ne _ _ hv)
  unfold State.oceWritten
  split
  · exact e
  split
  · exact e
  split
  · exact wr (State.oceActive_congr e ((s.accumulate_alters ..).rd .OCE_CTL_EN) ((s.accumulate_alters ..).rd .OCE_HACT_VALID h)) _ _ _
  split
  · exact e
  split
  · exact wr (State.oceActive_release (wr (wr e _ _ _) _ _ _) _) _ _ _
  · exact wr e _ _ _

/-! ### The end of a frame -/

/-- A frame that counts as written, but for its group. -/
def State.frameNoted (s : State) (h : Nat) (f : WFrame) : State :=
  let s := ((s.wrapAdd .CHAN_NWR_COUNT 1 h).wrapAdd .CHAN_WAFRM_COUNT 1 h f.preset).waCount h f.preset
  (s.setHse h { s.hse h with wrote := (s.hse h).wrote + 1 }).latchOn h latWdone

/-- A frame that counts as written. -/
def State.frameCounted (s : State) (h : Nat) (f : WFrame) : State := (s.frameNoted h f).oceWritten f

/-- A frame leaves for the medium. -/
def State.frameOut (s : State) (h : Nat) (f : WFrame) : State :=
  (s.setChan h { s.chan h with wf := none }).emit (.medium h (sectorFrame (s.matrix h) f.data))

/-- What the gate does behind a frame. -/
def State.frameGate (s : State) (h : Nat) (close fall pend : Bool) : State :=
  let s := if close then s.wgEnd h else if fall then s.wgFall h else s
  if pend then s.cause h 6 else s

theorem exec_writeFrameEnd_eq (h : Head) {f : WFrame} (hf : (s.chan h).wf = some f) (hd : s.dataTime h = true) :
    exec (.writeFrameEnd h) s = .next ((State.frameGate (if s.writeCut h f then s.frameOut h f else (s.frameOut h f).frameCounted h f) h
      ((s.chan h).wclose || s.writeCut h f) (s.chan h).staged.isEmpty (s.writeCut h f && !f.told)).oceServe h) := by
  show execWriteFrameEnd h s = _
  unfold execWriteFrameEnd
  rw [hf]
  exact next_on hd

theorem exec_writeFrameEnd_off (h : Head) (hx : (s.chan h).wf = none ∨ s.dataTime h = false) : exec (.writeFrameEnd h) s = .next s := by
  show execWriteFrameEnd h s = _
  unfold execWriteFrameEnd
  split
  · rfl
  next f e =>
    rcases hx with c | c
    · rw [e] at c; cases c
    · exact next_off c

theorem State.out_wgFall (s : State) (h : Nat) : (s.wgFall h).out = s.out ++ if (s.chan h).wg then [.writeGate h false] else [] := by
  unfold State.wgFall
  split
  · rfl
  · exact (List.append_nil _).symm

theorem State.out_wgEnd (s : State) (h : Nat) : (s.wgEnd h).out = s.out ++ if (s.chan h).wg then [.writeGate h false] else [] := by
  have w := (State.Within.refl (((s.wrBit .HSE_STAT_GATES 2 false h).wgFall h).setChan h
    { ((s.wrBit .HSE_STAT_GATES 2 false h).wgFall h).chan h with wclose := false, startW := false }) h zrateRegs [.ev]
      (fun _ => False)).zrateNow
  exact (w.same .out).trans (State.out_wgFall (s.wrBit .HSE_STAT_GATES 2 false h) h)

section
variable (s : State) (h : Nat) (close fall pend : Bool)

theorem State.frameGate_within : s.Within (s.frameGate h close fall pend) h (.HSE_TPEND_PEND :: .HSE_STAT_GATES :: zrateRegs) [.ev, .out]
    (fun _ => False) := by
  have w := State.Within.refl s h (.HSE_TPEND_PEND :: .HSE_STAT_GATES :: zrateRegs) [.ev, .out] (fun _ => False)
  have e : s.Within (if close then s.wgEnd h else if fall then s.wgFall h else s) h (.HSE_TPEND_PEND :: .HSE_STAT_GATES :: zrateRegs)
      [.ev, .out] (fun _ => False) := .ite w.wgEnd (.ite w.wgFall w)
  exact .ite e.pends e

/-- The line falls behind a frame that none follows. -/
theorem State.frameGate_out : (s.frameGate h close fall pend).out =
    s.out ++ if (close || fall) && (s.chan h).wg then [.writeGate h false] else [] := by
  have p (v : State) : (if pend then v.cause h 6 else v).out = v.out := by
    split
    · rw [State.cause_pends v h (by decide)]; rfl
    · rfl
  unfold State.frameGate
  rw [p]
  cases close
  · cases fall
    · simp
    · simpa using s.out_wgFall h
  · simpa using s.out_wgEnd h

theorem State.frameGate_hse : ∃ d, (s.frameGate h close fall pend).hse h = { s.hse h with direct := d } := by
  have p (v : State) : (if pend then v.cause h 6 else v).hse h = v.hse h := by
    split
    · rw [State.cause_pends v h (by decide)]; rfl
    · rfl
  unfold State.frameGate
  rw [p]
  cases close
  · refine ⟨(s.hse h).direct, ?_⟩
    cases fall
    · rfl
    · exact s.hse_wgFall h h
  · exact s.hse_wgEnd h

theorem State.frameGate_wf : ((s.frameGate h close fall pend).chan h).wf = (s.chan h).wf := by
  have p (v : State) : (if pend then v.cause h 6 else v).chan h = v.chan h := by
    split
    · rw [State.cause_pends v h (by decide)]; rfl
    · rfl
  unfold State.frameGate
  rw [p]
  cases close
  · cases fall
    · rfl
    · show ((s.wgFall h).chan h).wf = _
      rw [s.chan_wgFall h]
  · obtain ⟨z, a, b, e⟩ := s.chan_wgEnd h
    show ((s.wgEnd h).chan h).wf = _
    rw [e]

theorem State.frameGate_closes (hc : close = true) : (s.frameGate h close fall pend).wgOpen h = false := by
  have p (v : State) : (if pend then v.cause h 6 else v).wgOpen h = v.wgOpen h := by
    split
    · rw [State.cause_pends v h (by decide)]; exact State.wgOpen_wr (by decide) _ _ _
    · rfl
  unfold State.frameGate
  rw [p, if_pos hc]
  exact State.wgOpen_wgEnd

end

theorem State.frameGate_pends (s : State) (h : Nat) (close fall : Bool) :
    (s.frameGate h close fall true).rdBit .HSE_TPEND_PEND 6 h = true := by
  unfold State.frameGate
  rw [if_pos rfl]
  exact State.cause_pending _ h (by decide) (by decide)

theorem State.frameOut_within (s : State) (h : Nat) (f : WFrame) : s.Within (s.frameOut h f) h [] [.out] (fun _ => False) :=
  (State.Within.refl ..).setChan.emit

theorem State.waCount_eq (s : State) (h p : Nat) : s.waCount h p = s.setMed (s.waCount h p).med := by
  simp only [State.waCount, State.setMed]

theorem State.runningCal_congr (r : t.rst = s.rst) (m : t.mem = s.mem) : t.runningCal = s.runningCal := by
  simp only [State.runningCal, State.mrd, State.mbs, State.mb, r, m]

/-- Its use of the head depends on the medium, the time and the calibration only. -/
theorem State.waCount_med (p : Nat) (m : t.med = s.med) (o : t.optime = s.optime) (c : t.runningCal = s.runningCal) :
    (t.waCount h p).med = (s.waCount h p).med := by
  simp only [State.waCount, State.setMed, o, c, m]

theorem State.hse_setMed (s : State) (m : Media) (g : Nat) : (s.setMed m).hse g = s.hse g := rfl
theorem State.chan_setMed (s : State) (m : Media) (g : Nat) : (s.setMed m).chan g = s.chan g := rfl

theorem State.frameNoted_hse (s : State) (h : Nat) (f : WFrame) : (s.frameNoted h f).hse h =
    { s.hse h with wrote := (s.hse h).wrote + 1, latch := setBitN (s.hse h).latch latWdone true } := by
  unfold State.frameNoted
  rw [State.waCount_eq]
  simp only [State.latchOn, State.hse_setHse_same, State.hse_setMed, State.wrapAdd, State.hse_wr]

theorem State.frameNoted_chan (s : State) (h : Nat) (f : WFrame) : (s.frameNoted h f).chan h = s.chan h := by
  unfold State.frameNoted
  rw [State.waCount_eq]
  simp only [State.latchOn, State.chan_setHse, State.chan_setMed, State.wrapAdd, State.chan_wr]

theorem State.Within.setMed {F : List Reg} {P : List Part} {M : Nat → Prop} {m : Media} (w : s.Within u h F P M) (hp : .med ∈ P) :
    s.Within (u.setMed m) h F P M :=
  w.part .med hp rfl rfl rfl rfl rfl (fun p n => by cases p <;> first | rfl | exact absurd rfl n)

theorem State.Within.frameNoted {f : WFrame} {P : List Part} {M : Nat → Prop} (w : s.Within u h [.CHAN_NWR_COUNT, .CHAN_WAFRM_COUNT] P M)
    (hp : .med ∈ P := by decide) : s.Within (u.frameNoted h f) h [.CHAN_NWR_COUNT, .CHAN_WAFRM_COUNT] P M := by
  unfold State.frameNoted
  rw [State.waCount_eq]
  exact (w.wrapAdd.wrapAdd.setMed hp).setHse.latchOn

theorem State.frameNoted_counts (s : State) (h : Nat) (f : WFrame) :
    (s.frameNoted h f).rd .CHAN_NWR_COUNT h = (s.rd .CHAN_NWR_COUNT h + 1) % 2 ^ 32 ∧
    (s.frameNoted h f).rd .CHAN_WAFRM_COUNT h f.preset = (s.rd .CHAN_WAFRM_COUNT h f.preset + 1) % 2 ^ 32 := by
  unfold State.frameNoted
  rw [State.waCount_eq]
  generalize (State.waCount _ h f.preset).med = m
  constructor
  · simp only [State.latchOn, State.rd_setHse, State.rd_setMed, State.wrapAdd, State.rd_wr_same,
      State.rd_wr_ne _ _ (show Reg.CHAN_NWR_COUNT ≠ Reg.CHAN_WAFRM_COUNT by decide)]
    rfl
  · simp only [State.latchOn, State.rd_setHse, State.rd_setMed, State.wrapAdd, State.rd_wr_same,
      State.rd_wr_ne _ _ (show Reg.CHAN_WAFRM_COUNT ≠ Reg.CHAN_NWR_COUNT by decide)]
    rfl

theorem State.frameNoted_med (s : State) (h : Nat) (f : WFrame) : (s.frameNoted h f).med = (s.waCount h f.preset).med := by
  unfold State.frameNoted
  generalize hv : (s.wrapAdd .CHAN_NWR_COUNT 1 h).wrapAdd .CHAN_WAFRM_COUNT 1 h f.preset = v
  have m : v.med = s.med := by rw [← hv]; simp only [State.wrapAdd, State.wr_med]
  have o : v.optime = s.optime := by
    rw [← hv]
    exact (State.rd_wr_ne _ _ (by decide)).trans (State.rd_wr_ne _ _ (by decide))
  have c : v.runningCal = s.runningCal := by rw [← hv]; exact State.runningCal_congr rfl rfl
  rw [← State.waCount_med f.preset m o c]
  generalize State.waCount _ h f.preset = w
  rfl

/-- A frame of no context counts within its head. -/
theorem State.frameCounted_lone {f : WFrame} (hc : f.ctx = none) : s.frameCounted h f = s.frameNoted h f := by
  rw [State.frameCounted, State.oceWritten, hc]

/-- A frame that counts: its counters, the engine and the use of its head. -/
theorem State.frameCounted_counts (s : State) (h : Nat) (f : WFrame) :
    (s.frameCounted h f).hse h = { s.hse h with wrote := (s.hse h).wrote + 1, latch := setBitN (s.hse h).latch latWdone true } ∧
    (s.frameCounted h f).chan h = s.chan h ∧ (s.frameCounted h f).out = s.out ∧
    (s.frameCounted h f).rd .CHAN_NWR_COUNT h = (s.rd .CHAN_NWR_COUNT h + 1) % 2 ^ 32 ∧
    (s.frameCounted h f).rd .CHAN_WAFRM_COUNT h f.preset = (s.rd .CHAN_WAFRM_COUNT h f.preset + 1) % 2 ^ 32 ∧
    (s.frameCounted h f).med = (s.waCount h f.preset).med := by
  have a : (s.frameNoted h f).Alters (s.frameCounted h f) groupRegs [.ev] := State.oceWritten_alters _ f
  have w : s.Within (s.frameNoted h f) h [.CHAN_NWR_COUNT, .CHAN_WAFRM_COUNT] [.med] (fun _ => False) := (State.Within.refl ..).frameNoted
  obtain ⟨nwr, wa⟩ := s.frameNoted_counts h f
  exact ⟨(State.hse_congr (a.same .hses) h).trans (s.frameNoted_hse h f), (State.chan_congr (a.same .chans) h).trans (s.frameNoted_chan h f),
    (a.same .out).trans (w.same .out), (a.rd .CHAN_NWR_COUNT h).trans nwr, (a.rd .CHAN_WAFRM_COUNT h f.preset).trans wa,
    (a.same .med).trans (s.frameNoted_med h f)⟩

theorem State.oceActive_frameCounted (f : WFrame) (e : s.oceActive h = none) : (s.frameCounted h f).oceActive h = none := by
  have w : s.Within (s.frameNoted h f) h [.CHAN_NWR_COUNT, .CHAN_WAFRM_COUNT] [.med] (fun _ => False) := (State.Within.refl ..).frameNoted
  exact State.oceActive_oceWritten f (State.oceActive_congr e (w.rd .OCE_CTL_EN) (w.rd .OCE_HACT_VALID h))

theorem exec_writeFrameEnd (h : Head) (f : WFrame) (hf : (s.chan h).wf = some f) (hd : s.dataTime h = true) :
    ∃ t, exec (.writeFrameEnd h) s = .next t ∧ (t.chan h).wf = none ∧
      (∃ l, s.sent t (.medium h (sectorFrame (s.matrix h) f.data) ::
          ((if ((s.chan h).wclose || s.writeCut h f || (s.chan h).staged.isEmpty) && (s.chan h).wg then [.writeGate h false] else []) ++ l)) ∧
        (s.oceActive h = none → l = [])) ∧
      ((s.chan h).wclose = true ∨ f.cut = true ∨ s.permitOk h = false ∨ s.windowOk h = false → t.wgOpen h = false) ∧
      (f.told = false → f.cut = true ∨ s.permitOk h = false ∨ s.windowOk h = false → t.rdBit .HSE_TPEND_PEND 6 h = true) ∧
      (f.cut = false → s.permitOk h = true → s.windowOk h = true → (t.hse h).latch.testBit latWdone = true ∧
        (t.hse h).wrote = (s.hse h).wrote + 1 ∧ t.rd .CHAN_NWR_COUNT h = (s.rd .CHAN_NWR_COUNT h + 1) % 2 ^ 32 ∧
        t.rd .CHAN_WAFRM_COUNT h f.preset = (s.rd .CHAN_WAFRM_COUNT h f.preset + 1) % 2 ^ 32 ∧
        t.med = (s.waCount h f.preset).med) ∧
      (f.cut = true ∨ s.permitOk h = false ∨ s.windowOk h = false → (t.hse h).wrote = (s.hse h).wrote ∧
        t.rd .CHAN_NWR_COUNT h = s.rd .CHAN_NWR_COUNT h ∧ t.med = s.med ∧ s.memSame t) ∧
      (f.ctx = none → s.oceActive h = none → s.headOnly t h [.CHAN_NWR_COUNT, .CHAN_WAFRM_COUNT, .HSE_STAT_GATES, .HSE_TPEND_PEND, .HSE_WPER_WPER,
        .CHAN_STAT_LOCKED, .CHAN_STAT_RLIM, .CHAN_BITRATE_RATE] [.ev, .med, .out]) := by
  refine ⟨_, exec_writeFrameEnd_eq h hf hd, ?_⟩
  have cutIff : s.writeCut h f = true ↔ f.cut = true ∨ s.permitOk h = false ∨ s.windowOk h = false := by
    simp only [State.writeCut, Bool.or_eq_true, Bool.not_eq_true', Bool.and_eq_false_iff]
  have goodIff : s.writeCut h f = false ↔ f.cut = false ∧ s.permitOk h = true ∧ s.windowOk h = true := by
    simp only [State.writeCut, Bool.or_eq_false_iff, Bool.not_eq_false', Bool.and_eq_true]
  -- the frame is out, and counted unless cut
  generalize hv : s.frameOut h f = v
  have wv : s.Within v h [] [.out] (fun _ => False) := hv ▸ s.frameOut_within h f
  have cv : v.chan h = { s.chan h with wf := none } := by rw [← hv]; simp [State.frameOut]
  have hhv : v.hse h = s.hse h := by rw [← hv]; rfl
  have ov : v.out = s.out ++ [.medium h (sectorFrame (s.matrix h) f.data)] := by rw [← hv]; rfl
  obtain ⟨chse, cchan, cout, cnwr, cwa, cmed⟩ := v.frameCounted_counts h f
  generalize hw : (if s.writeCut h f then v else v.frameCounted h f) = w
  have cw : w.chan h = v.chan h := by rw [← hw]; split; exacts [rfl, cchan]
  have ow : w.out = v.out := by rw [← hw]; split; exacts [rfl, cout]
  -- the gate, then the outer code
  generalize hclose : ((s.chan h).wclose || s.writeCut h f) = close
  generalize hpend : (s.writeCut h f && !f.told) = pend
  generalize hx : w.frameGate h close (s.chan h).staged.isEmpty pend = x
  have wx : w.Within x h (.HSE_TPEND_PEND :: .HSE_STAT_GATES :: zrateRegs) [.ev, .out] (fun _ => False) := hx ▸ w.frameGate_within h _ _ _
  have served := State.oceServe_served x h
  obtain ⟨d, hhx⟩ := w.frameGate_hse h close (s.chan h).staged.isEmpty pend
  rw [hx] at hhx
  have medT : (x.oceServe h).med = w.med := (served.only.same .med).trans (wx.same .med)
  have active : s.oceActive h = none → x.oceActive h = none := by
    intro e
    have ev : v.oceActive h = none := State.oceActive_congr e (wv.rd .OCE_CTL_EN) (wv.rd .OCE_HACT_VALID h)
    have ew : w.oceActive h = none := by
      rw [← hw]
      split
      · exact ev
      · exact State.oceActive_frameCounted f ev
    exact State.oceActive_congr ew (wx.rd .OCE_CTL_EN) (wx.rd .OCE_HACT_VALID h)
  refine ⟨?_, ?_, fun c => ?_, fun ht c => ?_, fun a b c => ?_, fun c => ?_, fun hc ha => ?_⟩
  · rw [served.chan, ← hx]
    show ((w.frameGate h _ _ _).chan h).wf = none
    rw [State.frameGate_wf, cw, cv]
  · have gate := w.frameGate_out h close (s.chan h).staged.isEmpty pend
    rw [hx, ow, ov, cw, cv] at gate
    obtain ⟨l, hl⟩ := served.sent
    by_cases ha : s.oceActive h = none
    · refine ⟨[], ?_, fun _ => rfl⟩
      rw [State.sent, State.oceServe_idle (active ha), gate]
      simp
    · refine ⟨l, ?_, fun e => absurd e ha⟩
      rw [State.sent, hl, gate]
      simp
  · have hc : close = true := by
      rw [← hclose, Bool.or_eq_true, cutIff]
      exact c
    rw [State.wgOpen_congr (served.only.rd .HSE_STAT_GATES h), ← hx]
    exact w.frameGate_closes h _ _ _ hc
  · have hp : pend = true := by rw [← hpend, cutIff.2 c, ht]; rfl
    rw [State.rdBit_congr (served.only.rd .HSE_TPEND_PEND h) 6, ← hx, hp]
    exact w.frameGate_pends h _ _
  · rw [if_neg (by simp [goodIff.2 ⟨a, b, c⟩])] at hw
    rw [served.hse, hhx, ← hw, chse, hhv]
    refine ⟨by simp [testBit_setBitN], rfl, ?_, ?_, ?_⟩
    · rw [served.only.rd .CHAN_NWR_COUNT h, wx.rd .CHAN_NWR_COUNT h, ← hw, cnwr, wv.rd .CHAN_NWR_COUNT h]
    · rw [served.only.rd .CHAN_WAFRM_COUNT h f.preset, wx.rd .CHAN_WAFRM_COUNT h f.preset, ← hw, cwa, wv.rd .CHAN_WAFRM_COUNT h f.preset]
    · rw [hw] at cmed
      rw [medT, cmed, ← hv]
      rfl
  · rw [if_pos (cutIff.2 c)] at hw
    rw [served.hse, hhx, ← hw, hhv]
    refine ⟨rfl, ?_, ?_, fun y => ?_⟩
    · rw [served.only.rd .CHAN_NWR_COUNT h, wx.rd .CHAN_NWR_COUNT h, ← hw, wv.rd .CHAN_NWR_COUNT h]
    · rw [medT, ← hw, ← hv]
      rfl
    · rw [served.only.mb, wx.mem y id, ← hw, wv.mem y id]
  · rw [State.oceServe_idle (active ha)]
    have wv' : s.Within v h [.CHAN_NWR_COUNT, .CHAN_WAFRM_COUNT] [.med, .out] (fun _ => False) := wv.mono
    have ww : s.Within w h [.CHAN_NWR_COUNT, .CHAN_WAFRM_COUNT] [.med, .out] (fun _ => False) := by
      rw [← hw, State.frameCounted_lone hc]
      exact .ite wv' wv'.frameNoted
    exact ((ww.mono : s.Within w h [.CHAN_NWR_COUNT, .CHAN_WAFRM_COUNT, .HSE_STAT_GATES, .HSE_TPEND_PEND, .HSE_WPER_WPER,
      .CHAN_STAT_LOCKED, .CHAN_STAT_RLIM, .CHAN_BITRATE_RATE] [.ev, .med, .out] (fun _ => False)).andThen wx).headOnly

end Sys2Proof.Machine
end

section
/-! PROOFS. The sync search, the decodes, the offline decode and the enabling of a channel (R20, R161, R166 to R179, R194): what each
row answers. -/

set_option Elab.async false

namespace Sys2Proof.Machine

variable {s t u : State} {h : Nat}

/-! ### Frames of a channel's rows -/

/-- What the rows that read, decode and enable write of their head. -/
def readRegs : List Reg :=
  [.CHAN_CTL_EN, .CHAN_STAT_ENA, .CHAN_STAT_HBAD, .CHAN_STAT_RDBUSY, .CHAN_STAT_RDREF, .CHAN_SNR_LAST, .CHAN_SNR_AVG,
   .CHAN_LAST_RESULT, .CHAN_LAST_CAND, .CHAN_LAST_ITER, .CHAN_LAST_UNSAT, .CHAN_RDEC_OFS, .CHAN_RDEC_ITER, .CHAN_RDEC_REDET,
   .CHAN_NFRM_COUNT, .CHAN_NGAMB_COUNT, .CHAN_NNOSYNC_COUNT, .CHAN_NDEC_COUNT, .CHAN_NTAG_COUNT, .CHAN_NWR_COUNT, .CHAN_ITH_COUNT,
   .CHAN_WAFRM_COUNT, .HSE_TPEND_PEND]

/-- Only what the rows that read, decode and enable write of head h differs. -/
abbrev State.Reads (s t : State) (h : Nat) : Prop := s.Within t h readRegs [.ev, .free] (fun _ => False)

/-- The counters of a read frame with its result (R194). -/
def State.readCounts (s : State) (h code : Nat) : State :=
  let s := s.wrapAdd .CHAN_NFRM_COUNT 1 h
  if code = 1 then s.wrapAdd .CHAN_NGAMB_COUNT 1 h
  else if code = 2 then s.wrapAdd .CHAN_NNOSYNC_COUNT 1 h
  else if code = 3 ∨ code = 4 then s.wrapAdd .CHAN_NDEC_COUNT 1 h
  else if 5 ≤ code then s.wrapAdd .CHAN_NTAG_COUNT 1 h else s

theorem State.readEnd_eq (s : State) (h code cand iter unsat : Nat) (data : List Byte) (f : RFrame) :
    s.readEnd h code cand iter unsat data f =
      let s := (s.setResult h code cand iter unsat data).readCounts h code
      if code ≤ 1 then s else (s.frameFailed h code cand iter unsat f).cause h 12 := rfl

/-- What a result writes. -/
def resultRegs : List Reg := [.CHAN_LAST_RESULT, .CHAN_LAST_CAND, .CHAN_LAST_ITER, .CHAN_LAST_UNSAT]

/-- What the counters write. -/
def countRegs : List Reg := [.CHAN_NFRM_COUNT, .CHAN_NGAMB_COUNT, .CHAN_NNOSYNC_COUNT, .CHAN_NDEC_COUNT, .CHAN_NTAG_COUNT]

section
variable (s : State) (h code cand iter unsat : Nat) (data : List Byte) (f : RFrame)

theorem State.readCounts_within : s.Within (s.readCounts h code) h countRegs [] (fun _ => False) := by
  have w : s.Within (s.wrapAdd .CHAN_NFRM_COUNT 1 h) h countRegs [] (fun _ => False) := (State.Within.refl ..).wrapAdd
  exact .ite w.wrapAdd (.ite w.wrapAdd (.ite w.wrapAdd (.ite w.wrapAdd w)))

theorem State.setResult_within : s.Within (s.setResult h code cand iter unsat data) h resultRegs [] (fun _ => False) :=
  have w : s.Within ((((s.wr .CHAN_LAST_RESULT code h).wr .CHAN_LAST_CAND cand h).wr .CHAN_LAST_ITER iter h).wr .CHAN_LAST_UNSAT unsat h)
      h resultRegs [] (fun _ => False) := (State.Within.refl ..).wr.wr.wr.wr
  w.setChan.setHse.latchOn

/-- The last result, as it is read. -/
theorem State.setResult_reads : (s.setResult h code cand iter unsat data).rd .CHAN_LAST_RESULT h = code % 2 ^ 4 ∧
    (s.setResult h code cand iter unsat data).rd .CHAN_LAST_ITER h = iter % 2 ^ 8 := by
  unfold State.setResult
  dsimp only
  simp only [State.latchOn, State.rd_setHse, State.rd_setChan, State.rd_wr_same,
    State.rd_wr_ne _ _ (show Reg.CHAN_LAST_RESULT ≠ Reg.CHAN_LAST_UNSAT by decide),
    State.rd_wr_ne _ _ (show Reg.CHAN_LAST_RESULT ≠ Reg.CHAN_LAST_ITER by decide),
    State.rd_wr_ne _ _ (show Reg.CHAN_LAST_RESULT ≠ Reg.CHAN_LAST_CAND by decide),
    State.rd_wr_ne _ _ (show Reg.CHAN_LAST_ITER ≠ Reg.CHAN_LAST_UNSAT by decide)]
  exact ⟨rfl, rfl⟩

theorem State.hse_setResult : (s.setResult h code cand iter unsat data).hse h =
    { s.hse h with dgood := decide (code ≤ 1), latch := setBitN (s.hse h).latch latDdone true } := by
  simp [State.setResult, State.latchOn]

theorem State.chan_setResult : (s.setResult h code cand iter unsat data).chan h = { s.chan h with res := data } := by
  simp [State.setResult, State.latchOn]

/-- What a read frame's end does beside the result's fields: the counters, and vector 12 with its event. -/
theorem State.readEnd_within : (s.setResult h code cand iter unsat data).Within (s.readEnd h code cand iter unsat data f) h
    (.HSE_TPEND_PEND :: countRegs) [.ev] (fun _ => False) := by
  rw [State.readEnd_eq]
  have w : (s.setResult h code cand iter unsat data).Within ((s.setResult h code cand iter unsat data).readCounts h code) h
      (.HSE_TPEND_PEND :: countRegs) [.ev] (fun _ => False) := (State.readCounts_within _ h code).mono
  exact .ite w w.raise.pends

theorem State.readCounts_tables (v : State) : (v.readCounts h code).hse h = v.hse h ∧ (v.readCounts h code).chan h = v.chan h := by
  unfold State.readCounts
  dsimp only
  split
  · exact ⟨rfl, rfl⟩
  split
  · exact ⟨rfl, rfl⟩
  split
  · exact ⟨rfl, rfl⟩
  split <;> exact ⟨rfl, rfl⟩

/-- The engine and the channel after a read frame's end. -/
theorem State.readEnd_tables : (s.readEnd h code cand iter unsat data f).hse h =
      { s.hse h with dgood := decide (code ≤ 1), latch := setBitN (s.hse h).latch latDdone true } ∧
    (s.readEnd h code cand iter unsat data f).chan h = { s.chan h with res := data } := by
  obtain ⟨hh, hc⟩ := (s.setResult h code cand iter unsat data).readCounts_tables h code
  rw [← s.hse_setResult h code cand iter unsat data, ← s.chan_setResult h code cand iter unsat data, State.readEnd_eq]
  dsimp only
  split
  · exact ⟨hh, hc⟩
  · rw [State.cause_pends _ h (by decide), State.hse_wrBit, State.chan_wrBit, State.frameFailed, State.hse_raise, State.chan_raise]
    exact ⟨hh, hc⟩

theorem State.readEnd_result (hc : code < 16) : (s.readEnd h code cand iter unsat data f).rd .CHAN_LAST_RESULT h = code ∧
    (s.readEnd h code cand iter unsat data f).rd .CHAN_LAST_ITER h = iter % 2 ^ 8 := by
  have w := s.readEnd_within h code cand iter unsat data f
  obtain ⟨r, i⟩ := s.setResult_reads h code cand iter unsat data
  exact ⟨((w.rd .CHAN_LAST_RESULT h).trans r).trans (Nat.mod_eq_of_lt hc), (w.rd .CHAN_LAST_ITER h).trans i⟩

/-- A frame that fails takes vector 12 and raises event 6h + 3. -/
theorem State.readEnd_fails (hc : 2 ≤ code) :
    (s.readEnd h code cand iter unsat data f).rdBit .HSE_TPEND_PEND 12 h = true ∧
    s.raised (s.readEnd h code cand iter unsat data f) (6 * h + 3) := by
  rw [State.readEnd_eq]
  dsimp only
  rw [if_neg (by omega)]
  refine ⟨State.cause_pending _ h (by decide) (by decide), ?_⟩
  have w := (s.setResult_within h code cand iter unsat data).mono.andThen (State.readCounts_within _ h code)
    (F := resultRegs ++ countRegs) (P := [])
  have g : s.Raising [] ((s.setResult h code cand iter unsat data).readCounts h code) := .of_eq (w.same .ev)
  have r : s.raised (((s.setResult h code cand iter unsat data).readCounts h code).frameFailed h code cand iter unsat f) (6 * h + 3) :=
    g.raised (w.same .rst) (by simp; omega)
  rw [State.cause_pends _ h (by decide)]
  exact r.after (State.Raising.of_eq (l := []) rfl) (by simp)

/-- The counters of a frame without its mark, and of one that does not decode. -/
theorem State.readEnd_counts : (code = 2 → (s.readEnd h code cand iter unsat data f).rd .CHAN_NNOSYNC_COUNT h =
      (s.rd .CHAN_NNOSYNC_COUNT h + 1) % 2 ^ 32) ∧
    (code = 3 → (s.readEnd h code cand iter unsat data f).rd .CHAN_NDEC_COUNT h = (s.rd .CHAN_NDEC_COUNT h + 1) % 2 ^ 32) := by
  have w := s.setResult_within h code cand iter unsat data
  rw [State.readEnd_eq]
  constructor
  all_goals
    intro hc
    subst hc
    dsimp only
    rw [if_neg (by omega), State.cause_pends _ h (by decide), State.wrBit, State.rd_wr_ne _ _ (by decide), State.frameFailed, State.rd_raise]
    unfold State.readCounts
    simp only [State.wrapAdd]
    norm_num
    rw [State.rd_wr_ne _ _ (by decide)]
  · rw [w.rd .CHAN_NNOSYNC_COUNT h]
    rfl
  · rw [w.rd .CHAN_NDEC_COUNT h]
    rfl

end

/-- What the end of a frame read writes of its head. -/
def endRegs : List Reg := .HSE_TPEND_PEND :: .CHAN_ITH_COUNT :: resultRegs ++ countRegs

/-- Only what the end of a frame read writes of head h differs. -/
abbrev State.Ends (s t : State) (h : Nat) : Prop := s.Within t h endRegs [.ev] (fun _ => False)

theorem State.Within.setResult {code cand iter unsat : Nat} {data : List Byte} (w : s.Ends u h) :
    s.Ends (u.setResult h code cand iter unsat data) h := w.andThen (u.setResult_within h code cand iter unsat data)

theorem State.Within.readEnd {code cand iter unsat : Nat} {data : List Byte} {f : RFrame} (w : s.Ends u h) :
    s.Ends (u.readEnd h code cand iter unsat data f) h :=
  w.setResult.andThen (u.readEnd_within h code cand iter unsat data f)

/-! ### The sync search -/

/-- A mark that counts is one more candidate, and the first latches SYNC. -/
def State.markFound (s : State) (h : Nat) (f : RFrame) (pos : Nat) : State :=
  let c := s.chan h
  let s := s.setChan h { c with rf := c.rf.dropLast ++ [{ f with cands := f.cands ++ [pos] }] }
  if f.cands.isEmpty then s.latchOn h latSync else s

/-- The mark lies where one is looked for. -/
def State.markTaken (s : State) (h : Nat) (f : RFrame) (pos dist : Nat) : Bool :=
  (s.chan h).reading && (s.chan h).lost.isNone && !f.closed && s.dataTime h && decide (104 ≤ pos) && decide (pos ≤ 152) &&
    decide (dist ≤ s.rd .CHAN_FRM_MARK_TOL h) && decide (f.cands.length < 4) && f.cands.all (fun x => decide (x < pos))

theorem exec_syncMarkFound_eq (h : Head) {f : RFrame} (pos dist : Nat) (hf : (s.chan h).rf.getLast? = some f) :
    exec (.syncMarkFound h pos dist) s = .next (s.on (s.markTaken h f pos dist) (fun s => s.markFound h f pos)) := by
  show execSyncMarkFound h pos dist s = _
  unfold execSyncMarkFound
  dsimp only
  rw [hf]
  rfl

theorem exec_syncMarkFound_none (h : Head) (pos dist : Nat) (hf : (s.chan h).rf.getLast? = none) :
    exec (.syncMarkFound h pos dist) s = .next s := by
  show execSyncMarkFound h pos dist s = _
  unfold execSyncMarkFound
  dsimp only
  rw [hf]

theorem exec_syncMarkFound (h : Head) (f : RFrame) (pos dist : Nat) (hf : (s.chan h).rf.getLast? = some f)
    (hr : (s.chan h).reading = true) (hl : (s.chan h).lost = none) (hc : f.closed = false) (hd : s.dataTime h = true) :
    ∃ t, exec (.syncMarkFound h pos dist) s = .next t ∧
      (104 ≤ pos → pos ≤ 152 → dist ≤ s.rd .CHAN_FRM_MARK_TOL h → f.cands.length < 4 → (∀ x ∈ f.cands, x < pos) →
        (t.chan h).rf = (s.chan h).rf.dropLast ++ [{ f with cands := f.cands ++ [pos] }] ∧
        (f.cands = [] → (t.hse h).latch.testBit latSync = true)) ∧
      (pos < 104 ∨ 152 < pos ∨ s.rd .CHAN_FRM_MARK_TOL h < dist ∨ 4 ≤ f.cands.length → t = s) := by
  refine ⟨_, exec_syncMarkFound_eq h pos dist hf, fun a b c d e => ?_, fun x => ?_⟩
  · have ht : s.markTaken h f pos dist = true := by
      simpa [State.markTaken, hr, hl, hc, hd, a, b, c, d] using e
    rw [State.on_true ht, State.markFound]
    split
    next he => exact ⟨by simp [State.latchOn], fun _ => State.latchOn_latch ..⟩
    next he => exact ⟨by simp, fun hn => absurd (by simp [hn]) he⟩
  · refine State.on_false ?_
    simp only [State.markTaken, Bool.and_eq_false_iff, decide_eq_false_iff_not]
    omega

/-- Without a read, or outside data time, no mark is found. -/
theorem exec_syncMarkFound_off (h : Head) (pos dist : Nat) (hx : (s.chan h).reading = false ∨ s.dataTime h = false) :
    exec (.syncMarkFound h pos dist) s = .next s := by
  cases hf : (s.chan h).rf.getLast? with
  | none => exact exec_syncMarkFound_none h pos dist hf
  | some f =>
    rw [exec_syncMarkFound_eq h pos dist hf]
    refine next_off ?_
    rcases hx with e | e <;> simp [State.markTaken, e]

theorem exec_syncMarkFound_reads (h : Head) (pos dist : Nat) (e : exec (.syncMarkFound h pos dist) s = .next t) : s.Reads t h := by
  have r := State.Within.refl s h readRegs [.ev, .free] (fun _ => False)
  cases hf : (s.chan h).rf.getLast? with
  | none =>
    rw [exec_syncMarkFound_none h pos dist hf] at e
    injection e with e
    exact e ▸ r
  | some f =>
    rw [exec_syncMarkFound_eq h pos dist hf] at e
    exact .on e (.ite r.setChan.latchOn r.setChan)

/-- A frame without its mark is lost. -/
def State.frameLost (s : State) (h : Nat) (f : RFrame) : State :=
  let s := (s.setChan h { s.chan h with rf := (s.chan h).rf.dropLast }).latchOn h latNosync
  let s := s.readEnd h 2 0 0 0 (erasureMark 2 0 0 0 f []) f
  s.setChan h { s.chan h with lost := some { f with closed := true } }

/-- The sync search of a frame ends. -/
def State.searchEnd (s : State) (h : Nat) (f : RFrame) : State :=
  if f.cands.isEmpty then s.frameLost h f
  else s.setChan h { s.chan h with rf := (s.chan h).rf.dropLast ++ [{ f with closed := true }] }

theorem exec_syncWindowClose_eq (h : Head) {f : RFrame} (hf : (s.chan h).rf.getLast? = some f) :
    exec (.syncWindowClose h) s = .next (s.on ((s.chan h).reading && (s.chan h).lost.isNone && !f.closed && s.dataTime h)
      (fun s => s.searchEnd h f)) := by
  show execSyncWindowClose h s = _
  unfold execSyncWindowClose
  dsimp only
  rw [hf]
  rfl

theorem exec_syncWindowClose_none (h : Head) (hf : (s.chan h).rf.getLast? = none) : exec (.syncWindowClose h) s = .next s := by
  show execSyncWindowClose h s = _
  unfold execSyncWindowClose
  dsimp only
  rw [hf]

theorem exec_syncWindowClose_off (h : Head) (hx : (s.chan h).reading = false ∨ s.dataTime h = false) :
    exec (.syncWindowClose h) s = .next s := by
  cases hf : (s.chan h).rf.getLast? with
  | none => exact exec_syncWindowClose_none h hf
  | some f =>
    rw [exec_syncWindowClose_eq h hf]
    refine next_off ?_
    rcases hx with e | e <;> simp [e]

theorem exec_syncWindowClose_reads (h : Head) (e : exec (.syncWindowClose h) s = .next t) : s.Reads t h := by
  have r := State.Within.refl s h readRegs [.ev, .free] (fun _ => False)
  cases hf : (s.chan h).rf.getLast? with
  | none =>
    rw [exec_syncWindowClose_none h hf] at e
    injection e with e
    exact e ▸ r
  | some f =>
    rw [exec_syncWindowClose_eq h hf] at e
    have l : s.Reads ((s.setChan h { s.chan h with rf := (s.chan h).rf.dropLast }).latchOn h latNosync) h := r.setChan.latchOn
    exact .on e (.ite (l.andThen (State.Within.refl ..).readEnd).setChan r.setChan)

theorem exec_syncWindowClose (h : Head) (f : RFrame) (hf : (s.chan h).rf.getLast? = some f) (hr : (s.chan h).reading = true)
    (hl : (s.chan h).lost = none) (hc : f.closed = false) (hd : s.dataTime h = true) :
    ∃ t, exec (.syncWindowClose h) s = .next t ∧
      (f.cands ≠ [] → (t.chan h).rf = (s.chan h).rf.dropLast ++ [{ f with closed := true }]) ∧
      (f.cands = [] → t.rd .CHAN_LAST_RESULT h = 2 ∧ (t.hse h).latch.testBit latNosync = true ∧ (t.hse h).latch.testBit latDdone = true ∧
        (t.hse h).dgood = false ∧ t.rdBit .HSE_TPEND_PEND 12 h = true ∧ s.raised t (6 * h + 3) ∧ (t.chan h).rf = (s.chan h).rf.dropLast ∧
        t.rd .CHAN_NNOSYNC_COUNT h = (s.rd .CHAN_NNOSYNC_COUNT h + 1) % 2 ^ 32) := by
  refine ⟨_, (exec_syncWindowClose_eq h hf).trans (next_on (by simp [hr, hl, hc, hd])), fun hn => ?_, fun hn => ?_⟩
  · rw [State.searchEnd, if_neg (by simpa using hn)]
    simp
  · rw [State.searchEnd, if_pos (by simp [hn]), State.frameLost]
    generalize hv : (s.setChan h { s.chan h with rf := (s.chan h).rf.dropLast }).latchOn h latNosync = v
    dsimp only
    have hh : v.hse h = { s.hse h with latch := setBitN (s.hse h).latch latNosync true } := by rw [← hv]; simp [State.latchOn]
    have hrf : (v.chan h).rf = (s.chan h).rf.dropLast := by rw [← hv]; simp [State.latchOn]
    have hn2 : v.rd .CHAN_NNOSYNC_COUNT h = s.rd .CHAN_NNOSYNC_COUNT h := by rw [← hv]; rfl
    obtain ⟨result, _⟩ := v.readEnd_result h 2 0 0 0 (erasureMark 2 0 0 0 f []) f (by decide)
    obtain ⟨engine, channel⟩ := v.readEnd_tables h 2 0 0 0 (erasureMark 2 0 0 0 f []) f
    obtain ⟨pends, raised⟩ := v.readEnd_fails h 2 0 0 0 (erasureMark 2 0 0 0 f []) f (by decide)
    obtain ⟨count, _⟩ := v.readEnd_counts h 2 0 0 0 (erasureMark 2 0 0 0 f []) f
    have raised' : s.raised (v.readEnd h 2 0 0 0 (erasureMark 2 0 0 0 f []) f) (6 * h + 3) := by
      rw [← hv] at raised ⊢
      exact raised
    rw [State.hse_setChan, State.chan_setChan_same, engine, channel, hh]
    exact ⟨result, by simp [testBit_setBitN], by simp [testBit_setBitN], rfl, pends, raised', hrf, (count rfl).trans (by rw [hn2])⟩

/-! ### Decoding -/

/-- A frame's estimate is made once. -/
theorem State.frameSnr_frame (s : State) (h : Nat) (f : RFrame) (n : Nat) :
    (s.frameSnr h f n).1 = { f with snr := some (f.snr.getD n) } := by
  unfold State.frameSnr
  cases e : f.snr with
  | none => rfl
  | some x =>
    cases f
    simp_all

theorem State.frameSnr_kept {f : RFrame} (n : Nat) (e : f.snr ≠ none) : (s.frameSnr h f n).2 = s := by
  unfold State.frameSnr
  split
  · rfl
  next c => exact absurd c e

theorem State.frameSnr_made {f : RFrame} (n : Nat) (e : f.snr = none) : (s.frameSnr h f n).2 =
    (s.setChan h ((s.chan h).known { f with snr := some n })).snrNote h n := by
  unfold State.frameSnr
  rw [e]

theorem State.snrNote_within (s : State) (h n : Nat) : s.Within (s.snrNote h n) h [.CHAN_SNR_LAST, .CHAN_SNR_AVG] [] (fun _ => False) := by
  unfold State.snrNote
  exact (State.Within.refl ..).setChan.wr.wr

theorem State.frameSnr_within (s : State) (h : Nat) (f : RFrame) (n : Nat) :
    s.Within (s.frameSnr h f n).2 h [.CHAN_SNR_LAST, .CHAN_SNR_AVG] [] (fun _ => False) := by
  by_cases e : f.snr = none
  · rw [State.frameSnr_made n e]
    exact (State.Within.refl s h [.CHAN_SNR_LAST, .CHAN_SNR_AVG] [] (fun _ => False)).setChan.trans (State.snrNote_within _ h n)
  · rw [State.frameSnr_kept n e]
    exact .refl ..

/-- It changes the record of the slot retained and the estimates only. -/
theorem State.frameSnr_tables (s : State) (h : Nat) (f : RFrame) (n : Nat) : (s.frameSnr h f n).2.hse h = s.hse h ∧
    ∃ k l, (s.frameSnr h f n).2.chan h = { s.chan h with kept := k, snrs := l } := by
  by_cases e : f.snr = none
  · rw [State.frameSnr_made n e]
    unfold State.snrNote
    dsimp only
    simp only [State.hse_wr, State.hse_setChan, State.chan_wr, State.chan_setChan_same]
    exact ⟨trivial, _, _, rfl⟩
  · rw [State.frameSnr_kept n e]
    exact ⟨rfl, _, _, rfl⟩

theorem State.frameSnr_last {f : RFrame} {n : Nat} (e : f.snr = none) (hn : n < 2 ^ 16) :
    (s.frameSnr h f n).2.rd .CHAN_SNR_LAST h = n := by
  rw [State.frameSnr_made n e]
  unfold State.snrNote
  dsimp only
  rw [State.rd_wr_ne _ _ (by decide), State.rd_wr_same]
  exact Nat.mod_eq_of_lt hn

/-- What a converged decode of a frame delivers. -/
def State.tagged (s : State) (h : Nat) (d : Decode) (f : RFrame) : Nat × List Byte × Bool :=
  s.converged h f f.xqi f.xns (if f.decodes = 1 then 0 else 1) f.decodes f.iters d

/-- The channel without its oldest frame, which counts for its run where it is a parity frame. -/
def State.unread (s : State) (h : Nat) (f : RFrame) (rest : List RFrame) (par : Bool) : State :=
  let c := { s.chan h with rf := rest }
  s.setChan h (if par then c.parity f else c)

/-- A converged decode ends its frame with the result that the tags give. -/
def State.decodeConverged (s : State) (h : Nat) (d : Decode) (f : RFrame) (rest : List RFrame) (used : Nat) : State :=
  let r := (s.ithNote h used).tagged h d f
  ((s.ithNote h used).unread h f rest r.2.2).readEnd h r.1 f.decodes f.iters 0 r.2.1 f

/-- What a decode makes of its frame, once the estimate is made. -/
def State.decodeOutcome (s : State) (h : Nat) (d : Decode) (f : RFrame) (rest : List RFrame) (used : Nat) (short : Bool) : State :=
  if d.conv then s.decodeConverged h d f rest used
  else if short then s.decodeFails h 4 d.unsat f rest
  else if s.bit .CHAN_CTL_GEN h && f.gambit && decide (f.decodes ≤ s.rd .CHAN_FRM_GMAX h) && decide (f.decodes < f.cands.length) &&
      decide (f.iters < 32) then
    s.setChan h { s.chan h with rf := f :: rest }
  else s.decodeFails h 3 d.unsat f rest

/-- The iterations that a decode of a frame uses. -/
def State.decodeUsed (s : State) (h : Nat) (d : Decode) (f : RFrame) : Nat :=
  let cap := min (s.rd .CHAN_FRM_ITER_MAX h) (32 - f.iters)
  if d.conv then clampIters d.iters cap else cap

theorem exec_decodeDone_eq (h : Head) (d : Decode) {f : RFrame} {rest : List RFrame} (hf : (s.chan h).rf = f :: rest) :
    exec (.decodeDone h d) s = .next (s.on ((s.chan h).decodes f rest) (fun s =>
      let r := s.frameSnr h { f with decodes := f.decodes + 1, iters := f.iters + s.decodeUsed h d f } d.snr.toNat
      r.2.decodeOutcome h d r.1 rest (s.decodeUsed h d f) (decide (32 - f.iters < s.rd .CHAN_FRM_ITER_MAX h)))) := by
  show execDecodeDone h d s = _
  unfold execDecodeDone
  dsimp only
  rw [hf]
  rfl

theorem exec_decodeDone_none (h : Head) (d : Decode) (hf : (s.chan h).rf = []) : exec (.decodeDone h d) s = .next s := by
  show execDecodeDone h d s = _
  unfold execDecodeDone
  dsimp only
  rw [hf]

theorem exec_decodeBudgetExpire_eq (h : Head) (n : Nat) (snr : W16) {f : RFrame} {rest : List RFrame} (hf : (s.chan h).rf = f :: rest) :
    exec (.decodeBudgetExpire h n snr) s = .next (s.on ((s.chan h).decodes f rest && decide (32 - f.iters ≤ s.rd .CHAN_FRM_ITER_MAX h))
      (fun s =>
        let r := s.frameSnr h { f with decodes := f.decodes + 1, iters := 32 } snr.toNat
        r.2.decodeFails h 4 n r.1 rest)) := by
  show execDecodeBudgetExpire h n snr s = _
  unfold execDecodeBudgetExpire
  dsimp only
  rw [hf]

theorem exec_decodeBudgetExpire_none (h : Head) (n : Nat) (snr : W16) (hf : (s.chan h).rf = []) :
    exec (.decodeBudgetExpire h n snr) s = .next s := by
  show execDecodeBudgetExpire h n snr s = _
  unfold execDecodeBudgetExpire
  dsimp only
  rw [hf]

theorem State.Within.ithNote {n : Nat} (w : s.Ends u h) : s.Ends (u.ithNote h n) h := .ite w.wrapAdd w

theorem State.Within.decodeFails {code n : Nat} {f : RFrame} {rest : List RFrame} (w : s.Ends u h) :
    s.Ends (u.decodeFails h code n f rest) h :=
  have e : s.Ends (u.setChan h { u.chan h with rf := rest }) h := w.setChan
  e.readEnd

theorem State.Within.decodeConverged {d : Decode} {f : RFrame} {rest : List RFrame} {used : Nat} (w : s.Ends u h) :
    s.Ends (u.decodeConverged h d f rest used) h := by
  unfold State.decodeConverged
  extract_lets r
  have hv : s.Ends ((u.ithNote h used).unread h f rest r.2.2) h := w.ithNote.setChan
  exact hv.readEnd

theorem State.Within.decodeOutcome {d : Decode} {f : RFrame} {rest : List RFrame} {used : Nat} {short : Bool} (w : s.Ends u h) :
    s.Ends (u.decodeOutcome h d f rest used short) h := by
  exact .ite w.decodeConverged (.ite w.decodeFails (.ite w.setChan w.decodeFails))

theorem exec_decodeDone_reads (h : Head) (d : Decode) (e : exec (.decodeDone h d) s = .next t) : s.Reads t h := by
  have r := State.Within.refl s h readRegs [.ev, .free] (fun _ => False)
  cases hf : (s.chan h).rf with
  | nil =>
    rw [exec_decodeDone_none h d hf] at e
    injection e with e
    exact e ▸ r
  | cons f rest =>
    rw [exec_decodeDone_eq h d hf] at e
    refine .on e ?_
    have n : s.Reads (s.frameSnr h { f with decodes := f.decodes + 1, iters := f.iters + s.decodeUsed h d f } d.snr.toNat).2 h :=
      (State.frameSnr_within ..).mono
    exact n.andThen (State.Within.refl ..).decodeOutcome

theorem exec_decodeBudgetExpire_reads (h : Head) (n : Nat) (snr : W16) (e : exec (.decodeBudgetExpire h n snr) s = .next t) :
    s.Reads t h := by
  have r := State.Within.refl s h readRegs [.ev, .free] (fun _ => False)
  cases hf : (s.chan h).rf with
  | nil =>
    rw [exec_decodeBudgetExpire_none h n snr hf] at e
    injection e with e
    exact e ▸ r
  | cons f rest =>
    rw [exec_decodeBudgetExpire_eq h n snr hf] at e
    refine .on e ?_
    have n : s.Reads (s.frameSnr h { f with decodes := f.decodes + 1, iters := 32 } snr.toNat).2 h := (State.frameSnr_within ..).mono
    exact n.andThen (State.Within.refl ..).decodeFails

end Sys2Proof.Machine
end

section
/-! PROOFS. The end of a decode, and the rows that enable a channel and decode offline (R171 to R179, R194). -/

set_option Elab.async false

namespace Sys2Proof.Machine

variable {s t u : State} {h : Nat}

/-! ### The tag checks -/

/-- An event raised after what raises none. -/
theorem State.raised_from {n : Nat} (e : u.ev = s.ev) (r : u.rst = s.rst) (x : u.raised t n) : s.raised t n := by
  intro hu
  have hu' : u.up 5 = true := by
    unfold State.up at hu ⊢
    rwa [r]
  exact e ▸ x hu'

theorem State.mrd_memSame (m : s.memSame t) (n a : Nat) : t.mrd n a = s.mrd n a := State.mrd_congr (fun x _ _ => m x)

theorem State.xq_congr (m : s.memSame t) : t.xq = s.xq := by
  funext h i n ofs
  exact State.mrd_memSame m ..

/-- The tag checks read memory only. -/
theorem State.tagResult_congr (m : s.memSame t) (h i ns k : Nat) (info : List Byte) :
    t.tagResult h i ns k info = s.tagResult h i ns k info := by
  unfold State.tagResult State.lbaOk
  rw [State.xq_congr m]

theorem State.tagResult_range (s : State) (h i ns k : Nat) (info : List Byte) (e : s.tagResult h i ns k info ≠ 0) :
    5 ≤ s.tagResult h i ns k info ∧ s.tagResult h i ns k info < 16 := by
  generalize hv : s.tagResult h i ns k info = v at *
  unfold State.tagResult at hv
  dsimp only at hv
  split_ifs at hv <;> omega

/-! ### What a decode makes of its frame -/

section
variable (v : State) (h : Nat) (d : Decode) (f : RFrame) (rest : List RFrame) (used : Nat)

theorem State.tagged_good (e : v.tagResult h f.xqi f.xns (f.k - f.pars) d.info = 0) : v.tagged h d f =
    ((if f.decodes = 1 then 0 else 1), (d.info ++ List.replicate 4128 0).take 4128, ((d.info.drop 4096).getD 9 0).toNat.testBit 3) := by
  unfold State.tagged State.converged
  exact if_pos e

theorem State.tagged_bad (e : v.tagResult h f.xqi f.xns (f.k - f.pars) d.info ≠ 0) : v.tagged h d f =
    (v.tagResult h f.xqi f.xns (f.k - f.pars) d.info, erasureMark (v.tagResult h f.xqi f.xns (f.k - f.pars) d.info) f.decodes f.iters 0 f
      (d.info.drop 4096), false) := by
  unfold State.tagged State.converged
  exact if_neg e

theorem State.tagged_congr (m : v.memSame u) : u.tagged h d f = v.tagged h d f := by
  unfold State.tagged State.converged
  simp only [State.tagResult_congr m]

theorem State.ithNote_tables : (v.ithNote h used).hse h = v.hse h ∧ (v.ithNote h used).chan h = v.chan h ∧
    v.memSame (v.ithNote h used) := by
  unfold State.ithNote
  split <;> exact ⟨rfl, rfl, fun _ => rfl⟩

theorem State.readEnd_snrs (code cand iter unsat : Nat) (data : List Byte) :
    ((v.readEnd h code cand iter unsat data f).chan h).snrs = (v.chan h).snrs := by
  rw [(v.readEnd_tables h code cand iter unsat data f).2]

theorem State.unread_snrs (par : Bool) : ((v.unread h f rest par).chan h).snrs = (v.chan h).snrs := by
  unfold State.unread
  rw [State.chan_setChan_same]
  cases par <;> rfl

/-- The estimates stay. -/
theorem State.decodeOutcome_snrs (short : Bool) : ((v.decodeOutcome h d f rest used short).chan h).snrs = (v.chan h).snrs := by
  unfold State.decodeOutcome
  split
  · rw [State.decodeConverged, State.readEnd_snrs, State.unread_snrs, (v.ithNote_tables h used).2.1]
  split
  · rw [State.decodeFails, State.readEnd_snrs, State.chan_setChan_same]
  split
  · rw [State.chan_setChan_same]
  · rw [State.decodeFails, State.readEnd_snrs, State.chan_setChan_same]

/-- A converged decode ends its frame with what the tags give. -/
theorem State.decodeConverged_ends (n : (v.tagged h d f).1 < 16) :
    (v.decodeConverged h d f rest used).rd .CHAN_LAST_RESULT h = (v.tagged h d f).1 ∧
    (v.decodeConverged h d f rest used).rd .CHAN_LAST_ITER h = f.iters % 256 ∧
    ((v.decodeConverged h d f rest used).hse h).dgood = decide ((v.tagged h d f).1 ≤ 1) ∧
    (v.decodeConverged h d f rest used).chan h = { (if (v.tagged h d f).2.2 then Chan.parity { v.chan h with rf := rest } f else
      { v.chan h with rf := rest }) with res := (v.tagged h d f).2.1 } := by
  obtain ⟨_, hc, hm⟩ := v.ithNote_tables h used
  unfold State.decodeConverged
  rw [State.tagged_congr v h d f hm]
  extract_lets r
  obtain ⟨result, iter⟩ := ((v.ithNote h used).unread h f rest r.2.2).readEnd_result h r.1 f.decodes f.iters 0 r.2.1 f n
  obtain ⟨engine, channel⟩ := ((v.ithNote h used).unread h f rest r.2.2).readEnd_tables h r.1 f.decodes f.iters 0 r.2.1 f
  refine ⟨result, iter, by rw [engine], ?_⟩
  rw [channel, State.unread, State.chan_setChan_same, hc]

/-- One whose tags fail raises its event and takes vector 12. -/
theorem State.decodeConverged_fails (n : 2 ≤ (v.tagged h d f).1) :
    (v.decodeConverged h d f rest used).rdBit .HSE_TPEND_PEND 12 h = true ∧ v.raised (v.decodeConverged h d f rest used) (6 * h + 3) := by
  obtain ⟨_, _, hm⟩ := v.ithNote_tables h used
  unfold State.decodeConverged
  rw [State.tagged_congr v h d f hm]
  extract_lets r
  have w : v.Within (v.ithNote h used) h endRegs [] (fun _ => False) := .ite (State.Within.refl ..).wrapAdd (State.Within.refl ..)
  have w' : v.Within ((v.ithNote h used).unread h f rest r.2.2) h endRegs [] (fun _ => False) := w.setChan
  obtain ⟨pends, raised⟩ := ((v.ithNote h used).unread h f rest r.2.2).readEnd_fails h r.1 f.decodes f.iters 0 r.2.1 f n
  exact ⟨pends, State.raised_from (w'.same .ev) (w'.same .rst) raised⟩

end

/-! ### DECODE_DONE -/

/-- The frame after a decode of it. -/
def State.decodedFrame (s : State) (h : Nat) (d : Decode) (f : RFrame) : RFrame :=
  { f with decodes := f.decodes + 1, iters := f.iters + s.decodeUsed h d f, snr := some (f.snr.getD d.snr.toNat) }

/-- The state once the estimate of a frame is made. -/
def State.estimated (s : State) (h : Nat) (d : Decode) (f : RFrame) : State :=
  (s.frameSnr h { f with decodes := f.decodes + 1, iters := f.iters + s.decodeUsed h d f } d.snr.toNat).2

theorem State.estimated_within (s : State) (h : Nat) (d : Decode) (f : RFrame) :
    s.Within (s.estimated h d f) h [.CHAN_SNR_LAST, .CHAN_SNR_AVG] [] (fun _ => False) := State.frameSnr_within ..

theorem State.estimated_tables (s : State) (h : Nat) (d : Decode) (f : RFrame) : (s.estimated h d f).hse h = s.hse h ∧
    ∃ k l, (s.estimated h d f).chan h = { s.chan h with kept := k, snrs := l } := State.frameSnr_tables ..

theorem State.estimated_tag (s : State) (h : Nat) (d : Decode) (f : RFrame) : (s.estimated h d f).tagResult h (s.decodedFrame h d f).xqi (s.decodedFrame h d f).xns
    ((s.decodedFrame h d f).k - (s.decodedFrame h d f).pars) d.info = s.tagResult h f.xqi f.xns (f.k - f.pars) d.info :=
  State.tagResult_congr (fun x => (s.estimated_within h d f).mem x id) ..

theorem exec_decodeDone_next (h : Head) (d : Decode) {f : RFrame} {rest : List RFrame} (hf : (s.chan h).rf = f :: rest)
    (hd : (s.chan h).decodes f rest = true) : exec (.decodeDone h d) s = .next ((s.estimated h d f).decodeOutcome h d
      (s.decodedFrame h d f) rest (s.decodeUsed h d f) (decide (32 - f.iters < s.rd .CHAN_FRM_ITER_MAX h))) := by
  rw [exec_decodeDone_eq h d hf, State.on_true hd]
  dsimp only
  rw [State.frameSnr_frame]
  rfl

/-- The estimate after a decode is the one made, or the one from before. -/
theorem exec_decodeDone_snr (h : Head) (d : Decode) {f : RFrame} {rest : List RFrame} (hf : (s.chan h).rf = f :: rest)
    (hd : (s.chan h).decodes f rest = true) (e : exec (.decodeDone h d) s = .next t) :
    (f.snr = none → t.rd .CHAN_SNR_LAST h = d.snr.toNat) ∧
    (f.snr ≠ none → t.rd .CHAN_SNR_LAST h = s.rd .CHAN_SNR_LAST h ∧ (t.chan h).snrs = (s.chan h).snrs) := by
  rw [exec_decodeDone_next h d hf hd] at e
  injection e with e
  have w : (s.estimated h d f).Ends t h := e ▸ (State.Within.refl ..).decodeOutcome
  have l : t.rd .CHAN_SNR_LAST h = (s.estimated h d f).rd .CHAN_SNR_LAST h := w.rd .CHAN_SNR_LAST h
  refine ⟨fun n => l.trans (State.frameSnr_last (f := { f with decodes := _, iters := _ }) n d.snr.isLt), fun n => ?_⟩
  have k : s.estimated h d f = s := State.frameSnr_kept (f := { f with decodes := _, iters := _ }) _ n
  rw [k] at l e
  refine ⟨l, ?_⟩
  rw [← e, State.decodeOutcome_snrs]

section
variable (h : Head) {d : Decode} {f : RFrame} {rest : List RFrame} (hf : (s.chan h).rf = f :: rest) (hd : (s.chan h).decodes f rest = true)
include hf hd

theorem exec_decodeDone_conv (e : exec (.decodeDone h d) s = .next t) (hc : d.conv = true) :
    t = (s.estimated h d f).decodeConverged h d (s.decodedFrame h d f) rest (s.decodeUsed h d f) := by
  rw [exec_decodeDone_next h d hf hd] at e
  injection e with e
  rw [← e, State.decodeOutcome, if_pos hc]

/-- A converged decode whose tags pass. -/
theorem exec_decodeDone_good (e : exec (.decodeDone h d) s = .next t) (hc : d.conv = true)
    (hk : s.tagResult h f.xqi f.xns (f.k - f.pars) d.info = 0) :
    t.rd .CHAN_LAST_RESULT h = (if f.decodes = 0 then 0 else 1) ∧ (t.hse h).dgood = true ∧
    (t.chan h).rf = (if ((d.info.drop 4096).getD 9 0).toNat.testBit 3 then (({ s.chan h with rf := rest } : Chan).parity f).rf else rest) ∧
    (t.chan h).res = (d.info ++ List.replicate 4128 0).take 4128 ∧ t.rd .CHAN_LAST_ITER h = (f.iters + s.decodeUsed h d f) % 256 := by
  rw [exec_decodeDone_conv h hf hd e hc]
  obtain ⟨_, k, l, chan⟩ := s.estimated_tables h d f
  have g := (s.estimated h d f).tagged_good h d (s.decodedFrame h d f) (by rw [State.estimated_tag, hk])
  have n : ((s.estimated h d f).tagged h d (s.decodedFrame h d f)).1 ≤ 1 := by
    rw [g]
    dsimp only
    split <;> decide
  obtain ⟨result, iter, good, channel⟩ := (s.estimated h d f).decodeConverged_ends h d (s.decodedFrame h d f) rest (s.decodeUsed h d f)
    (by omega)
  rw [result, iter, good, channel, chan, g]
  refine ⟨?_, ?_, ?_, rfl, rfl⟩
  · show (if f.decodes + 1 = 1 then 0 else 1) = _
    simp
  · rw [g] at n
    exact decide_eq_true n
  · dsimp only
    split <;> rfl

/-- One whose tags fail. -/
theorem exec_decodeDone_tag (e : exec (.decodeDone h d) s = .next t) (hc : d.conv = true)
    (hk : s.tagResult h f.xqi f.xns (f.k - f.pars) d.info ≠ 0) :
    t.rd .CHAN_LAST_RESULT h = s.tagResult h f.xqi f.xns (f.k - f.pars) d.info ∧ 5 ≤ s.tagResult h f.xqi f.xns (f.k - f.pars) d.info ∧
    (t.hse h).dgood = false ∧ (t.chan h).rf = rest ∧ t.rdBit .HSE_TPEND_PEND 12 h = true ∧ s.raised t (6 * h + 3) := by
  rw [exec_decodeDone_conv h hf hd e hc]
  obtain ⟨_, k, l, chan⟩ := s.estimated_tables h d f
  have w := s.estimated_within h d f
  obtain ⟨low, high⟩ := State.tagResult_range s h f.xqi f.xns (f.k - f.pars) d.info hk
  have g := (s.estimated h d f).tagged_bad h d (s.decodedFrame h d f) (by rwa [State.estimated_tag])
  rw [State.estimated_tag] at g
  obtain ⟨result, iter, good, channel⟩ := (s.estimated h d f).decodeConverged_ends h d (s.decodedFrame h d f) rest (s.decodeUsed h d f)
    (by rw [g]; exact high)
  obtain ⟨pends, raised⟩ := (s.estimated h d f).decodeConverged_fails h d (s.decodedFrame h d f) rest (s.decodeUsed h d f)
    (by rw [g]; dsimp only; omega)
  refine ⟨by rw [result, g], low, ?_, by rw [channel, g]; rfl, pends, State.raised_from (w.same .ev) (w.same .rst) raised⟩
  rw [good, g]
  exact decide_eq_false (by dsimp only; omega)

end

/-- A frame that does not decode. -/
theorem State.decodeFails_ends (v : State) (h code unsat : Nat) (f : RFrame) (rest : List RFrame) (hc : 2 ≤ code) (hc' : code < 16) :
    (v.decodeFails h code unsat f rest).rd .CHAN_LAST_RESULT h = code ∧ (v.decodeFails h code unsat f rest).rd .CHAN_LAST_ITER h = f.iters % 256 ∧
    ((v.decodeFails h code unsat f rest).hse h).dgood = false ∧ ((v.decodeFails h code unsat f rest).chan h).rf = rest ∧
    (v.decodeFails h code unsat f rest).rdBit .HSE_TPEND_PEND 12 h = true ∧
    (code = 3 → (v.decodeFails h code unsat f rest).rd .CHAN_NDEC_COUNT h = (v.rd .CHAN_NDEC_COUNT h + 1) % 2 ^ 32) := by
  unfold State.decodeFails
  generalize erasureMark code f.decodes f.iters unsat f [] = data
  obtain ⟨result, iter⟩ := (v.setChan h { v.chan h with rf := rest }).readEnd_result h code f.decodes f.iters unsat data f hc'
  obtain ⟨engine, channel⟩ := (v.setChan h { v.chan h with rf := rest }).readEnd_tables h code f.decodes f.iters unsat data f
  obtain ⟨pends, _⟩ := (v.setChan h { v.chan h with rf := rest }).readEnd_fails h code f.decodes f.iters unsat data f hc
  obtain ⟨_, count⟩ := (v.setChan h { v.chan h with rf := rest }).readEnd_counts h code f.decodes f.iters unsat data f
  rw [engine, channel, State.chan_setChan_same]
  exact ⟨result, iter, decide_eq_false (by omega), rfl, pends, count⟩

section
variable (h : Head) {d : Decode} {f : RFrame} {rest : List RFrame} (hf : (s.chan h).rf = f :: rest) (hd : (s.chan h).decodes f rest = true)
include hf hd

/-- A decode that fails on what the frame's budget leaves. -/
theorem exec_decodeDone_short (e : exec (.decodeDone h d) s = .next t) (hc : d.conv = false)
    (hs : 32 - f.iters < s.rd .CHAN_FRM_ITER_MAX h) : t.rd .CHAN_LAST_RESULT h = 4 ∧ (t.hse h).dgood = false ∧ (t.chan h).rf = rest ∧
    t.rdBit .HSE_TPEND_PEND 12 h = true := by
  rw [exec_decodeDone_next h d hf hd] at e
  injection e with e
  rw [← e, State.decodeOutcome, if_neg (by simp [hc]), if_pos (by simpa using hs)]
  obtain ⟨result, _, good, frames, pends, _⟩ := (s.estimated h d f).decodeFails_ends h 4 d.unsat (s.decodedFrame h d f) rest (by decide) (by decide)
  exact ⟨result, good, frames, pends⟩

/-- The gambit allows another decode of a frame. -/
def State.gambles (s : State) (h : Nat) (d : Decode) (f : RFrame) : Bool :=
  s.bit .CHAN_CTL_GEN h && f.gambit && decide (f.decodes + 1 ≤ s.rd .CHAN_FRM_GMAX h) && decide (f.decodes + 1 < f.cands.length) &&
    decide (f.iters + s.decodeUsed h d f < 32)

/-- Another decode that fails goes on where the gambit allows, and else ends its frame. -/
theorem exec_decodeDone_fails (e : exec (.decodeDone h d) s = .next t) (hc : d.conv = false)
    (hs : s.rd .CHAN_FRM_ITER_MAX h ≤ 32 - f.iters) : (s.gambles h d f = true → t.rd .CHAN_LAST_RESULT h = s.rd .CHAN_LAST_RESULT h ∧
      t.hse h = s.hse h ∧ (t.chan h).rf = s.decodedFrame h d f :: rest) ∧
    (s.gambles h d f = false → t.rd .CHAN_LAST_RESULT h = 3 ∧ (t.hse h).dgood = false ∧ (t.chan h).rf = rest ∧
      t.rdBit .HSE_TPEND_PEND 12 h = true ∧ t.rd .CHAN_NDEC_COUNT h = (s.rd .CHAN_NDEC_COUNT h + 1) % 2 ^ 32) := by
  rw [exec_decodeDone_next h d hf hd] at e
  injection e with e
  have w := s.estimated_within h d f
  have g : ((s.estimated h d f).bit .CHAN_CTL_GEN h && (s.decodedFrame h d f).gambit &&
      decide ((s.decodedFrame h d f).decodes ≤ (s.estimated h d f).rd .CHAN_FRM_GMAX h) &&
      decide ((s.decodedFrame h d f).decodes < (s.decodedFrame h d f).cands.length) &&
      decide ((s.decodedFrame h d f).iters < 32)) = s.gambles h d f := by
    rw [w.bit .CHAN_CTL_GEN h, w.rd .CHAN_FRM_GMAX h]
    rfl
  rw [State.decodeOutcome, if_neg (by simp [hc]), if_neg (by simpa using hs), g] at e
  constructor
  · intro m
    rw [if_pos m] at e
    rw [← e]
    exact ⟨w.rd .CHAN_LAST_RESULT h, (s.estimated_tables h d f).1, by rw [State.chan_setChan_same]⟩
  · intro m
    rw [if_neg (by simp [m])] at e
    rw [← e]
    obtain ⟨result, _, good, frames, pends, count⟩ := (s.estimated h d f).decodeFails_ends h 3 d.unsat (s.decodedFrame h d f) rest
      (by decide) (by decide)
    exact ⟨result, good, frames, pends, by rw [count rfl, w.rd .CHAN_NDEC_COUNT h]⟩

/-- A frame whose budget is spent. -/
theorem exec_decodeBudgetExpire (n : Nat) (snr : W16) (hs : 32 - f.iters ≤ s.rd .CHAN_FRM_ITER_MAX h) :
    ∃ t, exec (.decodeBudgetExpire h n snr) s = .next t ∧ t.rd .CHAN_LAST_RESULT h = 4 ∧ t.rd .CHAN_LAST_ITER h = 32 ∧
      (t.hse h).dgood = false ∧ t.rdBit .HSE_TPEND_PEND 12 h = true ∧ (t.chan h).rf = rest := by
  refine ⟨_, (exec_decodeBudgetExpire_eq h n snr hf).trans (next_on (by simp [hd, hs])), ?_⟩
  dsimp only
  obtain ⟨result, iter, good, frames, pends, _⟩ := (s.frameSnr h { f with decodes := f.decodes + 1, iters := 32 } snr.toNat).2.decodeFails_ends
    h 4 n (s.frameSnr h { f with decodes := f.decodes + 1, iters := 32 } snr.toNat).1 rest (by decide) (by decide)
  refine ⟨result, iter.trans ?_, good, pends, frames⟩
  rw [State.frameSnr_frame]
  rfl

end

end Sys2Proof.Machine
end

section
/-! PROOFS. The offline decode, the enabling of a channel and its statistics (R174, R179, R194). -/

set_option Elab.async false

namespace Sys2Proof.Machine

variable {s t u : State} {h : Nat}

/-! ### CHAN_RDEC_GO -/

/-- A small number, as a word and back. -/
theorem signedN_wrapN_six {x : Int} (lo : -24 ≤ x) (hi : x ≤ 24) : signedN 6 (wrapN 6 x) = x := by
  unfold signedN wrapN
  norm_num
  split <;> omega

theorem signedN_clampOfs (v : Nat) : signedN 6 (clampOfs v) = max (-24) (min 24 (signedN 6 v)) :=
  signedN_wrapN_six (by omega) (by omega)

theorem clampOfs_lt (v : Nat) : clampOfs v < 2 ^ 6 := by
  show wrapN 6 (max (-24) (min 24 (signedN 6 v))) < 2 ^ 6
  unfold wrapN
  omega

/-- The fields of a write of CHAN_RDEC. -/
def State.rdecFields (s : State) (h : Nat) (v : W32) : State :=
  ((s.wr .CHAN_RDEC_OFS (clampOfs (bitsN v.toNat 0 6)) h).wr .CHAN_RDEC_ITER (max 1 (bitsN v.toNat 8 8)) h).wr .CHAN_RDEC_REDET
    (bitsN v.toNat 16 1) h

theorem State.rdecFields_reads (s : State) (h : Nat) (v : W32) :
    signedN 6 ((s.rdecFields h v).rd .CHAN_RDEC_OFS h) = max (-24) (min 24 (signedN 6 (v.toNat % 64))) ∧
    (s.rdecFields h v).rd .CHAN_RDEC_ITER h = max 1 (v.toNat / 256 % 256) ∧
    (s.rdecFields h v).rd .CHAN_RDEC_REDET h = v.toNat / 65536 % 2 := by
  unfold State.rdecFields
  refine ⟨?_, ?_, ?_⟩
  · rw [State.rd_wr_ne _ _ (by decide), State.rd_wr_ne _ _ (by decide), State.rd_wr_same]
    rw [show clampOfs (bitsN v.toNat 0 6) % 2 ^ (Reg.info .CHAN_RDEC_OFS).w = clampOfs (bitsN v.toNat 0 6) from
      Nat.mod_eq_of_lt (clampOfs_lt _), signedN_clampOfs]
    simp [bitsN]
  · rw [State.rd_wr_ne _ _ (by decide), State.rd_wr_same]
    refine Nat.mod_eq_of_lt (show max 1 (bitsN v.toNat 8 8) < 2 ^ 8 from ?_)
    unfold bitsN
    omega
  · rw [State.rd_wr_same]
    refine Nat.mod_eq_of_lt (show bitsN v.toNat 16 1 < 2 ^ 1 from ?_)
    unfold bitsN
    omega

theorem State.rdecFields_within (s : State) (h : Nat) (v : W32) :
    s.Within (s.rdecFields h v) h [.CHAN_RDEC_OFS, .CHAN_RDEC_ITER, .CHAN_RDEC_REDET] [] (fun _ => False) :=
  (((State.Within.refl ..).wr).wr).wr

theorem State.rgOpen_rdecFields (s : State) (h : Nat) (v : W32) : (s.rdecFields h v).rgOpen h = s.rgOpen h :=
  State.rgOpen_congr ((s.rdecFields_within h v).rd .HSE_STAT_GATES h)

/-- What a write of CHAN_RDEC makes of the state. -/
def State.rdecGo (s : State) (h : Nat) (v : W32) : State :=
  let u := s.rdecFields h v
  if v.toNat.testBit 17 ∧ u.up 9 then
    if u.rgOpen h || !u.bit .CHAN_STAT_SBVALID h then u.wr .CHAN_STAT_RDREF 1 h else u.wr .CHAN_STAT_RDBUSY 1 h
  else u

theorem exec_chanRdecGo_eq (h : Head) (v : W32) :
    exec (.chanRdecGo h v) s = .next (s.on (s.up 5 && s.hears (selChan h)) (fun s => s.rdecGo h v)) := rfl

theorem State.rdecGo_reads (s : State) (h : Nat) (v : W32) : s.Reads (s.rdecGo h v) h :=
  have w : s.Reads (s.rdecFields h v) h := (s.rdecFields_within h v).mono
  .ite (.ite w.wr w.wr) w

/-- The fields stay after the start. -/
theorem State.rdecGo_within (s : State) (h : Nat) (v : W32) :
    (s.rdecFields h v).Within (s.rdecGo h v) h [.CHAN_STAT_RDREF, .CHAN_STAT_RDBUSY] [] (fun _ => False) :=
  .ite (.ite (State.Within.refl ..).wr (State.Within.refl ..).wr) (.refl ..)

theorem exec_chanRdecGo (h : Head) (v : W32) (hu : s.up 5 = true) (hh : s.hears (selChan h) = true) :
    ∃ t, exec (.chanRdecGo h v) s = .next t ∧
      signedN 6 (t.rd .CHAN_RDEC_OFS h) = max (-24) (min 24 (signedN 6 (v.toNat % 64))) ∧
      t.rd .CHAN_RDEC_ITER h = max 1 (v.toNat / 256 % 256) ∧ t.rd .CHAN_RDEC_REDET h = v.toNat / 65536 % 2 ∧
      (v.toNat.testBit 17 = false ∨ s.rst.step < 9 → s.headOnly t h [.CHAN_RDEC_OFS, .CHAN_RDEC_ITER, .CHAN_RDEC_REDET] []) ∧
      (s.up 9 = true → v.toNat.testBit 17 = true → (s.rgOpen h = true ∨ s.bit .CHAN_STAT_SBVALID h = false) →
        t.rd .CHAN_STAT_RDREF h = 1 ∧ t.rd .CHAN_STAT_RDBUSY h = s.rd .CHAN_STAT_RDBUSY h) ∧
      (s.up 9 = true → v.toNat.testBit 17 = true → s.rgOpen h = false → s.bit .CHAN_STAT_SBVALID h = true →
        t.rd .CHAN_STAT_RDBUSY h = 1) := by
  refine ⟨_, (exec_chanRdecGo_eq h v).trans (next_on (by rw [hu, hh]; rfl)), ?_⟩
  have f := s.rdecFields_within h v
  have w := s.rdecGo_within h v
  obtain ⟨ofs, iter, redet⟩ := s.rdecFields_reads h v
  have hup : (s.rdecFields h v).up 9 = s.up 9 := rfl
  have hsb : (s.rdecFields h v).bit .CHAN_STAT_SBVALID h = s.bit .CHAN_STAT_SBVALID h := f.bit .CHAN_STAT_SBVALID h
  refine ⟨by rw [w.rd .CHAN_RDEC_OFS h, ofs], by rw [w.rd .CHAN_RDEC_ITER h, iter], by rw [w.rd .CHAN_RDEC_REDET h, redet],
    fun n => ?_, fun hn hg n => ?_, fun hn hg a b => ?_⟩
  · rw [State.rdecGo, if_neg]
    · exact f.headOnly
    · rintro ⟨a, b⟩
      rcases n with n | n
      · simp [n] at a
      · rw [hup] at b
        simp only [State.up, Bool.and_eq_true, decide_eq_true_eq] at b
        omega
  · rw [State.rdecGo, if_pos ⟨hg, by rwa [hup]⟩, if_pos (by rw [State.rgOpen_rdecFields, hsb]; rcases n with n | n <;> simp [n])]
    refine ⟨State.rd_wr_same .., ?_⟩
    rw [State.rd_wr_ne _ _ (by decide)]
    exact f.rd .CHAN_STAT_RDBUSY h
  · rw [State.rdecGo, if_pos ⟨hg, by rwa [hup]⟩, if_neg (by rw [State.rgOpen_rdecFields, hsb]; simp [a, b])]
    exact State.rd_wr_same ..

/-! ### OFFLINE_DECODE_DONE -/

/-- The offline decode has ended: RDBUSY falls, and REDET has made the slot's values new. -/
def State.rdecEnded (s : State) (h : Nat) : State := (s.wr .CHAN_STAT_RDBUSY 0 h).redetect h

/-- The result of an offline decode that converges is stored. -/
def State.offlineEnd (s : State) (h : Nat) (r : Nat × List Byte × Bool) (f : RFrame) (used : Nat) : State :=
  let s := (s.ithNote h used).setResult h r.1 1 used 0 r.2.1
  if r.1 = 0 then s else s.frameFailed h r.1 1 used 0 f

/-- What an offline decode makes of the frame kept. -/
def State.offline (s : State) (h : Nat) (d : Decode) (f : RFrame) (used : Nat) : State :=
  if d.conv then s.offlineEnd h (s.converged h f (s.chan h).xqi (s.chan h).xns 0 1 used d) f used
  else s.setResult h 3 1 used d.unsat (erasureMark 3 1 used d.unsat f [])

/-- The frame kept, with its estimate. -/
def RFrame.estimated (f : RFrame) (n : Nat) : RFrame := if f.cands.isEmpty then f else { f with snr := some (f.snr.getD n) }

theorem exec_offlineDecodeDone_eq (h : Head) (d : Decode) {f : RFrame} (hk : (s.chan h).kept = some f) :
    exec (.offlineDecodeDone h d) s = .next (s.on (s.bit .CHAN_STAT_RDBUSY h) (fun s => (s.rdecEnded h).offline h d (f.estimated d.snr.toNat)
      (if d.conv then clampIters d.iters (s.rd .CHAN_RDEC_ITER h) else s.rd .CHAN_RDEC_ITER h))) := by
  show execOfflineDecodeDone h d s = _
  unfold execOfflineDecodeDone
  rw [hk]
  rfl

theorem exec_offlineDecodeDone_off (h : Head) (d : Decode) (hx : (s.chan h).kept = none ∨ s.bit .CHAN_STAT_RDBUSY h = false) :
    exec (.offlineDecodeDone h d) s = .next s := by
  cases hk : (s.chan h).kept with
  | none =>
    show execOfflineDecodeDone h d s = _
    unfold execOfflineDecodeDone
    rw [hk]
  | some f =>
    rw [exec_offlineDecodeDone_eq h d hk]
    exact next_off (by simpa [hk] using hx)

theorem State.rdecEnded_within (s : State) (h : Nat) : s.Within (s.rdecEnded h) h [.CHAN_STAT_RDBUSY] [.free] (fun _ => False) := by
  have w : s.Within (s.wr .CHAN_STAT_RDBUSY 0 h) h [.CHAN_STAT_RDBUSY] [.free] (fun _ => False) := (State.Within.refl ..).wr
  unfold State.rdecEnded State.redetect
  exact .ite w.setFree.setChan w

/-- Of the channel only the slot kept is new. -/
theorem State.rdecEnded_tables (s : State) (h : Nat) : (s.rdecEnded h).rd .CHAN_STAT_RDBUSY h = 0 ∧
    ∃ k, (s.rdecEnded h).chan h = { s.chan h with kept := k } := by
  have z : (s.wr .CHAN_STAT_RDBUSY 0 h).rd .CHAN_STAT_RDBUSY h = 0 := State.rd_wr_same ..
  unfold State.rdecEnded State.redetect State.drawMany
  split
  · exact ⟨z, _, State.chan_setChan_same ..⟩
  · exact ⟨z, (s.chan h).kept, rfl⟩

/-- What an offline decode's result writes. -/
def offlineRegs : List Reg := .CHAN_ITH_COUNT :: resultRegs

theorem State.offlineEnd_stored (s : State) (h used code : Nat) (data : List Byte) :
    s.Within ((s.ithNote h used).setResult h code 1 used 0 data) h offlineRegs [] (fun _ => False) := by
  have w : s.Within (s.ithNote h used) h offlineRegs [] (fun _ => False) := .ite (State.Within.refl ..).wrapAdd (.refl ..)
  exact w.andThen (State.setResult_within ..)

theorem State.offline_within (s : State) (h : Nat) (d : Decode) (f : RFrame) (used : Nat) :
    s.Within (s.offline h d f used) h offlineRegs [.ev] (fun _ => False) := by
  unfold State.offline State.offlineEnd
  generalize s.converged h f (s.chan h).xqi (s.chan h).xns 0 1 used d = r
  have w : s.Within ((s.ithNote h used).setResult h r.1 1 used 0 r.2.1) h offlineRegs [.ev] (fun _ => False) :=
    (s.offlineEnd_stored h used r.1 r.2.1).mono
  exact .ite (.ite w w.raise) (State.setResult_within ..).mono

theorem State.setResult_latch (s : State) (h code cand iter unsat : Nat) (data : List Byte) :
    ((s.setResult h code cand iter unsat data).hse h).latch.testBit latDdone = true := by
  rw [State.hse_setResult]
  simp [testBit_setBitN]

theorem State.offlineEnd_result (s : State) (h : Nat) (r : Nat × List Byte × Bool) (f : RFrame) (used : Nat) (n : r.1 < 16) :
    (s.offlineEnd h r f used).rd .CHAN_LAST_RESULT h = r.1 ∧ ((s.offlineEnd h r f used).hse h).latch.testBit latDdone = true ∧
    (r.1 ≠ 0 → s.raised (s.offlineEnd h r f used) (6 * h + 3)) := by
  have result : ((s.ithNote h used).setResult h r.1 1 used 0 r.2.1).rd .CHAN_LAST_RESULT h = r.1 :=
    (State.setResult_reads ..).1.trans (Nat.mod_eq_of_lt n)
  have latch := (s.ithNote h used).setResult_latch h r.1 1 used 0 r.2.1
  have w := s.offlineEnd_stored h used r.1 r.2.1
  unfold State.offlineEnd
  dsimp only
  split
  next e => exact ⟨result, latch, fun c => absurd e c⟩
  next =>
    unfold State.frameFailed
    refine ⟨by rwa [State.rd_raise], by rwa [State.hse_raise], fun _ => ?_⟩
    exact (State.Raising.of_eq (l := []) (w.same .ev)).raised (w.same .rst) (by simp; omega)

theorem State.converged_code (s : State) (h : Nat) (f : RFrame) (i ns cand iter : Nat) (d : Decode) :
    (s.converged h f i ns 0 cand iter d).1 = s.tagResult h i ns (f.k - f.pars) d.info := by
  unfold State.converged
  dsimp only
  split
  next e => exact e.symm
  next => rfl

theorem State.offline_result (s : State) (h : Nat) (d : Decode) (f : RFrame) (used : Nat) :
    (s.offline h d f used).rd .CHAN_LAST_RESULT h =
      (if d.conv then s.tagResult h (s.chan h).xqi (s.chan h).xns (f.k - f.pars) d.info else 3) ∧
    ((s.offline h d f used).hse h).latch.testBit latDdone = true ∧
    (d.conv = true → s.tagResult h (s.chan h).xqi (s.chan h).xns (f.k - f.pars) d.info ≠ 0 → s.raised (s.offline h d f used) (6 * h + 3)) := by
  have code := s.converged_code h f (s.chan h).xqi (s.chan h).xns 1 used d
  unfold State.offline
  split
  next hc =>
    generalize s.converged h f (s.chan h).xqi (s.chan h).xns 0 1 used d = r at code ⊢
    have n : r.1 < 16 := by
      by_cases z : r.1 = 0
      · omega
      · rw [code] at z ⊢
        exact (State.tagResult_range _ _ _ _ _ _ z).2
    obtain ⟨result, latch, raised⟩ := s.offlineEnd_result h r f used n
    exact ⟨result.trans code, latch, fun _ z => raised (by rwa [code])⟩
  next hc => exact ⟨(State.setResult_reads ..).1, State.setResult_latch .., fun n => absurd n hc⟩

theorem RFrame.estimated_place (f : RFrame) (n : Nat) : (f.estimated n).k = f.k ∧ (f.estimated n).pars = f.pars := by
  unfold RFrame.estimated
  split <;> exact ⟨rfl, rfl⟩

theorem exec_offlineDecodeDone (h : Head) (f : RFrame) (d : Decode) (hk : (s.chan h).kept = some f) (hb : s.bit .CHAN_STAT_RDBUSY h = true) :
    ∃ t, exec (.offlineDecodeDone h d) s = .next t ∧
      t.rd .CHAN_STAT_RDBUSY h = 0 ∧ (t.hse h).latch.testBit latDdone = true ∧ t.rd .CHAN_NFRM_COUNT h = s.rd .CHAN_NFRM_COUNT h ∧
      t.rd .CHAN_LAST_RESULT h = (if d.conv then s.tagResult h (s.chan h).xqi (s.chan h).xns (f.k - f.pars) d.info else 3) ∧
      (d.conv = true → s.tagResult h (s.chan h).xqi (s.chan h).xns (f.k - f.pars) d.info ≠ 0 → s.raised t (6 * h + 3)) ∧
      t.rd .HSE_TPEND_PEND h = s.rd .HSE_TPEND_PEND h := by
  refine ⟨_, (exec_offlineDecodeDone_eq h d hk).trans (next_on hb), ?_⟩
  generalize (if d.conv then clampIters d.iters (s.rd .CHAN_RDEC_ITER h) else s.rd .CHAN_RDEC_ITER h) = used
  have e := s.rdecEnded_within h
  obtain ⟨busy, k, chan⟩ := s.rdecEnded_tables h
  have w := (s.rdecEnded h).offline_within h d (f.estimated d.snr.toNat) used
  obtain ⟨result, latch, raised⟩ := (s.rdecEnded h).offline_result h d (f.estimated d.snr.toNat) used
  obtain ⟨hk, hp⟩ := f.estimated_place d.snr.toNat
  rw [chan, hk, hp, State.tagResult_congr (s := s) (fun x => e.mem x id)] at result raised
  refine ⟨by rw [w.rd .CHAN_STAT_RDBUSY h, busy], latch, by rw [w.rd .CHAN_NFRM_COUNT h, e.rd .CHAN_NFRM_COUNT h], result,
    fun a b => State.raised_from (e.same .ev) (e.same .rst) (raised a b), by rw [w.rd .HSE_TPEND_PEND h, e.rd .HSE_TPEND_PEND h]⟩

theorem exec_offlineDecodeDone_reads (h : Head) (d : Decode) (e : exec (.offlineDecodeDone h d) s = .next t) : s.Reads t h := by
  cases hk : (s.chan h).kept with
  | none =>
    rw [exec_offlineDecodeDone_off h d (.inl hk)] at e
    injection e with e
    exact e ▸ .refl ..
  | some f =>
    rw [exec_offlineDecodeDone_eq h d hk] at e
    have w : s.Reads (s.rdecEnded h) h := (s.rdecEnded_within h).mono
    exact .on e (w.andThen (State.offline_within ..))

/-! ### Enabling and statistics -/

theorem exec_chanEnable_eq (h : Head) : exec (.chanEnable h) s = .next (s.on (s.up 5 && s.hears (selChan h)) (fun s =>
    if s.up 9 then s.setChan h { s.chan h with check := true } else s.wr .CHAN_CTL_EN 1 h)) := rfl

theorem exec_chanEnable_reads (h : Head) (e : exec (.chanEnable h) s = .next t) : s.Reads t h := by
  rw [exec_chanEnable_eq] at e
  exact .on e (.ite (State.Within.refl ..).setChan (State.Within.refl ..).wr)

theorem State.up_mono {k n : Nat} (hn : s.up n = true) (hk : k ≤ n := by decide) : s.up k = true := by
  unfold State.up at hn ⊢
  simp only [Bool.and_eq_true, decide_eq_true_eq] at hn ⊢
  exact ⟨hk.trans hn.1, hn.2⟩

theorem State.up_false {n : Nat} (hn : s.rst.step < n) : s.up n = false := by
  unfold State.up
  rw [decide_eq_false (by omega), Bool.false_and]

/-- From step 9 on the base matrix check starts. -/
theorem exec_chanEnable (h : Head) (hu : s.up 9 = true) (hh : s.hears (selChan h) = true) :
    ∃ t, exec (.chanEnable h) s = .next t ∧ (t.chan h).check = true ∧ s.headOnly t h [] [] := by
  refine ⟨_, (exec_chanEnable_eq h).trans (next_on (by rw [State.up_mono hu, hh]; rfl)), ?_⟩
  rw [if_pos hu]
  have w : s.Within (s.setChan h { s.chan h with check := true }) h [] [] (fun _ => False) := (State.Within.refl ..).setChan
  exact ⟨by rw [State.chan_setChan_same], w.headOnly⟩

/-- Before it the value waits. -/
theorem exec_chanEnable_waits (h : Head) (hu : s.up 5 = true) (hs : s.rst.step < 9) (hh : s.hears (selChan h) = true) :
    ∃ t, exec (.chanEnable h) s = .next t ∧ t.rd .CHAN_CTL_EN h = 1 ∧ s.headOnly t h [.CHAN_CTL_EN] [] ∧ t.chan h = s.chan h := by
  refine ⟨_, (exec_chanEnable_eq h).trans (next_on (by rw [hu, hh]; rfl)), ?_⟩
  rw [if_neg (by simp [State.up_false hs])]
  have w : s.Within (s.wr .CHAN_CTL_EN 1 h) h [.CHAN_CTL_EN] [] (fun _ => False) := (State.Within.refl ..).wr
  exact ⟨State.rd_wr_same .., w.headOnly, by rw [State.chan_wr]⟩

/-- The fields that the base matrix check sets. -/
def State.matrixFields (s : State) (h en ena bad : Nat) : State :=
  (((s.setChan h { s.chan h with check := false }).wr .CHAN_CTL_EN en h).wr .CHAN_STAT_ENA ena h).wr .CHAN_STAT_HBAD bad h

theorem State.matrixFields_within (s : State) (h en ena bad : Nat) :
    s.Within (s.matrixFields h en ena bad) h [.CHAN_CTL_EN, .CHAN_STAT_ENA, .CHAN_STAT_HBAD] [] (fun _ => False) :=
  ((((State.Within.refl ..).setChan).wr).wr).wr

theorem State.matrixFields_reads (s : State) (h en ena bad : Nat) (he : en < 2) (ha : ena < 2) (hb : bad < 2) :
    (s.matrixFields h en ena bad).rd .CHAN_CTL_EN h = en ∧ (s.matrixFields h en ena bad).rd .CHAN_STAT_ENA h = ena ∧
    (s.matrixFields h en ena bad).rd .CHAN_STAT_HBAD h = bad ∧ ((s.matrixFields h en ena bad).chan h).check = false := by
  unfold State.matrixFields
  refine ⟨?_, ?_, ?_, by simp⟩
  · rw [State.rd_wr_ne _ _ (by decide), State.rd_wr_ne _ _ (by decide), State.rd_wr_same]
    exact Nat.mod_eq_of_lt he
  · rw [State.rd_wr_ne _ _ (by decide), State.rd_wr_same]
    exact Nat.mod_eq_of_lt ha
  · rw [State.rd_wr_same]
    exact Nat.mod_eq_of_lt hb

theorem exec_baseMatrixCheckDone_eq (h : Head) : exec (.baseMatrixCheckDone h) s = .next (s.on (s.chan h).check (fun s =>
    if matrixGood (s.matrixRaw h) then s.matrixFields h 1 1 0 else (s.matrixFields h 0 0 1).raise (6 * h + 5) [(1, 2)])) := rfl

theorem exec_baseMatrixCheckDone_reads (h : Head) (e : exec (.baseMatrixCheckDone h) s = .next t) : s.Reads t h := by
  rw [exec_baseMatrixCheckDone_eq] at e
  have w (en ena bad : Nat) : s.Reads (s.matrixFields h en ena bad) h := (s.matrixFields_within h en ena bad).mono
  exact .on e (.ite (w ..) (w ..).raise)

theorem exec_baseMatrixCheckDone (h : Head) (hc : (s.chan h).check = true) :
    ∃ t, exec (.baseMatrixCheckDone h) s = .next t ∧ (t.chan h).check = false ∧
      (matrixGood (s.matrixRaw h) = true → t.rd .CHAN_CTL_EN h = 1 ∧ t.rd .CHAN_STAT_ENA h = 1 ∧ t.rd .CHAN_STAT_HBAD h = 0) ∧
      (matrixGood (s.matrixRaw h) = false → t.rd .CHAN_CTL_EN h = 0 ∧ t.rd .CHAN_STAT_ENA h = 0 ∧ t.rd .CHAN_STAT_HBAD h = 1 ∧
        s.recorded t (6 * h + 5) [(1, 2)]) := by
  refine ⟨_, (exec_baseMatrixCheckDone_eq h).trans (next_on hc), ?_⟩
  obtain ⟨en, ena, bad, check⟩ := s.matrixFields_reads h 1 1 0 (by decide) (by decide) (by decide)
  obtain ⟨en', ena', bad', check'⟩ := s.matrixFields_reads h 0 0 1 (by decide) (by decide) (by decide)
  have w := s.matrixFields_within h 0 0 1
  cases hm : matrixGood (s.matrixRaw h) with
  | true =>
    rw [if_pos rfl]
    exact ⟨check, fun _ => ⟨en, ena, bad⟩, fun n => absurd n (by decide)⟩
  | false =>
    rw [if_neg (by decide)]
    refine ⟨by rwa [State.chan_raise], fun n => absurd n (by decide), fun _ => ⟨by rwa [State.rd_raise], by rwa [State.rd_raise],
      by rwa [State.rd_raise], ?_⟩⟩
    have r : (s.matrixFields h 0 0 1).rst = s.rst := w.same .rst
    have u5 : (s.matrixFields h 0 0 1).up 5 = s.up 5 := by rw [State.up, State.up, r]
    exact State.recorded_raise (by omega) u5 (w.same .ev) (w.bit .EVC_REC_EN (6 * h + 5)) (w.rd .EREC_OPTIME_OPTIME)
      (w.rd .EREC_PCYC_PCYC) rfl

/-- The counters that CLRSTAT clears one at a time. -/
def clearedRegs : List Reg :=
  [.CHAN_NFRM_COUNT, .CHAN_NGAMB_COUNT, .CHAN_NNOSYNC_COUNT, .CHAN_NDEC_COUNT, .CHAN_NTAG_COUNT, .CHAN_NWR_COUNT]

/-- Entries of a field, cleared. -/
def State.clearEntries (s : State) (r : Reg) (h n : Nat) : State := (List.range n).foldl (fun s b => s.wr r 0 h b) s

theorem exec_clrstat_eq (h : Head) : exec (.clrstat h) s = .next (s.on (s.up 9 && s.hears (selChan h)) (fun s =>
    ((clearedRegs.foldl (fun s r => s.wr r 0 h) s).clearEntries .CHAN_ITH_COUNT h 8).clearEntries .CHAN_WAFRM_COUNT h 4)) := rfl

theorem State.rd_foldl_zero {α : Type} (f : α → Reg × Nat) (h : Nat) (l : List α) (r : Reg) (j : Nat) (s : State)
    (m : (r, j) ∈ l.map f ∨ s.rd r h j = 0) : (l.foldl (fun s a => s.wr (f a).1 0 h (f a).2) s).rd r h j = 0 := by
  induction l generalizing s with
  | nil => simpa using m
  | cons a l ih =>
    refine ih _ ?_
    by_cases e : (r, j) = f a
    · refine .inr ?_
      dsimp only
      rw [← e, State.rd_wr_same]
      exact Nat.zero_mod _
    · refine m.imp (fun m => ?_) (fun z => ?_)
      · exact (List.mem_cons.1 m).resolve_left e
      · rw [State.rd, State.rdW_wr_key, ← State.rd, z]
        rintro c
        obtain ⟨rfl, -, rfl⟩ := RKey.mk.inj c
        exact e rfl

theorem State.clearEntries_zero (s : State) (r : Reg) (h n j : Nat) (hj : j < n) : (s.clearEntries r h n).rd r h j = 0 :=
  State.rd_foldl_zero (fun b => (r, b)) h (List.range n) r j s (.inl (List.mem_map_of_mem (List.mem_range.2 hj)))

theorem State.Within.clearEntries {r : Reg} {n : Nat} {F : List Reg} {P : List Part} {M : Nat → Prop} (w : s.Within u h F P M)
    (hr : r ∈ F := by decide) : s.Within (u.clearEntries r h n) h F P M := .foldl (fun _ _ w => w.wr hr) w

theorem exec_clrstat (h : Head) (hu : s.up 9 = true) (hh : s.hears (selChan h) = true) :
    ∃ t, exec (.clrstat h) s = .next t ∧ (∀ r ∈ clearedRegs, t.rd r h = 0) ∧ (∀ b, b < 8 → t.rd .CHAN_ITH_COUNT h b = 0) ∧
      ∀ p, p < 4 → t.rd .CHAN_WAFRM_COUNT h p = 0 := by
  refine ⟨_, (exec_clrstat_eq h).trans (next_on (by rw [hu, hh]; rfl)), fun r m => ?_, fun b hb => ?_, fun p hp => ?_⟩
  · generalize hv : clearedRegs.foldl (fun s r => s.wr r 0 h) s = v
    have w : v.Within ((v.clearEntries .CHAN_ITH_COUNT h 8).clearEntries .CHAN_WAFRM_COUNT h 4) h [.CHAN_ITH_COUNT, .CHAN_WAFRM_COUNT] []
      (fun _ => False) := ((State.Within.refl ..).clearEntries).clearEntries
    have hr : r ∉ [Reg.CHAN_ITH_COUNT, .CHAN_WAFRM_COUNT] := by
      revert r
      decide
    rw [w.rd r h 0 hr, ← hv]
    exact State.rd_foldl_zero (fun r => (r, 0)) h clearedRegs r 0 s (.inl (List.mem_map_of_mem m))
  · generalize clearedRegs.foldl (fun s r => s.wr r 0 h) s = v
    have w : (v.clearEntries .CHAN_ITH_COUNT h 8).Within ((v.clearEntries .CHAN_ITH_COUNT h 8).clearEntries .CHAN_WAFRM_COUNT h 4) h
      [.CHAN_WAFRM_COUNT] [] (fun _ => False) := (State.Within.refl ..).clearEntries
    rw [w.rd .CHAN_ITH_COUNT h b]
    exact State.clearEntries_zero _ _ _ _ _ hb
  · exact State.clearEntries_zero _ _ _ _ _ hp

theorem exec_clrstat_reads (h : Head) (e : exec (.clrstat h) s = .next t) : s.Reads t h := by
  rw [exec_clrstat_eq] at e
  refine .on e ?_
  have w : s.Reads (clearedRegs.foldl (fun s r => s.wr r 0 h) s) h :=
    (((((State.Within.refl s h readRegs [.ev, .free] (fun _ => False)).wr).wr).wr).wr).wr.wr
  exact w.clearEntries.clearEntries

/-- A channel in reset takes no write. -/
theorem chan_unheard (h : Head) (v : W32) (hh : s.hears (selChan h) = false) : exec (.chanRdecGo h v) s = .next s ∧
    exec (.chanEnable h) s = .next s ∧ exec (.clrstat h) s = .next s :=
  ⟨(exec_chanRdecGo_eq h v).trans (next_off (by rw [hh, Bool.and_false])),
    (exec_chanEnable_eq h).trans (next_off (by rw [hh, Bool.and_false])),
    (exec_clrstat_eq h).trans (next_off (by rw [hh, Bool.and_false]))⟩

end Sys2Proof.Machine

open Sys2Proof Sys2Proof.Machine

/-- Settles O36: each row's answer has its lemma, and what the rows read, decode and enable leaves alone is `State.Reads`. -/
theorem channelFramesEndAsTheTagsDecide : Obligations.ChannelFramesEndAsTheTagsDecide := by
  unfold Obligations.ChannelFramesEndAsTheTagsDecide
  intro h s
  refine ⟨fun f hf hd => exec_writeFrameEnd h f hf hd, fun hx => exec_writeFrameEnd_off h hx,
    fun f pos dist hf hr hl hc hd => exec_syncMarkFound h f pos dist hf hr hl hc hd,
    fun pos dist hx => ⟨exec_syncMarkFound_off h pos dist hx, exec_syncWindowClose_off h hx⟩,
    fun f hf hr hl hc hd => exec_syncWindowClose h f hf hr hl hc hd, fun f rest d hf hd => ?_,
    fun f rest n snr hf hd hs => exec_decodeBudgetExpire h hf hd n snr hs,
    fun d n snr hf => ⟨exec_decodeDone_none h d hf, exec_decodeBudgetExpire_none h n snr hf⟩,
    fun v hu hh => exec_chanRdecGo h v hu hh, fun f d hk hb => exec_offlineDecodeDone h f d hk hb,
    fun d hx => exec_offlineDecodeDone_off h d hx, fun hu hh => exec_chanEnable h hu hh,
    fun hu hs hh => exec_chanEnable_waits h hu hs hh, fun hc => exec_baseMatrixCheckDone h hc,
    fun hc => (exec_baseMatrixCheckDone_eq h).trans (next_off hc), fun hu hh => exec_clrstat h hu hh,
    fun hh v => chan_unheard h v hh, fun pos dist n d snr v t i m e => ?_⟩
  · have e := exec_decodeDone_next h d hf hd
    obtain ⟨made, stays⟩ := exec_decodeDone_snr h d hf hd e
    exact ⟨_, e, made, stays, fun hc hk => exec_decodeDone_good h hf hd e hc hk, fun hc hk => exec_decodeDone_tag h hf hd e hc hk,
      fun hc hs => exec_decodeDone_short h hf hd e hc hs, fun hc hs => (exec_decodeDone_fails h hf hd e hc hs).1,
      fun hc hs => (exec_decodeDone_fails h hf hd e hc hs).2⟩
  · suffices s.Reads t h from this.headOnly
    simp only [List.mem_cons, List.not_mem_nil, or_false] at m
    rcases m with rfl | rfl | rfl | rfl | rfl | rfl | rfl | rfl | rfl
    · exact exec_syncMarkFound_reads h pos dist e
    · exact exec_syncWindowClose_reads h e
    · exact exec_decodeDone_reads h d e
    · exact exec_decodeBudgetExpire_reads h n snr e
    · exact .on ((exec_chanRdecGo_eq h v).symm.trans e) (s.rdecGo_reads h v)
    · exact exec_offlineDecodeDone_reads h d e
    · exact exec_chanEnable_reads h e
    · exact exec_baseMatrixCheckDone_reads h e
    · exact exec_clrstat_reads h e

end

section
/-! PROOFS. The obligation on the buffer (R244) fails: where pool 2 stalls and the zone whose frames wait cannot be moved, since its
arm already copies a band, the zone's writes fail, so that event 253 is not the only one that goes to the recorder's queue. -/

set_option Elab.async false

namespace Sys2Proof.Machine

/-- A started write of one block of zone 0. -/
def stalledWrite : Cmd :=
  { tag := 1, func := 0, sqid := 1, e := { opc := 1, cid := 1, nsid := 1 }, nsidx := some 0, st := .started, zone := some (0, 0, 1) }

/-- A module past the hand-off: pool 2 has no free unit, the write of zone 0 waits, and arm 0 copies its band 3 to band 4. Events 253
and 241 are recorded. -/
def stalledDrain : State :=
  let s : State := { rst := { step := 10 }, hif := { cmds := [stalledWrite], zones := [(0, { st := .implicit })] },
                     med := { place := [(0, 1)], copy := [(0, some (3, 4))] } }
  (((s.wr .BUF_CTL_PLOCK 1).wr .BUF_POOL_SIZE 256 2).wr .EVC_REC_EN 1 253).wr .EVC_REC_EN 1 241

/-- The write's failure is recorded behind the stall. -/
theorem stalledDrain_queue : ∃ t, exec (.drainPoolStall 1) stalledDrain = .next t ∧ t.ev.queue.map (fun e => e.src) = [253, 243, 241] :=
  ⟨_, rfl, by decide +kernel⟩

/-- Refutes O39: a stall of pool 2 may record more than event 253. -/
theorem not_bufferAccessesCheckTheirLines : ¬ Obligations.BufferAccessesCheckTheirLines := by
  unfold Obligations.BufferAccessesCheckTheirLines
  rintro ⟨-, -, -, -, -, -, -, -, -, -, -, h⟩
  obtain ⟨t, he, hq⟩ := stalledDrain_queue
  obtain ⟨u, hu, ⟨-, recorded⟩, -⟩ := h 1 stalledDrain (by decide) (by decide)
  obtain rfl : t = u := Host.Outcome.next.inj (he.symm.trans hu)
  have queue := recorded (by decide) (by decide) (by decide) (by decide)
  rw [queue] at hq
  exact absurd hq (by decide)

end Sys2Proof.Machine
end

section
/-! PROOFS. The obligation on host transfers and completions (R257, R264) fails: a write that succeeds moves its zone's write pointer,
and firmware writes both copies of the arm's system area from the first one, so that what the second copy held beside the zone records
is lost (R210, R304). -/

set_option Elab.async false

namespace Sys2Proof.Machine

/-- A started write of the first block of zone 0. -/
def tornWrite : Cmd :=
  { tag := 0, func := 0, sqid := 1, e := { opc := 1, cid := 0, nsid := 1 }, nsidx := some 0, st := .started, zone := some (0, 0, 1) }

/-- A module past the hand-off, where the two copies of arm 0's system area differ in their interference counts. -/
def tornCopies : State :=
  { rst := { step := 10 }, hif := { cmds := [tornWrite] }, med := { areas := [(1, { ati := [(0, 1)] })] } }

/-- The write's success overwrites the second copy's interference counts. -/
theorem tornCopies_success : ∃ t, exec (.hifCplWrite 0) tornCopies = .next t ∧ (NTab.get {} 1 t.med.areas).ati = [] :=
  ⟨_, rfl, by decide +kernel⟩

/-- Refutes O42: a completion may change more of the medium than the copies of the zone records. -/
theorem not_commandsTransferAndComplete : ¬ Obligations.CommandsTransferAndComplete := by
  unfold Obligations.CommandsTransferAndComplete
  rintro ⟨-, -, -, -, -, -, -, -, h, -⟩
  obtain ⟨t, he, ha⟩ := tornCopies_success
  obtain ⟨u, hu, -, -, -, -, -, changes⟩ := (h 0 tornCopies (by decide)).1 tornWrite ⟨by decide, rfl⟩
  obtain rfl : t = u := Host.Outcome.next.inj (he.symm.trans hu)
  obtain ⟨-, copies⟩ := changes.resolve_left (by decide)
  have kept : [] = (NTab.get {} 1 tornCopies.med.areas).ati := ha.symm.trans (by rw [copies 1])
  exact absurd kept (by decide)

end Sys2Proof.Machine
end

section
/-! PROOFS. What an operation of a unit leaves alone, where its fields are named with their index and some bytes of memory change:
as a relation that grows along an operation as it is written. With it, what a store to buffer memory does (R221, R222), and what
goes on the fabric. K holds the fields that may change, P the parts, M the bytes. -/

set_option Elab.async false

namespace Sys2Proof.Machine

variable {s t u : State}

/-- Only the fields K, the parts P and the bytes M may differ. -/
structure State.Local (s t : State) (K : RKey → Prop) (P : List Part) (M : Nat → Prop) : Prop where
  keys : s.keysBut t K
  keeps : s.keeps t P
  mem : ∀ x, ¬ M x → t.mb x = s.mb x

namespace State.Local

variable {K : RKey → Prop} {P : List Part} {M : Nat → Prop}

theorem refl (s : State) (K : RKey → Prop) (P : List Part) (M : Nat → Prop) : s.Local s K P M :=
  ⟨fun _ _ _ _ => rfl, ⟨rfl, fun p _ => by cases p <;> rfl⟩, fun _ _ => rfl⟩

theorem trans (w : s.Local u K P M) (g : u.Local t K P M) : s.Local t K P M :=
  ⟨fun r i j n => (g.keys r i j n).trans (w.keys r i j n),
    ⟨g.keeps.1.trans w.keeps.1, fun p n => State.only.same_trans (w.keeps.2 p n) (g.keeps.2 p n)⟩,
    fun x n => (g.mem x n).trans (w.mem x n)⟩

theorem mono {K' : RKey → Prop} {P' : List Part} {M' : Nat → Prop} (w : s.Local t K P M) (hK : ∀ k, K k → K' k := by exact fun _ m => m)
    (hP : P ⊆ P' := by decide) (hM : ∀ x, M x → M' x := by exact fun _ m => m) : s.Local t K' P' M' :=
  ⟨fun r i j n => w.keys r i j (fun m => n (hK _ m)), ⟨w.keeps.1, fun p n => w.keeps.2 p (fun m => n (hP m))⟩,
    fun x n => w.mem x (fun m => n (hM x m))⟩

/-- An operation that follows, with a frame of its own inside this one. -/
theorem andThen {K' : RKey → Prop} {P' : List Part} {M' : Nat → Prop} (w : s.Local u K P M) (g : u.Local t K' P' M')
    (hK : ∀ k, K' k → K k := by exact fun _ m => m) (hP : P' ⊆ P := by decide) (hM : ∀ x, M' x → M x := by exact fun _ m => m) :
    s.Local t K P M := w.trans (g.mono hK hP hM)

theorem of_only {R : List Reg} (o : s.only t R P) (hK : ∀ k : RKey, k.reg ∈ R → K k) : s.Local t K P M :=
  ⟨fun r i j n => o.1 r i j (fun m => n (hK ⟨r, i, j⟩ m)), o.2.2, fun x _ => o.2.1 x⟩

/-- Where no byte may change, memory is untouched. -/
theorem memSame (w : s.Local t K P (fun _ => False)) : s.memSame t := fun x => w.mem x id

theorem same (w : s.Local t K P M) (p : Part) (hp : p ∉ P := by decide) : p.same s t := w.keeps.2 p hp

theorem rd (w : s.Local t K P M) (r : Reg) (i j : Nat) (n : ¬ K ⟨r, i, j⟩) : t.rd r i j = s.rd r i j :=
  congrArg BitVec.toNat (w.keys r i j n)

theorem bit (w : s.Local t K P M) (r : Reg) (i j : Nat) (n : ¬ K ⟨r, i, j⟩) : t.bit r i j = s.bit r i j :=
  congrArg (· != 0) (w.rd r i j n)

/-! ### Single updates -/

theorem wr {r : Reg} {v i j : Nat} (w : s.Local u K P M) (hr : K ⟨r, i, j⟩) : s.Local (u.wr r v i j) K P M :=
  w.trans ⟨fun _ _ _ n => State.rdW_wr_key u v (fun e => n (e ▸ hr)), ⟨rfl, fun p _ => by cases p <;> rfl⟩, fun _ _ => rfl⟩

/-- Of the state's parts only q changes. -/
theorem part (q : Part) (w : s.Local u K P M) (hq : q ∈ P) (hr : t.regs = u.regs) (hm : t.mem = u.mem) (he : t.pending = u.pending)
    (hk : ∀ p, p ≠ q → p.same u t) : s.Local t K P M :=
  w.trans ⟨fun r i j _ => State.rdW_congr hr r i j, ⟨he, fun p n => hk p (fun e => n (e ▸ hq))⟩, fun x _ => State.mb_congr hm x⟩

theorem setFrc {x : Frc} (w : s.Local u K P M) (hp : .frc ∈ P := by decide) : s.Local { u with frc := x } K P M :=
  w.part .frc hp rfl rfl rfl (fun p n => by cases p <;> first | rfl | exact absurd rfl n)

theorem setDma {x : Dma} (w : s.Local u K P M) (hp : .dma ∈ P := by decide) : s.Local { u with dma := x } K P M :=
  w.part .dma hp rfl rfl rfl (fun p n => by cases p <;> first | rfl | exact absurd rfl n)

theorem setEv {x : Ev} (w : s.Local u K P M) (hp : .ev ∈ P := by decide) : s.Local { u with ev := x } K P M :=
  w.part .ev hp rfl rfl rfl (fun p n => by cases p <;> first | rfl | exact absurd rfl n)

theorem setFree {n : Nat} (w : s.Local u K P M) (hp : .free ∈ P := by decide) : s.Local { u with free := n } K P M :=
  w.part .free hp rfl rfl rfl (fun p n => by cases p <;> first | rfl | exact absurd rfl n)

theorem setPoisons {x : NSet} (w : s.Local u K P M) (hp : .poison ∈ P := by decide) : s.Local { u with poison := x } K P M :=
  w.part .poison hp rfl rfl rfl (fun p n => by cases p <;> first | rfl | exact absurd rfl n)

theorem setHses {x : NTab Hse} (w : s.Local u K P M) (hp : .hses ∈ P := by decide) : s.Local { u with hses := x } K P M :=
  w.part .hses hp rfl rfl rfl (fun p n => by cases p <;> first | rfl | exact absurd rfl n)

theorem setChans {x : NTab Chan} (w : s.Local u K P M) (hp : .chans ∈ P := by decide) : s.Local { u with chans := x } K P M :=
  w.part .chans hp rfl rfl rfl (fun p n => by cases p <;> first | rfl | exact absurd rfl n)

theorem emit {o : Out} (w : s.Local u K P M) (hp : .out ∈ P := by decide) : s.Local (u.emit o) K P M :=
  w.part .out hp rfl rfl rfl (fun p n => by cases p <;> first | rfl | exact absurd rfl n)

theorem raise {n : Nat} {l : List (Nat × Nat)} (w : s.Local u K P M) (hp : .ev ∈ P := by decide) : s.Local (u.raise n l) K P M := by
  rw [State.raise_eq]
  exact w.setEv hp

theorem edge {n : Nat} (w : s.Local u K P M) (hp : .ev ∈ P := by decide) : s.Local (u.edge n) K P M := w.setEv hp

theorem draw {n : Nat} (w : s.Local u K P M) (hp : .free ∈ P := by decide) : s.Local (u.draw n).2 K P M := w.setFree hp

theorem ownAccess {k : Option Nat} {n : Nat} (w : s.Local u K P M) (hf : .free ∈ P := by decide) (ho : .out ∈ P := by decide) :
    s.Local (u.ownAccess k n) K P M :=
  (State.Local.draw (n := 4) (State.Local.draw (n := 57) w hf) hf).emit ho

/-- Bytes written where they may change. -/
theorem setMbs {a : Nat} {bs : List Byte} (w : s.Local u K P M) (hm : ∀ x, a ≤ x → x < a + bs.length → M x) :
    s.Local (u.setMbs a bs) K P M :=
  w.trans ⟨fun _ _ _ _ => rfl, ⟨rfl, fun p _ => by cases p <;> rfl⟩, fun x n => State.mb_setMbs_other (by
    by_contra c
    exact n (hm x (by omega) (by omega)))⟩

theorem busWrite {a : Nat} {bs : List Byte} {p : Bool} (w : s.Local u K P M) (hm : ∀ x, a ≤ x → x < a + bs.length → M x)
    (hp : .poison ∈ P := by decide) : s.Local (u.busWrite a bs p) K P M := (w.setMbs hm).setPoisons hp

theorem setPoison {a n : Nat} {p : Bool} (w : s.Local u K P M) (hp : .poison ∈ P := by decide) : s.Local (u.setPoison a n p) K P M :=
  w.setPoisons hp

theorem spaceError {a n k : Nat} (w : s.Local u K P M) (hp : .ev ∈ P := by decide) : s.Local (u.spaceError a n k) K P M := by
  unfold State.spaceError
  split
  · exact w.raise hp
  · exact w

theorem spaceErrors {l : List (Nat × Nat)} (w : s.Local u K P M) (hp : .ev ∈ P := by decide) (hf : .free ∈ P := by decide) :
    s.Local (u.spaceErrors l) K P M := by
  unfold State.spaceErrors
  split
  · exact (State.Local.draw (n := 4) w hf).spaceError hp
  · exact w

/-! ### The ways operations are put together -/

theorem ite {c : Prop} {i : Decidable c} {a b : State} (ha : s.Local a K P M) (hb : s.Local b K P M) :
    s.Local (if c then a else b) K P M := by
  split <;> assumption

theorem foldl {α : Type} {f : State → α → State} {l : List α} (w : s.Local u K P M)
    (hf : ∀ v, ∀ a ∈ l, s.Local v K P M → s.Local (f v a) K P M) : s.Local (l.foldl f u) K P M := by
  induction l generalizing u with
  | nil => exact w
  | cons a l ih => exact ih (hf u a List.mem_cons_self w) (fun v b m => hf v b (List.mem_cons_of_mem _ m))

end State.Local

/-! ### Frames on the fabric -/

theorem State.sentOn_of_eq (h : t.out = s.out) : s.sentOn t [] := ⟨[], by simp, by simp [h]⟩

theorem State.sentOn_refl (s : State) : s.sentOn s [] := State.sentOn_of_eq rfl

theorem State.sentOn_trans (h : s.sentOn u []) (g : u.sentOn t []) : s.sentOn t [] := by
  obtain ⟨f, hf, ho⟩ := h
  obtain ⟨f', hf', ho'⟩ := g
  refine ⟨f ++ f', fun o m => (List.mem_append.1 m).elim (hf o) (hf' o), ?_⟩
  rw [ho', ho]
  simp only [List.append_assoc, List.append_nil]

theorem State.sentOn_fabric (s : State) (n : Nat) : s.sentOn (s.fabric n) [] :=
  ⟨[.fabric n], fun _ m => by rw [List.mem_singleton.1 m]; rfl, (List.append_nil _).symm⟩

theorem State.sentOn_ownAccess (s : State) (k : Option Nat) (n : Nat) : s.sentOn (s.ownAccess k n) [] :=
  State.sentOn_trans (u := ((s.draw 57).2.draw 4).2) (State.sentOn_of_eq rfl) (State.sentOn_fabric ..)

theorem State.out_raise (s : State) (n : Nat) (l : List (Nat × Nat)) : (s.raise n l).out = s.out := by rw [State.raise_eq]

theorem State.out_spaceErrors (s : State) (l : List (Nat × Nat)) : (s.spaceErrors l).out = s.out :=
  (State.Local.spaceErrors (State.Local.refl s (fun _ => False) [.ev, .free] (fun _ => False))).same .out

theorem State.sentOn_foldl {α : Type} {f : State → α → State} {l : List α} (hf : ∀ (v : State) (a : α), v.sentOn (f v a) []) (s : State) :
    s.sentOn (l.foldl f s) [] := by
  induction l generalizing s with
  | nil => exact s.sentOn_refl
  | cons a l ih => exact State.sentOn_trans (hf s a) (ih (f s a))

/-! ### A store to memory -/

theorem State.mb_busWrite_other {a x : Nat} {bs : List Byte} {p : Bool} (h : x < a ∨ a + bs.length ≤ x) :
    (s.busWrite a bs p).mb x = s.mb x := State.mb_setMbs_other h

theorem State.mbs_setMbs_same {a : Nat} {bs : List Byte} (ha : 0x20000 ≤ a) : (s.setMbs a bs).mbs a bs.length = bs := by
  refine List.ext_getElem (by simp [State.mbs]) (fun k hk hk' => ?_)
  simp only [State.mbs, List.getElem_map, List.getElem_range]
  rw [State.mb_setMbs_same hk' ha]
  simp [hk']

theorem State.mbs_busWrite_same {a : Nat} {bs : List Byte} {p : Bool} (ha : 0x20000 ≤ a) :
    (s.busWrite a bs p).mbs a bs.length = bs := State.mbs_setMbs_same ha

theorem State.mbs_congr {a n : Nat} (h : ∀ x, a ≤ x → x < a + n → t.mb x = s.mb x) : t.mbs a n = s.mbs a n :=
  List.map_congr_left (fun k hk => h (a + k) (by omega) (by have := List.mem_range.1 hk; omega))

theorem State.mbs_length (s : State) (a n : Nat) : (s.mbs a n).length = n := by simp [State.mbs]

theorem State.mbs_part (s : State) (a n k m : Nat) (h : k + m ≤ n) : ((s.mbs a n).drop k).take m = s.mbs (a + k) m := by
  refine List.ext_getElem (by simp [State.mbs]; omega) (fun i hi hi' => ?_)
  simp [State.mbs, Nat.add_assoc]

/-- An engine reaches no byte of the boot ROM. -/
theorem engineReach_low {a n : Nat} (h : engineReach a n = true) : 0x20000 ≤ a := by
  simp only [engineReach, inSram, inBuf, Bool.or_eq_true, Bool.and_eq_true, decide_eq_true_eq,
    show sramLo = 0x02000000 from rfl, show bufLo = 0x800000000 from rfl] at h
  omega

/-! ### Poison -/

theorem NSet.has_add {k j : Nat} {t : NSet} : NSet.has k (NSet.add j t) = (decide (k = j) || NSet.has k t) := by
  unfold NSet.has NSet.add
  by_cases e : k = j
  · subst e
    rw [Tab.get_put_same, decide_eq_true rfl, Bool.true_or]
  · rw [Tab.get_put_other _ _ _ e, decide_eq_false e, Bool.false_or]

theorem NSet.has_del {k j : Nat} {t : NSet} : NSet.has k (NSet.del j t) = (decide (k ≠ j) && NSet.has k t) := by
  unfold NSet.has NSet.del
  by_cases e : k = j
  · subst e
    rw [Tab.get_put_same, decide_eq_false (fun n => n rfl), Bool.false_and]
  · rw [Tab.get_put_other _ _ _ e, decide_eq_true e, Bool.true_and]

theorem NSet.has_foldl_add {k : Nat} {l : List Nat} {t : NSet} (h : k ∈ l ∨ NSet.has k t = true) :
    NSet.has k (l.foldl (fun t j => NSet.add j t) t) = true := by
  induction l generalizing t with
  | nil => exact h.resolve_left List.not_mem_nil
  | cons a l ih =>
    refine ih ?_
    rw [NSet.has_add]
    rcases h with h | h
    · rcases List.mem_cons.1 h with rfl | h
      · exact .inr (by simp)
      · exact .inl h
    · exact .inr (by simp [h])

/-- A store leaves a line that it does not cover poisoned. -/
theorem State.has_busWrite {k a : Nat} {bs : List Byte} {p : Bool} (hk : NSet.has k s.poison = true)
    (hc : coversLine a bs.length k = false) : NSet.has k (s.busWrite a bs p).poison = true := by
  show NSet.has k ((linesOf a bs.length).foldl _ s.poison) = true
  generalize s.poison = z at hk
  induction linesOf a bs.length generalizing z with
  | nil => exact hk
  | cons j l ih =>
    refine ih _ ?_
    dsimp only
    split
    · rw [NSet.has_add, hk, Bool.or_true]
    split
    next c =>
      have n : k ≠ j := by
        rintro rfl
        rw [hc] at c
        exact absurd c (by decide)
      rw [NSet.has_del, hk, decide_eq_true n, Bool.and_true]
    next => exact hk

end Sys2Proof.Machine
end

section
/-! PROOFS. The start of a coder lane and the key commands (R313 to R317): what each row answers. -/

set_option Elab.async false

namespace Sys2Proof.Machine

variable {s t u : State} {k : Nat}

/-- The named fields of one instance. -/
abbrev ofUnit (F : List Reg) (k : Nat) (x : RKey) : Prop := x.reg ∈ F ∧ x.i = k

theorem ofUnit_mk {F : List Reg} {r : Reg} {j : Nat} (h : r ∈ F := by decide) : ofUnit F k ⟨r, k, j⟩ := ⟨h, rfl⟩

theorem not_ofUnit {F : List Reg} {r : Reg} {i j : Nat} (h : r ∉ F := by decide) : ¬ ofUnit F k ⟨r, i, j⟩ := fun m => h m.1

/-! ### A lane's start -/

/-- What a start of a lane writes. -/
def goRegs : List Reg := [.FRC_LSTAT_STATE, .FRC_LSTAT_OVER, .FRC_LSTAT_POS, .FRC_LSTAT_PHASEOUT, .FRC_LCNT_NESC, .FRC_LCNT_NSLOT]

/-- What a start clears. -/
def clearedGo : List Reg := [.FRC_LSTAT_OVER, .FRC_LSTAT_POS, .FRC_LSTAT_PHASEOUT, .FRC_LCNT_NESC, .FRC_LCNT_NSLOT]

/-- The fields of a lane that starts. -/
def State.laneFields (s : State) (k : Nat) : State := clearedGo.foldl (fun s r => s.wr r 0 k) (s.wr .FRC_LSTAT_STATE 1 k)

/-- A lane as a start finds it. -/
def State.laneBegun (s : State) (k : Nat) : State := (s.laneFields k).setLane k {}

theorem exec_frcLaneGo_eq (k : Fin 8) : exec (.frcLaneGo k) s = .next (s.on (s.up 5 && s.hears selFrc &&
    (s.rd .FRC_LSTAT_STATE k == 0 || s.rd .FRC_LSTAT_STATE k == 2)) (fun s =>
      if s.laneClass k = 3 ∨ s.laneBlocks k = 0 then s.wr .FRC_LSTAT_STATE 3 k else (s.laneBegun k).laneAsk k)) := rfl

theorem State.laneFields_only (s : State) (k : Nat) : s.Local (s.laneFields k) (ofUnit goRegs k) [] (fun _ => False) := by
  have w : s.Local (s.wr .FRC_LSTAT_STATE 1 k) (ofUnit goRegs k) [] (fun _ => False) := (State.Local.refl ..).wr ofUnit_mk
  exact w.foldl (fun v r m w => w.wr ⟨(by decide : clearedGo ⊆ goRegs) m, rfl⟩)

theorem State.laneBegun_local (s : State) (k : Nat) : s.Local (s.laneBegun k) (ofUnit goRegs k) [.frc] (fun _ => False) :=
  (s.laneFields_only k).mono.setFrc

@[simp] theorem State.rd_setLane (s : State) (k : Nat) (v : Lane) (r : Reg) (i j : Nat) : (s.setLane k v).rd r i j = s.rd r i j := rfl

theorem State.lane_congr (e : t.frc = s.frc) (j : Nat) : t.lane j = s.lane j := by rw [State.lane, e, State.lane]

theorem State.lane_setLane_same (s : State) (k : Nat) (v : Lane) : (s.setLane k v).lane k = v := Tab.get_put_same ..

theorem State.lane_setLane_ne (s : State) {j k : Nat} (v : Lane) (n : j ≠ k) : (s.setLane k v).lane j = s.lane j :=
  Tab.get_put_other _ _ _ n _ _

theorem State.laneBegun_reads (s : State) (k : Nat) : (s.laneBegun k).rd .FRC_LSTAT_STATE k = 1 ∧
    (∀ r ∈ clearedGo, (s.laneBegun k).rd r k = 0) ∧ (s.laneBegun k).lane k = {} ∧ ∀ j, j ≠ k → (s.laneBegun k).lane j = s.lane j := by
  unfold State.laneBegun
  refine ⟨?_, fun r m => ?_, State.lane_setLane_same .., fun j n => ?_⟩
  · have w : (s.wr .FRC_LSTAT_STATE 1 k).Local (s.laneFields k) (ofUnit clearedGo k) [] (fun _ => False) :=
      (State.Local.refl ..).foldl (fun v r m w => w.wr ⟨m, rfl⟩)
    rw [State.rd_setLane, w.rd .FRC_LSTAT_STATE k 0 not_ofUnit]
    exact State.rd_wr_same ..
  · rw [State.rd_setLane]
    exact State.rd_foldl_zero (fun r => (r, 0)) k clearedGo r 0 _ (.inl (List.mem_map_of_mem m))
  · rw [State.lane_setLane_ne _ _ n, State.lane_congr ((s.laneFields_only k).same .frc)]

/-- Requests raised on a lane's line. -/
def State.laneRaise (s : State) (k n : Nat) : State :=
  { s with dma := { s.dma with raised := NTab.put 0 (48 + k) (NTab.get 0 (48 + k) s.dma.raised + n) s.dma.raised } }

/-- What a lane asks for is written in the requests raised on its line. -/
theorem State.laneAsk_cases (s : State) (k : Nat) : (s.laneAsk k = s ∧ (s.rd .FRC_LSTAT_STATE k = 1 → s.bit .FRC_CTL_EN = true →
      min 2 (s.laneWant k) - s.laneOut k = 0)) ∨
    (s.rd .FRC_LSTAT_STATE k = 1 ∧ s.bit .FRC_CTL_EN = true ∧ s.laneAsk k = s.laneRaise k (min 2 (s.laneWant k) - s.laneOut k)) := by
  unfold State.laneAsk
  dsimp only
  split
  next c =>
    simp only [Bool.and_eq_true, decide_eq_true_eq] at c
    exact .inr ⟨c.1.1, c.1.2, rfl⟩
  next c =>
    refine .inl ⟨rfl, fun a b => ?_⟩
    simpa [a, b] using c

theorem State.laneAsk_local (s : State) (k : Nat) : s.Local (s.laneAsk k) (fun _ => False) [.dma] (fun _ => False) :=
  .ite (State.Local.refl ..).setDma (.refl ..)

theorem State.laneAsk_frc (s : State) (k : Nat) : (s.laneAsk k).frc = s.frc := (s.laneAsk_local k).same .frc

/-- The requests raised on a running lane's line. -/
theorem State.laneAsk_raised (hs : s.rd .FRC_LSTAT_STATE k = 1) (he : s.bit .FRC_CTL_EN = true) :
    NTab.get 0 (48 + k) (s.laneAsk k).dma.raised = NTab.get 0 (48 + k) s.dma.raised + (min 2 (s.laneWant k) - s.laneOut k) := by
  rcases s.laneAsk_cases k with ⟨e, z⟩ | ⟨-, -, e⟩
  · rw [e, z hs he, Nat.add_zero]
  · rw [e]
    exact Tab.get_put_same ..

theorem State.laneAsk_off (he : s.bit .FRC_CTL_EN = false) : (s.laneAsk k).dma = s.dma := by
  rcases s.laneAsk_cases k with ⟨e, -⟩ | ⟨-, c, -⟩
  · rw [e]
  · rw [he] at c
    exact absurd c (by decide)

/-- A job without input decodes nothing and needs more. -/
theorem State.laneDecode_start (hi : (s.lane k).input = []) (hn : s.laneBlocks k ≠ 0) : s.laneDecode k = ([], true) := by
  obtain ⟨m, hm⟩ := Nat.exists_eq_succ_of_ne_zero hn
  unfold State.laneDecode
  rw [hi, hm]
  dsimp only
  split
  · simp
  · rfl

theorem State.laneEncode_start (hi : (s.lane k).input = []) : (s.laneEncode k).2 = false := by
  unfold State.laneEncode
  rw [hi]
  simp [Enc.run]

/-- What a lane asks for at its start. -/
theorem State.laneWant_start (hi : (s.lane k).input = []) (hn : s.laneBlocks k ≠ 0) : s.laneWant k =
    if s.bit .FRC_LCTL_OP k = true ∧ s.laneClass k ≠ 0 then max 1 ((slotSize (s.laneClass k) * (s.laneBlocks k - 1) + 4095) / 4096)
    else s.laneBlocks k := by
  have full : s.laneFull k = false := by
    unfold State.laneFull
    rw [State.laneDecode_start hi hn, State.laneEncode_start hi, hi]
    simp [hn]
  unfold State.laneWant
  rw [full, State.laneDecode_start hi hn, hi]
  simp

/-- A lane's start, from rest or after a job. -/
theorem exec_frcLaneGo (k : Fin 8) (hu : s.up 5 = true) (hh : s.hears selFrc = true)
    (hs : s.rd .FRC_LSTAT_STATE k = 0 ∨ s.rd .FRC_LSTAT_STATE k = 2) :
    exec (.frcLaneGo k) s = .next (if s.laneClass k = 3 ∨ s.laneBlocks k = 0 then s.wr .FRC_LSTAT_STATE 3 k else (s.laneBegun k).laneAsk k) :=
  (exec_frcLaneGo_eq k).trans (next_on (by rcases hs with e | e <;> simp [hu, hh, e]))

theorem exec_frcLaneGo_off (k : Fin 8)
    (hx : s.rst.step < 5 ∨ s.hears selFrc = false ∨ s.rd .FRC_LSTAT_STATE k = 1 ∨ s.rd .FRC_LSTAT_STATE k = 3) :
    exec (.frcLaneGo k) s = .next s := by
  refine (exec_frcLaneGo_eq k).trans (next_off ?_)
  rcases hx with e | e | e | e
  · simp [State.up_false e]
  all_goals simp [e]

/-- A job that cannot be: its lane fails. -/
theorem State.laneRefused (s : State) (k : Nat) : s.Local (s.wr .FRC_LSTAT_STATE 3 k) (ofUnit goRegs k) [] (fun _ => False) ∧
    (s.wr .FRC_LSTAT_STATE 3 k).rd .FRC_LSTAT_STATE k = 3 :=
  ⟨(State.Local.refl ..).wr ofUnit_mk, State.rd_wr_same ..⟩

/-- A job that starts. -/
theorem State.laneStarted (s : State) (k : Nat) (hn : s.laneBlocks k ≠ 0) :
    s.Local ((s.laneBegun k).laneAsk k) (ofUnit goRegs k) [.frc, .dma] (fun _ => False) ∧
    ((s.laneBegun k).laneAsk k).rd .FRC_LSTAT_STATE k = 1 ∧
    (∀ r ∈ clearedGo, ((s.laneBegun k).laneAsk k).rd r k = 0) ∧
    (((s.laneBegun k).laneAsk k).lane k).input = [] ∧ (∀ j, j ≠ k → ((s.laneBegun k).laneAsk k).lane j = s.lane j) ∧
    (s.bit .FRC_CTL_EN = false → ((s.laneBegun k).laneAsk k).dma = s.dma) ∧
    (s.bit .FRC_CTL_EN = true → NTab.get 0 (48 + k) ((s.laneBegun k).laneAsk k).dma.raised = NTab.get 0 (48 + k) s.dma.raised +
      (min 2 (if s.bit .FRC_LCTL_OP k = true ∧ s.laneClass k ≠ 0 then
        max 1 ((slotSize (s.laneClass k) * (s.laneBlocks k - 1) + 4095) / 4096) else s.laneBlocks k) - s.laneOut k)) := by
  have b := s.laneBegun_local k
  have a := (s.laneBegun k).laneAsk_local k
  obtain ⟨state, zero, lane, other⟩ := s.laneBegun_reads k
  have lanes (j : Nat) : ((s.laneBegun k).laneAsk k).lane j = (s.laneBegun k).lane j := State.lane_congr (State.laneAsk_frc ..) j
  have en : (s.laneBegun k).bit .FRC_CTL_EN = s.bit .FRC_CTL_EN := b.bit .FRC_CTL_EN 0 0 not_ofUnit
  have op : (s.laneBegun k).bit .FRC_LCTL_OP k = s.bit .FRC_LCTL_OP k := b.bit .FRC_LCTL_OP k 0 not_ofUnit
  have cls : (s.laneBegun k).laneClass k = s.laneClass k := b.rd .FRC_LCTL_CLASS k 0 not_ofUnit
  have blocks : (s.laneBegun k).laneBlocks k = s.laneBlocks k := b.rd .FRC_LBUD_NBLK k 0 not_ofUnit
  have pend : (s.laneBegun k).rd .DMA_LPEND_COUNT (48 + k) = s.rd .DMA_LPEND_COUNT (48 + k) :=
    b.rd .DMA_LPEND_COUNT (48 + k) 0 not_ofUnit
  have dma : (s.laneBegun k).dma = s.dma := b.same .dma
  have out : (s.laneBegun k).laneOut k = s.laneOut k := by rw [State.laneOut, State.laneOut, pend, dma]
  refine ⟨b.mono.andThen a (fun _ m => m.elim), by rw [a.rd .FRC_LSTAT_STATE k 0 id, state], fun r m => by rw [a.rd r k 0 id, zero r m],
    by rw [lanes, lane], fun j n => by rw [lanes, other j n], fun e => (State.laneAsk_off (en.trans e)).trans dma, fun e => ?_⟩
  rw [State.laneAsk_raised state (en.trans e), State.laneWant_start (by rw [lane]) (by rwa [blocks]), op, cls, blocks, out, dma]

/-! ### Key commands -/

theorem State.keyCommand_on (op ns : Nat) (hu : s.up 5 = true) (hh : s.hears selFrc = true) (hb : s.bit .FRC_KSTAT_BUSY = false) :
    s.keyCommand op ns = State.wr { s with frc := { s.frc with kjob := some (op, ns) } } .FRC_KSTAT_BUSY 1 :=
  State.on_true (by simp [hu, hh, hb])

theorem State.keyCommand_off (op ns : Nat) (hx : s.rst.step < 5 ∨ s.hears selFrc = false ∨ s.bit .FRC_KSTAT_BUSY = true) :
    s.keyCommand op ns = s := by
  refine State.on_false ?_
  rcases hx with e | e | e
  · simp [State.up_false e]
  all_goals simp [e]

/-- A key command sets BUSY. -/
theorem State.keyCommand_starts (op ns : Nat) (hu : s.up 5 = true) (hh : s.hears selFrc = true) (hb : s.bit .FRC_KSTAT_BUSY = false) :
    (s.keyCommand op ns).rd .FRC_KSTAT_BUSY = 1 ∧ (s.keyCommand op ns).frc = { s.frc with kjob := some (op, ns) } ∧
    s.only (s.keyCommand op ns) [.FRC_KSTAT_BUSY] [.frc] := by
  rw [State.keyCommand_on op ns hu hh hb]
  refine ⟨State.rd_wr_same .., rfl, ?_⟩
  exact (State.only.part .frc (State.only.refl s [.FRC_KSTAT_BUSY] [.frc]) (by decide)).wr

/-- The state when a key command's work r is done. -/
def State.keyDone (r : Nat × State) : State :=
  let s := { r.2 with frc := { r.2.frc with kjob := none } }
  ((s.wr .FRC_KSTAT_BUSY 0).wr .FRC_KSTAT_RESULT r.1).edge 482

theorem exec_keyCommandEnd_eq {op ns : Nat} (hk : s.frc.kjob = some (op, ns)) :
    exec .keyCommandEnd s = .next (State.keyDone (s.keyWork op ns)) := by
  show execKeyCommandEnd s = _
  unfold execKeyCommandEnd
  rw [hk]
  rfl

theorem exec_keyCommandEnd_none (hk : s.frc.kjob = none) : exec .keyCommandEnd s = .next s := by
  show execKeyCommandEnd s = _
  unfold execKeyCommandEnd
  rw [hk]

/-- What a key command's work changes at most. -/
abbrev keyParts : List Part := [.frc, .ev, .poison, .free, .out]

theorem State.keyDone_local {r : Nat × State} {M : Nat → Prop} (w : s.Local r.2 (fun _ => False) keyParts M) :
    s.Local (State.keyDone r) (fun x => x.reg ∈ [Reg.FRC_KSTAT_BUSY, .FRC_KSTAT_RESULT]) keyParts M := by
  have w : s.Local r.2 (fun x => x.reg ∈ [Reg.FRC_KSTAT_BUSY, .FRC_KSTAT_RESULT]) keyParts M := w.mono (fun _ m => m.elim)
  unfold State.keyDone
  dsimp only
  exact (State.Local.wr (State.Local.wr w.setFrc (by decide)) (by decide)).edge

theorem State.keyDone_reads (r : Nat × State) : (State.keyDone r).rd .FRC_KSTAT_BUSY = 0 ∧ (State.keyDone r).frc.kjob = none ∧
    NSet.has 482 (State.keyDone r).ev.edge = true ∧ (State.keyDone r).rd .FRC_KSTAT_RESULT = r.1 % 4 ∧
    (State.keyDone r).frc = { r.2.frc with kjob := none } ∧ (State.keyDone r).out = r.2.out := by
  unfold State.keyDone
  generalize hv : ({ r.2 with frc := { r.2.frc with kjob := none } } : State) = v
  have frc : v.frc = { r.2.frc with kjob := none } := by rw [← hv]
  have out : v.out = r.2.out := by rw [← hv]
  dsimp only [State.edge]
  simp only [State.wr_frc, State.wr_out]
  refine ⟨?_, by rw [frc], ?_, State.rd_wr_same .., frc, out⟩
  · show ((v.wr .FRC_KSTAT_BUSY 0).wr .FRC_KSTAT_RESULT r.1).rd .FRC_KSTAT_BUSY = 0
    rw [State.rd_wr_ne _ _ (by decide)]
    exact State.rd_wr_same ..
  · rw [NSet.has_add, decide_eq_true rfl, Bool.true_or]

theorem State.keyDone_raised {r : Nat × State} {n : Nat} (h : s.raised r.2 n) : s.raised (State.keyDone r) n := by
  intro hu
  obtain ⟨e, q⟩ := h hu
  refine ⟨?_, q⟩
  show NSet.has n (NSet.add 482 r.2.ev.edge) = true
  rw [NSet.has_add, e, Bool.or_true]

/-! ### A key command's work -/

section
variable {op ns : Nat}

theorem State.keyWork_busy (hb : s.keyBusy ns = true) : s.keyWork op ns = (2, s) := by
  unfold State.keyWork
  rw [if_pos hb]

theorem State.keyWork_destroy (hb : s.keyBusy ns = false) : s.keyWork 3 ns = (0, s.setKey ns []) := by
  unfold State.keyWork
  rw [if_neg (by simp [hb]), if_pos rfl]

theorem State.keyWork_far (hb : s.keyBusy ns = false) (ho : op ≠ 3) (hr : engineReach (s.rd .FRC_KADDR_ADDR) 72 = false) :
    s.keyWork op ns = (s.spaceErrors [(s.rd .FRC_KADDR_ADDR, 72)]).draw 2 := by
  unfold State.keyWork
  dsimp only
  rw [if_neg (by simp [hb]), if_neg ho, if_pos (by simp [hr])]

theorem State.mbs_ownAccess (s : State) (kind : Option Nat) (head a n : Nat) : (s.ownAccess kind head).mbs a n = s.mbs a n :=
  State.mbs_congr (fun _ _ _ => rfl)

theorem State.keyWork_load (hb : s.keyBusy ns = false) (hr : engineReach (s.rd .FRC_KADDR_ADDR) 72 = true) {key : List Byte}
    (hw : keyUnwrap Config.wrapKey (s.mbs (s.rd .FRC_KADDR_ADDR) 72) = some key) :
    s.keyWork 2 ns = (0, (s.ownAccess none 31).setKey ns key) := by
  unfold State.keyWork
  dsimp only
  rw [if_neg (by simp [hb]), if_neg (by decide), if_neg (by simp [hr]), if_neg (by decide), State.mbs_ownAccess, hw]

theorem State.keyWork_lost (hb : s.keyBusy ns = false) (hr : engineReach (s.rd .FRC_KADDR_ADDR) 72 = true)
    (hw : keyUnwrap Config.wrapKey (s.mbs (s.rd .FRC_KADDR_ADDR) 72) = none) :
    s.keyWork 2 ns = (1, (s.ownAccess none 31).loseKey ns) := by
  unfold State.keyWork
  dsimp only
  rw [if_neg (by simp [hb]), if_neg (by decide), if_neg (by simp [hr]), if_neg (by decide), State.mbs_ownAccess, hw]

/-- The key that a generate stores. -/
def State.drawnKey (s : State) : List Byte := bytesOf 64 (s.draw 512).1

theorem State.keyWork_generate (hb : s.keyBusy ns = false) (hr : engineReach (s.rd .FRC_KADDR_ADDR) 72 = true) :
    s.keyWork 1 ns = (0, ((((s.draw 512).2).setKey ns s.drawnKey).ownAccess none 31).busWrite (s.rd .FRC_KADDR_ADDR)
      (keyWrap Config.wrapKey s.drawnKey) false) := by
  unfold State.keyWork
  dsimp only
  rw [if_neg (by simp [hb]), if_neg (by decide), if_neg (by simp [hr]), if_pos rfl]
  rfl

/-- What a key command's work leaves alone, whatever it makes of memory. -/
theorem State.keyWork_local (s : State) (op ns : Nat) : s.Local (s.keyWork op ns).2 (fun _ => False) keyParts (fun _ => True) := by
  have r := State.Local.refl s (fun _ => False) keyParts (fun _ => True)
  unfold State.keyWork
  dsimp only
  split
  · exact r
  split
  · exact r.setFrc
  split
  · exact r.spaceErrors.draw
  split
  · exact (State.Local.ownAccess (State.Local.setFrc (State.Local.draw (n := 512) r))).busWrite (fun _ _ _ => trivial)
  · split
    · exact r.ownAccess.setFrc
    · exact r.ownAccess.setFrc

/-- It sends nothing but frames on the fabric. -/
theorem State.keyWork_sent (s : State) (op ns : Nat) : s.sentOn (s.keyWork op ns).2 [] := by
  unfold State.keyWork
  dsimp only
  split
  · exact s.sentOn_refl
  split
  · exact State.sentOn_of_eq rfl
  split
  · exact State.sentOn_of_eq (State.out_spaceErrors ..)
  split
  · exact State.sentOn_trans (u := ((s.draw 512).2.setKey ns (bytesOf 64 (s.draw 512).1)).ownAccess none 31)
      (State.sentOn_trans (u := (s.draw 512).2.setKey ns (bytesOf 64 (s.draw 512).1)) (State.sentOn_of_eq rfl) (State.sentOn_ownAccess ..))
      (State.sentOn_of_eq rfl)
  · split
    · exact State.sentOn_trans (s.sentOn_ownAccess none 31) (State.sentOn_of_eq rfl)
    · exact State.sentOn_trans (s.sentOn_ownAccess none 31) (State.sentOn_of_eq rfl)

theorem State.key_setKey (s : State) (ns : Nat) (v : List Byte) : (s.setKey ns v).key ns = v := Tab.get_put_same ..

theorem State.key_congr (e : t.frc.keys = s.frc.keys) (ns : Nat) : t.key ns = s.key ns := congrArg (NTab.get [] ns) e

theorem State.frc_spaceErrors (s : State) (l : List (Nat × Nat)) : (s.spaceErrors l).frc = s.frc :=
  (State.Local.spaceErrors (State.Local.refl s (fun _ => False) [.ev, .free] (fun _ => False))).same .frc

theorem State.mem_spaceErrors (s : State) (l : List (Nat × Nat)) : s.memSame (s.spaceErrors l) :=
  (State.Local.spaceErrors (State.Local.refl s (fun _ => False) [.ev, .free] (fun _ => False))).memSame

/-- A record past the data space raises event 246. -/
theorem State.spaceErrors_raised {a n : Nat} (lo : bufLo ≤ a) (hi : a < bufEnd) (past : bufHi < a + n) :
    s.raised (s.spaceErrors [(a, n)]) 246 := by
  unfold State.spaceErrors
  rw [List.find?_cons_of_pos (by simp [lo, hi, past])]
  dsimp only
  rw [State.spaceError, if_pos ⟨lo, past, hi⟩]
  have g : s.Raising [] (s.draw 4).2 := .of_eq rfl
  exact g.raised rfl (by decide)

theorem bytesOf_length (n v : Nat) : (bytesOf n v).length = n := by simp [bytesOf]

theorem keyCommandEnd_busy (hb : s.keyBusy ns = true) : (State.keyDone (s.keyWork op ns)).rd .FRC_KSTAT_RESULT = 2 ∧
    (State.keyDone (s.keyWork op ns)).frc.keys = s.frc.keys ∧ s.memSame (State.keyDone (s.keyWork op ns)) := by
  rw [State.keyWork_busy hb]
  obtain ⟨-, -, -, result, frc, -⟩ := State.keyDone_reads (2, s)
  exact ⟨result, by rw [frc], fun _ => rfl⟩

theorem keyCommandEnd_destroy (hb : s.keyBusy ns = false) : (State.keyDone (s.keyWork 3 ns)).rd .FRC_KSTAT_RESULT = 0 ∧
    (State.keyDone (s.keyWork 3 ns)).key ns = [] ∧ s.memSame (State.keyDone (s.keyWork 3 ns)) := by
  rw [State.keyWork_destroy hb]
  obtain ⟨-, -, -, result, frc, -⟩ := State.keyDone_reads (0, s.setKey ns [])
  exact ⟨result, (State.key_congr (by rw [frc]) ns).trans (s.key_setKey ns []), fun _ => rfl⟩

theorem keyCommandEnd_far (hb : s.keyBusy ns = false) (ho : op ≠ 3) (hr : engineReach (s.rd .FRC_KADDR_ADDR) 72 = false) :
    (State.keyDone (s.keyWork op ns)).frc.keys = s.frc.keys ∧ s.memSame (State.keyDone (s.keyWork op ns)) ∧
    (bufLo ≤ s.rd .FRC_KADDR_ADDR → s.rd .FRC_KADDR_ADDR < bufEnd → bufHi < s.rd .FRC_KADDR_ADDR + 72 →
      s.raised (State.keyDone (s.keyWork op ns)) 246) := by
  rw [State.keyWork_far hb ho hr]
  generalize hv : s.spaceErrors [(s.rd .FRC_KADDR_ADDR, 72)] = v
  obtain ⟨-, -, -, -, frc, -⟩ := State.keyDone_reads (v.draw 2)
  refine ⟨?_, fun x => ?_, fun lo hi past => State.keyDone_raised ?_⟩
  · rw [frc, ← s.frc_spaceErrors [(s.rd .FRC_KADDR_ADDR, 72)], hv]
    rfl
  · exact (show (State.keyDone (v.draw 2)).mb x = v.mb x from rfl).trans (hv ▸ s.mem_spaceErrors _ x)
  · exact (hv ▸ State.spaceErrors_raised lo hi past : s.raised v 246)

theorem keyCommandEnd_load (hb : s.keyBusy ns = false) (hr : engineReach (s.rd .FRC_KADDR_ADDR) 72 = true) :
    s.memSame (State.keyDone (s.keyWork 2 ns)) ∧
    (∀ key, keyUnwrap Config.wrapKey (s.mbs (s.rd .FRC_KADDR_ADDR) 72) = some key →
      (State.keyDone (s.keyWork 2 ns)).rd .FRC_KSTAT_RESULT = 0 ∧ (State.keyDone (s.keyWork 2 ns)).key ns = key) ∧
    (keyUnwrap Config.wrapKey (s.mbs (s.rd .FRC_KADDR_ADDR) 72) = none → (State.keyDone (s.keyWork 2 ns)).rd .FRC_KSTAT_RESULT = 1 ∧
      (State.keyDone (s.keyWork 2 ns)).frc.keys = s.frc.keys ∧ NSet.has ns (State.keyDone (s.keyWork 2 ns)).frc.lost = true) := by
  cases hw : keyUnwrap Config.wrapKey (s.mbs (s.rd .FRC_KADDR_ADDR) 72) with
  | some key =>
    rw [State.keyWork_load hb hr hw]
    obtain ⟨-, -, -, result, frc, -⟩ := State.keyDone_reads (0, (s.ownAccess none 31).setKey ns key)
    refine ⟨fun _ => rfl, fun key' e => ?_, fun n => by simp at n⟩
    injection e with e
    exact ⟨result, (State.key_congr (by rw [frc]) ns).trans (((s.ownAccess none 31).key_setKey ns key).trans e)⟩
  | none =>
    rw [State.keyWork_lost hb hr hw]
    obtain ⟨-, -, -, result, frc, -⟩ := State.keyDone_reads (1, (s.ownAccess none 31).loseKey ns)
    refine ⟨fun _ => rfl, fun key' e => by simp at e, fun _ => ⟨result, by rw [frc]; rfl, ?_⟩⟩
    rw [frc]
    show NSet.has ns (NSet.add ns s.frc.lost) = true
    rw [NSet.has_add, decide_eq_true rfl, Bool.true_or]

theorem keyCommandEnd_generate (hb : s.keyBusy ns = false) (hr : engineReach (s.rd .FRC_KADDR_ADDR) 72 = true) :
    (State.keyDone (s.keyWork 1 ns)).rd .FRC_KSTAT_RESULT = 0 ∧ ((State.keyDone (s.keyWork 1 ns)).key ns).length = 64 ∧
    (State.keyDone (s.keyWork 1 ns)).mbs (s.rd .FRC_KADDR_ADDR) (keyWrap Config.wrapKey ((State.keyDone (s.keyWork 1 ns)).key ns)).length =
      keyWrap Config.wrapKey ((State.keyDone (s.keyWork 1 ns)).key ns) ∧
    s.memBut (State.keyDone (s.keyWork 1 ns)) (s.rd .FRC_KADDR_ADDR)
      (keyWrap Config.wrapKey ((State.keyDone (s.keyWork 1 ns)).key ns)).length := by
  rw [State.keyWork_generate hb hr]
  generalize hv : (((s.draw 512).2).setKey ns s.drawnKey).ownAccess none 31 = v
  have key : v.key ns = s.drawnKey := by
    rw [← hv]
    exact (State.key_congr rfl ns).trans ((s.draw 512).2.key_setKey ns s.drawnKey)
  have mem (x : Nat) : v.mb x = s.mb x := by rw [← hv]; rfl
  generalize hz : v.busWrite (s.rd .FRC_KADDR_ADDR) (keyWrap Config.wrapKey s.drawnKey) false = z
  obtain ⟨-, -, -, result, frc, -⟩ := State.keyDone_reads (0, z)
  have done : (State.keyDone (0, z)).key ns = s.drawnKey := (State.key_congr (by rw [frc, ← hz]; rfl) ns).trans key
  have bytes (x : Nat) : (State.keyDone (0, z)).mb x = z.mb x := rfl
  rw [done]
  refine ⟨result, bytesOf_length .., ?_, fun x hx => ?_⟩
  · rw [State.mbs_congr (s := z) (fun x _ _ => bytes x), ← hz]
    exact State.mbs_busWrite_same (engineReach_low hr)
  · rw [bytes, ← hz, State.mb_busWrite_other hx, mem]

end

end Sys2Proof.Machine
end

section
/-! PROOFS. The end of a coder lane's job (R306, R312, R313, R318): its fields, its frames in buffer memory, and what goes on the
fabric. -/

set_option Elab.async false

namespace Sys2Proof.Machine

variable {s t u : State} {k : Nat}

/-- What the end of a job writes of its lane. -/
def jobRegs : List Reg :=
  [.FRC_LSTAT_STATE, .FRC_LSTAT_OVER, .FRC_LSTAT_POS, .FRC_LSTAT_PHASEOUT, .FRC_LSTAT_VERR, .FRC_LCNT_NESC, .FRC_LCNT_NSLOT]

/-- The parts that the end of a job changes. -/
abbrev jobParts : List Part := [.ev, .poison, .free, .out]

/-- Only what the end of lane k's job writes differs, memory apart. -/
abbrev State.Ended (s t : State) (k : Nat) : Prop := s.Local t (ofUnit jobRegs k) jobParts (fun _ => True)

/-! ### The fields of an encode job -/

/-- The encode job as it ends: with CLOSE no unit is left open. -/
def State.laneClosed (s : State) (k : Nat) : Enc :=
  if s.bit .FRC_LCTL_CLOSE k then (s.laneEncode k).1.close (s.laneClass k) else (s.laneEncode k).1

/-- The sectors that an encode job puts out. -/
def State.laneSectors (s : State) (k : Nat) : List OutSector :=
  (s.laneClosed k).out ++ unitOut (s.laneClass k) (s.laneClosed k).slots (s.laneClosed k).lba

/-- The LBAs of an encode job's poisoned blocks. -/
def State.laneBad (s : State) (k : Nat) : List Nat :=
  let inp := (s.lane k).input.take (s.laneBlocks k)
  ((List.range inp.length).filter (fun i => (inp.getD i ([], false)).2)).map (fun i => s.rd .FRC_LLBA_LBA k + i)

/-- The accesses of an encode job's output and of the unit it continues. -/
def State.laneSpans (s : State) (k : Nat) : List (Nat × Nat) :=
  (List.range (s.laneSectors k).length).map (fun i => (s.rd .FRC_LOUT_ADDR k + 4160 * i, 4128)) ++
    (List.range (unitSectors (s.laneClass k) (s.laneUnit k).slots.length)).map (fun t => (s.rd .FRC_LUNIT_ADDR k + 4160 * t, 4096))

/-- Some of them is out of the coder's reach. -/
def State.laneFar (s : State) (k : Nat) : Bool :=
  (List.range (s.laneSectors k).length).any (fun i => !engineReach (s.rd .FRC_LOUT_ADDR k + 4160 * i) 4128) ||
    (List.range (unitSectors (s.laneClass k) (s.laneUnit k).slots.length)).any
      (fun t => !engineReach (s.rd .FRC_LUNIT_ADDR k + 4160 * t) 4096)

/-- The fields that an encode job leaves. -/
def State.encodeFields (s : State) (k : Nat) (e : Enc) (stops : Bool) (pos : Nat) : State :=
  let s := ((s.wr .FRC_LSTAT_STATE 2 k).wrb .FRC_LSTAT_OVER stops k).wr .FRC_LSTAT_POS pos k
  ((s.wr .FRC_LSTAT_PHASEOUT e.slots.length k).wr .FRC_LCNT_NESC e.nesc k).wr .FRC_LCNT_NSLOT e.nslot k

/-- The output of an encode job in memory. -/
def State.encodeOut (s : State) (k : Nat) : State :=
  let v := s.ownAccesses none 31 (unitSectors (s.laneClass k) (s.laneUnit k).slots.length + (s.laneSectors k).length)
  let v := (s.laneClosed k).failed.foldl (fun s l => s.raise 317 [(1, k), (1, s.rd .FRC_LCTL_NSIDX k), (8, l)]) v
  v.laneFrames k (s.laneSectors k) (s.laneBad k) (s.unitBad k)

theorem State.encodeEnd_eq (s : State) (k : Nat) : s.encodeEnd k =
    if s.laneFar k then (s.spaceErrors (s.laneSpans k)).wr .FRC_LSTAT_STATE 3 k
    else (s.encodeOut k).encodeFields k (s.laneClosed k) (s.laneEncode k).2
      ((s.laneClosed k).pos (s.laneClass k) - (s.laneUnit k).pos (s.laneClass k)) := rfl

theorem State.Local.ownAccesses {K : RKey → Prop} {P : List Part} {M : Nat → Prop} {kind : Option Nat} {head : Nat} (n : Nat)
    (w : s.Local u K P M) (hf : .free ∈ P := by decide) (ho : .out ∈ P := by decide) : s.Local (u.ownAccesses kind head n) K P M := by
  induction n generalizing u with
  | zero => exact w
  | succ n ih => exact ih (w.ownAccess hf ho)

theorem State.sentOn_ownAccesses (kind : Option Nat) (head n : Nat) (s : State) : s.sentOn (s.ownAccesses kind head n) [] := by
  induction n generalizing s with
  | zero => exact s.sentOn_refl
  | succ n ih => exact State.sentOn_trans (s.sentOn_ownAccess kind head) (ih _)

theorem State.encodeOut_local (s : State) (k : Nat) : s.Local (s.encodeOut k) (fun _ => False) jobParts (fun _ => True) := by
  have a := (State.Local.refl s (fun _ => False) jobParts (fun _ => True)).ownAccesses (kind := none) (head := 31)
    (unitSectors (s.laneClass k) (s.laneUnit k).slots.length + (s.laneSectors k).length)
  have f := a.foldl (f := fun s l => s.raise 317 [(1, k), (1, s.rd .FRC_LCTL_NSIDX k), (8, l)]) (l := (s.laneClosed k).failed)
    (fun _ _ _ w => w.raise)
  exact f.foldl (fun _ _ _ w => w.busWrite (fun _ _ _ => trivial))

theorem State.laneFrames_out (s : State) (k : Nat) (out : List OutSector) (bad ub : List Nat) : (s.laneFrames k out bad ub).out = s.out :=
  State.Local.same (P := [.poison]) (K := fun _ => False) (M := fun _ => True)
    ((State.Local.refl ..).foldl (fun _ _ _ w => w.busWrite (fun _ _ _ => trivial))) .out

theorem State.encodeOut_sent (s : State) (k : Nat) : s.sentOn (s.encodeOut k) [] := by
  refine State.sentOn_trans (s.sentOn_ownAccesses none 31
    (unitSectors (s.laneClass k) (s.laneUnit k).slots.length + (s.laneSectors k).length)) (State.sentOn_trans ?_
      (State.sentOn_of_eq (State.laneFrames_out ..)))
  exact State.sentOn_foldl (fun v l => State.sentOn_of_eq (State.out_raise ..)) _

theorem State.encodeFields_local (s : State) (k : Nat) (e : Enc) (stops : Bool) (pos : Nat) :
    s.Local (s.encodeFields k e stops pos) (ofUnit jobRegs k) [] (fun _ => False) := by
  unfold State.encodeFields
  exact ((((((State.Local.refl ..).wr ofUnit_mk).wr ofUnit_mk).wr ofUnit_mk).wr ofUnit_mk).wr ofUnit_mk).wr ofUnit_mk

theorem State.encodeFields_reads (s : State) (k : Nat) (e : Enc) (stops : Bool) (pos : Nat) :
    (s.encodeFields k e stops pos).rd .FRC_LSTAT_STATE k = 2 ∧ (s.encodeFields k e stops pos).bit .FRC_LSTAT_OVER k = stops ∧
    (s.encodeFields k e stops pos).rd .FRC_LSTAT_POS k = pos % 2 ^ 17 ∧
    (s.encodeFields k e stops pos).rd .FRC_LSTAT_PHASEOUT k = e.slots.length % 4 ∧
    (s.encodeFields k e stops pos).rd .FRC_LCNT_NESC k = e.nesc % 2 ^ 12 := by
  unfold State.encodeFields
  dsimp only [State.wrb]
  refine ⟨?_, ?_, ?_, ?_, ?_⟩
  · rw [State.rd_wr_ne _ _ (by decide), State.rd_wr_ne _ _ (by decide), State.rd_wr_ne _ _ (by decide), State.rd_wr_ne _ _ (by decide),
      State.rd_wr_ne _ _ (by decide)]
    exact State.rd_wr_same ..
  · rw [State.bit, State.rd_wr_ne _ _ (by decide), State.rd_wr_ne _ _ (by decide), State.rd_wr_ne _ _ (by decide),
      State.rd_wr_ne _ _ (by decide), State.rd_wr_same]
    cases stops <;> rfl
  · rw [State.rd_wr_ne _ _ (by decide), State.rd_wr_ne _ _ (by decide), State.rd_wr_ne _ _ (by decide)]
    exact State.rd_wr_same ..
  · rw [State.rd_wr_ne _ _ (by decide), State.rd_wr_ne _ _ (by decide)]
    exact State.rd_wr_same ..
  · rw [State.rd_wr_ne _ _ (by decide)]
    exact State.rd_wr_same ..

theorem Enc.close_slots (cls : Nat) (e : Enc) : (e.close cls).slots = [] := by
  unfold Enc.close
  split
  next h => exact h
  next => rfl

/-- An encode job ends done or in error, and with CLOSE leaves no unit open. -/
theorem State.encodeEnd_fields (s : State) (k : Nat) :
    ((s.encodeEnd k).rd .FRC_LSTAT_STATE k = 3) ∨ ((s.encodeEnd k).rd .FRC_LSTAT_STATE k = 2 ∧
      (s.encodeEnd k).bit .FRC_LSTAT_OVER k = (s.laneEncode k).2 ∧
      (s.bit .FRC_LCTL_CLOSE k = true → (s.encodeEnd k).rd .FRC_LSTAT_PHASEOUT k = 0)) := by
  rw [State.encodeEnd_eq]
  split
  · exact .inl (State.rd_wr_same ..)
  · obtain ⟨state, stops, -, phase, -⟩ := (s.encodeOut k).encodeFields_reads k (s.laneClosed k) (s.laneEncode k).2
      ((s.laneClosed k).pos (s.laneClass k) - (s.laneUnit k).pos (s.laneClass k))
    refine .inr ⟨state, stops, fun c => ?_⟩
    rw [phase, State.laneClosed, if_pos c, Enc.close_slots]
    rfl

theorem State.encodeEnd_local (s : State) (k : Nat) : s.Ended (s.encodeEnd k) k := by
  rw [State.encodeEnd_eq]
  refine .ite ((State.Local.refl ..).spaceErrors.wr ofUnit_mk) ?_
  have o : s.Ended (s.encodeOut k) k := (s.encodeOut_local k).mono (fun _ m => m.elim)
  exact o.andThen (State.encodeFields_local ..) (hM := fun _ m => m.elim)

theorem State.encodeEnd_sent (s : State) (k : Nat) : s.sentOn (s.encodeEnd k) [] := by
  rw [State.encodeEnd_eq]
  split
  · exact State.sentOn_of_eq (State.out_spaceErrors ..)
  · exact State.sentOn_trans (s.encodeOut_sent k) (State.sentOn_of_eq ((State.encodeFields_local ..).same .out))

/-! ### A decode job -/

/-- One block of a decode job, with its access. -/
def State.decodeStep (s : State) (k : Nat) (bs : List DecBlock) (i : Nat) : State :=
  (s.ownAccess none 31).laneBlock k i (bs.getD i (.inr 3))

theorem State.decodeEnd_eq (s : State) (k : Nat) : s.decodeEnd k =
    if !engineReach (s.rd .FRC_LOUT_ADDR k) (4096 * (s.laneDecode k).1.length) then
      (s.spaceErrors [(s.rd .FRC_LOUT_ADDR k, 4096 * (s.laneDecode k).1.length)]).wr .FRC_LSTAT_STATE 3 k
    else ((List.range (s.laneDecode k).1.length).foldl (fun v i => v.decodeStep k (s.laneDecode k).1 i) s).wr .FRC_LSTAT_STATE 2 k := rfl

/-- One block stored, or poison where it failed. -/
theorem State.laneBlock_local (s : State) (k i : Nat) (b : DecBlock) (hb : ∀ x, b = .inl x → x.length = 4096) :
    s.Local (s.laneBlock k i b) (ofUnit [.FRC_LSTAT_VERR] k) [.ev, .poison]
      (fun x => s.rd .FRC_LOUT_ADDR k + 4096 * i ≤ x ∧ x < s.rd .FRC_LOUT_ADDR k + 4096 * i + 4096) := by
  unfold State.laneBlock
  dsimp only
  split
  next x =>
    exact (State.Local.refl ..).busWrite (fun y lo hi => ⟨lo, by rwa [hb x rfl] at hi⟩)
  next c =>
    split
    · exact (State.Local.refl ..).setPoison
    · exact ((State.Local.refl ..).setPoison.wr ofUnit_mk).raise

theorem State.laneBlock_out (s : State) (k i : Nat) (b : DecBlock) : (s.laneBlock k i b).out = s.out := by
  unfold State.laneBlock
  dsimp only
  split
  · rfl
  · split
    · rfl
    · exact State.out_raise ..

/-- What the first blocks of a decode job have made of the state. -/
structure State.Decoded (s v : State) (k : Nat) (bs : List DecBlock) (m : Nat) : Prop where
  frame : s.Local v (ofUnit [.FRC_LSTAT_VERR] k) jobParts
    (fun x => s.rd .FRC_LOUT_ADDR k ≤ x ∧ x < s.rd .FRC_LOUT_ADDR k + 4096 * m)
  sent : s.sentOn v []
  good : ∀ i b, i < m → bs[i]? = some (.inl b) → v.mbs (s.rd .FRC_LOUT_ADDR k + 4096 * i) 4096 = b
  bad : ∀ i c, i < m → bs[i]? = some (.inr c) → NSet.has ((s.rd .FRC_LOUT_ADDR k + 4096 * i) / 64) v.poison = true ∧
    (c ≠ 3 → v.rd .FRC_LSTAT_VERR k = 1)

/-- The first line of a range is one of its lines. -/
theorem mem_linesOf_first {a n : Nat} (h : 0 < n) : a / 64 ∈ linesOf a n := by
  unfold linesOf
  exact List.mem_map.2 ⟨0, List.mem_range.2 (by omega), rfl⟩

/-- A store or a poison mark behind it leaves a line poisoned. -/
theorem State.laneBlock_keeps {a i : Nat} {b : DecBlock} (hk : NSet.has (a / 64) s.poison = true)
    (ha : a < s.rd .FRC_LOUT_ADDR k + 4096 * i) : NSet.has (a / 64) (s.laneBlock k i b).poison = true := by
  unfold State.laneBlock
  dsimp only
  split
  · refine State.has_busWrite hk ?_
    unfold coversLine
    rw [decide_eq_false (by omega), Bool.false_and]
  · have h : NSet.has (a / 64) (s.setPoison (s.rd .FRC_LOUT_ADDR k + 4096 * i) 4096 true).poison = true :=
      NSet.has_foldl_add (.inr hk)
    split
    · exact h
    · rw [State.raise_eq]
      exact h

theorem State.laneBlock_verr {i : Nat} {b : DecBlock} (hv : s.rd .FRC_LSTAT_VERR k = 1) :
    (s.laneBlock k i b).rd .FRC_LSTAT_VERR k = 1 := by
  unfold State.laneBlock
  dsimp only
  split
  · exact hv
  · split
    · exact hv
    · rw [State.rd_raise]
      exact State.rd_wr_same ..

/-- A failed block. -/
theorem State.laneBlock_bad (s : State) (k i c : Nat) :
    NSet.has ((s.rd .FRC_LOUT_ADDR k + 4096 * i) / 64) (s.laneBlock k i (.inr c)).poison = true ∧
    (c ≠ 3 → (s.laneBlock k i (.inr c)).rd .FRC_LSTAT_VERR k = 1) := by
  have h : NSet.has ((s.rd .FRC_LOUT_ADDR k + 4096 * i) / 64) (s.setPoison (s.rd .FRC_LOUT_ADDR k + 4096 * i) 4096 true).poison = true :=
    NSet.has_foldl_add (.inl (mem_linesOf_first (by decide)))
  unfold State.laneBlock
  dsimp only
  split
  next e => exact ⟨h, fun n => absurd e n⟩
  next =>
    refine ⟨by rw [State.raise_eq]; exact h, fun _ => ?_⟩
    rw [State.rd_raise]
    exact State.rd_wr_same ..

/-- One block more. -/
theorem State.Decoded.step {v : State} {bs : List DecBlock} {m : Nat} (d : s.Decoded v k bs m) (hm : m < bs.length)
    (hl : ∀ b, .inl b ∈ bs → b.length = 4096) (ha : 0x20000 ≤ s.rd .FRC_LOUT_ADDR k) : s.Decoded (v.decodeStep k bs m) k bs (m + 1) := by
  obtain ⟨frame, sent, good, bad⟩ := d
  generalize hu : v.ownAccess none 31 = u
  have uf : v.Local u (fun _ => False) [.free, .out] (fun _ => False) := hu ▸ (State.Local.refl ..).ownAccess
  have out : u.rd .FRC_LOUT_ADDR k = s.rd .FRC_LOUT_ADDR k :=
    (uf.rd .FRC_LOUT_ADDR k 0 id).trans (frame.rd .FRC_LOUT_ADDR k 0 not_ofUnit)
  have get : bs.getD m (.inr 3) = bs[m] := by simp [hm]
  have len : ∀ x, bs[m] = .inl x → x.length = 4096 := fun x e => hl x (e ▸ List.getElem_mem hm)
  have step := u.laneBlock_local k m bs[m] len
  rw [out] at step
  unfold State.decodeStep
  rw [get, hu]
  have away {i : Nat} (hi : i < m) : (u.laneBlock k m bs[m]).mbs (s.rd .FRC_LOUT_ADDR k + 4096 * i) 4096 =
      v.mbs (s.rd .FRC_LOUT_ADDR k + 4096 * i) 4096 :=
    State.mbs_congr (fun x lo hx => (step.mem x (by omega)).trans (uf.mem x id))
  refine ⟨?_, ?_, fun i b hi e => ?_, fun i c hi e => ?_⟩
  · have grown : s.Local v (ofUnit [.FRC_LSTAT_VERR] k) jobParts
        (fun x => s.rd .FRC_LOUT_ADDR k ≤ x ∧ x < s.rd .FRC_LOUT_ADDR k + 4096 * (m + 1)) := frame.mono (hM := fun x h => ⟨h.1, by omega⟩)
    exact (grown.andThen uf (fun _ n => n.elim) (hM := fun _ n => n.elim)).andThen step (hM := fun x h => ⟨by omega, by omega⟩)
  · exact State.sentOn_trans (State.sentOn_trans sent (hu ▸ v.sentOn_ownAccess none 31)) (State.sentOn_of_eq (State.laneBlock_out ..))
  · rcases Nat.lt_succ_iff_lt_or_eq.1 hi with hi | rfl
    · rw [away hi, good i b hi e]
    · have e : bs[i] = .inl b := by simpa [hm] using e
      rw [e, State.laneBlock]
      rw [out, ← len b e]
      exact State.mbs_busWrite_same (by omega)
  · rcases Nat.lt_succ_iff_lt_or_eq.1 hi with hi | rfl
    · obtain ⟨p, n⟩ := bad i c hi e
      have p : NSet.has ((s.rd .FRC_LOUT_ADDR k + 4096 * i) / 64) u.poison = true := by
        rw [show u.poison = v.poison from uf.same .poison]
        exact p
      exact ⟨State.laneBlock_keeps p (by omega), fun h3 => State.laneBlock_verr ((uf.rd .FRC_LSTAT_VERR k 0 id).trans (n h3))⟩
    · have e : bs[i] = .inr c := by simpa [hm] using e
      have b := u.laneBlock_bad k i c
      rw [out] at b
      rwa [e]

theorem State.decoded (s : State) (k : Nat) (bs : List DecBlock) (hl : ∀ b, .inl b ∈ bs → b.length = 4096)
    (ha : 0x20000 ≤ s.rd .FRC_LOUT_ADDR k) (m : Nat) (hm : m ≤ bs.length) :
    s.Decoded ((List.range m).foldl (fun v i => v.decodeStep k bs i) s) k bs m := by
  induction m with
  | zero => exact ⟨.refl .., s.sentOn_refl, fun i b h => absurd h (by omega), fun i c h => absurd h (by omega)⟩
  | succ m ih =>
    rw [List.range_succ, List.foldl_append]
    exact (ih (by omega)).step (by omega) hl ha

theorem State.decodeStep_local (s : State) (k : Nat) (bs : List DecBlock) (i : Nat) : s.Ended (s.decodeStep k bs i) k := by
  have a : s.Ended (s.ownAccess none 31) k := (State.Local.refl ..).ownAccess
  unfold State.decodeStep State.laneBlock
  dsimp only
  split
  · exact a.busWrite (fun _ _ _ => trivial)
  · split
    · exact a.setPoison
    · exact (a.setPoison.wr ofUnit_mk).raise

theorem State.decodeEnd_local (s : State) (k : Nat) : s.Ended (s.decodeEnd k) k := by
  rw [State.decodeEnd_eq]
  refine .ite ((State.Local.refl ..).spaceErrors.wr ofUnit_mk) ?_
  exact ((State.Local.refl ..).foldl (fun v i _ w => w.trans (v.decodeStep_local k _ i))).wr ofUnit_mk

theorem State.decodeEnd_sent (s : State) (k : Nat) : s.sentOn (s.decodeEnd k) [] := by
  rw [State.decodeEnd_eq]
  split
  · exact State.sentOn_of_eq (State.out_spaceErrors ..)
  · refine State.sentOn_trans (State.sentOn_foldl (fun v i => ?_) s) (State.sentOn_of_eq rfl)
    exact State.sentOn_trans (v.sentOn_ownAccess none 31) (State.sentOn_of_eq (State.laneBlock_out ..))

theorem State.decodeEnd_state (s : State) (k : Nat) : (s.decodeEnd k).rd .FRC_LSTAT_STATE k = 2 ∨ (s.decodeEnd k).rd .FRC_LSTAT_STATE k = 3 := by
  rw [State.decodeEnd_eq]
  split
  · exact .inr (State.rd_wr_same ..)
  · exact .inl (State.rd_wr_same ..)

/-! ### FRC_JOB_END -/

/-- The job's end, without its event. -/
def State.laneEnded (s : State) (k : Nat) : State := if s.bit .FRC_LCTL_OP k then s.decodeEnd k else s.encodeEnd k

theorem exec_frcJobEnd_eq (k : Fin 8) : exec (.frcJobEnd k) s = .next (s.on (s.rd .FRC_LSTAT_STATE k == 1 && s.laneFull k)
    (fun s => (s.laneEnded k).edge (474 + k))) := rfl

theorem exec_frcJobEnd_next (k : Fin 8) (hs : s.rd .FRC_LSTAT_STATE k = 1) (hf : s.laneFull k = true) :
    exec (.frcJobEnd k) s = .next ((s.laneEnded k).edge (474 + k)) := (exec_frcJobEnd_eq k).trans (next_on (by simp [hs, hf]))

theorem State.edge_raised (s : State) (n : Nat) : NSet.has n (s.edge n).ev.edge = true := by
  show NSet.has n (NSet.add n s.ev.edge) = true
  rw [NSet.has_add, decide_eq_true rfl, Bool.true_or]

/-- Whatever its job, a lane ends done or in error, and only its own fields change. -/
theorem exec_frcJobEnd (k : Fin 8) (hs : s.rd .FRC_LSTAT_STATE k = 1) (hf : s.laneFull k = true) :
    ∃ t, exec (.frcJobEnd k) s = .next t ∧ NSet.has (474 + k) t.ev.edge = true ∧
      (t.rd .FRC_LSTAT_STATE k = 2 ∨ t.rd .FRC_LSTAT_STATE k = 3) ∧ s.keeps t [.ev, .poison, .free, .out] ∧ s.sentOn t [] ∧
      s.keysBut t (fun x => x.reg ∈ jobRegs ∧ x.i = k) ∧
      (s.bit .FRC_LCTL_OP k = false → t.rd .FRC_LSTAT_STATE k = 2 → t.bit .FRC_LSTAT_OVER k = (s.laneEncode k).2 ∧
        (s.bit .FRC_LCTL_CLOSE k = true → t.rd .FRC_LSTAT_PHASEOUT k = 0)) := by
  refine ⟨_, exec_frcJobEnd_next k hs hf, State.edge_raised .., ?_⟩
  have w : s.Ended (s.laneEnded k) k := .ite (s.decodeEnd_local k) (s.encodeEnd_local k)
  have e : s.Ended ((s.laneEnded k).edge (474 + k)) k := w.edge
  have sent : s.sentOn ((s.laneEnded k).edge (474 + k)) [] := by
    refine State.sentOn_trans (u := s.laneEnded k) ?_ (State.sentOn_of_eq rfl)
    unfold State.laneEnded
    split
    · exact s.decodeEnd_sent k
    · exact s.encodeEnd_sent k
  simp only [State.rd_edge, State.bit_edge]
  refine ⟨?_, e.keeps, sent, e.keys, fun op => ?_⟩
  · unfold State.laneEnded
    split
    · exact s.decodeEnd_state k
    · exact (s.encodeEnd_fields k).symm.imp (fun h => h.1) id
  · unfold State.laneEnded
    rw [if_neg (by simp [op])]
    rcases s.encodeEnd_fields k with h | ⟨-, stops, phase⟩
    · exact fun h2 => absurd (h.symm.trans h2) (by decide)
    · exact fun _ => ⟨stops, phase⟩

/-- A decode job whose output is within reach. -/
theorem exec_frcJobEnd_decode (k : Fin 8) (hs : s.rd .FRC_LSTAT_STATE k = 1) (ho : s.bit .FRC_LCTL_OP k = true)
    (hn : (s.laneDecode k).2 = false) (hr : engineReach (s.rd .FRC_LOUT_ADDR k) (4096 * (s.laneDecode k).1.length) = true)
    (hl : ∀ b, .inl b ∈ (s.laneDecode k).1 → b.length = 4096) :
    ∃ t, exec (.frcJobEnd k) s = .next t ∧ NSet.has (474 + k) t.ev.edge = true ∧ t.rd .FRC_LSTAT_STATE k = 2 ∧
      s.memBut t (s.rd .FRC_LOUT_ADDR k) (4096 * (s.laneDecode k).1.length) ∧
      (∀ i b, (s.laneDecode k).1[i]? = some (.inl b) → t.mbs (s.rd .FRC_LOUT_ADDR k + 4096 * i) 4096 = b) ∧
      (∀ i c, (s.laneDecode k).1[i]? = some (.inr c) → t.poisoned (s.rd .FRC_LOUT_ADDR k + 4096 * i) 4096 = true ∧
        (c ≠ 3 → t.rd .FRC_LSTAT_VERR k = 1)) := by
  have full : s.laneFull k = true := by
    unfold State.laneFull
    rw [if_pos ho, hn]
    rfl
  refine ⟨_, exec_frcJobEnd_next k hs full, State.edge_raised .., ?_⟩
  obtain ⟨frame, -, good, bad⟩ := s.decoded k (s.laneDecode k).1 hl (engineReach_low hr) (s.laneDecode k).1.length le_rfl
  unfold State.laneEnded
  rw [if_pos ho, State.decodeEnd_eq, if_neg (by simp [hr])]
  generalize (List.range (s.laneDecode k).1.length).foldl (fun v i => v.decodeStep k (s.laneDecode k).1 i) s = v at frame good bad ⊢
  have bytes (x : Nat) : ((v.wr .FRC_LSTAT_STATE 2 k).edge (474 + k)).mb x = v.mb x := rfl
  have marks : ((v.wr .FRC_LSTAT_STATE 2 k).edge (474 + k)).poison = v.poison := rfl
  have verr : ((v.wr .FRC_LSTAT_STATE 2 k).edge (474 + k)).rd .FRC_LSTAT_VERR k = v.rd .FRC_LSTAT_VERR k := by
    rw [State.rd_edge, State.rd_wr_ne _ _ (by decide)]
  have bound {i : Nat} {x : DecBlock} (e : (s.laneDecode k).1[i]? = some x) : i < (s.laneDecode k).1.length :=
    (List.getElem?_eq_some_iff.1 e).1
  refine ⟨by rw [State.rd_edge]; exact State.rd_wr_same .., fun x hx => (bytes x).trans (frame.mem x (by omega)), fun i b e => ?_,
    fun i c e => ?_⟩
  · rw [State.mbs_congr (fun x _ _ => bytes x)]
    exact good i b (bound e) e
  · obtain ⟨p, n⟩ := bad i c (bound e) e
    refine ⟨?_, fun h3 => verr.trans (n h3)⟩
    unfold State.poisoned
    rw [marks]
    exact List.any_eq_true.2 ⟨_, mem_linesOf_first (by decide), p⟩

end Sys2Proof.Machine
end

section
/-! PROOFS. An encode job of class 0 without encryption: each block and its tag in buffer memory (R305, R306), and the obligation on
the coder. -/

set_option Elab.async false

namespace Sys2Proof.Machine

variable {s t u : State} {k : Nat}

/-- The sectors of blocks stored whole, from an LBA on. -/
def plainSectors (useal : Nat → List Byte → List Byte) : Nat → List (List Byte) → List OutSector
  | _, [] => []
  | lba, b :: l => ⟨useal lba b, lba, false, 1⟩ :: plainSectors useal (lba + 1) l

theorem plainSectors_length (useal : Nat → List Byte → List Byte) (lba : Nat) (l : List (List Byte)) :
    (plainSectors useal lba l).length = l.length := by
  induction l generalizing lba with
  | nil => rfl
  | cons b l ih => simp [plainSectors, ih]

theorem plainSectors_get (useal : Nat → List Byte → List Byte) (lba : Nat) (l : List (List Byte)) (i : Nat) :
    (plainSectors useal lba l)[i]? = l[i]?.map (fun b => ⟨useal (lba + i) b, lba + i, false, 1⟩) := by
  induction l generalizing lba i with
  | nil => rfl
  | cons b l ih =>
    cases i with
    | zero => rfl
    | succ i =>
      rw [plainSectors, List.getElem?_cons_succ, List.getElem?_cons_succ, ih, Nat.add_right_comm]
      rfl

/-- A job of class 0 within its budget puts every block out whole. -/
theorem Enc.run_plain (useal : Nat → List Byte → List Byte) (limit lba : Nat) (l : List (List Byte)) (e : Enc) (hs : e.slots = [])
    (hl : e.out.length + l.length ≤ limit) :
    Enc.run 0 useal limit lba l e = ({ e with out := e.out ++ plainSectors useal lba l }, false) := by
  induction l generalizing lba e with
  | nil =>
    cases e
    simp [Enc.run, plainSectors]
  | cons b l ih =>
    have block : e.block 0 useal lba b = { e with out := e.out ++ [⟨useal lba b, lba, false, 1⟩] } := rfl
    have pos : (e.block 0 useal lba b).pos 0 = e.out.length + 1 := by
      rw [block]
      simp [Enc.pos, hs, unitSectors]
    rw [List.length_cons] at hl
    unfold Enc.run
    dsimp only
    rw [pos, if_neg (by omega), ih (lba + 1) _ (by rw [block]; exact hs) (by rw [block]; simp; omega), block]
    simp [plainSectors]

/-! ### The frames of an encode job in memory -/

/-- The bytes of an output frame. -/
def State.frameBytes (s : State) (k : Nat) (x : OutSector) : List Byte :=
  x.data ++ State.laneFrames.tagBytes x.lba (s.rd .FRC_LCTL_NSIDX k) (s.laneClass k + 4 * b2n x.esc) (s.rd .FRC_LID_BANDSEQ k) ++
    List.replicate 20 0

/-- Frames stored 4,160 bytes apart do not touch one another. -/
theorem State.foldl_busWrite_mbs (base : Nat) (bytes : Nat → List Byte) (p : Nat → Bool) (hb : 0x20000 ≤ base) (s : State) (n : Nat)
    (hl : ∀ i, i < n → (bytes i).length = 4128) {i : Nat} (hi : i < n) :
    ((List.range n).foldl (fun s i => s.busWrite (base + 4160 * i) (bytes i) (p i)) s).mbs (base + 4160 * i) 4128 = bytes i := by
  induction n with
  | zero => exact absurd hi (by omega)
  | succ n ih =>
    rw [List.range_succ, List.foldl_append, List.foldl_cons, List.foldl_nil]
    have len := hl n (by omega)
    rcases Nat.lt_succ_iff_lt_or_eq.1 hi with h | rfl
    · rw [State.mbs_congr (fun x lo hx => State.mb_busWrite_other (by omega))]
      exact ih (fun j hj => hl j (by omega)) h
    · conv_lhs => rw [← len]
      exact State.mbs_busWrite_same (by omega)

/-- Two folds agree where their steps do on the states that one of them runs through. -/
theorem State.foldl_congr {α : Type} {P : State → Prop} {f g : State → α → State} (h : ∀ v a, P v → f v a = g v a)
    (hp : ∀ v a, P v → P (g v a)) (l : List α) (v : State) (hv : P v) : l.foldl f v = l.foldl g v := by
  induction l generalizing v with
  | nil => rfl
  | cons a l ih => rw [List.foldl_cons, List.foldl_cons, h v a hv, ih _ (hp v a hv)]

/-- A frame holds a block or a unit's sector flagged POISON. -/
def OutSector.marked (x : OutSector) (i : Nat) (bad ub : List Nat) : Bool :=
  ub.contains i || bad.any (fun l => decide (x.lba ≤ l) && decide (l < x.lba + x.n))

/-- The store of a frame reads its lane's fields as the job found them. -/
theorem State.laneFrames_eq (s : State) (k : Nat) (out : List OutSector) (bad ub : List Nat) : s.laneFrames k out bad ub =
    (List.range out.length).foldl (fun v i => v.busWrite (s.rd .FRC_LOUT_ADDR k + 4160 * i) (s.frameBytes k (out.getD i ⟨[], 0, false, 0⟩))
      ((out.getD i ⟨[], 0, false, 0⟩).marked i bad ub)) s := by
  unfold State.laneFrames
  refine State.foldl_congr (P := fun v => v.regs = s.regs) (fun v i hv => ?_) (fun v i => ?_) _ s rfl
  · have rd (r : Reg) : v.rd r k = s.rd r k := congrArg BitVec.toNat (State.rdW_congr hv r k 0)
    dsimp only
    rw [rd, rd, rd]
    rfl
  · exact id

theorem tagBytes_length (lba nsidx sflags bandseq : Nat) : (State.laneFrames.tagBytes lba nsidx sflags bandseq).length = 12 := by
  simp [State.laneFrames.tagBytes, leBytes_length]

theorem State.frameBytes_length {x : OutSector} (h : x.data.length = 4096) : (s.frameBytes k x).length = 4128 := by
  unfold State.frameBytes
  rw [List.length_append, List.length_append, h, tagBytes_length, List.length_replicate]

/-- Each sector's frame lies in its place. -/
theorem State.encodeOut_frames (hl : ∀ x ∈ s.laneSectors k, x.data.length = 4096) (ha : 0x20000 ≤ s.rd .FRC_LOUT_ADDR k) {i : Nat}
    {x : OutSector} (hx : (s.laneSectors k)[i]? = some x) :
    (s.encodeOut k).mbs (s.rd .FRC_LOUT_ADDR k + 4160 * i) 4128 = s.frameBytes k x := by
  have a := (State.Local.refl s (fun _ => False) jobParts (fun _ => True)).ownAccesses (kind := none) (head := 31)
    (unitSectors (s.laneClass k) (s.laneUnit k).slots.length + (s.laneSectors k).length)
  have f := a.foldl (f := fun s l => s.raise 317 [(1, k), (1, s.rd .FRC_LCTL_NSIDX k), (8, l)]) (l := (s.laneClosed k).failed)
    (fun _ _ _ w => w.raise)
  unfold State.encodeOut
  dsimp only
  generalize List.foldl _ _ (s.laneClosed k).failed = v at f ⊢
  have rd (r : Reg) : v.rd r k = s.rd r k := f.rd r k 0 id
  have bytes (y : OutSector) : v.frameBytes k y = s.frameBytes k y := by
    unfold State.frameBytes State.laneClass
    rw [rd, rd, rd]
  obtain ⟨hi, hx⟩ := List.getElem?_eq_some_iff.1 hx
  have get {j : Nat} (h : j < (s.laneSectors k).length) : (s.laneSectors k).getD j ⟨[], 0, false, 0⟩ = (s.laneSectors k)[j] := by simp [h]
  rw [State.laneFrames_eq, rd, State.foldl_busWrite_mbs _ _ _ ha v _ (fun j hj => ?_) hi]
  · rw [bytes, get hi, hx]
  · rw [get hj]
    exact State.frameBytes_length (hl _ (List.getElem_mem hj))

/-! ### The plain job -/

section
variable (hs : s.Canonical) (hc : s.rd .FRC_LCTL_CLASS k = 0) (he : s.bit .FRC_LCTL_ENC k = false)
  (hn : s.rd .FRC_LBUD_NBLK k ≤ (s.lane k).input.length) (hb : s.rd .FRC_LBUD_NBLK k ≤ s.rd .FRC_LBUD_BUDGET k)

/-- The blocks of an encode job. -/
def State.laneInput (s : State) (k : Nat) : List (List Byte) := ((s.lane k).input.take (s.laneBlocks k)).map (fun u => u.1)

include hc in
theorem State.laneUnit_plain : s.laneUnit k = { slots := [], lba := s.rd .FRC_LLBA_LBA k } := by
  have c : s.laneClass k = 0 := hc
  unfold State.laneUnit
  rw [c]
  rfl

include hn in
theorem State.laneInput_length : (s.laneInput k).length = s.rd .FRC_LBUD_NBLK k := by
  unfold State.laneInput
  rw [List.length_map, List.length_take]
  exact Nat.min_eq_left hn

include he in
theorem State.laneXts_plain (enc : Bool) : s.laneXts k enc = fun _ bs => bs := by
  funext lba bs
  unfold State.laneXts
  exact if_neg (by simp [he])

/-- A plain job as it ends. -/
def State.plainEnc (s : State) (k : Nat) : Enc :=
  { out := plainSectors (fun _ bs => bs) (s.rd .FRC_LLBA_LBA k) (s.laneInput k), lba := s.rd .FRC_LLBA_LBA k }

include hc he hn hb in
/-- The job within its budget. -/
theorem State.laneEncode_plain : s.laneEncode k = (s.plainEnc k, false) := by
  have c : s.laneClass k = 0 := hc
  have len := State.laneInput_length hn
  unfold State.laneEncode
  rw [State.laneUnit_plain hc, State.laneXts_plain he, c]
  refine (Enc.run_plain _ _ _ _ _ rfl ?_).trans (by rfl)
  show 0 + (s.laneInput k).length ≤ _
  rw [len]
  simp only [Enc.pos, unitSectors, List.length_nil, if_pos]
  omega

include hc he hn hb in
theorem State.laneClosed_plain : s.laneClosed k = s.plainEnc k := by
  unfold State.laneClosed
  rw [State.laneEncode_plain hc he hn hb]
  split <;> rfl

include hc he hn hb in
theorem State.laneSectors_plain : s.laneSectors k = plainSectors (fun _ bs => bs) (s.rd .FRC_LLBA_LBA k) (s.laneInput k) := by
  unfold State.laneSectors
  rw [State.laneClosed_plain hc he hn hb]
  exact List.append_nil _

include hc he hn hb in
theorem State.laneFar_plain (hr : ∀ i, i < s.rd .FRC_LBUD_NBLK k → engineReach (s.rd .FRC_LOUT_ADDR k + 4160 * i) 4128 = true) :
    s.laneFar k = false := by
  unfold State.laneFar
  rw [State.laneSectors_plain hc he hn hb, plainSectors_length, State.laneInput_length hn, State.laneUnit_plain hc, Bool.or_eq_false_iff]
  refine ⟨List.any_eq_false.2 (fun i m => ?_), rfl⟩
  rw [hr i (List.mem_range.1 m)]
  decide

end

/-- The blocks of a plain job and their tags lie in memory. -/
theorem exec_frcJobEnd_plain (k : Fin 8) (hc : s.rd .FRC_LCTL_CLASS k = 0) (he : s.bit .FRC_LCTL_ENC k = false)
    (hn : s.rd .FRC_LBUD_NBLK k ≤ (s.lane k).input.length) (hb : s.rd .FRC_LBUD_NBLK k ≤ s.rd .FRC_LBUD_BUDGET k)
    (hs : s.Canonical) (h1 : s.rd .FRC_LSTAT_STATE k = 1) (ho : s.rd .FRC_LCTL_OP k = 0)
    (hl : ∀ u ∈ (s.lane k).input, u.1.length = 4096)
    (hr : ∀ i, i < s.rd .FRC_LBUD_NBLK k → engineReach (s.rd .FRC_LOUT_ADDR k + 4160 * i) 4128 = true) :
    ∃ t, exec (.frcJobEnd k) s = .next t ∧ NSet.has (474 + k) t.ev.edge = true ∧ t.rd .FRC_LSTAT_STATE k = 2 ∧
      t.bit .FRC_LSTAT_OVER k = false ∧ t.rd .FRC_LSTAT_POS k = s.rd .FRC_LBUD_NBLK k ∧ t.rd .FRC_LCNT_NESC k = 0 ∧
      ∀ i u, i < s.rd .FRC_LBUD_NBLK k → (s.lane k).input[i]? = some u → t.mbs (s.rd .FRC_LOUT_ADDR k + 4160 * i) 4096 = u.1 ∧
        t.mbs (s.rd .FRC_LOUT_ADDR k + 4160 * i + 4096) 12 = leBytes 8 (s.rd .FRC_LLBA_LBA k + i) ++ leBytes 1 (s.rd .FRC_LCTL_NSIDX k) ++
          [0] ++ leBytes 2 (s.rd .FRC_LID_BANDSEQ k) := by
  have full : s.laneFull k = true := by
    unfold State.laneFull
    rw [if_neg (by simp [State.bit, ho]), decide_eq_true (show s.laneBlocks k ≤ _ from hn), Bool.true_or]
  refine ⟨_, exec_frcJobEnd_next k h1 full, State.edge_raised .., ?_⟩
  unfold State.laneEnded
  rw [if_neg (by simp [State.bit, ho]), State.encodeEnd_eq, State.laneFar_plain hc he hn hb hr, if_neg (by decide),
    State.laneEncode_plain hc he hn hb, State.laneClosed_plain hc he hn hb, State.laneUnit_plain hc,
    show s.laneClass k = 0 from hc]
  have input (i : Nat) : (s.laneInput k)[i]? = if i < s.rd .FRC_LBUD_NBLK k then (s.lane k).input[i]?.map (fun u => u.1) else none := by
    unfold State.laneInput State.laneBlocks
    rw [List.getElem?_map, List.getElem?_take]
    split <;> rfl
  have sectors : s.laneSectors k = _ := State.laneSectors_plain hc he hn hb
  have whole : ∀ x ∈ s.laneSectors k, x.data.length = 4096 := by
    intro x m
    obtain ⟨i, hi⟩ := List.mem_iff_getElem?.1 m
    rw [sectors, plainSectors_get, input] at hi
    split at hi
    · obtain ⟨b, hb, rfl⟩ := Option.map_eq_some_iff.1 hi
      obtain ⟨u, hu, rfl⟩ := Option.map_eq_some_iff.1 hb
      exact hl u (List.mem_of_getElem? hu)
    · simp at hi
  have frames {i : Nat} {x : OutSector} (h0 : i < s.rd .FRC_LBUD_NBLK k) := State.encodeOut_frames (s := s) (k := k) (i := i) (x := x) whole
    (by have := engineReach_low (hr 0 (by omega)); omega)
  have place : (s.plainEnc k).pos 0 - ({ slots := [], lba := s.rd .FRC_LLBA_LBA k } : Enc).pos 0 = s.rd .FRC_LBUD_NBLK k := by
    simp only [Enc.pos, State.plainEnc, plainSectors_length, State.laneInput_length hn, unitSectors, List.length_nil, if_pos]
    rfl
  rw [place]
  generalize s.encodeOut k = v at frames ⊢
  obtain ⟨state, stops, pos, -, nesc⟩ := v.encodeFields_reads k (s.plainEnc k) false (s.rd .FRC_LBUD_NBLK k)
  have fields := v.encodeFields_local k (s.plainEnc k) false (s.rd .FRC_LBUD_NBLK k)
  have bytes (x : Nat) : ((v.encodeFields k (s.plainEnc k) false (s.rd .FRC_LBUD_NBLK k)).edge (474 + k)).mb x = v.mb x := fields.mem x id
  have small : s.rd .FRC_LBUD_NBLK k < 2 ^ 17 := lt_trans (hs.rd_lt (by decide) _ _) (by decide)
  simp only [State.rd_edge, State.bit_edge]
  refine ⟨state, stops, pos.trans (Nat.mod_eq_of_lt small), nesc, fun i u hi hu => ?_⟩
  have frame := frames hi (x := ⟨u.1, s.rd .FRC_LLBA_LBA k + i, false, 1⟩)
    (by rw [sectors, plainSectors_get, input, if_pos hi, hu]; rfl)
  have data : u.1.length = 4096 := hl u (List.mem_of_getElem? hu)
  rw [State.mbs_congr (fun x _ _ => bytes x), State.mbs_congr (fun x _ _ => bytes x)]
  constructor
  · rw [← Nat.add_zero (s.rd .FRC_LOUT_ADDR k + 4160 * i), ← State.mbs_part v _ 4128 0 4096 (by decide), frame]
    unfold State.frameBytes
    rw [List.drop_zero, List.append_assoc, List.take_left' data]
  · rw [← State.mbs_part v _ 4128 4096 12 (by decide), frame]
    unfold State.frameBytes
    rw [List.append_assoc, List.drop_left' data, List.take_left' (tagBytes_length ..), show s.laneClass k = 0 from hc]
    rfl

end Sys2Proof.Machine
end

section
/-! PROOFS. Coder lanes and key commands: what a GO and the end of a key command come to, and the settling theorem. -/

set_option Elab.async false

namespace Sys2Proof.Machine

variable {s : State}

/-- What a GO changes, of a job that starts and of one that cannot. -/
theorem exec_frcLaneGo_local (k : Fin 8) (hu : s.up 5 = true) (hh : s.hears selFrc = true)
    (hs : s.rd .FRC_LSTAT_STATE k = 0 ∨ s.rd .FRC_LSTAT_STATE k = 2) :
    ∃ t, exec (.frcLaneGo k) s = .next t ∧ s.Local t (ofUnit goRegs k) [.frc, .dma] (fun _ => False) ∧
      (∀ j : Fin 8, j ≠ k → t.lane j = s.lane j) ∧
      (s.laneClass k = 3 ∨ s.laneBlocks k = 0 → t = s.wr .FRC_LSTAT_STATE 3 k) ∧
      (¬ (s.laneClass k = 3 ∨ s.laneBlocks k = 0) → t = (s.laneBegun k).laneAsk k) := by
  refine ⟨_, exec_frcLaneGo k hu hh hs, ?_⟩
  by_cases bad : s.laneClass k = 3 ∨ s.laneBlocks k = 0
  · rw [if_pos bad]
    exact ⟨(s.laneRefused k).1.mono, fun j _ => State.lane_congr (by simp only [State.wr_frc]) j, fun _ => rfl, fun n => absurd bad n⟩
  · rw [if_neg bad]
    obtain ⟨w, -, -, -, others, -⟩ := s.laneStarted k (fun e => bad (.inr e))
    exact ⟨w, fun j n => others j (fun e => n (Fin.ext e)), fun b => absurd b bad, fun _ => rfl⟩

/-- What a key command's end leaves alone, whatever the command. -/
theorem State.keyDone_frame (s : State) (op ns : Nat) : let t := State.keyDone (s.keyWork op ns)
    s.sentOn t [] ∧ s.regsBut t [.FRC_KSTAT_BUSY, .FRC_KSTAT_RESULT] ∧ s.keeps t [.frc, .ev, .poison, .free, .out] := by
  have w := State.keyDone_local (s.keyWork_local op ns)
  obtain ⟨-, -, -, -, -, out⟩ := State.keyDone_reads (s.keyWork op ns)
  exact ⟨State.sentOn_trans (s.keyWork_sent op ns) (State.sentOn_of_eq out), fun r i j n => w.keys r i j n, w.keeps⟩

end Sys2Proof.Machine

open Sys2Proof Sys2Proof.Machine

/-- Settles O53: a lane's GO, its job's end and the key commands, each from the rule of its unit; a GO or an end off its occasion changes
nothing. -/
theorem coderLanesAndKeysRun : Obligations.CoderLanesAndKeysRun := by
  unfold Obligations.CoderLanesAndKeysRun
  refine ⟨fun k s hu hh hs => ?_, fun k s hx => exec_frcLaneGo_off k hx, fun k s => ⟨fun n => ?_, fun g => exec_frcJobEnd k g.1 g.2⟩,
    fun k s hs h1 ho hc he hn hl hb hr => exec_frcJobEnd_plain k hc he hn hb hs h1 ho hl hr,
    fun k s h1 ho hn hr hl => exec_frcJobEnd_decode k h1 ho hn hr hl, fun ns s hu hh hb x hx => ?_, fun ns s hx c hc => ?_,
    fun s hk => exec_keyCommandEnd_none hk, fun op ns s => ?_⟩
  · obtain ⟨t, go, w, others, refused, started⟩ := exec_frcLaneGo_local k hu hh hs
    refine ⟨t, go, w.memSame, w.keys, w.keeps, others, fun bad => ?_, fun good => ?_⟩
    · rw [refused bad]
      exact ⟨(s.laneRefused k).2, (s.laneRefused k).1.keeps⟩
    · rw [started good]
      obtain ⟨-, state, zero, input, -, off, on⟩ := s.laneStarted k (fun e => good (.inr e))
      exact ⟨state, zero _ (by decide), zero _ (by decide), zero _ (by decide), zero _ (by decide), zero _ (by decide), input, off, on⟩
  · refine (exec_frcJobEnd_eq k).trans (next_off ?_)
    rw [Bool.and_eq_false_iff, beq_eq_false_iff_ne, ← Bool.not_eq_true]
    exact not_and_or.1 n
  · obtain rfl | rfl | rfl : x = (.keyGenerate ns, 1) ∨ x = (.keyLoad ns, 2) ∨ x = (.keyDestroy ns, 3) := by simpa using hx
    · exact ⟨_, rfl, s.keyCommand_starts 1 ns.toNat hu hh hb⟩
    · exact ⟨_, rfl, s.keyCommand_starts 2 ns.toNat hu hh hb⟩
    · exact ⟨_, rfl, s.keyCommand_starts 3 ns.toNat hu hh hb⟩
  · obtain rfl | rfl | rfl : c = .keyGenerate ns ∨ c = .keyLoad ns ∨ c = .keyDestroy ns := by simpa using hc
    · exact congrArg Host.Outcome.next (State.keyCommand_off 1 ns.toNat hx)
    · exact congrArg Host.Outcome.next (State.keyCommand_off 2 ns.toNat hx)
    · exact congrArg Host.Outcome.next (State.keyCommand_off 3 ns.toNat hx)
  · intro a hk
    obtain ⟨busy, job, edge, -⟩ := State.keyDone_reads (s.keyWork op ns)
    obtain ⟨sent, regs, keeps⟩ := s.keyDone_frame op ns
    refine ⟨_, exec_keyCommandEnd_eq hk, busy, job, edge, sent, regs, keeps, keyCommandEnd_busy, fun free e => ?_, keyCommandEnd_far,
      fun free e => ?_, fun free e => ?_⟩
    · subst e
      exact keyCommandEnd_destroy free
    · subst e
      exact keyCommandEnd_load free
    · subst e
      exact keyCommandEnd_generate free

end

section
/-! PROOFS. The DMA engine's channels (R232 to R240): what a halt, the end of a chain, a start and a request come to. -/

set_option Elab.async false

namespace Sys2Proof.Machine

variable {s t u : State} {c line : Nat}

/-! ### Events behind a frame -/

section
variable {K : RKey → Prop} {P : List Part} {M : Nat → Prop} {n : Nat} {items : List (Nat × Nat)}

/-- An event raised where neither the event controller nor the reset unit has changed. -/
theorem State.Local.raised (w : s.Local u K P M) (he : .ev ∉ P := by decide) (hr : .rst ∉ P := by decide)
    (hn : n ∉ [314] := by decide) : s.raised (u.raise n items) n :=
  State.Raising.raised (State.Raising.of_eq (l := []) (w.same .ev he)) (w.same .rst hr) hn

theorem State.Local.recorded (w : s.Local u K P M) (hk : ∀ r i, r ∈ [Reg.EVC_REC_EN, .EREC_OPTIME_OPTIME, .EREC_PCYC_PCYC] → ¬ K ⟨r, i, 0⟩)
    (he : .ev ∉ P := by decide) (hr : .rst ∉ P := by decide) (hn : n ≠ 314 := by decide) : s.recorded (u.raise n items) n items :=
  State.recorded_raise hn (by rw [State.up, w.same .rst hr, State.up]) (w.same .ev he) (w.bit _ _ _ (hk _ _ (by decide)))
    (w.rd _ _ _ (hk _ _ (by decide))) (w.rd _ _ _ (hk _ _ (by decide))) rfl

end

/-! ### Channels -/

@[simp] theorem State.dch_setDch_same (s : State) (c : Nat) (d : Dch) : (s.setDch c d).dch c = d := Tab.get_put_same ..

theorem State.dch_congr (e : t.dma = s.dma) (c : Nat) : t.dch c = s.dch c := by rw [State.dch, e, State.dch]

@[simp] theorem State.dch_wr (s : State) (r : Reg) (v i j c : Nat) : (s.wr r v i j).dch c = s.dch c := rfl

@[simp] theorem State.dch_wrb (s : State) (r : Reg) (b : Bool) (i j c : Nat) : (s.wrb r b i j).dch c = s.dch c := rfl

@[simp] theorem State.dch_raise (s : State) (n : Nat) (l : List (Nat × Nat)) (c : Nat) : (s.raise n l).dch c = s.dch c :=
  State.dch_congr (by simp) c

theorem State.Local.setDch {K : RKey → Prop} {P : List Part} {M : Nat → Prop} {x : Dch} (w : s.Local u K P M)
    (hp : .dma ∈ P := by decide) : s.Local (u.setDch c x) K P M := State.Local.setDma w hp

theorem State.Local.setHse {K : RKey → Prop} {P : List Part} {M : Nat → Prop} {h : Nat} {x : Hse} (w : s.Local u K P M)
    (hp : .hses ∈ P := by decide) : s.Local (u.setHse h x) K P M := State.Local.setHses w hp

/-- The named fields of channel c, and the causes that pend at the heads. -/
def dmaKeys (F : List Reg) (c : Nat) (k : RKey) : Prop := ofUnit F c k ∨ k.reg = .HSE_TPEND_PEND

theorem dmaKeys_mk {F : List Reg} {r : Reg} {j : Nat} (h : r ∈ F := by decide) : dmaKeys F c ⟨r, c, j⟩ := .inl ⟨h, rfl⟩

theorem not_dmaKeys {F : List Reg} {r : Reg} {i j : Nat} (h : r ∉ F ∧ r ≠ .HSE_TPEND_PEND := by decide) : ¬ dmaKeys F c ⟨r, i, j⟩ :=
  fun m => m.elim (fun m => h.1 m.1) h.2

theorem dmaKeys_mono {F G : List Reg} (h : F ⊆ G := by decide) (k : RKey) (m : dmaKeys F c k) : dmaKeys G c k :=
  m.imp (fun m => ⟨h m.1, m.2⟩) id

theorem dmaKeys_of {F G : List Reg} (h : F ⊆ G := by decide) (k : RKey) (m : ofUnit F c k) : dmaKeys G c k := .inl ⟨h m.1, m.2⟩

/-! ### A halt (R239) -/

theorem State.lineTrap_local (s : State) (F : List Reg) (c line : Nat) :
    s.Local (s.lineTrap line) (dmaKeys F c) [.hses] (fun _ => False) := by
  refine .ite ?_ (.refl ..)
  rw [State.dmaTrap, State.cause_pends _ _ (by decide)]
  exact State.Local.wr ((State.Local.refl ..).setHse) (.inr rfl)

theorem State.lineTrap_hse (s : State) (line h : Nat) :
    (s.lineTrap line).hse h = { s.hse h with dmaCause := ((s.lineTrap line).hse h).dmaCause } := by
  unfold State.lineTrap
  split
  · rw [State.dmaTrap, State.cause_pends _ _ (by decide)]
    by_cases e : h = line % 24
    · subst e
      simp
    · rw [State.hse_wrBit, State.hse_setHse_ne _ e]
  · rfl

theorem State.lineTrap_pends (h : line < 48) : (s.lineTrap line).rdBit .HSE_TPEND_PEND 9 (line % 24) = true := by
  rw [State.lineTrap, if_pos h]
  exact State.cause_pending _ _ (by decide) (by decide)

/-- What a halt writes. -/
def haltRegs : List Reg := [.DMA_CHSTAT_STATE, .DMA_CHSTAT_ERR, .DMA_CHCTL_EN, .DMA_CHSTAT_GUARDW]

/-- A channel as a halt leaves it, before its head's cause. -/
def State.dmaStopped (s : State) (c err : Nat) : State :=
  let v := (((s.wr .DMA_CHSTAT_STATE 3 c).wr .DMA_CHSTAT_ERR err c).wr .DMA_CHCTL_EN 0 c).wr .DMA_CHSTAT_GUARDW 0 c
  v.setDch c { v.dch c with fetch := false, stop := false }

theorem State.dmaHalt_eq (s : State) (c err : Nat) : s.dmaHalt c err = (s.dmaStopped c err).lineTrap (s.rd .DMA_CHCTL_LINE c) := by
  have line : ((((s.wr .DMA_CHSTAT_STATE 3 c).wr .DMA_CHSTAT_ERR err c).wr .DMA_CHCTL_EN 0 c).wr .DMA_CHSTAT_GUARDW 0 c).rd
      .DMA_CHCTL_LINE c = s.rd .DMA_CHCTL_LINE c := by
    rw [State.rd_wr_ne _ _ (by decide), State.rd_wr_ne _ _ (by decide), State.rd_wr_ne _ _ (by decide), State.rd_wr_ne _ _ (by decide)]
  exact congrArg (State.lineTrap _) line

theorem State.dmaStopped_local (s : State) (c err : Nat) : s.Local (s.dmaStopped c err) (ofUnit haltRegs c) [.dma] (fun _ => False) := by
  unfold State.dmaStopped
  dsimp only
  exact ((((State.Local.refl ..).wr ofUnit_mk).wr ofUnit_mk).wr ofUnit_mk).wr ofUnit_mk |>.setDch

theorem State.dmaStopped_reads (s : State) (c err : Nat) : (s.dmaStopped c err).rd .DMA_CHSTAT_STATE c = 3 ∧
    (s.dmaStopped c err).rd .DMA_CHSTAT_ERR c = err % 8 ∧ (s.dmaStopped c err).rd .DMA_CHCTL_EN c = 0 := by
  unfold State.dmaStopped
  dsimp only
  refine ⟨?_, ?_, ?_⟩
  · rw [State.rd_setDch, State.rd_wr_ne _ _ (by decide), State.rd_wr_ne _ _ (by decide), State.rd_wr_ne _ _ (by decide)]
    exact State.rd_wr_same ..
  · rw [State.rd_setDch, State.rd_wr_ne _ _ (by decide), State.rd_wr_ne _ _ (by decide)]
    exact State.rd_wr_same ..
  · rw [State.rd_setDch, State.rd_wr_ne _ _ (by decide)]
    exact State.rd_wr_same ..

/-- A channel has halted with an error; an event may have been raised with it. -/
structure State.Halted (s t : State) (c err : Nat) (P : List Part) : Prop where
  frame : s.Local t (dmaKeys haltRegs c) P (fun _ => False)
  state : t.rd .DMA_CHSTAT_STATE c = 3
  err : t.rd .DMA_CHSTAT_ERR c = err % 8
  en : t.rd .DMA_CHCTL_EN c = 0
  dch : t.dch c = { s.dch c with fetch := false, stop := false }
  hse : ∀ h, t.hse h = { s.hse h with dmaCause := (t.hse h).dmaCause }

theorem State.dmaHalt_halted (s : State) (c err : Nat) : s.Halted (s.dmaHalt c err) c err [.dma, .hses] := by
  obtain ⟨state, err', en⟩ := s.dmaStopped_reads c err
  have w := s.dmaStopped_local c err
  rw [State.dmaHalt_eq]
  generalize hv : s.dmaStopped c err = v at *
  have dch : v.dch c = { s.dch c with fetch := false, stop := false } := by rw [← hv]; exact State.dch_setDch_same ..
  have l := v.lineTrap_local [] c (s.rd .DMA_CHCTL_LINE c)
  refine ⟨(w.mono dmaKeys_of).andThen l dmaKeys_mono, (l.rd _ _ _ not_dmaKeys).trans state, (l.rd _ _ _ not_dmaKeys).trans err',
    (l.rd _ _ _ not_dmaKeys).trans en, (State.dch_congr (l.same .dma) c).trans dch, fun h => ?_⟩
  rw [v.lineTrap_hse, State.hse_congr (w.same .hses) h]

/-- A halt with its event. -/
theorem State.Halted.raise {P : List Part} {err n : Nat} {items : List (Nat × Nat)} (w : s.Halted t c err P) (hp : .ev ∈ P := by decide) :
    s.Halted (t.raise n items) c err P := by
  obtain ⟨frame, state, err, en, dch, hse⟩ := w
  refine ⟨frame.raise hp, ?_, ?_, ?_, ?_, fun h => ?_⟩
  · rw [State.rd_raise, state]
  · rw [State.rd_raise, err]
  · rw [State.rd_raise, en]
  · rw [State.dch_raise, dch]
  · rw [State.hse_raise, hse h]

theorem State.Halted.mono {P Q : List Part} {err : Nat} (w : s.Halted t c err P) (hp : P ⊆ Q := by decide) : s.Halted t c err Q :=
  ⟨w.frame.mono (hP := hp), w.state, w.err, w.en, w.dch, w.hse⟩

/-- What an access that went wrong changes in the state's parts. -/
abbrev haltParts : List Part := [.dma, .hses, .ev]

theorem State.busHalt_halted (s : State) (c addr : Nat) (timeout : Bool) : s.Halted (s.busHalt c addr timeout) c 2 haltParts :=
  (s.dmaHalt_halted c 2).mono.raise

theorem State.busHalt_raised (g : s.Raising [246, 254, 245, 314] u) (hr : u.rst = s.rst) (c addr : Nat) (timeout : Bool) :
    s.raised (u.busHalt c addr timeout) 256 := by
  have h := (u.dmaHalt_halted c 2).frame
  exact State.Raising.raised (g.keep (h.same .ev)) ((h.same .rst).trans hr)

/-! ### DMA_CHANNEL_ENABLE -/

/-- What a start clears. -/
def clearedEnable : List Reg :=
  [.DMA_CHSTAT_ERR, .DMA_CHSTAT_POISON, .DMA_CHCRC_CRC, .DMA_CHDONE_BYTES, .DMA_CHNDESC_COUNT, .DMA_CHBURST_COUNT]

/-- A channel whose chain starts. -/
def State.chainBegun (s : State) (c : Nat) : State :=
  (((clearedEnable.foldl (fun s r => s.wr r 0 c) s).wr .DMA_CHSTAT_STATE 1 c).wr .DMA_CHCTL_EN 1 c).setDch c
    { next := s.rd .DMA_CHDESC_ADDR c, fetch := true }

/-- A channel refused its line. -/
def State.lineRefused (s : State) (c : Nat) : State :=
  ((s.wr .DMA_CHSTAT_STATE 0 c).wr .DMA_CHSTAT_ERR 4 c).lineTrap (s.rd .DMA_CHCTL_LINE c)

theorem exec_dmaChannelEnable_eq (c : Fin 128) : exec (.dmaChannelEnable c) s = .next (s.on
    (s.up 5 && s.hears selDma && s.rd .DMA_CHSTAT_STATE c != 1) (fun s =>
      if s.lineTaken c (s.rd .DMA_CHCTL_LINE c) then (s.lineRefused c).raise 258 [(1, s.rd .DMA_CHCTL_LINE c), (1, 0)]
      else if s.rd .DMA_CHDESC_ADDR c % 64 ≠ 0 then
        (((s.chainBegun c).wr .DMA_CHCUR_ADDR (s.rd .DMA_CHDESC_ADDR c) c).dmaHalt c 3).raise 257 [(1, c), (8, s.rd .DMA_CHDESC_ADDR c), (1, 7)]
      else s.chainBegun c)) := rfl

/-- What a channel enable may write. -/
def enableRegs : List Reg := clearedEnable ++ haltRegs ++ [.DMA_CHCUR_ADDR]

theorem enableRegs_blk : ∀ r ∈ enableRegs, r.info.blk = .DMA := by decide

theorem State.chainBegun_local (s : State) (c : Nat) : s.Local (s.chainBegun c) (dmaKeys enableRegs c) [.dma] (fun _ => False) := by
  have w : s.Local (clearedEnable.foldl (fun s r => s.wr r 0 c) s) (dmaKeys enableRegs c) [.dma] (fun _ => False) :=
    (State.Local.refl ..).foldl (fun v r m w => w.wr (.inl ⟨(by decide : clearedEnable ⊆ enableRegs) m, rfl⟩))
  exact ((w.wr dmaKeys_mk).wr dmaKeys_mk).setDch

theorem State.chainBegun_reads (s : State) (c : Nat) : (s.chainBegun c).rd .DMA_CHSTAT_STATE c = 1 ∧ (s.chainBegun c).rd .DMA_CHCTL_EN c = 1 ∧
    (∀ r ∈ clearedEnable, (s.chainBegun c).rd r c = 0) ∧
    (s.chainBegun c).dch c = { next := s.rd .DMA_CHDESC_ADDR c, fetch := true } := by
  unfold State.chainBegun
  refine ⟨?_, ?_, fun r m => ?_, State.dch_setDch_same ..⟩
  · rw [State.rd_setDch, State.rd_wr_ne _ _ (by decide)]
    exact State.rd_wr_same ..
  · rw [State.rd_setDch]
    exact State.rd_wr_same ..
  · obtain ⟨en, state⟩ := (by decide : ∀ r ∈ clearedEnable, r ≠ .DMA_CHCTL_EN ∧ r ≠ .DMA_CHSTAT_STATE) r m
    rw [State.rd_setDch, State.rd_wr_ne _ _ en, State.rd_wr_ne _ _ state]
    exact State.rd_foldl_zero (fun r => (r, 0)) c clearedEnable r 0 _ (.inl (List.mem_map_of_mem m))

theorem State.lineRefused_local (s : State) (c : Nat) : s.Local (s.lineRefused c) (dmaKeys enableRegs c) [.hses] (fun _ => False) :=
  (((State.Local.refl ..).wr dmaKeys_mk).wr dmaKeys_mk).trans (State.lineTrap_local ..)

theorem State.lineRefused_reads (s : State) (c : Nat) : (s.lineRefused c).rd .DMA_CHSTAT_STATE c = 0 ∧ (s.lineRefused c).rd .DMA_CHSTAT_ERR c = 4 ∧
    (s.lineRefused c).rd .DMA_CHDONE_BYTES c = s.rd .DMA_CHDONE_BYTES c := by
  unfold State.lineRefused
  have l := ((s.wr .DMA_CHSTAT_STATE 0 c).wr .DMA_CHSTAT_ERR 4 c).lineTrap_local [] c (s.rd .DMA_CHCTL_LINE c)
  refine ⟨?_, ?_, ?_⟩
  · rw [l.rd _ _ _ not_dmaKeys, State.rd_wr_ne _ _ (by decide)]
    exact State.rd_wr_same ..
  · rw [l.rd _ _ _ not_dmaKeys]
    exact State.rd_wr_same ..
  · rw [l.rd _ _ _ not_dmaKeys, State.rd_wr_ne _ _ (by decide), State.rd_wr_ne _ _ (by decide)]

/-- A descriptor address that is no multiple of 64 halts the channel at its start. -/
def State.badStart (s : State) (c : Nat) : State :=
  ((s.chainBegun c).wr .DMA_CHCUR_ADDR (s.rd .DMA_CHDESC_ADDR c) c).dmaHalt c 3

theorem State.badStart_halted (s : State) (c : Nat) :
    ((s.chainBegun c).wr .DMA_CHCUR_ADDR (s.rd .DMA_CHDESC_ADDR c) c).Halted (s.badStart c) c 3 [.dma, .hses] := State.dmaHalt_halted ..

theorem State.badStart_local (s : State) (c : Nat) : s.Local (s.badStart c) (dmaKeys enableRegs c) [.dma, .hses] (fun _ => False) :=
  (((s.chainBegun_local c).mono).wr dmaKeys_mk).andThen (s.badStart_halted c).frame dmaKeys_mono

theorem State.badStart_zero (s : State) (c : Nat) {r : Reg} (h : r ∈ clearedEnable) (n : r ∉ haltRegs ∧ r ≠ .HSE_TPEND_PEND := by decide)
    (m : r ≠ .DMA_CHCUR_ADDR := by decide) : (s.badStart c).rd r c = 0 := by
  rw [(s.badStart_halted c).frame.rd _ _ _ (not_dmaKeys n), State.rd_wr_ne _ _ m]
  exact (s.chainBegun_reads c).2.2.1 r h

theorem exec_dmaChannelEnable (c : Fin 128) (hu : s.up 5 = true) (hh : s.hears selDma = true) (hs : s.rd .DMA_CHSTAT_STATE c ≠ 1) :
    ∃ t, exec (.dmaChannelEnable c) s = .next t ∧ s.Local t (dmaKeys enableRegs c) haltParts (fun _ => False) ∧
      (s.lineTaken c (s.rd .DMA_CHCTL_LINE c) = true → t = (s.lineRefused c).raise 258 [(1, s.rd .DMA_CHCTL_LINE c), (1, 0)]) ∧
      (s.lineTaken c (s.rd .DMA_CHCTL_LINE c) = false → s.rd .DMA_CHDESC_ADDR c % 64 = 0 → t = s.chainBegun c) ∧
      (s.lineTaken c (s.rd .DMA_CHCTL_LINE c) = false → s.rd .DMA_CHDESC_ADDR c % 64 ≠ 0 →
        t = (s.badStart c).raise 257 [(1, c), (8, s.rd .DMA_CHDESC_ADDR c), (1, 7)]) := by
  refine ⟨_, (exec_dmaChannelEnable_eq c).trans (next_on (by simp [hu, hh, hs])), ?_⟩
  by_cases taken : s.lineTaken c (s.rd .DMA_CHCTL_LINE c) = true
  · rw [if_pos taken]
    exact ⟨(s.lineRefused_local c).mono.raise, fun _ => rfl, fun n => absurd taken (by simp [n]), fun n => absurd taken (by simp [n])⟩
  · rw [if_neg taken]
    refine ⟨.ite (State.Local.raise ((s.badStart_local c).mono)) (s.chainBegun_local c).mono, fun n => absurd n taken,
      fun _ a => if_neg (by simp [a]), fun _ a => if_pos a⟩

end Sys2Proof.Machine
end

section
/-! PROOFS. The end of a DMA chain (R238) and the requests on the engine's lines (R232, R233). -/

set_option Elab.async false

namespace Sys2Proof.Machine

variable {s t u : State} {c line : Nat}

/-! ### The end of a chain -/

/-- What the end of a chain writes. -/
def chainEndRegs : List Reg := [.DMA_CHCRC_CRC, .DMA_CHSTAT_STATE, .DMA_CHSTAT_END, .DMA_CHSTAT_GUARDW, .DMA_CHCTL_EN]

/-- A chain's CRC as it is stored. -/
def Dch.stored (d : Dch) : Nat := Nat.xor d.crc 0xFFFFFFFF

/-- What a chain's end writes back into the last descriptor used. -/
def State.chainWord (s : State) (c : Nat) (stop : Bool) : List Byte :=
  leBytes 4 (s.dch c).stored ++
    leBytes 4 (s.rd .DMA_CHBURST_COUNT c + b2n stop * 2 ^ 24 + b2n (s.dch c).poison * 2 ^ 25 + 2 ^ 31)

theorem State.chainWord_length (s : State) (c : Nat) (stop : Bool) : (s.chainWord c stop).length = 8 := by
  simp [State.chainWord, leBytes_length]

/-- The write-back on the fabric, where a descriptor has been used. -/
def State.chainAccess (s : State) (c : Nat) : State := if s.rd .DMA_CHNDESC_COUNT c != 0 then s.ownAccess none 31 else s

/-- The write-back into the last descriptor used, where there is one. -/
def State.chainBack (s : State) (c : Nat) (stop : Bool) : State :=
  if s.rd .DMA_CHNDESC_COUNT c != 0 then
    (s.chainAccess c).busWrite (s.rd .DMA_CHCUR_ADDR c + 48) (s.chainWord c stop) false
  else s.chainAccess c

/-- The fields of a chain that has ended. -/
def State.chainFields (s : State) (c : Nat) (stop : Bool) (d : Dch) : State :=
  (((((s.wr .DMA_CHCRC_CRC d.stored c).wr .DMA_CHSTAT_STATE 2 c).wr .DMA_CHCTL_EN 0 c).wrb .DMA_CHSTAT_END stop c).wr
    .DMA_CHSTAT_GUARDW 0 c).setDch c { d with fetch := false, stop := false }

/-- A write-back that failed: the line holds the descriptor as it was or as it was to be. -/
def State.chainLost (s : State) (c : Nat) (stop : Bool) : State :=
  let r := (s.chainAccess c).draw 1
  if r.1 = 1 then r.2.busWrite (s.rd .DMA_CHCUR_ADDR c + 48) (s.chainWord c stop) false else r.2

theorem State.chainEnd_eq (s : State) (c : Nat) (stop : Bool) (wb : WriteBack) : s.chainEnd c stop wb =
    if s.rd .DMA_CHNDESC_COUNT c != 0 && wb != .ok then (s.chainLost c stop).busHalt c (s.rd .DMA_CHCUR_ADDR c + 48) (wb == .timeout)
    else (s.chainBack c stop).chainFields c stop (s.dch c) := rfl

theorem State.chainEnd_done (stop : Bool) {wb : WriteBack} (h : wb = .ok ∨ s.rd .DMA_CHNDESC_COUNT c = 0) :
    s.chainEnd c stop wb = (s.chainBack c stop).chainFields c stop (s.dch c) := by
  rw [State.chainEnd_eq, if_neg]
  rcases h with h | h <;> simp [h]

theorem State.chainEnd_lost (stop : Bool) {wb : WriteBack} (h : wb ≠ .ok) (n : s.rd .DMA_CHNDESC_COUNT c ≠ 0) :
    s.chainEnd c stop wb = (s.chainLost c stop).busHalt c (s.rd .DMA_CHCUR_ADDR c + 48) (wb == .timeout) := by
  rw [State.chainEnd_eq, if_pos]
  simp [h, n]

/-- The bytes a chain's end may write. -/
def State.chainBytes (s : State) (c x : Nat) : Prop :=
  s.rd .DMA_CHNDESC_COUNT c ≠ 0 ∧ s.rd .DMA_CHCUR_ADDR c + 48 ≤ x ∧ x < s.rd .DMA_CHCUR_ADDR c + 48 + 8

theorem State.chainAccess_local {M : Nat → Prop} (s : State) (c : Nat) :
    s.Local (s.chainAccess c) (fun _ => False) [.poison, .out, .free] M := .ite (.ownAccess (.refl ..)) (.refl ..)

theorem State.chainBack_local (s : State) (c : Nat) (stop : Bool) :
    s.Local (s.chainBack c stop) (fun _ => False) [.poison, .out, .free] (s.chainBytes c) := by
  unfold State.chainBack
  split
  next n =>
    have n : s.rd .DMA_CHNDESC_COUNT c ≠ 0 := by simpa using n
    exact (s.chainAccess_local c).busWrite (fun x lo hi => ⟨n, lo, by rwa [State.chainWord_length] at hi⟩)
  next => exact s.chainAccess_local c

theorem State.chainFields_local (s : State) (c : Nat) (stop : Bool) (d : Dch) :
    s.Local (s.chainFields c stop d) (ofUnit chainEndRegs c) [.dma] (fun _ => False) :=
  ((((((State.Local.refl ..).wr ofUnit_mk).wr ofUnit_mk).wr ofUnit_mk).wr ofUnit_mk).wr ofUnit_mk).setDch

theorem State.chainFields_reads (s : State) (c : Nat) (stop : Bool) (d : Dch) :
    (s.chainFields c stop d).rd .DMA_CHCRC_CRC c = d.stored % 2 ^ 32 ∧ (s.chainFields c stop d).rd .DMA_CHSTAT_STATE c = 2 ∧
    (s.chainFields c stop d).rd .DMA_CHSTAT_END c = b2n stop % 2 ∧ (s.chainFields c stop d).rd .DMA_CHCTL_EN c = 0 := by
  unfold State.chainFields
  dsimp only [State.wrb]
  refine ⟨?_, ?_, ?_, ?_⟩
  · rw [State.rd_setDch, State.rd_wr_ne _ _ (by decide), State.rd_wr_ne _ _ (by decide), State.rd_wr_ne _ _ (by decide),
      State.rd_wr_ne _ _ (by decide)]
    exact State.rd_wr_same ..
  · rw [State.rd_setDch, State.rd_wr_ne _ _ (by decide), State.rd_wr_ne _ _ (by decide), State.rd_wr_ne _ _ (by decide)]
    exact State.rd_wr_same ..
  · rw [State.rd_setDch, State.rd_wr_ne _ _ (by decide)]
    exact State.rd_wr_same ..
  · rw [State.rd_setDch, State.rd_wr_ne _ _ (by decide), State.rd_wr_ne _ _ (by decide)]
    exact State.rd_wr_same ..

/-- A chain that ends done. -/
theorem State.chainDone_local (s : State) (c : Nat) (stop : Bool) :
    s.Local ((s.chainBack c stop).chainFields c stop (s.dch c)) (ofUnit chainEndRegs c) [.dma, .poison, .out, .free] (s.chainBytes c) :=
  ((s.chainBack_local c stop).mono (fun _ m => m.elim)).andThen (State.chainFields_local ..) (hM := fun _ m => m.elim)

theorem State.chainLost_local (s : State) (c : Nat) (stop : Bool) (n : s.rd .DMA_CHNDESC_COUNT c ≠ 0) :
    s.Local (s.chainLost c stop) (fun _ => False) [.poison, .out, .free] (s.chainBytes c) := by
  have w : s.Local ((s.chainAccess c).draw 1).2 (fun _ => False) [.poison, .out, .free] (s.chainBytes c) :=
    State.Local.draw (s.chainAccess_local c)
  exact .ite (w.busWrite (fun x lo hi => ⟨n, lo, by rwa [State.chainWord_length] at hi⟩)) w

/-- What a chain's end may change of the state's parts. -/
abbrev chainParts : List Part := [.dma, .hses, .ev, .poison, .out, .free]

/-- A chain whose write-back failed halts as BUSERR. -/
theorem State.chainEnd_halts (stop : Bool) {wb : WriteBack} (h : wb ≠ .ok) (n : s.rd .DMA_CHNDESC_COUNT c ≠ 0) :
    s.Local (s.chainEnd c stop wb) (dmaKeys haltRegs c) chainParts (s.chainBytes c) ∧
    (s.chainEnd c stop wb).rd .DMA_CHSTAT_STATE c = 3 ∧ (s.chainEnd c stop wb).rd .DMA_CHSTAT_ERR c = 2 ∧
    (s.chainEnd c stop wb).rd .DMA_CHCTL_EN c = 0 ∧ s.raised (s.chainEnd c stop wb) 256 := by
  rw [State.chainEnd_lost stop h n]
  have w := s.chainLost_local c stop n
  have b := (s.chainLost c stop).busHalt_halted c (s.rd .DMA_CHCUR_ADDR c + 48) (wb == .timeout)
  refine ⟨(w.mono (fun _ m => m.elim)).andThen b.frame (hM := fun _ m => m.elim), b.state, b.err, b.en, ?_⟩
  exact State.busHalt_raised (.of_eq (w.same .ev)) (w.same .rst) _ _ _

/-- The end of a chain, whatever its write-back. -/
theorem State.chainEnd_local (s : State) (c : Nat) (stop : Bool) (wb : WriteBack) :
    s.Local (s.chainEnd c stop wb) (dmaKeys (.DMA_CHSTAT_ERR :: chainEndRegs) c) chainParts (s.chainBytes c) := by
  by_cases h : wb = .ok ∨ s.rd .DMA_CHNDESC_COUNT c = 0
  · rw [State.chainEnd_done stop h]
    exact (s.chainDone_local c stop).mono dmaKeys_of
  · obtain ⟨h, n⟩ := not_or.1 h
    exact (State.chainEnd_halts stop h n).1.mono dmaKeys_mono

theorem State.chainEnd_hse (s : State) (c : Nat) (stop : Bool) (wb : WriteBack) (h : Nat) :
    (s.chainEnd c stop wb).hse h = { s.hse h with dmaCause := ((s.chainEnd c stop wb).hse h).dmaCause } := by
  by_cases e : wb = .ok ∨ s.rd .DMA_CHNDESC_COUNT c = 0
  · rw [State.chainEnd_done stop e, State.hse_congr ((s.chainDone_local c stop).same .hses)]
  · obtain ⟨e, n⟩ := not_or.1 e
    rw [State.chainEnd_lost stop e n, (State.busHalt_halted ..).hse, State.hse_congr ((s.chainLost_local c stop n).same .hses)]

theorem exec_dmaStop_eq (c : Fin 128) (wb : WriteBack) : exec (.dmaStop c wb) s = .next (s.on
    (s.up 5 && s.hears selDma && s.rd .DMA_CHSTAT_STATE c == 1) (fun s => s.chainEnd c true wb)) := rfl

theorem exec_dmaStop (c : Fin 128) (wb : WriteBack) (hu : s.up 5 = true) (hh : s.hears selDma = true) (hs : s.rd .DMA_CHSTAT_STATE c = 1) :
    exec (.dmaStop c wb) s = .next (s.chainEnd c true wb) := (exec_dmaStop_eq c wb).trans (next_on (by simp [hu, hh, hs]))

theorem State.chainEnd_en (s : State) (c : Nat) (stop : Bool) (wb : WriteBack) : (s.chainEnd c stop wb).rd .DMA_CHCTL_EN c = 0 := by
  by_cases h : wb = .ok ∨ s.rd .DMA_CHNDESC_COUNT c = 0
  · rw [State.chainEnd_done stop h]
    exact (State.chainFields_reads ..).2.2.2
  · obtain ⟨h, n⟩ := not_or.1 h
    exact (State.chainEnd_halts stop h n).2.2.2.1

/-! ### The engine's enable and the firmware lines -/

theorem exec_dmaCtlEnable_eq (en : Bool) : exec (.dmaCtlEnable en) s = .next (s.on (s.up 5 && s.hears selDma)
    (fun s => s.wrb .DMA_CTL_EN en)) := rfl

/-- One more request raised on a line. -/
def State.lineRaised (s : State) (n : Nat) : State :=
  { s with dma := { s.dma with raised := NTab.put 0 n (NTab.get 0 n s.dma.raised + 1) s.dma.raised } }

theorem State.lineRaised_raised (s : State) (n : Nat) :
    NTab.get 0 n (s.lineRaised n).dma.raised = NTab.get 0 n s.dma.raised + 1 := by
  show NTab.get 0 n (NTab.put 0 n (NTab.get 0 n s.dma.raised + 1) s.dma.raised) = _
  exact Tab.get_put_same natLt 0 n _ _

theorem exec_dmaSwreq_eq (l : BitVec 7) : exec (.dmaSwreq l) s = .next (s.on (s.up 5 && s.hears selDma && decide (64 ≤ l.toNat))
    (fun s => s.lineRaised l.toNat)) := rfl

theorem exec_dmaSwreq (l : BitVec 7) (hu : s.up 5 = true) (hh : s.hears selDma = true) :
    ∃ t, exec (.dmaSwreq l) s = .next t ∧ s.only t [] [.dma] ∧
      (64 ≤ l.toNat → NTab.get 0 l.toNat t.dma.raised = NTab.get 0 l.toNat s.dma.raised + 1) ∧ (l.toNat < 64 → t = s) := by
  by_cases h : 64 ≤ l.toNat
  · refine ⟨_, (exec_dmaSwreq_eq l).trans (next_on (by simp [hu, hh, h])), (State.only.refl s [] [.dma]).part .dma (by decide),
      fun _ => ?_, fun n => by omega⟩
    exact State.lineRaised_raised ..
  · exact ⟨s, (exec_dmaSwreq_eq l).trans (next_off (by simp [h])), State.only.refl s [] [.dma], fun n => absurd n h, fun _ => rfl⟩

/-! ### Requests that arrive -/

/-- A request counted. -/
theorem State.lineCount_room (h : s.rd .DMA_LPEND_COUNT line < 255) :
    s.lineCount line = s.setLpend line (s.rd .DMA_LPEND_COUNT line + 1) := if_neg (by omega)

/-- A request lost. -/
theorem State.lineCount_full (h : 255 ≤ s.rd .DMA_LPEND_COUNT line) :
    s.lineCount line = (s.wr .DMA_LPEND_OVF 1 line).raise 258 [(1, line), (1, 1)] := if_pos h

theorem State.lineCount_local (s : State) (line : Nat) :
    s.Local (s.lineCount line) (ofUnit [.DMA_LPEND_COUNT, .DMA_LPEND_OVF] line) [.ev] (fun _ => False) :=
  .ite ((State.Local.refl ..).wr ofUnit_mk).raise ((State.Local.refl ..).wr ofUnit_mk)

theorem State.lineCount_counted (h : s.rd .DMA_LPEND_COUNT line < 255) :
    (s.lineCount line).rd .DMA_LPEND_COUNT line = s.rd .DMA_LPEND_COUNT line + 1 := by
  rw [State.lineCount_room h]
  exact (State.rd_wr_same ..).trans (Nat.mod_eq_of_lt (show _ < 2 ^ 8 by omega))

theorem State.lineCount_lost (h : 255 ≤ s.rd .DMA_LPEND_COUNT line) : (s.lineCount line).rd .DMA_LPEND_OVF line = 1 ∧
    (s.lineCount line).rd .DMA_LPEND_COUNT line = s.rd .DMA_LPEND_COUNT line := by
  rw [State.lineCount_full h, State.rd_raise, State.rd_raise, State.rd_wr_ne _ _ (by decide : Reg.DMA_LPEND_COUNT ≠ .DMA_LPEND_OVF)]
  exact ⟨State.rd_wr_same .., rfl⟩

/-- The event of a lost request, told of a state from which nothing the event reads has changed. -/
theorem State.lineCount_recorded {P : List Part} (w : s.Local u (fun _ => False) P (fun _ => False)) (h : 255 ≤ u.rd .DMA_LPEND_COUNT line)
    (he : .ev ∉ P := by decide) (hr : .rst ∉ P := by decide) : s.recorded (u.lineCount line) 258 [(1, line), (1, 1)] := by
  rw [State.lineCount_full h]
  have v : s.Local (u.wr .DMA_LPEND_OVF 1 line) (ofUnit [.DMA_LPEND_OVF] line) P (fun _ => False) :=
    (w.mono (fun _ m => m.elim) (fun _ m => m)).wr ofUnit_mk
  exact v.recorded (fun r _ m => not_ofUnit
    ((by decide : ∀ r ∈ [Reg.EVC_REC_EN, .EREC_OPTIME_OPTIME, .EREC_PCYC_PCYC], r ∉ [Reg.DMA_LPEND_OVF]) r m)) he hr

/-- One request raised on a unit's line taken off. -/
def State.lineLower (s : State) (n : Nat) : State :=
  { s with dma := { s.dma with raised := NTab.put 0 n (NTab.get 0 n s.dma.raised - 1) s.dma.raised } }

theorem exec_dmaRequest_unit (l : Fin 128) (h : 48 ≤ l.val) (n : NTab.get 0 l.val s.dma.raised ≠ 0) :
    exec (.dmaRequest l) s = .next ((s.lineLower l).lineCount l) := by
  show execDmaRequest l s = _
  unfold execDmaRequest
  dsimp only
  rw [if_neg (by omega), if_neg (by omega), if_neg n]
  rfl

theorem exec_dmaRequest_unit_counts (l : Fin 128) (h : 48 ≤ l.val) (n : NTab.get 0 l.val s.dma.raised ≠ 0) :
    ∃ t, exec (.dmaRequest l) s = .next t ∧ NTab.get 0 l.val t.dma.raised = NTab.get 0 l.val s.dma.raised - 1 ∧
      s.only t [.DMA_LPEND_COUNT, .DMA_LPEND_OVF] [.dma, .ev] ∧
      (s.rd .DMA_LPEND_COUNT l < 255 → t.rd .DMA_LPEND_COUNT l = s.rd .DMA_LPEND_COUNT l + 1) ∧
      (255 ≤ s.rd .DMA_LPEND_COUNT l → t.rd .DMA_LPEND_COUNT l = s.rd .DMA_LPEND_COUNT l ∧ t.rd .DMA_LPEND_OVF l = 1 ∧
        s.recorded t 258 [(1, l.val), (1, 1)]) := by
  refine ⟨_, exec_dmaRequest_unit l h n, ?_⟩
  have w : s.Local (s.lineLower l) (fun _ => False) [.dma] (fun _ => False) := State.Local.setDma (.refl ..)
  have raised : NTab.get 0 l.val (s.lineLower l).dma.raised = NTab.get 0 l.val s.dma.raised - 1 := Tab.get_put_same ..
  generalize s.lineLower l = v at *
  have count := w.rd .DMA_LPEND_COUNT l 0 id
  have c := v.lineCount_local l
  have both := (w.mono (K' := ofUnit [.DMA_LPEND_COUNT, .DMA_LPEND_OVF] l) (fun _ m => m.elim)).andThen (P := [.dma, .ev]) c
  refine ⟨by rw [c.same .dma, raised], ⟨fun r i j m => both.keys r i j (fun k => m k.1), both.memSame, both.keeps⟩, fun a => ?_, fun a => ?_⟩
  · rw [State.lineCount_counted (by rwa [count]), count]
  · rw [← count] at a
    obtain ⟨ovf, kept⟩ := State.lineCount_lost a
    exact ⟨kept.trans count, ovf, State.lineCount_recorded w a⟩

/-! ### Requests on a head's lines -/

/-- A head's engine as a write request that arrives leaves it. -/
def State.writeCame (s : State) (h x : Nat) (l : List Nat) : Hse :=
  let full := decide (255 ≤ s.rd .DMA_LPEND_COUNT h)
  { s.hse h with raisedW := l, wreq := if full then (s.hse h).wreq else (s.hse h).wreq ++ [x] }

/-- A head's engine as a read request that arrives leaves it. -/
def State.readCame (s : State) (h x : Nat) (l : List Nat) : Hse :=
  let full := decide (255 ≤ s.rd .DMA_LPEND_COUNT (24 + h))
  { s.hse h with raisedR := l, rreq := if full then (s.hse h).rreq else (s.hse h).rreq ++ [x] }

theorem exec_dmaRequest_write (h : Head) {x : Nat} {l : List Nat} (e : (s.hse h).raisedW = x :: l) :
    exec (.dmaRequest ⟨h, by omega⟩) s = .next (((s.setHse h (s.writeCame h x l)).lineCount h).oceServe h) := by
  have m : h.val % 24 = h.val := Nat.mod_eq_of_lt h.isLt
  show execDmaRequest _ s = _
  unfold execDmaRequest
  dsimp only
  rw [m, if_pos h.isLt, e]
  rfl

theorem exec_dmaRequest_read (h : Head) {x : Nat} {l : List Nat} (e : (s.hse h).raisedR = x :: l) :
    exec (.dmaRequest ⟨24 + h, by omega⟩) s = .next ((s.setHse h (s.readCame h x l)).lineCount (24 + h)) := by
  have m : (24 + h.val) % 24 = h.val := by omega
  show execDmaRequest _ s = _
  unfold execDmaRequest
  dsimp only
  rw [m, if_neg (by omega), if_pos (by omega), e]
  rfl

/-- The outer code raises event 275 and no other. -/
theorem State.oceServe_raising (s : State) (h : Nat) : s.Raising [275, 314] (s.oceServe h) := by
  unfold State.oceServe
  split
  next g t rest ha hr =>
    dsimp only
    split
    · split
      · exact .refl ..
      next k ks e =>
        have a : s.Raising [275, 314] (s.accCheck g) := .ite (State.Raising.raise (.of_eq rfl)) (.refl ..)
        generalize s.accCheck g = v at *
        exact a.keep
    · exact .refl ..
  · exact .refl ..

/-- Whether a frame's context is active rests on the outer code's own fields. -/
theorem State.oceActive_local {K : RKey → Prop} {P : List Part} {M : Nat → Prop} (w : s.Local u K P M) (h : Nat)
    (hk : ∀ r i, r ∈ [Reg.OCE_CTL_EN, .OCE_HACT_VALID, .OCE_HACT_CTX] → ¬ K ⟨r, i, 0⟩) : u.oceActive h = s.oceActive h := by
  unfold State.oceActive
  rw [w.bit .OCE_CTL_EN 0 0 (hk _ _ (by decide)), w.bit .OCE_HACT_VALID h 0 (hk _ _ (by decide)), w.rd .OCE_HACT_CTX h 0 (hk _ _ (by decide))]

theorem exec_dmaRequest_head (h : Head) :
    (∀ x l, (s.hse h).raisedW = x :: l → ∃ t, exec (.dmaRequest ⟨h, by omega⟩) s = .next t ∧ (t.hse h).raisedW = l ∧
      (s.rd .DMA_LPEND_COUNT h < 255 → s.oceActive h = none → (t.hse h).wreq = (s.hse h).wreq ++ [x] ∧
        t.rd .DMA_LPEND_COUNT h = s.rd .DMA_LPEND_COUNT h + 1) ∧
      (255 ≤ s.rd .DMA_LPEND_COUNT h → t.rd .DMA_LPEND_OVF h = 1 ∧ s.raised t 258)) ∧
    ∀ x l, (s.hse h).raisedR = x :: l → ∃ t, exec (.dmaRequest ⟨24 + h, by omega⟩) s = .next t ∧ (t.hse h).raisedR = l ∧
      (s.rd .DMA_LPEND_COUNT (24 + h) < 255 → (t.hse h).rreq = (s.hse h).rreq ++ [x] ∧
        t.rd .DMA_LPEND_COUNT (24 + h) = s.rd .DMA_LPEND_COUNT (24 + h) + 1) ∧
      (255 ≤ s.rd .DMA_LPEND_COUNT (24 + h) → (t.hse h).rreq = (s.hse h).rreq ∧ t.rd .DMA_LPEND_OVF (24 + h) = 1 ∧ s.raised t 258) := by
  have taken (v : Hse) : s.Local (s.setHse h v) (fun _ => False) [.hses] (fun _ => False) := (State.Local.refl ..).setHse
  refine ⟨fun x l e => ?_, fun x l e => ?_⟩
  · refine ⟨_, exec_dmaRequest_write h e, ?_⟩
    have raised : (s.writeCame h x l).raisedW = l := rfl
    have wreq : s.rd .DMA_LPEND_COUNT h < 255 → (s.writeCame h x l).wreq = (s.hse h).wreq ++ [x] := fun lt => if_neg (by simpa using lt)
    generalize s.writeCame h x l = v at *
    have w := taken v
    have hse : (s.setHse h v).hse h = v := State.hse_setHse_same ..
    have count := w.rd .DMA_LPEND_COUNT h 0 id
    generalize s.setHse h v = a at *
    have c := a.lineCount_local h
    have serve := (a.lineCount h).oceServe_served h
    have kept : (a.lineCount h).hse h = v := (State.hse_congr (c.same .hses) h).trans hse
    refine ⟨by rw [serve.hse, kept, raised], fun lt idle => ?_, fun ge => ?_⟩
    · have idle : (a.lineCount h).oceActive h = none := by
        rw [State.oceActive_local c h (fun r _ m => not_ofUnit
          ((by decide : ∀ r ∈ [Reg.OCE_CTL_EN, .OCE_HACT_VALID, .OCE_HACT_CTX], r ∉ [Reg.DMA_LPEND_COUNT, .DMA_LPEND_OVF]) r m)),
          State.oceActive_local w h (fun _ _ _ => id), idle]
      rw [State.oceServe_idle idle, kept, State.lineCount_counted (by rwa [count]), count, wreq lt]
      exact ⟨rfl, rfl⟩
    · rw [← count] at ge
      refine ⟨?_, (State.lineCount_recorded w ge).raised.after ((a.lineCount h).oceServe_raising h)⟩
      exact (congrArg BitVec.toNat (serve.only.1 .DMA_LPEND_OVF h 0 (by decide))).trans (State.lineCount_lost ge).1
  · refine ⟨_, exec_dmaRequest_read h e, ?_⟩
    have raised : (s.readCame h x l).raisedR = l := rfl
    have came : s.rd .DMA_LPEND_COUNT (24 + h) < 255 → (s.readCame h x l).rreq = (s.hse h).rreq ++ [x] := fun lt => if_neg (by simpa using lt)
    have lost : 255 ≤ s.rd .DMA_LPEND_COUNT (24 + h) → (s.readCame h x l).rreq = (s.hse h).rreq := fun ge => if_pos (by simpa using ge)
    generalize s.readCame h x l = v at *
    have w := taken v
    have hse : (s.setHse h v).hse h = v := State.hse_setHse_same ..
    have count := w.rd .DMA_LPEND_COUNT (24 + h) 0 id
    generalize s.setHse h v = a at *
    have c := a.lineCount_local (24 + h)
    have kept : (a.lineCount (24 + h)).hse h = v := (State.hse_congr (c.same .hses) h).trans hse
    rw [kept]
    refine ⟨raised, fun lt => ⟨came lt, ?_⟩, fun ge => ⟨lost ge, ?_⟩⟩
    · rw [State.lineCount_counted (by rwa [count]), count]
    · rw [← count] at ge
      exact ⟨(State.lineCount_lost ge).1, (State.lineCount_recorded w ge).raised⟩

end Sys2Proof.Machine
end

section
/-! PROOFS. A descriptor fetched (R234, R239), an access without answer, and a guard wait (R237). -/

set_option Elab.async false

namespace Sys2Proof.Machine

variable {s t u : State} {c line : Nat}

/-! ### What a failed access adds -/

/-- A source whose line failed its check now is counted and marked; nothing else changes. -/
theorem State.sourceFailed_local (s : State) (a n tag : Nat) (ans : Answer) :
    s.Local (s.sourceFailed a n tag ans) (fun k => k.reg ∈ [Reg.BUF_UECNT_COUNT, .BUF_UEADDR_ADDR]) [.poison, .ev, .free] (fun _ => False) := by
  unfold State.sourceFailed
  refine .ite (.ite (State.Local.draw (n := 32) (.refl ..)) ?_) (.refl ..)
  exact State.Local.raise (State.Local.wr (State.Local.wr (State.Local.setPoisons (State.Local.draw (n := 32) (.refl ..))) (by decide)) (by decide))

theorem State.sourceFailed_raising (s : State) (a n tag : Nat) (ans : Answer) : s.Raising [245, 314] (s.sourceFailed a n tag ans) := by
  unfold State.sourceFailed
  exact .ite (.ite .of_eq (State.Raising.raise .of_eq)) (.refl ..)

theorem State.sourceFailed_clean (s : State) (a n tag : Nat) {ans : Answer} (h : ans ≠ .poison) : s.sourceFailed a n tag ans = s :=
  if_neg (fun m => h m.1)

theorem State.spaceError_raising (s : State) (a n k : Nat) : s.Raising [246, 314] (s.spaceError a n k) := .ite (State.Raising.raise (.refl ..)) (.refl ..)

/-- An access answered with an error. -/
theorem State.busErr_halted (s : State) (c a n k : Nat) : s.Halted (s.busErr c a n k) c 2 haltParts := by
  have w : s.Local (s.spaceError a n k) (fun _ => False) [.ev] (fun _ => False) := State.Local.spaceError (.refl ..)
  obtain ⟨frame, state, err, en, dch, hse⟩ := (s.spaceError a n k).busHalt_halted c a false
  exact ⟨(w.mono (fun _ m => m.elim)).trans frame, state, err, en, by rw [← State.dch_congr (w.same .dma)]; exact dch,
    fun h => by rw [← State.hse_congr (w.same .hses)]; exact hse h⟩

theorem State.busErr_raised (g : s.Raising [245, 314] u) (hr : u.rst = s.rst) (c a n k : Nat) : s.raised (u.busErr c a n k) 256 := by
  have w : u.Local (u.spaceError a n k) (fun _ => False) [.ev] (fun _ => False) := State.Local.spaceError (.refl ..)
  exact State.busHalt_raised (g.mono.trans ((u.spaceError_raising a n k).mono)) ((w.same .rst).trans hr) _ _ _

/-! ### Guards -/

theorem ofUnit_mono {F G : List Reg} (h : F ⊆ G := by decide) (k : RKey) (m : ofUnit F c k) : ofUnit G c k := ⟨h m.1, m.2⟩

theorem State.guardNow_local (s : State) (c : Nat) : s.Local (s.guardNow c) (ofUnit [.DMA_CHSTAT_GUARDW] c) [.dma] (fun _ => False) :=
  .ite ((State.Local.refl ..).wr ofUnit_mk) ((State.Local.refl ..).wr ofUnit_mk).setDch

theorem State.guardNow_dch (s : State) (c : Nat) : ∃ told, (s.guardNow c).dch c = { s.dch c with told := told } := by
  unfold State.guardNow
  dsimp only
  split
  · exact ⟨_, rfl⟩
  · exact ⟨_, State.dch_setDch_same ..⟩

/-- GUARD_WAIT_1MS: told once a wait. -/
theorem exec_guardWait1ms_eq (c : Fin 128) : exec (.guardWait1ms c) s = .next (s.on (s.bit .DMA_CHSTAT_GUARDW c && !(s.dch c).told)
    (fun s => (s.setDch c { s.dch c with told := true }).raise 259 [(1, c), (1, b2n (s.rd .DMA_CHBURST_COUNT c == 0))])) := rfl

theorem exec_guardWait1ms (c : Fin 128) (hg : s.bit .DMA_CHSTAT_GUARDW c = true) (ht : (s.dch c).told = false) :
    ∃ t, exec (.guardWait1ms c) s = .next t ∧ (t.dch c).told = true ∧
      s.recorded t 259 [(1, c.val), (1, b2n (s.rd .DMA_CHBURST_COUNT c == 0))] ∧ s.only t [] [.dma, .ev] := by
  refine ⟨_, (exec_guardWait1ms_eq c).trans (next_on (by simp [hg, ht])), ?_⟩
  have w : s.Local (s.setDch c { s.dch c with told := true }) (fun _ => False) [.dma] (fun _ => False) := (State.Local.refl ..).setDch
  have told : ((s.setDch c { s.dch c with told := true }).dch c).told = true := by rw [State.dch_setDch_same]
  generalize s.setDch c { s.dch c with told := true } = v at *
  have e : s.Local (v.raise 259 [(1, c), (1, b2n (s.rd .DMA_CHBURST_COUNT c == 0))]) (fun _ => False) [.dma, .ev] (fun _ => False) :=
    w.mono.raise
  exact ⟨by rw [State.dch_raise, told], w.recorded (fun _ _ _ => id), fun r i j _ => e.keys r i j id, e.memSame, e.keeps⟩

/-! ### DESCRIPTOR_FETCH_DONE -/

/-- The fetch on the fabric. -/
def State.fetchOut (s : State) (c : Nat) : State := (s.wr .DMA_CHCUR_ADDR (s.dch c).next c).fetchTag c

theorem State.fetchOut_local (s : State) (c : Nat) : s.Local (s.fetchOut c) (ofUnit [.DMA_CHCUR_ADDR] c) [.out, .free] (fun _ => False) :=
  State.Local.emit (State.Local.draw (n := 57) ((State.Local.refl ..).wr ofUnit_mk))

theorem State.fetchOut_cur (s : State) (c : Nat) : (s.fetchOut c).rd .DMA_CHCUR_ADDR c = (s.dch c).next % 2 ^ 64 := by
  show (s.wr .DMA_CHCUR_ADDR (s.dch c).next c).rd .DMA_CHCUR_ADDR c = _
  exact State.rd_wr_same ..

/-- The descriptor at a channel's next address. -/
def State.descriptorAt (s : State) (d : Dch) : Dch :=
  { d with
    src := s.mrd 8 d.next, dst := s.mrd 8 (d.next + 8), next := s.mrd 8 (d.next + 16), tag := s.mrd 8 (d.next + 24),
    blen := s.mrd 4 (d.next + 32) % 2 ^ 25, nburst := s.mrd 4 (d.next + 36) % 2 ^ 24, stride := s.mrd 4 (d.next + 40) % 2 ^ 25,
    ctl := s.mrd 4 (d.next + 44), fetch := false, cs := s.mrd 8 d.next, cd := s.mrd 8 (d.next + 8), again := false, told := false }

/-- The reserved bits of a descriptor. -/
def State.reservedAt (s : State) (a : Nat) : Nat :=
  s.mrd 4 (a + 32) / 2 ^ 25 + s.mrd 4 (a + 36) / 2 ^ 24 + s.mrd 4 (a + 40) / 2 ^ 25 + s.mrd 8 (a + 56)

theorem State.descriptorAt_congr (m : s.memSame t) (d : Dch) : t.descriptorAt d = s.descriptorAt d := by
  simp only [State.descriptorAt, State.mrd_memSame m]

theorem State.reservedAt_congr (m : s.memSame t) (a : Nat) : t.reservedAt a = s.reservedAt a := by
  simp only [State.reservedAt, State.mrd_memSame m]

/-- A descriptor taken into use, or refused. -/
def State.descriptorTake (s : State) (c a : Nat) (d : Dch) (res : Nat) : State :=
  match descBad d res (s.rd .DMA_CHCTL_LINE c) with
  | some r => ((s.setDch c d).dmaHalt c 3).raise 257 [(1, c), (8, a), (1, r)]
  | none => ((s.setDch c d).wr .DMA_CHBURST_COUNT 0 c).guardNow c

/-- The state when a fetch has been answered. -/
def State.fetchDone (s : State) (c : Nat) (ans : Answer) : State :=
  let d := s.dch c
  let v := (s.fetchOut c).sourceFailed d.next 64 (11 * 2 ^ 39) ans
  if ans ≠ .ok ∨ !engineReach d.next 64 ∨ v.poisoned d.next 64 then v.busErr c d.next 64 11
  else
    let v := v.satAdd .DMA_CHNDESC_COUNT 1 c
    v.descriptorTake c d.next (v.descriptorAt d) (v.reservedAt d.next)

theorem exec_descriptorFetchDone_eq (c : Fin 128) (ans : Answer) : exec (.descriptorFetchDone c ans) s = .next (s.on
    (s.rd .DMA_CHSTAT_STATE c == 1 && (s.dch c).fetch && s.bit .DMA_CTL_EN) (fun s =>
      if s.rd .DMA_CHAIN_MAX_MAX ≤ s.rd .DMA_CHNDESC_COUNT c then (s.dmaHalt c 1).raise 255 [(1, c), (8, s.rd .DMA_CHCUR_ADDR c)]
      else s.fetchDone c ans)) := by
  show execDescriptorFetchDone c ans s = _
  unfold execDescriptorFetchDone State.on
  dsimp only
  refine congrArg Host.Outcome.next (if_congr Iff.rfl (if_congr Iff.rfl rfl ?_) rfl)
  unfold State.fetchDone State.fetchOut
  dsimp only
  refine if_congr Iff.rfl rfl ?_
  generalize State.satAdd _ _ _ _ _ = v
  unfold State.descriptorTake State.descriptorAt State.reservedAt
  rewrite [Nat.add_zero]
  generalize descBad _ _ _ = r
  cases r with
  | none => rfl
  | some r => rfl

/-- A fetch answered with an error or poison. -/
theorem State.fetchDone_bad (s : State) (c : Nat) {ans : Answer}
    (hb : ans ≠ .ok ∨ engineReach (s.dch c).next 64 = false ∨ s.poisoned (s.dch c).next 64 = true) :
    s.fetchDone c ans = ((s.fetchOut c).sourceFailed (s.dch c).next 64 (11 * 2 ^ 39) ans).busErr c (s.dch c).next 64 11 := by
  refine if_pos ?_
  by_cases e : ans = .ok
  · rw [State.sourceFailed_clean _ _ _ _ (by rw [e]; decide)]
    exact .inr ((hb.resolve_left (fun n => n e)).imp (fun b => by simp [b]) id)
  · exact .inl e

/-- A channel with a descriptor counted. -/
def State.descriptorUsed (s : State) (c : Nat) : State := (s.fetchOut c).satAdd .DMA_CHNDESC_COUNT 1 c

theorem State.descriptorUsed_local (s : State) (c : Nat) :
    s.Local (s.descriptorUsed c) (ofUnit [.DMA_CHCUR_ADDR, .DMA_CHNDESC_COUNT] c) [.out, .free] (fun _ => False) :=
  State.Local.wr ((s.fetchOut_local c).mono ofUnit_mono) ofUnit_mk

theorem State.descriptorUsed_reads (s : State) (c : Nat) : (s.descriptorUsed c).rd .DMA_CHCUR_ADDR c = (s.dch c).next % 2 ^ 64 ∧
    (s.descriptorUsed c).rd .DMA_CHNDESC_COUNT c = min (2 ^ 32 - 1) (s.rd .DMA_CHNDESC_COUNT c + 1) := by
  unfold State.descriptorUsed State.satAdd
  rw [(s.fetchOut_local c).rd .DMA_CHNDESC_COUNT c 0 not_ofUnit]
  refine ⟨?_, ?_⟩
  · rw [State.rd_wr_ne _ _ (by decide), State.fetchOut_cur]
  · exact (State.rd_wr_same ..).trans (Nat.mod_eq_of_lt (lt_of_le_of_lt (min_le_left ..) (by decide)))

/-- A fetch answered with a descriptor. -/
theorem State.fetchDone_good (s : State) (c : Nat) (hr : engineReach (s.dch c).next 64 = true) (hp : s.poisoned (s.dch c).next 64 = false) :
    s.fetchDone c .ok =
      (s.descriptorUsed c).descriptorTake c (s.dch c).next (s.descriptorAt (s.dch c)) (s.reservedAt (s.dch c).next) := by
  have mem := (s.descriptorUsed_local c).memSame
  have poisoned : (s.fetchOut c).poisoned (s.dch c).next 64 = false := hp
  rw [← State.descriptorAt_congr mem, ← State.reservedAt_congr mem]
  unfold State.fetchDone
  dsimp only
  rw [State.sourceFailed_clean _ _ _ _ (by decide)]
  exact if_neg (by simp [hr, poisoned])

/-- What a descriptor in use shows, whether R234 refuses it or not. -/
theorem State.descriptorTake_reads (s : State) (c a : Nat) (d : Dch) (res : Nat) (hf : d.fetch = false) :
    s.Local (s.descriptorTake c a d res) (dmaKeys (.DMA_CHBURST_COUNT :: haltRegs) c) haltParts (fun _ => False) ∧
    (∃ stop told, (s.descriptorTake c a d res).dch c = { d with stop := stop, told := told }) ∧
    (descBad d res (s.rd .DMA_CHCTL_LINE c) = none → s.rd .DMA_CHSTAT_STATE c = 1 →
      (s.descriptorTake c a d res).rd .DMA_CHSTAT_STATE c = 1 ∧ (s.descriptorTake c a d res).rd .DMA_CHBURST_COUNT c = 0) ∧
    ∀ r, descBad d res (s.rd .DMA_CHCTL_LINE c) = some r → (s.descriptorTake c a d res).rd .DMA_CHSTAT_STATE c = 3 ∧
      (s.descriptorTake c a d res).rd .DMA_CHSTAT_ERR c = 3 ∧ (s.descriptorTake c a d res).rd .DMA_CHCTL_EN c = 0 ∧
      s.descriptorTake c a d res = ((s.setDch c d).dmaHalt c 3).raise 257 [(1, c), (8, a), (1, r)] := by
  have w : s.Local (s.setDch c d) (dmaKeys (.DMA_CHBURST_COUNT :: haltRegs) c) haltParts (fun _ => False) := (State.Local.refl ..).setDch
  unfold State.descriptorTake
  cases descBad d res (s.rd .DMA_CHCTL_LINE c) with
  | none =>
    dsimp only
    have g := ((s.setDch c d).wr .DMA_CHBURST_COUNT 0 c).guardNow_local c
    obtain ⟨told, e⟩ := ((s.setDch c d).wr .DMA_CHBURST_COUNT 0 c).guardNow_dch c
    refine ⟨(w.wr dmaKeys_mk).andThen g dmaKeys_of, ⟨d.stop, told, by rw [e, State.dch_wr, State.dch_setDch_same]⟩,
      fun _ one => ⟨?_, ?_⟩, fun r n => absurd n (by simp)⟩
    · rw [g.rd _ _ _ not_ofUnit, State.rd_wr_ne _ _ (by decide), State.rd_setDch, one]
    · rw [g.rd _ _ _ not_ofUnit]
      exact State.rd_wr_same ..
  | some r =>
    dsimp only
    have h := ((s.setDch c d).dmaHalt_halted c 3)
    refine ⟨(w.andThen h.frame dmaKeys_mono).raise, ⟨false, d.told, ?_⟩, fun n => absurd n (by simp), fun q e => ?_⟩
    · rw [State.dch_raise, h.dch, State.dch_setDch_same, ← hf]
    · obtain rfl : r = q := by simpa using e
      exact ⟨by rw [State.rd_raise, h.state], by rw [State.rd_raise, h.err], by rw [State.rd_raise, h.en], rfl⟩

/-- A descriptor fetched, and counted where it is good. -/
theorem State.fetchDone_descriptor (s : State) (c : Nat) (hs : s.rd .DMA_CHSTAT_STATE c = 1) (hr : engineReach (s.dch c).next 64 = true)
    (hp : s.poisoned (s.dch c).next 64 = false) :
    s.memSame (s.fetchDone c .ok) ∧
    (∃ stop told, (s.fetchDone c .ok).dch c = { s.descriptorAt (s.dch c) with stop := stop, told := told }) ∧
    (s.fetchDone c .ok).rd .DMA_CHCUR_ADDR c = (s.dch c).next % 2 ^ 64 ∧
    (s.fetchDone c .ok).rd .DMA_CHNDESC_COUNT c = min (2 ^ 32 - 1) (s.rd .DMA_CHNDESC_COUNT c + 1) ∧
    (descBad (s.descriptorAt (s.dch c)) (s.reservedAt (s.dch c).next) (s.rd .DMA_CHCTL_LINE c) = none →
      (s.fetchDone c .ok).rd .DMA_CHSTAT_STATE c = 1 ∧ (s.fetchDone c .ok).rd .DMA_CHBURST_COUNT c = 0) ∧
    ∀ r, descBad (s.descriptorAt (s.dch c)) (s.reservedAt (s.dch c).next) (s.rd .DMA_CHCTL_LINE c) = some r →
      (s.fetchDone c .ok).rd .DMA_CHSTAT_STATE c = 3 ∧ (s.fetchDone c .ok).rd .DMA_CHSTAT_ERR c = 3 ∧
      (s.fetchDone c .ok).rd .DMA_CHCTL_EN c = 0 ∧ s.recorded (s.fetchDone c .ok) 257 [(1, c), (8, (s.dch c).next), (1, r)] := by
  have u := s.descriptorUsed_local c
  obtain ⟨cur, ndesc⟩ := s.descriptorUsed_reads c
  have hf : (s.descriptorAt (s.dch c)).fetch = false := rfl
  rw [s.fetchDone_good c hr hp]
  generalize s.descriptorAt (s.dch c) = d at *
  generalize s.reservedAt (s.dch c).next = res at *
  generalize s.descriptorUsed c = v at *
  obtain ⟨frame, dch, good, bad⟩ := v.descriptorTake_reads c (s.dch c).next d res hf
  rw [u.rd .DMA_CHCTL_LINE c 0 not_ofUnit] at good bad
  refine ⟨fun x => (frame.memSame x).trans (u.memSame x), dch, (frame.rd _ _ _ not_dmaKeys).trans cur,
    (frame.rd _ _ _ not_dmaKeys).trans ndesc, fun e => good e ((u.rd _ _ _ not_ofUnit).trans hs), fun r e => ?_⟩
  obtain ⟨state, err, en, eq⟩ := bad r e
  refine ⟨state, err, en, ?_⟩
  rw [eq]
  have w : s.Local (v.setDch c d) (dmaKeys ([.DMA_CHCUR_ADDR, .DMA_CHNDESC_COUNT] ++ haltRegs) c) [.out, .free, .dma, .hses]
    (fun _ => False) := (u.mono dmaKeys_of).setDch
  exact (w.andThen ((v.setDch c d).dmaHalt_halted c 3).frame dmaKeys_mono).recorded (fun r _ m => not_dmaKeys
    ((by decide : ∀ r ∈ [Reg.EVC_REC_EN, .EREC_OPTIME_OPTIME, .EREC_PCYC_PCYC],
      r ∉ [.DMA_CHCUR_ADDR, .DMA_CHNDESC_COUNT] ++ haltRegs ∧ r ≠ .HSE_TPEND_PEND) r m))

/-! ### DMA_BUS_TIMEOUT -/

/-- The state when an access is not answered. -/
def State.busTimedOut (s : State) (c : Nat) : State :=
  let line := s.rd .DMA_CHCTL_LINE c
  if (s.dch c).fetch then (s.wr .DMA_CHCUR_ADDR (s.dch c).next c).busHalt c (s.dch c).next true
  else if s.bit .DMA_CHSTAT_GUARDW c || !s.burstDue c line then s
  else if line < 24 ∨ (48 ≤ line ∧ line < 56) then s.busHalt c (s.dch c).cs true
  else if line < 48 then s.busHalt c (s.dch c).cd true
  else (s.draw 1).2.busHalt c (if (s.draw 1).1 = 0 then (s.dch c).cs else (s.dch c).cd) true

theorem exec_dmaBusTimeout_eq (c : Fin 128) : exec (.dmaBusTimeout c) s = .next (s.on
    (s.rd .DMA_CHSTAT_STATE c == 1 && s.bit .DMA_CTL_EN) (fun s => s.busTimedOut c)) := rfl

/-- A channel halted on an access without answer. -/
theorem State.busTimedOut_halts (s : State) (c : Nat)
    (h : (s.dch c).fetch = true ∨ s.bit .DMA_CHSTAT_GUARDW c = false ∧ s.burstDue c (s.rd .DMA_CHCTL_LINE c) = true) :
    (s.busTimedOut c).rd .DMA_CHSTAT_STATE c = 3 ∧ (s.busTimedOut c).rd .DMA_CHSTAT_ERR c = 2 ∧ (s.busTimedOut c).rd .DMA_CHCTL_EN c = 0 ∧
    s.raised (s.busTimedOut c) 256 ∧ s.memSame (s.busTimedOut c) ∧
    ((s.dch c).fetch = true → s.recorded (s.busTimedOut c) 256 [(1, c), (8, (s.dch c).next), (1, 0)]) := by
  have halts {K : RKey → Prop} (v : State) (a : Nat) (w : s.Local v K [.free] (fun _ => False)) :
      (v.busHalt c a true).rd .DMA_CHSTAT_STATE c = 3 ∧ (v.busHalt c a true).rd .DMA_CHSTAT_ERR c = 2 ∧
      (v.busHalt c a true).rd .DMA_CHCTL_EN c = 0 ∧ s.raised (v.busHalt c a true) 256 ∧ s.memSame (v.busHalt c a true) := by
    have b := v.busHalt_halted c a true
    exact ⟨b.state, b.err, b.en, State.busHalt_raised (.of_eq (w.same .ev)) (w.same .rst) _ _ _,
      fun x => (b.frame.memSame x).trans (w.memSame x)⟩
  have r (K : RKey → Prop) : s.Local s K [.free] (fun _ => False) := .refl ..
  unfold State.busTimedOut
  dsimp only
  by_cases f : (s.dch c).fetch = true
  · rw [if_pos f]
    have w := State.Local.wr (r (ofUnit [.DMA_CHCUR_ADDR] c)) (r := .DMA_CHCUR_ADDR) (v := (s.dch c).next) (j := 0) ofUnit_mk
    obtain ⟨state, err, en, raised, mem⟩ := halts _ (s.dch c).next w
    refine ⟨state, err, en, raised, mem, fun _ => ?_⟩
    have k : s.Local ((s.wr .DMA_CHCUR_ADDR (s.dch c).next c).dmaHalt c 2) (dmaKeys (.DMA_CHCUR_ADDR :: haltRegs) c) [.free, .dma, .hses]
        (fun _ => False) := (w.mono dmaKeys_of).andThen (State.dmaHalt_halted ..).frame dmaKeys_mono
    exact k.recorded (fun r _ m => not_dmaKeys ((by decide : ∀ r ∈ [Reg.EVC_REC_EN, .EREC_OPTIME_OPTIME, .EREC_PCYC_PCYC],
      r ∉ .DMA_CHCUR_ADDR :: haltRegs ∧ r ≠ .HSE_TPEND_PEND) r m))
  · obtain ⟨guard, due⟩ := h.resolve_left f
    rw [if_neg f, if_neg (by simp [guard, due])]
    split
    · obtain ⟨state, err, en, raised, mem⟩ := halts s (s.dch c).cs (r (fun _ => False))
      exact ⟨state, err, en, raised, mem, fun n => absurd n f⟩
    split
    · obtain ⟨state, err, en, raised, mem⟩ := halts s (s.dch c).cd (r (fun _ => False))
      exact ⟨state, err, en, raised, mem, fun n => absurd n f⟩
    · obtain ⟨state, err, en, raised, mem⟩ := halts (s.draw 1).2 (if (s.draw 1).1 = 0 then (s.dch c).cs else (s.dch c).cd)
        (State.Local.draw (r (fun _ => False)))
      exact ⟨state, err, en, raised, mem, fun n => absurd n f⟩

end Sys2Proof.Machine
end

section
/-! PROOFS. The bursts of a DMA channel (R235 to R239). -/

set_option Elab.async false

namespace Sys2Proof.Machine

variable {s t u : State} {c line : Nat} {bytes : List Byte} {p : Bool} {wb : WriteBack}

/-! ### The count of a burst -/

/-- What the count of a burst writes. -/
def burstRegs : List Reg := [.DMA_CHBURST_COUNT, .DMA_CHDONE_BYTES, .DMA_CHSTAT_POISON, .DMA_CHSTAT_IRQH, .DMA_CHSTAT_IRQF]

/-- The flags a burst sets, with n bursts counted. -/
def State.burstFlags (s : State) (c : Nat) (d : Dch) (p : Bool) (n : Nat) : State :=
  let s := if p then s.wr .DMA_CHSTAT_POISON 1 c else s
  let s := if d.irqh && n == d.nburst / 2 then s.wr .DMA_CHSTAT_IRQH 1 c else s
  if d.irqf && n == d.nburst then s.wr .DMA_CHSTAT_IRQF 1 c else s

/-- The fields of a burst that is counted. -/
def State.burstFields (s : State) (c : Nat) (bytes : List Byte) (p : Bool) : State :=
  ((s.wr .DMA_CHBURST_COUNT (s.rd .DMA_CHBURST_COUNT c + 1) c).wrapAdd .DMA_CHDONE_BYTES bytes.length c).burstFlags c (s.dch c) p
    (s.rd .DMA_CHBURST_COUNT c + 1)

/-- A channel behind a burst. -/
def Dch.behind (d : Dch) (bytes : List Byte) (p : Bool) : Dch :=
  { d with crc := crcRun d.crc bytes, poison := d.poison || p, cs := d.cs + d.advance, cd := d.cd + d.advance }

theorem State.burstCount_eq (s : State) (c : Nat) (bytes : List Byte) (p : Bool) (wb : WriteBack) : s.burstCount c bytes p wb =
    if s.rd .DMA_CHBURST_COUNT c + 1 < (s.dch c).nburst then ((s.burstFields c bytes p).setDch c ((s.dch c).behind bytes p)).guardNow c
    else if (s.dch c).cyclic then
      (((s.burstFields c bytes p).setDch c { (s.dch c).behind bytes p with cs := (s.dch c).src, cd := (s.dch c).dst, again := true }).wr
        .DMA_CHBURST_COUNT 0 c).guardNow c
    else if (s.dch c).next = 0 then ((s.burstFields c bytes p).setDch c ((s.dch c).behind bytes p)).chainEnd c false wb
    else (s.burstFields c bytes p).setDch c { (s.dch c).behind bytes p with fetch := true } := rfl

theorem State.burstFlags_local (s : State) (c : Nat) (d : Dch) (p : Bool) (n : Nat) :
    s.Local (s.burstFlags c d p n) (ofUnit [.DMA_CHSTAT_POISON, .DMA_CHSTAT_IRQH, .DMA_CHSTAT_IRQF] c) [] (fun _ => False) := by
  have mark {v : State} (b : Bool) (r : Reg) (hr : r ∈ [Reg.DMA_CHSTAT_POISON, .DMA_CHSTAT_IRQH, .DMA_CHSTAT_IRQF])
      (w : s.Local v (ofUnit [.DMA_CHSTAT_POISON, .DMA_CHSTAT_IRQH, .DMA_CHSTAT_IRQF] c) [] (fun _ => False)) :
      s.Local (if b then v.wr r 1 c else v) (ofUnit [.DMA_CHSTAT_POISON, .DMA_CHSTAT_IRQH, .DMA_CHSTAT_IRQF] c) [] (fun _ => False) :=
    .ite (w.wr ⟨hr, rfl⟩) w
  exact mark _ _ (by decide) (mark _ _ (by decide) (mark p _ (by decide) (.refl ..)))

theorem State.burstFields_local (s : State) (c : Nat) (bytes : List Byte) (p : Bool) :
    s.Local (s.burstFields c bytes p) (ofUnit burstRegs c) [] (fun _ => False) :=
  (((State.Local.refl ..).wr ofUnit_mk).wr ofUnit_mk).andThen (State.burstFlags_local ..) ofUnit_mono

theorem State.burstFields_reads (s : State) (c : Nat) (bytes : List Byte) (p : Bool) :
    (s.burstFields c bytes p).rd .DMA_CHBURST_COUNT c = (s.rd .DMA_CHBURST_COUNT c + 1) % 2 ^ 24 ∧
    (s.burstFields c bytes p).rd .DMA_CHDONE_BYTES c = (s.rd .DMA_CHDONE_BYTES c + bytes.length) % 2 ^ 64 := by
  unfold State.burstFields State.wrapAdd
  refine ⟨?_, ?_⟩
  · rw [(State.burstFlags_local ..).rd _ _ _ not_ofUnit, State.rd_wr_ne _ _ (by decide)]
    exact State.rd_wr_same ..
  · rw [(State.burstFlags_local ..).rd _ _ _ not_ofUnit, State.rd_wr_ne _ _ (by decide : Reg.DMA_CHDONE_BYTES ≠ .DMA_CHBURST_COUNT)]
    exact State.rd_wr_same ..

/-- A counted burst with the channel behind it. -/
theorem State.burstSet_local (s : State) (c : Nat) (bytes : List Byte) (p : Bool) (d : Dch) :
    s.Local ((s.burstFields c bytes p).setDch c d) (ofUnit burstRegs c) [.dma] (fun _ => False) :=
  ((s.burstFields_local c bytes p).mono).setDch

/-- A burst before the last of its pass. -/
theorem State.burstCount_more (h : s.rd .DMA_CHBURST_COUNT c + 1 < (s.dch c).nburst) :
    s.Local (s.burstCount c bytes p wb) (ofUnit (.DMA_CHSTAT_GUARDW :: burstRegs) c) [.dma] (fun _ => False) ∧
    (s.burstCount c bytes p wb).rd .DMA_CHDONE_BYTES c = (s.rd .DMA_CHDONE_BYTES c + bytes.length) % 2 ^ 64 ∧
    (s.burstCount c bytes p wb).rd .DMA_CHBURST_COUNT c = (s.rd .DMA_CHBURST_COUNT c + 1) % 2 ^ 24 ∧
    ((s.burstCount c bytes p wb).dch c).cs = (s.dch c).cs + (s.dch c).advance ∧
    ((s.burstCount c bytes p wb).dch c).cd = (s.dch c).cd + (s.dch c).advance := by
  obtain ⟨count, done⟩ := s.burstFields_reads c bytes p
  rw [State.burstCount_eq, if_pos h]
  have g := ((s.burstFields c bytes p).setDch c ((s.dch c).behind bytes p)).guardNow_local c
  obtain ⟨told, e⟩ := ((s.burstFields c bytes p).setDch c ((s.dch c).behind bytes p)).guardNow_dch c
  refine ⟨((s.burstSet_local c bytes p _).mono ofUnit_mono).andThen g ofUnit_mono, ?_, ?_, ?_, ?_⟩
  · rw [g.rd _ _ _ not_ofUnit, State.rd_setDch, done]
  · rw [g.rd _ _ _ not_ofUnit, State.rd_setDch, count]
  · rw [e, State.dch_setDch_same]
    rfl
  · rw [e, State.dch_setDch_same]
    rfl

/-- The last burst of a pass of a cyclic descriptor. -/
theorem State.burstCount_cyclic (h : (s.dch c).nburst ≤ s.rd .DMA_CHBURST_COUNT c + 1) (hc : (s.dch c).cyclic = true) :
    s.Local (s.burstCount c bytes p wb) (ofUnit (.DMA_CHSTAT_GUARDW :: burstRegs) c) [.dma] (fun _ => False) ∧
    (s.burstCount c bytes p wb).rd .DMA_CHDONE_BYTES c = (s.rd .DMA_CHDONE_BYTES c + bytes.length) % 2 ^ 64 ∧
    (s.burstCount c bytes p wb).rd .DMA_CHBURST_COUNT c = 0 ∧
    ((s.burstCount c bytes p wb).dch c).cs = (s.dch c).src ∧ ((s.burstCount c bytes p wb).dch c).cd = (s.dch c).dst := by
  obtain ⟨-, done⟩ := s.burstFields_reads c bytes p
  rw [State.burstCount_eq, if_neg (by omega), if_pos hc]
  generalize hd : ({ (s.dch c).behind bytes p with cs := (s.dch c).src, cd := (s.dch c).dst, again := true } : Dch) = d
  have g := (((s.burstFields c bytes p).setDch c d).wr .DMA_CHBURST_COUNT 0 c).guardNow_local c
  obtain ⟨told, e⟩ := (((s.burstFields c bytes p).setDch c d).wr .DMA_CHBURST_COUNT 0 c).guardNow_dch c
  refine ⟨(((s.burstSet_local c bytes p _).mono ofUnit_mono).wr ofUnit_mk).andThen g ofUnit_mono, ?_, ?_, ?_, ?_⟩
  · rw [g.rd _ _ _ not_ofUnit, State.rd_wr_ne _ _ (by decide), State.rd_setDch, done]
  · rw [g.rd _ _ _ not_ofUnit]
    exact State.rd_wr_same ..
  · rw [e, State.dch_wr, State.dch_setDch_same, ← hd]
  · rw [e, State.dch_wr, State.dch_setDch_same, ← hd]

/-- The last burst of a descriptor with another behind it. -/
theorem State.burstCount_next (h : (s.dch c).nburst ≤ s.rd .DMA_CHBURST_COUNT c + 1) (hc : (s.dch c).cyclic = false)
    (hn : (s.dch c).next ≠ 0) :
    s.Local (s.burstCount c bytes p wb) (ofUnit burstRegs c) [.dma] (fun _ => False) ∧
    (s.burstCount c bytes p wb).rd .DMA_CHDONE_BYTES c = (s.rd .DMA_CHDONE_BYTES c + bytes.length) % 2 ^ 64 ∧
    ((s.burstCount c bytes p wb).dch c).fetch = true := by
  rw [State.burstCount_eq, if_neg (by omega), if_neg (by simp [hc]), if_neg hn]
  exact ⟨s.burstSet_local c bytes p _, (State.rd_setDch ..).trans (s.burstFields_reads c bytes p).2, by rw [State.dch_setDch_same]⟩

/-- The last burst of a chain. -/
theorem State.burstCount_last (h : (s.dch c).nburst ≤ s.rd .DMA_CHBURST_COUNT c + 1) (hc : (s.dch c).cyclic = false)
    (hn : (s.dch c).next = 0) :
    s.Local (s.burstCount c bytes p wb) (dmaKeys (.DMA_CHSTAT_ERR :: burstRegs ++ chainEndRegs) c) chainParts (fun _ => True) ∧
    (s.burstCount c bytes p wb).rd .DMA_CHDONE_BYTES c = (s.rd .DMA_CHDONE_BYTES c + bytes.length) % 2 ^ 64 ∧
    (∀ h, (s.burstCount c bytes p wb).hse h = { s.hse h with dmaCause := ((s.burstCount c bytes p wb).hse h).dmaCause }) ∧
    (wb = .ok ∨ s.rd .DMA_CHNDESC_COUNT c = 0 → (s.burstCount c bytes p wb).rd .DMA_CHSTAT_STATE c = 2 ∧
      (s.burstCount c bytes p wb).rd .DMA_CHSTAT_END c = 0) ∧
    (wb ≠ .ok → s.rd .DMA_CHNDESC_COUNT c ≠ 0 → (s.burstCount c bytes p wb).rd .DMA_CHSTAT_STATE c = 3 ∧
      (s.burstCount c bytes p wb).rd .DMA_CHSTAT_ERR c = 2 ∧ s.raised (s.burstCount c bytes p wb) 256) := by
  rw [State.burstCount_eq, if_neg (by omega), if_neg (by simp [hc]), if_pos hn]
  have w := s.burstSet_local c bytes p ((s.dch c).behind bytes p)
  have done : ((s.burstFields c bytes p).setDch c ((s.dch c).behind bytes p)).rd .DMA_CHDONE_BYTES c =
    (s.rd .DMA_CHDONE_BYTES c + bytes.length) % 2 ^ 64 := (State.rd_setDch ..).trans (s.burstFields_reads c bytes p).2
  generalize (s.burstFields c bytes p).setDch c ((s.dch c).behind bytes p) = v at *
  have e := v.chainEnd_local c false wb
  have count : v.rd .DMA_CHNDESC_COUNT c = s.rd .DMA_CHNDESC_COUNT c := w.rd _ _ _ not_ofUnit
  refine ⟨(w.mono dmaKeys_of (hM := fun _ m => m.elim)).andThen e dmaKeys_mono (hM := fun _ _ => trivial),
    (e.rd _ _ _ not_dmaKeys).trans done, fun h => ?_, fun a => ?_, fun a n => ?_⟩
  · rw [v.chainEnd_hse, State.hse_congr (w.same .hses)]
  · rw [State.chainEnd_done false (by rwa [count])]
    obtain ⟨-, state, stop, -⟩ := (v.chainBack c false).chainFields_reads c false (v.dch c)
    exact ⟨state, stop⟩
  · obtain ⟨-, state, err, -, raised⟩ := State.chainEnd_halts false a (by rwa [count])
    exact ⟨state, err, raised.before (w.same .rst) (w.same .ev)⟩

/-- What a burst's count leaves alone, whatever ends with it. -/
theorem State.burstCount_local (s : State) (c : Nat) (bytes : List Byte) (p : Bool) (wb : WriteBack) :
    s.Local (s.burstCount c bytes p wb) (dmaKeys (.DMA_CHSTAT_ERR :: burstRegs ++ chainEndRegs) c) chainParts (fun _ => True) ∧
    (s.burstCount c bytes p wb).rd .DMA_CHDONE_BYTES c = (s.rd .DMA_CHDONE_BYTES c + bytes.length) % 2 ^ 64 ∧
    ∀ h, (s.burstCount c bytes p wb).hse h = { s.hse h with dmaCause := ((s.burstCount c bytes p wb).hse h).dmaCause } := by
  have calm {F : List Reg} (w : s.Local (s.burstCount c bytes p wb) (ofUnit F c) [.dma] (fun _ => False))
      (hF : F ⊆ .DMA_CHSTAT_ERR :: burstRegs ++ chainEndRegs)
      (done : (s.burstCount c bytes p wb).rd .DMA_CHDONE_BYTES c = (s.rd .DMA_CHDONE_BYTES c + bytes.length) % 2 ^ 64) :=
    And.intro (w.mono (dmaKeys_of hF) (P' := chainParts) (hM := fun _ m => m.elim) (M' := fun _ => True)) (And.intro done
      (fun h => show (s.burstCount c bytes p wb).hse h = { s.hse h with dmaCause := ((s.burstCount c bytes p wb).hse h).dmaCause } by
        rw [State.hse_congr (w.same .hses)]))
  by_cases h : s.rd .DMA_CHBURST_COUNT c + 1 < (s.dch c).nburst
  · obtain ⟨w, done, -⟩ := State.burstCount_more (bytes := bytes) (p := p) (wb := wb) h
    exact calm w (by decide) done
  by_cases hc : (s.dch c).cyclic = true
  · obtain ⟨w, done, -⟩ := State.burstCount_cyclic (bytes := bytes) (p := p) (wb := wb) (Nat.not_lt.1 h) hc
    exact calm w (by decide) done
  rw [Bool.not_eq_true] at hc
  by_cases hn : (s.dch c).next = 0
  · obtain ⟨w, done, hse, -⟩ := State.burstCount_last (bytes := bytes) (p := p) (wb := wb) (Nat.not_lt.1 h) hc hn
    exact ⟨w, done, hse⟩
  · obtain ⟨w, done, -⟩ := State.burstCount_next (bytes := bytes) (p := p) (wb := wb) (Nat.not_lt.1 h) hc hn
    exact calm w (by decide) done

/-! ### Bursts that go wrong -/

/-- A tag no block accepts, told with event 254. -/
def State.tagRefused (s : State) (tag : Nat) : State :=
  (s.draw 8).2.raise 254 [(1, (s.draw 8).1), (1, tagKind tag), (1, bitsN tag 34 5)]

theorem State.malformed_eq (s : State) (c a tag : Nat) : s.malformed c a tag = (s.tagRefused tag).busHalt c a false := rfl

theorem State.tagRefused_local (s : State) (tag : Nat) : s.Local (s.tagRefused tag) (fun _ => False) [.free, .ev] (fun _ => False) :=
  State.Local.raise (State.Local.draw (.refl ..))

theorem State.tagRefused_raised (s : State) (tag : Nat) : s.raised (s.tagRefused tag) 254 :=
  State.Local.raised (State.Local.draw (n := 8) (State.Local.refl s (fun _ => False) [.free] (fun _ => False)))

theorem State.tagRefused_raising (s : State) (tag : Nat) : s.Raising [254, 314] (s.tagRefused tag) :=
  State.Raising.raise (.of_eq (State.Local.same (State.Local.draw (n := 8) (State.Local.refl s (fun _ => False) [.free] (fun _ => False))) .ev))

/-- Such a tag halts the channel. -/
theorem State.malformed_halts (s : State) (c a tag : Nat) : (s.malformed c a tag).rd .DMA_CHSTAT_STATE c = 3 ∧
    (s.malformed c a tag).rd .DMA_CHSTAT_ERR c = 2 ∧ s.raised (s.malformed c a tag) 254 ∧ s.raised (s.malformed c a tag) 256 ∧
    s.memSame (s.malformed c a tag) := by
  have w := s.tagRefused_local tag
  have first := s.tagRefused_raised tag
  have g := s.tagRefused_raising tag
  rw [State.malformed_eq]
  generalize s.tagRefused tag = v at *
  have b := v.busHalt_halted c a false
  have after : v.Raising [256, 314] (v.busHalt c a false) := State.Raising.raise (.of_eq ((v.dmaHalt_halted c 2).frame.same .ev))
  exact ⟨b.state, b.err, first.after after, State.busHalt_raised g.mono (w.same .rst) _ _ _,
    fun y => (b.frame.memSame y).trans (w.memSame y)⟩

end Sys2Proof.Machine
end

section
/-! PROOFS. The bursts of each kind of line (R178, R201, R235, R317), and the settling theorem of the DMA engine. -/

set_option Elab.async false

namespace Sys2Proof.Machine

variable {s t u : State} {c line h : Nat} {wb : WriteBack} {ans : Answer}

/-! ### DMA_BURST_DONE -/

/-- A burst on a channel's line. -/
def State.burst (s : State) (c line : Nat) (ans : Answer) (wb : WriteBack) : State :=
  if line < 24 then s.burstWrite c line ans wb
  else if line < 48 then s.burstRead c (line - 24) ans wb
  else if line < 56 then s.burstLane c line ans wb
  else s.burstCopy c line ans wb

theorem exec_dmaBurstDone_eq (c : Fin 128) (ans : Answer) (wb : WriteBack) : exec (.dmaBurstDone c ans wb) s = .next (s.on
    (s.rd .DMA_CHSTAT_STATE c == 1 && !(s.dch c).fetch && s.bit .DMA_CTL_EN && !s.bit .DMA_CHSTAT_GUARDW c)
    (fun v => v.burst c (s.rd .DMA_CHCTL_LINE c) ans wb)) := rfl

theorem exec_dmaBurstDone (c : Fin 128) (ans : Answer) (wb : WriteBack) (hs : s.rd .DMA_CHSTAT_STATE c = 1) (hf : (s.dch c).fetch = false)
    (he : s.bit .DMA_CTL_EN = true) (hg : s.bit .DMA_CHSTAT_GUARDW c = false) :
    exec (.dmaBurstDone c ans wb) s = .next (s.burst c (s.rd .DMA_CHCTL_LINE c) ans wb) :=
  (exec_dmaBurstDone_eq c ans wb).trans (next_on (by simp [hs, hf, he, hg]))

/-! ### From memory to memory, and to a lane -/

/-- The next burst's data is flagged POISON. -/
def State.burstPoison (s : State) (c : Nat) : Bool := s.poisoned (s.dch c).cs (s.dch c).blen || tagPoison (s.dch c).tag

/-- A paced channel takes a request off its line. -/
def State.paced (s : State) (c line : Nat) : State :=
  if (s.dch c).pace then s.setLpend line (s.rd .DMA_LPEND_COUNT line - 1) else s

theorem State.paced_local (s : State) (c line : Nat) : s.Local (s.paced c line) (ofUnit [.DMA_LPEND_COUNT] line) [] (fun _ => False) :=
  .ite ((State.Local.refl ..).wr ofUnit_mk) (.refl ..)

/-- A burst copied, and not yet counted. -/
def State.burstCopied (s : State) (c line : Nat) : State :=
  ((s.paced c line).fabric (chanTag c (s.dch c).tag (s.burstPoison c))).busWrite (s.dch c).cd (s.mbs (s.dch c).cs (s.dch c).blen) (s.burstPoison c)

/-- A lane's input taken, and not yet counted. -/
def State.burstTaken (s : State) (c line : Nat) : State :=
  ((s.paced c line).laneTake (line - 48) (s.mbs (s.dch c).cs (s.dch c).blen) (s.burstPoison c)).fabric
    (chanTag c (s.dch c).tag (s.burstPoison c))

/-- The channel's request has come. -/
def State.asked (s : State) (c line : Nat) : Prop := (s.dch c).pace = false ∨ s.rd .DMA_LPEND_COUNT line ≠ 0

theorem State.asked_not_waits (ha : s.asked c line) : ¬ ((s.dch c).pace && s.rd .DMA_LPEND_COUNT line == 0) = true := by
  rcases ha with a | a <;> simp [a]

theorem State.burstCopy_goes (ha : s.asked c line) (ht : tagBad (s.dch c).tag = false)
    (hr : engineReach (s.dch c).cs (s.dch c).blen = true) (hw : engineReach (s.dch c).cd (s.dch c).blen = true) :
    s.burstCopy c line .ok wb = (s.burstCopied c line).burstCount c (s.mbs (s.dch c).cs (s.dch c).blen) (s.burstPoison c) wb := by
  unfold State.burstCopy
  dsimp only
  rw [if_neg (State.asked_not_waits ha), if_neg (by simp [ht]), if_neg (by simp [hr]), if_neg (by simp [hw]),
    State.sourceFailed_clean _ _ _ _ (by decide)]
  rfl

theorem State.burstLane_goes (ha : s.asked c line) (ht : tagBad (s.dch c).tag = false)
    (hr : engineReach (s.dch c).cs (s.dch c).blen = true) :
    s.burstLane c line .ok wb =
      ((s.burstTaken c line).burstCount c (s.mbs (s.dch c).cs (s.dch c).blen) (s.burstPoison c) wb).laneAsk (line - 48) := by
  unfold State.burstLane
  dsimp only
  rw [if_neg (State.asked_not_waits ha), if_neg (by simp [ht]), if_neg (by simp [hr]), State.sourceFailed_clean _ _ _ _ (by decide)]
  rfl

/-- A burst that waits for its request. -/
theorem State.burst_waits (hl : 48 ≤ line) (hp : (s.dch c).pace = true) (hn : s.rd .DMA_LPEND_COUNT line = 0) :
    s.burst c line ans wb = s := by
  have w : ((s.dch c).pace && s.rd .DMA_LPEND_COUNT line == 0) = true := by simp [hp, hn]
  unfold State.burst
  rw [if_neg (by omega), if_neg (by omega)]
  split
  · exact if_pos w
  · exact if_pos w

/-- A burst whose tag no block accepts. -/
theorem State.burst_tagBad (hl : 48 ≤ line) (ha : s.asked c line) (ht : tagBad (s.dch c).tag = true) :
    s.burst c line ans wb = s.malformed c (s.dch c).cs (s.dch c).tag := by
  unfold State.burst
  rw [if_neg (by omega), if_neg (by omega)]
  split
  · exact (if_neg (State.asked_not_waits ha)).trans (if_pos ht)
  · exact (if_neg (State.asked_not_waits ha)).trans (if_pos ht)

/-- A burst whose source is out of reach or answers with an error. -/
theorem State.burst_error (hl : 48 ≤ line) (ha : s.asked c line) (ht : tagBad (s.dch c).tag = false)
    (hr : ans = .error ∨ engineReach (s.dch c).cs (s.dch c).blen = false) :
    s.burst c line ans wb = s.busErr c (s.dch c).cs (s.dch c).blen (tagKind (s.dch c).tag) := by
  have r : ans = .error ∨ (!engineReach (s.dch c).cs (s.dch c).blen) = true := hr.imp id (fun r => by simp [r])
  unfold State.burst
  rw [if_neg (by omega), if_neg (by omega)]
  split
  · exact (if_neg (State.asked_not_waits ha)).trans ((if_neg (by simp [ht])).trans (if_pos r))
  · exact (if_neg (State.asked_not_waits ha)).trans ((if_neg (by simp [ht])).trans (if_pos r))

theorem State.burstCopied_local (s : State) (c line : Nat) : s.Local (s.burstCopied c line) (ofUnit [.DMA_LPEND_COUNT] line) [.out, .poison]
    (fun x => (s.dch c).cd ≤ x ∧ x < (s.dch c).cd + (s.dch c).blen) := by
  have w : s.Local (s.paced c line) (ofUnit [.DMA_LPEND_COUNT] line) [.out, .poison]
    (fun x => (s.dch c).cd ≤ x ∧ x < (s.dch c).cd + (s.dch c).blen) := (s.paced_local c line).mono (hM := fun _ m => m.elim)
  exact (State.Local.emit w).busWrite (fun x lo hi => ⟨lo, by rwa [State.mbs_length] at hi⟩)

theorem State.burstCopied_bytes (s : State) (c line : Nat) (hw : engineReach (s.dch c).cd (s.dch c).blen = true) :
    (s.burstCopied c line).mbs (s.dch c).cd (s.dch c).blen = s.mbs (s.dch c).cs (s.dch c).blen := by
  have e := State.mbs_busWrite_same (s := (s.paced c line).fabric (chanTag c (s.dch c).tag (s.burstPoison c))) (p := s.burstPoison c)
    (bs := s.mbs (s.dch c).cs (s.dch c).blen) (engineReach_low hw)
  rwa [State.mbs_length] at e

/-- A copy burst moves its bytes, and its count decides what follows. -/
theorem State.burst_copies (hl : 56 ≤ line) (ha : s.asked c line) (ht : tagBad (s.dch c).tag = false)
    (hr : engineReach (s.dch c).cs (s.dch c).blen = true) (hw : engineReach (s.dch c).cd (s.dch c).blen = true) :
    ∃ v, s.burst c line .ok wb = v.burstCount c (s.mbs (s.dch c).cs (s.dch c).blen) (s.burstPoison c) wb ∧ v.dch c = s.dch c ∧
      s.Local v (ofUnit [.DMA_LPEND_COUNT] line) [.out, .poison] (fun x => (s.dch c).cd ≤ x ∧ x < (s.dch c).cd + (s.dch c).blen) ∧
      v.mbs (s.dch c).cd (s.dch c).blen = s.mbs (s.dch c).cs (s.dch c).blen := by
  refine ⟨s.burstCopied c line, ?_, State.dch_congr ((s.burstCopied_local c line).same .dma) c, s.burstCopied_local c line,
    s.burstCopied_bytes c line hw⟩
  unfold State.burst
  rw [if_neg (by omega), if_neg (by omega), if_neg (by omega), State.burstCopy_goes ha ht hr hw]

theorem State.laneTake_local (s : State) (k : Nat) (bs : List Byte) (p : Bool) :
    s.Local (s.laneTake k bs p) (fun _ => False) [.frc] (fun _ => False) := .ite (State.Local.setFrc (.refl ..)) (.refl ..)

/-- A lane's burst is counted. -/
theorem State.burst_lane_done (lo : 48 ≤ line) (hi : line < 56) (ha : s.asked c line) (ht : tagBad (s.dch c).tag = false)
    (hr : engineReach (s.dch c).cs (s.dch c).blen = true) :
    (s.burst c line .ok wb).rd .DMA_CHDONE_BYTES c = (s.rd .DMA_CHDONE_BYTES c + (s.dch c).blen) % 2 ^ 64 := by
  have w : s.Local (s.burstTaken c line) (ofUnit [.DMA_LPEND_COUNT] line) [.frc, .out] (fun _ => False) :=
    State.Local.emit (((s.paced_local c line).mono).andThen (State.laneTake_local ..) (fun _ m => m.elim))
  unfold State.burst
  rw [if_neg (by omega), if_neg (by omega), if_pos hi, State.burstLane_goes ha ht hr, (State.laneAsk_local ..).rd _ _ _ id,
    (State.burstCount_local ..).2.1, w.rd _ _ _ not_ofUnit, State.mbs_length]

/-! ### Media lines -/

/-- Without room for a parity frame the outer code does nothing. -/
theorem State.oceServe_short (hs : ∀ g, s.oceActive h = some g → s.rd .GCTX_NDATA g ≠ 64) : s.oceServe h = s := by
  unfold State.oceServe
  split
  next g t rest ha hr => exact if_neg (fun m => hs g ha m.1)
  next => rfl

theorem State.oceHolds_short (ho : s.oceHolds h = false) {g : Nat} (ha : s.oceActive h = some g) : s.rd .GCTX_NDATA g ≠ 64 := by
  unfold State.oceHolds at ho
  rw [ha] at ho
  simp only [decide_eq_false_iff_not] at ho
  omega

/-- The channel's write request taken off its line, and its frame staged. -/
def State.burstStaged (s : State) (c h t : Nat) (rest : List Nat) : State :=
  let p := s.poisoned (s.dch c).cs 4128
  let v := (s.setHse h { s.hse h with wreq := rest }).setLpend h rest.length
  (v.stageFrame h (onFabric (decide (120 ≤ c)) t) (s.mbs (s.dch c).cs 4128) p).fabric (chanTag c t p)

theorem State.burstWrite_goes {x : Nat} {rest : List Nat} (hq : (s.hse h).wreq = x :: rest) (hn : (s.chan h).staged.length < 2)
    (ho : s.oceHolds h = false) (ht : tagBad x = false) (hr : engineReach (s.dch c).cs 4128 = true) :
    s.burstWrite c h .ok wb =
      ((s.burstStaged c h x rest).burstCount c (s.mbs (s.dch c).cs 4128) (s.poisoned (s.dch c).cs 4128) wb).oceServe h := by
  unfold State.burstWrite
  rw [hq]
  dsimp only
  rw [if_neg (by simp [ho]; omega), if_neg (by simp [ht]), if_neg (by simp [hr]), State.sourceFailed_clean _ _ _ _ (by decide)]
  rfl

theorem State.stageFrame_local (s : State) (h tag : Nat) (data : List Byte) (p : Bool) :
    s.Local (s.stageFrame h tag data p) (fun _ => False) [.chans] (fun _ => False) := State.Local.setChans (.refl ..)

theorem State.stageFrame_staged (s : State) (h tag : Nat) (data : List Byte) (p : Bool) :
    ((s.stageFrame h tag data p).chan h).staged.length = (s.chan h).staged.length + 1 := by
  unfold State.stageFrame
  rw [State.chan_setChan_same]
  simp

theorem State.burstStaged_local (s : State) (c h t : Nat) (rest : List Nat) :
    s.Local (s.burstStaged c h t rest) (ofUnit [.DMA_LPEND_COUNT] h) [.hses, .chans, .out] (fun _ => False) := by
  have w : s.Local ((s.setHse h { s.hse h with wreq := rest }).setLpend h rest.length) (ofUnit [.DMA_LPEND_COUNT] h) [.hses, .chans, .out]
    (fun _ => False) := State.Local.wr (State.Local.setHse (.refl ..)) ofUnit_mk
  exact State.Local.emit (w.andThen (State.stageFrame_local ..) (fun _ m => m.elim))

theorem State.burstStaged_reads (s : State) (c h t : Nat) (rest : List Nat) : ((s.burstStaged c h t rest).hse h).wreq = rest ∧
    ((s.burstStaged c h t rest).chan h).staged.length = (s.chan h).staged.length + 1 := by
  unfold State.burstStaged State.fabric
  dsimp only
  rw [State.hse_emit, State.chan_emit, State.stageFrame_staged, State.hse_congr ((State.stageFrame_local ..).same .hses)]
  unfold State.setLpend
  rw [State.hse_wr, State.hse_setHse_same, State.chan_wr, State.chan_setHse]
  exact ⟨rfl, rfl⟩

/-- A media write burst stages its frame. -/
theorem State.burst_stages {x : Nat} {rest : List Nat} (hl : h < 24) (hq : (s.hse h).wreq = x :: rest) (hn : (s.chan h).staged.length < 2)
    (ho : s.oceHolds h = false) (ht : tagBad x = false) (hr : engineReach (s.dch c).cs 4128 = true) :
    ((s.burst c h .ok wb).hse h).wreq = rest ∧ ((s.burst c h .ok wb).chan h).staged.length = (s.chan h).staged.length + 1 ∧
    (s.burst c h .ok wb).rd .DMA_CHDONE_BYTES c = (s.rd .DMA_CHDONE_BYTES c + 4128) % 2 ^ 64 := by
  have w := s.burstStaged_local c h x rest
  obtain ⟨wreq, staged⟩ := s.burstStaged_reads c h x rest
  unfold State.burst
  rw [if_pos hl, State.burstWrite_goes hq hn ho ht hr]
  generalize s.burstStaged c h x rest = v at *
  obtain ⟨b, done, hse⟩ := v.burstCount_local c (s.mbs (s.dch c).cs 4128) (s.poisoned (s.dch c).cs 4128) wb
  generalize v.burstCount c (s.mbs (s.dch c).cs 4128) (s.poisoned (s.dch c).cs 4128) wb = y at *
  have active : y.oceActive h = s.oceActive h := by
    rw [State.oceActive_local b h (fun r _ m => not_dmaKeys ((by decide : ∀ r ∈ [Reg.OCE_CTL_EN, .OCE_HACT_VALID, .OCE_HACT_CTX],
        r ∉ .DMA_CHSTAT_ERR :: burstRegs ++ chainEndRegs ∧ r ≠ .HSE_TPEND_PEND) r m)),
      State.oceActive_local w h (fun r _ m => not_ofUnit ((by decide : ∀ r ∈ [Reg.OCE_CTL_EN, .OCE_HACT_VALID, .OCE_HACT_CTX],
        r ∉ [Reg.DMA_LPEND_COUNT]) r m))]
  have idle : y.oceServe h = y := by
    refine State.oceServe_short (fun g a => ?_)
    rw [b.rd _ _ _ not_dmaKeys, w.rd _ _ _ not_ofUnit]
    exact State.oceHolds_short ho (active ▸ a)
  rw [idle]
  refine ⟨by rw [hse, wreq], ?_, ?_⟩
  · rw [State.chan_congr (b.same .chans), staged]
  · rw [done, w.rd _ _ _ not_ofUnit, State.mbs_length]

/-- The read request taken off its line and the last result stored. -/
def State.burstStored (s : State) (c h t : Nat) (rest : List Nat) : State :=
  let v := (s.setHse h { s.hse h with rreq := rest }).setLpend (24 + h) rest.length
  let v := (v.fabric (chanTag c t false)).busWrite (s.dch c).cd (s.chan h).res false
  if rest.isEmpty && (v.hse h).raisedR.isEmpty then v.latchOn h latDeliv else v

theorem State.burstRead_goes {x : Nat} {rest : List Nat} (hq : (s.hse h).rreq = x :: rest) (hn : (s.chan h).res ≠ [])
    (ht : tagBad (readTag x (s.chan h).res) = false) (hr : engineReach (s.dch c).cd (s.chan h).res.length = true) :
    s.burstRead c h .ok wb = (s.burstStored c h (readTag x (s.chan h).res) rest).burstCount c (s.chan h).res false wb := by
  unfold State.burstRead
  rw [hq]
  dsimp only
  rw [if_neg hn, if_neg (by simp [ht]), if_neg (by simp [hr])]
  rfl

theorem State.burstStored_local (s : State) (c h t : Nat) (rest : List Nat) :
    s.Local (s.burstStored c h t rest) (ofUnit [.DMA_LPEND_COUNT] (24 + h)) [.hses, .out, .poison]
      (fun x => (s.dch c).cd ≤ x ∧ x < (s.dch c).cd + (s.chan h).res.length) := by
  have w : s.Local ((s.setHse h { s.hse h with rreq := rest }).setLpend (24 + h) rest.length) (ofUnit [.DMA_LPEND_COUNT] (24 + h))
    [.hses, .out, .poison] (fun x => (s.dch c).cd ≤ x ∧ x < (s.dch c).cd + (s.chan h).res.length) :=
    State.Local.wr (State.Local.setHse (.refl ..)) ofUnit_mk
  have v := (State.Local.emit (o := .fabric (chanTag c t false)) w).busWrite (a := (s.dch c).cd) (bs := (s.chan h).res) (p := false)
    (fun x lo hi => ⟨lo, hi⟩)
  exact .ite v.setHse v

theorem State.burstStored_reads (s : State) (c h t : Nat) (rest : List Nat) (ha : 0x20000 ≤ (s.dch c).cd) :
    ((s.burstStored c h t rest).hse h).rreq = rest ∧
    (s.burstStored c h t rest).mbs (s.dch c).cd (s.chan h).res.length = (s.chan h).res ∧
    (rest = [] → (s.hse h).raisedR = [] → ((s.burstStored c h t rest).hse h).latch.testBit latDeliv = true) := by
  unfold State.burstStored
  dsimp only
  have hse : ((((s.setHse h { s.hse h with rreq := rest }).setLpend (24 + h) rest.length).fabric (chanTag c t false)).busWrite (s.dch c).cd
      (s.chan h).res false).hse h = { s.hse h with rreq := rest } := State.hse_setHse_same ..
  have mem := State.mbs_busWrite_same (s := ((s.setHse h { s.hse h with rreq := rest }).setLpend (24 + h) rest.length).fabric (chanTag c t false))
    (bs := (s.chan h).res) (p := false) ha
  generalize (((s.setHse h { s.hse h with rreq := rest }).setLpend (24 + h) rest.length).fabric (chanTag c t false)).busWrite (s.dch c).cd
      (s.chan h).res false = v at *
  rw [hse]
  split
  next d =>
    refine ⟨?_, (State.mbs_congr (fun _ _ _ => rfl)).trans mem, fun _ _ => ?_⟩
    · rw [State.latchOn, State.hse_setHse_same, hse]
    · rw [State.latchOn, State.hse_setHse_same, testBit_setBitN, if_pos rfl]
  next d => exact ⟨by rw [hse], mem, fun a b => absurd (by simp [a, b]) d⟩

/-- A media read burst stores the last result. -/
theorem State.burst_stores {x : Nat} {rest : List Nat} (lo : 24 ≤ line) (hi : line < 48) (hq : (s.hse (line - 24)).rreq = x :: rest)
    (hn : (s.chan (line - 24)).res ≠ []) (ht : tagBad (readTag x (s.chan (line - 24)).res) = false)
    (hr : engineReach (s.dch c).cd (s.chan (line - 24)).res.length = true) (hb : s.rd .DMA_CHBURST_COUNT c + 1 < (s.dch c).nburst) :
    ((s.burst c line .ok wb).hse (line - 24)).rreq = rest ∧
    (s.burst c line .ok wb).mbs (s.dch c).cd (s.chan (line - 24)).res.length = (s.chan (line - 24)).res ∧
    s.memBut (s.burst c line .ok wb) (s.dch c).cd (s.chan (line - 24)).res.length ∧
    (rest = [] → (s.hse (line - 24)).raisedR = [] → ((s.burst c line .ok wb).hse (line - 24)).latch.testBit latDeliv = true) := by
  unfold State.burst
  rw [if_neg (by omega), if_pos hi, State.burstRead_goes hq hn ht hr]
  generalize readTag x (s.chan (line - 24)).res = t at *
  have w := s.burstStored_local c (line - 24) t rest
  obtain ⟨rreq, mem, deliv⟩ := s.burstStored_reads c (line - 24) t rest (engineReach_low hr)
  generalize s.burstStored c (line - 24) t rest = v at *
  have count : v.rd .DMA_CHBURST_COUNT c = s.rd .DMA_CHBURST_COUNT c := w.rd _ _ _ not_ofUnit
  have dch : v.dch c = s.dch c := State.dch_congr (w.same .dma) c
  obtain ⟨b, -⟩ := State.burstCount_more (bytes := (s.chan (line - 24)).res) (p := false) (wb := wb) (by rwa [count, dch])
  rw [State.hse_congr (b.same .hses)]
  refine ⟨rreq, (State.mbs_congr (fun x _ _ => b.memSame x)).trans mem, fun x hx => (b.memSame x).trans (w.mem x (by omega)), deliv⟩

end Sys2Proof.Machine
end

section
/-! PROOFS. The clauses of the DMA engine's statement, and the settling theorem. -/

set_option Elab.async false

namespace Sys2Proof.Machine

variable {s : State}

/-- What a channel enable shows, by the line and the descriptor address. -/
theorem exec_dmaChannelEnable_shows (c : Fin 128) (hu : s.up 5 = true) (hh : s.hears selDma = true) (hs : s.rd .DMA_CHSTAT_STATE c ≠ 1) :
    ∃ t, exec (.dmaChannelEnable c) s = .next t ∧ s.memSame t ∧ s.keeps t [.dma, .ev, .hses] ∧
    s.keysBut t (fun k => k.i = c ∧ k.reg.info.blk = .DMA ∨ k.reg = .HSE_TPEND_PEND) ∧
    (s.lineTaken c (s.rd .DMA_CHCTL_LINE c) = true → t.rd .DMA_CHSTAT_STATE c = 0 ∧ t.rd .DMA_CHSTAT_ERR c = 4 ∧ s.raised t 258 ∧
      t.rd .DMA_CHDONE_BYTES c = s.rd .DMA_CHDONE_BYTES c ∧
      (s.rd .DMA_CHCTL_LINE c < 48 → t.rdBit .HSE_TPEND_PEND 9 (s.rd .DMA_CHCTL_LINE c % 24) = true)) ∧
    (s.lineTaken c (s.rd .DMA_CHCTL_LINE c) = false →
      t.rd .DMA_CHDONE_BYTES c = 0 ∧ t.rd .DMA_CHNDESC_COUNT c = 0 ∧ t.rd .DMA_CHCRC_CRC c = 0 ∧
      (s.rd .DMA_CHDESC_ADDR c % 64 = 0 → t.rd .DMA_CHSTAT_STATE c = 1 ∧ t.rd .DMA_CHCTL_EN c = 1 ∧ t.rd .DMA_CHSTAT_ERR c = 0 ∧
        (t.dch c).fetch = true ∧ (t.dch c).next = s.rd .DMA_CHDESC_ADDR c) ∧
      (s.rd .DMA_CHDESC_ADDR c % 64 ≠ 0 → t.rd .DMA_CHSTAT_STATE c = 3 ∧ t.rd .DMA_CHSTAT_ERR c = 3 ∧ t.rd .DMA_CHCTL_EN c = 0 ∧
        s.raised t 257)) := by
  obtain ⟨t, go, w, refused, starts, bad⟩ := exec_dmaChannelEnable c hu hh hs
  refine ⟨t, go, w.memSame, (w.mono).keeps, fun r i j n => w.keys r i j (fun m => n (m.imp (fun m => ⟨m.2, enableRegs_blk r m.1⟩) id)),
    fun taken => ?_, fun free => ?_⟩
  · rw [refused taken]
    obtain ⟨state, err, done⟩ := s.lineRefused_reads c
    refine ⟨?_, ?_, (s.lineRefused_local c).raised, ?_, fun lt => ?_⟩
    · rw [State.rd_raise, state]
    · rw [State.rd_raise, err]
    · rw [State.rd_raise, done]
    · rw [State.rdBit, State.rd_raise]
      exact State.lineTrap_pends lt
  · by_cases a : s.rd .DMA_CHDESC_ADDR c % 64 = 0
    · rw [starts free a]
      obtain ⟨state, en, zero, dch⟩ := s.chainBegun_reads c
      exact ⟨zero _ (by decide), zero _ (by decide), zero _ (by decide),
        fun _ => ⟨state, en, zero _ (by decide), by rw [dch], by rw [dch]⟩, fun n => absurd a n⟩
    · rw [bad free a]
      have h := s.badStart_halted c
      refine ⟨?_, ?_, ?_, fun n => absurd n a, fun _ => ⟨?_, ?_, ?_, (s.badStart_local c).raised⟩⟩
      · rw [State.rd_raise, s.badStart_zero c (by decide)]
      · rw [State.rd_raise, s.badStart_zero c (by decide)]
      · rw [State.rd_raise, s.badStart_zero c (by decide)]
      · rw [State.rd_raise, h.state]
      · rw [State.rd_raise, h.err]
      · rw [State.rd_raise, h.en]

/-- What a STOP shows, by its write-back. -/
theorem exec_dmaStop_shows (c : Fin 128) (wb : WriteBack) (hu : s.up 5 = true) (hh : s.hears selDma = true)
    (hs : s.rd .DMA_CHSTAT_STATE c = 1) :
    ∃ t, exec (.dmaStop c wb) s = .next t ∧ t.rd .DMA_CHCTL_EN c = 0 ∧ s.memBut t (s.rd .DMA_CHCUR_ADDR c + 48) 8 ∧
    (s.rd .DMA_CHNDESC_COUNT c = 0 → s.memSame t) ∧
    (wb = .ok ∨ s.rd .DMA_CHNDESC_COUNT c = 0 → t.rd .DMA_CHSTAT_STATE c = 2 ∧ t.rd .DMA_CHSTAT_END c = 1 ∧
      t.rd .DMA_CHCRC_CRC c = Nat.xor (s.dch c).crc 0xFFFFFFFF % 2 ^ 32 ∧
      s.keysBut t (fun k => k.reg ∈ ([.DMA_CHCRC_CRC, .DMA_CHSTAT_STATE, .DMA_CHSTAT_END, .DMA_CHSTAT_GUARDW, .DMA_CHCTL_EN] : List Reg) ∧
        k.i = c) ∧ s.keeps t [.dma, .poison, .out, .free]) ∧
    (wb ≠ .ok → s.rd .DMA_CHNDESC_COUNT c ≠ 0 → t.rd .DMA_CHSTAT_STATE c = 3 ∧ t.rd .DMA_CHSTAT_ERR c = 2 ∧ s.raised t 256 ∧
      t.rd .DMA_CHCRC_CRC c = s.rd .DMA_CHCRC_CRC c) := by
  have w := s.chainEnd_local c true wb
  refine ⟨_, exec_dmaStop c wb hu hh hs, s.chainEnd_en c true wb, fun x hx => w.mem x (fun m => ?_), fun z x => w.mem x (fun m => m.1 z),
    fun ok => ?_, fun bad used => ?_⟩
  · obtain ⟨-, lo, hi⟩ := m
    omega
  · rw [State.chainEnd_done true ok]
    obtain ⟨crc, state, stop, -⟩ := (s.chainBack c true).chainFields_reads c true (s.dch c)
    have d := s.chainDone_local c true
    exact ⟨state, stop, crc, d.keys, d.keeps⟩
  · obtain ⟨b, state, err, -, raised⟩ := State.chainEnd_halts true bad used
    exact ⟨state, err, raised, b.rd _ _ _ not_dmaKeys⟩

/-- Off their occasion the commands of the engine change nothing. -/
theorem exec_dma_off (c : Fin 128) (wb : WriteBack) (en : Bool) (l : BitVec 7) (hx : s.rst.step < 5 ∨ s.hears selDma = false) :
    ∀ i ∈ ([.dmaChannelEnable c, .dmaStop c wb, .dmaCtlEnable en, .dmaSwreq l] : List Instr), exec i s = .next s := by
  have off : (s.up 5 && s.hears selDma) = false := by
    rcases hx with e | e
    · simp [State.up_false e]
    · simp [e]
  intro i hi
  obtain rfl | rfl | rfl | rfl : i = .dmaChannelEnable c ∨ i = .dmaStop c wb ∨ i = .dmaCtlEnable en ∨ i = .dmaSwreq l := by simpa using hi
  · exact (exec_dmaChannelEnable_eq c).trans (next_off (by rw [off]; rfl))
  · exact (exec_dmaStop_eq c wb).trans (next_off (by rw [off]; rfl))
  · exact (exec_dmaCtlEnable_eq en).trans (next_off off)
  · exact (exec_dmaSwreq_eq l).trans (next_off (by rw [off]; rfl))

/-- What a fetch shows, by its answer and the descriptor. -/
theorem exec_descriptorFetchDone_shows (c : Fin 128) (ans : Answer) (hs : s.rd .DMA_CHSTAT_STATE c = 1) (hf : (s.dch c).fetch = true)
    (he : s.bit .DMA_CTL_EN = true) :
    ∃ t, exec (.descriptorFetchDone c ans) s = .next t ∧ s.memSame t ∧
    (s.rd .DMA_CHAIN_MAX_MAX ≤ s.rd .DMA_CHNDESC_COUNT c → t.rd .DMA_CHSTAT_STATE c = 3 ∧ t.rd .DMA_CHSTAT_ERR c = 1 ∧ s.raised t 255) ∧
    (s.rd .DMA_CHNDESC_COUNT c < s.rd .DMA_CHAIN_MAX_MAX →
      (ans ≠ .ok ∨ engineReach (s.dch c).next 64 = false ∨ s.poisoned (s.dch c).next 64 = true) →
      t.rd .DMA_CHSTAT_STATE c = 3 ∧ t.rd .DMA_CHSTAT_ERR c = 2 ∧ s.raised t 256) ∧
    (s.rd .DMA_CHNDESC_COUNT c < s.rd .DMA_CHAIN_MAX_MAX → ans = .ok → engineReach (s.dch c).next 64 = true →
      s.poisoned (s.dch c).next 64 = false → t = s.fetchDone c .ok) := by
  refine ⟨_, (exec_descriptorFetchDone_eq c ans).trans (next_on (by simp [hs, hf, he])), ?_⟩
  by_cases max : s.rd .DMA_CHAIN_MAX_MAX ≤ s.rd .DMA_CHNDESC_COUNT c
  · rw [if_pos max]
    have h := (s.dmaHalt_halted c 1)
    refine ⟨(h.mono (Q := haltParts)).raise.frame.memSame, fun _ => ⟨?_, ?_, h.frame.raised⟩, fun n => absurd max (by omega),
      fun n => absurd max (by omega)⟩
    · rw [State.rd_raise, h.state]
    · rw [State.rd_raise, h.err]
  · rw [if_neg max]
    by_cases bad : ans ≠ .ok ∨ engineReach (s.dch c).next 64 = false ∨ s.poisoned (s.dch c).next 64 = true
    · rw [s.fetchDone_bad c bad]
      have o := s.fetchOut_local c
      have f := (s.fetchOut c).sourceFailed_local (s.dch c).next 64 (11 * 2 ^ 39) ans
      have r := (s.fetchOut c).sourceFailed_raising (s.dch c).next 64 (11 * 2 ^ 39) ans
      generalize (s.fetchOut c).sourceFailed (s.dch c).next 64 (11 * 2 ^ 39) ans = v at *
      have h := v.busErr_halted c (s.dch c).next 64 11
      refine ⟨fun x => (h.frame.memSame x).trans ((f.memSame x).trans (o.memSame x)), fun n => absurd n max, fun _ _ => ⟨h.state, h.err, ?_⟩,
        fun _ a b d => ?_⟩
      · exact State.busErr_raised ((State.Raising.of_eq (o.same .ev)).trans r) ((f.same .rst).trans (o.same .rst)) _ _ _ _
      · rcases bad with n | n | n
        · exact absurd a n
        · exact absurd (b.symm.trans n) (by decide)
        · exact absurd (d.symm.trans n) (by decide)
    · obtain ⟨ok, reach, clean⟩ : ans = .ok ∧ engineReach (s.dch c).next 64 = true ∧ s.poisoned (s.dch c).next 64 = false := by
        simpa using bad
      subst ok
      exact ⟨(s.fetchDone_descriptor c hs reach clean).1, fun n => absurd n max, fun _ n => absurd n bad, fun _ _ _ _ => rfl⟩

/-- A copy burst, by its place in the pass and the chain. -/
theorem State.burst_copy_shows {t : State} {c line : Nat} {wb : WriteBack} (e : s.burst c line .ok wb = t) (hs : s.rd .DMA_CHSTAT_STATE c = 1)
    (hl : 56 ≤ line) (ha : s.asked c line) (ht : tagBad (s.dch c).tag = false) (hr : engineReach (s.dch c).cs (s.dch c).blen = true)
    (hw : engineReach (s.dch c).cd (s.dch c).blen = true) (hb : s.rd .DMA_CHBURST_COUNT c + 1 < 2 ^ 24) :
    let d := s.dch c
    t.rd .DMA_CHDONE_BYTES c = (s.rd .DMA_CHDONE_BYTES c + d.blen) % 2 ^ 64 ∧
    (s.rd .DMA_CHBURST_COUNT c + 1 < d.nburst → t.mbs d.cd d.blen = s.mbs d.cs d.blen ∧ s.memBut t d.cd d.blen ∧
      t.rd .DMA_CHBURST_COUNT c = s.rd .DMA_CHBURST_COUNT c + 1 ∧ (t.dch c).cs = d.cs + d.advance ∧ (t.dch c).cd = d.cd + d.advance ∧
      t.rd .DMA_CHSTAT_STATE c = 1) ∧
    (d.nburst ≤ s.rd .DMA_CHBURST_COUNT c + 1 → d.cyclic = true → (t.dch c).cs = d.src ∧ (t.dch c).cd = d.dst ∧
      t.rd .DMA_CHBURST_COUNT c = 0 ∧ t.mbs d.cd d.blen = s.mbs d.cs d.blen ∧ t.rd .DMA_CHSTAT_STATE c = 1) ∧
    (d.nburst ≤ s.rd .DMA_CHBURST_COUNT c + 1 → d.cyclic = false → d.next ≠ 0 → (t.dch c).fetch = true ∧
      t.mbs d.cd d.blen = s.mbs d.cs d.blen) ∧
    (d.nburst ≤ s.rd .DMA_CHBURST_COUNT c + 1 → d.cyclic = false → d.next = 0 →
      (wb = .ok ∨ s.rd .DMA_CHNDESC_COUNT c = 0 → t.rd .DMA_CHSTAT_STATE c = 2 ∧ t.rd .DMA_CHSTAT_END c = 0) ∧
      (wb ≠ .ok → s.rd .DMA_CHNDESC_COUNT c ≠ 0 → t.rd .DMA_CHSTAT_STATE c = 3 ∧ t.rd .DMA_CHSTAT_ERR c = 2 ∧ s.raised t 256)) := by
  obtain ⟨v, moved, dch, w, bytes⟩ := State.burst_copies (wb := wb) hl ha ht hr hw
  have len : (s.mbs (s.dch c).cs (s.dch c).blen).length = (s.dch c).blen := State.mbs_length ..
  have count : v.rd .DMA_CHBURST_COUNT c = s.rd .DMA_CHBURST_COUNT c := w.rd _ _ _ not_ofUnit
  have ndesc : v.rd .DMA_CHNDESC_COUNT c = s.rd .DMA_CHNDESC_COUNT c := w.rd _ _ _ not_ofUnit
  have state : v.rd .DMA_CHSTAT_STATE c = 1 := (w.rd _ _ _ not_ofUnit).trans hs
  have total : v.rd .DMA_CHDONE_BYTES c = s.rd .DMA_CHDONE_BYTES c := w.rd _ _ _ not_ofUnit
  rw [moved] at e
  dsimp only
  rw [← count, ← ndesc, ← total]
  rw [← count] at hb
  generalize s.mbs (s.dch c).cs (s.dch c).blen = data at *
  generalize s.burstPoison c = p at *
  generalize s.dch c = d at *
  subst dch
  rw [← e]
  have kept {K : RKey → Prop} {P : List Part} (b : v.Local (v.burstCount c data p wb) K P (fun _ => False)) :
      (v.burstCount c data p wb).mbs (v.dch c).cd (v.dch c).blen = data := (State.mbs_congr (fun x _ _ => b.memSame x)).trans bytes
  refine ⟨len ▸ (v.burstCount_local c data p wb).2.1, fun m => ?_, fun m cyc => ?_, fun m cyc next => ?_, fun m cyc next => ?_⟩
  · obtain ⟨b, -, burst, cs, cd⟩ := State.burstCount_more (bytes := data) (p := p) (wb := wb) m
    exact ⟨kept b, fun x hx => (b.memSame x).trans (w.mem x (by omega)), burst.trans (Nat.mod_eq_of_lt hb), cs, cd,
      (b.rd _ _ _ not_ofUnit).trans state⟩
  · obtain ⟨b, -, burst, cs, cd⟩ := State.burstCount_cyclic (bytes := data) (p := p) (wb := wb) m cyc
    exact ⟨cs, cd, burst, kept b, (b.rd _ _ _ not_ofUnit).trans state⟩
  · obtain ⟨b, -, fetch⟩ := State.burstCount_next (bytes := data) (p := p) (wb := wb) m cyc next
    exact ⟨fetch, kept b⟩
  · obtain ⟨-, -, -, done, lost⟩ := State.burstCount_last (bytes := data) (p := p) (wb := wb) m cyc next
    refine ⟨done, fun a n => ?_⟩
    obtain ⟨three, err, raised⟩ := lost a n
    exact ⟨three, err, raised.before (w.same .rst) (w.same .ev)⟩

/-- What a burst that cannot be made shows on a line of memory or of a lane. -/
theorem State.burst_wrong_shows (c : Nat) {line : Nat} (ans : Answer) (wb : WriteBack) (hl : 48 ≤ line) (ha : s.asked c line) :
    (tagBad (s.dch c).tag = true → (s.burst c line ans wb).rd .DMA_CHSTAT_STATE c = 3 ∧ (s.burst c line ans wb).rd .DMA_CHSTAT_ERR c = 2 ∧
      s.raised (s.burst c line ans wb) 254 ∧ s.raised (s.burst c line ans wb) 256 ∧ s.memSame (s.burst c line ans wb)) ∧
    (tagBad (s.dch c).tag = false → (ans = .error ∨ engineReach (s.dch c).cs (s.dch c).blen = false) →
      (s.burst c line ans wb).rd .DMA_CHSTAT_STATE c = 3 ∧ (s.burst c line ans wb).rd .DMA_CHSTAT_ERR c = 2 ∧
      s.raised (s.burst c line ans wb) 256 ∧ s.memSame (s.burst c line ans wb)) := by
  refine ⟨fun bad => ?_, fun good r => ?_⟩
  · rw [State.burst_tagBad hl ha bad]
    exact s.malformed_halts c (s.dch c).cs (s.dch c).tag
  · rw [State.burst_error hl ha good r]
    have h := s.busErr_halted c (s.dch c).cs (s.dch c).blen (tagKind (s.dch c).tag)
    exact ⟨h.state, h.err, State.busErr_raised (.refl ..) rfl _ _ _ _, h.frame.memSame⟩

end Sys2Proof.Machine

open Sys2Proof Sys2Proof.Machine

/-- Settles O40: the engine's commands, a descriptor's fetch, the bursts of each kind of line and the ways a channel halts, each from the
rule that says what it shows; off its occasion a row changes nothing. -/
theorem dmaChainsStartStepAndEnd : Obligations.DmaChainsStartStepAndEnd := by
  unfold Obligations.DmaChainsStartStepAndEnd
  refine ⟨fun c s hu hh hs => exec_dmaChannelEnable_shows c hu hh hs, fun c wb s hu hh hs => exec_dmaStop_shows c wb hu hh hs,
    fun en s hu hh => ?_, fun l s hu hh => exec_dmaSwreq l hu hh, fun c wb en l s hx => exec_dma_off c wb en l hx,
    fun c wb s => ⟨fun hs => ?_, fun hs => ?_⟩, fun l s hl hn => exec_dmaRequest_unit_counts l hl hn, fun h s => exec_dmaRequest_head h,
    fun c ans s hs hf he => ?_, fun c wb s => ?_, fun c s hs he h => ?_, fun c ans wb s hx => ⟨?_, ?_, ?_⟩, fun c s => ⟨fun hg ht => ?_, fun hx => ?_⟩⟩
  · refine ⟨_, (exec_dmaCtlEnable_eq en).trans (next_on (by simp [hu, hh])), ?_, (State.only.refl s [.DMA_CTL_EN] []).wr⟩
    rw [State.wrb, State.bit_wr_same]
    cases en <;> rfl
  · exact (exec_dmaChannelEnable_eq c).trans (next_off (by simp [hs]))
  · exact (exec_dmaStop_eq c wb).trans (next_off (by simp [hs]))
  · obtain ⟨t, go, mem, max, bad, good⟩ := exec_descriptorFetchDone_shows c ans hs hf he
    refine ⟨t, go, mem, max, bad, fun lt ok reach clean => ?_⟩
    rw [good lt ok reach clean]
    obtain ⟨-, ⟨stop, told, dch⟩, cur, ndesc, used, refused⟩ := s.fetchDone_descriptor c hs reach clean
    rw [dch]
    refine ⟨rfl, rfl, rfl, rfl, rfl, rfl, rfl, rfl, rfl, cur, ndesc, fun e => ?_, fun r e => refused r e⟩
    obtain ⟨state, burst⟩ := used e
    exact ⟨state, burst, rfl, rfl⟩
  · intro d line done hs hf he hg
    have go (ans : Answer) := exec_dmaBurstDone c ans wb hs hf he hg
    refine ⟨fun hl ha ht hr hw hb => ⟨_, go .ok, State.burst_copy_shows rfl hs hl ha ht hr hw hb⟩,
      fun lo hi ha ht hr => ⟨_, go .ok, State.burst_lane_done lo hi ha ht hr⟩,
      fun hl hp hn ans => (go ans).trans (congrArg Host.Outcome.next (State.burst_waits hl hp hn)),
      fun hl ha ans => ⟨_, go ans, State.burst_wrong_shows c ans wb hl ha⟩,
      fun x rest hl hq hn ho ht hr => ⟨_, go .ok, State.burst_stages hl hq hn ho ht hr⟩, fun x rest lo hi => ?_⟩
    exact fun hq hn ht hr hb => ⟨_, go .ok, State.burst_stores lo hi hq hn ht hr hb⟩
  · exact ⟨_, (exec_dmaBusTimeout_eq c).trans (next_on (by simp [hs, he])), s.busTimedOut_halts c h⟩
  · exact (exec_descriptorFetchDone_eq c ans).trans (next_off (by rcases hx with e | e <;> simp [e]))
  · exact (exec_dmaBurstDone_eq c ans wb).trans (next_off (by rcases hx with e | e <;> simp [e]))
  · exact (exec_dmaBusTimeout_eq c).trans (next_off (by rcases hx with e | e <;> simp [e]))
  · exact exec_guardWait1ms c hg ht
  · exact (exec_guardWait1ms_eq c).trans (next_off (by rcases hx with e | e <;> simp [e]))

end
